-- ==== Sys2Proof/Word.lean ====
section
/-! DEFINITION. The word types of the module and the fixed numbers of the manual. -/

namespace Sys2Proof

abbrev Byte := BitVec 8
abbrev W16 := BitVec 16
abbrev W32 := BitVec 32
abbrev W64 := BitVec 64

/-- Lanes L0 to L3 (R120). -/
abbrev LaneId := Fin 4

/-- Task slots 0 to 15 (R31). -/
abbrev TaskId := Fin 16

/-- A table: pairs of a key and a value, keys strictly rising. -/
abbrev Tbl (α : Type) := List (Nat × α)

end Sys2Proof
end

