-- ==== Sys2Proof/Types/Control.lean ====
section
/-! DEFINITION. Types of the control core: tags, forces, instances, programs, executions and lanes
(spec/01 to spec/05 of the manual). Plain data only. -/

namespace Sys2Proof

/-- Type codes of a tag, R43. -/
inductive ValType where
  | bool | int16 | int32 | int64 | uint16 | uint32 | uint64 | real32 | real64 | time
  deriving DecidableEq, Repr

/-- Where a tag's value comes from: ORIGIN of the flags field (R43). -/
inductive Origin where
  | computed | remote | channel
  deriving DecidableEq, Repr

/-- State of one stored copy of a tag: committed, pending under R48, or void under R488. -/
inductive CopyMark where
  | committed | pending | void
  deriving DecidableEq, Repr

/-- The fields of a 32-byte tag slot that change at run time ("Tag slots", R43), in one copy. -/
structure SlotCopy where
  value : W64
  srcTs : Nat
  quality : W16
  flags : W16
  age : Nat
  /-- The epoch whose step committed this copy. -/
  epoch : Nat
  mark : CopyMark
  deriving DecidableEq, Repr

/-- A tag as its program declares it: one entry of section 0x0001 TAGS of the container (R334). -/
structure TagDecl where
  type : ValType
  /-- The writer task; none for a tag that no task writes (0xFF). -/
  writer : Option TaskId
  origin : Origin
  published : Bool
  /-- The substitute is the last committed value (flag [1]); otherwise the declared value. -/
  substIsLast : Bool
  node : Nat
  point : Nat
  initial : W64
  deriving DecidableEq, Repr

/-- A tag of the image: its declaration, its two copies and what R45 and R46 count for it. -/
structure Tag where
  decl : TagDecl
  a : SlotCopy
  b : SlotCopy
  /-- Commits of the writer task since the last new barge for this tag (R45). -/
  staleCommits : Nat
  /-- Arrival of the last complete barge that carried the point (R46). -/
  lastArrival : Option Nat
  /-- Arrival of the latest barge or record that a commit has taken for the tag: a later one is new (R40, R45). -/
  lastTaken : Option Nat
  /-- First commit of the writer task since it last started or the tag was created (R46). -/
  firstCommit : Option Nat
  deriving DecidableEq, Repr

/-- An entry of the force table (R112, R116). -/
structure Force where
  tag : Nat
  type : ValType
  value : W64
  wouldBe : Option W64
  epochSet : Nat
  deriving DecidableEq, Repr

/-- Instance kinds, R72. -/
inductive InstKind where
  | ep | en | ton | tof | tp | ctu | ctd | ctud
  deriving DecidableEq, Repr

/-- TSTATE of the instance state byte, R72. -/
inductive TState where
  | idle | running | done
  deriving DecidableEq, Repr

/-- An instance record, R72; its number is its key. -/
structure Inst where
  kind : InstKind
  task : TaskId
  value : W64
  lastT : W64
  preset : W64
  isNew : Bool
  resume : Bool
  ts : TState
  q : Bool
  prev2 : Bool
  prev : Bool
  deriving DecidableEq, Repr

/-- The code of one task of a program version: frame size, words and routine entries (R88, R334). -/
structure TaskCode where
  task : TaskId
  /-- Local frame in bytes (R63). -/
  frame : Nat
  words : List W64
  /-- Entry indices of the routines other than the task routine. -/
  routines : List Nat
  /-- Foreign tags declared for the task's view (R37). -/
  view : List Nat
  deriving DecidableEq, Repr

/-- A program version (R99, R334). -/
structure Program where
  version : Nat
  instanceCount : Nat
  tags : Tbl TagDecl
  codes : List TaskCode
  /-- Offset in the container of each task's first instruction word. -/
  places : Tbl Nat
  /-- The container as loaded (R334); it lies in the CODE region (R359). -/
  image : List Byte
  deriving DecidableEq, Repr

/-- State of the staged version, R100 and R101. -/
inductive StageState where
  | loaded | verified
  deriving DecidableEq, Repr

structure Staged where
  prog : Program
  state : StageState
  /-- The partner holds the same version VERIFIED (R107). -/
  onPartner : Bool
  deriving DecidableEq, Repr

/-- A load in progress (PRG.LOAD, R333). -/
structure Load where
  version : Nat
  length : Nat
  bytes : List Byte
  journal : Nat
  deriving DecidableEq, Repr

/-- Phases of an accepted exchange, R104. -/
inductive ExchangePhase where
  | queued | staged
  deriving DecidableEq, Repr

structure Exchange where
  journal : Nat
  phase : ExchangePhase
  dropForces : Bool
  /-- The staging STATE copy: carried and new instances (R104). -/
  staging : Tbl Inst
  /-- Instant of staging completion. -/
  stagedAt : Nat
  /-- PRG_EXCHANGE_WINDOW at acceptance, in ms (R105). -/
  window : Nat
  deriving DecidableEq, Repr

/-- Causes of a lane halt, R124, R126, R98. -/
inductive HaltCause where
  | mismatch | selfFault | late
  deriving DecidableEq, Repr

/-- Lane roles, R120. -/
inductive LaneRole where
  | active | halted | resync | loading | joining | spare | spareTest | retired | bystander
  deriving DecidableEq, Repr

/-- What one delay FIFO entry addresses; it stands for the ADDRESS field. -/
inductive PostTarget where
  | tag (index : Nat)
  | inst (number : Nat)
  | source (code : Nat)
  | endMark
  deriving DecidableEq, Repr

/-- KIND of a delay FIFO entry. -/
inductive EntryKind where
  | write | sample | endMark
  deriving DecidableEq, Repr

/-- A delay FIFO entry; an instance record travels as one write (R75). -/
structure Entry where
  kind : EntryKind
  seq : Nat
  target : PostTarget
  mask : Byte
  data : W64
  record : Option Inst
  deriving DecidableEq, Repr

/-- Pending operation of a nesting entry, R69. -/
inductive NestOp where
  | and | or | xor
  deriving DecidableEq, Repr

structure NestEntry where
  acc : Bool
  fc : Bool
  op : NestOp
  deriving DecidableEq, Repr

/-- One lane's state within one execution (R65, R66), and its posts to the Weave (R122). -/
structure LaneCtx where
  lane : LaneId
  pc : Nat
  acc : Bool
  fc : Bool
  nest : List NestEntry
  ret : List Nat
  w : Vector W64 16
  /-- Local words written since the frame was cleared (R63, R64). -/
  frame : Tbl W64
  /-- Every entry the lane has posted, oldest first; position k is entry k (R123). -/
  posted : List Entry
  /-- Issue cycles and Basin operands spent, R95. -/
  cycles : Nat
  /-- AGREE instructions passed, R148. -/
  agrees : Nat
  /-- Waits in an AGREE of this source and destination (R92). -/
  waiting : Option (Nat × BitVec 4 × Fin 16)
  ended : Bool
  halted : Option HaltCause
  /-- The lane has stopped under R98 and posts nothing more. -/
  stalled : Bool
  /-- Since when a full delay FIFO keeps the lane's next instruction from being issued, and the entries that it posts
  (R122, R126). -/
  fullSince : Option (Nat × Nat)
  deriving DecidableEq, Repr

/-- The slot fields an execution sees for one tag of its view (R37, R44 to R46, R113). -/
structure ViewEntry where
  value : W64
  srcTs : Nat
  quality : W16
  flags : W16
  age : Nat
  /-- Forced input: the value that would have been committed (R113). -/
  wouldBe : Option W64
  deriving DecidableEq, Repr

/-- A barge in one buffer of a landing slot (R39). -/
structure LandedBarge where
  sequence : Nat
  session : Nat
  sampleTime : Nat
  /-- Instant at which the buffer became complete. -/
  arrival : Nat
  /-- Values of the barge's points: point, section type and bit pattern. -/
  points : List (Nat × Nat × W64)
  /-- Status bytes of points (R186). -/
  status : List (Nat × Byte)
  /-- The UDP payload as received (R150). -/
  payload : List Byte
  /-- Some task has committed it (R41). -/
  committed : Bool
  /-- The buffer of the four that holds it. -/
  buffer : Fin 4
  deriving DecidableEq, Repr

/-- The sample of an on-module input tag, latched at a tick (R39, R246, R280, R297). -/
structure ChannelSample where
  tag : Nat
  /-- None: the channel gives no value now, and the tag keeps the one it has. -/
  value : Option W64
  sampleTime : Nat
  quality : W16
  /-- A CAN map slot: the record's time, new once only. Every other channel gives a new value at each tick. -/
  arrival : Option Nat
  deriving DecidableEq, Repr

/-- A value entry of a manifest (R148). -/
structure ManifestValue where
  tag : Nat
  quality : W16
  flags : W16
  value : W64
  srcTs : Nat
  age : Nat
  deriving DecidableEq, Repr

/-- MANIFEST payload, R148. -/
structure Manifest where
  task : TaskId
  noBargeAny : Bool
  version : Nat
  tick : Nat
  baseEpoch : Nat
  nodes : List (Nat × Nat)
  values : List ManifestValue
  deriving DecidableEq, Repr

/-- Phases of an execution: latched at the tick, snapshot being committed, running, preempted, ended at the
TEND vote, and stepped while a third lane still trails (R126). -/
inductive ExecPhase where
  | latched | committing | running | preempted | ended | stepped
  deriving DecidableEq, Repr

/-- One execution of one task. -/
structure Exec where
  task : TaskId
  tick : Nat
  phase : ExecPhase
  /-- Latest completed epoch at the tick (R37). -/
  baseEpoch : Nat
  version : Nat
  /-- Words, routine entries and declared frame of the task's code (R88, R63). -/
  codeLen : Nat
  routines : List Nat
  frame : Nat
  /-- Parameters in force for this tick (R35, R53). -/
  deadline : Nat
  offset : Nat
  staleLimit : Nat
  margin : Nat
  trailLimit : Nat
  /-- Landing-slot buffers latched at the tick, by node ID (R39). -/
  slots : Tbl LandedBarge
  samples : List ChannelSample
  /-- For each remote input tag, the arrival of the last complete barge that carried its point, at the tick (R46). -/
  arrivals : Tbl Nat
  /-- Values committed for the execution: inputs and foreign tags (R37). -/
  view : Tbl ViewEntry
  lanes : List LaneCtx
  /-- Entries that have landed, in order: the majority entries of R126. -/
  landed : List Entry
  /-- Entry positions that have been compared with every lane taking part; later ones are pending (R122). -/
  compared : Nat
  /-- Instant of the first sample of the AGREE that the lanes wait in (R126). -/
  agreeSince : Option Nat
  /-- Values returned by AGREE, in order (R92). -/
  agreed : List (Nat × W64)
  /-- Instant of task end (R49). -/
  endAt : Option Nat
  /-- Standby: shadow, held (R152) and UNMATCHED (R151) executions. -/
  shadow : Bool
  held : Bool
  unmatched : Bool
  manifest : Option Manifest
  /-- Arrival of the manifest (R56). -/
  manifestAt : Option Nat
  /-- Agreement entries received: ordinal, source, value (R93). -/
  agreements : List (Nat × Nat × W64)
  /-- Ran uncompared: one lane alone (R136). -/
  uncompared : Bool
  preemptions : Nat
  deriving DecidableEq, Repr

/-- One lane of the module between executions (R120, R131, R421). -/
structure Lane where
  role : LaneRole
  bistFlag : Bool
  /-- Operating hours of the resynchronisations of the last 24 h (R131). -/
  resyncs : List Nat
  replacements : Nat
  haltCause : Option HaltCause
  /-- The execution in which the lane was halted, and the entry position there (R129, R130). -/
  haltedIn : Option (TaskId × Nat × Nat)
  /-- While LOADING: the lane that this one replaces (R131). -/
  replaces : Option LaneId
  /-- Codewords of CODE that the lane's instruction SRAM holds with an uncorrectable error (R98). -/
  badCode : List Nat
  /-- Due for replacement while no spare was available (R132). -/
  due : Bool
  /-- Clock gated in DOZE (R382). -/
  gated : Bool
  /-- Halted by a debug session (R455). -/
  debugHalt : Bool
  deriving DecidableEq, Repr

/-- The Weave between executions: injection rotation (R135) and fault state (R134, R136). -/
structure Weave where
  lanes : Vector Lane 4
  generation : Nat
  uncompared : Bool
  comparatorFault : Bool
  corrections : Nat
  /-- The lowest lane that the next test group may take, before the rotation begins again at the lowest (R135). -/
  injectLane : Nat
  injectBit : Nat
  /-- An uncorrectable FIFO error occurred since restart (R157). -/
  uncorrectable : Bool
  deriving DecidableEq, Repr

/-- One task slot: run state and the counters of HEALTH.GET (R34, R53, R332). -/
structure Task where
  running : Bool
  /-- The first tick may not come before this instant (R34). -/
  notBefore : Nat
  lastTick : Option Nat
  /-- Last release time queued (R53). -/
  lastRelease : Nat
  /-- The offset of the last tick, kept while a reduction waits (R53). -/
  offsetInForce : Nat
  lastScan : Nat
  minScan : Option Nat
  maxScan : Nat
  minSlack : Option Int
  shortSlack : Nat
  executions : Nat
  preemptions : Nat
  divergences : Nat
  /-- Standby: a full-form record has been requested (R147, R152). -/
  wantFull : Bool
  /-- Active: the standby asked for the next record of this task in full form (R153). -/
  sendFull : Bool
  /-- Tick of the task's last comparison where that comparison failed (R157). -/
  compareFailed : Option Nat
  /-- Tick of the failed comparison before the last one (R157). -/
  failedBefore : Option Nat
  /-- DUPLEX in the execution of the last failed comparison (R157). -/
  failedDuplex : Bool
  deriving DecidableEq, Repr

end Sys2Proof
end

