-- ==== Sys2Proof/Types/Net.lean ====
section
/-! DEFINITION. Types of the plant network: barges, nodes, ports, time and triggers
(spec/07 and spec/08 of the manual). Plain data only. -/

namespace Sys2Proof

/-- Kinds of a barge, R182. -/
inductive BargeKind where
  | input | output | safe | claim | status
  deriving DecidableEq, Repr

/-- A section of a barge, R185: type code, count, first point and data without padding. -/
structure BargeSection where
  type : Nat
  count : Nat
  first : Nat
  data : List Byte
  deriving DecidableEq, Repr

/-- A barge as its header and sections spell it, R182 and R183. -/
structure Barge where
  kind : BargeKind
  task : Nat
  broadcast : Bool
  auth : Bool
  keySlot : Nat
  unsynced : Bool
  restarted : Bool
  safeActive : Bool
  owner : Nat
  node : Nat
  claim : Nat
  epochLow : Nat
  release : Nat
  sequence : Nat
  obeyed : Nat
  sections : List BargeSection
  tag : List Byte
  deriving DecidableEq, Repr

/-- Discard counters of R189 and R199, per node or per port. -/
structure DiscardCounts where
  badLength : Nat
  badVersion : Nat
  badCrc : Nat
  badFormat : Nat
  notMine : Nat
  unknownNode : Nat
  authFail : Nat
  replay : Nat
  staleSession : Nat
  rateLimited : Nat
  deriving DecidableEq, Repr

/-- An output barge of the module not yet acknowledged (R28, R202). -/
structure Publication where
  task : TaskId
  epoch : Nat
  deriving DecidableEq, Repr

/-- A node of the node table: its landing slot and what the module keeps for it. -/
structure Node where
  /-- Complete buffers of the landing slot, oldest first, at most four (R39). -/
  landing : List LandedBarge
  session : Option Nat
  lastSeq : Nat
  restarted : Bool
  unsynced : Bool
  safeActive : Bool
  holdShort : Bool
  obeyedClaim : Nat
  /-- Unicast address learned from the latest valid INPUT barge (R180). -/
  address : Nat
  overwritten : Nat
  /-- Barges no longer the latest that an execution latched and has not committed yet: session and sequence (R41). -/
  superseded : List (Nat × Nat)
  counts : DiscardCounts
  accepted : Nat
  sent : Nat
  ackedEpoch : Nat
  /-- Sample time and obeyed claim of the last accepted barge (R161). -/
  lastSample : Nat
  /-- The same of the last barge that counts for claims (R161, R169). -/
  provenSample : Nat
  provenClaim : Nat
  lastArrival : Option Nat
  /-- Tokens of the bucket (R199). -/
  tokens : Nat
  /-- Sequence of the pair's stream to this node under the current claim (R188). -/
  seqOut : Nat
  /-- Barges of that stream under the current key epoch (R208). -/
  sentKey : Nat
  unacked : List Publication
  /-- The first CLAIM barge since the node reports a lower claim was sent at this instant (R165). -/
  claimSentAt : Option Nat
  lag : Nat
  deriving DecidableEq, Repr

/-- Authentication state, R205 to R210. -/
structure Auth where
  keyEpoch : Nat
  /-- Scheduled switch instant; 0 none (R208). -/
  switchAt : Nat
  /-- The previous key epoch is accepted until this instant (R208). -/
  overlapUntil : Option Nat
  /-- Barges that the broadcast and the two `STATUS` streams have sent under the current key epoch (R208). -/
  sentBroadcast : Nat
  sentStatus : Nat
  sentStatusZero : Nat
  /-- The overlap after the latest switch has ended: the epoch before is no longer accepted (R208). -/
  closed : Bool
  /-- A switch that would have reached 0xFFFF_FFFF was refused (R209). -/
  switchRefused : Bool
  deriving DecidableEq, Repr

/-- The barge engine: node table state, streams and the barges it has sent. -/
structure Net where
  nodes : Tbl Node
  auth : Auth
  broadcastSeq : Nat
  statusSeq : Nat
  /-- Sequence of the `STATUS` stream under claim zero (R188). -/
  statusZeroSeq : Nat
  /-- Streams to nodes outside the node table: sequence, and barges under the current key epoch (R188, R208). -/
  otherSeq : Tbl (Nat × Nat)
  /-- Last accepted sequence of the partner's streams: key and sequence (R188). -/
  partnerStreams : List (Nat × Nat × Nat × Nat)
  counts : Vector DiscardCounts 3
  fragmented : Nat
  engineFull : Nat
  /-- Barges that the engine has received and sent in this second of the module's time (R199). -/
  engineSecond : Nat
  engineCount : Nat
  /-- SAFE repeats still due (R201). -/
  safeRepeats : Nat
  /-- The claim of the `SAFE` barge that is repeated, and the instant of the latest one. -/
  safeClaim : Nat
  safeSentAt : Nat
  /-- Instant of the latest CLAIM broadcast (R165). -/
  claimSentAt : Option Nat
  /-- Last complete publication of the last mirror record applied (R28). -/
  lastComplete : Nat
  deriving DecidableEq, Repr

/-- What an Announce says of a grandmaster, in the order in which the best master clock algorithm compares it (R226). -/
structure ClockInfo where
  priority1 : Nat
  /-- Class, accuracy and variance, as one number. -/
  quality : Nat
  priority2 : Nat
  identity : W64
  stepsRemoved : Nat
  deriving DecidableEq, Repr

/-- How a PTP message travels (R226, R230): over Ethernet, over IPv4 with its UDP checksum, or over IPv6, with or without the trailing
bytes of IEEE 1588-2019 Annex E. -/
inductive PtpCarrier where
  | ethernet
  | ipv4 (checksum : Nat)
  | ipv6 (trailing : Bool) (checksumOk : Bool)
  deriving DecidableEq, Repr

/-- A PTP message on the wire: its type code (0 to 3 are event messages), domain, sequence ID, correction field in ns, the timestamp it
carries, and the grandmaster of an Announce. -/
structure PtpFrame where
  type : Nat
  domain : Nat
  sequenceId : Nat
  correction : Int
  stamp : Nat
  carrier : PtpCarrier
  announce : Option ClockInfo
  deriving DecidableEq, Repr

/-- A frame on a port: what the switch reads of it (R212, R213, R216, R230). -/
inductive FrameBody where
  /-- A UDP datagram: destination address and port, source address and payload; a barge where the port is VBP_UDP_PORT (R179). -/
  | barge (dest port source : Nat) (payload : List Byte)
  | ptp (m : PtpFrame)
  | other
  deriving DecidableEq, Repr

structure PortFrame where
  dst : Nat
  src : Nat
  multicast : Bool
  vlan : Option (Nat × Nat)
  doubleTagged : Bool
  fragment : Bool
  length : Nat
  fcsOk : Bool
  body : FrameBody
  deriving DecidableEq, Repr

/-- A frame waiting at an egress port. -/
structure QueuedFrame where
  cls : Nat
  frame : PortFrame
  queuedAt : Nat
  ingressAt : Option Nat
  ingress : Option (Fin 3)
  /-- Held by BARGE_SEND until this task's unit fires at or after this instant (R234). -/
  heldFor : Option (TaskId × Nat)
  /-- The module's own barge, dropped when the module is superseded or stops (R57, R168). -/
  own : Bool
  deriving DecidableEq, Repr

/-- A gate control list, R218. -/
structure GateList where
  length : Nat
  cycle : Nat
  base : Nat
  entries : List W32
  deriving DecidableEq, Repr

/-- A transmit-timestamp queue entry, R229. -/
structure TxStamp where
  msgType : Nat
  domain : Nat
  sequenceId : Nat
  stamp : W32
  /-- The module's time when it was taken, which extends it (R222), and since when it waits. -/
  takenAt : Nat
  waitsFrom : Nat
  deriving DecidableEq, Repr

/-- One plant or engineering port. -/
structure Port where
  linkUp : Bool
  framesIn : Nat
  framesOut : Nat
  fcsErrors : Nat
  oversize : Nat
  gateTooShort : Nat
  fwdBadFcs : Nat
  queue : List QueuedFrame
  /-- Frames whose transmission has started, oldest first. -/
  sent : List QueuedFrame
  /-- A frame is on the wire until this instant (R216). -/
  busyUntil : Nat
  gates : Byte
  gclIndex : Nat
  gclCycleStart : Nat
  gcl : GateList
  nextGcl : Option (GateList × Nat)
  /-- Instant at which the list in force took effect (R220). -/
  gclSince : Nat
  txts : List TxStamp
  txtsOvf : Bool
  txtsOverflows : Nat
  /-- MRP: the port is blocked by the ring (R215). -/
  mrpBlocked : Bool
  deriving DecidableEq, Repr

/-- The switch: learned addresses with port, VLAN and instant (R214), and the ring. -/
structure Switching where
  ports : Vector Port 3
  learned : List (Nat × Nat × Fin 3 × Nat)
  ringClosed : Bool
  /-- Copies delivered to the internal port, oldest first. -/
  delivered : List (Fin 3 × PortFrame)
  deriving DecidableEq, Repr

/-- Servo states, R222. -/
inductive ServoState where
  | freeRun | acquiring | locked | holdover | grandmaster
  deriving DecidableEq, Repr

/-- Trigger modes, R231. -/
inductive TrigMode where
  | once | periodic | compat
  deriving DecidableEq, Repr

/-- Trigger actions, R232. -/
inductive TrigAction where
  | foPulse | foSet | foClear | foToggle | dioSet | dioClear | aioStep | bargeSend
  deriving DecidableEq, Repr

/-- An armed trigger unit. -/
structure TrigSetup where
  mode : TrigMode
  action : TrigAction
  channel : Nat
  compatTarget : W32
  target : Nat
  period : Nat
  argument : W64
  armedAt : Nat
  deriving DecidableEq, Repr

structure Trigger where
  setup : Option TrigSetup
  armed : Bool
  late : Bool
  firings : Nat
  suppressed : Nat
  delayed : Nat
  /-- Instant of the latest firing (R235). -/
  firedAt : Option Nat
  deriving DecidableEq, Repr

/-- Capture unit n, R236. -/
structure Capture where
  stamp : W32
  /-- Instant of the latest edge, for R222. -/
  takenAt : Nat
  rising : Bool
  count : W32
  deriving DecidableEq, Repr

/-- The time unit and its servo (R221 to R229). -/
structure TimeUnit where
  count : W32
  era : W32
  servo : ServoState
  /-- Instant of entry to LOCKED or GRANDMASTER, for R240. -/
  lockedSince : Option Nat
  /-- Consecutive Sync intervals with the offset under 100 ns (R222). -/
  goodSyncs : Nat
  masterSelected : Bool
  /-- The selected grandmaster as its latest Announce gave it, and the port toward it (R226). -/
  master : Option ClockInfo
  masterPort : Option (Fin 3)
  /-- The best master clock algorithm has selected the module (R222). -/
  selfSelected : Bool
  masterLostAt : Option Nat
  offset : Int
  pathDelay : Int
  freqPpb : Int
  offsetLarge : Bool
  slewing : Bool
  eraSet : Bool
  slowPort : Bool
  ppsLost : Bool
  stepsRemoved : Nat
  gmIdentity : W64
  tsExpired : Nat
  lastPps : Option Nat
  /-- A committed TIME_GM_TAI_SECONDS not yet applied (R225). -/
  pendingTai : Option Nat
  everSynced : Bool
  ptpSeq : Nat
  abandoned : Nat
  /-- Consecutive exchanges abandoned for want of a timestamp (R229). -/
  abandonedRun : Nat
  ptpSent : List (Fin 3 × Nat × Nat)
  /-- Receive timestamp of the latest Sync, by sequence ID, and t2 − t1 of the latest complete pair. -/
  syncRx : Option (Nat × Nat)
  masterToSlave : Int
  /-- Origin and correction of the latest Sync of the master, and its receive timestamp, for the relay (R227). -/
  syncOrigin : Option (Nat × Int × Nat)
  /-- Per port: transmit timestamp of the Delay_Req or Pdelay_Req in progress, by sequence ID. -/
  delayTx : Vector (Option (Nat × Nat)) 3
  /-- Per port: Pdelay_Resp received: sequence ID, t2 and t4. -/
  pdelayRx : Vector (Option (Nat × Nat × Nat)) 3
  /-- Measured delay of each port's link (R226, R230). -/
  linkDelay : Vector Int 3
  partnerTimeFlags : W32
  triggers : Vector Trigger 32
  captures : Vector Capture 4
  deriving DecidableEq, Repr

end Sys2Proof
end

