-- ==== Sys2Proof/Types/Field.lean ====
section
/-! DEFINITION. Types of the field zone: digital channels, fast channels, current loops, the field-side monitor
and the isolation link (spec/09 and spec/10 of the manual), and of the CAN channels (spec/11). Plain data only. -/

namespace Sys2Proof

/-- Monitor states, R259. -/
inductive MonState where
  | unpowered | start | run | silent
  deriving DecidableEq, Repr

/-- Output diagnostics of R250 that pass a filter. -/
inductive DioDiag where
  | externalDrive | openOrBackfed | overcurrent | partnerDrive
  deriving DecidableEq, Repr

/-- A DIO channel as the monitor holds it (R245 to R252, R256 to R259). -/
structure Dio where
  comparator : Bool
  /-- Instant at which the comparator took its present level. -/
  comparatorSince : Nat
  debounced : Bool
  /-- Pad above 5 V, load current below 2 mA, switch in current limit: conditions and their starts (R250). -/
  padHigh : Bool
  padSince : Nat
  lowCurrent : Bool
  lowCurrentSince : Nat
  limiting : Bool
  limitingSince : Nat
  commanded : Bool
  driving : Bool
  safeApplied : Bool
  yielded : Bool
  latchedOff : Bool
  retries : Nat
  /-- Trips since the retry count was reset (R248). -/
  trips : Nat
  trippedAt : Option Nat
  lastTrip : Option Nat
  /-- Last value applied while the module held the claim (R256). -/
  held : Option Bool
  /-- A deferred break of OUT_PARALLEL: the instant of the yield (R258). -/
  breakFrom : Option Nat
  externalDrive : Bool
  openOrBackfed : Bool
  overcurrent : Bool
  thermal : Bool
  partnerDrive : Bool
  externalSeen : Bool
  openSeen : Bool
  overcurrentSeen : Bool
  thermalSeen : Bool
  lateField : Bool
  deriving DecidableEq, Repr

/-- A trim set of an AIO channel (R282): reference readings and raw ADC readings of two points, in nA or µV. -/
structure TrimSet where
  ref1 : Int
  raw1 : Int
  ref2 : Int
  raw2 : Int
  deriving DecidableEq, Repr

/-- An AIO channel as the monitor holds it (R266 to R288). Currents in nA, voltages in µV; tag values as REAL64. -/
structure Aio where
  /-- The value driven after R269, as REAL64 bits; none while the channel is open. -/
  driven : Option W64
  held : Option W64
  readback : Int
  padMicroV : Int
  supplyMicroV : Int
  /-- A lower supply target and since when it has held (R272). -/
  lowerTarget : Option (Int × Nat)
  /-- Filtered reading of an input mode, as REAL64 bits, and the conversion time of its last sample. -/
  reading : W64
  convertedAt : Nat
  /-- Latest raw ADC reading before trim, in nA or µV (R283). -/
  raw : Int
  badValues : Nat
  safeApplied : Bool
  yielded : Bool
  handoverAt : Option Nat
  mismatch : Bool
  disagree : Nat
  agree : Nat
  changedAt : Nat
  /-- Headroom at or above 1.0 V, and since when. -/
  headroomOk : Bool
  headroomSince : Nat
  compliance : Bool
  alarmNotReached : Bool
  thermal : Bool
  trippedAt : Option Nat
  overrange : Bool
  mismatchSeen : Bool
  complianceSeen : Bool
  thermalSeen : Bool
  overrangeSeen : Bool
  lateField : Bool
  factory : TrimSet
  user : Option TrimSet
  deriving DecidableEq, Repr

/-- A trim sequence in progress, R283. -/
structure TrimSeq where
  channel : Fin 8
  journal : Nat
  step : Nat
  stepAt : Nat
  ref1 : Int
  raw1 : Int
  ref2 : Int
  raw2 : Int
  deriving DecidableEq, Repr

/-- An FI channel (R262). -/
structure Fi where
  level : Bool
  failsafe : Bool
  failsafeSeen : Bool
  deriving DecidableEq, Repr

/-- An FO channel (R263). -/
structure Fo where
  level : Bool
  short : Bool
  shortSeen : Bool
  safeApplied : Bool
  yielded : Bool
  held : Option Bool
  /-- A pulse ends at this instant (FO_PULSE). -/
  pulseEnd : Option Nat
  deriving DecidableEq, Repr

/-- An update frame for the monitor: release instant that its strobe marks, and the values (R253). -/
structure FieldUpdate where
  strobeAt : Nat
  task : TaskId
  claim : Nat
  dio : List (Fin 16 × Bool)
  aio : List (Fin 8 × W64)
  deriving DecidableEq, Repr

/-- An FO release of a task, taken at its instant from the time unit (R253). -/
structure FoRelease where
  atTime : Nat
  channel : Fin 4
  level : Bool
  deriving DecidableEq, Repr

/-- A downlink frame, R259: an update, a SAFE command, or neither; configuration frames start the monitor. -/
structure Downlink where
  update : Option FieldUpdate
  safe : Bool
  config : Bool
  deriving DecidableEq, Repr

/-- Live output diagnostics of a DIO channel (R250). -/
structure DioLive where
  externalDrive : Bool
  openOrBackfed : Bool
  overcurrent : Bool
  thermal : Bool
  partnerDrive : Bool
  deriving DecidableEq, Repr

/-- An uplink frame as it left the monitor, R246 and R280. -/
structure Uplink where
  debounced : Vector Bool 16
  comparators : Vector Bool 16
  diags : Vector DioLive 16
  readings : Vector W64 8
  converted : Vector Nat 8
  monitor : MonState
  deriving DecidableEq, Repr

/-- The field zone of the module. -/
structure FieldZone where
  dio : Vector Dio 16
  aio : Vector Aio 8
  fi : Vector Fi 4
  fo : Vector Fo 4
  monitor : MonState
  /-- Updates held by the monitor for their strobes. -/
  heldUpdates : List FieldUpdate
  /-- Updates waiting for the next downlink frame, and a SAFE command waiting for it. -/
  toSend : List FieldUpdate
  safeToSend : Bool
  downlinks : List Downlink
  uplinks : List Uplink
  foReleases : List FoRelease
  /-- DIO and AIO trigger actions due at a strobe: instant, unit, set-up (R255). -/
  delayedActions : List (Nat × Fin 32 × TrigSetup)
  lastDownlink : Option Nat
  lastUplink : Option Nat
  /-- Latest uplink frame received and its sample time (R246). -/
  received : Uplink
  sampleTime : Nat
  fieldLost : Bool
  lastStrobe : Option Nat
  /-- A SAFE command is in force until the next update under a claim (R259). -/
  safeInForce : Bool
  /-- After a deadline-miss take-over channels stay safe until the first release (R257). -/
  safeUntilRelease : Bool
  /-- A take-over that named no instant: last valid heartbeat of the former active (R287). -/
  makeNotBefore : Nat
  trim : List TrimSeq
  deriving DecidableEq, Repr

/-- CAN channel modes. -/
inductive CanMode where
  | disabled | normal | listenOnly | autobaud | sleep
  deriving DecidableEq, Repr

/-- Fault confinement, R303. -/
inductive Confinement where
  | errorActive | errorPassive | busOff | notParticipating
  deriving DecidableEq, Repr

/-- A CAN frame on the bus: identifier word (R295), DLC, bit-rate switch, error state, data in bus order. -/
structure CanFrame where
  word : W32
  dlc : Nat
  brs : Bool
  esi : Bool
  data : List Byte
  deriving DecidableEq, Repr

/-- A frame record, R296. -/
structure CanRecord where
  time : Nat
  frame : CanFrame
  lostBefore : Bool
  filter : Nat
  deriving DecidableEq, Repr

/-- A receive queue with its shadow buffer, R296. -/
structure RxQueue where
  records : List CanRecord
  headOpen : Bool
  shadow : Option CanRecord
  overflows : Nat
  lost : Bool
  deriving DecidableEq, Repr

/-- A frame of the host transmit queue, with its batch's journal entry. -/
structure HostFrame where
  frame : CanFrame
  oneShot : Bool
  journal : Nat
  deriving DecidableEq, Repr

/-- A CAN.SEND batch that has not ended, R301. -/
structure CanBatch where
  journal : Nat
  acceptedAt : Nat
  sent : Nat
  deriving DecidableEq, Repr

/-- A transmit object at run time, R298. -/
structure TxObject where
  /-- The frame formed at a step, and its release instant. -/
  formed : Option (CanFrame × Nat)
  pending : Option CanFrame
  deriving DecidableEq, Repr

/-- Protocol errors of CAN_BUS_ERROR. -/
inductive CanError where
  | bitInData (word : W32) | bitOther | stuff | form | crc | ack (dominantSeen : Bool) | fdFrame
  deriving DecidableEq, Repr

/-- The wake condition of a channel, as its settings stood at its entry to SLEEP (R306, R308). -/
structure CanWakeSetup where
  mode : Nat
  id : Nat
  idMask : Nat
  dlc : Nat
  dataMask : Nat
  deriving DecidableEq, Repr

structure Can where
  mode : CanMode
  wake : CanWakeSetup
  beforeSleep : CanMode
  confinement : Confinement
  tec : Nat
  recCnt : Nat
  recovering : Bool
  rateFound : Bool
  dataUnconfirmed : Bool
  autobaudFailed : Bool
  candidate : Nat
  candidates : List (W32 × W32)
  passes : Nat
  goodFrames : Nat
  brsSeen : Bool
  lastComplete : Nat
  /-- Timing in use when ADOPT runs on a found candidate (R294). -/
  adopted : Option (W32 × W32)
  clash : Bool
  clashErrors : List (W32 × Nat)
  clashCount : Nat
  ackErrors : Nat
  lonely : Bool
  clashSeen : Bool
  lonelySeen : Bool
  busOffSeen : Bool
  passiveSeen : Bool
  rxOverflowSeen : Bool
  wakeSeen : Bool
  rxq : Vector RxQueue 2
  /-- Map slots: the current record (R297). -/
  slots : Vector (Option CanRecord) 64
  objects : Vector TxObject 32
  hostQueue : List HostFrame
  batches : List CanBatch
  txOverwritten : Nat
  suppressed : Nat
  received : Nat
  sentCount : Nat
  busOffEntries : Nat
  /-- Frames put on the bus, oldest first. -/
  sent : List CanFrame
  /-- Instant at which the channel last yielded, and the frame that it then offered, with its batch: already on the bus, it
  completes (R302). -/
  yieldedAt : Nat
  leaving : Option (CanFrame × Nat)
  deriving DecidableEq, Repr

end Sys2Proof
end

