-- ==== Sys2Proof/Types/Pair.lean ====
section
/-! DEFINITION. Types of the pair: tow-line frames, the mirror stream, claims, catch-up and role state
(spec/06 of the manual), and the module states of spec/12. Plain data only. -/

namespace Sys2Proof

/-- Module states, R326. -/
inductive ModState where
  | boot | selftest | held | ready | standby | active | stoppedFault | maintenance
  deriving DecidableEq, Repr

/-- Power states of the module (spec/14, "Power states"). -/
inductive PowerState where
  | full | doze | nap | dormant
  deriving DecidableEq, Repr

/-- Fault causes of STATE.GET, R332. -/
inductive FaultCause where
  | none | taskOverrun | laneDisagreement | comparatorFault | basinUncorrectable
  deriving DecidableEq, Repr

/-- LAST_SWITCH_CAUSE, R178. -/
inductive SwitchCause where
  | none | selfDeclared | towSilence | compareHealth | planned | proof | superseded | release
  deriving DecidableEq, Repr

/-- HEARTBEAT payload, R145. -/
structure Heartbeat where
  state : Nat
  power : Nat
  offer : Bool
  unmatched : Bool
  suspect : Bool
  bist : Bool
  weaveClean : Bool
  claim : Nat
  highestClaim : Nat
  node : Nat
  completed : Nat
  mirrored : Nat
  serial : W64
  deriving DecidableEq, Repr

/-- Reasons of a NACK, R147. -/
inductive Nack where
  | resend (sequence : Nat)
  | barge (node sequence : Nat)
  | fullForm (task : TaskId)
  deriving DecidableEq, Repr

/-- AGREEMENT payload, R148: ordinal, source code and value of each entry. -/
structure Agreement where
  task : TaskId
  tick : Nat
  entries : List (Nat × Nat × W64)
  deriving DecidableEq, Repr

/-- The committed slot fields carried by a SLOT entry (R154) or a TAG_SLOTS chunk (R150). -/
structure SlotImage where
  tag : Nat
  value : W64
  srcTs : Nat
  quality : W16
  flags : W16
  writer : Option TaskId
  type : ValType
  node : Nat
  point : Nat
  age : Nat
  deriving DecidableEq, Repr

/-- Journal entry states, R341. -/
inductive JnlState where
  | notHeld | queued | running | done | failed | partly | rolledBack
  deriving DecidableEq, Repr

/-- A journal entry, R341. The attachment is held with its entry. -/
structure JnlEntry where
  id : Nat
  command : Nat
  state : JnlState
  mirrored : Bool
  pairScope : Bool
  step : Nat
  steps : Nat
  lastStatus : Nat
  session : Nat
  sequence : Nat
  attachment : List Byte
  accepted : Nat
  ended : Nat
  epoch : Nat
  detail : Nat
  detail2 : Nat
  transport : Nat
  mailbox : Nat
  deriving DecidableEq, Repr

/-- Entries of a mirror record, R154. -/
inductive MirrorEntry where
  | inst (number : Nat) (record : Inst)
  | slot (image : SlotImage)
  | forceSet (force : Force)
  | forceClear (tag : Nat)
  | journal (entry : JnlEntry)
  | exchange (version oldVersion mask : Nat)
  | setting (param : Nat) (value : List Byte)
  | undefinedType (code : Nat)
  deriving DecidableEq, Repr

/-- A mirror record, R153. -/
structure MirrorRecord where
  epoch : Nat
  tick : Nat
  lastComplete : Nat
  claim : Nat
  task : Option TaskId
  fullForm : Bool
  version : Nat
  digest : W64
  entries : List MirrorEntry
  /-- Content bit HOST_CHANGES: the step applied host changes (R153). -/
  hostChanges : Bool
  /-- Invalid mark of the frame flags (R15, R144). -/
  invalid : Bool
  deriving DecidableEq, Repr

/-- HANDOVER payload, R149. -/
structure Handover where
  cause : SwitchCause
  safeSent : Bool
  claim : Nat
  lastCompleted : Nat
  lastRelease : Nat
  deriving DecidableEq, Repr

/-- HANDOVER_ACK payload, R149. -/
structure HandoverAck where
  newClaim : Nat
  appliedEpoch : Nat
  instants : List (TaskId × Nat)
  deriving DecidableEq, Repr

/-- CATCHUP chunks, R150; `poison` marks the 8-byte words of the data that were read poisoned. -/
inductive Chunk where
  | barge (node sequence : Nat) (payload : List Byte)
  | tagSlots (first : Nat) (slots : List SlotImage) (poison : List Nat)
  | state (offset : Nat) (insts : Tbl Inst) (poison : List Nat)
  | code (offset : Nat) (data : List Byte) (poison : List Nat)
  | forces (first : Nat) (entries : List Force)
  | journal (first : Nat) (entries : List JnlEntry)
  | settings (first : Nat) (entries : List (Nat × List Byte))
  | lostRanges (floor : Nat) (ranges : List (Nat × Nat))
  | ending (baseEpoch chunks crc : Nat)
  deriving DecidableEq, Repr

/-- Payloads of the tow line, R144. -/
inductive TowPayload where
  | heartbeat (h : Heartbeat)
  | manifest (m : Manifest)
  | agreement (a : Agreement)
  | mirror (r : MirrorRecord)
  | handover (h : Handover)
  | handoverAck (a : HandoverAck)
  | catchup (readEpoch : Nat) (c : Chunk)
  | nack (n : Nack)
  deriving DecidableEq, Repr

/-- What is handed to the tow line at once: the header fields of R144, the sequence of its first frame, the payload, and
the bytes of each frame that carries it. -/
structure TowFrame where
  owner : Nat
  format : Nat
  sequence : Nat
  payload : TowPayload
  wire : List (List Byte)
  deriving DecidableEq, Repr

/-- Serial lanes of the tow line, R143 and R146. -/
inductive TowLane where
  | carrying | spare | lost
  deriving DecidableEq, Repr

/-- Catch-up of a joining module, R141 and R150. -/
structure CatchUp where
  /-- Chunks received before END, with their read epochs. -/
  chunks : List (Nat × Chunk)
  /-- Mirror records queued until END, oldest first. -/
  queued : List MirrorRecord
  deriving DecidableEq, Repr

/-- What a planned switch or a proof waits for, R162 and R176. -/
inductive SwitchPhase where
  | waitPoint | waitDrain | handing
  deriving DecidableEq, Repr

structure Switch where
  journal : Nat
  phase : SwitchPhase
  requestedAt : Nat
  /-- Part of PAIR.PROOF, or of PAIR.RELEASE (R175). -/
  isProof : Bool
  isRelease : Bool
  deriving DecidableEq, Repr

/-- Progress of PAIR.PROOF on the module that runs it, R176: step 1 to 5. -/
structure Proof where
  journal : Nat
  step : Nat
  /-- This module held the role before the proof. -/
  origin : Bool
  since : Nat
  /-- PAIR_PROOF_DWELL at PAIR.PROOF, or at the proof's switch on the partner. -/
  dwell : Nat
  deriving DecidableEq, Repr

/-- An output barge of a shadow step that waits for comparison, R156. -/
structure ShadowBarge where
  task : TaskId
  tick : Nat
  node : Nat
  release : Nat
  sections : List Byte
  unmatched : Bool
  duplex : Bool
  deriving DecidableEq, Repr

/-- State of the pair in one module. -/
structure Pair where
  /-- Mirror-format version of the partner's last valid heartbeat (R138). -/
  partnerFormat : Nat
  /-- PAIR_FLAGS bits kept as state, R178. -/
  suspect : Bool
  towLineLost : Bool
  supersededFlag : Bool
  proofDue : Bool
  proofFailed : Bool
  paired : Bool
  ownerMismatch : Bool
  formatMismatch : Bool
  catchingUp : Bool
  lastCause : SwitchCause
  /-- Claims: own (0 none), highest seen (MRAM), R163 and R164. -/
  claim : Nat
  highestClaim : Nat
  /-- Last heartbeat of the partner and its arrival (R145, R160). -/
  partner : Option Heartbeat
  lastHeartbeat : Option Nat
  /-- Any heartbeat since release (R140). -/
  heardHeartbeat : Bool
  heardBarge : Bool
  releasedAt : Option Nat
  joinWaitOver : Bool
  silence : Bool
  /-- Start of the silence, R161. -/
  silenceStart : Nat
  /-- The claim that the partner's heartbeats last carried (R26, R160). -/
  activeClaim : Nat
  /-- Active: the partner is marked SUSPECT here, by a proof that it failed (R158, R177). -/
  partnerSuspect : Bool
  /-- Completed epochs count as mirrored at once: no partner in `STANDBY`, or R161 is met. -/
  mirrorAlone : Bool
  checkWindow : Bool
  /-- OFFER and its journal entry (R139). -/
  offer : Option Nat
  offerAt : Nat
  heardOffer : Bool
  /-- A take-over from NAP that waits for the module to be ready: its cause, whether it follows a deadline miss, and
  the instant of R287 (R172). -/
  cold : Option (SwitchCause × Bool × Nat)
  tie : Bool
  deriving DecidableEq, Repr

/-- Streams of the tow line and of the mirror in one module. -/
structure Tow where
  up : Bool
  lanes : Vector TowLane 3
  degraded : Bool
  spareInUse : Bool
  seqOut : Nat
  seqIn : Nat
  crcErrors : Nat
  /-- Frames handed to the tow line, oldest first. -/
  sent : List TowFrame
  /-- Mirror records not yet reported applied, oldest first, at most 16 MiB (R147). -/
  retained : List TowFrame
  catchup : Option CatchUp
  /-- Active side: a catch-up of the partner runs (R141). -/
  serving : Bool
  /-- Records received that wait for their shadow step, in rising epoch. -/
  records : List MirrorRecord
  shadowBarges : List ShadowBarge
  /-- Active barges received and awaiting their shadow step: task, node, release, sections. -/
  activeBarges : List ShadowBarge
  /-- HANDOVER sent and not yet acknowledged: instant and cause; the module takes no further step (R159). -/
  handoverSent : Option (Nat × SwitchCause)
  /-- HANDOVER received while records wait for their shadow steps (R159). -/
  handoverSeen : Option Handover
  /-- Arrival of that HANDOVER (R159). -/
  handoverAt : Nat
  switch : Option Switch
  proof : Option Proof
  switches : Nat
  mismatches : Nat
  compareMissing : Nat
  nodeClaimLag : Nat
  /-- Operating hours at the last passed proof (R177). -/
  proofHours : Nat
  /-- Full-form bytes of the last 10 s of steps (R172). -/
  fullFormBytes : List (Nat × Nat)
  deriving DecidableEq, Repr

end Sys2Proof
end

