-- ==== Sys2Proof/Types/Plant.lean ====
section
/-! DEFINITION. Types of the module's own plant: Basin, settings store, self-test, power and feeds, references,
events, wear ledger, firmware slots and security (spec/01, spec/13 to spec/19 of the manual). Plain data only. -/

namespace Sys2Proof

/-- Bytes by address, addresses strictly rising; where an unlisted address reads as zero, no entry is zero. -/
abbrev Memory := List (Nat × BitVec 8)

/-- States of a physical section, R420. -/
inductive SectionState where
  | inUse | spare | copyFrom | copyTo | retired
  deriving DecidableEq, Repr

/-- What the ledger keeps for a physical section (R420, R422). -/
structure Section where
  state : SectionState
  bistFlag : Bool
  triples : Nat
  singles : Nat
  doubles : Nat
  /-- Operating hours of the corrections inside the window. -/
  singleHours : List Nat
  doubleHours : List Nat
  changeHours : Nat
  errorHours : Nat
  /-- BASIN_NO_SPARE recorded; not checked again until a restart (R423). -/
  noSpare : Bool
  /-- Latest BASIN_SPARE result is FAIL or INCOMPLETE (R422). -/
  spareBad : Bool
  deriving DecidableEq, Repr

/-- A migration in progress, R422. -/
structure Migration where
  logical : Nat
  source : Nat
  target : Nat
  cause : Nat
  /-- The copy is complete and the map change waits for a step. -/
  copied : Bool
  deriving DecidableEq, Repr

structure Basin where
  /-- Bytes outside the structured regions IMG and STATE. -/
  mem : Memory
  /-- Poisoned codewords, by address divided by 8, rising (R14, R15). -/
  poison : List Nat
  /-- Logical sections that do not map to the physical section of the same number (R12). -/
  map : Tbl Nat
  /-- Physical sections that differ from their factory record. -/
  sections : Tbl Section
  migration : Option Migration
  /-- Sections whose migration waits: logical section and cause. -/
  waiting : List (Nat × Nat)
  uncorrectable : Bool
  scrubbed : Nat
  /-- Poisoned codewords of physical sections that serve no logical one, by codeword of the memory, rising (R16). -/
  idlePoison : List Nat
  deriving DecidableEq, Repr

/-- One settings copy of the MRAM, R353; entries are the values that differ from their defaults. -/
structure SettingsCopy where
  generation : Nat
  schema : Nat
  epoch : Nat
  entries : Tbl (List Byte)
  valid : Bool
  deriving DecidableEq, Repr

/-- Phases of a commit, R351 and R352. -/
inductive CommitPhase where
  | waiting | checked | firstCopy | applied | mirrored
  deriving DecidableEq, Repr

structure Commit where
  journal : Nat
  session : Nat
  entries : Tbl (List Byte)
  phase : CommitPhase
  pairScope : Bool
  atEpoch : Option Nat
  acceptedAt : Nat
  /-- Committed values as they stood when the first copy was written, for a switch-over that takes the commit back. -/
  before : Tbl (List Byte)
  /-- Epoch for the copies' headers: 0 where no task's step applied the commit (R353). -/
  copyEpoch : Nat
  deriving DecidableEq, Repr

structure Settings where
  /-- Committed values that differ from their defaults. -/
  committed : Tbl (List Byte)
  /-- Values in force of classes At restart and At power-up, as of the last such event (R347). -/
  inForce : Tbl (List Byte)
  copyA : SettingsCopy
  copyB : SettingsCopy
  /-- Copy B is the copy in use (R354). -/
  usingB : Bool
  unreadable : Bool
  /-- Staged sets by session (R350). -/
  staged : Tbl (Tbl (List Byte))
  commits : List Commit
  deriving DecidableEq, Repr

/-- Results of a self-test run, R371. -/
inductive BistResult where
  | notRun | pass | fail | incomplete
  deriving DecidableEq, Repr

structure BistBlock where
  result : BistResult
  hours : Nat
  signature : W64
  flag : Bool
  /-- Running: journal entry (0 none) and whether in the background. -/
  running : Option (Nat × Bool)
  /-- Operating hours of the last background run, and the instant of an aborted run that waits for its retry. -/
  lastBackground : Nat
  retryFrom : Option Nat
  deriving DecidableEq, Repr

/-- A feed or field supply, R476. -/
structure Feed where
  inRange : Bool
  microV : Int
  deriving DecidableEq, Repr

/-- The towpath domain, feeds and hold-up (R364, R476 to R481). -/
structure Towpath where
  powered : Bool
  powerCycles : Nat
  hours : Nat
  seconds : Nat
  mramHours : Nat
  mramSeconds : Nat
  mramCycles : Nat
  feeds : Vector Feed 4
  charged : Bool
  weak : Bool
  measuredMicroF : Nat
  /-- The hold-up flush ran and the die is held in reset (R479). -/
  flushed : Bool
  /-- Journal and event counts saved by the flush. -/
  savedJournal : List JnlEntry
  strapFailHi : Bool
  strapDbgHold : Bool
  deriving DecidableEq, Repr

/-- References and the crystal, R391 to R396. -/
structure Refs where
  inUse : Fin 2
  failed : Vector Bool 2
  xtalFailed : Bool
  /-- Both references failed and the PLLs hold since this instant (R396). -/
  holdSince : Option Nat
  latchedLost : Bool
  deviationPpb : Vector Int 3
  switchesAway : Vector Nat 3
  failHours : Vector Nat 3
  deriving DecidableEq, Repr

/-- An event as stamped at detection, R407 and R410. -/
structure Event where
  cycles : Nat
  hours : Nat
  seconds : Nat
  code : Nat
  time : Nat
  source : Nat
  severity : Nat
  /-- The host-clock instant of its detection, by which simultaneous events are told (R410). -/
  instant : Nat
  holdup : Bool
  lostBefore : Bool
  data : List Byte
  deriving DecidableEq, Repr

/-- A repeat tail slot, R414. -/
structure RepeatTail where
  tailSeq : Nat
  record : Nat
  hours : Nat
  count : Nat
  deriving DecidableEq, Repr

structure Recorder where
  /-- EVENTS staging queue, oldest first (R410, R411). -/
  staging : List Event
  /-- Events discarded on a full queue and not yet reported (R411). -/
  discarded : Nat
  /-- Entries lost by the last hold-up flush or an unreadable block, reported after power-up (R412). -/
  lostAtFlush : Nat
  /-- Records by slot number: sequence and event (R409). -/
  slots : Tbl (Nat × Event)
  permanentUsed : Nat
  newestSlot : Option Nat
  lastSeq : Nat
  /-- The newest record was written since the latest restart (R413). -/
  newestSinceRestart : Bool
  tails : Vector (Option RepeatTail) 2
  deriving DecidableEq, Repr

/-- A replaced flash or MRAM block, R424. -/
structure BlockRecord where
  logical : Nat
  old : Nat
  new : Nat
  cause : Nat
  hours : Nat
  cycles : Nat
  erases : Nat
  deriving DecidableEq, Repr

structure LaneWear where
  resyncs : Nat
  fails : Nat
  resyncHours : Nat
  replaceHours : Nat
  lates : Nat
  selfFaults : Nat
  deriving DecidableEq, Repr

structure TowWear where
  swaps : Nat
  crcErrors : Nat
  alignLosses : Nat
  lossHours : Nat
  deriving DecidableEq, Repr

structure DoWear where
  trips : Nat
  latchOffs : Nat
  overcurrents : Nat
  tripHours : Nat
  deriving DecidableEq, Repr

structure AoWear where
  commits : Nat
  fromFactory1 : Int
  fromFactory2 : Int
  fromUser1 : Int
  fromUser2 : Int
  hours : Nat
  drift : Bool
  deriving DecidableEq, Repr

structure Wear where
  lanes : Vector LaneWear 4
  flash : List BlockRecord
  mram : List BlockRecord
  /-- Operating hours of the corrected reads of a block: its number, an MRAM block's above those of the flash (R424). -/
  corrections : Tbl (List Nat)
  tow : Vector TowWear 3
  dout : Vector DoWear 16
  aout : Vector AoWear 8
  sparesLow : Bool
  deriving DecidableEq, Repr

/-- Slot states, R430. -/
inductive SlotState where
  | empty | valid | active | building | built | trial | reverted | damaged
  deriving DecidableEq, Repr

/-- A firmware slot: state, the 256-byte header kept with it and the image bytes. -/
structure FwSlot where
  state : SlotState
  header : List Byte
  image : List Byte
  deriving DecidableEq, Repr

/-- The update lease, R436. -/
structure Lease where
  session : Nat
  transport : Nat
  lastCommand : Nat
  deriving DecidableEq, Repr

/-- The pair update procedure of R443 on the module that drives it. -/
structure PairUpdate where
  journal : Nat
  step : Nat
  activatedAt : Nat
  deriving DecidableEq, Repr

structure Update where
  slots : Vector FwSlot 2
  /-- Boot record: the slot to boot, the fallback, and whether the first is on trial. -/
  bootSlot : Fin 2
  fallback : Option (Fin 2)
  trialSince : Option Nat
  lease : Option Lease
  header : List Byte
  delta : List Byte
  /-- APPLY in progress: journal entry and step. -/
  applying : Option (Nat × Nat)
  rebuilt : Nat
  /-- The BUILDING slot's header and the bytes programmed before an interruption (R435). -/
  interrupted : Option (List Byte × Nat)
  lastStatus : Nat
  pairUpdate : Option PairUpdate
  deriving DecidableEq, Repr

/-- Lifecycle states, R449. -/
inductive Lifecycle where
  | blank | provisioned | deployed | returned
  deriving DecidableEq, Repr

/-- Debug levels, R455. -/
inductive DbgLevel where
  | closed | observe | invasive
  deriving DecidableEq, Repr

/-- An owner key slot, R444: the programmed hash, the revocation fuse and the two stored copies. -/
structure KeySlot where
  hash : Option (List Byte)
  revoked : Bool
  copy1 : List Byte
  copy2 : List Byte
  deriving DecidableEq, Repr

/-- An outstanding nonce, R459. -/
structure Nonce where
  id : Nat
  level : DbgLevel
  value : List Byte
  expires : Nat
  deriving DecidableEq, Repr

/-- The debug session, R456. -/
structure DbgSession where
  level : DbgLevel
  keySlot : Option (Fin 4)
  lastTck : Nat
  deriving DecidableEq, Repr

/-- A fuse write that waits until the towpath domain may start it (R451). -/
inductive FuseWrite where
  | lifecycle (journal target : Nat) (slot : Byte)
  | keyHash (slot : Fin 4)
  deriving DecidableEq, Repr

structure Security where
  lifecycle : Lifecycle
  wipePending : Bool
  /-- A second read-back failure of the wipe: the module stays in BOOT (R453). -/
  wipeFailed : Bool
  keys : Vector KeySlot 4
  fuses : List FuseWrite
  deviceKey : Bool
  /-- The OTP device-secret row is intact. -/
  secretRow : Bool
  fingerprint : List Byte
  nonces : List Nonce
  nextNonce : Nat
  failures : List Nat
  lockoutUntil : Option Nat
  session : Option DbgSession
  tainted : Bool
  keeperHalted : Bool
  bistHeld : Bool
  denied : Bool
  tracing : Bool
  /-- The logic-zone pads driven by EXTEST, and what TDO last shifted out. -/
  pads : List Byte
  tdo : List Byte
  /-- Keeper SRAM and lane memories that a debug session has written. -/
  keeperSram : Memory
  laneMem : Vector Memory 4
  deriving DecidableEq, Repr

end Sys2Proof
end

