-- ==== Sys2Proof/Types/Keeper.lean ====
section
/-! DEFINITION. Types of the Keeper: requests, responses, sessions, mailboxes and subscriptions
(spec/12 of the manual). Plain data only. -/

namespace Sys2Proof

/-- An entry of a findings list, R331. -/
structure Finding where
  code : Nat
  item : Nat
  subject : Nat
  task : Nat
  /-- Present where the manual states the field's content; elsewhere it is a free value. -/
  detail : Option Nat
  deriving DecidableEq, Repr

/-- Where a request comes from and its response goes: a mailbox or a network session. -/
inductive Source where
  | mailbox (n : Fin 8)
  | net (session : Nat)
  deriving DecidableEq, Repr

/-- The header fields of a request that a command row carries (R318). -/
structure ReqHdr where
  src : Source
  session : Nat
  sequence : Nat
  /-- AT_EPOCH, DRY_RUN, PAIR_SCOPE, DROP_CONFLICTING_FORCES (R325). -/
  atEpoch : Bool
  dryRun : Bool
  pairScope : Bool
  dropForces : Bool
  epoch : Nat
  crc : W32
  deriving DecidableEq, Repr

/-- Access classes, R329. -/
inductive Access where
  | read | operate | engineer | admin
  deriving DecidableEq, Repr

/-- A response that waits: its bytes, header included. -/
abbrev Response := List Byte

/-- A held response of a class E command, R324. -/
structure HeldResponse where
  journal : Nat
  hdr : ReqHdr
  command : Nat
  acceptedAt : Nat
  /-- Payload to carry when the entry ends OK. -/
  payload : List Byte
  deriving DecidableEq, Repr

/-- A mailbox: the two halves and what the Keeper keeps for it (R313, R323). -/
structure Mailbox where
  req : Memory
  rsp : Memory
  dbReq : Bool
  dbRsp : Bool
  /-- Responses that wait for DB_RSP to clear, oldest first. -/
  waiting : List Response
  /-- Sequence, CRC and response of the last request answered. -/
  stored : Option (Nat × W32 × Response)
  /-- A subscription holds the mailbox. -/
  subscribed : Bool
  deriving DecidableEq, Repr

/-- A network connection, R317. -/
structure NetConn where
  session : Nat
  port : Fin 3
  access : Access
  keySlot : Fin 4
  lastActivity : Nat
  stored : Option (Nat × W32 × Response)
  /-- Responses sent, oldest first. -/
  sent : List Response
  deriving DecidableEq, Repr

/-- A subscription, R336. -/
structure Subscription where
  hdr : ReqHdr
  ranges : List (Nat × Nat)
  minInterval : Nat
  lastNotified : Nat
  lastEpoch : Nat
  skipped : Nat
  deriving DecidableEq, Repr

/-- An export image, R356. -/
structure ExportImage where
  journal : Nat
  session : Nat
  bytes : List Byte
  deriving DecidableEq, Repr

/-- Kinds of an epoch-bound host change that waits for its step (R19, R24, R489). -/
inductive ChangeKind where
  /-- Tag, the type code that the request named for it, and value. -/
  | imgWrite (writes : List (Nat × Nat × W64))
  | forceSet (forces : List (Nat × Nat × W64))
  | forceClear (tags : List Nat) (all : Bool)
  | start (mask : Nat)
  | stop (mask : Nat)
  | settings
  | exchange
  deriving DecidableEq, Repr

structure HostChange where
  journal : Nat
  kind : ChangeKind
  atEpoch : Option Nat
  deriving DecidableEq, Repr

/-- The Keeper and the host interface. -/
structure Keeper where
  /-- The Keeper runs; false while it restarts or is paused (R10, R438). -/
  running : Bool
  beatCount : W16
  intStat : W32
  intMask : W32
  hostBeat : W32
  /-- Instant of the latest write of HOST_BEAT, whose word then crosses to the Keeper (R402). -/
  beatAt : Option Nat
  /-- HOST_BEAT as last sampled, and since when it has not changed (R315). -/
  sampledBeat : W32
  sampledAt : Nat
  mailboxes : Vector Mailbox 8
  conns : List NetConn
  pcieSession : Nat
  spiSession : Nat
  pcieAccess : Access
  spiAccess : Access
  /-- Session IDs given out in this power cycle (R310). -/
  usedSessions : List Nat
  held : List HeldResponse
  journal : List JnlEntry
  lastJournal : Nat
  /-- Entries changed since the last mirror record that go with the next one (R340). -/
  unsent : List Nat
  changes : List HostChange
  subscriptions : List Subscription
  exports : List ExportImage
  barErrors : Nat
  spiBurstErr : Nat
  connsRefused : Nat
  foreignRings : Nat
  /-- Overrun counts by sluice ID (R398, R404). -/
  sluices : Tbl Nat
  /-- SLUICE_OVF register (R312). -/
  sluiceOvf : W32
  /-- Data bytes of the last SPI or BAR0 read. -/
  readData : List Byte
  /-- MSIs sent (R314). -/
  msis : Nat
  /-- Peak use of each client class since restart, in KiB (R363). -/
  peaks : Vector Nat 6
  /-- EVT.MARK requests whose response waits for the record, one for each staged mark, oldest first; none where the
  requester is gone (R417). -/
  marks : List (Option ReqHdr)
  /-- Pending Keeper-only restart and its cause code (R438, 0x0101). -/
  restartCause : Nat
  deriving DecidableEq, Repr

end Sys2Proof
end

