-- ==== Sys2Proof/Types/Inputs.lean ====
section
/-! DEFINITION. Operand types of the commands: what the outside world hands the module at an event.
Plain data only. -/

namespace Sys2Proof

/-- Form of a word-group instruction, bits [1:0] of its opcode (R60). -/
inductive Form where
  | t | l | g | i
  deriving DecidableEq, Repr

/-- What the two comparators found on one entry position (R134): no fault, a single-bit error that was corrected,
verdicts that differ, or an entry with an uncorrectable error. -/
inductive WeaveFault where
  | none | corrected | verdictsDiffer | uncorrectable
  deriving DecidableEq, Repr

/-- One run of a self-test block as its sequencer reports it (R370, R371). -/
structure BistRun where
  block : Fin 14
  completed : Bool
  signature : W64
  /-- First failing physical section, for the Basin blocks (R372). -/
  failSection : Option Nat
  deriving DecidableEq, Repr

/-- Header of a received tow-line frame, and whether its CRC passes (R144). -/
structure TowHdr where
  owner : Nat
  format : Nat
  sequence : Nat
  invalid : Bool
  /-- More frames of the same record follow; the last one's command carries the record. -/
  more : Bool
  crcOk : Bool
  deriving DecidableEq, Repr

/-- PTP messages for the module (R226); correction fields and instants in ns. A Sync of one step carries its origin timestamp and
correction itself. -/
inductive PtpMsg where
  | announce (info : ClockInfo)
  | sync (sequenceId : Nat) (rxStamp : W32) (oneStep : Option (Nat × Int))
  | followUp (sequenceId : Nat) (origin : Nat) (correction : Int)
  | delayResp (sequenceId : Nat) (received : Nat) (correction : Int)
  | delayReq (sequenceId : Nat) (rxStamp : W32)
  | pdelayReq (sequenceId : Nat) (rxStamp : W32)
  | pdelayResp (sequenceId : Nat) (received : Nat) (rxStamp : W32)
  | pdelayRespFollowUp (sequenceId : Nat) (sent : Nat) (correction : Int)
  deriving DecidableEq, Repr

/-- A client certificate as the TLS handshake shows it (R317, R462). -/
structure ClientCert where
  handshakeOk : Bool
  keyP384 : Bool
  /-- The owner slot whose key signed the chain. -/
  signer : Option (Fin 4)
  chainLength : Nat
  notBefore : Nat
  notAfter : Nat
  /-- organizationalUnitName, where it is one of the four classes. -/
  unit : Option Access
  deriving DecidableEq, Repr

/-- Wake causes of a CAN channel (R306, R307). -/
inductive CanWakeCause where
  | dominant
  | frame (f : CanFrame)
  | frameErrors
  deriving DecidableEq, Repr

/-- What changes at a DIO channel's comparator or output pad (R245, R250). -/
inductive DioSense where
  | comparator (level : Bool)
  | padHigh (high : Bool)
  | lowCurrent (low : Bool)
  | limiting (on : Bool)
  deriving DecidableEq, Repr

/-- Memories that a debug session reaches (R455). -/
inductive MemSpace where
  | basin | keeperSram | lane (l : LaneId) | keyStore | secretRow
  deriving DecidableEq, Repr

/-- What a failed check of a proof was (R176). -/
structure ProofChecks where
  stagesEnabled : Bool
  readbackOk : Bool
  parallelOk : Bool
  deriving DecidableEq, Repr

/-- What an MRAM block that cannot be read held: event slots, ledger words, a settings copy (B or A), a slot of the repeat tail, or
what its redundant copy gives back whole (R424). -/
inductive BlockContents where
  | events (slots : List Nat)
  | ledger (words : Nat)
  | settings (copyB : Bool)
  | tail (n : Fin 2)
  | other
  deriving DecidableEq, Repr

/-- What an access or the self-test finds of a block (R424): a corrected read, a failed program or erase verify, a read that is
uncorrectable, or a self-test flag. -/
inductive BlockFinding where
  | corrected | programVerify | eraseVerify | unreadable (held : BlockContents) | selfTest
  deriving DecidableEq, Repr

/-- A finding on a logical block of the MRAM or of the flash. -/
structure BlockReport where
  mram : Bool
  block : Nat
  finding : BlockFinding
  deriving DecidableEq, Repr

end Sys2Proof
end

