-- ==== Sys2Proof/Syntax.lean ====
section
/-! DEFINITION. The commands of the module: one constructor per row of spec/opcode_table.json, in the table's order.
An operand `t` is the module time (TAI ns) at which the event happens (R221); a lane instruction names the lane that
executes it and the fields MOD, OPERAND and IMM of its word (R59), and its form where the opcode has one (R60);
a Keeper command carries the request header `h` (R318) and the fields of its payload (R332 to R339). -/

namespace Sys2Proof

inductive Instr where
  /-- R365: The first feed rises above its undervoltage threshold and the module runs the power-up sequence from the towpath domain start to HELD. -/
  | powerUp (t : Nat) (feed : Fin 2) (failHi dbgHold : Bool) (microF : Nat) (runs : List BistRun)
  /-- R374: A restart without power loss runs the power-up steps from step 3 while the Basin is kept. -/
  | restart (t : Nat) (runs : List BistRun)
  /-- R10: A Keeper lockstep error restarts the Keeper from its active slot while control continues. -/
  | keeperLockstepError (t : Nat)
  /-- R374: The firmware watchdog of the Keeper expires and the module restarts without power loss. -/
  | keeperWatchdog (t : Nat)
  /-- R32: A tick instant of an enabled running task arrives. -/
  | taskTick (t : Nat) (k : TaskId)
  /-- R382: The time unit wakes the lanes from DOZE 2 µs before a tick at which a task is due. -/
  | lanePreWake (t : Nat)
  /-- R382: A lane that has been idle for 1 µs in DOZE is gated again. -/
  | laneIdleGate (t : Nat) (l : LaneId)
  /-- R38: The step sequencer begins a task's snapshot commit after earlier commits and steps. -/
  | snapshotCommitStart (t : Nat) (k : TaskId) (passed : Bool)
  /-- R37: The snapshot commit completes and the lanes begin the task or preempt a lower one. -/
  | snapshotCommitDone (t : Nat) (k : TaskId)
  /-- R50: A higher-priority task preempts a lower one at the next instruction boundary of each lane. -/
  | taskPreempt (t : Nat) (k : TaskId)
  /-- R49: The Weave has voted TEND from two agreeing lanes together with every preceding write. -/
  | taskEnd (t : Nat) (k : TaskId)
  /-- R18: The step sequencer takes an epoch step for a task end or an accepted host change, and the epoch increments. -/
  | epochStep (t : Nat) (k : Option TaskId)
  /-- R57: A task's step has not been taken by T + D, so the lanes halt and the module stops. -/
  | deadlineMiss (t : Nat) (k : TaskId)
  /-- R201: A SAFE broadcast is repeated at 10 µs intervals, twice, with new sequences. -/
  | safeBargeRepeat (t : Nat)
  /-- R124: The Weave votes one entry position once the entries of the lanes taking part are present. -/
  | weaveVote (t : Nat) (k : TaskId) (position : Nat) (fault : WeaveFault)
  /-- R126: The trailing lane has not posted END or its sample within LANE_TRAIL_LIMIT and is halted as LATE. -/
  | laneTrailTimeout (t : Nat) (k : TaskId) (l : LaneId)
  /-- R128: The samples of all lanes taking part are present and the Weave returns one agreed value. -/
  | agreeValueFormed (t : Nat) (k : TaskId)
  /-- R129: Restoration of a RESYNC lane completes and is verified, so the lane enters JOINING. -/
  | resyncComplete (t : Nat) (l : LaneId)
  /-- R129: Restoration does not complete within its bound, so the lane returns to HALTED for replacement. -/
  | resyncTimeout (t : Nat) (l : LaneId)
  /-- R131: The spare lane's load completes and is verified, so it enters JOINING. -/
  | spareLoadComplete (t : Nat) (l : LaneId)
  /-- R94: Executes no operation. -/
  | nop (l : LaneId) (m : BitVec 4) (o : BitVec 20) (im : W32)
  /-- R67: Loads the operand into ACC. -/
  | ld (l : LaneId) (m : BitVec 4) (o : BitVec 20) (im : W32)
  /-- R67: Loads the negated operand into ACC. -/
  | ldn (l : LaneId) (m : BitVec 4) (o : BitVec 20) (im : W32)
  /-- R67: ANDs the operand into ACC, or opens a string. -/
  | and (l : LaneId) (m : BitVec 4) (o : BitVec 20) (im : W32)
  /-- R67: ANDs the negated operand into ACC, or opens a string. -/
  | andn (l : LaneId) (m : BitVec 4) (o : BitVec 20) (im : W32)
  /-- R67: ORs the operand into ACC, or opens a string. -/
  | or (l : LaneId) (m : BitVec 4) (o : BitVec 20) (im : W32)
  /-- R67: ORs the negated operand into ACC, or opens a string. -/
  | orn (l : LaneId) (m : BitVec 4) (o : BitVec 20) (im : W32)
  /-- R67: XORs the operand into ACC, or opens a string. -/
  | xor (l : LaneId) (m : BitVec 4) (o : BitVec 20) (im : W32)
  /-- R67: XORs the negated operand into ACC, or opens a string. -/
  | xorn (l : LaneId) (m : BitVec 4) (o : BitVec 20) (im : W32)
  /-- R67: Negates ACC. -/
  | not (l : LaneId) (m : BitVec 4) (o : BitVec 20) (im : W32)
  /-- R68: Writes ACC to the operand and ends the string. -/
  | st (l : LaneId) (m : BitVec 4) (o : BitVec 20) (im : W32)
  /-- R68: Writes the negated ACC to the operand and ends the string. -/
  | stn (l : LaneId) (m : BitVec 4) (o : BitVec 20) (im : W32)
  /-- R68: Writes 1 to the operand if ACC is 1 and ends the string. -/
  | set (l : LaneId) (m : BitVec 4) (o : BitVec 20) (im : W32)
  /-- R68: Writes 0 to the operand if ACC is 1 and ends the string. -/
  | rst (l : LaneId) (m : BitVec 4) (o : BitVec 20) (im : W32)
  /-- R69: Pushes a nesting entry with the pending operation AND. -/
  | andOpen (l : LaneId) (m : BitVec 4) (o : BitVec 20) (im : W32)
  /-- R69: Pushes a nesting entry with the pending operation OR. -/
  | orOpen (l : LaneId) (m : BitVec 4) (o : BitVec 20) (im : W32)
  /-- R69: Pushes a nesting entry with the pending operation XOR. -/
  | xorOpen (l : LaneId) (m : BitVec 4) (o : BitVec 20) (im : W32)
  /-- R69: Pops the nesting stack and combines the bracket into ACC. -/
  | closeBracket (l : LaneId) (m : BitVec 4) (o : BitVec 20) (im : W32)
  /-- R76: Detects a rising edge of ACC through its instance. -/
  | ep (l : LaneId) (m : BitVec 4) (o : BitVec 20) (im : W32)
  /-- R76: Detects a falling edge of ACC through its instance. -/
  | en (l : LaneId) (m : BitVec 4) (o : BitVec 20) (im : W32)
  /-- R77: Evaluates an on-delay timer instance. -/
  | ton (l : LaneId) (m : BitVec 4) (o : BitVec 20) (im : W32)
  /-- R77: Evaluates an off-delay timer instance. -/
  | tof (l : LaneId) (m : BitVec 4) (o : BitVec 20) (im : W32)
  /-- R77: Evaluates a pulse timer instance. -/
  | tp (l : LaneId) (m : BitVec 4) (o : BitVec 20) (im : W32)
  /-- R78: Presents one input to an up counter instance. -/
  | ctu (l : LaneId) (m : BitVec 4) (o : BitVec 20) (im : W32)
  /-- R78: Presents one input to a down counter instance. -/
  | ctd (l : LaneId) (m : BitVec 4) (o : BitVec 20) (im : W32)
  /-- R78: Presents one input to an up/down counter instance. -/
  | ctud (l : LaneId) (m : BitVec 4) (o : BitVec 20) (im : W32)
  /-- R79: Copies an instance's VALUE field into a register. -/
  | ldi (l : LaneId) (m : BitVec 4) (o : BitVec 20) (im : W32)
  /-- R80: Loads 64 packed BOOL tags into a register. -/
  | bld (l : LaneId) (m : BitVec 4) (o : BitVec 20) (im : W32)
  /-- R80: Writes 64 BOOL tags from a register through the Weave. -/
  | bst (l : LaneId) (m : BitVec 4) (o : BitVec 20) (im : W32)
  /-- R80: ANDs 64 packed BOOL tags into a register. -/
  | band (l : LaneId) (m : BitVec 4) (o : BitVec 20) (im : W32)
  /-- R80: ORs 64 packed BOOL tags into a register. -/
  | bor (l : LaneId) (m : BitVec 4) (o : BitVec 20) (im : W32)
  /-- R80: XORs 64 packed BOOL tags into a register. -/
  | bxor (l : LaneId) (m : BitVec 4) (o : BitVec 20) (im : W32)
  /-- R82: Loads a tag, local word or immediate into a register. -/
  | ldw (l : LaneId) (f : Form) (m : BitVec 4) (o : BitVec 20) (im : W32)
  /-- R82: Stores a register to a tag or a local word. -/
  | stw (l : LaneId) (f : Form) (m : BitVec 4) (o : BitVec 20) (im : W32)
  /-- R82: Copies one register to another. -/
  | movw (l : LaneId) (m : BitVec 4) (o : BitVec 20) (im : W32)
  /-- R82: Replaces the high 32 bits of a register with the immediate. -/
  | ldwh (l : LaneId) (m : BitVec 4) (o : BitVec 20) (im : W32)
  /-- R83: Adds an integer operand to a register, wrapping. -/
  | add (l : LaneId) (f : Form) (m : BitVec 4) (o : BitVec 20) (im : W32)
  /-- R83: Subtracts an integer operand from a register, wrapping. -/
  | sub (l : LaneId) (f : Form) (m : BitVec 4) (o : BitVec 20) (im : W32)
  /-- R83: Multiplies a register by an integer operand, wrapping. -/
  | mul (l : LaneId) (f : Form) (m : BitVec 4) (o : BitVec 20) (im : W32)
  /-- R83: Divides a register by an integer operand, truncating toward zero. -/
  | div (l : LaneId) (f : Form) (m : BitVec 4) (o : BitVec 20) (im : W32)
  /-- R83: Computes the integer remainder with the sign of the dividend. -/
  | mod (l : LaneId) (f : Form) (m : BitVec 4) (o : BitVec 20) (im : W32)
  /-- R83: Negates an integer register. -/
  | neg (l : LaneId) (m : BitVec 4) (o : BitVec 20) (im : W32)
  /-- R83: Takes the absolute value of an integer register. -/
  | abs (l : LaneId) (m : BitVec 4) (o : BitVec 20) (im : W32)
  /-- R84: Adds in IEEE floating point. -/
  | fadd (l : LaneId) (f : Form) (m : BitVec 4) (o : BitVec 20) (im : W32)
  /-- R84: Subtracts in IEEE floating point. -/
  | fsub (l : LaneId) (f : Form) (m : BitVec 4) (o : BitVec 20) (im : W32)
  /-- R84: Multiplies in IEEE floating point. -/
  | fmul (l : LaneId) (f : Form) (m : BitVec 4) (o : BitVec 20) (im : W32)
  /-- R84: Divides in IEEE floating point. -/
  | fdiv (l : LaneId) (f : Form) (m : BitVec 4) (o : BitVec 20) (im : W32)
  /-- R84: Takes the IEEE square root. -/
  | fsqrt (l : LaneId) (m : BitVec 4) (o : BitVec 20) (im : W32)
  /-- R85: Compares for equality and ANDs the result into ACC. -/
  | cmpeq (l : LaneId) (f : Form) (m : BitVec 4) (o : BitVec 20) (im : W32)
  /-- R85: Compares for inequality and ANDs the result into ACC. -/
  | cmpne (l : LaneId) (f : Form) (m : BitVec 4) (o : BitVec 20) (im : W32)
  /-- R85: Compares less-than and ANDs the result into ACC. -/
  | cmplt (l : LaneId) (f : Form) (m : BitVec 4) (o : BitVec 20) (im : W32)
  /-- R85: Compares less-or-equal and ANDs the result into ACC. -/
  | cmple (l : LaneId) (f : Form) (m : BitVec 4) (o : BitVec 20) (im : W32)
  /-- R85: Compares greater-than and ANDs the result into ACC. -/
  | cmpgt (l : LaneId) (f : Form) (m : BitVec 4) (o : BitVec 20) (im : W32)
  /-- R85: Compares greater-or-equal and ANDs the result into ACC. -/
  | cmpge (l : LaneId) (f : Form) (m : BitVec 4) (o : BitVec 20) (im : W32)
  /-- R86: Converts a register between types. -/
  | cvt (l : LaneId) (m : BitVec 4) (o : BitVec 20) (im : W32)
  /-- R87: Clamps a register between two bound registers. -/
  | limit (l : LaneId) (m : BitVec 4) (o : BitVec 20) (im : W32)
  /-- R87: Performs a two-point linear scaling of a real register. -/
  | scale (l : LaneId) (m : BitVec 4) (o : BitVec 20) (im : W32)
  /-- R88: Jumps within the routine. -/
  | jmp (l : LaneId) (m : BitVec 4) (o : BitVec 20) (im : W32)
  /-- R88: Jumps if ACC is 1 and sets FC. -/
  | jmpc (l : LaneId) (m : BitVec 4) (o : BitVec 20) (im : W32)
  /-- R88: Jumps if ACC is 0 and sets FC. -/
  | jmpcn (l : LaneId) (m : BitVec 4) (o : BitVec 20) (im : W32)
  /-- R88: Pushes the return index and jumps to a routine entry. -/
  | call (l : LaneId) (m : BitVec 4) (o : BitVec 20) (im : W32)
  /-- R88: Pops the return index and returns. -/
  | ret (l : LaneId) (m : BitVec 4) (o : BitVec 20) (im : W32)
  /-- R89: Ends the execution and posts the lane's END mark through the Weave. -/
  | tend (l : LaneId) (m : BitVec 4) (o : BitVec 20) (im : W32)
  /-- R90: Writes the snapshot time T to a register. -/
  | tnow (l : LaneId) (m : BitVec 4) (o : BitVec 20) (im : W32)
  /-- R92: Samples a live source and posts the sample to the Weave. -/
  | agree (t : Nat) (l : LaneId) (m : BitVec 4) (o : BitVec 20) (im : W32)
  /-- R104: The staging STATE copy for an exchange is complete and dual writes are active. -/
  | stagingCopyComplete (t : Nat)
  /-- R105: No exchange point occurs within PRG_EXCHANGE_WINDOW, so the exchange fails. -/
  | exchangeWindowExpiry (t : Nat)
  /-- R145: The module sends a HEARTBEAT every 10 µs. -/
  | heartbeatSend (t : Nat)
  /-- R138: A HEARTBEAT frame is received from the partner and judged for pairing, roles and claims. -/
  | heartbeatReceive (t : Nat) (fr : TowHdr) (hb : Heartbeat)
  /-- R42: The standby receives a snapshot manifest and commits the same barges and channel values. -/
  | manifestReceive (t : Nat) (fr : TowHdr) (mf : Manifest)
  /-- R93: The standby receives agreement records and gives the agreed values to its shadow AGREE instructions. -/
  | agreementReceive (t : Nat) (fr : TowHdr) (ag : Agreement)
  /-- R155: The standby receives a mirror record. -/
  | mirrorReceive (t : Nat) (fr : TowHdr) (rc : MirrorRecord)
  /-- R147: A NACK is received and the sender resends, fetches a barge or sends full form. -/
  | nackReceive (t : Nat) (fr : TowHdr) (nk : Nack)
  /-- R159: The standby receives HANDOVER, applies the records, raises its claim and answers HANDOVER_ACK. -/
  | handoverReceive (t : Nat) (fr : TowHdr) (ho : Handover)
  /-- R149: The former active reads the new claim, its stages yield, and it enters STOPPED_FAULT. -/
  | handoverAckReceive (t : Nat) (fr : TowHdr) (ack : HandoverAck)
  /-- R159: No HANDOVER_ACK arrives within 50 µs and the active enters STOPPED_FAULT anyway. -/
  | handoverAckTimeout (t : Nat)
  /-- R150: The joining module receives a CATCHUP chunk and writes it. -/
  | catchupReceive (t : Nat) (fr : TowHdr) (readEpoch : Nat) (ck : Chunk)
  /-- R146: A carrying serial lane loses alignment or exceeds its CRC error rate, and the frames continue on the remaining lane. -/
  | towLaneLost (t : Nat) (sl : Fin 3) (alignment : Bool) (crcErrors : Nat)
  /-- R146: The spare serial lane is trained and joined, so TOW_SPARE_IN_USE is set. -/
  | towSpareLaneJoined (t : Nat) (sl : Fin 3)
  /-- R160: No valid heartbeat has arrived for 30 µs. -/
  | towLineSilence (t : Nat)
  /-- R160: The standby's 40 µs check window closes without a barge of the active, so it takes over. -/
  | checkWindowExpiry (t : Nat)
  /-- R160: During silence a STATUS barge is sent to the partner on P1 and P2 every 10 µs. -/
  | statusBargeSend (t : Nat)
  /-- R185: While a claim tie lasts, a STATUS barge with an IDENTITY section is repeated every PAIR_CLAIM_REFRESH. -/
  | claimTieStatusSend (t : Nat)
  /-- R139: No heartbeat with OFFER arrives for 30 µs after OFFER is set, so the module enters ACTIVE. -/
  | offerTimeout (t : Nat)
  /-- R140: PAIR_JOIN_WAIT passes after release with no heartbeat and no foreign barge, so the module may start unpaired. -/
  | pairJoinWaitExpiry (t : Nat)
  /-- R152: No manifest arrives 10 µs after a tick, so the standby runs a held execution from its own inputs. -/
  | manifestTimeout (t : Nat) (k : TaskId)
  /-- R151: A fetched barge does not arrive within 20 µs, so the standby commits its own latched buffer and marks the execution UNMATCHED. -/
  | bargeFetchTimeout (t : Nat) (k : TaskId)
  /-- R156: The active's barge has not been received 100 µs after release, so the comparison is skipped as COMPARE_MISSING. -/
  | compareMissingTimeout (t : Nat) (k : TaskId) (node release : Nat)
  /-- R172: A standby that was in NAP has woken, rebuilt and raised its claim, and it commits its first tick. -/
  | coldTakeoverReady (t : Nat)
  /-- R162: A planned switch finds a step at which no task executes. -/
  | switchPointReached (t : Nat)
  /-- R162: Every queued barge has left P1 and P2, so the active hands over. -/
  | switchQueueDrained (t : Nat)
  /-- R162: No switch point occurs within 1 s, so the planned switch fails. -/
  | switchPointTimeout (t : Nat)
  /-- R176: PAIR_PROOF_DWELL ticks pass and the proof switches back. -/
  | proofDwellExpiry (t : Nat)
  /-- R177: The proof checks are judged 3 ticks after the first release under the new claim. -/
  | proofCheckTimeout (t : Nat) (checks : ProofChecks)
  /-- R177: PAIR_PROOF_DUE days of operating hours pass since the last passed proof, so PROOF_DUE is set. -/
  | proofDueExpiry (t : Nat)
  /-- R165: The active sends a broadcast CLAIM barge every PAIR_CLAIM_REFRESH. -/
  | claimRefresh (t : Nat)
  /-- R165: Three ticks after a CLAIM barge, a node that still reports a lower claim is counted as NODE_CLAIM_LAG. -/
  | nodeClaimLagCheck (t : Nat) (node : Nat)
  /-- R199: An INPUT barge is received, checked and landed in the node's landing slot. -/
  | inputBargeReceive (t : Nat) (port : Fin 3) (source : Nat) (bytes : List Byte)
  /-- R156: The module receives an OUTPUT barge of its owner, which feeds claims and the standby's comparison. -/
  | outputBargeReceive (t : Nat) (port : Fin 3) (source : Nat) (bytes : List Byte)
  /-- R164: The module receives a SAFE barge of its owner and takes its claim into account. -/
  | safeBargeReceive (t : Nat) (port : Fin 3) (source : Nat) (bytes : List Byte)
  /-- R164: The module receives a CLAIM barge of its owner and takes its claim into account. -/
  | claimBargeReceive (t : Nat) (port : Fin 3) (source : Nat) (bytes : List Byte)
  /-- R160: The module receives a STATUS barge from its partner. -/
  | statusBargeReceive (t : Nat) (port : Fin 3) (source : Nat) (bytes : List Byte)
  /-- R199: A node's token bucket gains one token every 1 ÷ NODE_INPUT_RATE s. -/
  | tokenBucketRefill (t : Nat) (node : Nat)
  /-- R208: At the switch instant the pair begins sending under key epoch e + 1. -/
  | keyEpochSwitch (t : Nat)
  /-- R208: VBP_KEY_OVERLAP after the switch, only key epoch e + 1 is accepted. -/
  | keyOverlapExpiry (t : Nat)
  /-- R212: A frame arrives on a port and is forwarded, delivered or discarded. -/
  | portFrameReceive (t : Nat) (port : Fin 3) (frame : PortFrame)
  /-- R211: A port link comes up or goes down, or an optical sideband signal reports LINK_DOWN. -/
  | linkStateChange (t : Nat) (port : Fin 3) (up sideband : Bool) (speed : Nat)
  /-- R219: A queued frame starts transmission in an open gate interval that fits it. -/
  | frameTransmitStart (t : Nat) (port : Fin 3)
  /-- R219: A frame that has fitted no open interval for one whole cycle is discarded. -/
  | gateTooShortDiscard (t : Nat) (port : Fin 3)
  /-- R218: The gate control list moves to its next entry, or starts a new cycle. -/
  | gclEntryChange (t : Nat) (port : Fin 3)
  /-- R220: A committed gate control list takes effect at its first cycle start at least 1 ms after the step. -/
  | gclSwitch (t : Nat) (port : Fin 3)
  /-- R214: A learned address entry ages out after 300 s. -/
  | addressAgeing (t : Nat) (address : Nat)
  /-- R215: An MRP ring event or recovery changes forwarding between P1 and P2. -/
  | mrpRingEvent (t : Nat) (closed : Bool) (blocked : Option (Fin 3))
  /-- R227: As master, the module sends Sync followed by Follow_Up at the sync interval. -/
  | ptpSyncSend (t : Nat) (port : Fin 3)
  /-- R226: The module sends a Delay_Req or Pdelay_Req at its interval. -/
  | ptpDelayReqSend (t : Nat) (port : Fin 3)
  /-- R226: A PTP message for the module is received and the servo is updated. -/
  | ptpMessageReceive (t : Nat) (port : Fin 3) (domain : Nat) (msg : PtpMsg)
  /-- R229: The Keeper wakes on a transmit-timestamp queue entry and empties the queue. -/
  | txtsQueueService (t : Nat) (port : Fin 3)
  /-- R222: No Sync arrives for 3 Sync intervals in LOCKED, so the servo enters HOLDOVER. -/
  | syncTimeout (t : Nat)
  /-- R222: The master has been lost for 60 s with the module selected, so the servo enters GRANDMASTER. -/
  | holdoverGmTimeout (t : Nat)
  /-- R221: COUNT wraps and ERA increments. -/
  | countWrap
  /-- R222: A timestamp that has waited 2 s is discarded unextended as TS_EXPIRED. -/
  | timestampExpiry (t : Nat) (port : Fin 3)
  /-- R225: A rising edge on FI0 disciplines the time unit in GRANDMASTER. -/
  | ppsEdge (t : Nat)
  /-- R225: No FI0 edge for 1.5 s with TIME_PPS_INPUT set, so PPS_LOST is set. -/
  | ppsLostTimeout (t : Nat)
  /-- R231: An armed trigger unit reaches its target and performs its action. -/
  | triggerFire (t : Nat) (u : Fin 32)
  /-- R236: A selected edge on FIn is timestamped and counted. -/
  | fiCaptureEdge (t : Nat) (n : Fin 4) (rising : Bool)
  /-- R253: The time unit fires a strobe and the monitor applies the held DIO and AIO updates. -/
  | strobeFire (t : Nat)
  /-- R259: The logic side sends a downlink frame to the monitor every 10 µs. -/
  | downlinkFrameSend (t : Nat)
  /-- R259: The monitor receives a downlink frame, holding its updates or applying SAFE commands. -/
  | downlinkFrameReceive (t : Nat) (ok : Bool)
  /-- R246: The monitor sends an uplink frame every 10 µs and within 2 µs of a debounced change. -/
  | uplinkFrameSend (t : Nat)
  /-- R246: The logic side receives an uplink frame and stamps its sample time. -/
  | uplinkFrameReceive (t : Nat) (ok : Bool)
  /-- R245: A comparator level has held for DIO_DEBOUNCE, so the debounced level changes. -/
  | dioDebounceExpiry (t : Nat) (c : Fin 16)
  /-- R259: No valid downlink frame for FIELD_SILENCE_TIMEOUT, so the monitor enters SILENT and applies safe states. -/
  | fieldSilenceTimeout (t : Nat)
  /-- R260: No valid uplink frame for 100 µs, so FIELD_LOST is set. -/
  | fieldLostTimeout (t : Nat)
  /-- R259: An internal watchdog fault resets the monitor into START. -/
  | monitorWatchdogReset (t : Nat)
  /-- R250: A DIO output condition has held for its filter time, so a diagnostic is raised or cleared. -/
  | doDiagFilterExpiry (t : Nat) (c : Fin 16) (d : DioDiag)
  /-- R248: A high-side switch exceeds its thermal limit and turns off. -/
  | doThermalTrip (t : Nat) (c : Fin 16)
  /-- R248: After cooling and at least 100 ms, a tripped switch turns on again if still commanded ON. -/
  | doThermalRetry (t : Nat) (c : Fin 16)
  /-- R248: 60 s without a trip resets the retry count. -/
  | doRetryCountReset (t : Nat) (c : Fin 16)
  /-- R258: 100 µs after a live yield, an OUT_PARALLEL DIO channel that is on turns off. -/
  | parallelDioBreak (t : Nat) (c : Fin 16)
  /-- R262: The differential voltage has stayed below 200 mV for 1 µs, so FI_FAILSAFE is set. -/
  | fiFailsafeTimeout (t : Nat) (n : Fin 4)
  /-- R263: A driver held in current limit for 1 µs sets FO_SHORT. -/
  | foShortTimeout (t : Nat) (n : Fin 4)
  /-- R481: LA or LB leaves or re-enters range after its persistence time. -/
  | fieldSupplyChange (t : Nat) (n : Fin 2) (microV : Int)
  /-- R272: Every 1 ms the monitor sets each loop supply to the pad voltage plus 2.5 V. -/
  | loopSupplyAdjust (t : Nat) (c : Fin 8) (padMicroV : Int)
  /-- R272: A lower supply target has held for 10 ms, so the loop supply falls. -/
  | loopSupplyFall (t : Nat) (c : Fin 8)
  /-- R274: Every 100 µs the readback ADC is sampled and compared with the driven value. -/
  | readbackSample (t : Nat) (c : Fin 8) (rawNanoA : Int)
  /-- R275: Headroom has stayed below or above 1.0 V for 1 ms, so COMPLIANCE is set or cleared. -/
  | complianceFilterExpiry (t : Nat) (c : Fin 8)
  /-- R273: An AO stage exceeds its thermal limit and the channel opens. -/
  | aoThermalTrip (t : Nat) (c : Fin 8)
  /-- R273: After cooling and at least 100 ms, the channel regulates again. -/
  | aoThermalRecover (t : Nat) (c : Fin 8)
  /-- R279: An analog input converts a sample at 10 kS/s and filters it. -/
  | aioConversion (t : Nat) (c : Fin 8) (raw : Int)
  /-- R287: No valid downlink frame for AIO_PARALLEL_SILENCE, so the monitor opens OUT_PARALLEL AO channels. -/
  | aioParallelSilenceExpiry (t : Nat)
  /-- R283: More than 60 s pass between trim steps, so the sequence ends PARTIAL. -/
  | trimStepTimeout (t : Nat) (c : Fin 8)
  /-- R295: A CAN frame ends and is filtered into a queue, a map slot or rejected. -/
  | canFrameReceive (t : Nat) (ch : Fin 2) (sof : Nat) (frame : CanFrame) (beat headOpen : Bool)
  /-- R298: At T + O the time unit enters a transmit object's frame for arbitration. -/
  | canTxoRelease (t : Nat) (ch : Fin 2) (ob : Fin 32)
  /-- R300: A frame wins arbitration and is acknowledged on the bus. -/
  | canFrameTransmitted (t : Nat) (ch : Fin 2) (sof : Nat)
  /-- R303: A protocol error occurs and the error counters and confinement state change. -/
  | canBusError (t : Nat) (ch : Fin 2) (transmitting : Bool) (e : CanError)
  /-- R303: The bus-off recovery of 128 occurrences of 11 recessive bits completes. -/
  | canBusoffRecoveryComplete (t : Nat) (ch : Fin 2)
  /-- R294: CAN_AUTOBAUD_DWELL passes without a complete frame, so the next candidate is tried. -/
  | autobaudDwellExpiry (t : Nat) (ch : Fin 2)
  /-- R304: 10 s without a clash error clears IDENTIFIER_CLASH. -/
  | clashClearTimeout (t : Nat) (ch : Fin 2)
  /-- R301: CAN_SEND_TIMEOUT passes from acceptance, so the batch ends PARTIAL. -/
  | canSendTimeout (t : Nat) (ch : Fin 2) (journal : Nat)
  /-- R307: A wake condition on a sleeping channel wakes it, and wakes the module in DORMANT. -/
  | canWake (t : Nat) (ch : Fin 2) (cause : CanWakeCause)
  /-- R313: A write to DB_REQ rings a mailbox, and the Keeper takes the request. -/
  | doorbellRing (t : Nat) (n : Fin 8) (spi inAck : Bool)
  /-- R313: Clearing a DB_RSP bit hands the response half back to the Keeper. -/
  | responseRelease (t : Nat) (n : Fin 8)
  /-- R404: Writing 1 to a SLUICE_OVF bit clears the flags and counts of every sluice that receives in that domain. -/
  | sluiceOvfClear (mask : W32)
  /-- R312: A write to a BAR0 register that has no row of its own, such as INT_STAT, INT_MASK or HOST_BEAT. -/
  | registerWrite (t : Nat) (offset width : Nat) (data : W32)
  /-- R316: An SPI WRITE transaction writes bytes into BAR0. -/
  | spiWrite (t : Nat) (address : Nat) (data : List Byte)
  /-- R316: An SPI READ transaction reads bytes from BAR0. -/
  | spiRead (t : Nat) (address count : Nat)
  /-- R316: An SPI STATUS transaction returns the HOST_IRQ_N state. -/
  | spiStatus
  /-- R316: The SPI_RESET instruction ends the SPI session. -/
  | spiReset (t : Nat)
  /-- R310: A PCIe link-down, function-level reset or PERST_N ends the PCIe session. -/
  | pcieReset (t : Nat)
  /-- R317: A TCP connection completes its TLS 1.3 handshake and becomes a session, or is refused. -/
  | netConnectionOpen (t : Nat) (port : Fin 3) (cert : ClientCert)
  /-- R310: A management connection closes and its session ends. -/
  | netConnectionClose (t : Nat) (session : Nat)
  /-- R310: A connection idle for NET_MGMT_IDLE is closed. -/
  | netMgmtIdleExpiry (t : Nat) (session : Nat)
  /-- R315: Every 1 ms the Keeper samples HOST_BEAT and ends sessions if it is unchanged for the timeout. -/
  | hostBeatSample (t : Nat)
  /-- R311: The Keeper increments KEEPER_BEAT COUNT every 1 ms. -/
  | keeperBeatTick
  /-- R324: A class E entry has not ended 100 ms after acceptance, so the Keeper answers ACCEPTED. -/
  | classEResponseTimeout (t : Nat) (journal : Nat)
  /-- R336: A mirrored epoch changes a subscribed tag and the minimum interval has passed, so a notification is written. -/
  | subscriptionNotify (t : Nat) (src : Source)
  /-- R330: A request with an undefined command code returns UNKNOWN_COMMAND. -/
  | unknownCommandRequest (t : Nat) (h : ReqHdr) (code : Nat)
  /-- R332: Returns identity data and the caller's session. -/
  | idGet (t : Nat) (h : ReqHdr)
  /-- R332: Returns the module state, the power state, flags and the fault cause. -/
  | stateGet (t : Nat) (h : ReqHdr)
  /-- R332: Returns health words, counters and per-task records. -/
  | healthGet (t : Nat) (h : ReqHdr)
  /-- R368: Moves the module from HELD to READY. -/
  | stateRelease (t : Nat) (h : ReqHdr)
  /-- R348: Returns committed or staged setting values. -/
  | setRead (t : Nat) (h : ReqHdr) (source : Nat) (ids : List Nat)
  /-- R350: Checks and stages setting entries for the session. -/
  | setWrite (t : Nat) (h : ReqHdr) (entries : List (Nat × List Byte))
  /-- R351: Commits the session's staged settings as an epoch-bound change. -/
  | setCommit (t : Nat) (h : ReqHdr) (expected : Nat)
  /-- R351: A queued commit reaches its turn and runs checks 2 to 5. -/
  | setCommitTurnStart (t : Nat) (journal : Nat)
  /-- R352: The first MRAM copy is written and read back, and Immediate settings take effect. -/
  | settingsFirstCopyWritten (t : Nat) (journal : Nat)
  /-- R352: The other MRAM copy is written after the mirror, and the entry ends DONE. -/
  | settingsSecondCopyWritten (t : Nat) (journal : Nat)
  /-- R356: Builds an export image of the committed set in the HOST region. -/
  | setExportBuild (t : Nat) (h : ReqHdr)
  /-- R356: Returns a piece of the export image. -/
  | setExportRead (t : Nat) (h : ReqHdr) (offset journal : Nat)
  /-- R333: Begins loading a program container. -/
  | prgLoadBegin (t : Nat) (h : ReqHdr) (version length : Nat)
  /-- R333: Delivers one in-order chunk of the container. -/
  | prgLoadData (t : Nat) (h : ReqHdr) (version offset : Nat) (data : List Byte)
  /-- R100: Checks the container and places the version, which becomes LOADED. -/
  | prgLoadEnd (t : Nat) (h : ReqHdr) (version : Nat)
  /-- R333: Discards a load in progress. -/
  | prgLoadAbort (t : Nat) (h : ReqHdr) (version : Nat)
  /-- R101: Verifies the staged version and runs the exchange checks. -/
  | prgVerify (t : Nat) (h : ReqHdr) (version : Nat)
  /-- R103: Accepts an online exchange of the verified version at the next exchange point. -/
  | prgExchange (t : Nat) (h : ReqHdr) (version : Nat)
  /-- R34: Starts tasks, or assigns roles in a pair. -/
  | prgStart (t : Nat) (h : ReqHdr) (mask : Nat)
  /-- R34: Stops tasks at the step that applies it. -/
  | prgStop (t : Nat) (h : ReqHdr) (mask : Nat)
  /-- R22: Returns tag slots from one epoch. -/
  | imgRead (t : Nat) (h : ReqHdr) (ranges : List (Nat × Nat))
  /-- R47: Writes tag values as an epoch-bound change. -/
  | imgWrite (t : Nat) (h : ReqHdr) (writes : List (Nat × Nat × W64))
  /-- R336: Starts a subscription to tag ranges. -/
  | imgSubscribeStart (t : Nat) (h : ReqHdr) (interval : Nat) (ranges : List (Nat × Nat))
  /-- R336: Stops a subscription. -/
  | imgSubscribeStop (t : Nat) (h : ReqHdr)
  /-- R112: Sets a batch of forces as an epoch-bound change. -/
  | frcSet (t : Nat) (h : ReqHdr) (writes : List (Nat × Nat × W64))
  /-- R112: Clears a batch of forces as an epoch-bound change. -/
  | frcClear (t : Nat) (h : ReqHdr) (all : Bool) (tags : List Nat)
  /-- R335: Returns force-table entries. -/
  | frcList (t : Nat) (h : ReqHdr) (first : Nat)
  /-- R178: Returns the pair flags, claims, epochs and counters. -/
  | pairStatus (t : Nat) (h : ReqHdr)
  /-- R162: Requests a planned switch to the standby. -/
  | pairSwitch (t : Nat) (h : ReqHdr)
  /-- R176: Runs a planned take-over and return to prove the take-over path. -/
  | pairProof (t : Nat) (h : ReqHdr)
  /-- R175: Gives up the role and enters MAINTENANCE. -/
  | pairRelease (t : Nat) (h : ReqHdr)
  /-- R337: Returns the time, servo, capture and trigger status and clears flags by mask. -/
  | timeStatus (t : Nat) (h : ReqHdr) (mask : W32)
  /-- R232: Arms a trigger unit. -/
  | trgArm (t : Nat) (h : ReqHdr) (u mode action channel : Nat) (compat : W32) (target period : Nat) (argument : W64)
  /-- R235: Cancels a trigger unit and reports its firing count. -/
  | trgCancel (t : Nat) (h : ReqHdr) (u : Nat)
  /-- R338: Returns the status of a channel, node or port group. -/
  | ioStatus (t : Nat) (h : ReqHdr) (group first : Nat)
  /-- R283: Starts a user trim sequence on a channel. -/
  | ioTrimStart (t : Nat) (h : ReqHdr) (channel : Nat)
  /-- R283: Stores the first reference reading. -/
  | ioTrimPoint1 (t : Nat) (h : ReqHdr) (channel : Nat) (reading : W32) (journal : Nat)
  /-- R283: Stores the second reference reading. -/
  | ioTrimPoint2 (t : Nat) (h : ReqHdr) (channel : Nat) (reading : W32) (journal : Nat)
  /-- R283: Checks both points and writes the user trim set. -/
  | ioTrimCommit (t : Nat) (h : ReqHdr) (channel : Nat) (journal : Nat)
  /-- R283: Aborts a trim sequence, which ends PARTIAL. -/
  | ioTrimAbort (t : Nat) (h : ReqHdr) (channel : Nat) (journal : Nat)
  /-- R249: Clears latch and sticky bits of channels by mask. -/
  | ioResetFault (t : Nat) (h : ReqHdr) (group : Nat) (channels : W16) (mask : W32)
  /-- R338: Returns the CAN channel status and counters and clears sticky bits by mask. -/
  | canStatus (t : Nat) (h : ReqHdr) (channel : Nat) (mask : W32)
  /-- R301: Places a batch of frames in the host transmit queue. -/
  | canSend (t : Nat) (h : ReqHdr) (channel : Nat) (frames : List (CanFrame × Bool))
  /-- R296: Pops frame records from a receive queue. -/
  | canRecv (t : Nat) (h : ReqHdr) (channel queue maximum : Nat)
  /-- R293: Changes a CAN channel's mode, including AUTOBAUD and SLEEP. -/
  | canConfigSetMode (t : Nat) (h : ReqHdr) (channel mode : Nat) (adopt : Bool) (candidates : List (W32 × W32))
  /-- R303: Restarts a channel waiting in BUS_OFF. -/
  | canConfigRestart (t : Nat) (h : ReqHdr) (channel : Nat)
  /-- R416: Returns valid event records in rising sequence. -/
  | evtRead (t : Nat) (h : ReqHdr) (first maximum area : Nat)
  /-- R417: Stages an operator event and returns its sequence. -/
  | evtMark (t : Nat) (h : ReqHdr) (code : Nat) (data : List Byte)
  /-- R373: Returns the latest result of each self-test block. -/
  | bistResult (t : Nat) (h : ReqHdr)
  /-- R377: Runs one self-test block in the foreground or the background. -/
  | bistRun (t : Nat) (h : ReqHdr) (block : Nat) (background : Bool)
  /-- R371: A self-test run ends with PASS, FAIL or INCOMPLETE, and flags are set or cleared. -/
  | bistRunComplete (t : Nat) (run : BistRun) (found : List BlockReport)
  /-- R379: BIST_BG_INTERVAL of operating hours passes, so a background block runs. -/
  | bistBgIntervalExpiry (t : Nat) (block : Fin 14)
  /-- R380: BIST_BG_RETRY after an aborted run, the block is tried again. -/
  | bistBgRetryExpiry (t : Nat) (block : Fin 14)
  /-- R432: Checks an image header and takes the update lease. -/
  | updOpen (t : Nat) (h : ReqHdr) (header : List Byte)
  /-- R434: Delivers one in-order chunk of the delta. -/
  | updChunk (t : Nat) (h : ReqHdr) (offset : Nat) (data : List Byte)
  /-- R434: Rebuilds the image into the inactive slot and verifies it. -/
  | updCloseApply (t : Nat) (h : ReqHdr)
  /-- R435: Abandons the update and releases the lease. -/
  | updCloseAbandon (t : Nat) (h : ReqHdr)
  /-- R437: Activates the built image, or drives the pair update procedure. -/
  | updActivate (t : Nat) (h : ReqHdr) (pairProcedure : Bool)
  /-- R339: Returns the lease and slot status. -/
  | updStatus (t : Nat) (h : ReqHdr)
  /-- R436: The holder has sent no update command for 60 s and the lease is released. -/
  | updateLeaseIdleExpiry (t : Nat)
  /-- R441: A new image has not confirmed its boot in time, so the module or Keeper reverts to the fallback slot. -/
  | bootConfirmTimeout (t : Nat)
  /-- R443: A module of the pair procedure returns to STANDBY, so the procedure advances. -/
  | pairUpdateStepAdvance (t : Nat)
  /-- R443: A module has not returned to STANDBY within 60 s, so the procedure ends FAILED. -/
  | pairUpdateStepTimeout (t : Nat)
  /-- R459: Returns a nonce for an unlock or lifecycle command. -/
  | secChallenge (t : Nat) (h : ReqHdr) (level : Nat)
  /-- R461: Verifies a signed unlock and opens a debug session. -/
  | secUnlock (t : Nat) (h : ReqHdr) (nonce slot : Nat) (signature : List Byte)
  /-- R450: Verifies a signed lifecycle change or revocation and blows the fuse. -/
  | secLifecycle (t : Nat) (h : ReqHdr) (target slot nonce : Nat) (signature : List Byte)
  /-- R459: An outstanding nonce passes SEC_NONCE_LIFETIME and becomes invalid. -/
  | nonceExpiry (t : Nat) (nonce : Nat)
  /-- R461: The 10 min LOCKOUT ends. -/
  | lockoutExpiry (t : Nat)
  /-- R384: Changes the power state if the module state allows it. -/
  | pwrSetPowerState (t : Nat) (h : ReqHdr) (code : Nat)
  /-- R376: Restarts the module without power loss. -/
  | pwrSetRestart (t : Nat) (h : ReqHdr)
  /-- R339: Returns the power state, feed voltages, powers and temperature. -/
  | pwrGet (t : Nat) (h : ReqHdr)
  /-- R341: Returns journal entries backwards from an ID. -/
  | jnlGetEntries (t : Nat) (h : ReqHdr) (id maximum : Nat)
  /-- R341: Returns a piece of a journal entry's attachment. -/
  | jnlGetAttachment (t : Nat) (h : ReqHdr) (id offset : Nat)
  /-- R361: Sets a client class quota at once. -/
  | quoSet (t : Nat) (h : ReqHdr) (cls quota : Nat)
  /-- R363: Returns quota, use and peak per client class. -/
  | quoGet (t : Nat) (h : ReqHdr) (cls : Nat)
  /-- R420: Returns wear-ledger records of a category. -/
  | wearGet (t : Nat) (h : ReqHdr) (category first : Nat)
  /-- R387: A low level held for 100 µs on pad WAKE wakes the module from DORMANT. -/
  | wakePadLow (t : Nat)
  /-- R388: A matching wake frame wakes the module from DORMANT. -/
  | wakeFrameReceive (t : Nat) (port : Fin 3) (vlan udpPort : Nat) (payload : List Byte)
  /-- R387: The module wakes from DORMANT through its wake sequence into PWR_DEFAULT_STATE. -/
  | dormantWake (t : Nat)
  /-- R383: Every 10 min in DORMANT the Basin leaves self-refresh for 1 s and scrubs. -/
  | dormantScrubWindow (t : Nat) (codewords : Nat)
  /-- R364: The operating-hours counter advances, with an hourly copy to MRAM. -/
  | operatingHoursTick (t : Nat)
  /-- R16: The patrol scrubber reads a codeword and writes back a corrected one. -/
  | scrubCodeword (t : Nat) (codeword errors : Nat)
  /-- R422: The section copy completes and the map changes, at an epoch step for IMG, STATE and MIRROR. -/
  | basinMigrationComplete (t : Nat) (ok : Bool)
  /-- R410: The Keeper writes a staged event to MRAM in staging order. -/
  | eventRecordWrite (t : Nat) (found : List BlockReport)
  /-- R394: The reference in use gives no edge for 100 ns. -/
  | refMissingEdge (t : Nat)
  /-- R394: Each second the reference frequency is measured against its limit. -/
  | refDeviationCheck (t : Nat) (thisPpb otherPpb xtalPpb : Int)
  /-- R396: Both references fail and the PLLs hold their frequencies. -/
  | refBothFail (t : Nat)
  /-- R396: After 1 ms of hold, the towpath domain latches the cause and holds the die in reset. -/
  | refHoldExpiry (t : Nat)
  /-- R396: A reference passes the missing-edge check for 10 ms, so the module leaves BOOT. -/
  | refRecovered (t : Nat) (r : Fin 2) (runs : List BistRun)
  /-- R393: The crystal stops and the RC is calibrated against the reference in use. -/
  | xtalFail (t : Nat)
  /-- R393: The towpath RC is calibrated against the crystal once per second. -/
  | rcCalibration (t : Nat)
  /-- R454: JTAG BYPASS instruction. -/
  | bypass (t : Nat)
  /-- R454: JTAG IDCODE returns the identification code. -/
  | idcode (t : Nat)
  /-- R454: JTAG SAMPLE/PRELOAD at OBSERVE level. -/
  | samplePreload (t : Nat)
  /-- R455: Drives the logic-zone pads at INVASIVE level and sets TAINTED. -/
  | extest (t : Nat) (pads : List Byte)
  /-- R456: Returns the DBG_STATUS register. -/
  | dbgStatus (t : Nat)
  /-- R456: Opens a debug session at a level available without authentication. -/
  | dbgOpen (t : Nat) (level : DbgLevel)
  /-- R455: Releases every halt and ends the session. -/
  | dbgClose (t : Nat)
  /-- R455: Streams the instruction addresses of the Keeper and the lanes. -/
  | trace (t : Nat)
  /-- R455: Reads module memories at OBSERVE level. -/
  | memRead (t : Nat) (space : MemSpace) (address count : Nat)
  /-- R455: Writes any memory at INVASIVE level and sets TAINTED. -/
  | memWrite (t : Nat) (space : MemSpace) (address : Nat) (data : List Byte)
  /-- R455: Halts the Keeper core pair or a lane at INVASIVE level. -/
  | halt (t : Nat) (target : Option LaneId)
  /-- R445: Installs an owner public key into an unprogrammed slot. -/
  | keyProgram (t : Nat) (slot : Fin 4) (key : List Byte)
  /-- R464: Starts the power-up self-test held by DBG_HOLD. -/
  | bistGo (t : Nat) (runs : List BistRun)
  /-- R456: SEC_DEBUG_IDLE passes without TCK activity and the session closes. -/
  | debugIdleExpiry (t : Nat)
  /-- R476: A feed leaves or re-enters range after 20 µs of persistence. -/
  | feedRangeChange (t : Nat) (n : Fin 2) (microV : Int)
  /-- R479: Both feeds are out of range, and the module falls silent and flushes the journal, events and counters. -/
  | holdupFlush (t : Nat)
  /-- R479: HOLDUP falls below 12 V and the module is OFF. -/
  | holdupExhausted
  /-- R478: The hold-up capacitor reaches 29.5 V and CHARGED is set. -/
  | holdupCharged (t : Nat)
  /-- R478: Every 24 h the hold-up capacitance is measured and WEAK is judged. -/
  | holdupMeasure (t : Nat) (microF : Nat)
  /-- R438: The Keeper finishes loading its firmware after a lockstep error or a Keeper-only activation, confirms its boot and resumes mailbox service. -/
  | keeperRestartComplete (t : Nat)
  /-- R434: The rebuild of the inactive slot finishes programming and read-back, the slot becomes BUILT or EMPTY, the journal entry ends and the lease is released. -/
  | imageRebuildComplete (t : Nat) (found : List BlockReport)
  /-- R312: A PCIe read of a BAR0 register returns its value, or 0xFFFF_FFFF for a misaligned access, which is counted in the BAR access-error counter. -/
  | bar0Read (offset width : Nat)
  /-- R245: The level at a DIO input comparator or an output pad changes, starting or cancelling a debounce or diagnostic filter. -/
  | dioComparatorChange (t : Nat) (c : Fin 16) (sense : DioSense)
  /-- R225: Without a pulse input, the committed TIME_GM_TAI_SECONDS is applied at the next whole second of the module's time. -/
  | taiSecondApply (t : Nat)
  deriving DecidableEq, Repr

end Sys2Proof
end

