-- ==== Sys2Proof/Decode.lean ====
section
/-! DEFINITION. The encoding of Voril Lane Code words (spec/03, R59 to R62 and R94): the opcode table, the validity of
a word, an encoder and a decoder. The command table of the block gives its rows no bits, so the host's
decodeTableWord reads none. -/

namespace Sys2Proof

/-- The command that a word of the block's command table spells: the table gives no row any bits. -/
def decodeTableWord (_nbits _w : Nat) : Option Instr := none

/-- Layouts of R60. -/
inductive Layout where
  | bit | none | edge | timer | counter | instRead | block | tag | loc | reg | cvt | imm | jump | now | source
  deriving DecidableEq, Repr

/-- One row of the opcode table, R94: opcode, layout, allowed MOD values, issue cycles (not taken, for a
conditional jump) and Basin-sourced operands. -/
structure OpRow where
  code : Nat
  layout : Layout
  mods : List Nat
  cycles : Nat
  basin : Nat
  deriving DecidableEq, Repr

/-- Operand spaces of R62, and those a store may name. -/
def spaces : List Nat := [0, 1, 2, 3, 4]
def storeSpaces : List Nat := [0, 1, 2, 4]

/-- Type codes of R81, of the integer instructions (R83) and of the real ones (R84). -/
def types : List Nat := [1, 2, 3, 4, 5, 6, 7, 8, 9, 10]
def intTypes : List Nat := [2, 3, 4, 5, 6, 7, 10]
def realTypes : List Nat := [8, 9]

/-- Bit Unit rows of R94. -/
def bitRows : List OpRow :=
  [⟨0x01, .none, [0], 1, 0⟩,
   ⟨0x10, .bit, spaces, 1, 0⟩,
   ⟨0x11, .bit, spaces, 1, 0⟩,
   ⟨0x12, .bit, spaces, 1, 0⟩,
   ⟨0x13, .bit, spaces, 1, 0⟩,
   ⟨0x14, .bit, spaces, 1, 0⟩,
   ⟨0x15, .bit, spaces, 1, 0⟩,
   ⟨0x16, .bit, spaces, 1, 0⟩,
   ⟨0x17, .bit, spaces, 1, 0⟩,
   ⟨0x18, .bit, storeSpaces, 1, 0⟩,
   ⟨0x19, .bit, storeSpaces, 1, 0⟩,
   ⟨0x1A, .bit, storeSpaces, 1, 0⟩,
   ⟨0x1B, .bit, storeSpaces, 1, 0⟩,
   ⟨0x1C, .none, [0], 1, 0⟩,
   ⟨0x20, .none, [0], 1, 0⟩,
   ⟨0x21, .none, [0], 1, 0⟩,
   ⟨0x22, .none, [0], 1, 0⟩,
   ⟨0x23, .none, [0], 1, 0⟩]

/-- Instance and block rows of R94. -/
def instRows : List OpRow :=
  [⟨0x28, .edge, [0], 2, 1⟩,
   ⟨0x29, .edge, [0], 2, 1⟩,
   ⟨0x30, .timer, [0, 4, 8, 12], 6, 1⟩,
   ⟨0x31, .timer, [0, 4, 8, 12], 6, 1⟩,
   ⟨0x32, .timer, [0, 4, 8, 12], 6, 1⟩,
   ⟨0x38, .counter, [0, 2, 8, 10], 4, 1⟩,
   ⟨0x39, .counter, [0, 2, 12, 14], 4, 1⟩,
   ⟨0x3A, .counter, (List.range 16), 4, 1⟩,
   ⟨0x3F, .instRead, [0], 1, 1⟩,
   ⟨0x40, .block, [0], 8, 64⟩,
   ⟨0x41, .block, [0], 66, 0⟩,
   ⟨0x42, .block, [0], 8, 64⟩,
   ⟨0x43, .block, [0], 8, 64⟩,
   ⟨0x44, .block, [0], 8, 64⟩]

/-- Load, store and integer rows of R94. -/
def moveRows : List OpRow :=
  [⟨0x50, .tag, types, 1, 1⟩,
   ⟨0x51, .loc, types, 1, 0⟩,
   ⟨0x53, .imm, types, 1, 0⟩,
   ⟨0x54, .tag, types, 1, 0⟩,
   ⟨0x55, .loc, types, 1, 0⟩,
   ⟨0x5A, .reg, types, 1, 0⟩,
   ⟨0x5F, .imm, [0], 1, 0⟩,
   ⟨0x60, .tag, intTypes, 1, 1⟩,
   ⟨0x61, .loc, intTypes, 1, 0⟩,
   ⟨0x62, .reg, intTypes, 1, 0⟩,
   ⟨0x63, .imm, intTypes, 1, 0⟩,
   ⟨0x64, .tag, intTypes, 1, 1⟩,
   ⟨0x65, .loc, intTypes, 1, 0⟩,
   ⟨0x66, .reg, intTypes, 1, 0⟩,
   ⟨0x67, .imm, intTypes, 1, 0⟩,
   ⟨0x68, .tag, intTypes, 3, 1⟩,
   ⟨0x69, .loc, intTypes, 3, 0⟩,
   ⟨0x6A, .reg, intTypes, 3, 0⟩,
   ⟨0x6B, .imm, intTypes, 3, 0⟩,
   ⟨0x6C, .tag, intTypes, 20, 1⟩,
   ⟨0x6D, .loc, intTypes, 20, 0⟩,
   ⟨0x6E, .reg, intTypes, 20, 0⟩,
   ⟨0x6F, .imm, intTypes, 20, 0⟩,
   ⟨0x70, .tag, intTypes, 20, 1⟩,
   ⟨0x71, .loc, intTypes, 20, 0⟩,
   ⟨0x72, .reg, intTypes, 20, 0⟩,
   ⟨0x73, .imm, intTypes, 20, 0⟩,
   ⟨0x76, .reg, intTypes, 1, 0⟩,
   ⟨0x7A, .reg, intTypes, 1, 0⟩]

/-- Real arithmetic and comparison rows of R94. -/
def realRows : List OpRow :=
  [⟨0x80, .tag, realTypes, 4, 1⟩,
   ⟨0x81, .loc, realTypes, 4, 0⟩,
   ⟨0x82, .reg, realTypes, 4, 0⟩,
   ⟨0x83, .imm, realTypes, 4, 0⟩,
   ⟨0x84, .tag, realTypes, 4, 1⟩,
   ⟨0x85, .loc, realTypes, 4, 0⟩,
   ⟨0x86, .reg, realTypes, 4, 0⟩,
   ⟨0x87, .imm, realTypes, 4, 0⟩,
   ⟨0x88, .tag, realTypes, 4, 1⟩,
   ⟨0x89, .loc, realTypes, 4, 0⟩,
   ⟨0x8A, .reg, realTypes, 4, 0⟩,
   ⟨0x8B, .imm, realTypes, 4, 0⟩,
   ⟨0x8C, .tag, realTypes, 16, 1⟩,
   ⟨0x8D, .loc, realTypes, 16, 0⟩,
   ⟨0x8E, .reg, realTypes, 16, 0⟩,
   ⟨0x8F, .imm, realTypes, 16, 0⟩,
   ⟨0x92, .reg, realTypes, 20, 0⟩,
   ⟨0xA0, .tag, types, 2, 1⟩,
   ⟨0xA1, .loc, types, 2, 0⟩,
   ⟨0xA2, .reg, types, 2, 0⟩,
   ⟨0xA3, .imm, types, 2, 0⟩,
   ⟨0xA4, .tag, types, 2, 1⟩,
   ⟨0xA5, .loc, types, 2, 0⟩,
   ⟨0xA6, .reg, types, 2, 0⟩,
   ⟨0xA7, .imm, types, 2, 0⟩,
   ⟨0xA8, .tag, types, 2, 1⟩,
   ⟨0xA9, .loc, types, 2, 0⟩,
   ⟨0xAA, .reg, types, 2, 0⟩,
   ⟨0xAB, .imm, types, 2, 0⟩,
   ⟨0xAC, .tag, types, 2, 1⟩,
   ⟨0xAD, .loc, types, 2, 0⟩,
   ⟨0xAE, .reg, types, 2, 0⟩,
   ⟨0xAF, .imm, types, 2, 0⟩,
   ⟨0xB0, .tag, types, 2, 1⟩,
   ⟨0xB1, .loc, types, 2, 0⟩,
   ⟨0xB2, .reg, types, 2, 0⟩,
   ⟨0xB3, .imm, types, 2, 0⟩,
   ⟨0xB4, .tag, types, 2, 1⟩,
   ⟨0xB5, .loc, types, 2, 0⟩,
   ⟨0xB6, .reg, types, 2, 0⟩,
   ⟨0xB7, .imm, types, 2, 0⟩]

/-- Conversion, control-flow and source rows of R94. -/
def controlRows : List OpRow :=
  [⟨0xBA, .cvt, types, 3, 0⟩,
   ⟨0xBE, .reg, types, 2, 0⟩,
   ⟨0xC2, .reg, realTypes, 16, 0⟩,
   ⟨0xE0, .jump, [0], 2, 0⟩,
   ⟨0xE1, .jump, [0], 1, 0⟩,
   ⟨0xE2, .jump, [0], 1, 0⟩,
   ⟨0xE3, .jump, [0], 3, 0⟩,
   ⟨0xE4, .none, [0], 3, 0⟩,
   ⟨0xE5, .none, [0], 1, 0⟩,
   ⟨0xF0, .now, [7], 1, 0⟩,
   ⟨0xF1, .source, [1, 7, 8, 9], 1, 0⟩]

/-- The opcode table, R94. -/
def opTable : List OpRow := bitRows ++ instRows ++ moveRows ++ realRows ++ controlRows

/-- The fields of an instruction word, R59. -/
structure WordFields where
  op : BitVec 8
  m : BitVec 4
  o : BitVec 20
  im : W32
  deriving DecidableEq, Repr

/-- R59: OPCODE [63:56], MOD [55:52], OPERAND [51:32], IMM [31:0]. -/
def packWord (f : WordFields) : W64 := f.op ++ f.m ++ f.o ++ f.im

def unpackWord (w : W64) : WordFields :=
  { op := w.extractLsb' 56 8, m := w.extractLsb' 52 4, o := w.extractLsb' 32 20, im := w.extractLsb' 0 32 }

def rowOf (f : WordFields) : Option OpRow := opTable.find? fun r => r.code == f.op.toNat

/-- The fields that the layout marks zero are zero (R60, R61). Layout E with a register preset names [35:32] only;
[51:36] is held to be zero as in the other layouts that name a register there: DESIGN CHOICE
(notes/assumptions/70.md). -/
def zeroesOk (lay : Layout) (f : WordFields) : Bool :=
  let high := f.o.toNat / 16
  let low28 := f.im.toNat % 2 ^ 28
  match lay with
  | .bit =>
    (f.m.toNat != 3 || f.o.toNat < 2) && (f.m.toNat != 4 || high == 0) &&
      (if f.m.toNat == 1 || f.m.toNat == 4 then f.im.toNat < 64 else f.im.toNat == 0)
  | .none => f.o.toNat == 0 && f.im.toNat == 0
  | .edge => f.o.toNat == 0
  | .timer => !f.m.getLsbD 2 || high == 0
  | .counter => !f.m.getLsbD 1 || high == 0
  | .instRead => high == 0
  | .imm => high == 0
  | .block => low28 == 0
  | .tag => low28 == 0
  | .loc => f.o.toNat < 2 ^ 13 && low28 == 0
  | .reg => high == 0 && low28 == 0
  | .cvt => high == 0 && f.im.toNat % 2 ^ 24 == 0 && types.contains (low28 / 2 ^ 24)
  | .jump => f.o.toNat == 0
  | .now => f.o.toNat == 0 && low28 == 0
  | .source => low28 == 0

/-- R61: the opcode is defined, its MOD value is allowed and every field marked zero is zero. -/
def wordOk (f : WordFields) : Bool :=
  match rowOf f with
  | some r => r.mods.contains f.m.toNat && zeroesOk r.layout f
  | none => false

/-- The word fields of a lane instruction, with the lane that executes it; none for every other command. -/
def fieldsOf : Instr → Option (LaneId × WordFields)
  | .nop l m o im => some (l, ⟨0x01, m, o, im⟩)
  | .ld l m o im => some (l, ⟨0x10, m, o, im⟩)
  | .ldn l m o im => some (l, ⟨0x11, m, o, im⟩)
  | .and l m o im => some (l, ⟨0x12, m, o, im⟩)
  | .andn l m o im => some (l, ⟨0x13, m, o, im⟩)
  | .or l m o im => some (l, ⟨0x14, m, o, im⟩)
  | .orn l m o im => some (l, ⟨0x15, m, o, im⟩)
  | .xor l m o im => some (l, ⟨0x16, m, o, im⟩)
  | .xorn l m o im => some (l, ⟨0x17, m, o, im⟩)
  | .not l m o im => some (l, ⟨0x1C, m, o, im⟩)
  | .st l m o im => some (l, ⟨0x18, m, o, im⟩)
  | .stn l m o im => some (l, ⟨0x19, m, o, im⟩)
  | .set l m o im => some (l, ⟨0x1A, m, o, im⟩)
  | .rst l m o im => some (l, ⟨0x1B, m, o, im⟩)
  | .andOpen l m o im => some (l, ⟨0x20, m, o, im⟩)
  | .orOpen l m o im => some (l, ⟨0x21, m, o, im⟩)
  | .xorOpen l m o im => some (l, ⟨0x22, m, o, im⟩)
  | .closeBracket l m o im => some (l, ⟨0x23, m, o, im⟩)
  | .ep l m o im => some (l, ⟨0x28, m, o, im⟩)
  | .en l m o im => some (l, ⟨0x29, m, o, im⟩)
  | .ton l m o im => some (l, ⟨0x30, m, o, im⟩)
  | .tof l m o im => some (l, ⟨0x31, m, o, im⟩)
  | .tp l m o im => some (l, ⟨0x32, m, o, im⟩)
  | .ctu l m o im => some (l, ⟨0x38, m, o, im⟩)
  | .ctd l m o im => some (l, ⟨0x39, m, o, im⟩)
  | .ctud l m o im => some (l, ⟨0x3A, m, o, im⟩)
  | .ldi l m o im => some (l, ⟨0x3F, m, o, im⟩)
  | .bld l m o im => some (l, ⟨0x40, m, o, im⟩)
  | .bst l m o im => some (l, ⟨0x41, m, o, im⟩)
  | .band l m o im => some (l, ⟨0x42, m, o, im⟩)
  | .bor l m o im => some (l, ⟨0x43, m, o, im⟩)
  | .bxor l m o im => some (l, ⟨0x44, m, o, im⟩)
  | .ldw l .t m o im => some (l, ⟨0x50, m, o, im⟩)
  | .ldw l .l m o im => some (l, ⟨0x51, m, o, im⟩)
  | .ldw l .i m o im => some (l, ⟨0x53, m, o, im⟩)
  | .stw l .t m o im => some (l, ⟨0x54, m, o, im⟩)
  | .stw l .l m o im => some (l, ⟨0x55, m, o, im⟩)
  | .movw l m o im => some (l, ⟨0x5A, m, o, im⟩)
  | .ldwh l m o im => some (l, ⟨0x5F, m, o, im⟩)
  | .add l .t m o im => some (l, ⟨0x60, m, o, im⟩)
  | .add l .l m o im => some (l, ⟨0x61, m, o, im⟩)
  | .add l .g m o im => some (l, ⟨0x62, m, o, im⟩)
  | .add l .i m o im => some (l, ⟨0x63, m, o, im⟩)
  | .sub l .t m o im => some (l, ⟨0x64, m, o, im⟩)
  | .sub l .l m o im => some (l, ⟨0x65, m, o, im⟩)
  | .sub l .g m o im => some (l, ⟨0x66, m, o, im⟩)
  | .sub l .i m o im => some (l, ⟨0x67, m, o, im⟩)
  | .mul l .t m o im => some (l, ⟨0x68, m, o, im⟩)
  | .mul l .l m o im => some (l, ⟨0x69, m, o, im⟩)
  | .mul l .g m o im => some (l, ⟨0x6A, m, o, im⟩)
  | .mul l .i m o im => some (l, ⟨0x6B, m, o, im⟩)
  | .div l .t m o im => some (l, ⟨0x6C, m, o, im⟩)
  | .div l .l m o im => some (l, ⟨0x6D, m, o, im⟩)
  | .div l .g m o im => some (l, ⟨0x6E, m, o, im⟩)
  | .div l .i m o im => some (l, ⟨0x6F, m, o, im⟩)
  | .mod l .t m o im => some (l, ⟨0x70, m, o, im⟩)
  | .mod l .l m o im => some (l, ⟨0x71, m, o, im⟩)
  | .mod l .g m o im => some (l, ⟨0x72, m, o, im⟩)
  | .mod l .i m o im => some (l, ⟨0x73, m, o, im⟩)
  | .neg l m o im => some (l, ⟨0x76, m, o, im⟩)
  | .abs l m o im => some (l, ⟨0x7A, m, o, im⟩)
  | .fadd l .t m o im => some (l, ⟨0x80, m, o, im⟩)
  | .fadd l .l m o im => some (l, ⟨0x81, m, o, im⟩)
  | .fadd l .g m o im => some (l, ⟨0x82, m, o, im⟩)
  | .fadd l .i m o im => some (l, ⟨0x83, m, o, im⟩)
  | .fsub l .t m o im => some (l, ⟨0x84, m, o, im⟩)
  | .fsub l .l m o im => some (l, ⟨0x85, m, o, im⟩)
  | .fsub l .g m o im => some (l, ⟨0x86, m, o, im⟩)
  | .fsub l .i m o im => some (l, ⟨0x87, m, o, im⟩)
  | .fmul l .t m o im => some (l, ⟨0x88, m, o, im⟩)
  | .fmul l .l m o im => some (l, ⟨0x89, m, o, im⟩)
  | .fmul l .g m o im => some (l, ⟨0x8A, m, o, im⟩)
  | .fmul l .i m o im => some (l, ⟨0x8B, m, o, im⟩)
  | .fdiv l .t m o im => some (l, ⟨0x8C, m, o, im⟩)
  | .fdiv l .l m o im => some (l, ⟨0x8D, m, o, im⟩)
  | .fdiv l .g m o im => some (l, ⟨0x8E, m, o, im⟩)
  | .fdiv l .i m o im => some (l, ⟨0x8F, m, o, im⟩)
  | .fsqrt l m o im => some (l, ⟨0x92, m, o, im⟩)
  | .cmpeq l .t m o im => some (l, ⟨0xA0, m, o, im⟩)
  | .cmpeq l .l m o im => some (l, ⟨0xA1, m, o, im⟩)
  | .cmpeq l .g m o im => some (l, ⟨0xA2, m, o, im⟩)
  | .cmpeq l .i m o im => some (l, ⟨0xA3, m, o, im⟩)
  | .cmpne l .t m o im => some (l, ⟨0xA4, m, o, im⟩)
  | .cmpne l .l m o im => some (l, ⟨0xA5, m, o, im⟩)
  | .cmpne l .g m o im => some (l, ⟨0xA6, m, o, im⟩)
  | .cmpne l .i m o im => some (l, ⟨0xA7, m, o, im⟩)
  | .cmplt l .t m o im => some (l, ⟨0xA8, m, o, im⟩)
  | .cmplt l .l m o im => some (l, ⟨0xA9, m, o, im⟩)
  | .cmplt l .g m o im => some (l, ⟨0xAA, m, o, im⟩)
  | .cmplt l .i m o im => some (l, ⟨0xAB, m, o, im⟩)
  | .cmple l .t m o im => some (l, ⟨0xAC, m, o, im⟩)
  | .cmple l .l m o im => some (l, ⟨0xAD, m, o, im⟩)
  | .cmple l .g m o im => some (l, ⟨0xAE, m, o, im⟩)
  | .cmple l .i m o im => some (l, ⟨0xAF, m, o, im⟩)
  | .cmpgt l .t m o im => some (l, ⟨0xB0, m, o, im⟩)
  | .cmpgt l .l m o im => some (l, ⟨0xB1, m, o, im⟩)
  | .cmpgt l .g m o im => some (l, ⟨0xB2, m, o, im⟩)
  | .cmpgt l .i m o im => some (l, ⟨0xB3, m, o, im⟩)
  | .cmpge l .t m o im => some (l, ⟨0xB4, m, o, im⟩)
  | .cmpge l .l m o im => some (l, ⟨0xB5, m, o, im⟩)
  | .cmpge l .g m o im => some (l, ⟨0xB6, m, o, im⟩)
  | .cmpge l .i m o im => some (l, ⟨0xB7, m, o, im⟩)
  | .cvt l m o im => some (l, ⟨0xBA, m, o, im⟩)
  | .limit l m o im => some (l, ⟨0xBE, m, o, im⟩)
  | .scale l m o im => some (l, ⟨0xC2, m, o, im⟩)
  | .jmp l m o im => some (l, ⟨0xE0, m, o, im⟩)
  | .jmpc l m o im => some (l, ⟨0xE1, m, o, im⟩)
  | .jmpcn l m o im => some (l, ⟨0xE2, m, o, im⟩)
  | .call l m o im => some (l, ⟨0xE3, m, o, im⟩)
  | .ret l m o im => some (l, ⟨0xE4, m, o, im⟩)
  | .tend l m o im => some (l, ⟨0xE5, m, o, im⟩)
  | .tnow l m o im => some (l, ⟨0xF0, m, o, im⟩)
  | .agree _ l m o im => some (l, ⟨0xF1, m, o, im⟩)
  | _ => none

/-- The lane instruction that an opcode and its fields stand for; `t` is the time of the event for AGREE. -/
def instrOf (t : Nat) (l : LaneId) (f : WordFields) : Option Instr :=
  match f.op.toNat with
  | 0x01 => some (.nop l f.m f.o f.im)
  | 0x10 => some (.ld l f.m f.o f.im)
  | 0x11 => some (.ldn l f.m f.o f.im)
  | 0x12 => some (.and l f.m f.o f.im)
  | 0x13 => some (.andn l f.m f.o f.im)
  | 0x14 => some (.or l f.m f.o f.im)
  | 0x15 => some (.orn l f.m f.o f.im)
  | 0x16 => some (.xor l f.m f.o f.im)
  | 0x17 => some (.xorn l f.m f.o f.im)
  | 0x18 => some (.st l f.m f.o f.im)
  | 0x19 => some (.stn l f.m f.o f.im)
  | 0x1A => some (.set l f.m f.o f.im)
  | 0x1B => some (.rst l f.m f.o f.im)
  | 0x1C => some (.not l f.m f.o f.im)
  | 0x20 => some (.andOpen l f.m f.o f.im)
  | 0x21 => some (.orOpen l f.m f.o f.im)
  | 0x22 => some (.xorOpen l f.m f.o f.im)
  | 0x23 => some (.closeBracket l f.m f.o f.im)
  | 0x28 => some (.ep l f.m f.o f.im)
  | 0x29 => some (.en l f.m f.o f.im)
  | 0x30 => some (.ton l f.m f.o f.im)
  | 0x31 => some (.tof l f.m f.o f.im)
  | 0x32 => some (.tp l f.m f.o f.im)
  | 0x38 => some (.ctu l f.m f.o f.im)
  | 0x39 => some (.ctd l f.m f.o f.im)
  | 0x3A => some (.ctud l f.m f.o f.im)
  | 0x3F => some (.ldi l f.m f.o f.im)
  | 0x40 => some (.bld l f.m f.o f.im)
  | 0x41 => some (.bst l f.m f.o f.im)
  | 0x42 => some (.band l f.m f.o f.im)
  | 0x43 => some (.bor l f.m f.o f.im)
  | 0x44 => some (.bxor l f.m f.o f.im)
  | 0x50 => some (.ldw l .t f.m f.o f.im)
  | 0x51 => some (.ldw l .l f.m f.o f.im)
  | 0x53 => some (.ldw l .i f.m f.o f.im)
  | 0x54 => some (.stw l .t f.m f.o f.im)
  | 0x55 => some (.stw l .l f.m f.o f.im)
  | 0x5A => some (.movw l f.m f.o f.im)
  | 0x5F => some (.ldwh l f.m f.o f.im)
  | 0x60 => some (.add l .t f.m f.o f.im)
  | 0x61 => some (.add l .l f.m f.o f.im)
  | 0x62 => some (.add l .g f.m f.o f.im)
  | 0x63 => some (.add l .i f.m f.o f.im)
  | 0x64 => some (.sub l .t f.m f.o f.im)
  | 0x65 => some (.sub l .l f.m f.o f.im)
  | 0x66 => some (.sub l .g f.m f.o f.im)
  | 0x67 => some (.sub l .i f.m f.o f.im)
  | 0x68 => some (.mul l .t f.m f.o f.im)
  | 0x69 => some (.mul l .l f.m f.o f.im)
  | 0x6A => some (.mul l .g f.m f.o f.im)
  | 0x6B => some (.mul l .i f.m f.o f.im)
  | 0x6C => some (.div l .t f.m f.o f.im)
  | 0x6D => some (.div l .l f.m f.o f.im)
  | 0x6E => some (.div l .g f.m f.o f.im)
  | 0x6F => some (.div l .i f.m f.o f.im)
  | 0x70 => some (.mod l .t f.m f.o f.im)
  | 0x71 => some (.mod l .l f.m f.o f.im)
  | 0x72 => some (.mod l .g f.m f.o f.im)
  | 0x73 => some (.mod l .i f.m f.o f.im)
  | 0x76 => some (.neg l f.m f.o f.im)
  | 0x7A => some (.abs l f.m f.o f.im)
  | 0x80 => some (.fadd l .t f.m f.o f.im)
  | 0x81 => some (.fadd l .l f.m f.o f.im)
  | 0x82 => some (.fadd l .g f.m f.o f.im)
  | 0x83 => some (.fadd l .i f.m f.o f.im)
  | 0x84 => some (.fsub l .t f.m f.o f.im)
  | 0x85 => some (.fsub l .l f.m f.o f.im)
  | 0x86 => some (.fsub l .g f.m f.o f.im)
  | 0x87 => some (.fsub l .i f.m f.o f.im)
  | 0x88 => some (.fmul l .t f.m f.o f.im)
  | 0x89 => some (.fmul l .l f.m f.o f.im)
  | 0x8A => some (.fmul l .g f.m f.o f.im)
  | 0x8B => some (.fmul l .i f.m f.o f.im)
  | 0x8C => some (.fdiv l .t f.m f.o f.im)
  | 0x8D => some (.fdiv l .l f.m f.o f.im)
  | 0x8E => some (.fdiv l .g f.m f.o f.im)
  | 0x8F => some (.fdiv l .i f.m f.o f.im)
  | 0x92 => some (.fsqrt l f.m f.o f.im)
  | 0xA0 => some (.cmpeq l .t f.m f.o f.im)
  | 0xA1 => some (.cmpeq l .l f.m f.o f.im)
  | 0xA2 => some (.cmpeq l .g f.m f.o f.im)
  | 0xA3 => some (.cmpeq l .i f.m f.o f.im)
  | 0xA4 => some (.cmpne l .t f.m f.o f.im)
  | 0xA5 => some (.cmpne l .l f.m f.o f.im)
  | 0xA6 => some (.cmpne l .g f.m f.o f.im)
  | 0xA7 => some (.cmpne l .i f.m f.o f.im)
  | 0xA8 => some (.cmplt l .t f.m f.o f.im)
  | 0xA9 => some (.cmplt l .l f.m f.o f.im)
  | 0xAA => some (.cmplt l .g f.m f.o f.im)
  | 0xAB => some (.cmplt l .i f.m f.o f.im)
  | 0xAC => some (.cmple l .t f.m f.o f.im)
  | 0xAD => some (.cmple l .l f.m f.o f.im)
  | 0xAE => some (.cmple l .g f.m f.o f.im)
  | 0xAF => some (.cmple l .i f.m f.o f.im)
  | 0xB0 => some (.cmpgt l .t f.m f.o f.im)
  | 0xB1 => some (.cmpgt l .l f.m f.o f.im)
  | 0xB2 => some (.cmpgt l .g f.m f.o f.im)
  | 0xB3 => some (.cmpgt l .i f.m f.o f.im)
  | 0xB4 => some (.cmpge l .t f.m f.o f.im)
  | 0xB5 => some (.cmpge l .l f.m f.o f.im)
  | 0xB6 => some (.cmpge l .g f.m f.o f.im)
  | 0xB7 => some (.cmpge l .i f.m f.o f.im)
  | 0xBA => some (.cvt l f.m f.o f.im)
  | 0xBE => some (.limit l f.m f.o f.im)
  | 0xC2 => some (.scale l f.m f.o f.im)
  | 0xE0 => some (.jmp l f.m f.o f.im)
  | 0xE1 => some (.jmpc l f.m f.o f.im)
  | 0xE2 => some (.jmpcn l f.m f.o f.im)
  | 0xE3 => some (.call l f.m f.o f.im)
  | 0xE4 => some (.ret l f.m f.o f.im)
  | 0xE5 => some (.tend l f.m f.o f.im)
  | 0xF0 => some (.tnow l f.m f.o f.im)
  | 0xF1 => some (.agree t l f.m f.o f.im)
  | _ => none

/-- The 64-bit word of a lane instruction. -/
def encode (i : Instr) : Option W64 := (fieldsOf i).map fun p => packWord p.2

/-- The lane instruction that a word stands for on lane `l`; none where R61 makes the word invalid. -/
def decodeWord (t : Nat) (l : LaneId) (w : W64) : Option Instr :=
  let f := unpackWord w
  if wordOk f then instrOf t l f else none

/-- The instant that a lane instruction carries: AGREE samples at one, the others carry none. -/
def instantOf : Instr → Nat
  | .agree t _ _ _ _ => t
  | _ => 0

end Sys2Proof
end

