-- ==== Sys2Proof/Machine/Util.lean ====
section
/-! DEFINITION. Tables, byte strings and check codes: the plain helpers of the model. -/

namespace Sys2Proof.Machine

open Sys2Proof

/-! ### Tables: keys strictly rising -/

def tget {α : Type} (k : Nat) : Tbl α → Option α
  | [] => none
  | (j, x) :: r => if j = k then some x else tget k r

/-- Writes the entry of key `k`, keeping the keys strictly rising. -/
def tput {α : Type} (k : Nat) (x : α) : Tbl α → Tbl α
  | [] => [(k, x)]
  | (j, y) :: r => if k < j then (k, x) :: (j, y) :: r else if j = k then (k, x) :: r else (j, y) :: tput k x r

def tdel {α : Type} (k : Nat) : Tbl α → Tbl α
  | [] => []
  | (j, y) :: r => if j = k then r else (j, y) :: tdel k r

/-- Applies `g` to the entry of key `k` where there is one. -/
def tmod {α : Type} (k : Nat) (g : α → α) : Tbl α → Tbl α
  | [] => []
  | (j, y) :: r => if j = k then (j, g y) :: r else (j, y) :: tmod k g r

def tmap {α β : Type} (g : Nat → α → β) (m : Tbl α) : Tbl β := m.map fun p => (p.1, g p.1 p.2)

def thas {α : Type} (k : Nat) (m : Tbl α) : Bool := (tget k m).isSome

/-! ### Lists and vectors -/

/-- Replaces element `n` of a list; a list without that element stays as it is. -/
def lmod {α : Type} (n : Nat) (g : α → α) : List α → List α
  | [] => []
  | x :: r => match n with
    | 0 => g x :: r
    | k + 1 => x :: lmod k g r

def vmod {α : Type} {n : Nat} (v : Vector α n) (i : Fin n) (g : α → α) : Vector α n := v.set i (g v[i])

/-- The first `n` elements that satisfy nothing further: the last `n` of a list. -/
def lastN {α : Type} (n : Nat) (xs : List α) : List α := xs.drop (xs.length - n)

def insertSorted (x : Nat) : List Nat → List Nat
  | [] => [x]
  | y :: r => if x < y then x :: y :: r else if x = y then y :: r else y :: insertSorted x r

/-- Elements in the order of a key, stable. -/
def insertBy {α : Type} (key : α → Nat) (x : α) : List α → List α
  | [] => [x]
  | y :: r => if key x < key y then x :: y :: r else y :: insertBy key x r

def sortBy {α : Type} (key : α → Nat) (xs : List α) : List α := xs.foldr (insertBy key) []

/-! ### Bytes, little-endian (R7) -/

def byteOf (n : Nat) : Byte := BitVec.ofNat 8 n

/-- The low `k` bytes of a number, least significant first. -/
def leBytes : Nat → Nat → List Byte
  | 0, _ => []
  | k + 1, n => byteOf n :: leBytes k (n / 256)

def leNat : List Byte → Nat
  | [] => 0
  | b :: r => b.toNat + 256 * leNat r

def le1 (n : Nat) : List Byte := leBytes 1 n
def le2 (n : Nat) : List Byte := leBytes 2 n
def le4 (n : Nat) : List Byte := leBytes 4 n
def le8 (n : Nat) : List Byte := leBytes 8 n

/-- Bytes `at` to `at + k - 1`, missing ones as zero. -/
def sliceAt (bs : List Byte) (pos k : Nat) : List Byte :=
  let got := (bs.drop pos).take k
  got ++ List.replicate (k - got.length) 0

def natAt (bs : List Byte) (pos k : Nat) : Nat := leNat (sliceAt bs pos k)

/-- A signed number in two's complement of `bits` bits, and back. -/
def toSigned (bits n : Nat) : Int := if n % 2 ^ bits < 2 ^ (bits - 1) then (n % 2 ^ bits : Nat) else (n % 2 ^ bits : Nat) - (2 ^ bits : Int)

def ofSigned (bits : Nat) (x : Int) : Nat := (x % (2 ^ bits : Int)).toNat

def zeros (n : Nat) : List Byte := List.replicate n 0

/-- Pads with zeros to a multiple of `k`. -/
def padTo (k : Nat) (bs : List Byte) : List Byte := bs ++ zeros ((k - bs.length % k) % k)

/-- Bit `n` of a number as 0 or 1, and a flag at a place. -/
def flag (n : Nat) (b : Bool) : Nat := if b then 2 ^ n else 0

def bitAt (w n : Nat) : Bool := w / 2 ^ n % 2 == 1

/-- Saturating counters of 32 bits. -/
def sat32 (n : Nat) : Nat := min n 0xFFFFFFFF

/-! ### Check codes -/

/-- Castagnoli, reflected: one bit. -/
def crc32cBit (c : BitVec 32) : BitVec 32 := if c.getLsbD 0 then (c >>> 1) ^^^ 0x82F63B78#32 else c >>> 1

def iter {α : Type} : Nat → (α → α) → α → α
  | 0, _, x => x
  | k + 1, g, x => iter k g (g x)

def crc32cByte (c : BitVec 32) (b : Byte) : BitVec 32 := iter 8 crc32cBit (c ^^^ b.setWidth 32)

/-- CRC-32C: initial value and final exclusive-or of all ones. -/
def crc32c (bs : List Byte) : BitVec 32 := bs.foldl crc32cByte 0xFFFFFFFF#32 ^^^ 0xFFFFFFFF#32

def crc64Bit (c : BitVec 64) : BitVec 64 := if c.getLsbD 63 then (c <<< 1) ^^^ 0x42F0E1EBA9EA3693#64 else c <<< 1

/-- CRC-64 with the ECMA-182 polynomial, initial value zero. -/
def crc64 (bs : List Byte) : BitVec 64 :=
  bs.foldl (fun c b => iter 8 crc64Bit (c ^^^ BitVec.shiftLeft (b.setWidth 64) 56)) 0#64

def crc16Bit (c : BitVec 16) : BitVec 16 := if c.getLsbD 15 then (c <<< 1) ^^^ 0x1021#16 else c <<< 1

/-- CRC-16, polynomial 0x1021, initial value all ones. -/
def crc16 (bs : List Byte) : BitVec 16 :=
  bs.foldl (fun c b => iter 8 crc16Bit (c ^^^ BitVec.shiftLeft (b.setWidth 16) 8)) 0xFFFF#16

end Sys2Proof.Machine
end

