-- ==== Sys2Proof/Machine/Crypto.lean ====
section
/-! DEFINITION. The ciphers the manual names: AES-128 and AES-GMAC (R205, R206), SHA-384 and the check of an ECDSA
signature over P-384 (R446). -/

namespace Sys2Proof.Machine

open Sys2Proof

/-! ### AES-128 -/

/-- The S-box of AES. -/
def aesBox : List Nat :=
  [0x63, 0x7C, 0x77, 0x7B, 0xF2, 0x6B, 0x6F, 0xC5, 0x30, 0x01, 0x67, 0x2B, 0xFE, 0xD7, 0xAB, 0x76, 0xCA, 0x82, 0xC9, 0x7D, 0xFA, 0x59, 0x47, 0xF0, 0xAD, 0xD4, 0xA2, 0xAF, 0x9C, 0xA4, 0x72, 0xC0] ++
  [0xB7, 0xFD, 0x93, 0x26, 0x36, 0x3F, 0xF7, 0xCC, 0x34, 0xA5, 0xE5, 0xF1, 0x71, 0xD8, 0x31, 0x15, 0x04, 0xC7, 0x23, 0xC3, 0x18, 0x96, 0x05, 0x9A, 0x07, 0x12, 0x80, 0xE2, 0xEB, 0x27, 0xB2, 0x75] ++
  [0x09, 0x83, 0x2C, 0x1A, 0x1B, 0x6E, 0x5A, 0xA0, 0x52, 0x3B, 0xD6, 0xB3, 0x29, 0xE3, 0x2F, 0x84, 0x53, 0xD1, 0x00, 0xED, 0x20, 0xFC, 0xB1, 0x5B, 0x6A, 0xCB, 0xBE, 0x39, 0x4A, 0x4C, 0x58, 0xCF] ++
  [0xD0, 0xEF, 0xAA, 0xFB, 0x43, 0x4D, 0x33, 0x85, 0x45, 0xF9, 0x02, 0x7F, 0x50, 0x3C, 0x9F, 0xA8, 0x51, 0xA3, 0x40, 0x8F, 0x92, 0x9D, 0x38, 0xF5, 0xBC, 0xB6, 0xDA, 0x21, 0x10, 0xFF, 0xF3, 0xD2] ++
  [0xCD, 0x0C, 0x13, 0xEC, 0x5F, 0x97, 0x44, 0x17, 0xC4, 0xA7, 0x7E, 0x3D, 0x64, 0x5D, 0x19, 0x73, 0x60, 0x81, 0x4F, 0xDC, 0x22, 0x2A, 0x90, 0x88, 0x46, 0xEE, 0xB8, 0x14, 0xDE, 0x5E, 0x0B, 0xDB] ++
  [0xE0, 0x32, 0x3A, 0x0A, 0x49, 0x06, 0x24, 0x5C, 0xC2, 0xD3, 0xAC, 0x62, 0x91, 0x95, 0xE4, 0x79, 0xE7, 0xC8, 0x37, 0x6D, 0x8D, 0xD5, 0x4E, 0xA9, 0x6C, 0x56, 0xF4, 0xEA, 0x65, 0x7A, 0xAE, 0x08] ++
  [0xBA, 0x78, 0x25, 0x2E, 0x1C, 0xA6, 0xB4, 0xC6, 0xE8, 0xDD, 0x74, 0x1F, 0x4B, 0xBD, 0x8B, 0x8A, 0x70, 0x3E, 0xB5, 0x66, 0x48, 0x03, 0xF6, 0x0E, 0x61, 0x35, 0x57, 0xB9, 0x86, 0xC1, 0x1D, 0x9E] ++
  [0xE1, 0xF8, 0x98, 0x11, 0x69, 0xD9, 0x8E, 0x94, 0x9B, 0x1E, 0x87, 0xE9, 0xCE, 0x55, 0x28, 0xDF, 0x8C, 0xA1, 0x89, 0x0D, 0xBF, 0xE6, 0x42, 0x68, 0x41, 0x99, 0x2D, 0x0F, 0xB0, 0x54, 0xBB, 0x16]

def subByte (b : Byte) : Byte := byteOf (aesBox.getD b.toNat 0)

def xorBytes (a b : List Byte) : List Byte := a.zipWith (· ^^^ ·) b

/-- Multiplication by x in the field of AES. -/
def xtime (b : Byte) : Byte := if b.getLsbD 7 then (b <<< 1) ^^^ 0x1B#8 else b <<< 1

/-- The next round key from a round key and the round constant. -/
def nextKey (rc : Byte) (k : List Byte) : List Byte :=
  let w0 := k.take 4
  let w1 := (k.drop 4).take 4
  let w2 := (k.drop 8).take 4
  let w3 := (k.drop 12).take 4
  let t := (w3.drop 1 ++ w3.take 1).map subByte
  let t := xorBytes t [rc, 0, 0, 0]
  let v0 := xorBytes w0 t
  let v1 := xorBytes w1 v0
  let v2 := xorBytes w2 v1
  v0 ++ v1 ++ v2 ++ xorBytes w3 v2

def shiftRows (st : List Byte) : List Byte :=
  (List.range 16).map fun i => st.getD ((i + 4 * (i % 4)) % 16) 0

def mixColumn (c : List Byte) : List Byte :=
  (List.range 4).map fun i =>
    let a (j : Nat) : Byte := c.getD ((i + j) % 4) 0
    xtime (a 0) ^^^ (xtime (a 1) ^^^ a 1) ^^^ a 2 ^^^ a 3

def mixColumns (st : List Byte) : List Byte :=
  mixColumn (st.take 4) ++ mixColumn ((st.drop 4).take 4) ++ mixColumn ((st.drop 8).take 4) ++ mixColumn (st.drop 12)

/-- The middle rounds, then the last one without MixColumns. -/
def aesRounds : Nat → Byte → List Byte → List Byte → List Byte
  | 0, rc, key, st => xorBytes (shiftRows (st.map subByte)) (nextKey rc key)
  | n + 1, rc, key, st =>
    let key := nextKey rc key
    aesRounds n (xtime rc) key (xorBytes (mixColumns (shiftRows (st.map subByte))) key)

/-- AES-128 of one block. -/
def aes128 (key block : List Byte) : List Byte := aesRounds 9 1 key (xorBytes block key)

/-! ### GMAC -/

def beNat (bs : List Byte) : Nat := bs.foldl (fun n b => n * 256 + b.toNat) 0

/-- The low `k` bytes of a number, most significant first. -/
def beBytes (k n : Nat) : List Byte := (leBytes k n).reverse

/-- One bit of a product in the field of GHASH: `z` gathers, `v` runs over x^i · h. -/
def ghashBit (x : BitVec 128) (s : BitVec 128 × BitVec 128) (i : Nat) : BitVec 128 × BitVec 128 :=
  let z := if x.getLsbD (127 - i) then s.1 ^^^ s.2 else s.1
  let v := if s.2.getLsbD 0 then (s.2 >>> 1) ^^^ BitVec.ofNat 128 (0xE1 * 2 ^ 120) else s.2 >>> 1
  (z, v)

def ghashMul (x h : BitVec 128) : BitVec 128 := ((List.range 128).foldl (ghashBit x) (0, h)).1

/-- Blocks of 16 bytes of a padded string. -/
def blocks16 : Nat → List Byte → List (List Byte)
  | 0, _ => []
  | n + 1, bs => if bs.isEmpty then [] else sliceAt bs 0 16 :: blocks16 n (bs.drop 16)

/-- AES-GMAC with a 96-bit IV: the 16-byte tag over the additional authenticated data. -/
def gmac (key iv aad : List Byte) : List Byte :=
  let h := BitVec.ofNat 128 (beNat (aes128 key (zeros 16)))
  let y := (blocks16 aad.length aad).foldl (fun y b => ghashMul (y ^^^ BitVec.ofNat 128 (beNat b)) h) (0 : BitVec 128)
  let y := ghashMul (y ^^^ BitVec.ofNat 128 (aad.length * 8 * 2 ^ 64)) h
  xorBytes (beBytes 16 y.toNat) (aes128 key (iv ++ beBytes 4 1))

/-! ### SHA-384 -/

/-- Round constants of SHA-512. -/
def shaK : List Nat :=
  [0x428A2F98D728AE22, 0x7137449123EF65CD, 0xB5C0FBCFEC4D3B2F, 0xE9B5DBA58189DBBC] ++
  [0x3956C25BF348B538, 0x59F111F1B605D019, 0x923F82A4AF194F9B, 0xAB1C5ED5DA6D8118] ++
  [0xD807AA98A3030242, 0x12835B0145706FBE, 0x243185BE4EE4B28C, 0x550C7DC3D5FFB4E2] ++
  [0x72BE5D74F27B896F, 0x80DEB1FE3B1696B1, 0x9BDC06A725C71235, 0xC19BF174CF692694] ++
  [0xE49B69C19EF14AD2, 0xEFBE4786384F25E3, 0x0FC19DC68B8CD5B5, 0x240CA1CC77AC9C65] ++
  [0x2DE92C6F592B0275, 0x4A7484AA6EA6E483, 0x5CB0A9DCBD41FBD4, 0x76F988DA831153B5] ++
  [0x983E5152EE66DFAB, 0xA831C66D2DB43210, 0xB00327C898FB213F, 0xBF597FC7BEEF0EE4] ++
  [0xC6E00BF33DA88FC2, 0xD5A79147930AA725, 0x06CA6351E003826F, 0x142929670A0E6E70] ++
  [0x27B70A8546D22FFC, 0x2E1B21385C26C926, 0x4D2C6DFC5AC42AED, 0x53380D139D95B3DF] ++
  [0x650A73548BAF63DE, 0x766A0ABB3C77B2A8, 0x81C2C92E47EDAEE6, 0x92722C851482353B] ++
  [0xA2BFE8A14CF10364, 0xA81A664BBC423001, 0xC24B8B70D0F89791, 0xC76C51A30654BE30] ++
  [0xD192E819D6EF5218, 0xD69906245565A910, 0xF40E35855771202A, 0x106AA07032BBD1B8] ++
  [0x19A4C116B8D2D0C8, 0x1E376C085141AB53, 0x2748774CDF8EEB99, 0x34B0BCB5E19B48A8] ++
  [0x391C0CB3C5C95A63, 0x4ED8AA4AE3418ACB, 0x5B9CCA4F7763E373, 0x682E6FF3D6B2B8A3] ++
  [0x748F82EE5DEFB2FC, 0x78A5636F43172F60, 0x84C87814A1F0AB72, 0x8CC702081A6439EC] ++
  [0x90BEFFFA23631E28, 0xA4506CEBDE82BDE9, 0xBEF9A3F7B2C67915, 0xC67178F2E372532B] ++
  [0xCA273ECEEA26619C, 0xD186B8C721C0C207, 0xEADA7DD6CDE0EB1E, 0xF57D4F7FEE6ED178] ++
  [0x06F067AA72176FBA, 0x0A637DC5A2C898A6, 0x113F9804BEF90DAE, 0x1B710B35131C471B] ++
  [0x28DB77F523047D84, 0x32CAAB7B40C72493, 0x3C9EBE0A15C9BEBC, 0x431D67C49C100D4C] ++
  [0x4CC5D4BECB3E42B6, 0x597F299CFC657E2A, 0x5FCB6FAB3AD6FAEC, 0x6C44198C4A475817]

/-- Initial hash value of SHA-384. -/
def shaInit : List Nat :=
  [0xCBBB9D5DC1059ED8, 0x629A292A367CD507, 0x9159015A3070DD17, 0x152FECD8F70E5939] ++
  [0x67332667FFC00B31, 0x8EB44A8768581511, 0xDB0C2E0D64F98FA7, 0x47B5481DBEFA4FA4]

def rotr (n : Nat) (x : W64) : W64 := x.rotateRight n

/-- Extends the 16 words of a block to 80; the latest word stands first. -/
def shaSchedule : Nat → List W64 → List W64
  | 0, ws => ws
  | n + 1, ws =>
    let a := ws.getD 1 0
    let b := ws.getD 14 0
    let s0 := rotr 1 b ^^^ rotr 8 b ^^^ (b >>> 7)
    let s1 := rotr 19 a ^^^ rotr 61 a ^^^ (a >>> 6)
    shaSchedule n ((s1 + ws.getD 6 0 + s0 + ws.getD 15 0) :: ws)

def shaRound (st : List W64) (kw : W64 × W64) : List W64 :=
  match st with
  | [a, b, c, d, e, f, g, h] =>
    let s1 := rotr 14 e ^^^ rotr 18 e ^^^ rotr 41 e
    let ch := (e &&& f) ^^^ (~~~ e &&& g)
    let t1 := h + s1 + ch + kw.1 + kw.2
    let s0 := rotr 28 a ^^^ rotr 34 a ^^^ rotr 39 a
    let maj := (a &&& b) ^^^ (a &&& c) ^^^ (b &&& c)
    [t1 + (s0 + maj), a, b, c, d + t1, e, f, g]
  | _ => st

def shaWords : Nat → List Byte → List W64
  | 0, _ => []
  | n + 1, bs => BitVec.ofNat 64 (beNat (bs.take 8)) :: shaWords n (bs.drop 8)

def shaBlock (st : List W64) (block : List Byte) : List W64 :=
  let ws := (shaSchedule 64 (shaWords 16 block).reverse).reverse
  let ks := shaK.map (BitVec.ofNat 64)
  ((ks.zip ws).foldl shaRound st).zipWith (· + ·) st

def shaBlocks : Nat → List Byte → List W64 → List W64
  | 0, _, st => st
  | n + 1, bs, st => shaBlocks n (bs.drop 128) (shaBlock st (bs.take 128))

/-- SHA-384 of a byte string: 48 bytes. -/
def sha384 (bs : List Byte) : List Byte :=
  let padded := bs ++ [0x80#8]
  let padded := padded ++ zeros ((240 - padded.length % 128) % 128) ++ beBytes 16 (8 * bs.length)
  ((shaBlocks (padded.length / 128) padded (shaInit.map (BitVec.ofNat 64))).take 6).flatMap fun w => beBytes 8 w.toNat

/-! ### ECDSA over P-384 -/

def ecP : Nat := 2 ^ 384 - 2 ^ 128 - 2 ^ 96 + 2 ^ 32 - 1

def ecN : Nat := 0xFFFFFFFFFFFFFFFFFFFFFFFFFFFFFFFFFFFFFFFFFFFFFFFFC7634D81F4372DDF581A0DB248B0A77AECEC196ACCC52973

def ecB : Nat := 0xB3312FA7E23EE7E4988E056BE3F82D19181D9C6EFE8141120314088F5013875AC656398D8A2ED19D2A85C8EDD3EC2AEF

def ecGx : Nat := 0xAA87CA22BE8B05378EB1C71EF320AD746E1D3B628BA79B9859F741E082542A385502F25DBF55296C3A545E3872760AB7

def ecGy : Nat := 0x3617DE4A96262C6F5D9E98BF9292DC29F8F41DBD289A147CE9DA3113B5F0B8C00A60B1CE1D7E819D7A431D7C90EA0E5F

/-- b^e modulo m, the exponent taken bit by bit from bit `n − 1` down. -/
def powMod (m b e : Nat) : Nat → Nat → Nat
  | 0, r => r
  | n + 1, r => powMod m b e n (r * r % m * (if e.testBit n then b else 1) % m)

/-- Inverse modulo a prime of 384 bits. -/
def invMod (m a : Nat) : Nat := powMod m (a % m) (m - 2) 384 1

/-- a − b modulo m. -/
def subMod (m a b : Nat) : Nat := (a + (m - b % m)) % m

/-- A point of the curve; none is the point at infinity. -/
abbrev EcPoint := Option (Nat × Nat)

def ecAdd (a b : EcPoint) : EcPoint :=
  match a, b with
  | none, b => b
  | a, none => a
  | some (x1, y1), some (x2, y2) =>
    if x1 = x2 ∧ (y1 + y2) % ecP = 0 then none
    else
      let l := if x1 = x2 then subMod ecP (3 * x1 * x1) 3 * invMod ecP (2 * y1) % ecP
               else subMod ecP y2 y1 * invMod ecP (subMod ecP x2 x1) % ecP
      let x := subMod ecP (l * l) (x1 + x2)
      some (x, subMod ecP (l * subMod ecP x1 x) y1)

/-- k · a, the scalar taken bit by bit from bit `n − 1` down. -/
def ecMul (k : Nat) (a : EcPoint) : Nat → EcPoint → EcPoint
  | 0, r => r
  | n + 1, r => let r := ecAdd r r; ecMul k a n (if k.testBit n then ecAdd r a else r)

def onCurve (x y : Nat) : Bool := x < ecP && y < ecP && y * y % ecP == (x * x % ecP * x + subMod ecP ecB (3 * x)) % ecP

/-- The point of an uncompressed public key in SEC1 form, 97 bytes; none where it is no point of the curve. -/
def sec1Point (key : List Byte) : EcPoint :=
  match key with
  | 4 :: r =>
    let x := beNat (r.take 48)
    let y := beNat (r.drop 48)
    if r.length = 96 ∧ onCurve x y = true then some (x, y) else none
  | _ => none

/-- An ECDSA P-384 signature (r, then s, 48 bytes each, big-endian) over the SHA-384 digest of a message. -/
def ecdsaVerify (key message signature : List Byte) : Bool :=
  let r := beNat (signature.take 48)
  let s := beNat (signature.drop 48)
  match sec1Point key with
  | none => false
  | some q =>
    if signature.length = 96 ∧ 0 < r ∧ r < ecN ∧ 0 < s ∧ s < ecN then
      let z := beNat (sha384 message)
      let w := invMod ecN s
      match ecAdd (ecMul (z * w % ecN) (some (ecGx, ecGy)) 384 none) (ecMul (r * w % ecN) (some q) 384 none) with
      | none => false
      | some (x, _) => x % ecN == r
    else false

end Sys2Proof.Machine
end

