-- ==== Sys2Proof/Config.lean ====
section
/-! DEFINITION. What one module's manufacture fixes, and the free values: opaque constants, of which no proof can
learn a value (notes/assumptions/1.md and 3.md). -/

namespace Sys2Proof.Config

/-- The n-th free value drawn in a run (notes/assumptions/1.md). -/
opaque freeValue : Nat → BitVec 64

/-- HW_REV of ID_VERSION (R312). -/
opaque hwRev : BitVec 8

/-- Module serial number (R312). -/
opaque serial : BitVec 64

/-- Ordering variant is -C (R332). -/
opaque coated : Bool

/-- The factory public key of the boot ROM, SEC1 form (R448). -/
opaque factoryKey : List (BitVec 8)

/-- Expected signatures of the self-test blocks in the boot ROM (R370). -/
opaque bistExpected : Fin 14 → BitVec 64

/-- FREE (log 34). Detail of the i-th finding of the n-th list, where the manual states no detail (R331). -/
opaque findingDetail : Nat → Nat → BitVec 32

/-- FREE (log 34). The code by which a journal entry gives the failing check of `PAIR.PROOF` (R177), by check. -/
opaque proofCheck : Nat → BitVec 32

/-- The module's random source, n-th draw (R459). -/
opaque nonce : Nat → BitVec 256

/-- Candidate session IDs, n-th draw (R310); the model takes the first unused non-zero one. -/
opaque sessionId : Nat → BitVec 32

/-- The SHA-384 fingerprint of the device certificate generated at the n-th draw (R458). -/
opaque fingerprint : Nat → BitVec 384

/-- The first-order input filter of R279: time constant in units of 100 µs, previous output and sample, both as
REAL64 bits; the manual gives the filter's order and time constant and no formula. -/
opaque filter : Nat → BitVec 64 → BitVec 64 → BitVec 64

/-- The servo's frequency correction in ppb after a measured offset (R222); the manual gives no servo formula. -/
opaque servoPpb : Int → Int → Int

/-- FREE (log 35). The supply in µV that an update asks for where no present current gives a load estimate (R272): pad voltage in
µV, new current in nA. -/
opaque loadTarget : Int → Int → Int

/-- FREE (log 83). Unicast address of the partner module, which the barges for a node in unicast mode also go to (R180); the manual
does not say how the module learns it. -/
opaque partnerAddress : Nat

/-- FREE (log 85). The module's own 48-bit Ethernet address. -/
opaque ownMac : BitVec 48

/-- FREE (log 85). The Ethernet address that address resolution finds for a unicast IP address. -/
opaque neighbourMac : Nat → BitVec 48

/-- FREE (log 86). The module's PTP clock identity, and its clock quality: class, accuracy and variance as one number. -/
opaque clockIdentity : BitVec 64
opaque clockQuality : Nat

/-- FREE (log 86). Residence and link delay in ns, scaled by the rate ratio, of a relay whose frequency correction in ppb is given
(R227); the manual does not say how the ratio is measured. -/
opaque rateScaled : Int → Int → Int

end Sys2Proof.Config
end

