-- ==== Sys2Proof/Machine/Float.lean ====
section
/-! DEFINITION. IEEE 754 binary32 and binary64 in exact integer arithmetic, rounded to nearest with ties to even,
subnormals kept and every NaN result canonical (R84). -/

namespace Sys2Proof.Machine

open Sys2Proof

/-- A binary format: fraction bits and exponent bits. -/
structure Fmt where
  mant : Nat
  ebits : Nat
  deriving DecidableEq, Repr

def real32 : Fmt := { mant := 23, ebits := 8 }
def real64 : Fmt := { mant := 52, ebits := 11 }

def Fmt.maxExp (f : Fmt) : Nat := 2 ^ f.ebits - 1
def Fmt.width (f : Fmt) : Nat := f.mant + f.ebits + 1

/-- Exponent of the least subnormal. -/
def Fmt.emin (f : Fmt) : Int := 2 - (2 ^ (f.ebits - 1) : Int) - f.mant

def Fmt.signBit (f : Fmt) (neg : Bool) : Nat := if neg then 2 ^ (f.mant + f.ebits) else 0
def Fmt.inf (f : Fmt) (neg : Bool) : Nat := f.signBit neg + f.maxExp * 2 ^ f.mant

/-- The canonical quiet NaN: 0x7FC0_0000 and 0x7FF8_0000_0000_0000 (R84). -/
def Fmt.nan (f : Fmt) : Nat := f.maxExp * 2 ^ f.mant + 2 ^ (f.mant - 1)

/-- The number a bit pattern stands for: (−1)^neg · m · 2^e where finite. -/
inductive FVal where
  | nan
  | inf (neg : Bool)
  | fin (neg : Bool) (m : Nat) (e : Int)
  deriving DecidableEq, Repr

def fdecode (f : Fmt) (bits : Nat) : FVal :=
  let frac := bits % 2 ^ f.mant
  let ex := bits / 2 ^ f.mant % 2 ^ f.ebits
  let neg := bits / 2 ^ (f.mant + f.ebits) % 2 == 1
  if ex = f.maxExp then (if frac = 0 then .inf neg else .nan)
  else if ex = 0 then .fin neg frac f.emin
  else .fin neg (frac + 2 ^ f.mant) (f.emin + (ex : Int) - 1)

/-- Rounds (−1)^neg · m · 2^e to the format, `sticky` standing for a positive remainder below the unit of `m`. -/
def fround (f : Fmt) (neg : Bool) (m : Nat) (e : Int) (sticky : Bool) : Nat :=
  if m = 0 then f.signBit neg
  else
    let q := max (e + (Nat.log2 m : Int) - f.mant) f.emin
    let shift := q - e
    let mm :=
      if shift ≤ 0 then m * 2 ^ (-shift).toNat
      else
        let d := 2 ^ shift.toNat
        let r := m % d
        let up := decide (d < 2 * r) || (decide (2 * r = d) && (sticky || (m / d) % 2 == 1))
        m / d + if up then 1 else 0
    let bits := if mm < 2 ^ f.mant then mm else ((q - f.emin).toNat + 1) * 2 ^ f.mant + (mm - 2 ^ f.mant)
    if bits ≥ f.maxExp * 2 ^ f.mant then f.inf neg else f.signBit neg + bits

def FVal.isNan : FVal → Bool
  | .nan => true
  | _ => false

def fencode (f : Fmt) : FVal → Nat
  | .nan => f.nan
  | .inf n => f.inf n
  | .fin n m e => fround f n m e false

/-- m · 2^(e − base) with its sign, for a common exponent not above `e`. -/
def scaled (neg : Bool) (m : Nat) (e base : Int) : Int :=
  let v : Int := m * 2 ^ (e - base).toNat
  if neg then -v else v

def fadd (f : Fmt) (x y : Nat) : Nat :=
  match fdecode f x, fdecode f y with
  | .nan, _ => f.nan
  | _, .nan => f.nan
  | .inf a, .inf b => if a = b then f.inf a else f.nan
  | .inf a, _ => f.inf a
  | _, .inf b => f.inf b
  | .fin a m e, .fin b n d =>
    let base := min e d
    let s := scaled a m e base + scaled b n d base
    if s = 0 then f.signBit (a && b) else fround f (decide (s < 0)) s.natAbs base false

def fneg (f : Fmt) (x : Nat) : Nat :=
  if x / 2 ^ (f.mant + f.ebits) % 2 = 1 then x - 2 ^ (f.mant + f.ebits) else x + 2 ^ (f.mant + f.ebits)

def fsub (f : Fmt) (x y : Nat) : Nat :=
  match fdecode f y with
  | .nan => f.nan
  | _ => fadd f x (fneg f (y % 2 ^ f.width))

def fmul (f : Fmt) (x y : Nat) : Nat :=
  match fdecode f x, fdecode f y with
  | .nan, _ => f.nan
  | _, .nan => f.nan
  | .inf a, .inf b => f.inf (a != b)
  | .inf a, .fin b n _ => if n = 0 then f.nan else f.inf (a != b)
  | .fin a m _, .inf b => if m = 0 then f.nan else f.inf (a != b)
  | .fin a m e, .fin b n d => fround f (a != b) (m * n) (e + d) false

def fdiv (f : Fmt) (x y : Nat) : Nat :=
  match fdecode f x, fdecode f y with
  | .nan, _ => f.nan
  | _, .nan => f.nan
  | .inf _, .inf _ => f.nan
  | .inf a, .fin b _ _ => f.inf (a != b)
  | .fin a _ _, .inf b => f.signBit (a != b)
  | .fin a m e, .fin b n d =>
    if n = 0 then (if m = 0 then f.nan else f.inf (a != b))
    else if m = 0 then f.signBit (a != b)
    else
      let s := f.mant + 3 + Nat.log2 n
      fround f (a != b) (m * 2 ^ s / n) (e - d - s) (decide (m * 2 ^ s % n ≠ 0))

/-- Integer square root by bits from `2^b` down. -/
def isqrtFrom : Nat → Nat → Nat → Nat
  | 0, n, r => if (r + 1) * (r + 1) ≤ n then r + 1 else r
  | b + 1, n, r => isqrtFrom b n (if (r + 2 ^ (b + 1)) * (r + 2 ^ (b + 1)) ≤ n then r + 2 ^ (b + 1) else r)

def isqrt (n : Nat) : Nat := isqrtFrom (Nat.log2 n / 2 + 1) n 0

def fsqrt (f : Fmt) (x : Nat) : Nat :=
  match fdecode f x with
  | .nan => f.nan
  | .inf a => if a then f.nan else f.inf false
  | .fin a m e =>
    if m = 0 then f.signBit a
    else if a then f.nan
    else
      let s := 2 * (f.mant + 3) + if e % 2 = 0 then 0 else 1
      let r := isqrt (m * 2 ^ s)
      fround f false r ((e - s) / 2) (decide (r * r ≠ m * 2 ^ s))

/-- Order of R85: −0 equals +0; none where an operand is a NaN. -/
def fcompare (x y : FVal) : Option Ordering :=
  match x, y with
  | .nan, _ => none
  | _, .nan => none
  | .inf a, .inf b => some (if a = b then .eq else if a then .lt else .gt)
  | .inf a, _ => some (if a then .lt else .gt)
  | _, .inf b => some (if b then .gt else .lt)
  | .fin a m e, .fin b n d =>
    let base := min e d
    some (compare (scaled a m e base) (scaled b n d base))

/-- Nearest integer with ties to even of a finite value. -/
def roundInt (neg : Bool) (m : Nat) (e : Int) : Int :=
  let n : Nat :=
    if 0 ≤ e then m * 2 ^ e.toNat
    else
      let d := 2 ^ (-e).toNat
      let r := m % d
      m / d + if decide (d < 2 * r) || (decide (2 * r = d) && (m / d) % 2 == 1) then 1 else 0
  if neg then -(n : Int) else n

def fofInt (f : Fmt) (x : Int) : Nat := fround f (decide (x < 0)) x.natAbs 0 false

/-- The quotient of two integers, rounded to the format once. -/
def fofRat (f : Fmt) (num : Int) (den : Nat) : Nat :=
  if den = 0 then f.nan
  else
    let s := f.mant + 3 + Nat.log2 den
    fround f (decide (num < 0)) (num.natAbs * 2 ^ s / den) (-(s : Int)) (decide (num.natAbs * 2 ^ s % den ≠ 0))

end Sys2Proof.Machine
end

