-- ==== Sys2Proof/Machine/Operands.lean ====
section
/-! DEFINITION. Values by type (R43, R81), and the operands of a lane instruction: what a lane reads from tags,
local memory, registers and the word itself (R48, R62, R63, R82), and the entries it posts (R122). -/

namespace Sys2Proof.Machine

open Sys2Proof

/-! ### Types and value encodings, R43 -/

def typeOf : Nat → Option ValType
  | 1 => some .bool
  | 2 => some .int16
  | 3 => some .int32
  | 4 => some .int64
  | 5 => some .uint16
  | 6 => some .uint32
  | 7 => some .uint64
  | 8 => some .real32
  | 9 => some .real64
  | 10 => some .time
  | _ => none

def typeCode : ValType → Nat
  | .bool => 1
  | .int16 => 2
  | .int32 => 3
  | .int64 => 4
  | .uint16 => 5
  | .uint32 => 6
  | .uint64 => 7
  | .real32 => 8
  | .real64 => 9
  | .time => 10

def typeWidth : ValType → Nat
  | .bool => 1
  | .int16 | .uint16 => 16
  | .int32 | .uint32 | .real32 => 32
  | .int64 | .uint64 | .real64 | .time => 64

def isSignedType : ValType → Bool
  | .int16 | .int32 | .int64 | .time => true
  | _ => false

def isRealType : ValType → Bool
  | .real32 | .real64 => true
  | _ => false

/-- Integer types of TAGBIT (R62) and of the integer instructions (R83). -/
def isIntType : ValType → Bool
  | .bool | .real32 | .real64 => false
  | _ => true

/-- The low bits of a source, as many as the type is wide, as a number (R81); reals by their bits. -/
def intOf (ty : ValType) (w : W64) : Int :=
  if isSignedType ty then toSigned (typeWidth ty) w.toNat else (w.toNat % 2 ^ typeWidth ty : Nat)

/-- The R43 encoding of a number taken modulo 2 to the power of the type's width. -/
def encodeInt (ty : ValType) (x : Int) : W64 :=
  let low := ofSigned (typeWidth ty) x
  if isSignedType ty then BitVec.ofInt 64 (toSigned (typeWidth ty) low) else BitVec.ofNat 64 low

/-- A value in the encoding of its type. -/
def encodeVal (ty : ValType) (w : W64) : W64 := encodeInt ty (intOf ty w)

/-- The value field meets the encoding of its type (R43). -/
def meetsEncoding (ty : ValType) (w : W64) : Bool := encodeVal ty w == w

def fmtOf (ty : ValType) : Fmt := if ty = .real32 then real32 else real64

def realOf (ty : ValType) (w : W64) : FVal := fdecode (fmtOf ty) (w.toNat % 2 ^ typeWidth ty)

/-- Range of an integer type. -/
def minOf (ty : ValType) : Int := if isSignedType ty then -(2 ^ (typeWidth ty - 1) : Int) else 0

def maxOf (ty : ValType) : Int :=
  if isSignedType ty then (2 ^ (typeWidth ty - 1) : Int) - 1 else (2 ^ typeWidth ty : Int) - 1

def saturate (ty : ValType) (x : Int) : Int := if x < minOf ty then minOf ty else if maxOf ty < x then maxOf ty else x

/-- The order of R85; none where an operand is a NaN. -/
def compareVals (ty : ValType) (x y : W64) : Option Ordering :=
  if isRealType ty then fcompare (realOf ty x) (realOf ty y) else some (compare (intOf ty x) (intOf ty y))

/-- The immediate of form I, extended by type (R82), as the type's low bits in its encoding (R81). A binary32 NaN
gives REAL64 the canonical NaN of R84: DESIGN CHOICE (notes/assumptions/73.md), because R84 fixes that bit pattern for
the F-family only. -/
def extendImm (ty : ValType) (im : W32) : W64 :=
  encodeVal ty (match ty with
    | .real32 => im.setWidth 64
    | .real64 => BitVec.ofNat 64 (fencode real64 (fdecode real32 im.toNat))
    | .bool | .uint16 | .uint32 | .uint64 => im.setWidth 64
    | .int16 | .int32 | .int64 | .time => im.signExtend 64)

/-- Conversion of R86. A NaN that stays a real becomes the canonical NaN of the target: DESIGN CHOICE
(notes/assumptions/73.md), because R86 states no bit pattern for it. -/
def convert (src dst : ValType) (w : W64) : W64 :=
  if isRealType src then
    match realOf src w with
    | .nan => if isRealType dst then BitVec.ofNat 64 (fmtOf dst).nan else 0
    | .inf n =>
      if isRealType dst then BitVec.ofNat 64 ((fmtOf dst).inf n)
      else if dst = .bool then 1
      else encodeInt dst (if n then minOf dst else maxOf dst)
    | .fin n m e =>
      if isRealType dst then BitVec.ofNat 64 (fencode (fmtOf dst) (.fin n m e))
      else if dst = .bool then (if m = 0 then 0 else 1)
      else encodeInt dst (saturate dst (roundInt n m e))
  else
    let x := intOf src w
    if isRealType dst then BitVec.ofNat 64 (fofInt (fmtOf dst) x)
    else if dst = .bool then (if x = 0 then 0 else 1)
    else encodeInt dst (saturate dst x)

/-! ### What a lane sees -/

/-- The inputs of one lane instruction: the image and the instances, the execution, the lane and a free value. -/
structure LaneIn where
  tags : Tbl Tag
  insts : Tbl Inst
  e : Exec
  c : LaneCtx
  free : W64

/-- A copy that serves no epoch: pending or void (R23). -/
def epochOr (c : SlotCopy) : Option Nat := if c.mark = .committed then some c.epoch else none

def servesAt (c : SlotCopy) (e : Nat) : Bool :=
  match epochOr c with
  | some k => k ≤ e
  | none => false

/-- The newer of the two copies whose commit epoch is not greater than `e`; none where no copy serves `e` (R23). -/
def copyAt (tag : Tag) (e : Nat) : Option SlotCopy :=
  match servesAt tag.a e, servesAt tag.b e with
  | true, true => some (if tag.b.epoch ≤ tag.a.epoch then tag.a else tag.b)
  | true, false => some tag.a
  | false, true => some tag.b
  | false, false => none

/-- The copy with the lower commit epoch, where neither serves the base epoch (R37). -/
def earliestCopy (tag : Tag) : SlotCopy :=
  match epochOr tag.a, epochOr tag.b with
  | some x, some y => if x ≤ y then tag.a else tag.b
  | some _, none => tag.a
  | none, some _ => tag.b
  | none, none => tag.a

/-- The lane's own latest entry for a target in this execution. -/
def lastPosted (c : LaneCtx) (target : PostTarget) : Option Entry := c.posted.reverse.find? fun e => e.target == target

/-- The value of a tag as the lanes of the execution read it (R48): the execution's own write, else the snapshot;
none for a tag that the program does not declare. -/
def laneTag (x : LaneIn) (index : Nat) : Option W64 :=
  match lastPosted x.c (.tag index) with
  | some e => some e.data
  | none =>
    match tget index x.e.view with
    | some v => some v.value
    | none =>
      match tget index x.tags with
      | some tag => some ((copyAt tag x.e.baseEpoch).getD (earliestCopy tag)).value
      | none => none

/-- Local word `n` of the lane's frame; none outside the frame that the program declares (R63). -/
def laneLocal (x : LaneIn) (n : Nat) : Option W64 :=
  if 8 * n + 8 ≤ x.e.frame then some ((tget n x.c.frame).getD 0) else none

/-- The record of an instance as the lane sees it: its own pending write, else the Basin's (R75). An instance that the
program does not define reads as a record just created, with NEW set: DESIGN CHOICE (notes/assumptions/72.md), because
the manual states none. -/
def laneInst (x : LaneIn) (number : Nat) (kind : InstKind) : Inst :=
  match lastPosted x.c (.inst number) with
  | some { record := some r, .. } => r
  | _ =>
    match tget number x.insts with
    | some r => r
    | none =>
      { kind := kind, task := x.e.task, value := 0, lastT := 0, preset := 0, isNew := true, resume := false,
        ts := .idle, q := false, prev2 := false, prev := false }

/-! ### Registers, entries -/

def regOf (c : LaneCtx) (n : Nat) : W64 := c.w.toArray.getD n 0

/-- Writes register Wn. -/
def setReg (c : LaneCtx) (n : Nat) (v : W64) : LaneCtx :=
  { c with w := Vector.ofFn fun i => if i.val = n then v else c.w[i] }

/-- Appends an entry to the lane's stream; SEQ counts modulo 1,024. -/
def postEntry (c : LaneCtx) (kind : EntryKind) (target : PostTarget) (data : W64) (record : Option Inst) : LaneCtx :=
  { c with posted := c.posted ++ [{ kind := kind, seq := c.posted.length % 1024, target := target, mask := 0xFF,
                                    data := data, record := record }] }

def postTag (c : LaneCtx) (index : Nat) (v : W64) : LaneCtx := postEntry c .write (.tag index) v none

def setLocal (c : LaneCtx) (n : Nat) (v : W64) : LaneCtx :=
  { c with frame := if v = 0 then tdel n c.frame else tput n v c.frame }

/-! ### Bit operands, R62 -/

/-- The operand of the bit group; none where the spec leaves its value open. -/
def bitOperand (x : LaneIn) (f : WordFields) : Option Bool :=
  match f.m.toNat with
  | 0 => (laneTag x f.o.toNat).map fun v => v.getLsbD 0
  | 1 => (laneTag x f.o.toNat).map fun v => v.getLsbD (f.im.toNat % 64)
  | 2 => (laneLocal x (f.o.toNat / 64)).map fun v => v.getLsbD (f.o.toNat % 64)
  | 3 => some (f.o.getLsbD 0)
  | _ => some ((regOf x.c (f.o.toNat % 16)).getLsbD (f.im.toNat % 64))

def setBit (w : W64) (n : Nat) (b : Bool) : W64 :=
  if b then w ||| BitVec.ofNat 64 (2 ^ n) else w &&& ~~~ BitVec.ofNat 64 (2 ^ n)

/-- The declared type of a tag; UINT64 stands in for a tag that is not declared. -/
def tagType (x : LaneIn) (index : Nat) : ValType := ((tget index x.tags).map fun t => t.decl.type).getD .uint64

/-- Stores a bit to its operand (R62): a TAG in the BOOL encoding, one bit of an integer tag within its type's
encoding, a local bit, or a register bit. DESIGN CHOICE (notes/assumptions/71.md): a local bit outside the declared
frame is dropped and the lane goes on. -/
def storeBit (x : LaneIn) (f : WordFields) (b : Bool) : LaneCtx :=
  match f.m.toNat with
  | 0 => postTag x.c f.o.toNat (if b then 1 else 0)
  | 1 =>
    let old := (laneTag x f.o.toNat).getD x.free
    postTag x.c f.o.toNat (encodeVal (tagType x f.o.toNat) (setBit old (f.im.toNat % 64) b))
  | 2 =>
    match laneLocal x (f.o.toNat / 64) with
    | some v => setLocal x.c (f.o.toNat / 64) (setBit v (f.o.toNat % 64) b)
    | none => x.c
  | 4 => setReg x.c (f.o.toNat % 16) (setBit (regOf x.c (f.o.toNat % 16)) (f.im.toNat % 64) b)
  | _ => x.c

/-! ### Word operands, R60 and R82 -/

/-- Wd of forms T, L and G, of the block and of the source layout; Wd of form I and of LDI. -/
def wdHigh (f : WordFields) : Nat := f.im.toNat / 2 ^ 28
def wdLow (f : WordFields) : Nat := f.o.toNat % 16

def destOf (fm : Form) (f : WordFields) : Nat := if fm = .i then wdLow f else wdHigh f

/-- The operand of a word instruction in its form; none where the spec leaves its value open. -/
def wordOperand (x : LaneIn) (fm : Form) (ty : ValType) (f : WordFields) : Option W64 :=
  match fm with
  | .t => laneTag x f.o.toNat
  | .l => laneLocal x f.o.toNat
  | .g => some (regOf x.c (f.o.toNat % 16))
  | .i => some (extendImm ty f.im)

/-- The type of a word instruction: MOD (R81). -/
def modType (f : WordFields) : ValType := (typeOf f.m.toNat).getD .uint64

/-- The 64 packed BOOL tags of a block operand (R80); an undeclared tag contributes a bit of the free value. -/
def packedTags (x : LaneIn) (first : Nat) : W64 :=
  (List.range 64).foldl
    (fun w i => setBit w i (match laneTag x (first + i) with
      | some v => v.getLsbD 0
      | none => x.free.getLsbD i)) 0

end Sys2Proof.Machine
end

