-- ==== Sys2Proof/Machine/Params.lean ====
section
/-! DEFINITION. The settings catalogue: the parameters of every chapter, their types, ranges, defaults, effect classes
and scopes (R343 to R349). -/

namespace Sys2Proof.Machine

open Sys2Proof

/-- Setting types, R346. -/
inductive SetType where
  | bool | u8 | i8 | u16 | i16 | u32 | i32 | u64 | i64 | real32 | real64 | bytes16 | bytes16wo
  deriving DecidableEq, Repr

def setTypeCode : SetType → Nat
  | .bool => 1
  | .u8 => 2
  | .i8 => 3
  | .u16 => 4
  | .i16 => 5
  | .u32 => 6
  | .i32 => 7
  | .u64 => 8
  | .i64 => 9
  | .real32 => 10
  | .real64 => 11
  | .bytes16 => 12
  | .bytes16wo => 13

def setTypeLen : SetType → Nat
  | .bool | .u8 | .i8 => 1
  | .u16 | .i16 => 2
  | .u32 | .i32 | .real32 => 4
  | .u64 | .i64 | .real64 => 8
  | .bytes16 | .bytes16wo => 16

def setTypeSigned : SetType → Bool
  | .i8 | .i16 | .i32 | .i64 => true
  | _ => false

/-- Effect classes of R347. -/
inductive EffectClass where
  | immediate | atCommit | atRestart | atPowerUp | readOnly
  deriving DecidableEq, Repr

/-- An index carried in a parameter ID: its lowest bit, its width, and its first and last value. -/
structure ParamIndex where
  shift : Nat
  bits : Nat
  first : Nat
  last : Nat
  deriving DecidableEq, Repr

/-- One line of a parameter table. Bounds are the ends of the range; further conditions stand in `rangeExtra`. -/
structure ParamRow where
  base : Nat
  idx : List ParamIndex
  type : SetType
  lo : Int
  hi : Int
  dflt : Int
  cls : EffectClass
  pair : Bool
  deriving DecidableEq, Repr

/-- Subsystems 0x0001 to 0x0006. -/
def coreParams : List ParamRow :=
  [
   ⟨0x00010001, [], .bytes16, 0, 0, 0, .immediate, false⟩,
   ⟨0x00010002, [], .u32, 0, 4294967295, 0, .atCommit, true⟩,
   ⟨0x00010003, [], .u64, 0, 0, 0, .readOnly, false⟩,
   ⟨0x00010004, [], .u16, 0, 0, 0, .readOnly, false⟩,
   ⟨0x00020000, [⟨12, 4, 0, 15⟩], .bool, 0, 1, 0, .atCommit, true⟩,
   ⟨0x00020001, [⟨12, 4, 0, 15⟩], .u32, 250, 10000000, 10000, .atCommit, true⟩,
   ⟨0x00020002, [⟨12, 4, 0, 15⟩], .u32, 0, 9999999, 0, .atCommit, true⟩,
   ⟨0x00020003, [⟨12, 4, 0, 15⟩], .u8, 0, 15, 0, .atCommit, true⟩,
   ⟨0x00020004, [⟨12, 4, 0, 15⟩], .u32, 0, 10000000, 0, .atCommit, true⟩,
   ⟨0x00020005, [⟨12, 4, 0, 15⟩], .u32, 0, 40000000, 0, .atCommit, true⟩,
   ⟨0x00020006, [⟨12, 4, 0, 15⟩], .u8, 1, 255, 3, .atCommit, true⟩,
   ⟨0x00020007, [⟨12, 4, 0, 15⟩], .u32, 0, 1000, 20, .atCommit, true⟩,
   ⟨0x00030001, [], .u32, 10, 60000, 1000, .atCommit, true⟩,
   ⟨0x00040001, [], .u32, 1024, 16384, 16384, .immediate, false⟩,
   ⟨0x00040002, [], .u32, 1024, 4096, 4096, .immediate, false⟩,
   ⟨0x00040003, [], .u32, 1024, 81920, 65536, .immediate, false⟩,
   ⟨0x00040004, [], .u32, 1024, 65536, 65536, .immediate, false⟩,
   ⟨0x00040005, [], .u32, 4096, 32768, 32768, .immediate, false⟩,
   ⟨0x00040006, [], .u32, 8192, 65536, 65536, .immediate, false⟩,
   ⟨0x00050001, [], .u32, 5, 200, 20, .atCommit, false⟩,
   ⟨0x00060000, [], .u16, 0, 65535, 0, .atRestart, false⟩,
   ⟨0x00060001, [], .u32, 100, 60000, 2000, .atRestart, false⟩,
   ⟨0x00060002, [], .u32, 10, 10000, 100, .atCommit, true⟩,
   ⟨0x00060003, [], .u16, 0, 365, 30, .atCommit, true⟩,
   ⟨0x00060004, [], .u16, 2, 1000, 10, .atCommit, true⟩]

/-- Subsystem 0x0007 (R204). -/
def vbpParams : List ParamRow :=
  [
   ⟨0x00070001, [], .u16, 1, 65535, 50711, .atRestart, true⟩,
   ⟨0x00070002, [], .u8, 4, 6, 4, .atRestart, true⟩,
   ⟨0x00070003, [], .u32, 0, 4294967295, 0, .atRestart, true⟩,
   ⟨0x00070004, [], .bytes16, 0, 0, 0, .atRestart, true⟩,
   ⟨0x00070005, [], .u16, 0, 65535, 65535, .atRestart, false⟩,
   ⟨0x00070006, [], .u16, 1400, 8896, 1400, .atCommit, true⟩,
   ⟨0x00070007, [], .u8, 0, 2, 0, .atCommit, true⟩,
   ⟨0x00070008, [], .bytes16wo, 0, 0, 0, .atCommit, true⟩,
   ⟨0x00070009, [], .u32, 100, 600000, 10000, .atCommit, true⟩,
   ⟨0x0007000A, [], .u32, 0, 4294967294, 0, .atCommit, true⟩,
   ⟨0x0007000B, [], .u64, 0, 18446744073709551615, 0, .atCommit, true⟩,
   ⟨0x00071000, [⟨0, 12, 0, 4095⟩], .bool, 0, 1, 0, .atCommit, true⟩,
   ⟨0x00072000, [⟨0, 12, 0, 4095⟩], .u16, 0, 65535, 0, .atCommit, true⟩,
   ⟨0x00073000, [⟨0, 12, 0, 4095⟩], .u32, 250, 60000000, 10000, .atCommit, true⟩,
   ⟨0x00074000, [⟨0, 12, 0, 4095⟩], .u32, 250, 60000000, 10000, .atCommit, true⟩,
   ⟨0x00075000, [⟨0, 12, 0, 4095⟩], .u32, 10, 100000, 20000, .atCommit, true⟩,
   ⟨0x00076000, [⟨0, 12, 0, 4095⟩], .bool, 0, 1, 0, .atCommit, true⟩]

/-- Subsystem 0x0008. -/
def portParams : List ParamRow :=
  [
   ⟨0x00080010, [], .u16, 0, 4094, 0, .atRestart, false⟩,
   ⟨0x00080011, [], .u8, 0, 6, 6, .atCommit, false⟩,
   ⟨0x00080012, [], .u8, 0, 6, 5, .atCommit, false⟩,
   ⟨0x00080013, [], .bool, 0, 1, 1, .atCommit, false⟩,
   ⟨0x00080014, [], .u8, 0, 2, 0, .atRestart, false⟩,
   ⟨0x00080020, [], .u8, 0, 2, 1, .atRestart, false⟩,
   ⟨0x00080021, [], .u8, 0, 127, 0, .atRestart, false⟩,
   ⟨0x00080022, [], .u8, 0, 3, 0, .atRestart, false⟩,
   ⟨0x00080023, [], .u8, 0, 1, 0, .atRestart, false⟩,
   ⟨0x00080024, [], .u8, 0, 255, 248, .atCommit, false⟩,
   ⟨0x00080025, [], .u8, 0, 255, 248, .atCommit, false⟩,
   ⟨0x00080026, [], .i8, -7, 0, -3, .atCommit, false⟩,
   ⟨0x00080027, [], .u16, 10, 500, 100, .atCommit, false⟩,
   ⟨0x00080028, [], .u32, 1000, 1000000000, 1000000, .atCommit, false⟩,
   ⟨0x00080029, [], .bool, 0, 1, 0, .atCommit, false⟩,
   ⟨0x0008002A, [], .u64, 0, 17179869184, 0, .atCommit, false⟩,
   ⟨0x00080030, [⟨8, 4, 0, 3⟩], .u8, 1, 3, 1, .atCommit, false⟩,
   ⟨0x00080031, [⟨8, 4, 0, 3⟩], .u16, 0, 10000, 0, .atCommit, false⟩,
   ⟨0x00080001, [⟨8, 4, 1, 3⟩], .u8, 1, 3, 3, .atRestart, false⟩,
   ⟨0x00080002, [⟨8, 4, 1, 3⟩], .u8, 0, 1, 0, .atRestart, false⟩,
   ⟨0x00080003, [⟨8, 4, 1, 3⟩], .u32, 0, 1000000, 0, .atCommit, false⟩,
   ⟨0x00080004, [⟨8, 4, 1, 3⟩], .u32, 0, 1000000, 0, .atCommit, false⟩,
   ⟨0x00080005, [⟨8, 4, 1, 3⟩], .bool, 0, 1, 1, .atCommit, false⟩,
   ⟨0x00080006, [⟨8, 4, 1, 3⟩], .u8, 0, 7, 0, .atCommit, false⟩,
   ⟨0x00080100, [⟨12, 4, 1, 2⟩, ⟨0, 8, 0, 127⟩], .u32, 0, 4294967295, 4278190080, .atCommit, false⟩,
   ⟨0x00080200, [⟨12, 4, 1, 2⟩], .u8, 0, 128, 0, .atCommit, false⟩,
   ⟨0x00080201, [⟨12, 4, 1, 2⟩], .u32, 1000, 1000000000, 1000000, .atCommit, false⟩,
   ⟨0x00080202, [⟨12, 4, 1, 2⟩], .u64, 0, 18446744073709551615, 0, .atCommit, false⟩]

/-- Subsystems 0x0009 and 0x000A. -/
def fieldParams : List ParamRow :=
  [
   ⟨0x00090000, [⟨8, 4, 0, 15⟩], .u8, 0, 4, 0, .atCommit, true⟩,
   ⟨0x00090001, [⟨8, 4, 0, 15⟩], .u16, 1, 32000, 1500, .atCommit, true⟩,
   ⟨0x00090002, [⟨8, 4, 0, 15⟩], .u8, 0, 2, 0, .atCommit, true⟩,
   ⟨0x00090003, [⟨8, 4, 0, 15⟩], .u8, 0, 15, 15, .atCommit, true⟩,
   ⟨0x00091000, [⟨8, 4, 0, 3⟩], .bool, 0, 1, 1, .atCommit, true⟩,
   ⟨0x00091001, [⟨8, 4, 0, 3⟩], .u8, 0, 2, 0, .atCommit, true⟩,
   ⟨0x00092000, [], .u16, 1, 1000, 100, .atCommit, true⟩,
   ⟨0x000A0000, [⟨8, 4, 0, 7⟩], .u8, 0, 5, 0, .atCommit, true⟩,
   ⟨0x000A0001, [⟨8, 4, 0, 7⟩], .u8, 0, 1, 1, .atCommit, true⟩,
   ⟨0x000A0002, [⟨8, 4, 0, 7⟩], .u8, 0, 2, 0, .atCommit, true⟩,
   ⟨0x000A0003, [⟨8, 4, 0, 7⟩], .u8, 0, 3, 0, .atCommit, true⟩,
   ⟨0x000A0004, [⟨8, 4, 0, 7⟩], .real32, 0, 24, 1082130432, .atCommit, true⟩,
   ⟨0x000A0005, [⟨8, 4, 0, 7⟩], .u16, 0, 10000, 10, .atCommit, true⟩,
   ⟨0x000A0006, [⟨8, 4, 0, 7⟩], .u8, 0, 1, 0, .atCommit, false⟩,
   ⟨0x000A0007, [⟨8, 4, 0, 7⟩], .u8, 0, 3, 3, .atCommit, true⟩,
   ⟨0x000A1000, [], .u16, 50, 1000, 50, .atCommit, true⟩]

/-- Subsystem 0x000B (R308). -/
def canParams : List ParamRow :=
  [
   ⟨0x000B0000, [⟨12, 4, 0, 1⟩], .bool, 0, 1, 0, .atCommit, true⟩,
   ⟨0x000B0001, [⟨12, 4, 0, 1⟩], .u8, 0, 1, 0, .atCommit, true⟩,
   ⟨0x000B0002, [⟨12, 4, 0, 1⟩], .u32, 0, 4294967295, 4136735, .atCommit, true⟩,
   ⟨0x000B0003, [⟨12, 4, 0, 1⟩], .u32, 0, 4294967295, 127782913, .atCommit, true⟩,
   ⟨0x000B0004, [⟨12, 4, 0, 1⟩], .bool, 0, 1, 0, .atCommit, false⟩,
   ⟨0x000B0005, [⟨12, 4, 0, 1⟩], .bool, 0, 1, 1, .atCommit, true⟩,
   ⟨0x000B0006, [⟨12, 4, 0, 1⟩], .bool, 0, 1, 1, .atCommit, true⟩,
   ⟨0x000B0007, [⟨12, 4, 0, 1⟩], .bool, 0, 1, 0, .atCommit, true⟩,
   ⟨0x000B0008, [⟨12, 4, 0, 1⟩], .u32, 1, 60000, 100, .atCommit, true⟩,
   ⟨0x000B0009, [⟨12, 4, 0, 1⟩], .u8, 0, 2, 0, .atCommit, true⟩,
   ⟨0x000B000A, [⟨12, 4, 0, 1⟩], .u32, 1000, 60000000, 100000, .atCommit, true⟩,
   ⟨0x000B000B, [⟨12, 4, 0, 1⟩], .u64, 0, 18446744073709551615, 0, .atCommit, true⟩,
   ⟨0x000B000C, [⟨12, 4, 0, 1⟩], .u32, 0, 4294967295, 0, .atCommit, true⟩,
   ⟨0x000B000D, [⟨12, 4, 0, 1⟩], .u16, 10, 10000, 500, .atCommit, true⟩,
   ⟨0x000B000E, [⟨12, 4, 0, 1⟩], .u8, 0, 2, 0, .atCommit, true⟩,
   ⟨0x000B000F, [⟨12, 4, 0, 1⟩], .u32, 0, 4294967295, 0, .atCommit, true⟩,
   ⟨0x000B0010, [⟨12, 4, 0, 1⟩], .u32, 0, 4294967295, 0, .atCommit, true⟩,
   ⟨0x000B0011, [⟨12, 4, 0, 1⟩], .u8, 0, 8, 8, .atCommit, true⟩,
   ⟨0x000B0012, [⟨12, 4, 0, 1⟩], .u64, 0, 18446744073709551615, 0, .atCommit, true⟩,
   ⟨0x000B0100, [⟨12, 4, 0, 1⟩, ⟨0, 8, 0, 63⟩], .u32, 0, 4294967295, 0, .atCommit, true⟩,
   ⟨0x000B0200, [⟨12, 4, 0, 1⟩, ⟨0, 8, 0, 63⟩], .u32, 0, 4294967295, 0, .atCommit, true⟩,
   ⟨0x000B0300, [⟨12, 4, 0, 1⟩, ⟨0, 8, 0, 63⟩], .u8, 0, 255, 0, .atCommit, true⟩,
   ⟨0x000B0400, [⟨12, 4, 0, 1⟩, ⟨0, 8, 0, 31⟩], .u32, 0, 4294967295, 0, .atCommit, true⟩,
   ⟨0x000B0500, [⟨12, 4, 0, 1⟩, ⟨0, 8, 0, 31⟩], .u16, 0, 65535, 0, .atCommit, true⟩]

/-- Subsystems 0x000C to 0x0012. -/
def hostParams : List ParamRow :=
  [
   ⟨0x000C0001, [], .u8, 0, 255, 192, .atRestart, false⟩,
   ⟨0x000C0002, [], .u16, 0, 60000, 0, .atCommit, false⟩,
   ⟨0x000C0003, [], .u8, 0, 3, 3, .atCommit, false⟩,
   ⟨0x000C0004, [], .u8, 0, 3, 3, .atCommit, false⟩,
   ⟨0x000C0005, [], .u8, 0, 7, 4, .atRestart, false⟩,
   ⟨0x000C0006, [], .u16, 1, 65535, 50712, .atRestart, false⟩,
   ⟨0x000C0007, [], .u32, 10, 86400, 600, .atCommit, false⟩,
   ⟨0x000D0001, [], .u8, 0, 1, 1, .atCommit, false⟩,
   ⟨0x000D0002, [], .bool, 0, 1, 0, .atCommit, false⟩,
   ⟨0x000D0003, [], .u8, 0, 15, 15, .atCommit, false⟩,
   ⟨0x000D0004, [], .u16, 1, 65535, 50713, .atRestart, false⟩,
   ⟨0x000D0010, [], .u8, 0, 15, 15, .atCommit, false⟩,
   ⟨0x000D0011, [], .u16, 1, 720, 24, .atCommit, false⟩,
   ⟨0x000D0012, [], .u16, 1, 3600, 60, .atCommit, false⟩,
   ⟨0x000D0013, [], .bool, 0, 1, 1, .atCommit, false⟩,
   ⟨0x000E0001, [], .u8, 0, 1, 0, .atRestart, false⟩,
   ⟨0x000E0002, [], .u16, 5, 200, 20, .atCommit, false⟩,
   ⟨0x000E0003, [], .u8, 0, 0, 0, .readOnly, false⟩,
   ⟨0x000F0001, [], .u16, 1, 720, 24, .atCommit, false⟩,
   ⟨0x000F0002, [], .u8, 2, 10, 3, .atCommit, false⟩,
   ⟨0x000F0003, [], .u16, 8, 65535, 64, .atCommit, false⟩,
   ⟨0x000F0004, [], .u16, 1, 1024, 1, .atCommit, false⟩,
   ⟨0x000F0005, [], .u16, 1, 1024, 8, .atCommit, false⟩,
   ⟨0x000F0006, [], .u32, 1, 1000000, 100, .atCommit, false⟩,
   ⟨0x000F0007, [], .u32, 10, 1000000, 1000, .atCommit, false⟩,
   ⟨0x000F0008, [], .u16, 10, 1000, 50, .atCommit, false⟩,
   ⟨0x00100001, [], .bool, 0, 1, 0, .atCommit, false⟩,
   ⟨0x00110001, [], .u16, 10, 600, 60, .atCommit, false⟩,
   ⟨0x00110002, [], .u16, 0, 1440, 30, .atCommit, false⟩,
   ⟨0x00110010, [⟨0, 4, 0, 2⟩], .bytes16, 0, 0, 0, .readOnly, false⟩,
   ⟨0x00110020, [⟨0, 4, 0, 3⟩], .u8, 0, 0, 0, .readOnly, false⟩,
   ⟨0x00120001, [], .u8, 0, 15, 15, .atCommit, false⟩,
   ⟨0x00120010, [], .u8, 0, 0, 0, .readOnly, false⟩,
   ⟨0x00120011, [], .u16, 0, 0, 0, .readOnly, false⟩]

def paramTable : List ParamRow := coreParams ++ vbpParams ++ portParams ++ fieldParams ++ canParams ++ hostParams

/-! ### Parameter IDs -/

namespace P

def moduleTag : Nat := 0x00010001
def configId : Nat := 0x00010002
def settingsGeneration : Nat := 0x00010003
def settingsSchema : Nat := 0x00010004
def taskEnable (i : Nat) : Nat := 0x00020000 + i * 0x1000
def taskPeriod (i : Nat) : Nat := 0x00020001 + i * 0x1000
def taskPhase (i : Nat) : Nat := 0x00020002 + i * 0x1000
def taskPriority (i : Nat) : Nat := 0x00020003 + i * 0x1000
def taskDeadline (i : Nat) : Nat := 0x00020004 + i * 0x1000
def taskOffset (i : Nat) : Nat := 0x00020005 + i * 0x1000
def taskStale (i : Nat) : Nat := 0x00020006 + i * 0x1000
def taskMargin (i : Nat) : Nat := 0x00020007 + i * 0x1000
def exchangeWindow : Nat := 0x00030001
def trailLimit : Nat := 0x00050001
def ownerId : Nat := 0x00060000
def joinWait : Nat := 0x00060001
def claimRefresh : Nat := 0x00060002
def proofDueDays : Nat := 0x00060003
def proofDwell : Nat := 0x00060004
def udpPort : Nat := 0x00070001
def ipVersion : Nat := 0x00070002
def groupV4 : Nat := 0x00070003
def groupV6 : Nat := 0x00070004
def nodeIdOwn : Nat := 0x00070005
def maxPayload : Nat := 0x00070006
def authMode : Nat := 0x00070007
def keyMaster : Nat := 0x00070008
def keyOverlap : Nat := 0x00070009
def keyEpoch : Nat := 0x0007000A
def keySwitchAt : Nat := 0x0007000B
def nodeEnable (i : Nat) : Nat := 0x00071000 + i
def nodeId (i : Nat) : Nat := 0x00072000 + i
def nodeTimeout (i : Nat) : Nat := 0x00073000 + i
def nodeHold (i : Nat) : Nat := 0x00074000 + i
def nodeRate (i : Nat) : Nat := 0x00075000 + i
def nodeUnicast (i : Nat) : Nat := 0x00076000 + i
def vlan : Nat := 0x00080010
def pcpOut : Nat := 0x00080011
def pcpIn : Nat := 0x00080012
def cutThrough : Nat := 0x00080013
def mrpRole : Nat := 0x00080014
def ptpProfile : Nat := 0x00080020
def ptpDomain : Nat := 0x00080021
def ptpRole : Nat := 0x00080022
def ptpDelayMech : Nat := 0x00080023
def ptpPriority1 : Nat := 0x00080024
def ptpPriority2 : Nat := 0x00080025
def ptpSyncInterval : Nat := 0x00080026
def slewMax : Nat := 0x00080027
def offsetAlarm : Nat := 0x00080028
def ppsInput : Nat := 0x00080029
def gmTaiSeconds : Nat := 0x0008002A
def fiCaptureEdge (i : Nat) : Nat := 0x00080030 + i * 0x100
def fiDelay (i : Nat) : Nat := 0x00080031 + i * 0x100
def portSpeed (i : Nat) : Nat := 0x00080001 + i * 0x100
def portMedia (i : Nat) : Nat := 0x00080002 + i * 0x100
def portTxLatency (i : Nat) : Nat := 0x00080003 + i * 0x100
def portRxLatency (i : Nat) : Nat := 0x00080004 + i * 0x100
def portPtpEnable (i : Nat) : Nat := 0x00080005 + i * 0x100
def portDefaultPcp (i : Nat) : Nat := 0x00080006 + i * 0x100
def gclEntry (i j : Nat) : Nat := 0x00080100 + i * 0x1000 + j
def gclLength (i : Nat) : Nat := 0x00080200 + i * 0x1000
def gclCycle (i : Nat) : Nat := 0x00080201 + i * 0x1000
def gclBase (i : Nat) : Nat := 0x00080202 + i * 0x1000
def dioMode (i : Nat) : Nat := 0x00090000 + i * 0x100
def dioDebounce (i : Nat) : Nat := 0x00090001 + i * 0x100
def dioSafe (i : Nat) : Nat := 0x00090002 + i * 0x100
def dioDiag (i : Nat) : Nat := 0x00090003 + i * 0x100
def fiTermination (i : Nat) : Nat := 0x00091000 + i * 0x100
def foSafe (i : Nat) : Nat := 0x00091001 + i * 0x100
def silenceTimeout : Nat := 0x00092000
def aioMode (i : Nat) : Nat := 0x000A0000 + i * 0x100
def aioFailSignal (i : Nat) : Nat := 0x000A0001 + i * 0x100
def aioFailDir (i : Nat) : Nat := 0x000A0002 + i * 0x100
def aioSafe (i : Nat) : Nat := 0x000A0003 + i * 0x100
def aioSafeValue (i : Nat) : Nat := 0x000A0004 + i * 0x100
def aioFilter (i : Nat) : Nat := 0x000A0005 + i * 0x100
def aioTrimSet (i : Nat) : Nat := 0x000A0006 + i * 0x100
def aioDiag (i : Nat) : Nat := 0x000A0007 + i * 0x100
def parallelSilence : Nat := 0x000A1000
def canEnable (i : Nat) : Nat := 0x000B0000 + i * 0x1000
def canFormat (i : Nat) : Nat := 0x000B0001 + i * 0x1000
def canNominal (i : Nat) : Nat := 0x000B0002 + i * 0x1000
def canData (i : Nat) : Nat := 0x000B0003 + i * 0x1000
def canTermination (i : Nat) : Nat := 0x000B0004 + i * 0x1000
def canBusShared (i : Nat) : Nat := 0x000B0005 + i * 0x1000
def canBusoffAuto (i : Nat) : Nat := 0x000B0006 + i * 0x1000
def canOneShot (i : Nat) : Nat := 0x000B0007 + i * 0x1000
def canSendTimeout (i : Nat) : Nat := 0x000B0008 + i * 0x1000
def canDefaultRoute (i : Nat) : Nat := 0x000B0009 + i * 0x1000
def canMapTimeout (i : Nat) : Nat := 0x000B000A + i * 0x1000
def canMapBig (i : Nat) : Nat := 0x000B000B + i * 0x1000
def canTxoBig (i : Nat) : Nat := 0x000B000C + i * 0x1000
def canDwell (i : Nat) : Nat := 0x000B000D + i * 0x1000
def canWakeMode (i : Nat) : Nat := 0x000B000E + i * 0x1000
def canWufId (i : Nat) : Nat := 0x000B000F + i * 0x1000
def canWufIdMask (i : Nat) : Nat := 0x000B0010 + i * 0x1000
def canWufDlc (i : Nat) : Nat := 0x000B0011 + i * 0x1000
def canWufData (i : Nat) : Nat := 0x000B0012 + i * 0x1000
def filterMatch (i j : Nat) : Nat := 0x000B0100 + i * 0x1000 + j
def filterMask (i j : Nat) : Nat := 0x000B0200 + i * 0x1000 + j
def filterAction (i j : Nat) : Nat := 0x000B0300 + i * 0x1000 + j
def txoId (i j : Nat) : Nat := 0x000B0400 + i * 0x1000 + j
def txoControl (i j : Nat) : Nat := 0x000B0500 + i * 0x1000 + j
def spiMask : Nat := 0x000C0001
def beatTimeout : Nat := 0x000C0002
def accessPcie : Nat := 0x000C0003
def accessSpi : Nat := 0x000C0004
def mgmtPorts : Nat := 0x000C0005
def mgmtTcpPort : Nat := 0x000C0006
def mgmtIdle : Nat := 0x000C0007
def pwrDefault : Nat := 0x000D0001
def dormantForward : Nat := 0x000D0002
def wakeSources : Nat := 0x000D0003
def wakeUdpPort : Nat := 0x000D0004
def bgEnable : Nat := 0x000D0010
def bgInterval : Nat := 0x000D0011
def bgRetry : Nat := 0x000D0012
def warmBasin : Nat := 0x000D0013
def refPreferred : Nat := 0x000E0001
def refLimit : Nat := 0x000E0002
def refStatus : Nat := 0x000E0003
def wearWindow : Nat := 0x000F0001
def wearLaneResyncs : Nat := 0x000F0002
def wearSingles : Nat := 0x000F0003
def wearDoubles : Nat := 0x000F0004
def wearStoreCorrections : Nat := 0x000F0005
def wearTowCrc : Nat := 0x000F0006
def wearDoTrips : Nat := 0x000F0007
def wearAoDrift : Nat := 0x000F0008
def allowDowngrade : Nat := 0x00100001
def nonceLifetime : Nat := 0x00110001
def debugIdle : Nat := 0x00110002
def deviceFp (i : Nat) : Nat := 0x00110010 + i
def keyState (i : Nat) : Nat := 0x00110020 + i
def feedExpected : Nat := 0x00120001
def holdupStatus : Nat := 0x00120010
def holdupMeasured : Nat := 0x00120011
def quota (c : Nat) : Nat := 0x00040000 + c

end P

/-! ### Lookup and ranges -/

/-- The value of an index in an ID. -/
def indexOf (x : ParamIndex) (id : Nat) : Nat := id / 2 ^ x.shift % 2 ^ x.bits

/-- The ID with its index fields cleared. -/
def clearIndex (id : Nat) (xs : List ParamIndex) : Nat := xs.foldl (fun n x => n - indexOf x id * 2 ^ x.shift) id

def rowMatches (id : Nat) (r : ParamRow) : Bool :=
  clearIndex id r.idx == r.base && r.idx.all fun x => x.first ≤ indexOf x id && indexOf x id ≤ x.last

/-- The table line of a parameter ID; none for an undefined ID (R345). -/
def paramOf (id : Nat) : Option ParamRow := paramTable.find? (rowMatches id)

/-- The port number of a per-port parameter, 1 to 3. -/
def portIndex (id : Nat) : Nat := id / 256 % 16

/-- Default of a parameter, where it depends on the index: a task's own number, a port's own speed and PTP enable. -/
def defaultOf (r : ParamRow) (id : Nat) : Int :=
  if r.base = P.taskPriority 0 then (id / 4096 % 16 : Nat)
  else if r.base = P.portSpeed 0 then (if portIndex id = 3 then 1 else 3)
  else if r.base = P.portPtpEnable 0 then (if portIndex id = 3 then 0 else 1)
  else r.dflt

def defaultBytes (r : ParamRow) (id : Nat) : List Byte := leBytes (setTypeLen r.type) (ofSigned 64 (defaultOf r id))

/-- A value as a number, signed where its type is. -/
def setValue (r : ParamRow) (v : List Byte) : Int :=
  if setTypeSigned r.type then toSigned (8 * setTypeLen r.type) (leNat v) else leNat v

/-- Identifier word of R295: a standard identifier has [28:11] zero. -/
def identifierOk (w : Nat) : Bool := bitAt w 31 || w % 2 ^ 29 / 2 ^ 11 == 0

/-- Conditions of the range columns beyond an interval. -/
def rangeExtra (r : ParamRow) (id : Nat) (v : List Byte) : Bool :=
  let n := leNat v
  if r.base = P.taskDeadline 0 ∨ r.base = P.taskOffset 0 then n == 0 || 50 ≤ n
  else if r.base = P.ipVersion then n == 4 || n == 6
  else if r.base = P.groupV4 then n == 0 || n / 2 ^ 28 == 0xE
  else if r.base = P.groupV6 then n == 0 || natAt v 0 1 == 0xFF
  else if r.base = P.maxPayload then n % 8 == 0
  else if r.base = P.beatTimeout then n == 0 || 10 ≤ n
  else if r.base = P.portSpeed 0 then portIndex id != 3 || n == 1
  else if r.base = P.portMedia 0 then portIndex id != 3 || n == 0
  else if r.base = P.filterAction 0 0 then n / 64 == 3 || n % 64 == 0
  else if r.base = P.filterMatch 0 0 ∨ r.base = P.txoId 0 0 ∨ r.base = P.canWufId 0 then identifierOk n
  else if r.base = P.moduleTag then v.all fun b => b.toNat < 128
  else if r.base = P.canNominal 0 then
    1 ≤ n / 2 ^ 15 % 256 && 1 ≤ n / 2 ^ 8 % 128 && n % 128 ≤ n / 2 ^ 8 % 128
  else if r.base = P.canData 0 then n / 2 ^ 14 % 16 ≤ n / 2 ^ 18 % 16
  else true

/-- A value as it is stored: the reserved bits of a CAN timing or object word are ignored and read 0 (R8, R292, R298). -/
def withoutReserved (id : Nat) (v : List Byte) : List Byte :=
  let n := leNat v
  match paramOf id with
  | none => v
  | some r =>
    if r.base = P.canNominal 0 then leBytes v.length (n - n / 2 ^ 7 % 2 * 2 ^ 7)
    else if r.base = P.canData 0 then leBytes v.length (n - n / 2 % 2 ^ 6 * 2)
    else if r.base = P.txoControl 0 0 then leBytes v.length (n - n % 2 ^ 6)
    else v

/-- A value in the range of its table, R350: the interval, the extra conditions, and no NaN in a REAL. -/
def inRange (r : ParamRow) (id : Nat) (v : List Byte) : Bool :=
  match r.type with
  | .bytes16 | .bytes16wo => rangeExtra r id v
  | .real32 =>
    match fdecode real32 (leNat v) with
    | .nan => false
    | x => fcompare (fdecode real32 (fofInt real32 r.lo)) x != some .gt &&
           fcompare x (fdecode real32 (fofInt real32 r.hi)) != some .gt
  | _ => decide (r.lo ≤ setValue r v) && decide (setValue r v ≤ r.hi) && rangeExtra r id v

end Sys2Proof.Machine
end

