-- ==== Sys2Proof/Types/Request.lean ====
section
/-! DEFINITION. A request to the Keeper without its header: one constructor per command, as the mailboxes and the
command rows hand it over (R330 to R339). Plain data only. -/

namespace Sys2Proof

inductive Request where
  | idGet
  | stateGet
  | healthGet
  | stateRelease
  | setRead (source : Nat) (ids : List Nat)
  | setWrite (entries : List (Nat × List Byte))
  | setCommit (expected : Nat)
  | setExportBuild
  | setExportRead (offset journal : Nat)
  | prgLoadBegin (version length : Nat)
  | prgLoadData (version offset : Nat) (data : List Byte)
  | prgLoadEnd (version : Nat)
  | prgLoadAbort (version : Nat)
  | prgVerify (version : Nat)
  | prgExchange (version : Nat)
  | prgStart (mask : Nat)
  | prgStop (mask : Nat)
  | imgRead (ranges : List (Nat × Nat))
  | imgWrite (writes : List (Nat × Nat × W64))
  | imgSubscribeStart (interval : Nat) (ranges : List (Nat × Nat))
  | imgSubscribeStop
  | frcSet (writes : List (Nat × Nat × W64))
  | frcClear (all : Bool) (tags : List Nat)
  | frcList (first : Nat)
  | pairStatus
  | pairSwitch
  | pairProof
  | pairRelease
  | timeStatus (mask : W32)
  | trgArm (u mode action channel : Nat) (compat : W32) (target period : Nat) (argument : W64)
  | trgCancel (u : Nat)
  | ioStatus (group first : Nat)
  | ioTrimStart (channel : Nat)
  | ioTrimPoint1 (channel : Nat) (reading : W32) (journal : Nat)
  | ioTrimPoint2 (channel : Nat) (reading : W32) (journal : Nat)
  | ioTrimCommit (channel : Nat) (journal : Nat)
  | ioTrimAbort (channel : Nat) (journal : Nat)
  | ioResetFault (group : Nat) (channels : W16) (mask : W32)
  | canStatus (channel : Nat) (mask : W32)
  | canSend (channel : Nat) (frames : List (CanFrame × Bool))
  | canRecv (channel queue maximum : Nat)
  | canConfigSetMode (channel mode : Nat) (adopt : Bool) (candidates : List (W32 × W32))
  | canConfigRestart (channel : Nat)
  | evtRead (first maximum area : Nat)
  | evtMark (code : Nat) (data : List Byte)
  | bistResult
  | bistRun (block : Nat) (background : Bool)
  | updOpen (header : List Byte)
  | updChunk (offset : Nat) (data : List Byte)
  | updCloseApply
  | updCloseAbandon
  | updActivate (pairProcedure : Bool)
  | updStatus
  | secChallenge (level : Nat)
  | secUnlock (nonce slot : Nat) (signature : List Byte)
  | secLifecycle (target slot nonce : Nat) (signature : List Byte)
  | pwrSetPowerState (code : Nat)
  | pwrSetRestart
  | pwrGet
  | jnlGetEntries (id maximum : Nat)
  | jnlGetAttachment (id offset : Nat)
  | quoSet (cls quota : Nat)
  | quoGet (cls : Nat)
  | wearGet (category first : Nat)
  /-- A request with an undefined command code, R330. -/
  | unknown (code : Nat)
  /-- A payload of the wrong length, or with an undefined operation code at an offset (checks 9 and 10 of R321). -/
  | malformed (code length : Nat) (field : Option Nat)
  /-- A request that fails check 1, 2 or 3 of R321, with its status. -/
  | broken (code status : Nat)
  deriving DecidableEq, Repr

end Sys2Proof
end

