-- ==== Sys2Proof/Machine/State.lean ====
section
/-! DEFINITION. The state of one VX-6416 module, the reasons a step can stop, and the module as it leaves the
factory, before its first power-up. Reset values: the Reset columns of the manual's field maps; where the manual
gives none, the value that notes/assumptions/2.md names. -/

namespace Sys2Proof.Machine

open Sys2Proof

/-- The module's own state and power state (R326, R381), its fault (R332) and a restart that is under way (R374). -/
structure Mod where
  state : ModState
  power : PowerState
  fault : FaultCause
  /-- Host software has read the fault since it arose (R58). -/
  faultRead : Bool
  /-- A restart without power loss has been caused and has not run yet. -/
  restarting : Bool
  /-- A wake from DORMANT is in progress: the bit number of its source (R387). -/
  waking : Option Nat
  /-- Settings unreadable at HELD and the epoch of the release, for R140. -/
  keeperCause : Nat
  deriving DecidableEq, Repr

/-- The image, the force table and the epoch (R18 to R29, R112, R490). -/
structure Image where
  tags : Tbl Tag
  forces : List Force
  /-- Latest completed epoch. -/
  epoch : Nat
  /-- Last mirrored epoch; on a standby the last applied epoch. -/
  mirrored : Nat
  /-- Epoch last stored in MRAM (R21). -/
  stored : Nat
  lostRanges : List (Nat × Nat)
  lostFloor : Nat
  /-- Entries of the force table last stored in MRAM (R117). -/
  storedForces : Nat
  /-- The force table as the last mirror record left it at the partner (R117). -/
  forcesSent : List Force
  /-- Highest epoch of the former active seen in barges or mirror traffic (R26). -/
  observed : Nat
  deriving DecidableEq, Repr

/-- Program versions, instances, tasks and executions. -/
structure Control where
  running : Option Program
  staged : Option Staged
  load : Option Load
  exchange : Option Exchange
  insts : Tbl Inst
  /-- The running version lies in the second half of STATE and CODE (R357). -/
  half : Bool
  tasks : Vector Task 16
  execs : List Exec
  weave : Weave
  deriving DecidableEq, Repr

/-- One module. -/
structure State where
  mod : Mod
  img : Image
  ctl : Control
  pair : Pair
  tow : Tow
  net : Net
  sw : Switching
  time : TimeUnit
  field : FieldZone
  can : Vector Can 2
  keeper : Keeper
  settings : Settings
  basin : Basin
  bist : Vector BistBlock 14
  path : Towpath
  refs : Refs
  recd : Recorder
  wear : Wear
  upd : Update
  sec : Security
  /-- Requests rung that the Keeper has not taken yet, oldest first (R313, R328, R387). -/
  deferred : List (ReqHdr × Request)
  /-- Free values drawn so far; the model's own field (notes/assumptions/1.md). -/
  drawn : Nat
  /-- Commands that wait, first in first out. -/
  pending : List Instr
  deriving DecidableEq, Repr

/-- Reasons a step can stop with a fault. -/
inductive Fault where
  /-- Raised by MEM_READ and MEM_WRITE for an address beyond 0x1BFF_FFFF of the Basin, which the manual's address
  space (R12) does not hold. Safe: the machine stops where the manual gives no access. -/
  | noSuchAddress (address : Nat)
  deriving DecidableEq, Repr

/-- Reasons a command can be refused by the model. -/
inductive Refusal where
  /-- Raised by no meaning: an arm of Machine/Dispatch.lean whose command has no meaning yet. Safe. -/
  | notModelled (mnemonic : String)
  deriving DecidableEq, Repr

/-! ### Values at reset -/

def Task.reset : Task :=
  { running := false, notBefore := 0, lastTick := none, lastRelease := 0, offsetInForce := 0, lastScan := 0,
    minScan := none, maxScan := 0, minSlack := none, shortSlack := 0, executions := 0, preemptions := 0,
    divergences := 0, wantFull := false, sendFull := false, compareFailed := none, failedBefore := none, failedDuplex := false }

def Lane.reset (role : LaneRole) : Lane :=
  { role := role, bistFlag := false, resyncs := [], replacements := 0, haltCause := none, haltedIn := none, replaces := none,
    badCode := [], due := false,
    gated := false, debugHalt := false }

/-- R121: at first power-up from the factory L0, L1 and L2 are ACTIVE and L3 is SPARE. -/
def Weave.reset : Weave :=
  { lanes := ⟨#[Lane.reset .active, Lane.reset .active, Lane.reset .active, Lane.reset .spare], rfl⟩,
    generation := 0, uncompared := false, comparatorFault := false, corrections := 0, injectLane := 0,
    injectBit := 0, uncorrectable := false }

def Pair.reset : Pair :=
  { partnerFormat := 0, suspect := false, towLineLost := false, supersededFlag := false, proofDue := false, proofFailed := false,
    paired := false, ownerMismatch := false, formatMismatch := false, catchingUp := false, lastCause := .none,
    claim := 0, highestClaim := 0, partner := none, lastHeartbeat := none, heardHeartbeat := false,
    heardBarge := false, releasedAt := none, joinWaitOver := false, silence := false, silenceStart := 0,
    activeClaim := 0, partnerSuspect := false, mirrorAlone := true, checkWindow := false, offer := none, offerAt := 0, heardOffer := false, cold := none, tie := false }

/-- Two lanes carry traffic and the third is a spare (R143). -/
def Tow.reset : Tow :=
  { up := false, lanes := ⟨#[.carrying, .carrying, .spare], rfl⟩, degraded := false, spareInUse := false,
    seqOut := 0, seqIn := 0, crcErrors := 0, sent := [], retained := [], catchup := none, serving := false,
    records := [], shadowBarges := [], activeBarges := [], handoverSent := none, handoverSeen := none, handoverAt := 0, switch := none, proof := none,
    switches := 0, mismatches := 0, compareMissing := 0, nodeClaimLag := 0, proofHours := 0, fullFormBytes := [] }

def DiscardCounts.zero : DiscardCounts :=
  { badLength := 0, badVersion := 0, badCrc := 0, badFormat := 0, notMine := 0, unknownNode := 0, authFail := 0,
    replay := 0, staleSession := 0, rateLimited := 0 }

def Net.reset : Net :=
  { nodes := [],
    auth := { keyEpoch := 0, switchAt := 0, overlapUntil := none, sentBroadcast := 0, sentStatus := 0, sentStatusZero := 0,
              closed := false, switchRefused := false },
    broadcastSeq := 0, statusSeq := 0, statusZeroSeq := 0, otherSeq := [], partnerStreams := [],
    counts := Vector.replicate 3 DiscardCounts.zero,
    fragmented := 0, engineFull := 0, engineSecond := 0, engineCount := 0, safeRepeats := 0, safeClaim := 0, safeSentAt := 0,
    claimSentAt := none, lastComplete := 0 }

/-- While GCL_LENGTH is 0 every gate is open (R218). -/
def Port.reset : Port :=
  { linkUp := false, framesIn := 0, framesOut := 0, fcsErrors := 0, oversize := 0, gateTooShort := 0, fwdBadFcs := 0,
    queue := [], sent := [], busyUntil := 0, gates := 0xFF, gclIndex := 0, gclCycleStart := 0,
    gcl := { length := 0, cycle := 1000000, base := 0, entries := [] }, nextGcl := none, gclSince := 0, txts := [],
    txtsOvf := false, txtsOverflows := 0, mrpBlocked := false }

def Switching.reset : Switching :=
  { ports := Vector.replicate 3 Port.reset, learned := [], ringClosed := false, delivered := [] }

def Trigger.reset : Trigger :=
  { setup := none, armed := false, late := false, firings := 0, suppressed := 0, delayed := 0, firedAt := none }

def TimeUnit.reset : TimeUnit :=
  { count := 0, era := 0, servo := .freeRun, lockedSince := none, goodSyncs := 0, masterSelected := false,
    master := none, masterPort := none, selfSelected := false, abandonedRun := 0, syncOrigin := none,
    masterLostAt := none, offset := 0, pathDelay := 0, freqPpb := 0, offsetLarge := false, slewing := false,
    eraSet := false, slowPort := false, ppsLost := false, stepsRemoved := 0, gmIdentity := 0, tsExpired := 0,
    lastPps := none, pendingTai := none, everSynced := false, ptpSeq := 0, abandoned := 0, ptpSent := [],
    syncRx := none, masterToSlave := 0, delayTx := Vector.replicate 3 none, pdelayRx := Vector.replicate 3 none,
    linkDelay := Vector.replicate 3 0, partnerTimeFlags := 0,
    triggers := Vector.replicate 32 Trigger.reset,
    captures := Vector.replicate 4 { stamp := 0, takenAt := 0, rising := false, count := 0 } }

/-- SAFE_APPLIED and YIELDED read 1 at reset (R252). -/
def Dio.reset : Dio :=
  { comparator := false, comparatorSince := 0, debounced := false, padHigh := false, padSince := 0,
    lowCurrent := false, lowCurrentSince := 0, limiting := false, limitingSince := 0, commanded := false,
    driving := false, safeApplied := true, yielded := true, latchedOff := false, retries := 0, trips := 0, trippedAt := none,
    lastTrip := none, held := none, breakFrom := none, externalDrive := false, openOrBackfed := false,
    overcurrent := false, thermal := false, partnerDrive := false, externalSeen := false, openSeen := false,
    overcurrentSeen := false, thermalSeen := false, lateField := false }

def DioLive.none : DioLive :=
  { externalDrive := false, openOrBackfed := false, overcurrent := false, thermal := false, partnerDrive := false }

/-- The factory trim set of an untrimmed converter: raw and reference readings agree (notes/assumptions/2.md). -/
def TrimSet.reset : TrimSet :=
  { ref1 := 4000000, raw1 := 4000000, ref2 := 20000000, raw2 := 20000000 }

/-- SAFE_APPLIED and YIELDED read 1 at reset (R288); an open channel idles its supply at 8 V (R272). -/
def Aio.reset : Aio :=
  { driven := none, held := none, readback := 0, padMicroV := 0, supplyMicroV := 8000000, lowerTarget := none,
    reading := 0, convertedAt := 0, raw := 0, badValues := 0, safeApplied := true, yielded := true,
    handoverAt := none, mismatch := false, disagree := 0, agree := 0, changedAt := 0, headroomOk := true,
    headroomSince := 0, compliance := false, alarmNotReached := false, thermal := false, trippedAt := none,
    overrange := false, mismatchSeen := false, complianceSeen := false, thermalSeen := false,
    overrangeSeen := false, lateField := false, factory := TrimSet.reset, user := none }

/-- FI_LEVEL and FO_SAFE_APPLIED read 1 at reset (R264). -/
def Fi.reset : Fi :=
  { level := true, failsafe := false, failsafeSeen := false }

def Fo.reset : Fo :=
  { level := false, short := false, shortSeen := false, safeApplied := true,
    yielded := true, held := none, pulseEnd := none }

def Uplink.reset : Uplink :=
  { debounced := Vector.replicate 16 false, comparators := Vector.replicate 16 false, diags := Vector.replicate 16 DioLive.none,
    readings := Vector.replicate 8 0, converted := Vector.replicate 8 0, monitor := .unpowered }

def FieldZone.reset : FieldZone :=
  { dio := Vector.replicate 16 Dio.reset, aio := Vector.replicate 8 Aio.reset, fi := Vector.replicate 4 Fi.reset,
    fo := Vector.replicate 4 Fo.reset, monitor := .unpowered, heldUpdates := [], toSend := [], safeToSend := false,
    downlinks := [], uplinks := [], foReleases := [], delayedActions := [], lastDownlink := none,
    lastUplink := none, received := Uplink.reset, sampleTime := 0, fieldLost := false, lastStrobe := none,
    safeInForce := false, safeUntilRelease := false, makeNotBefore := 0, trim := [] }

def RxQueue.reset : RxQueue :=
  { records := [], headOpen := false, shadow := none, overflows := 0, lost := false }

def Can.reset : Can :=
  { mode := .disabled, wake := { mode := 0, id := 0, idMask := 0, dlc := 0, dataMask := 0 }, beforeSleep := .disabled, confinement := .errorActive, tec := 0, recCnt := 0,
    recovering := false, rateFound := false, dataUnconfirmed := false, autobaudFailed := false, candidate := 0,
    candidates := [], passes := 0, goodFrames := 0, brsSeen := false, lastComplete := 0, adopted := none,
    clash := false, clashErrors := [], clashCount := 0, ackErrors := 0, lonely := false, clashSeen := false,
    lonelySeen := false, busOffSeen := false, passiveSeen := false, rxOverflowSeen := false, wakeSeen := false,
    rxq := Vector.replicate 2 RxQueue.reset, slots := Vector.replicate 64 none,
    objects := Vector.replicate 32 { formed := none, pending := none }, hostQueue := [], batches := [],
    txOverwritten := 0, suppressed := 0, received := 0, sentCount := 0, busOffEntries := 0, sent := [], yieldedAt := 0, leaving := none }

def Mailbox.reset : Mailbox :=
  { req := [], rsp := [], dbReq := false, dbRsp := false, waiting := [], stored := none, subscribed := false }

/-- INT_STAT KEEPER_RESTART reads 1 at reset (R312); no session exists before the Keeper first starts. -/
def Keeper.reset : Keeper :=
  { running := false, beatCount := 0, intStat := 0x10, intMask := 0, hostBeat := 0, beatAt := none, sampledBeat := 0, sampledAt := 0,
    mailboxes := Vector.replicate 8 Mailbox.reset, conns := [], pcieSession := 0, spiSession := 0,
    pcieAccess := .admin, spiAccess := .admin, usedSessions := [], held := [], journal := [], lastJournal := 0, unsent := [],
    changes := [], subscriptions := [], exports := [], barErrors := 0, spiBurstErr := 0, connsRefused := 0,
    foreignRings := 0, sluices := [], sluiceOvf := 0, readData := [], msis := 0,
    peaks := Vector.replicate 6 0, marks := [], restartCause := 0 }

/-- Two equal copies of the all-default set, generation 0. -/
def Settings.reset : Settings :=
  { committed := [], inForce := [],
    copyA := { generation := 0, schema := 1, epoch := 0, entries := [], valid := true },
    copyB := { generation := 0, schema := 1, epoch := 0, entries := [], valid := true },
    usingB := false, unreadable := false, staged := [], commits := [] }

def Basin.reset : Basin :=
  { mem := [], poison := [], map := [], sections := [], migration := none, waiting := [], uncorrectable := false,
    scrubbed := 0, idlePoison := [] }

def BistBlock.reset : BistBlock :=
  { result := .notRun, hours := 0, signature := 0, flag := false, running := none, lastBackground := 0,
    retryFrom := none }

def Towpath.reset : Towpath :=
  { powered := false, powerCycles := 0, hours := 0, seconds := 0, mramHours := 0, mramSeconds := 0, mramCycles := 0,
    feeds := Vector.replicate 4 { inRange := false, microV := 0 }, charged := false, weak := false,
    measuredMicroF := 0, flushed := false, savedJournal := [], strapFailHi := false, strapDbgHold := false }

def Refs.reset : Refs :=
  { inUse := 0, failed := Vector.replicate 2 false, xtalFailed := false, holdSince := none, latchedLost := false,
    deviationPpb := Vector.replicate 3 0, switchesAway := Vector.replicate 3 0, failHours := Vector.replicate 3 0 }

def Recorder.reset : Recorder :=
  { staging := [], discarded := 0, lostAtFlush := 0, slots := [], permanentUsed := 0, newestSlot := none,
    lastSeq := 0, newestSinceRestart := false, tails := Vector.replicate 2 none }

def Wear.reset : Wear :=
  { lanes := Vector.replicate 4 { resyncs := 0, fails := 0, resyncHours := 0, replaceHours := 0, lates := 0, selfFaults := 0 },
    flash := [], mram := [], corrections := [],
    tow := Vector.replicate 3 { swaps := 0, crcErrors := 0, alignLosses := 0, lossHours := 0 },
    dout := Vector.replicate 16 { trips := 0, latchOffs := 0, overcurrents := 0, tripHours := 0 },
    aout := Vector.replicate 8 { commits := 0, fromFactory1 := 0, fromFactory2 := 0, fromUser1 := 0, fromUser2 := 0,
                                 hours := 0, drift := false },
    sparesLow := false }

/-- Slot A holds the factory image; its contents are the module's own (notes/assumptions/2.md). -/
def Update.reset : Update :=
  { slots := ⟨#[{ state := .active, header := [], image := [] }, { state := .empty, header := [], image := [] }], rfl⟩,
    bootSlot := 0, fallback := none, trialSince := none, lease := none, header := [], delta := [], applying := none,
    rebuilt := 0, interrupted := none, lastStatus := 0, pairUpdate := none }

def Security.reset : Security :=
  { lifecycle := .blank, wipePending := false, wipeFailed := false,
    keys := Vector.replicate 4 { hash := none, revoked := false, copy1 := [], copy2 := [] }, fuses := [],
    deviceKey := false, secretRow := true, fingerprint := [], nonces := [], nextNonce := 0, failures := [],
    lockoutUntil := none, session := none, tainted := false, keeperHalted := false, bistHeld := false,
    denied := false, tracing := false, pads := [], tdo := [], keeperSram := [], laneMem := Vector.replicate 4 [] }

/-- The module as it leaves the factory, without power: state code BOOT (KEEPER_BEAT reset value 0x01, R312). -/
def State.reset : State :=
  { mod := { state := .boot, power := .full, fault := .none, faultRead := false, restarting := false, waking := none, keeperCause := 0 },
    img := { tags := [], forces := [], epoch := 0, mirrored := 0, stored := 0, lostRanges := [], lostFloor := 0,
             storedForces := 0, forcesSent := [], observed := 0 },
    ctl := { running := none, staged := none, load := none, exchange := none, insts := [], half := false,
             tasks := Vector.replicate 16 Task.reset, execs := [], weave := Weave.reset },
    pair := Pair.reset, tow := Tow.reset, net := Net.reset, sw := Switching.reset, time := TimeUnit.reset,
    field := FieldZone.reset, can := Vector.replicate 2 Can.reset, keeper := Keeper.reset,
    settings := Settings.reset, basin := Basin.reset, bist := Vector.replicate 14 BistBlock.reset,
    path := Towpath.reset, refs := Refs.reset, recd := Recorder.reset, wear := Wear.reset, upd := Update.reset,
    sec := Security.reset, deferred := [], drawn := 0, pending := [] }

end Sys2Proof.Machine
end

