-- ==== Sys2Proof/Machine/Ops.lean ====
section
/-! DEFINITION. The named operations of the module that every family uses: module time, settings in force, interrupts,
events, the journal with its held responses, module and power states, and Basin bytes. -/

namespace Sys2Proof.Machine

open Sys2Proof

/-! ### One part of the state at a time -/

def onMod (g : Mod → Mod) (s : State) : State := { s with mod := g s.mod }
def onImg (g : Image → Image) (s : State) : State := { s with img := g s.img }
def onCtl (g : Control → Control) (s : State) : State := { s with ctl := g s.ctl }
def onPair (g : Pair → Pair) (s : State) : State := { s with pair := g s.pair }
def onTow (g : Tow → Tow) (s : State) : State := { s with tow := g s.tow }
def onNet (g : Net → Net) (s : State) : State := { s with net := g s.net }
def onSw (g : Switching → Switching) (s : State) : State := { s with sw := g s.sw }
def onTime (g : TimeUnit → TimeUnit) (s : State) : State := { s with time := g s.time }
def onField (g : FieldZone → FieldZone) (s : State) : State := { s with field := g s.field }
def onKeeper (g : Keeper → Keeper) (s : State) : State := { s with keeper := g s.keeper }
def onSettings (g : Settings → Settings) (s : State) : State := { s with settings := g s.settings }
def onBasin (g : Basin → Basin) (s : State) : State := { s with basin := g s.basin }
def onPath (g : Towpath → Towpath) (s : State) : State := { s with path := g s.path }
def onRefs (g : Refs → Refs) (s : State) : State := { s with refs := g s.refs }
def onRecd (g : Recorder → Recorder) (s : State) : State := { s with recd := g s.recd }
def onWear (g : Wear → Wear) (s : State) : State := { s with wear := g s.wear }
def onUpd (g : Update → Update) (s : State) : State := { s with upd := g s.upd }
def onSec (g : Security → Security) (s : State) : State := { s with sec := g s.sec }
def onCan (c : Fin 2) (g : Can → Can) (s : State) : State := { s with can := vmod s.can c g }
def onBist (b : Fin 14) (g : BistBlock → BistBlock) (s : State) : State := { s with bist := vmod s.bist b g }
def onTask (k : TaskId) (g : Task → Task) (s : State) : State := onCtl (fun c => { c with tasks := vmod c.tasks k g }) s
def onWeave (g : Weave → Weave) (s : State) : State := onCtl (fun c => { c with weave := g c.weave }) s
def onLane (l : LaneId) (g : Lane → Lane) (s : State) : State := onWeave (fun w => { w with lanes := vmod w.lanes l g }) s
def onPort (p : Fin 3) (g : Port → Port) (s : State) : State := onSw (fun w => { w with ports := vmod w.ports p g }) s
def onMailbox (n : Fin 8) (g : Mailbox → Mailbox) (s : State) : State :=
  onKeeper (fun k => { k with mailboxes := vmod k.mailboxes n g }) s
def onDio (c : Fin 16) (g : Dio → Dio) (s : State) : State := onField (fun f => { f with dio := vmod f.dio c g }) s
def onAio (c : Fin 8) (g : Aio → Aio) (s : State) : State := onField (fun f => { f with aio := vmod f.aio c g }) s
def onFo (c : Fin 4) (g : Fo → Fo) (s : State) : State := onField (fun f => { f with fo := vmod f.fo c g }) s
def onFi (c : Fin 4) (g : Fi → Fi) (s : State) : State := onField (fun f => { f with fi := vmod f.fi c g }) s
def onExecs (g : List Exec → List Exec) (s : State) : State := onCtl (fun c => { c with execs := g c.execs }) s

/-- Draws a free value: the counter advances (notes/assumptions/1.md). -/
def freeWord (s : State) : W64 := Config.freeValue s.drawn
def draw (s : State) : State := { s with drawn := s.drawn + 1 }

/-! ### Module time, R221 -/

/-- The module's time in TAI ns: ERA × 2^32 + COUNT. -/
def nowOf (s : State) : Nat := s.time.era.toNat * 2 ^ 32 + s.time.count.toNat

/-- Sets the module's time to the instant of an event. -/
def atTime (t : Nat) (s : State) : State :=
  onTime (fun u => { u with count := BitVec.ofNat 32 t, era := BitVec.ofNat 32 (t / 2 ^ 32) }) s

/-- A 32-bit timestamp of the time unit as a full instant: the one within 2^31 ns of the module's time (R222). -/
def fullTime (s : State) (stamp : W32) : Nat :=
  (nowOf s + (toSigned 32 (stamp.toNat + 2 ^ 32 - s.time.count.toNat))).toNat

/-- A 32-bit timestamp extended against a reference time (R222). -/
def extendAt (ref : Nat) (stamp : W32) : Nat := (ref + (toSigned 32 (stamp.toNat + 2 ^ 32 - ref % 2 ^ 32))).toNat

/-- The one epoch within 2^31 of the module's own whose low 32 bits are `low` (R26). -/
def fullEpoch (s : State) (low : Nat) : Nat :=
  ((s.img.epoch : Int) + toSigned 32 (low + 2 ^ 32 - s.img.epoch % 2 ^ 32)).toNat

def usToNs (n : Nat) : Nat := n * 1000
def msToNs (n : Nat) : Nat := n * 1000000

/-! ### Settings in force, R347 -/

def valueIn (tbl : Tbl (List Byte)) (id : Nat) : List Byte :=
  match tget id tbl with
  | some v => v
  | none =>
    match paramOf id with
    | some r => defaultBytes r id
    | none => []

def atRestartClass (id : Nat) : Bool :=
  match paramOf id with
  | some r => r.cls == .atRestart || r.cls == .atPowerUp
  | none => false

/-- The bytes of a setting in force: a setting of class At restart or At power-up as it stood at that event. -/
def settingBytes (s : State) (id : Nat) : List Byte :=
  valueIn (if atRestartClass id then s.settings.inForce else s.settings.committed) id

def cfg (s : State) (id : Nat) : Nat := leNat (settingBytes s id)

def cfgFlag (s : State) (id : Nat) : Bool := cfg s id == 1

def ownerId (s : State) : Nat := cfg s P.ownerId
def ownNode (s : State) : Nat := cfg s P.nodeIdOwn

/-! ### Tasks' parameters, R35 and R36; the values are in µs, the results in ns -/

def periodOf (s : State) (k : TaskId) : Nat := usToNs (cfg s (P.taskPeriod k.val))
def phaseOf (s : State) (k : TaskId) : Nat := usToNs (cfg s (P.taskPhase k.val))
def priorityOf (s : State) (k : TaskId) : Nat := cfg s (P.taskPriority k.val)
def enabledTask (s : State) (k : TaskId) : Bool := cfgFlag s (P.taskEnable k.val)

def offsetOf (s : State) (k : TaskId) : Nat :=
  if cfg s (P.taskOffset k.val) = 0 then periodOf s k else usToNs (cfg s (P.taskOffset k.val))

def deadlineOf (s : State) (k : TaskId) : Nat :=
  if cfg s (P.taskDeadline k.val) = 0 then periodOf s k else usToNs (cfg s (P.taskDeadline k.val))

def allTasks : List TaskId := List.finRange 16
def runningTasks (s : State) : List TaskId := allTasks.filter fun k => s.ctl.tasks[k].running

/-- Period of the fastest running task; none while no task runs. -/
def fastestPeriod (s : State) : Option Nat :=
  (runningTasks s).foldl (fun m k => some (match m with
    | some p => min p (periodOf s k)
    | none => periodOf s k)) none

/-- The first instant n·P + φ at or after `t` (R32). -/
def nextTick (s : State) (k : TaskId) (t : Nat) : Nat :=
  let p := max 1 (periodOf s k)
  let f := phaseOf s k % p
  t + (f + p - t % p) % p

/-! ### Interrupts, R312 and R314 -/

def intRsp : Nat := 0
def intJnl : Nat := 1
def intState : Nat := 2
def intEvt : Nat := 3
def intRestart : Nat := 4
def intSluice : Nat := 5
def intBeat : Nat := 6
def intPair : Nat := 7
def intTime : Nat := 8

/-- Sets a bit of INT_STAT; one MSI where it rises while its INT_MASK bit is 1. -/
def raiseInt (n : Nat) (s : State) : State :=
  onKeeper (fun k =>
    { k with intStat := k.intStat ||| BitVec.ofNat 32 (2 ^ n),
             msis := k.msis + if !k.intStat.getLsbD n && k.intMask.getLsbD n then 1 else 0 }) s

/-! ### Events: detection and staging, R407, R410, R411 -/

/-- Severity by event code, "Event codes" of R419. -/
def severityOf (code : Nat) : Nat :=
  if code ∈ [0x0102, 0x0104, 0x0201, 0x0505, 0x0506, 0x0606, 0x0E03, 0x1203] then 3
  else if code ∈ [0x0503, 0x0504, 0x0601, 0x0602, 0x0603, 0x0604, 0x0605, 0x0801, 0x0905, 0x0906, 0x0A02, 0x0B02,
                  0x0C01, 0x0D01, 0x0E01, 0x0F11, 0x0F13, 0x1001, 0x1101, 0x1103, 0x1201] then 2
  else if code ∈ [0x0607, 0x0609, 0x0B05, 0x0D02, 0x0D03, 0x0F02, 0x1002, 0x1202] then 0
  else if 0xF000 ≤ code then 0
  else 1

/-- Event time: zero unless SERVO_STATE is LOCKED, HOLDOVER or GRANDMASTER. -/
def eventTime (s : State) : Nat :=
  match s.time.servo with
  | .locked | .holdover | .grandmaster => nowOf s
  | _ => 0

def mkEvent (code source : Nat) (data : List Byte) (s : State) : Event :=
  { cycles := s.path.powerCycles, hours := s.path.hours, seconds := s.path.seconds, code := code,
    time := eventTime s, source := source, severity := severityOf code, instant := nowOf s, holdup := false, lostBefore := false,
    data := sliceAt data 0 32 }

/-- The place of an event's detecting block in R410: Basin controller, lanes and Weave, time unit, tow line, field zone, CAN, Keeper
(DEDUCED from the subsystem of the event code, notes/assumptions/95.md). -/
def blockPlace (code : Nat) : Nat :=
  if code ∈ [0x0102, 0x0201, 0x0202, 0x0F10, 0x0F11] then 0
  else
    match code / 256 with
    | 5 => 1
    | 8 => 2
    | 14 => 2
    | 6 => 3
    | 9 => 4
    | 10 => 4
    | 11 => 5
    | _ => 6

/-- The queue with an event in its place: behind every event detected earlier, and among those of its own instant in the order of
their detecting blocks (R410). -/
def placeEvent (q : List Event) (e : Event) : List Event :=
  let behind := (q.reverse.takeWhile fun x => x.instant == e.instant && decide (blockPlace e.code < blockPlace x.code)).length
  q.take (q.length - behind) ++ e :: q.drop (q.length - behind)

/-- Stages an event; the queue holds 32,768 entries and an event that finds it full is discarded and counted. -/
def stage (code source : Nat) (data : List Byte) (s : State) : State :=
  onRecd (fun r =>
    if r.staging.length < 32768 then { r with staging := placeEvent r.staging (mkEvent code source data s) }
    else { r with discarded := r.discarded + 1 }) s

/-- Source words of R418. -/
def srcModule : Nat := 0
def srcLane (l : LaneId) : Nat := 0x100 + l.val
def srcTask (k : TaskId) : Nat := 0x200 + k.val
def srcDio (c : Fin 16) : Nat := 0x300 + c.val
def srcAio (c : Fin 8) : Nat := 0x400 + c.val
def srcFast (n : Fin 4) : Nat := 0x500 + n.val
def srcCan (c : Fin 2) : Nat := 0x600 + c.val
def srcPort (p : Fin 3) : Nat := 0x701 + p.val
def srcTow (n : Fin 3) : Nat := 0x800 + n.val
def srcClock (n : Nat) : Nat := 0x900 + n
def srcNode : Nat := 0xA00
def srcSection : Nat := 0xB00
def srcHost (n : Nat) : Nat := 0xC00 + n
def srcFeed (n : Nat) : Nat := 0xD00 + n
def srcStore (n : Nat) : Nat := 0xE00 + n

/-! ### Sluice overruns, R398, R401 to R404 -/

/-- Sluice IDs: source domain, receiving domain, index over the rows of the catalogue that share both. -/
def sluiceDoorbell : Nat := 0x7100
def sluiceTxStamp (p : Fin 3) : Nat := 0x5104 + p.val
def sluiceCanRecord (c : Fin 2) : Nat := 0x6300 + c.val
def sluiceBeat : Nat := 0x7101
def sluiceFrames : Nat := 0x4300
def sluiceCaptureKeeper (n : Fin 4) : Nat := 0x5100 + n.val
def sluiceCaptureLane (n : Fin 4) : Nat := 0x5202 + n.val

/-- An overrun: the sluice's flag and its count of 8 bits; where the bit of its receiving domain rises, INT_STAT SLUICE and
`SLUICE_OVERRUN`. -/
def overrun (id : Nat) (s : State) : State :=
  let n := min 255 ((tget id s.keeper.sluices).getD 0 + 1)
  let d := id / 256 % 16
  let old := s.keeper.sluiceOvf
  let s := onKeeper (fun k => { k with sluices := tput id n k.sluices, sluiceOvf := k.sluiceOvf ||| BitVec.ofNat 32 (2 ^ d) }) s
  if old.getLsbD d then s else stage 0x0E04 srcModule (le2 id ++ [byteOf n]) (raiseInt intSluice s)

/-- A crossing that began `gap` ns ago is still pending: its round trip takes at least `least` and less than `most` ns, and how long
in between is a free value (R390, R397). -/
def stillCrossing (gap least most : Nat) (s : State) : Bool × State :=
  if gap < least then (true, s) else if most ≤ gap then (false, s) else ((freeWord s).getLsbD 0, draw s)

/-- A new value replaces one that is still crossing: the overrun counts, and the value before is never delivered (R399). -/
def crossValue (id gap least most : Nat) (s : State) : State :=
  let r := stillCrossing gap least most s
  if r.1 then overrun id r.2 else r.2

/-- Writing 1 to a bit of SLUICE_OVF clears the flags and counts of every sluice that receives in that domain. -/
def clearOverruns (mask : W32) (s : State) : State :=
  onKeeper (fun k =>
    { k with sluices := k.sluices.filter fun p => !mask.getLsbD (p.1 / 256 % 16), sluiceOvf := k.sluiceOvf &&& ~~~mask }) s

/-! ### Module and power states, R326, R327, R384, R386 -/

def stateCode : ModState → Nat
  | .boot => 1
  | .selftest => 2
  | .held => 3
  | .ready => 4
  | .standby => 5
  | .active => 6
  | .stoppedFault => 7
  | .maintenance => 8

def powerCode : PowerState → Nat
  | .full => 0
  | .doze => 1
  | .nap => 2
  | .dormant => 3

def causeCode : SwitchCause → Nat
  | .none => 0
  | .selfDeclared => 1
  | .towSilence => 2
  | .compareHealth => 3
  | .planned => 4
  | .proof => 5
  | .superseded => 6
  | .release => 7

/-- PWR_DEFAULT_STATE: FULL or DOZE. -/
def defaultPower (s : State) : PowerState := if cfg s P.pwrDefault = 0 then .full else .doze

/-- The logic side runs in full: powered, past secure boot, and not in DORMANT. -/
def logicAwake (s : State) : Bool := s.path.powered && s.mod.state != .boot && s.mod.power != .dormant

/-- Changes the power state and records PWR_STATE with its cause: 0 command, 1 take-over, 2 wake, 3 restart. -/
def setPower (p : PowerState) (cause : Nat) (s : State) : State :=
  if s.mod.power = p then s
  else stage 0x0D02 srcModule [byteOf (powerCode s.mod.power), byteOf (powerCode p), byteOf cause]
         (onMod (fun m => { m with power := p }) s)

/-- A wake source of R387 is recognised in DORMANT. -/
def beginWake (source : Nat) (s : State) : State :=
  if s.mod.power = .dormant ∧ s.mod.waking = none then
    stage 0x0D03 srcModule [byteOf source] (onMod (fun m => { m with waking := some source }) s)
  else s

/-! ### The pair as the module sees it -/

/-- Paired under R138. -/
def pairedNow (s : State) : Bool := s.pair.paired

def partnerState (s : State) : Nat :=
  match s.pair.partner with
  | some h => if s.pair.silence then 0 else h.state
  | none => 0

/-- The partner is in `STANDBY`, as its heartbeats last said. -/
def partnerStandby (s : State) : Bool := s.pair.paired && partnerState s == 5

def partnerActive (s : State) : Bool := s.pair.paired && partnerState s == 6

/-- The partner of an active is marked SUSPECT: by its own heartbeats, or here by a proof (R158, R177). -/
def partnerSuspect (s : State) : Bool :=
  s.pair.partnerSuspect || match s.pair.partner with
    | some h => h.suspect && !s.pair.silence
    | none => false

/-- SUSPECT as the module sees its pair: an active reports its partner's (R178). -/
def suspectFlag (s : State) : Bool := if s.mod.state = .active then partnerSuspect s else s.pair.suspect

/-- PAIR_FLAGS, R178. -/
def pairFlags (s : State) : Nat :=
  let p := s.pair
  flag 31 (suspectFlag s) + flag 30 p.towLineLost + flag 29 s.tow.degraded + flag 28 s.tow.spareInUse + flag 27 p.supersededFlag +
    flag 26 p.proofDue + flag 25 p.proofFailed + flag 24 (s.ctl.tasks.toList.any fun t => t.compareFailed.isSome) +
    flag 23 (!p.paired) + flag 22 p.ownerMismatch + flag 21 p.formatMismatch + flag 20 p.catchingUp + partnerState s * 2 ^ 8 +
    causeCode p.lastCause

/-- INT_STAT PAIR where PAIR_FLAGS differs from what it was. -/
def watchPair (before s : State) : State := if pairFlags s = pairFlags before then s else raiseInt intPair s

/-- A change of the pair's flags and of what goes with them. -/
def pairChanged (g : Pair → Pair) (s : State) : State := watchPair s (onPair g s)

/-! ### Responses and the journal, R319, R323, R324, R340, R341 -/

def lastMirrored (s : State) : Nat := s.img.mirrored

/-- A response: header of R319 with its CRC, and payload. -/
def mkResponse (s : State) (h : ReqHdr) (command status journal epoch : Nat) (payload : List Byte) : Response :=
  let head := le4 h.sequence ++ le2 command ++ le2 status ++ le4 payload.length ++ le4 journal ++ le8 epoch ++
    le2 (stateCode s.mod.state) ++ le2 0
  let crc := crc32c (head ++ le4 0 ++ payload)
  head ++ le4 crc.toNat ++ payload

/-- The canonical form of a memory: addresses strictly rising, and no zero byte at an address whose unlisted byte reads as zero. -/
def Memory.wf (zero : Nat → Bool) : Memory → Bool
  | [] => true
  | (a, b) :: r => !(zero a && b == 0) && (r.all fun p => decide (a < p.1)) && Memory.wf zero r

/-- Addresses of the Basin whose unlisted byte reads as zero whatever the module holds: what no client uses (R357). -/
def dropsZero (a : Nat) : Bool := decide (0x11F00000 ≤ a)

/-- Bytes written into a mailbox half, in the canonical form of memory: an unlisted byte reads as zero. -/
def putBytes (base : Nat) (bs : List Byte) (m : Memory) : Memory :=
  (bs.zipIdx.foldl (fun m p => if p.1 = 0 then tdel (base + p.2) m else tput (base + p.2) p.1 m) m)

def getBytes (m : Memory) (base n : Nat) : List Byte := (List.range n).map fun i => (tget (base + i) m).getD 0

/-- Writes a response into mailbox n while DB_RSP is 0, and sets DB_RSP and INT_STAT RSP; otherwise it waits (R313). -/
def deliver (n : Fin 8) (r : Response) (s : State) : State :=
  if s.keeper.mailboxes[n].dbRsp then onMailbox n (fun b => { b with waiting := b.waiting ++ [r] }) s
  else raiseInt intRsp (onMailbox n (fun b => { b with rsp := putBytes 0 r b.rsp, dbRsp := true }) s)

/-- Answers a request on its transport and stores sequence, CRC and response (R323). -/
def answer (h : ReqHdr) (r : Response) (s : State) : State :=
  match h.src with
  | .mailbox n => deliver n r (onMailbox n (fun b => { b with stored := some (h.sequence, h.crc, r) }) s)
  | .net id =>
    onKeeper (fun k => { k with conns := k.conns.map fun c =>
      if c.session = id then { c with stored := some (h.sequence, h.crc, r), sent := c.sent ++ [r] } else c }) s

/-- Answers at once with the last mirrored epoch. -/
def respond (h : ReqHdr) (command status : Nat) (payload : List Byte) (s : State) : State :=
  answer h (mkResponse s h command status 0 (lastMirrored s) payload) s

def respondEpoch (h : ReqHdr) (command status epoch : Nat) (payload : List Byte) (s : State) : State :=
  answer h (mkResponse s h command status 0 epoch payload) s

def jget (s : State) (id : Nat) : Option JnlEntry := s.keeper.journal.find? fun e => e.id == id

def ended (st : JnlState) : Bool := st == .done || st == .failed || st == .partly || st == .rolledBack

def prgExchangeCode : Nat := 0x0302

/-- Commands whose effect is an epoch-bound change (R24): IMG.WRITE, FRC.SET, FRC.CLEAR, PRG.EXCHANGE, PRG.START,
PRG.STOP and SET.COMMIT. -/
def epochBound (command : Nat) : Bool :=
  [0x0401, 0x0500, 0x0501, prgExchangeCode, 0x0303, 0x0304, 0x0202].contains command

/-- The entry goes to the partner with the next record: it is epoch-bound or carries PAIR_SCOPE (R340). -/
def noteUnsent (e : JnlEntry) (s : State) : State :=
  if epochBound e.command || e.pairScope then
    onKeeper (fun k => { k with unsent := if k.unsent.contains e.id then k.unsent else k.unsent ++ [e.id] }) s
  else s

/-- Changes a journal entry; a change of its state sets INT_STAT JNL (R341). -/
def jmod (id : Nat) (g : JnlEntry → JnlEntry) (s : State) : State :=
  match jget s id with
  | none => s
  | some e =>
    let s' := noteUnsent e (onKeeper (fun k => { k with journal := k.journal.map fun x => if x.id == id then g x else x }) s)
    if (g e).state = e.state then s' else raiseInt intJnl s'

/-- A findings list as one response carries it: cut to 253 entries, its count showing the entries carried (R331). -/
def cutList (bs : List Byte) : List Byte := if bs.length ≤ 4064 then bs else le2 253 ++ le2 0 ++ (bs.drop 4).take 4048

/-- Answers the held response of an entry that has ended, with its final status (R324). -/
def answerHeld (id : Nat) (s : State) : State :=
  match s.keeper.held.find? (fun r => r.journal == id), jget s id with
  | some r, some e =>
    let epoch := if e.lastStatus = 0 ∧ e.epoch ≠ 0 then e.epoch else lastMirrored s
    answer r.hdr (mkResponse s r.hdr r.command e.lastStatus id epoch (if e.lastStatus = 0 then r.payload else cutList e.attachment))
      (onKeeper (fun k => { k with held := k.held.filter fun x => x.journal != id }) s)
  | _, _ => s

/-- Ends a journal entry with a state and a last status, and answers what is held for it. -/
def jend (id : Nat) (st : JnlState) (status : Nat) (s : State) : State :=
  match jget s id with
  | none => s
  | some e =>
    if ended e.state then s
    else answerHeld id (jmod id (fun e => { e with state := st, lastStatus := status, ended := nowOf s }) s)

/-- Status codes of R322. -/
def stOk : Nat := 0
def stAccepted : Nat := 1
def stBadHeader : Nat := 0x10
def stBadCrc : Nat := 0x11
def stBadLength : Nat := 0x12
def stUnknown : Nat := 0x13
def stBadArgument : Nat := 0x14
def stStateConflict : Nat := 0x20
def stRoleConflict : Nat := 0x21
def stLeaseHeld : Nat := 0x22
def stOverQuota : Nat := 0x23
def stForceConflict : Nat := 0x24
def stEpochGone : Nat := 0x25
def stSettings : Nat := 0x26
def stNotAuthorised : Nat := 0x30
def stLifecycle : Nat := 0x31
def stNotReleased : Nat := 0x40
def stPartial : Nat := 0x50
def stInternal : Nat := 0x60

/-- An epoch of a lost range that the module holds, or not above its lost-range floor (R27, R490). -/
def lostEpoch (s : State) (e : Nat) : Bool :=
  decide (e ≤ s.img.lostFloor) || s.img.lostRanges.any fun r => decide (r.1 ≤ e) && decide (e ≤ r.2)

/-- A change named for an epoch that has been completed, or that names two states (R24, R27). -/
def passedEpoch (s : State) (h : ReqHdr) : Bool := h.atEpoch && (decide (h.epoch ≤ s.img.epoch) || lostEpoch s h.epoch)

/-! ### The Basin: addresses, poison (R12 to R15, R357) -/

/-- Bytes that an access may reach: 0x0000_0000 to 0x1BFF_FFFF. -/
def basinSize : Nat := 0x1C000000

def imgCopyBase (b : Bool) : Nat := if b then 0x02000000 else 0
def stateBase : Nat := 0x04000000

/-- A 32-byte record at a Basin address has a poisoned codeword. -/
def poisonedAt (s : State) (address : Nat) : Bool := (List.range 4).any fun i => s.basin.poison.contains (address / 8 + i)

def slotAddress (index : Nat) (copyB : Bool) : Nat := imgCopyBase copyB + 32 * index

/-- Place of the first execution that satisfies p. -/
def placeWhere (s : State) (p : Exec → Bool) : Option Nat :=
  (List.range s.ctl.execs.length).find? fun i => match s.ctl.execs[i]? with
    | some e => p e
    | none => false

/-- A half of STATE (R357). -/
def stateHalf (second : Bool) : Nat := if second then stateBase + 0x01000000 else stateBase

/-- Place of a record in its STATE half: its rank among the instances. -/
def rankOf (number : Nat) (insts : Tbl Inst) : Nat := (insts.filter fun p => p.1 < number).length

/-- Address of an instance record of the running version. -/
def instAddress (s : State) (number : Nat) : Nat := stateHalf s.ctl.half + 32 * rankOf number s.ctl.insts

/-- Address of a record of the staging copy: it lies in the other half (R104, R357). -/
def stagingAddress (s : State) (staging : Tbl Inst) (number : Nat) : Nat := stateHalf (!s.ctl.half) + 32 * rankOf number staging

/-- Copy B of the tag is the one that serves epoch `e`. -/
def copyIsB (tag : Tag) (e : Nat) : Bool :=
  match servesAt tag.a e, servesAt tag.b e with
  | true, true => decide (tag.a.epoch < tag.b.epoch)
  | true, false => false
  | false, true => true
  | false, false => earliestCopy tag != tag.a

/-- Clears the poison of the codewords of a record that is written whole (R14). -/
def clearPoison (address len : Nat) (s : State) : State :=
  onBasin (fun b => { b with poison := b.poison.filter fun w => w < address / 8 || (address + len) / 8 ≤ w }) s

/-- A half of CODE (R357). A container lies at the start of its half. -/
def codeHalf (second : Bool) : Nat := if second then 0x06400000 else 0x06000000

/-- Poisoned codewords of CODE. -/
def poisonedCode (s : State) : List Nat := s.basin.poison.filter fun w => decide (0x06000000 / 8 ≤ w) && decide (w < 0x06800000 / 8)

/-- A container is written whole to a half of CODE, and to that half of each lane's instruction SRAM (R14, R100). -/
def writeCode (second : Bool) (len : Nat) (s : State) : State :=
  let s := clearPoison (codeHalf second) len s
  let keep (w : Nat) : Bool := decide (w < codeHalf second / 8) || decide (codeHalf second + len ≤ 8 * w)
  onWeave (fun w => { w with lanes := w.lanes.map fun x => { x with badCode := x.badCode.filter keep } }) s

/-- The physical section of a logical one, R12. -/
def physicalOf (s : State) (logical : Nat) : Nat := (tget logical s.basin.map).getD logical

end Sys2Proof.Machine
end

