-- ==== Sys2Proof/Machine/Barges.lean ====
section
/-! DEFINITION. Barges: their bytes, the checks on receipt, the keys and tags, and the barges the module sends
(R179 to R189, R201, R205 to R210, R213). -/

namespace Sys2Proof.Machine

open Sys2Proof

/-! ### Sections, R185 -/

def be2 (n : Nat) : List Byte := beBytes 2 n
def be4 (n : Nat) : List Byte := beBytes 4 n
def be8 (n : Nat) : List Byte := beBytes 8 n

/-- First point of an acknowledgement block (R197). -/
def ackPoint : Nat := 0xFFFFFF00

/-- Data bytes of a section by type, count and first point, without padding; none for an undefined type. -/
def sectionLen (type count first : Nat) : Option Nat :=
  match type with
  | 1 => some ((count + 7) / 8)
  | 2 => some (2 * count)
  | 3 => some (4 * count)
  | 4 => some (4 * count)
  | 5 => some (8 * count)
  | 6 => some (if first = ackPoint then 8 * count else count)
  | 7 => some (8 * count)
  | _ => none

def encodeSection (x : BargeSection) : List Byte := be2 x.type ++ be2 x.count ++ be4 x.first ++ padTo 8 x.data

/-- Reads the sections of a payload; none where one is malformed or they do not fill the payload exactly. -/
def parseSections : Nat → List Byte → Option (List BargeSection)
  | 0, bs => if bs.isEmpty then some [] else none
  | n + 1, bs =>
    let type := beNat (bs.take 2)
    let count := beNat ((bs.drop 2).take 2)
    let first := beNat ((bs.drop 4).take 4)
    match sectionLen type count first with
    | none => none
    | some len =>
      let padded := (len + 7) / 8 * 8
      if bs.length < 8 + padded ∨ count = 0 then none
      else
        let data := (bs.drop 8).take padded
        if (data.drop len).all (· == 0) then
          (parseSections n (bs.drop (8 + padded))).map fun r => { type := type, count := count, first := first, data := data.take len } :: r
        else none

/-- No point appears twice in value sections, or twice in STATUS sections (R186). -/
def disjointPoints : List BargeSection → Bool
  | [] => true
  | x :: r =>
    (r.all fun y => ((x.type == 6) != (y.type == 6)) || decide (x.first + x.count ≤ y.first) ||
      decide (y.first + y.count ≤ x.first)) && disjointPoints r

/-- Sections that a kind may carry (R183). -/
def sectionsAllowed (kind : BargeKind) (xs : List BargeSection) : Bool :=
  match kind with
  | .safe | .claim => xs.isEmpty
  | .status => match xs with
    | [] => true
    | [x] => x.type == 7 && x.count == 1 && x.first == 0
    | _ => false
  | _ => xs.all (fun x => x.type != 7) && disjointPoints xs

/-! ### The header, R182 to R184 -/

def kindCode : BargeKind → Nat
  | .input => 1
  | .output => 2
  | .safe => 3
  | .claim => 4
  | .status => 5

def kindOf : Nat → Option BargeKind
  | 1 => some .input
  | 2 => some .output
  | 3 => some .safe
  | 4 => some .claim
  | 5 => some .status
  | _ => none

def bargeFlags (b : Barge) : Nat :=
  b.task * 4096 + flag 11 b.broadcast + flag 10 b.auth + b.keySlot * 256 + flag 7 b.unsynced + flag 6 b.restarted + flag 5 b.safeActive

/-- Header bytes 0 to 35. -/
def headerBytes (b : Barge) (payload : List Byte) : List Byte :=
  [2#8, byteOf (kindCode b.kind)] ++ be2 (bargeFlags b) ++ be2 b.owner ++ be2 b.node ++ be4 b.claim ++ be4 b.epochLow ++
    be8 b.release ++ be4 b.sequence ++ be2 payload.length ++ be2 b.sections.length ++ be4 b.obeyed

/-- Header with its CRC, and payload: the data that the authentication tag covers. -/
def untagged (b : Barge) : List Byte :=
  let payload := b.sections.flatMap encodeSection
  let head := headerBytes b payload
  head ++ be4 (crc32c (head ++ payload)).toNat ++ payload

def encodeBarge (b : Barge) : List Byte := untagged b ++ if b.auth then b.tag else []

/-- Reasons of a discard, R189 and R199. -/
inductive Discard where
  | badLength | badVersion | badCrc | badFormat | notMine | unknownNode | authFail | replay | staleSession | rateLimited
  deriving DecidableEq, Repr

/-- Checks 1 to 4 of R189, in order, and the barge that passes them. -/
def parseBarge (bs : List Byte) : Except Discard Barge :=
  let flags := beNat ((bs.drop 2).take 2)
  let plen := beNat ((bs.drop 28).take 2)
  let nsec := beNat ((bs.drop 30).take 2)
  let auth := bitAt flags 10
  if bs.length < 40 ∨ bs.length ≠ 40 + plen + (if auth then 8 else 0) then .error .badLength
  else if beNat (bs.take 1) ≠ 2 then .error .badVersion
  else
    let payload := (bs.drop 40).take plen
    if beNat ((bs.drop 36).take 4) ≠ (crc32c (bs.take 36 ++ payload)).toNat then .error .badCrc
    else
      match kindOf (beNat ((bs.drop 1).take 1)), parseSections nsec payload with
      | some kind, some xs =>
        if flags % 32 = 0 ∧ (bitAt flags 11 = false ∨ kind = .safe ∨ kind = .claim) ∧ plen % 8 = 0 ∧
            sectionsAllowed kind xs = true then
          .ok { kind := kind, task := flags / 4096, broadcast := bitAt flags 11, auth := auth,
                keySlot := flags / 256 % 4, unsynced := bitAt flags 7, restarted := bitAt flags 6,
                safeActive := bitAt flags 5, owner := beNat ((bs.drop 4).take 2), node := beNat ((bs.drop 6).take 2),
                claim := beNat ((bs.drop 8).take 4), epochLow := beNat ((bs.drop 12).take 4),
                release := beNat ((bs.drop 16).take 8), sequence := beNat ((bs.drop 24).take 4),
                obeyed := beNat ((bs.drop 32).take 4), sections := xs, tag := bs.drop (40 + plen) }
        else .error .badFormat
      | _, _ => .error .badFormat

/-! ### Keys and tags, R205 to R207 -/

/-- The subkey of a key epoch and a direction: 0x44 for barges of the pair, 0x55 for barges of nodes. -/
def subkey (master : List Byte) (epoch : Nat) (direction : Byte) : List Byte :=
  aes128 (aes128 master (zeros 12 ++ be4 epoch)) (List.replicate 16 direction)

/-- The 8-byte tag of a barge under a key epoch; X is the session for a node's barge and the claim otherwise. -/
def bargeTag (master : List Byte) (epoch : Nat) (b : Barge) : List Byte :=
  let fromNode := b.kind = .input
  let x := if fromNode then b.epochLow else b.claim
  let iv := be2 b.owner ++ be2 b.node ++ be4 x ++ be4 b.sequence
  (gmac (subkey master epoch (if fromNode then 0x55 else 0x44)) iv (untagged b)).take 8

/-- The key epochs that a receiver accepts: the current one and its neighbours (R207); once the overlap after a switch has
ended, only the epoch switched to, until the next switch is scheduled (R208). -/
def keyEpochs (a : Auth) : List Nat :=
  if a.closed then (if a.switchAt = 0 then [a.keyEpoch] else [a.keyEpoch, a.keyEpoch + 1])
  else [a.keyEpoch, a.keyEpoch + 1] ++ (if a.keyEpoch = 0 then [] else [a.keyEpoch - 1])

/-- The key epoch of a received barge: the accepted one with its KEY_SLOT (R207). -/
def keyEpochFor (s : State) (slot : Nat) : Option Nat := (keyEpochs s.net.auth).find? fun x => x % 4 == slot

def tagValid (s : State) (b : Barge) : Bool :=
  match keyEpochFor s b.keySlot with
  | some e => b.auth && b.tag == bargeTag (settingBytes s P.keyMaster) e b
  | none => false

/-- Check 6: authentication by VBP_AUTH_MODE (R210). -/
def authPasses (s : State) (b : Barge) : Bool :=
  match cfg s P.authMode with
  | 0 => true
  | 1 => !b.auth || tagValid s b
  | _ => tagValid s b

/-- The barge counts toward claims: with authentication configured, only a barge whose tag passed (R169, R210). -/
def countsForClaims (s : State) (b : Barge) : Bool := cfg s P.authMode == 0 || (b.auth && tagValid s b)

/-! ### Discard counters -/

def bumpDiscard (d : Discard) (c : DiscardCounts) : DiscardCounts :=
  match d with
  | .badLength => { c with badLength := sat32 (c.badLength + 1) }
  | .badVersion => { c with badVersion := sat32 (c.badVersion + 1) }
  | .badCrc => { c with badCrc := sat32 (c.badCrc + 1) }
  | .badFormat => { c with badFormat := sat32 (c.badFormat + 1) }
  | .notMine => { c with notMine := sat32 (c.notMine + 1) }
  | .unknownNode => { c with unknownNode := sat32 (c.unknownNode + 1) }
  | .authFail => { c with authFail := sat32 (c.authFail + 1) }
  | .replay => { c with replay := sat32 (c.replay + 1) }
  | .staleSession => { c with staleSession := sat32 (c.staleSession + 1) }
  | .rateLimited => { c with rateLimited := sat32 (c.rateLimited + 1) }

/-- Counts a discard at the port, and at the node it names where the node table holds it. -/
def discard (port : Fin 3) (node : Option Nat) (d : Discard) (s : State) : State :=
  onNet (fun n =>
    { n with counts := vmod n.counts port (bumpDiscard d),
             nodes := match node with
               | some i => tmod i (fun x => { x with counts := bumpDiscard d x.counts }) n.nodes
               | none => n.nodes }) s

/-! ### Sending, R201 and R213 -/

/-- Multicast group of the owner (R180): the configured one, else ff15::5642:0:HHLL or 239.193.H.L. -/
def groupAddress (s : State) : Nat :=
  if cfg s P.ipVersion = 6 then
    let g := beNat (settingBytes s P.groupV6)
    if g = 0 then 0xFF15 * 2 ^ 112 + 0x5642 * 2 ^ 32 + ownerId s else g
  else if cfg s P.groupV4 = 0 then 239 * 2 ^ 24 + 193 * 2 ^ 16 + ownerId s else cfg s P.groupV4

/-- Ethernet address of the owner's group. -/
def groupMac (s : State) : Nat :=
  if cfg s P.ipVersion = 6 then 0x3333 * 2 ^ 32 + groupAddress s % 2 ^ 32 else 0x01005E * 2 ^ 24 + groupAddress s % 2 ^ 23

/-- Bytes on the wire of a barge of `n` UDP payload bytes, from the destination address to the FCS. -/
def wireLength (s : State) (n : Nat) : Nat :=
  max 64 (14 + (if cfg s P.vlan = 0 then 0 else 4) + (if cfg s P.ipVersion = 6 then 40 else 20) + 8 + n + 4)

/-- Traffic class of the module's own barges: VBP_PCP_OUT, or VBP_PCP_IN for `STATUS`. -/
def bargeClass (s : State) (k : BargeKind) : Nat :=
  match k with
  | .output | .safe | .claim => cfg s P.pcpOut
  | _ => cfg s P.pcpIn

def bargeFrame (s : State) (k : BargeKind) (dst : Nat) (bytes : List Byte) : PortFrame :=
  let group := dst == groupAddress s
  { dst := if group then groupMac s else (Config.neighbourMac dst).toNat, src := Config.ownMac.toNat, multicast := group,
    vlan := if cfg s P.vlan = 0 then none else some (cfg s P.vlan, bargeClass s k), doubleTagged := false,
    fragment := false, length := wireLength s bytes.length, fcsOk := true, body := .barge dst (cfg s P.udpPort) 0 bytes }

/-- The barge engine takes one more barge in this second. -/
def engineTake (s : State) : State :=
  let second := nowOf s / 1000000000
  onNet (fun n => { n with engineSecond := second, engineCount := if n.engineSecond = second then n.engineCount + 1 else 1 }) s

/-- The engine's capacity of 2.5 million barges per second is taken (R199). The second that is counted is that of the module's
time: DESIGN CHOICE (log 82). -/
def engineTaken (s : State) : Bool :=
  s.net.engineSecond == nowOf s / 1000000000 && decide (2500000 ≤ s.net.engineCount)

/-- Queues the module's own barge on P1 and P2. -/
def queueOn (held : Option (TaskId × Nat)) (k : BargeKind) (dst : Nat) (bytes : List Byte) (s : State) : State :=
  let s := engineTake s
  let q : QueuedFrame :=
    { cls := bargeClass s k, frame := bargeFrame s k dst bytes, queuedAt := nowOf s, ingressAt := none,
      ingress := none, heldFor := held, own := true }
  onPort 1 (fun p => { p with queue := p.queue ++ [q] }) (onPort 0 (fun p => { p with queue := p.queue ++ [q] }) s)

/-- The key epoch that the pair's barges report: zero without authentication (R183). -/
def reportedKey (s : State) : Nat := if cfg s P.authMode = 0 then 0 else s.net.auth.keyEpoch

/-- A barge of this module with its CRC and, with authentication, its tag. -/
def sealBarge (s : State) (b : Barge) : List Byte :=
  if cfg s P.authMode = 0 then encodeBarge b
  else
    let e := s.net.auth.keyEpoch
    let b := { b with auth := true, keySlot := e % 4 }
    encodeBarge { b with tag := bargeTag (settingBytes s P.keyMaster) e b }

/-- The module's own switch of the key epoch when a stream has sent 2^31 barges under the current one (R208);
one that would reach 0xFFFF_FFFF is refused (R209). -/
def autoSchedule (sent : Nat) (s : State) : State :=
  if cfg s P.authMode ≠ 0 ∧ 2 ^ 31 ≤ sent ∧ s.net.auth.switchAt = 0 then
    if 0xFFFFFFFF ≤ s.net.auth.keyEpoch + 1 then onNet (fun n => { n with auth := { n.auth with switchRefused := true } }) s
    else onNet (fun n => { n with auth := { n.auth with switchAt := nowOf s + 3 * msToNs (cfg s P.claimRefresh) } }) s
  else s

def bargeBase (s : State) (k : BargeKind) : Barge :=
  { kind := k, task := 0, broadcast := false, auth := false, keySlot := 0, unsynced := false, restarted := false,
    safeActive := false, owner := ownerId s, node := ownNode s, claim := s.pair.claim,
    epochLow := s.img.epoch % 2 ^ 32, release := 0, sequence := 0, obeyed := reportedKey s, sections := [], tag := [] }

/-- A broadcast `SAFE` or `CLAIM` barge under a claim of the module, in the broadcast stream. -/
def sendBroadcast (k : BargeKind) (claim release : Nat) (s : State) : State :=
  let s := onNet (fun n => { n with broadcastSeq := n.broadcastSeq + 1,
                                    auth := { n.auth with sentBroadcast := n.auth.sentBroadcast + 1 } }) s
  let b := { bargeBase s k with broadcast := true, claim := claim, release := release, sequence := s.net.broadcastSeq }
  autoSchedule s.net.auth.sentBroadcast (queueOn none k (groupAddress s) (sealBarge s b) s)

/-- The entry of the node table that holds a node ID. -/
def nodeEntry (s : State) (node : Nat) : Option Nat :=
  (List.range 4096).find? fun i => cfgFlag s (P.nodeEnable i) && cfg s (P.nodeId i) == node

/-- Destinations of a barge to one node: the group, or in unicast mode the node's address and the partner's (R180). -/
def nodeDests (s : State) (node : Nat) : List Nat :=
  match nodeEntry s node, tget node s.net.nodes with
  | some i, some n => if cfgFlag s (P.nodeUnicast i) then [n.address, Config.partnerAddress] else [groupAddress s]
  | _, _ => [groupAddress s]

/-- The next barge of the stream to a node, in the table or outside it: its sequence, and how many the stream has sent under the
current key epoch. -/
def nextToNode (node : Nat) (n : Net) : (Nat × Nat) × Net :=
  match tget node n.nodes with
  | some x => ((x.seqOut + 1, x.sentKey + 1),
      { n with nodes := tmod node (fun x => { x with seqOut := x.seqOut + 1, sentKey := x.sentKey + 1, sent := x.sent + 1 }) n.nodes })
  | none =>
    let was := (tget node n.otherSeq).getD (0, 0)
    ((was.1 + 1, was.2 + 1), { n with otherSeq := tput node (was.1 + 1, was.2 + 1) n.otherSeq })

/-- A barge of the pair to one node, next in that node's stream. -/
def sendToNode (held : Option (TaskId × Nat)) (b : Barge) (s : State) : State :=
  let next := nextToNode b.node s.net
  let s := onNet (fun _ => next.2) s
  let bytes := sealBarge s { b with sequence := next.1.1 }
  autoSchedule next.1.2 ((nodeDests s b.node).foldl (fun s dst => queueOn held b.kind dst bytes s) s)

/-- A CLAIM barge goes to a node: while it reports a lower claim, the first one starts its lag (R165). -/
def lagFrom (now claim : Nat) (x : Node) : Node :=
  if x.obeyedClaim < claim ∧ x.claimSentAt = none then { x with claimSentAt := some now } else x

/-- The instant that `CLAIM` barges carry: the scheduled key-epoch switch, or zero (R208). -/
def sendClaimBroadcast (s : State) : State :=
  onNet (fun n => { n with claimSentAt := some (nowOf s), nodes := tmap (fun _ x => lagFrom (nowOf s) s.pair.claim x) n.nodes })
    (sendBroadcast .claim s.pair.claim s.net.auth.switchAt s)

def sendClaimTo (node : Nat) (s : State) : State :=
  let b := { bargeBase s .claim with node := node, release := s.net.auth.switchAt }
  onNet (fun n => { n with nodes := tmod node (lagFrom (nowOf s) s.pair.claim) n.nodes })
    (sendToNode none b s)

/-- A broadcast `SAFE` barge under the claim that its repeats keep, with `left` repeats still due (R201). -/
def sendSafeOnce (left : Nat) (s : State) : State :=
  onNet (fun n => { n with safeRepeats := left, safeSentAt := nowOf s }) (sendBroadcast .safe s.net.safeClaim 0 s)

/-- The broadcast `SAFE` barge, repeated twice more (R201). -/
def sendSafe (s : State) : State := sendSafeOnce 2 (onNet (fun n => { n with safeClaim := s.pair.claim }) s)

/-- A `STATUS` barge to the partner under a claim, in the module's `STATUS` stream; with its serial number where
`identity` asks for it (R160, R185). -/
def sendStatus (claim : Nat) (identity : Bool) (s : State) : State :=
  let s := onNet (fun n =>
    if claim = 0 then { n with statusZeroSeq := n.statusZeroSeq + 1, auth := { n.auth with sentStatusZero := n.auth.sentStatusZero + 1 } }
    else { n with statusSeq := n.statusSeq + 1, auth := { n.auth with sentStatus := n.auth.sentStatus + 1 } }) s
  let id : BargeSection := { type := 7, count := 1, first := 0, data := be8 Config.serial.toNat }
  let b : Barge := { bargeBase s .status with
    claim := claim, release := nowOf s, sequence := if claim = 0 then s.net.statusZeroSeq else s.net.statusSeq, sections := if identity then [id] else [] }
  autoSchedule (if claim = 0 then s.net.auth.sentStatusZero else s.net.auth.sentStatus) (queueOn none .status (groupAddress s) (sealBarge s b) s)

/-- Discards every queued barge of the module not yet transmitted (R159, R168). -/
def dropOwnBarges (s : State) : State :=
  onSw (fun w => { w with ports := w.ports.map fun p => { p with queue := p.queue.filter fun q => !q.own } }) s

/-- An `OUTPUT` barge of the module. -/
def isOwnOutput (q : QueuedFrame) : Bool :=
  q.own && match q.frame.body with
    | .barge _ _ _ bytes => (bytes[1]?).getD 0 == 2
    | _ => false

/-- Discards every queued output barge not yet transmitted; `CLAIM` and `STATUS` barges stay queued (R57). -/
def dropOutputBarges (s : State) : State :=
  onSw (fun w => { w with ports := w.ports.map fun p => { p with queue := p.queue.filter fun q => !isOwnOutput q } }) s

/-- The barges sent under the current key epoch count from zero (R208). -/
def resetSent (n : Net) : Net :=
  { n with auth := { n.auth with sentBroadcast := 0, sentStatus := 0, sentStatusZero := 0 },
           nodes := tmap (fun _ x => { x with sentKey := 0 }) n.nodes, otherSeq := tmap (fun _ x => (x.1, 0)) n.otherSeq }

/-- The module's streams begin at 1 under a new claim, and with them the count of what each has sent (R188, R208). -/
def resetStreams (s : State) : State :=
  onNet (fun n =>
    { n with broadcastSeq := 0, statusSeq := 0, otherSeq := [], auth := { n.auth with sentBroadcast := 0, sentStatus := 0 },
             nodes := tmap (fun _ x => { x with seqOut := 0, sentKey := 0 }) n.nodes }) s

/-- The `STATUS` stream under claim zero starts again at 1 (R188). -/
def restartZeroStatus (s : State) : State :=
  onNet (fun n => { n with statusZeroSeq := 0, auth := { n.auth with sentStatusZero := 0 } }) s

end Sys2Proof.Machine
end

