-- ==== Sys2Proof/Machine/Landing.lean ====
section
/-! DEFINITION. What an `INPUT` barge says: point values, status bytes and acknowledgement entries (R39, R185, R186,
R197). -/

namespace Sys2Proof.Machine

open Sys2Proof

/-- The value of point first + i of a section, as a bit pattern. -/
def pointBits (x : BargeSection) (i : Nat) : W64 :=
  match x.type with
  | 1 => if bitAt (((x.data[i / 8]?).getD 0).toNat) (7 - i % 8) then 1 else 0
  | 2 => BitVec.ofNat 64 (beNat ((x.data.drop (2 * i)).take 2))
  | 5 => BitVec.ofNat 64 (beNat ((x.data.drop (8 * i)).take 8))
  | _ => BitVec.ofNat 64 (beNat ((x.data.drop (4 * i)).take 4))

def isValueSection (x : BargeSection) : Bool := decide (1 ≤ x.type) && decide (x.type ≤ 5)

/-- Points of a barge: point, section type and bit pattern. -/
def bargePoints (b : Barge) : List (Nat × Nat × W64) :=
  (b.sections.filter isValueSection).flatMap fun x => (List.range x.count).map fun i => (x.first + i, x.type, pointBits x i)

def bargeStatus (b : Barge) : List (Nat × Byte) :=
  (b.sections.filter fun x => x.type == 6 && x.first != ackPoint).flatMap fun x =>
    (List.range x.count).map fun i => (x.first + i, (x.data[i]?).getD 0)

/-- Acknowledgement entries: task and epoch low. -/
def bargeAcks (b : Barge) : List (Nat × Nat) :=
  (b.sections.filter fun x => x.type == 6 && x.first == ackPoint).flatMap fun x =>
    (List.range x.count).map fun i =>
      (beNat ((x.data.drop (8 * i)).take 1), beNat ((x.data.drop (8 * i + 4)).take 4))

/-- The barge as it lands in a buffer, complete at `t`. -/
def landed (t : Nat) (b : Barge) (payload : List Byte) (buffer : Fin 4) : LandedBarge :=
  { sequence := b.sequence, session := b.epochLow, sampleTime := b.release, arrival := t, points := bargePoints b,
    status := bargeStatus b, payload := payload, committed := false, buffer := buffer }

end Sys2Proof.Machine
end

