-- ==== Sys2Proof/Machine/Stages.lean ====
section
/-! DEFINITION. The on-module output stages: what each channel drives, safe states, yielding, preloading and the
values of a release (R52, R167, R242 to R263, R266 to R287). -/

namespace Sys2Proof.Machine

open Sys2Proof

/-! ### Bindings, R242, R267 -/

/-- An input tag: committed by a task from a landing slot or a channel (R37). -/
def isInput (d : TagDecl) : Bool := d.origin == .remote || (d.origin == .channel && !d.published)

/-- An output tag of an on-module channel (notes/assumptions/5.md). -/
def isChannelOutput (d : TagDecl) : Bool := d.origin == .channel && d.published

/-- An output tag of a node's point. -/
def isNodeOutput (d : TagDecl) : Bool := d.origin == .computed && d.published

/-- The output tag of a channel code. -/
def outputTag (s : State) (code : Nat) : Option (Nat × Tag) :=
  s.img.tags.find? fun p => isChannelOutput p.2.decl && p.2.decl.point == code

def dioCode (c : Fin 16) : Nat := c.val
def aioCode (c : Fin 8) : Nat := 0x100 + c.val
def fiCode (n : Fin 4) : Nat := 0x200 + n.val
def foCode (n : Fin 4) : Nat := 0x300 + n.val

def dioModeOf (s : State) (c : Fin 16) : Nat := cfg s (P.dioMode c.val)
def aioModeOf (s : State) (c : Fin 8) : Nat := cfg s (P.aioMode c.val)
def dioIsOut (s : State) (c : Fin 16) : Bool := dioModeOf s c == 3 || dioModeOf s c == 4
def aioIsOut (s : State) (c : Fin 8) : Bool := decide (1 ≤ aioModeOf s c) && decide (aioModeOf s c ≤ 3)

/-- The trigger unit that holds a channel code (R232). -/
def trigChannel (t : TrigSetup) : Option Nat :=
  match t.action with
  | .foPulse | .foSet | .foClear | .foToggle => some (0x300 + t.channel)
  | .dioSet | .dioClear => some t.channel
  | .aioStep => some (0x100 + t.channel)
  | .bargeSend => none

def triggerHolds (s : State) (code : Nat) : Bool :=
  s.time.triggers.toList.any fun u => match u.setup with
    | some t => trigChannel t == some code
    | none => false

/-- The monitor drives its channels: it is in RUN or SILENT (R259). -/
def monitorDrives (s : State) : Bool := s.field.monitor == .run || s.field.monitor == .silent

/-! ### DIO and FO -/

/-- The safe level of a channel: OFF, ON, or HOLD with OFF where nothing was applied (R256). -/
def safeLevel (setting : Nat) (held : Option Bool) : Bool :=
  match setting with
  | 0 => false
  | 1 => true
  | _ => held.getD false

/-- Whether the high-side switch of a channel is on (R248, R256 to R259). -/
def dioSwitch (s : State) (c : Fin 16) (d : Dio) : Bool :=
  let safe := dioModeOf s c == 3 && safeLevel (cfg s (P.dioSafe c.val)) d.held
  dioIsOut s c && monitorDrives s && !d.latchedOff && d.trippedAt.isNone &&
    (if d.breakFrom.isSome then true
     else if d.yielded || d.safeApplied || s.field.monitor == .silent then safe
     else d.commanded)

/-- Follows a change of what a channel's switch does, with the diagnostics that end with it (R250); the filters of
conditions that depend on the switch start anew. -/
def settleDio (c : Fin 16) (s : State) : State :=
  onDio c (fun d =>
    let on := dioSwitch s c d
    if on = d.driving then d
    else { d with driving := on, padSince := nowOf s, lowCurrentSince := nowOf s,
                  externalDrive := d.externalDrive && !on, partnerDrive := d.partnerDrive && !on,
                  openOrBackfed := d.openOrBackfed && on, thermal := d.thermal && !on }) s

def allDio : List (Fin 16) := List.finRange 16
def allAio : List (Fin 8) := List.finRange 8
def all4 : List (Fin 4) := List.finRange 4
def allLanes : List LaneId := List.finRange 4

def eachDio (g : Fin 16 → State → State) (s : State) : State := allDio.foldl (fun s c => g c s) s
def eachAio (g : Fin 8 → State → State) (s : State) : State := allAio.foldl (fun s c => g c s) s
def each4 (g : Fin 4 → State → State) (s : State) : State := all4.foldl (fun s c => g c s) s

/-- A value applied to a DIO channel under the module's claim. -/
def applyDio (c : Fin 16) (v : Bool) (s : State) : State :=
  if s.field.dio[c].yielded then s
  else settleDio c (onDio c (fun d => { d with commanded := v, held := some v, safeApplied := false }) s)

/-- A DIO channel applies its safe state. -/
def safeDio (c : Fin 16) (s : State) : State :=
  settleDio c (onDio c (fun d => { d with safeApplied := true, breakFrom := none }) s)

/-- The level of FO pads while the monitor does not drive them, R259 and R261: low. -/
def applyFo (n : Fin 4) (v : Bool) (s : State) : State :=
  if s.field.fo[n].yielded || !monitorDrives s then s
  else onFo n (fun f => { f with level := v, held := some v, safeApplied := false, pulseEnd := none, short := f.short && f.level == v }) s

/-- The last value applied to an FO channel: low once its pulse has ended (R256). -/
def heldFo (now : Nat) (f : Fo) : Option Bool :=
  match f.pulseEnd with
  | some e => if e ≤ now then some false else f.held
  | none => f.held

def safeFo (n : Fin 4) (s : State) : State :=
  onFo n (fun f =>
    let held := heldFo (nowOf s) f
    { f with level := monitorDrives s && safeLevel (cfg s (P.foSafe n.val)) held, held := held, safeApplied := true, pulseEnd := none }) s

/-! ### AIO: the value driven, R269 and R276; currents are REAL64 mA -/

/-- n thousandths of a mA as REAL64. -/
def microAmp (n : Nat) : W64 := BitVec.ofNat 64 (fofRat real64 n 1000)

/-- A real value in millionths, rounded to the nearest integer: mA to nA, V to µV. -/
def millionths (w : W64) : Int :=
  match fdecode real64 w.toNat with
  | .fin n m e => roundInt n (m * 1000000) e
  | _ => 0

def lessReal (x y : W64) : Bool := fcompare (fdecode real64 x.toNat) (fdecode real64 y.toNat) == some .lt
def isNanReal (x : W64) : Bool := (fdecode real64 x.toNat).isNan

def failHigh (s : State) (c : Fin 8) : Bool :=
  match cfg s (P.aioFailDir c.val) with
  | 0 => s.path.strapFailHi
  | 1 => false
  | _ => true

def ne43 (s : State) (c : Fin 8) : Bool := cfg s (P.aioFailSignal c.val) == 1

def alarmLevel (s : State) (c : Fin 8) : W64 := if failHigh s c then microAmp 21000 else microAmp 3600

/-- The value driven for a commanded value (R269); none: the previous value stays and BAD_VALUE counts. -/
def driveOf (s : State) (c : Fin 8) (v : W64) : Option W64 :=
  if ne43 s c then
    some (if isNanReal v then alarmLevel s c
      else if !lessReal (microAmp 3600) v then microAmp 3600
      else if lessReal v (microAmp 3800) then microAmp 3800
      else if !lessReal (microAmp 20500) v then v
      else if lessReal v (microAmp 21000) then microAmp 20500
      else microAmp 21000)
  else if isNanReal v then none
  else some (if lessReal v 0 then 0 else if lessReal (microAmp 24000) v then microAmp 24000 else v)

/-- The driven value is a high alarm level (R275). -/
def highAlarm (s : State) (c : Fin 8) (d : Aio) : Bool := ne43 s c && d.driven == some (microAmp 21000)

def aioOpen (d : Aio) : Bool := d.driven.isNone || d.trippedAt.isSome

/-- Drives a value or opens the channel; a change by more than the threshold of R274 suspends the comparison. -/
def driveAio (c : Fin 8) (v : Option W64) (s : State) : State :=
  onAio c (fun a =>
    let old := (a.driven.map millionths).getD 0
    let new := (v.map millionths).getD 0
    let moved := decide (100000 + a.readback / 100 < ((new - old).natAbs : Int))
    { a with driven := v, changedAt := if moved then nowOf s else a.changedAt,
             alarmNotReached := a.compliance && (ne43 s c && v == some (microAmp 21000)) }) s

/-- A value applied to an AIO output under the module's claim. -/
def applyAio (c : Fin 8) (v : W64) (s : State) : State :=
  if s.field.aio[c].yielded || !monitorDrives s then s
  else
    match driveOf s c v with
    | some d => onAio c (fun a => { a with held := some d, safeApplied := false, handoverAt := none }) (driveAio c (some d) s)
    | none => onAio c (fun a => { a with badValues := sat32 (a.badValues + 1), safeApplied := false }) s

/-- The safe value of an AIO output (R277); none opens it. -/
def safeAioValue (s : State) (c : Fin 8) : Option W64 :=
  match cfg s (P.aioSafe c.val) with
  | 0 => if ne43 s c then some (alarmLevel s c) else none
  | 1 => s.field.aio[c].held
  | 2 => driveOf s c (convert .real32 .real64 (BitVec.ofNat 64 (cfg s (P.aioSafeValue c.val))))
  | _ => none

def openAio (c : Fin 8) (s : State) : State :=
  onAio c (fun a => { a with safeApplied := true, handoverAt := none }) (driveAio c none s)

/-- An output applies its safe state; an OUT_PARALLEL channel without the claim is open instead (R277, R285). -/
def safeAio (c : Fin 8) (s : State) : State :=
  if aioIsOut s c = false then s
  else if aioModeOf s c = 3 ∧ s.field.aio[c].yielded = true then openAio c s
  else
    onAio c (fun a => { a with safeApplied := true, handoverAt := none })
      (driveAio c (if monitorDrives s then safeAioValue s c else none) s)

/-! ### Trim sequences that end early, R283, and module states -/

/-- A trim sequence ends PARTIAL; its channel returns to the state R268 and R277 give it. -/
def endTrim (x : TrimSeq) (s : State) : State :=
  let s := onField (fun f => { f with trim := f.trim.filter fun y => y.journal != x.journal }) s
  safeAio x.channel (jend x.journal .partly stPartial (jmod x.journal (fun e => { e with step := x.step }) s))

def endTrims (s : State) : State := s.field.trim.foldl (fun s x => endTrim x s) s

/-- ROLE_CHANGE is recorded where a role is taken or given up. -/
def isRole (m : ModState) : Bool := m == .active || m == .standby

/-- Enters a module state: INT_STAT STATE, ROLE_CHANGE with its cause, and the power state of R386 on leaving
`STANDBY` from NAP. -/
def enterState (new : ModState) (cause : SwitchCause) (s : State) : State :=
  let old := s.mod.state
  if old = new then s
  else
    let s := raiseInt intState (onMod (fun m => { m with state := new }) s)
    let s := if isRole old || isRole new then
        stage 0x0607 srcModule
          ([byteOf (stateCode old), byteOf (stateCode new), byteOf (causeCode cause)] ++ le4 s.pair.claim) s
      else s
    let s := if s.mod.power = .nap then setPower (defaultPower s) 1 s else s
    let s := if new = .ready ∧ s.pair.towLineLost = true then restartZeroStatus s else s
    endTrims s

/-! ### Safe, yielding and preloading -/

/-- Every output channel applies its safe state: a `SAFE` command at the monitor (R259), or SILENT (R277). -/
def applySafeStates (s : State) : State := each4 safeFo (eachAio safeAio (eachDio safeDio s))

/-- A `SAFE` command for the on-module stages, sent in the next downlink frame; updates not yet applied are void. -/
def safeStages (s : State) : State :=
  onField (fun f => { f with safeToSend := true, toSend := [], heldUpdates := [], foReleases := [], delayedActions := [] }) s

/-- A channel code's hand-over instant, named for the task that writes it (R286). -/
def instantFor (s : State) (instants : List (TaskId × Nat)) (code : Nat) : Option Nat :=
  match outputTag s code with
  | some (_, tag) =>
    match tag.decl.writer with
    | some k => (instants.find? fun p => p.1 == k).map fun p => p.2
    | none => none
  | none => none

/-- A DIO channel yields (R256, R258): a parallel output that is on breaks 100 µs later; one that is off with a high pad reports
PARTNER_DRIVE from now on (R251). -/
def yieldDio (c : Fin 16) (s : State) : State :=
  if s.field.dio[c].yielded then s
  else
    let defer := dioModeOf s c == 4 && s.field.dio[c].driving
    let since := if defer then some (nowOf s) else none
    let partner (d : Dio) : Bool := dioModeOf s c == 4 && d.externalDrive
    settleDio c (onDio c (fun d =>
      { d with yielded := true, safeApplied := true, breakFrom := since, partnerDrive := d.partnerDrive || partner d,
               externalDrive := d.externalDrive && !partner d }) s)

/-- An AIO channel yields (R277, R286, R287). -/
def yieldAio (instants : List (TaskId × Nat)) (c : Fin 8) (s : State) : State :=
  if s.field.aio[c].yielded then s
  else
    let s' := onAio c (fun a => { a with yielded := true }) s
    if aioModeOf s c = 3 then
      match instantFor s instants (aioCode c) with
      | some h => onAio c (fun a => { a with handoverAt := some h }) s'
      | none => openAio c s'
    else safeAio c s'

def yieldFo (n : Fin 4) (s : State) : State :=
  if s.field.fo[n].yielded then s else safeFo n (onFo n (fun f => { f with yielded := true }) s)

/-! ### Frames that compete, R300 -/

/-- Place of a frame in the arbitration order of ISO 11898-1: the lower number wins. -/
def arbitrationKey (w : W32) : Nat :=
  let n := w.toNat
  let rtr := n / 2 ^ 30 % 2
  if bitAt n 31 then n / 2 ^ 18 % 2 ^ 11 * 2 ^ 21 + 2 ^ 20 + 2 ^ 19 + n % 2 ^ 18 * 2 + rtr
  else n % 2 ^ 11 * 2 ^ 21 + rtr * 2 ^ 20

def allObjects : List (Fin 32) := List.finRange 32

/-- What the controller offers: an object's pending frame, or the head of the host queue. -/
def offered (c : Can) : Option (Option (Fin 32) × CanFrame) :=
  let objs := allObjects.filterMap fun o => c.objects[o].pending.map fun f => (some o, f)
  let all := objs ++ (c.hostQueue.head?.map fun h => ((none : Option (Fin 32)), h.frame)).toList
  all.foldl (fun m x => match m with
    | none => some x
    | some y => if arbitrationKey x.2.word < arbitrationKey y.2.word then some x else some y) none

/-! ### CAN frames that are withdrawn, R301, R302 -/

/-- A batch ends PARTIAL with the count sent; its remaining frames are withdrawn. -/
def endBatch (ch : Fin 2) (b : CanBatch) (s : State) : State :=
  let s := onCan ch (fun c => { c with hostQueue := c.hostQueue.filter fun f => f.journal != b.journal,
                                       batches := c.batches.filter fun x => x.journal != b.journal }) s
  jend b.journal .partly stPartial (jmod b.journal (fun e => { e with detail := b.sent }) s)

def endBatches (ch : Fin 2) (s : State) : State := s.can[ch].batches.foldl (fun s b => endBatch ch b s) s

/-- A module that yields withdraws its pending frames from a shared bus; the frame that it offers completes where it is already
on the bus. -/
def withdrawCan (ch : Fin 2) (s : State) : State :=
  if cfgFlag s (P.canBusShared ch.val) then
    let journal := (s.can[ch].hostQueue.head?.map fun h => h.journal).getD 0
    let leaving := if s.can[ch].mode = .normal then (offered s.can[ch]).map fun x => (x.2, if x.1.isSome then 0 else journal) else none
    endBatches ch (onCan ch (fun c =>
      { c with objects := c.objects.map fun _ => { formed := none, pending := none }, yieldedAt := nowOf s, leaving := leaving }) s)
  else s

/-- The module's stages yield because a higher claim appeared or the role was given up (R167). -/
def yieldStages (instants : List (TaskId × Nat)) (s : State) : State :=
  withdrawCan 1 (withdrawCan 0 (each4 yieldFo (eachAio (yieldAio instants) (eachDio yieldDio s))))

/-- The value of an output tag in the last mirrored epoch. -/
def mirroredValue (s : State) (code : Nat) : Option (ValType × W64) :=
  match outputTag s code with
  | some (_, tag) => (copyAt tag s.img.mirrored).map fun x => (tag.decl.type, x.value)
  | none => none

def preloadDio (c : Fin 16) (s : State) : State :=
  let s := onDio c (fun d => { d with yielded := false, breakFrom := none, partnerDrive := false }) s
  match mirroredValue s (dioCode c) with
  | some (_, v) => if s.field.safeUntilRelease then s else applyDio c (v.getLsbD 0) s
  | none => settleDio c s

def preloadFo (n : Fin 4) (s : State) : State :=
  let s := onFo n (fun f => { f with yielded := false }) s
  match mirroredValue s (foCode n) with
  | some (_, v) => if s.field.safeUntilRelease then s else applyFo n (v.getLsbD 0) s
  | none => s

/-- OUT_SOURCE and OUT_SINK channels preload (R278); an OUT_PARALLEL channel makes at a strobe (R285). -/
def preloadAio (c : Fin 8) (s : State) : State :=
  let s := onAio c (fun a => { a with yielded := false, handoverAt := none }) s
  match mirroredValue s (aioCode c) with
  | some (ty, v) => if s.field.safeUntilRelease || aioModeOf s c == 3 then s else applyAio c (convert ty .real64 v) s
  | none => s

/-- Channels leave YIELDED at a claim raise (R257, R278). After a take-over caused by a deadline miss they stay at
their safe states until the first release; after one that named no instant, parallel AO channels wait (R287). -/
def preloadStages (afterMiss : Bool) (notBefore : Nat) (s : State) : State :=
  let s := onField (fun f => { f with safeUntilRelease := afterMiss, makeNotBefore := notBefore }) s
  each4 preloadFo (eachAio preloadAio (eachDio preloadDio s))

/-! ### Releases, R253, R254, R271 -/

/-- The update frame of a task's step: the committed values of its DIO and AIO output tags. -/
def updateOf (s : State) (k : TaskId) (release : Nat) : FieldUpdate :=
  let val (code : Nat) : Option (ValType × W64) := match outputTag s code with
    | some (_, tag) => if tag.decl.writer = some k then (copyAt tag s.img.epoch).map fun x => (tag.decl.type, x.value) else none
    | none => none
  { strobeAt := release, task := k, claim := s.pair.claim,
    dio := allDio.filterMap fun c => (val (dioCode c)).map fun v => (c, v.2.getLsbD 0),
    aio := allAio.filterMap fun c => (val (aioCode c)).map fun v => (c, convert v.1 .real64 v.2) }

def foReleasesOf (s : State) (k : TaskId) (release : Nat) : List FoRelease :=
  all4.filterMap fun n => match outputTag s (foCode n) with
    | some (_, tag) => if tag.decl.writer = some k then
        (copyAt tag s.img.epoch).map fun x => { atTime := release, channel := n, level := x.value.getLsbD 0 } else none
    | none => none

/-- The on-module outputs of a step, handed to the isolation link and the time unit (R253). -/
def releaseStages (k : TaskId) (release : Nat) (s : State) : State :=
  let u := updateOf s k release
  let fo := foReleasesOf s k release
  onField (fun f => { f with toSend := if u.dio.isEmpty && u.aio.isEmpty then f.toSend else f.toSend ++ [u],
                             foReleases := f.foReleases ++ fo }) s

/-- The values of an update take effect: at their strobe, or on arrival where it has passed, with LATE_FIELD (R254).
A parallel AO channel that lies before R287's instant stays open. -/
def applyUpdate (late : Bool) (u : FieldUpdate) (s : State) : State :=
  let s := onField (fun f => { f with safeUntilRelease := false, safeInForce := false }) s
  let s := u.dio.foldl (fun s p =>
    applyDio p.1 p.2 (onDio p.1 (fun d => { d with lateField := d.lateField || late }) s)) s
  u.aio.foldl (fun s p =>
    let s := onAio p.1 (fun a => { a with lateField := a.lateField || late }) s
    if aioModeOf s p.1 = 3 ∧ nowOf s < s.field.makeNotBefore then s else applyAio p.1 p.2 s) s

end Sys2Proof.Machine
end

