-- ==== Sys2Proof/Machine/Versions.lean ====
section
/-! DEFINITION. Program versions side by side: their instances and bindings, the tasks that an exchange concerns (R102),
forces in conflict (R118), and the change report (R108 to R111). -/

namespace Sys2Proof.Machine

open Sys2Proof

/-! ### What a version holds -/

def forceOf (s : State) (i : Nat) : Option Force := s.img.forces.find? fun f => f.tag == i

def writerByte (w : Option TaskId) : Nat :=
  match w with
  | some k => k.val
  | none => 0xFF

def instKindCode : InstKind → Nat
  | .ep => 1
  | .en => 2
  | .ton => 3
  | .tof => 4
  | .tp => 5
  | .ctu => 6
  | .ctd => 7
  | .ctud => 8

def wordsOf (c : TaskCode) : List (WordFields × Nat) := (c.words.map unpackWord).zipIdx

def kindOfOp : Nat → Option InstKind
  | 0x28 => some .ep
  | 0x29 => some .en
  | 0x30 => some .ton
  | 0x31 => some .tof
  | 0x32 => some .tp
  | 0x38 => some .ctu
  | 0x39 => some .ctd
  | 0x3A => some .ctud
  | _ => none

/-- Every instruction with memory: task, number, kind, its preset specification (R108), and its index. -/
structure InstUse where
  task : TaskId
  number : Nat
  kind : InstKind
  /-- Base and source bits of MOD, and the immediate count or the register number. -/
  spec : Nat × Nat
  place : Nat
  deriving DecidableEq, Repr

def presetSpec (k : InstKind) (f : WordFields) : Nat × Nat :=
  match k with
  | .ep | .en => (0, 0)
  | .ton | .tof | .tp => (f.m.toNat / 4, if f.m.getLsbD 2 then f.o.toNat % 16 else f.o.toNat)
  | _ => (f.m.toNat / 2 % 2, if f.m.getLsbD 1 then f.o.toNat % 16 else f.o.toNat)

def instUses (p : Program) : List InstUse :=
  p.codes.flatMap fun c => (wordsOf c).filterMap fun w => (kindOfOp w.1.op.toNat).map fun k =>
    { task := c.task, number := w.1.im.toNat, kind := k, spec := presetSpec k w.1, place := w.2 }

/-- First use of each number: the instance's task and kind; the specifications follow. -/
def instTable (p : Program) : Tbl (TaskId × InstKind) :=
  (instUses p).foldl (fun m u => if thas u.number m then m else tput u.number (u.task, u.kind) m) []

def instSpecs (p : Program) (n : Nat) : List (Nat × Nat) :=
  ((instUses p).filter fun u => u.number == n).map fun u => u.spec

/-! ### Concerned tasks, R102 -/

def codeIn (p : Program) (k : TaskId) : Option TaskCode := p.codes.find? fun c => c.task == k

def inputBindings (p : Program) (k : TaskId) : List (Nat × Origin × Nat × Nat × ValType) :=
  (p.tags.filter fun q => isInput q.2 && q.2.writer == some k).map fun q => (q.1, q.2.origin, q.2.node, q.2.point, q.2.type)

def outputBindings (p : Program) (k : TaskId) : List (Nat × Origin × Nat × Nat × ValType) :=
  (p.tags.filter fun q => q.2.published && q.2.writer == some k).map fun q => (q.1, q.2.origin, q.2.node, q.2.point, q.2.type)

/-- A task is concerned in an exchange (R102). -/
def concerned (old : Option Program) (new : Program) (k : TaskId) : Bool :=
  match old with
  | none => (codeIn new k).isSome
  | some p => codeIn p k != codeIn new k || inputBindings p k != inputBindings new k || outputBindings p k != outputBindings new k

/-- Forced tags that the version deletes or retypes (R118). -/
def forceConflicts (s : State) (new : Program) : List Nat :=
  (s.img.forces.filter fun f => match tget f.tag new.tags with
    | some d => d.type != f.type
    | none => true).map fun f => f.tag

/-! ### The change report, R111 -/

structure ReportEntry where
  item : Nat
  action : Nat
  oldCode : Nat
  newCode : Nat
  number : Nat
  oldTask : Nat
  newTask : Nat
  detail : Nat
  deriving DecidableEq, Repr

def reportBytes (e : ReportEntry) : List Byte :=
  [byteOf e.item, byteOf e.action, byteOf e.oldCode, byteOf e.newCode] ++ le4 e.number ++
    [byteOf e.oldTask, byteOf e.newTask, 0, 0] ++ le4 e.detail

def isTimer (k : InstKind) : Bool := k == .ton || k == .tof || k == .tp

/-- New preset in ns of a timer's immediate specification. -/
def specPreset (sp : Nat × Nat) : Option Nat :=
  if sp.1 % 2 = 1 then none else some (min (sp.2 * if sp.1 / 2 = 1 then 1000 else 1000000) 0x7FFFFFFFFFFFFFFF)

def sameSpecs (a b : List (Nat × Nat)) : Bool := a.all b.contains && b.all a.contains

/-- Report of one instance number; none where it is kept unchanged. -/
def reportInst (insts : Tbl Inst) (old : Option Program) (new : Program) (n : Nat) : Option ReportEntry :=
  let now := match old with
    | some p => tget n (instTable p)
    | none => none
  match now, tget n (instTable new) with
  | none, none => none
  | none, some (t, k) =>
    some { item := 1, action := 5, oldCode := 0, newCode := instKindCode k, number := n, oldTask := 0xFF, newTask := t.val, detail := 0 }
  | some (t, k), none =>
    let cv := match tget n insts with
      | some r => if k = .ctu ∨ k = .ctd ∨ k = .ctud then min (intOf .int64 r.value).toNat 0xFFFFFFFF else 0
      | none => 0
    some { item := 1, action := 6, oldCode := instKindCode k, newCode := 0, number := n, oldTask := t.val, newTask := 0xFF, detail := cv }
  | some (t, k), some (t', k') =>
    let base : ReportEntry :=
      { item := 1, action := 1, oldCode := instKindCode k, newCode := instKindCode k', number := n, oldTask := t.val, newTask := t'.val, detail := 0 }
    if k ≠ k' then some { base with action := 3 }
    else if t ≠ t' then some { base with action := 4 }
    else
      let specs := instSpecs new n
      let was := match old with
        | some p => instSpecs p n
        | none => []
      if sameSpecs was specs then none
      else
        let e := match tget n insts with
          | some r => r.value.toNat
          | none => 0
        let passed := isTimer k && specs.any fun sp => match specPreset sp with
          | some pt => decide (pt ≤ e)
          | none => false
        if passed then some { base with action := 2, detail := min (e / 1000000) 0xFFFFFFFF } else some base

def reportTag (old : Option Program) (new : Program) (i : Nat) : Option ReportEntry :=
  let was := match old with
    | some p => tget i p.tags
    | none => none
  match was, tget i new.tags with
  | none, none => none
  | none, some d => some { item := 2, action := 5, oldCode := 0, newCode := typeCode d.type, number := i, oldTask := 0xFF, newTask := writerByte d.writer, detail := 0 }
  | some d, none => some { item := 2, action := 6, oldCode := typeCode d.type, newCode := 0, number := i, oldTask := writerByte d.writer, newTask := 0xFF, detail := 0 }
  | some d, some d' =>
    if d.type = d'.type then none
    else some { item := 2, action := 7, oldCode := typeCode d.type, newCode := typeCode d'.type, number := i, oldTask := writerByte d.writer, newTask := writerByte d'.writer, detail := 0 }

def keysOf {α β : Type} (a : Tbl α) (b : Tbl β) : List Nat :=
  (b.map fun p => p.1).foldl (fun m k => insertSorted k m) (a.map fun p => p.1)

def instKeys (old : Option Program) (new : Program) : List Nat :=
  keysOf (match old with
    | some p => instTable p
    | none => []) (instTable new)

def tagKeys (old : Option Program) (new : Program) : List Nat :=
  keysOf (match old with
    | some p => p.tags
    | none => []) new.tags

/-- Tasks with code in one version only (R110). A task with code only in the new version whose TASK_ENABLE is clear is
not listed, because R110 lists enabled tasks: DESIGN CHOICE (notes/assumptions/75.md). -/
def reportTask (s : State) (old : Option Program) (new : Program) (k : TaskId) : Option ReportEntry :=
  let was := match old with
    | some p => (codeIn p k).isSome
    | none => false
  let is := (codeIn new k).isSome
  if was = is ∨ (is = true ∧ enabledTask s k = false) then none
  else
    let action := if is then (if s.mod.state = .active then 0x0A else 5) else 0x0B
    some { item := 4, action := action, oldCode := 0, newCode := 0, number := k.val,
           oldTask := if was then k.val else 0xFF, newTask := if is then k.val else 0xFF, detail := 0 }

/-- Report entries for the forces of an exchange: dropped, or in conflict. -/
def reportForces (s : State) (new : Program) (action : Nat) : List ReportEntry :=
  (forceConflicts s new).map fun i =>
    { item := 3, action := action, oldCode := match forceOf s i with
        | some f => typeCode f.type
        | none => 0,
      newCode := match tget i new.tags with
        | some d => typeCode d.type
        | none => 0,
      number := i, oldTask := 0xFF, newTask := 0xFF, detail := 0 }

def countOf (es : List ReportEntry) (item : Nat) (p : Nat → Bool) : Nat := (es.filter fun e => e.item == item && p e.action).length

/-- Entries and header counts of a report: kept, changed, created and deleted instances, then tags. -/
def changeEntries (s : State) (old : Option Program) (new : Program) (forces : List ReportEntry) : List ReportEntry :=
  (instKeys old new).filterMap (reportInst s.ctl.insts old new) ++ (tagKeys old new).filterMap (reportTag old new) ++
    forces ++ allTasks.filterMap (reportTask s old new)

def oldVersion (old : Option Program) : Nat :=
  match old with
  | some p => p.version
  | none => 0

def reportOf (old : Option Program) (new : Program) (epoch reason : Nat) (es : List ReportEntry) (limit : Nat) : List Byte :=
  let n (item : Nat) : List Nat :=
    let created := countOf es item (· == 5)
    let deleted := countOf es item (· == 6)
    let changed := countOf es item (fun a => a != 5 && a != 6)
    let total := if item = 1 then (instKeys old new).length else (tagKeys old new).length
    [total - created - deleted - changed, changed, created, deleted]
  let shown := es.take limit
  le4 (oldVersion old) ++ le4 new.version ++ le8 epoch ++ le2 reason ++ le2 (flag 0 (decide (limit < es.length))) ++ le4 shown.length ++
    (n 1 ++ n 2).flatMap le4 ++ le8 0 ++ shown.flatMap reportBytes

/-- The reason codes of a change report. -/
def reasonNone : Nat := 0
def reasonWindow : Nat := 1
def reasonForce : Nat := 2
def reasonQuota : Nat := 3
def reasonSwitch : Nat := 4

/-- Every entry of the report of an exchange that is not applied: what it would have changed, with its forces dropped
under DROP_CONFLICTING_FORCES and in conflict otherwise. -/
def failureEntries (s : State) (new : Program) (drop : Bool) : List ReportEntry :=
  changeEntries s s.ctl.running new (reportForces s new (if drop then 8 else 9))

def withReport (id : Nat) (report : List Byte) (s : State) : State := jmod id (fun e => { e with attachment := report }) s

/-- The report of a failed exchange, at its journal entry: epoch zero and the reason (R111). -/
def failureReport (id reason : Nat) (s : State) : State :=
  match s.ctl.staged with
  | none => s
  | some g =>
    let drop := match s.ctl.exchange with
      | some x => x.dropForces
      | none => false
    let es := failureEntries s g.prog drop
    withReport id (reportOf s.ctl.running g.prog 0 reason es es.length) s

end Sys2Proof.Machine
end

