-- ==== Sys2Proof/Machine/TowWire.lean ====
section
/-! DEFINITION. The bytes of the tow line: the records that its frames carry, the payloads of R145 to R154, and the frames with
their header and CRC (R7, R72, R116, R144, R341, R346, R353). -/

namespace Sys2Proof.Machine

open Sys2Proof

/-! ### Records -/

/-- The 32 bytes of a tag slot. -/
def slotBytes (x : SlotImage) : List Byte :=
  le8 x.value.toNat ++ le8 x.srcTs ++ le2 x.quality.toNat ++ le2 x.flags.toNat ++
    [byteOf (writerByte x.writer), byteOf (typeCode x.type), 0, 0] ++ le2 x.node ++ le2 x.point ++ le4 (min x.age 0xFFFFFFFF)

def tstateCode : TState → Nat
  | .idle => 0
  | .running => 1
  | .done => 2

/-- The 32 bytes of an instance record, R72. -/
def instBytes (n : Nat) (r : Inst) : List Byte :=
  le8 r.value.toNat ++ le8 r.lastT.toNat ++ le8 r.preset.toNat ++ le4 n ++
    [byteOf (instKindCode r.kind),
     byteOf (flag 7 r.isNew + flag 6 r.resume + tstateCode r.ts * 16 + flag 3 r.q + flag 2 r.prev2 + flag 1 r.prev),
     byteOf r.task.val, 0]

/-- The 32 bytes of a force entry, R116. -/
def forceBytes (f : Force) : List Byte :=
  le4 f.tag ++ [byteOf (typeCode f.type), byteOf (flag 0 f.wouldBe.isSome), 0, 0] ++ le8 f.value.toNat ++
    le8 ((f.wouldBe.getD 0).toNat) ++ le8 f.epochSet

def jnlCode : JnlState → Nat
  | .notHeld => 0
  | .queued => 1
  | .running => 2
  | .done => 3
  | .failed => 4
  | .partly => 5
  | .rolledBack => 6

/-- A journal entry of 64 bytes. -/
def jnlBytes (e : JnlEntry) : List Byte :=
  le4 e.id ++ le2 e.command ++ [byteOf (jnlCode e.state), byteOf (flag 2 (!e.attachment.isEmpty) + flag 1 e.mirrored + flag 0 e.pairScope),
    byteOf e.step, byteOf e.steps] ++ le2 e.lastStatus ++ le4 e.session ++ le4 e.sequence ++ le4 e.attachment.length ++ le8 e.accepted ++
    le8 e.ended ++ le8 e.epoch ++ le4 e.detail ++ le4 e.detail2 ++ [byteOf e.transport, byteOf e.mailbox] ++ zeros 6

/-- The setting type code of a parameter, R346. -/
def paramTypeCode (id : Nat) : Nat :=
  match paramOf id with
  | some r => setTypeCode r.type
  | none => 0

/-- A setting in the layout of the SET.READ response, R353. -/
def settingEntry (id : Nat) (v : List Byte) : List Byte := le4 id ++ le2 (paramTypeCode id) ++ le2 v.length ++ padTo 8 v

/-! ### Payloads, R145 to R150 -/

def heartbeatBytes (h : Heartbeat) : List Byte :=
  [byteOf h.state, byteOf h.power,
   byteOf (flag 4 h.offer + flag 3 h.unmatched + flag 2 h.suspect + flag 1 h.bist + flag 0 h.weaveClean), 0] ++
    le4 h.claim ++ le4 h.highestClaim ++ le2 h.node ++ le2 0 ++ le8 h.completed ++ le8 h.mirrored ++ le8 h.serial.toNat

def manifestBytes (m : Manifest) : List Byte :=
  [byteOf m.task.val, byteOf (flag 0 m.noBargeAny)] ++ le2 m.nodes.length ++ le4 m.version ++ le8 m.tick ++ le8 m.baseEpoch ++
    le4 m.values.length ++ le4 0 ++ (m.nodes.flatMap fun p => le2 p.1 ++ le2 0 ++ le4 p.2) ++
    (m.values.flatMap fun v => le4 v.tag ++ le2 v.quality.toNat ++ le2 v.flags.toNat ++ le8 v.value.toNat ++ le8 v.srcTs ++
      le4 v.age ++ le4 0)

def agreementBytes (a : Agreement) : List Byte :=
  [byteOf a.task.val, 0, 0, 0] ++ le4 a.entries.length ++ le8 a.tick ++
    (a.entries.flatMap fun x => le4 x.1 ++ le4 x.2.1 ++ le8 x.2.2.toNat)

def handoverBytes (h : Handover) : List Byte :=
  [byteOf (causeCode h.cause), byteOf (flag 0 h.safeSent), 0, 0] ++ le4 h.claim ++ le8 h.lastCompleted ++ le8 h.lastRelease

def handoverAckBytes (a : HandoverAck) : List Byte :=
  le4 a.newClaim ++ le2 a.instants.length ++ le2 0 ++ le8 a.appliedEpoch ++
    (a.instants.flatMap fun p => byteOf p.1.val :: (zeros 7 ++ le8 p.2))

def nackBytes : Nack → List Byte
  | .resend sequence => [1, 0, 0, 0] ++ le4 sequence
  | .barge node sequence => [2, 0] ++ le2 node ++ le4 sequence
  | .fullForm task => [3, byteOf task.val, 0, 0, 0, 0, 0, 0]

/-- A poison map: one bit for each 8-byte word of the data that follows, padded to a multiple of 8 bytes. -/
def poisonBytes (dataLen : Nat) (poison : List Nat) : List Byte :=
  if poison.isEmpty then []
  else padTo 8 ((List.range ((dataLen / 8 + 7) / 8)).map fun i =>
    byteOf ((List.range 8).foldl (fun m j => m + flag j (poison.contains (8 * i + j))) 0))

/-- The 16 bytes before the data of a CATCHUP payload. -/
def catchupHead (kind : Nat) (poison : List Nat) (node item readEpoch : Nat) : List Byte :=
  [byteOf kind, byteOf (flag 0 (!poison.isEmpty))] ++ le2 node ++ le4 item ++ le8 readEpoch

/-- Data that may be poisoned, behind its map. -/
def copyBytes (kind item readEpoch : Nat) (poison : List Nat) (data : List Byte) : List Byte :=
  catchupHead kind poison 0 item readEpoch ++ poisonBytes data.length poison ++ data

def catchupBytes (readEpoch : Nat) : Chunk → List Byte
  | .barge node sequence payload => catchupHead 1 [] node sequence 0 ++ payload
  | .tagSlots first slots poison => copyBytes 2 first readEpoch poison (slots.flatMap slotBytes)
  | .state offset insts poison => copyBytes 3 offset readEpoch poison (insts.flatMap fun p => instBytes p.1 p.2)
  | .code offset data poison => copyBytes 4 offset readEpoch poison data
  | .forces first entries => copyBytes 5 first readEpoch [] (entries.flatMap forceBytes)
  | .journal first entries => copyBytes 6 first readEpoch [] (entries.flatMap jnlBytes)
  | .settings first entries => copyBytes 7 first readEpoch [] (entries.flatMap fun p => settingEntry p.1 p.2)
  | .lostRanges floor ranges => copyBytes 9 0 readEpoch [] (le8 floor ++ ranges.flatMap fun r => le8 r.1 ++ le8 r.2)
  | .ending baseEpoch chunks crc => catchupHead 8 [] 0 0 0 ++ le8 baseEpoch ++ le4 chunks ++ le4 crc

/-! ### Mirror records, R153 and R154 -/

/-- Type, key and data of an entry. -/
def entryParts : MirrorEntry → Nat × Nat × List Byte
  | .inst n r => (1, n, instBytes n r)
  | .slot x => (2, x.tag, slotBytes x)
  | .forceSet f => (3, f.tag, forceBytes f)
  | .forceClear i => (4, i, [])
  | .journal e => (5, e.id, jnlBytes e)
  | .exchange v old mask => (6, v, le4 old ++ le2 mask ++ le2 0 ++ le8 0)
  | .setting p v => (7, p, le2 (paramTypeCode p) ++ le2 v.length ++ le4 0 ++ padTo 8 v)
  | .undefinedType c => (c, 0, [])

/-- The 8-byte entry header and the padded data. -/
def entryWire (x : MirrorEntry) : List Byte :=
  let (type, key, data) := entryParts x
  [byteOf type, 0] ++ le2 data.length ++ le4 key ++ padTo 8 data

def isForceEntry : MirrorEntry → Bool
  | .forceSet _ | .forceClear _ => true
  | _ => false

def isExchangeEntry : MirrorEntry → Bool
  | .exchange _ _ _ => true
  | _ => false

/-- The content byte of a record header. -/
def contentByte (r : MirrorRecord) : Nat :=
  flag 3 r.hostChanges + flag 2 (r.entries.any isForceEntry) + flag 1 (r.entries.any isExchangeEntry) + flag 0 r.fullForm

def mirrorBytes (r : MirrorRecord) : List Byte :=
  le8 r.epoch ++ le8 r.tick ++ le8 r.lastComplete ++ le4 r.claim ++
    [byteOf (match r.task with
      | some k => k.val
      | none => 0xFF), byteOf (contentByte r), 0, 0] ++ le4 r.version ++ le4 r.entries.length ++ le8 r.digest.toNat ++
    r.entries.flatMap entryWire

/-! ### Frames, R144 -/

def payloadType : TowPayload → Nat
  | .heartbeat _ => 1
  | .manifest _ => 2
  | .agreement _ => 3
  | .mirror _ => 4
  | .handover _ => 5
  | .handoverAck _ => 6
  | .catchup _ _ => 7
  | .nack _ => 8

def payloadBytes : TowPayload → List Byte
  | .heartbeat h => heartbeatBytes h
  | .manifest m => manifestBytes m
  | .agreement a => agreementBytes a
  | .mirror r => mirrorBytes r
  | .handover h => handoverBytes h
  | .handoverAck a => handoverAckBytes a
  | .catchup e c => catchupBytes e c
  | .nack n => nackBytes n

/-- FULL_FORM and INVALID of the frames that carry a payload. -/
def payloadFlags : TowPayload → Nat
  | .mirror r => flag 2 r.fullForm + flag 0 r.invalid
  | _ => 0

/-- A payload in pieces of at most 8,192 bytes, at least one. -/
def framePieces : Nat → List Byte → List (List Byte)
  | 0, bs => [bs]
  | n + 1, bs => if bs.length ≤ 8192 then [bs] else bs.take 8192 :: framePieces n (bs.drop 8192)

/-- One frame: the 16-byte header with its CRC over header and payload, and the payload. -/
def frameBytes (type flags owner format sequence : Nat) (payload : List Byte) : List Byte :=
  let head := [byteOf type, byteOf flags] ++ le2 payload.length ++ le2 owner ++ [byteOf format, 0] ++ le4 sequence
  head ++ le4 (crc32c (head ++ le4 0 ++ payload)).toNat ++ payload

/-- Every frame that carries a payload, from a sequence on; each but the last has MORE set. -/
def wireFrames (owner format sequence : Nat) (p : TowPayload) : List (List Byte) :=
  let bs := padTo 8 (payloadBytes p)
  let ps := framePieces (bs.length / 8192) bs
  ps.zipIdx.map fun x =>
    frameBytes (payloadType p) (payloadFlags p + flag 1 (decide (x.2 + 1 < ps.length))) owner format (sequence + x.2) x.1

def towFrame (owner format sequence : Nat) (p : TowPayload) : TowFrame :=
  { owner := owner, format := format, sequence := sequence, payload := p, wire := wireFrames owner format sequence p }

end Sys2Proof.Machine
end

