-- ==== Sys2Proof/Machine/Roles.lean ====
section
/-! DEFINITION. Roles and claims: raising a claim, being superseded, faults of the module, handing over and taking
over (R15, R25, R26, R125, R136, R155, R159, R160, R163 to R168, R172, R488, R490). -/

namespace Sys2Proof.Machine

open Sys2Proof

/-! ### The tow line -/

/-- Header of the image in the boot slot; the factory image's is not held (R431). -/
def bootHeader (s : State) : List Byte := s.upd.slots[s.upd.bootSlot].header

/-- Settings schema version of the factory firmware; the manual gives no number (notes/assumptions/3.md). -/
def schemaVersion : Nat := 1

/-- Settings schema version of the firmware that runs (R431). -/
def fwSchema (s : State) : Nat := if (bootHeader s).isEmpty then schemaVersion else natAt (bootHeader s) 32 2

/-- Mirror-format version of the factory firmware; the manual names only the window around it (R138). -/
def factoryFormat : Nat := 1

/-- Mirror-format version of the firmware that runs. -/
def mirrorFormat (s : State) : Nat := if (bootHeader s).isEmpty then factoryFormat else natAt (bootHeader s) 15 1

/-- Hands a payload to the tow line; each of its frames takes the next sequence number (R144). -/
def towSend (p : TowPayload) (s : State) : State :=
  onTow (fun t =>
    let f := towFrame (ownerId s) (mirrorFormat s) (t.seqOut + 1) p
    { t with seqOut := t.seqOut + f.wire.length, sent := t.sent ++ [f],
             retained := match p with
               | .mirror _ => t.retained ++ [f]
               | _ => t.retained }) s

/-! ### Pending copies and executions that end without a step, R488 -/

def voidCopy (c : SlotCopy) : SlotCopy := if c.mark = .pending then { c with mark := .void } else c

/-- Pending copies of the tags that the tasks write become void. -/
def voidTasks (ks : List TaskId) (s : State) : State :=
  let own (t : Tag) : Bool := match t.decl.writer with
    | some k => ks.contains k
    | none => false
  onImg (fun im => { im with tags := tmap (fun _ t => if own t then { t with a := voidCopy t.a, b := voidCopy t.b } else t) im.tags }) s

/-- Every execution ends without a step. -/
def haltExecs (s : State) : State := onExecs (fun _ => []) (voidTasks (s.ctl.execs.map fun e => e.task) s)

def stopTasks (s : State) : State := onCtl (fun c => { c with tasks := c.tasks.map fun t => { t with running := false } }) s

/-! ### Epoch-bound changes after the step that applied them, R25 -/

def setCommitCode : Nat := 0x0202

/-- The epochs up to `e` are mirrored: changes that they applied are answered `OK`; a settings commit goes on to its
second copy (R352). -/
def markMirrored (e : Nat) (s : State) : State :=
  if e ≤ s.img.mirrored then s
  else
    let due := s.keeper.journal.filter fun x => x.state == .running && x.epoch != 0 && decide (x.epoch ≤ e)
    let s := onImg (fun im => { im with mirrored := e }) s
    let s := onSettings (fun t => { t with commits := t.commits.map fun c =>
      if c.phase = .applied ∧ (due.any fun x => x.id == c.journal) = true then { c with phase := .mirrored } else c }) s
    due.foldl (fun s x => if x.command = setCommitCode then jmod x.id (fun y => { y with step := 3, mirrored := true }) s
      else jend x.id .done stOk (jmod x.id (fun y => { y with step := y.steps, mirrored := true }) s)) s

/-- Both copies are written at once under the next generation, as a key-epoch switch does (R209). -/
def rewriteCopies (s : State) : State :=
  let schema := fwSchema s
  onSettings (fun t =>
    let g := max (if t.copyA.valid then t.copyA.generation else 0) (if t.copyB.valid then t.copyB.generation else 0)
    let c : SettingsCopy := { generation := g + 1, schema := schema, epoch := s.img.epoch, entries := t.committed, valid := true }
    { t with copyA := c, copyB := c, usingB := false }) s

/-- A commit that has written its first copy and is taken back: its Immediate settings return to their values, and the copies are
rewritten from the committed set under the next generation. -/
def revertCommit (c : Commit) (s : State) : State :=
  if c.phase = .firstCopy ∨ c.phase = .applied then
    let back (m : Tbl (List Byte)) (id : Nat) : Tbl (List Byte) := match tget id c.before with
      | some v => tput id v m
      | none => tdel id m
    rewriteCopies (onSettings (fun t => { t with committed := (c.entries.map fun p => p.1).foldl back t.committed }) s)
  else s

/-- Changes whose epoch is not mirrored, and those that no step has applied, end ROLLED_BACK with EPOCH_GONE, the
entries that the former active mirrored among them (R341). An exchange's report gives the reason SWITCH_OVER (R111). -/
def rollBack (s : State) : State :=
  let gone := s.keeper.journal.filter fun x =>
    !ended x.state && epochBound x.command && (x.epoch == 0 || decide (s.img.mirrored < x.epoch))
  let s := gone.foldl (fun s x => if x.command = prgExchangeCode then failureReport x.id reasonSwitch s else s) s
  let lost := s.settings.commits.filter fun c => gone.any fun x => x.id == c.journal
  let s := lost.foldl (fun s c => revertCommit c s) s
  let s := onSettings (fun t => { t with commits := t.commits.filter fun c => !(gone.any fun x => x.id == c.journal) }) s
  let s := onCtl (fun c => { c with exchange := match c.exchange with
    | some x => if gone.any fun g => g.id == x.journal then none else some x
    | none => none }) s
  gone.foldl (fun s x => jend x.id .rolledBack stEpochGone s) (onKeeper (fun k => { k with changes := [] }) s)

/-- A planned switch or a proof that waits ends FAILED, and its entry gives the cause in detail 2 (R162, "Coincidences in a
pair"). -/
def endSwitch (status : Nat) (cause : SwitchCause) (s : State) : State :=
  match s.tow.switch with
  | some w =>
    jend w.journal .failed status
      (jmod w.journal (fun e => { e with detail2 := causeCode cause }) (onTow (fun t => { t with switch := none, proof := none }) s))
  | none => s

/-! ### The proof as roles change, R176 and R177 -/

/-- A proof ends FAILED with the failing check in its entry; 0 stands for a check that the partner made, or for a role change
that ended the proof. -/
def failProof (p : Proof) (check : Nat) (s : State) : State :=
  let s := jend p.journal .failed stStateConflict (jmod p.journal (fun e => { e with step := p.step, detail2 := (Config.proofCheck check).toNat }) s)
  pairChanged (fun x => { x with proofFailed := true }) (onTow (fun x => { x with proof := none }) s)

/-- What a take-over means for a proof: the partner begins its part; the module that began the proof comes to step 5 from the
dwell, and the proof has failed where it takes its role back earlier or by another path. A partner that hands back before the
dwell has failed a check, and is marked SUSPECT. -/
def proofAfterTakeOver (cause : SwitchCause) (s : State) : State :=
  let now := nowOf s
  let set (p : Option Proof) : State := onTow (fun t => { t with proof := p }) s
  let begun : Proof := { journal := 0, step := 2, origin := false, since := now, dwell := cfg s P.proofDwell }
  match s.tow.proof with
  | some p =>
    if p.origin = false then set (if cause = .proof then some begun else none)
    else if p.step = 0 then set none
    else if cause = .proof ∧ p.step = 3 then jmod p.journal (fun e => { e with step := 5 }) (set (some { p with step := 5, since := now }))
    else pairChanged (fun x => { x with partnerSuspect := x.partnerSuspect || cause == .proof }) (failProof p 0 s)
  | none => if cause = .proof then set (some begun) else s

/-! ### Lost ranges, R26 and R490 -/

def recordLost (first last : Nat) (s : State) : State :=
  if last < first then s
  else
    onImg (fun im =>
      if im.lostRanges.length < 64 then { im with lostRanges := im.lostRanges ++ [(first, last)] }
      else { im with lostRanges := im.lostRanges.drop 1 ++ [(first, last)],
                     lostFloor := match im.lostRanges.head? with
                       | some r => max im.lostFloor r.2
                       | none => im.lostFloor }) s

/-! ### Claims, R163 to R168 -/

/-- A role is given up: the module holds no claim. -/
def dropClaim (s : State) : State := onPair (fun p => { p with claim := 0 }) s

/-- A proof ends without a result of its own: on the module that began it, it has failed. -/
def endProof (s : State) : State :=
  match s.tow.proof with
  | some p => if p.origin && p.step != 0 then failProof p 0 s else onTow (fun t => { t with proof := none }) s
  | none => s

/-- Superseded by a higher claim (R168). -/
def supersede (higher : Nat) (s : State) : State :=
  let s := stage 0x0605 srcModule (le4 s.pair.claim ++ le4 higher ++ le8 s.img.epoch) s
  let s := yieldStages [] (dropOwnBarges (haltExecs s))
  let s := endProof (endSwitch stRoleConflict .superseded (rollBack s))
  let s := pairChanged (fun p => { p with supersededFlag := true, lastCause := .superseded }) s
  let s := onNet (fun n => { n with safeRepeats := 0 }) s
  let s := onTow (fun t => { t with handoverSent := none, serving := false }) s
  let s := enterState .ready .superseded s
  stopTasks (dropClaim s)

/-- A claim of the owner that only raises the highest claim seen (R164). -/
def noteClaim (c : Nat) (s : State) : State := onPair (fun p => { p with highestClaim := max p.highestClaim c }) s

/-- A claim of the owner that supersedes (R168); the stages of a module that is not active yield to it (R167). -/
def obeyClaim (c : Nat) (s : State) : State :=
  if c ≤ s.pair.claim ∨ s.pair.claim = 0 then s
  else if s.mod.state = .active then supersede c s
  else yieldStages [] s

/-- A claim that also raises the highest claim seen. -/
def seeClaim (c : Nat) (s : State) : State := obeyClaim c (noteClaim c s)

/-- Raises the claim for entry to `ACTIVE`; streams begin anew under it, and no node has yet been told of it (R164, R165,
R188). -/
def raiseClaim (s : State) : State :=
  let s := onNet (fun n => { n with nodes := tmap (fun _ x => { x with claimSentAt := none }) n.nodes }) s
  resetStreams (onPair (fun p => { p with claim := p.highestClaim + 1, highestClaim := p.highestClaim + 1 }) s)

def claimExhausted (s : State) : Bool := decide (0xFFFFFFFF ≤ s.pair.highestClaim)

/-- Enters `ACTIVE` under a raised claim: `CLAIM` broadcast, stages preloaded (R165, R257). -/
def enterActive (cause : SwitchCause) (afterMiss : Bool) (notBefore : Nat) (s : State) : State :=
  let s := raiseClaim s
  let s := pairChanged (fun p => { p with lastCause := cause, supersededFlag := false, offer := none, checkWindow := false, cold := none }) s
  let s := enterState .active cause s
  preloadStages afterMiss notBefore (sendClaimBroadcast s)

/-! ### Taking over, R26, R155, R160, R172 -/

/-- Shadow steps whose record never came are discarded; running and held executions go on as the new active's. -/
def adoptExecs (s : State) : State :=
  let gone (e : Exec) : Bool := e.shadow && !e.held && e.phase == .ended
  let keep := (s.ctl.execs.filter fun e => !gone e).map fun e => { e with shadow := false, held := false, unmatched := false }
  onExecs (fun _ => keep) (voidTasks ((s.ctl.execs.filter gone).map fun e => e.task) s)

/-- The gap that a switch-over leaves: the EPOCH_GAP event and the lost range (R26). -/
def recordGap (former : Nat) (s : State) : State :=
  let s := stage 0x0601 srcModule (le8 s.img.mirrored ++ le4 former ++ le4 s.pair.claim ++ le8 s.img.observed) s
  let s := recordLost (s.img.mirrored + 1) s.img.observed s
  onImg (fun im => { im with observed := 0 }) s

/-- After a take-over the next journal ID is the highest held one plus 65,536 (R340). -/
def skipJournalIds (s : State) : State :=
  onKeeper (fun k => { k with lastJournal := k.journal.foldl (fun m e => max m e.id) 0 + 65535 }) s

/-- The take-over proper: the module is warm, or has woken from NAP and rebuilt. A claim that cannot be raised leaves
it without a role (R164). -/
def takeOverNow (cause : SwitchCause) (afterMiss : Bool) (notBefore : Nat) (s : State) : State :=
  let s := pairChanged (fun p => { p with checkWindow := false, cold := none }) s
  if claimExhausted s then
    let s := stage 0x0606 srcModule (le4 s.pair.highestClaim) s
    stopTasks (haltExecs (enterState .ready cause s))
  else
    let former := s.pair.activeClaim
    let s := onImg (fun im => { im with epoch := im.mirrored, forcesSent := im.forces }) (adoptExecs s)
    let s := enterActive cause afterMiss notBefore s
    let s := onPair (fun p => { p with mirrorAlone := cause != .planned && cause != .proof }) s
    let s := skipJournalIds (recordGap former s)
    let s := onTow (fun t => { t with switches := t.switches + 1, retained := [], serving := false, records := [], shadowBarges := [], activeBarges := [] }) s
    proofAfterTakeOver cause (rollBack s)

/-- The Keeper runs; while it is stopped no role decision is taken ("When a block around the Basin stops"). -/
def keeperDecides (s : State) : Bool := s.keeper.running && !s.sec.keeperHalted

/-- A take-over falls due. A standby in NAP first wakes and rebuilds (R172). -/
def takeOver (cause : SwitchCause) (afterMiss : Bool) (notBefore : Nat) (s : State) : State :=
  if keeperDecides s = false then s
  else if s.mod.power = .nap then
    setPower (defaultPower s) 1 (onPair (fun p => { p with cold := some (cause, afterMiss, notBefore), checkWindow := false }) s)
  else takeOverNow cause afterMiss notBefore s

/-! ### Handing over and stopping, R57, R125, R159 -/

/-- Release time of a transmitted output barge. -/
def releaseOfFrame (q : QueuedFrame) : Nat :=
  match q.frame.body with
  | .barge _ _ _ bytes => if q.own ∧ beNat ((bytes.drop 1).take 1) = 2 then beNat ((bytes.drop 16).take 8) else 0
  | _ => 0

/-- Latest release time of any output barge that has left the module. -/
def lastRelease (s : State) : Nat :=
  (s.sw.ports.toList.flatMap fun p => p.sent).foldl (fun m q => max m (releaseOfFrame q)) 0

/-- The active takes no further step and sends HANDOVER; the record of every completed step has been sent before. -/
def handOver (cause : SwitchCause) (safeSent : Bool) (s : State) : State :=
  let h : Handover :=
    { cause := cause, safeSent := safeSent, claim := s.pair.claim, lastCompleted := s.img.epoch, lastRelease := lastRelease s }
  let s := towSend (.handover h) (haltExecs s)
  onTow (fun t => { t with handoverSent := some (nowOf s, cause) }) s

/-- The module takes no step and no tick: it has handed over. -/
def handingOver (s : State) : Bool := s.tow.handoverSent.isSome

def setFault (c : FaultCause) (s : State) : State := onMod (fun m => { m with fault := c, faultRead := false }) s

/-- Enters `STOPPED_FAULT`; the claim is kept until a higher one appears. -/
def stopFaulted (s : State) : State :=
  let s := endProof (endSwitch stRoleConflict .selfDeclared (stopTasks (haltExecs s)))
  enterState .stoppedFault .selfDeclared s

/-- A fault of the module while it runs tasks (R15, R125): an active hands over to a partner in `STANDBY`, or stops and
publishes `SAFE`; a standby stops and publishes nothing. -/
def moduleFault (c : FaultCause) (s : State) : State :=
  match s.mod.state with
  | .active =>
    if handingOver s then s
    else if partnerStandby s then
      let s := endProof (endSwitch stRoleConflict .selfDeclared (setFault c s))
      handOver .selfDeclared false s
    else safeStages (sendSafe (stopFaulted (setFault c s)))
  | .standby => stopFaulted (setFault c s)
  | _ => s

/-- A poisoned read by a lane, the step sequencer or the barge engine (R15). The codeword was reported when it was
marked. -/
def poisonFault (s : State) : State :=
  moduleFault .basinUncorrectable (onBasin (fun b => { b with uncorrectable := true }) s)

/-- A hand-over has ended: the former active reads the new claim, its stages yield, and it takes its next state. -/
def afterHandover (newClaim : Nat) (instants : List (TaskId × Nat)) (s : State) : State :=
  match s.tow.handoverSent with
  | none => s
  | some (_, cause) =>
    let s := onTow (fun t => { t with handoverSent := none, serving := false, retained := [], switches := t.switches + 1 }) s
    let s := yieldStages instants (noteClaim newClaim s)
    let s := pairChanged (fun p => { p with lastCause := cause }) s
    let next : ModState := match cause with
      | .planned | .proof => .standby
      | .release => .maintenance
      | _ => .stoppedFault
    let s := enterState next cause (dropClaim (rollBack s))
    if next = .standby then s else stopTasks s

/-- The release of an active without a standby ends once the `SAFE` barges have gone out under its claim (R175, R201). -/
def finishRelease (s : State) : State :=
  match s.tow.switch with
  | some w =>
    if w.isRelease ∧ handingOver s = false ∧ s.net.safeRepeats = 0 then
      let s := yieldStages [] (rollBack (onTow (fun x => { x with switch := none }) s))
      let s := enterState .maintenance .release (dropClaim s)
      jend w.journal .done stOk (jmod w.journal (fun e => { e with step := e.steps }) s)
    else s
  | none => s

end Sys2Proof.Machine
end

