-- ==== Sys2Proof/Machine/Ledger.lean ====
section
/-! DEFINITION. The wear ledger's counts, the spares that are left, and self-test runs that give way to service
(R12, R372, R380, R420, R421, R427). -/

namespace Sys2Proof.Machine

open Sys2Proof

/-! ### Window and counts -/

/-- An operating hour lies inside the sliding window of the ledger (R420). -/
def inWindow (s : State) (h : Nat) : Bool := decide (s.path.hours < h + cfg s P.wearWindow)

def countIn (s : State) (hs : List Nat) : Nat := (hs.filter (inWindow s)).length

def factorySection (p : Nat) : Section :=
  { state := if p < 448 then .inUse else .spare, bistFlag := false, triples := 0, singles := 0, doubles := 0,
    singleHours := [], doubleHours := [], changeHours := 0, errorHours := 0, noSpare := false, spareBad := false }

def sectionOf (s : State) (p : Nat) : Section := (tget p s.basin.sections).getD (factorySection p)

def onSection (p : Nat) (g : Section → Section) (s : State) : State :=
  onBasin (fun b => { b with sections := tput p (g (sectionOf s p)) b.sections }) s

/-- The logical section that a physical one serves; none for a section that serves none (R12). -/
def logicalOf (s : State) (p : Nat) : Option Nat :=
  match s.basin.map.find? fun q => q.2 == p with
  | some q => some q.1
  | none => if p < 448 ∧ thas p s.basin.map = false then some p else none

/-- Lanes that are not retired. -/
def usableLanes (s : State) : Nat := (allLanes.filter fun l => s.ctl.weave.lanes[l].role != .retired).length

def spareLane (s : State) : Option LaneId :=
  allLanes.find? fun l => s.ctl.weave.lanes[l].role == .spare || s.ctl.weave.lanes[l].role == .spareTest

def basinSpares (s : State) : Nat := ((List.range 512).filter fun p => (sectionOf s p).state == .spare).length
def flashSpares (s : State) : Nat := 16 - s.wear.flash.length
def mramSpares (s : State) : Nat := 16 - s.wear.mram.length
def usableRefs (s : State) : Nat := (s.refs.failed.toList.filter fun f => !f).length

/-- The SUMMARY record of the ledger (R420). -/
def summaryRecord (s : State) : List Byte :=
  [byteOf (usableLanes s), byteOf (flag 0 (spareLane s).isSome)] ++ le2 (basinSpares s) ++ le2 (flashSpares s) ++
    le2 (mramSpares s) ++ [byteOf (flag 0 (!s.tow.spareInUse)), byteOf (usableRefs s)] ++ le2 (flag 0 s.wear.sparesLow) ++
    le4 s.path.hours ++ le4 s.path.powerCycles ++ zeros 12

def sparesShort (s : State) : Bool :=
  (spareLane s).isNone || decide (basinSpares s ≤ 8) || decide (flashSpares s ≤ 4) || decide (mramSpares s ≤ 4) ||
    s.tow.spareInUse || decide (usableRefs s < 2)

/-- Sets SPARES_LOW and records it once (R427). -/
def checkSpares (s : State) : State :=
  if s.wear.sparesLow || !sparesShort s then s
  else
    let s := onWear (fun w => { w with sparesLow := true }) s
    stage 0x0F13 srcModule ((summaryRecord s).take 12) s

/-! ### A block of the MRAM or the flash is replaced, R424 -/

/-- Where a logical block lies: its latest replacement, or its own number. -/
def blockAt (records : List BlockRecord) (logical : Nat) : Nat :=
  match records.reverse.find? fun r => r.logical == logical with
  | some r => r.new
  | none => logical

/-- Replaces a block by the next spare, where one of the sixteen of its store is left. -/
def replaceBlock (mram : Bool) (logical cause : Nat) (s : State) : State :=
  let records := if mram then s.wear.mram else s.wear.flash
  if 16 ≤ records.length then s
  else
    let b : BlockRecord :=
      { logical := logical, old := blockAt records logical, new := 1008 + records.length, cause := cause, hours := s.path.hours,
        cycles := s.path.powerCycles, erases := if mram then 0 else (freeWord s).toNat % 2 ^ 32 }
    let s := if mram then s else draw s
    let s := onWear (fun w => if mram then { w with mram := w.mram ++ [b] } else { w with flash := w.flash ++ [b] }) s
    checkSpares (stage 0x0F12 (srcStore (flag 0 mram)) (le2 b.logical ++ le2 b.old ++ le2 b.new ++ [byteOf b.cause]) s)

/-- The key of a block in the table of corrected reads. -/
def blockKey (r : BlockReport) : Nat := (if r.mram then 1024 else 0) + r.block

/-- `n` event slots or ledger words are lost. -/
def noteLost (n : Nat) (s : State) : State :=
  let e : Event := { mkEvent 0x0F01 srcModule (le4 (sat32 n)) s with lostBefore := true }
  if n = 0 then s
  else onRecd (fun r => if r.staging.length < 32768 then { r with staging := r.staging ++ [e] } else { r with discarded := r.discarded + n }) s

/-- Contents that cannot be read come from their redundant copy; event slots and ledger words are lost; a firmware slot is DAMAGED
(R424, R429). -/
def recoverBlock (r : BlockReport) (held : BlockContents) (s : State) : State :=
  if r.mram = false then
    if h : r.block / 384 < 2 then
      onUpd (fun u => { u with slots := vmod u.slots ⟨r.block / 384, h⟩ fun x => if x.state = .empty then x else { x with state := .damaged } }) s
    else s
  else
    match held with
    | .events slots =>
      let n := (s.recd.slots.filter fun p => slots.contains p.1).length
      noteLost n (onRecd (fun r => { r with slots := r.slots.filter fun p => !slots.contains p.1 }) s)
    | .ledger words => noteLost words s
    | .settings copyB =>
      onSettings (fun t =>
        if copyB then { t with copyB := if t.copyA.valid then t.copyA else { t.copyB with valid := false } }
        else { t with copyA := if t.copyB.valid then t.copyB else { t.copyA with valid := false } }) s
    | .tail n => onRecd (fun r => { r with tails := r.tails.set n (if n = 0 then r.tails[1] else r.tails[0]) }) s
    | .other => s

/-- Acts on a finding: corrected reads count toward WEAR_STORE_CORRECTIONS in the window, and every other finding replaces the block
(R424). -/
def takeReport (s : State) (r : BlockReport) : State :=
  let replace (cause : Nat) (s : State) : State :=
    replaceBlock r.mram r.block cause (onWear (fun w => { w with corrections := tdel (blockKey r) w.corrections }) s)
  match r.finding with
  | .corrected =>
    let hours := s.path.hours :: ((tget (blockKey r) s.wear.corrections).getD []).filter (inWindow s)
    if cfg s P.wearStoreCorrections ≤ hours.length then replace 2 s
    else onWear (fun w => { w with corrections := tput (blockKey r) hours w.corrections }) s
  | .programVerify => replace 0 s
  | .eraseVerify => replace 1 s
  | .unreadable held => replace 3 (recoverBlock r held s)
  | .selfTest => replace 4 s

def takeReports (found : List BlockReport) (s : State) : State := found.foldl takeReport s

/-! ### Self-test flags and runs, R372, R380 -/

def blockLane (l : LaneId) : Fin 14 := ⟨l.val, by omega⟩
def blockInject : Fin 14 := 5
def blockSections : Fin 14 := 7
def blockSpare : Fin 14 := 8
def blockKeeper : Fin 14 := 9
def blockCan (c : Fin 2) : Fin 14 := ⟨12 + c.val, by omega⟩

def allBlocks : List (Fin 14) := List.finRange 14

/-- The module carries a self-test flag, not counting a retired lane's (R372). -/
def moduleFlag (s : State) : Bool :=
  (allBlocks.any fun b => s.bist[b].flag && !(allLanes.any fun l => blockLane l == b && s.ctl.weave.lanes[l].role == .retired))

def bistCode : BistResult → Nat
  | .notRun => 0
  | .pass => 1
  | .fail => 2
  | .incomplete => 3

/-- A run ends INCOMPLETE: its signature is whatever the register held, a free value (R371, R380). -/
def abortRun (b : Fin 14) (s : State) : State :=
  match s.bist[b].running with
  | none => s
  | some (j, background) =>
    let s := onBist b (fun x => { x with running := none, result := .incomplete, hours := s.path.hours, signature := freeWord s, retryFrom := if background then some (nowOf s) else x.retryFrom }) s
    jend j .done stOk (jmod j (fun e => { e with step := 2, detail := bistCode .incomplete }) (draw s))

/-- A background run gives way to service (R380). -/
def abortBackground (b : Fin 14) (s : State) : State :=
  match s.bist[b].running with
  | some (_, true) => abortRun b s
  | _ => s

def abortAllBackground (s : State) : State := allBlocks.foldl (fun s b => abortBackground b s) s

end Sys2Proof.Machine
end

