-- ==== Sys2Proof/Machine/Layout.lean ====
section
/-! DEFINITION. Where landing buffers and view buffers lie in the Basin (R37, R39, R357 to R360; notes/assumptions/10.md),
so that a read of them meets poison (R15). -/

namespace Sys2Proof.Machine

open Sys2Proof

/-- Pages of 4 KiB that an allocation takes, in KiB (R359). -/
def pages (n : Nat) : Nat := (n + 4095) / 4096 * 4

/-- B of R360. -/
def bargeUnit (s : State) : Nat := (cfg s P.maxPayload + 56 + 511) / 512 * 512

/-- Enabled entries of the node table; the committed table lists each entry whose NODE_ENABLE is not its default 0. -/
def enabledNodes (s : State) : List Nat :=
  s.settings.committed.filterMap fun p => if P.nodeEnable 0 ≤ p.1 ∧ p.1 < P.nodeId 0 ∧ leNat p.2 = 1 then some (p.1 - P.nodeEnable 0) else none

def bargeRegion : Nat := 0x06800000
def freeBase : Nat := 0x11F00000

/-- Address of a landing buffer: four units for each enabled node, in the order of the node table. -/
def landingAddress (s : State) (node : Nat) (buffer : Fin 4) : Option Nat :=
  (((enabledNodes s).map fun i => cfg s (P.nodeId i)).idxOf? node).map fun r => bargeRegion + (4 * r + buffer.val) * bargeUnit s

/-- The buffer that takes the next barge of a node: one that none of its latest three holds (R39). -/
def freeBuffer (landing : List LandedBarge) : Fin 4 :=
  let held := (lastN 3 landing).map fun b => b.buffer
  ((List.finRange 4).find? fun i => !held.contains i).getD 0

/-- Tags that the view buffer of a task holds: its input tags and the foreign tags it declares, rising. -/
def viewTags (p : Program) (c : TaskCode) : List Nat :=
  (p.tags.filter fun q => isInput q.2 && q.2.writer == some c.task).foldl (fun m q => insertSorted q.1 m) c.view

/-- Start of a task's view buffer: one buffer a task, in the order of their numbers; the second half's version has its
buffers behind the largest VIEW quota. -/
def viewBase (s : State) (p : Program) (k : TaskId) : Nat :=
  freeBase + (if s.ctl.half then 0x05000000 else 0) +
    ((p.codes.filter fun c => decide (c.task.val < k.val)).map fun c => 1024 * pages (32 * (viewTags p c).length)).foldl (· + ·) 0

/-- Address of a tag's entry in the view buffer of a task of the running program. -/
def viewAddress (s : State) (k : TaskId) (i : Nat) : Option Nat :=
  match s.ctl.running with
  | none => none
  | some p =>
    match p.codes.find? fun c => c.task == k with
    | none => none
    | some c => ((viewTags p c).idxOf? i).map fun r => viewBase s p k + 32 * r

/-- A codeword that holds one of `len` bytes from an address on is poisoned. -/
def poisonIn (s : State) (address len : Nat) : Bool :=
  s.basin.poison.any fun w => decide (address / 8 ≤ w) && decide (8 * w < address + len)

/-- The view entry of a tag is poisoned. -/
def viewPoisoned (s : State) (k : TaskId) (i : Nat) : Bool :=
  match viewAddress s k i with
  | some a => poisonedAt s a
  | none => false

/-- A landed barge is poisoned in its buffer; one fetched from the active lies in none. -/
def bargePoisoned (s : State) (node : Nat) (b : LandedBarge) : Bool :=
  match landingAddress s node b.buffer, tget node s.net.nodes with
  | some a, some n => (n.landing.any fun x => x.arrival == b.arrival && x.sequence == b.sequence) && poisonIn s a b.payload.length
  | _, _ => false

/-- The commit writes every entry of the view buffer whole (R14). -/
def clearView (k : TaskId) (view : Tbl ViewEntry) (s : State) : State :=
  if s.basin.poison.isEmpty then s
  else view.foldl (fun s p => match viewAddress s k p.1 with
    | some a => clearPoison a 32 s
    | none => s) s

end Sys2Proof.Machine
end

