-- ==== Sys2Proof/Machine/Lane.lean ====
section
/-! DEFINITION. One instruction on one lane: which execution the lane runs, when the instruction is issued, what stops
a lane (R65, R88, R95, R98, R122), poisoned operands (R15), and the live sources of AGREE (R91). -/

namespace Sys2Proof.Machine

open Sys2Proof

/-- The lane stops at the instruction (R98): its pc stays on it and it posts nothing more. -/
def laneFault (x : LaneIn) : LaneCtx := { x.c with pc := x.c.pc - 1, stalled := true }

/-- The lane can issue an instruction of this execution. -/
def canIssue (l : LaneId) (c : LaneCtx) : Bool :=
  c.lane == l && !c.ended && c.halted.isNone && !c.stalled && c.waiting.isNone

/-- Phases in which lanes execute: running, and trailing after task end (R126). -/
def lanesRun (p : ExecPhase) : Bool :=
  match p with
  | .running | .ended | .stepped => true
  | .latched | .committing | .preempted => false

/-- The execution that the lane runs, by its place: one that it trails in is finished first ("Coincidences among
lanes"). -/
def placeFor (s : State) (l : LaneId) : Option Nat :=
  let runs (trails : Bool) (e : Exec) : Bool := lanesRun e.phase && (e.phase != .running) == trails && e.lanes.any (canIssue l)
  match placeWhere s (runs true) with
  | some i => some i
  | none => placeWhere s (runs false)

/-- Lanes that take part in an execution and have not been halted (R124, R128). -/
def takingPart (e : Exec) : List LaneCtx := e.lanes.filter fun c => c.halted.isNone

/-- Entries of the lane's delay FIFO that are pending, over every execution in progress: they have not been compared
with each other lane's (R122). -/
def pendingOf (s : State) (l : LaneId) : Nat :=
  (s.ctl.execs.map fun e => ((takingPart e).map fun c => if c.lane = l then c.posted.length - e.compared else 0).foldl (· + ·) 0).foldl (· + ·) 0

/-- Entries that an instruction may post: 64 for BST (R80), one for any other. -/
def postsOf (f : WordFields) : Nat := if f.op = 0x41 then 64 else 1

/-- Free entries of the lane's delay FIFO suffice for so many posts (R122). -/
def fifoRoom (s : State) (l : LaneId) (posts : Nat) : Bool := decide (pendingOf s l + posts ≤ 1024)

/-- The instruction word at the lane's pc has an uncorrectable error in the lane's instruction SRAM (R98). -/
def unreadable (s : State) (l : LaneId) (k : TaskId) (pc : Nat) : Bool :=
  match s.ctl.running with
  | some p => match tget k.val p.places with
    | some offset => s.ctl.weave.lanes[l].badCode.contains ((codeHalf s.ctl.half + offset) / 8 + pc)
    | none => false
  | none => false

/-- Tags that an instruction reads from the Basin. -/
def tagsRead (f : WordFields) : List Nat :=
  let op := f.op.toNat
  let first := f.o.toNat
  if (0x10 ≤ op ∧ op ≤ 0x1B) then
    (if f.m.toNat = 1 ∨ (f.m.toNat = 0 ∧ op ≤ 0x17) then [first] else [])
  else if op = 0x40 ∨ (0x42 ≤ op ∧ op ≤ 0x44) then (List.range 64).map (first + ·)
  else if 0x50 ≤ op ∧ op < 0xB8 ∧ op ≠ 0x54 ∧ op % 4 = 0 then
    (match rowOf f with
     | some r => if r.layout = .tag then [first] else []
     | none => [])
  else []

/-- The instruction reads an instance record. -/
def readsInst (f : WordFields) : Bool := decide (0x28 ≤ f.op.toNat) && decide (f.op.toNat ≤ 0x3F)

/-- A poisoned codeword lies in what the instruction reads from the view buffer, the image or the STATE half (R15). -/
def readsPoison (s : State) (x : LaneIn) (f : WordFields) : Bool :=
  !s.basin.poison.isEmpty &&
  (((tagsRead f).any fun i =>
      (lastPosted x.c (.tag i)).isNone &&
      (if thas i x.e.view then viewPoisoned s x.e.task i
       else match tget i x.tags with
       | some tag => poisonedAt s (slotAddress i (copyIsB tag x.e.baseEpoch))
       | none => false)) ||
   (readsInst f && (lastPosted x.c (.inst f.im.toNat)).isNone && poisonedAt s (instAddress s f.im.toNat)))

/-- Replaces the context of lane l in the execution at place i. -/
def putLaneCtx (i : Nat) (l : LaneId) (c : LaneCtx) (s : State) : State :=
  onExecs (lmod i fun e => { e with lanes := e.lanes.map fun x => if x.lane = l then c else x }) s

/-- One instruction of lane l: `body` computes the lane's new context from its inputs, with the pc already on the next
instruction; `opens` says that a value it uses is one the manual leaves open, and a free value is drawn. A lane that
runs no execution, is gated or held by a debug session, or whose delay FIFO is full does not issue it. A word that
cannot be read, is not valid or lies outside the code stops the lane (R98). -/
def laneStep (s : State) (l : LaneId) (f : WordFields) (body : LaneIn → LaneCtx) (opens : LaneIn → Bool) : State :=
  if s.ctl.weave.lanes[l].gated || s.ctl.weave.lanes[l].debugHalt then s
  else
    match placeFor s l with
    | none => s
    | some i =>
      match s.ctl.execs[i]? with
      | none => s
      | some e =>
        match e.lanes.find? (canIssue l) with
        | none => s
        | some c =>
          if unreadable s l e.task c.pc || !wordOk f || decide (e.codeLen ≤ c.pc) then putLaneCtx i l { c with stalled := true } s
          else if !fifoRoom s l (postsOf f) then
            putLaneCtx i l { c with fullSince := some (((c.fullSince.map fun x => x.1).getD (nowOf s)), postsOf f) } s
          else
            let r : OpRow := (rowOf f).getD ⟨0, .none, [], 0, 0⟩
            let issued := { c with fullSince := none, pc := c.pc + 1, cycles := c.cycles + r.cycles + 4 * r.basin }
            let x : LaneIn := { tags := s.img.tags, insts := s.ctl.insts, e := e, c := issued, free := freeWord s }
            if readsPoison s x f then poisonFault s
            else putLaneCtx i l (body x) (if opens x then draw s else s)

/-- The instruction uses no value that the manual leaves open. -/
def neverOpen (_ : LaneIn) : Bool := false

/-! ### AGREE, R91 -/

/-- A live source as a lane samples it, in the type of MOD; none for an undefined source. -/
def liveSource (s : State) (f : WordFields) : Option W64 :=
  let code := f.o.toNat
  if h : code < 16 then some (if s.field.received.comparators[code] then 1 else 0)
  else if h : 0x100 ≤ code ∧ code < 0x108 then
    some (convert .real64 ((typeOf f.m.toNat).getD .real64) s.field.received.readings[code - 0x100])
  else if h : 0x200 ≤ code ∧ code < 0x204 then some (if s.field.fi[code - 0x200].level then 1 else 0)
  else if code = 0x300 then some (BitVec.ofNat 64 (nowOf s))
  else if h : 0x400 ≤ code ∧ code < 0x404 then some (BitVec.ofNat 64 (extendAt (nowOf s) s.time.captures[code - 0x400].stamp))
  else none

/-- Keeps the instant of the first sample of an AGREE, from which R126 counts. -/
def noteSample (t : Nat) (l : LaneId) (s : State) : State :=
  onExecs (fun es => es.map fun e =>
    if e.agreeSince.isNone ∧ (e.lanes.any fun c => c.lane == l && c.waiting.isSome) = true then { e with agreeSince := some t } else e) s

end Sys2Proof.Machine
end

