-- ==== Sys2Proof/Machine/Image.lean ====
section
/-! DEFINITION. The two copies of a tag and what is written to them: pending writes, commits, host writes, forces
(R43, R47, R48, R112 to R115, R488, R489), and slots as bytes. -/

namespace Sys2Proof.Machine

open Sys2Proof

/-! ### Quality and flags, R43 -/

def qGood : W16 := 0xC000
def qNoData : W16 := 0x0400
def qStale (sub : Nat) : W16 := BitVec.ofNat 16 (0x4100 + sub)
def qSubstituted (sub : Nat) : W16 := BitVec.ofNat 16 (0x0200 + sub)
def qNode (status : Nat) : W16 := if status = 0 then qGood else BitVec.ofNat 16 (0x4300 + status)
def qChannelBad : W16 := 0x0500
def qChannelUncertain : W16 := 0x4500

def fForced : Nat := 0
def fSubstituted : Nat := 1
def fStale : Nat := 2
def fNoData : Nat := 3
def fHostWritten : Nat := 4

def originCode : Origin → Nat
  | .computed => 0
  | .remote => 1
  | .channel => 2

/-- ORIGIN and PUBLISHED, from the program. -/
def declFlags (d : TagDecl) : Nat := originCode d.origin * 2 ^ 14 + flag 13 d.published

def slotFlags (d : TagDecl) (stale subst noData host forced : Bool) : W16 :=
  BitVec.ofNat 16 (declFlags d + flag fStale stale + flag fSubstituted subst + flag fNoData noData +
    flag fHostWritten host + flag fForced forced)

def hasFlag (f : W16) (n : Nat) : Bool := f.getLsbD n

def setFlag (f : W16) (n : Nat) (b : Bool) : W16 :=
  if b then f ||| BitVec.ofNat 16 (2 ^ n) else f &&& ~~~ BitVec.ofNat 16 (2 ^ n)

/-- A new tag: an input waits for data with CLASS BAD; any other takes its declared value (R109). Both copies carry
the epoch of the step that creates it. -/
def newTag (d : TagDecl) (epoch : Nat) : Tag :=
  let inp := isInput d
  let c : SlotCopy :=
    { value := d.initial, srcTs := 0, quality := if inp then qNoData else qGood,
      flags := slotFlags d false false inp false false, age := 0, epoch := epoch, mark := .committed }
  { decl := d, a := c, b := c, staleCommits := 0, lastArrival := none, lastTaken := none, firstCommit := none }

/-! ### Choosing and replacing a copy -/

/-- The older copy, a void one first (R48, R488). -/
def olderIsB (t : Tag) : Bool :=
  if t.a.mark = .void then false
  else if t.b.mark = .void then true
  else if t.a.mark = .pending then false
  else if t.b.mark = .pending then true
  else decide (t.b.epoch < t.a.epoch)

def putCopy (isB : Bool) (c : SlotCopy) (t : Tag) : Tag := if isB then { t with b := c } else { t with a := c }

def getCopy (isB : Bool) (t : Tag) : SlotCopy := if isB then t.b else t.a

/-- The newest committed copy. -/
def newest (t : Tag) (epoch : Nat) : SlotCopy := (copyAt t epoch).getD (earliestCopy t)

def onTag (i : Nat) (g : Tag → Tag) (s : State) : State := onImg (fun im => { im with tags := tmod i g im.tags }) s

/-- A lane's voted write lands with a pending mark (R48); a full write clears poison (R14). -/
def landPending (i : Nat) (v : W64) (tick : Nat) (s : State) : State :=
  match tget i s.img.tags with
  | none => s
  | some t =>
    let isB := olderIsB t
    let c : SlotCopy :=
      { value := v, srcTs := tick, quality := qGood, flags := slotFlags t.decl false false false false false, age := 0,
        epoch := (getCopy isB t).epoch, mark := .pending }
    clearPoison (slotAddress i isB) 32 (onTag i (putCopy isB c) s)

/-! ### Forces -/

/-- Records the value that a commit would have written without the force. -/
def setWouldBe (i : Nat) (v : W64) (s : State) : State :=
  onImg (fun im => { im with forces := im.forces.map fun f => if f.tag = i then { f with wouldBe := some v } else f }) s

/-- Commits a copy of tag i at an epoch; a forced tag takes the force's value and FORCED (R113, R114). -/
def commitCopy (i : Nat) (c : SlotCopy) (epoch : Nat) (s : State) : State :=
  match tget i s.img.tags with
  | none => s
  | some t =>
    let isB := olderIsB t
    let f := forceOf s i
    let c := { c with epoch := epoch, mark := .committed, flags := setFlag c.flags fForced f.isSome,
                      value := match f with
                        | some x => x.value
                        | none => c.value }
    clearPoison (slotAddress i isB) 32 (onTag i (putCopy isB c) s)

/-- A computed value is committed at its task's step. -/
def commitComputed (i : Nat) (v : W64) (tick epoch : Nat) (s : State) : State :=
  match tget i s.img.tags with
  | none => s
  | some t =>
    let c : SlotCopy :=
      { value := v, srcTs := tick, quality := qGood, flags := slotFlags t.decl false false false false false, age := 0,
        epoch := epoch, mark := .committed }
    commitCopy i c epoch (if (forceOf s i).isSome then setWouldBe i v s else s)

/-! ### Host writes, R47, R113, R115, R489 -/

/-- The copy that a host value takes: the one the same step commits, else not the one that an execution in progress
holds, else the older. -/
def hostCopyIsB (s : State) (t : Tag) (stepEpoch : Nat) : Bool :=
  if t.a.mark = .committed ∧ t.a.epoch = stepEpoch then false
  else if t.b.mark = .committed ∧ t.b.epoch = stepEpoch then true
  else
    let running := s.ctl.execs.find? fun e => some e.task == t.decl.writer && (e.phase == .running || e.phase == .preempted || e.phase == .ended)
    match running with
    | some e =>
      if t.a.mark = .pending then true
      else if t.b.mark = .pending then false
      else !copyIsB t e.baseEpoch
    | none => olderIsB t

/-- Writes a host value into tag i at the step that produces `epoch` (R47); on a forced tag it sets the would-be value
only (R115). -/
def hostWrite (i : Nat) (v : W64) (epoch : Nat) (s : State) : State :=
  match tget i s.img.tags with
  | none => s
  | some t =>
    if (forceOf s i).isSome then setWouldBe i v s
    else
      let isB := hostCopyIsB s t epoch
      let c : SlotCopy :=
        { value := v, srcTs := nowOf s, quality := qGood, flags := slotFlags t.decl false false false true false, age := 0,
          epoch := epoch, mark := .committed }
      clearPoison (slotAddress i isB) 32 (onTag i (putCopy isB c) s)

/-- Sets a force at a step; on a tag with no writer task it applies at once (R113). Its would-be value there is the
tag's current value, also where no IMG.WRITE has ever been made, for which R113 names none: DESIGN CHOICE
(notes/assumptions/76.md). -/
def applyForce (i : Nat) (v : W64) (epoch : Nat) (s : State) : State :=
  match tget i s.img.tags with
  | none => s
  | some t =>
    let cur := newest t epoch
    let old := forceOf s i
    let wb := match old with
      | some f => f.wouldBe
      | none => if t.decl.writer.isNone then some cur.value else none
    let f : Force := { tag := i, type := t.decl.type, value := v, wouldBe := wb, epochSet := epoch }
    let s := onImg (fun im => { im with forces := insertBy (fun x => x.tag) f (im.forces.filter fun x => x.tag != i) }) s
    if t.decl.writer.isNone then
      let isB := hostCopyIsB s t epoch
      clearPoison (slotAddress i isB) 32
        (onTag i (putCopy isB { cur with value := v, flags := setFlag cur.flags fForced true, epoch := epoch, mark := .committed }) s)
    else s

/-- Clears a force. The committed value stays until the tag's next commit; a tag with no writer task is committed by
host changes only, and takes its FORCED bit off at once (notes/assumptions/6.md). -/
def clearForce (i : Nat) (epoch : Nat) (s : State) : State :=
  let had := (forceOf s i).isSome
  let s := onImg (fun im => { im with forces := im.forces.filter fun x => x.tag != i }) s
  match tget i s.img.tags with
  | some t =>
    if had ∧ t.decl.writer = none then
      let cur := newest t epoch
      let isB := hostCopyIsB s t epoch
      clearPoison (slotAddress i isB) 32
        (onTag i (putCopy isB { cur with flags := setFlag cur.flags fForced false, epoch := epoch, mark := .committed }) s)
    else s
  | none => s

/-! ### Slots as images and bytes -/

def slotImage (i : Nat) (t : Tag) (c : SlotCopy) : SlotImage :=
  { tag := i, value := c.value, srcTs := c.srcTs, quality := c.quality, flags := c.flags, writer := t.decl.writer,
    type := t.decl.type, node := if t.decl.origin = .remote then t.decl.node else 0,
    point := if t.decl.origin = .computed then 0 else t.decl.point, age := c.age }

/-- Takes the slot fields of an image into a copy committed at an epoch. -/
def copyOfImage (x : SlotImage) (epoch : Nat) : SlotCopy :=
  { value := x.value, srcTs := x.srcTs, quality := x.quality, flags := x.flags, age := x.age, epoch := epoch, mark := .committed }

end Sys2Proof.Machine
end

