-- ==== Sys2Proof/Machine/Snapshot.lean ====
section
/-! DEFINITION. The snapshot of an execution: what is latched at the tick, what the commit takes for each input tag and
each foreign tag, and the manifest of the commit (R37 to R46, R148, R246, R260, R262, R280, R281, R297). -/

namespace Sys2Proof.Machine

open Sys2Proof

/-! ### Latching at the tick -/

/-- Quality of an AIO reading (R281). -/
def aioQuality (s : State) (c : Fin 8) (v : W64) : W16 :=
  let mode := aioModeOf s c
  let below (n : Nat) : Bool := lessReal v (microAmp n)
  let above (n : Nat) : Bool := lessReal (microAmp n) v
  if (mode = 4 ∧ above 24500 = true) ∨ (mode = 5 ∧ above 10500 = true) then qChannelBad
  else if mode = 4 ∧ ne43 s c = true then
    if !above 3600 || !below 21000 then qChannelBad
    else if below 3800 || above 20500 then qChannelUncertain
    else qGood
  else qGood

/-- Bytes that a type takes in a CAN frame (R297); a BOOL takes bit 0 of one byte. -/
def canBytes (ty : ValType) : Nat := (typeWidth ty + 7) / 8

/-- The value of a tag bound to a map slot of a CAN channel (R297). -/
def mapSample (s : State) (i : Nat) (d : TagDecl) : Option ChannelSample :=
  let ch : Fin 2 := if d.point / 4096 = 9 then 1 else 0
  let slot : Fin 64 := ⟨d.point / 64 % 64, Nat.mod_lt _ (by decide)⟩
  match s.can[ch].slots[slot] with
  | none => none
  | some r =>
    let first := d.point % 64
    let len := canBytes d.type
    let bytes := (r.frame.data.drop first).take len
    let big := bitAt (cfg s (P.canMapBig ch.val)) slot.val
    let raw := if big then leNat bytes.reverse else leNat bytes
    some (if first + len ≤ r.frame.data.length then
        { tag := i, value := some (encodeVal d.type (BitVec.ofNat 64 raw)), sampleTime := r.time, quality := qGood, arrival := some r.time }
      else { tag := i, value := none, sampleTime := r.time, quality := qNoData, arrival := some r.time })

/-- The sample of an on-module input tag at the latch of a tick. -/
def sampleOf (s : State) (tick : Nat) (i : Nat) (d : TagDecl) : Option ChannelSample :=
  let code := d.point
  let lost : ChannelSample := { tag := i, value := none, sampleTime := tick, quality := qChannelBad, arrival := none }
  if s.field.fieldLost then some lost
  else if h : code < 16 then
    some { tag := i, value := some (if s.field.received.debounced[code] then 1 else 0), sampleTime := s.field.sampleTime,
           quality := qGood, arrival := none }
  else if h : 0x100 ≤ code ∧ code < 0x108 then
    let c : Fin 8 := ⟨code - 0x100, by omega⟩
    let v := s.field.received.readings[c]
    some { tag := i, value := some (convert .real64 d.type v), sampleTime := s.field.received.converted[c],
           quality := aioQuality s c v, arrival := none }
  else if h : 0x200 ≤ code ∧ code < 0x204 then
    some { tag := i, value := some (if s.field.fi[code - 0x200].level then 1 else 0), sampleTime := tick, quality := qGood, arrival := none }
  else if 0x8000 ≤ code then mapSample s i d
  else none

/-- Input tags that task k commits. -/
def inputTags (s : State) (k : TaskId) : Tbl Tag := s.img.tags.filter fun p => isInput p.2.decl && p.2.decl.writer == some k

def channelTags (s : State) (k : TaskId) : Tbl Tag := (inputTags s k).filter fun p => p.2.decl.origin == .channel

/-- Nodes that the remote input tags of task k name, rising. -/
def nodesRead (s : State) (k : TaskId) : List Nat :=
  ((inputTags s k).filter fun p => p.2.decl.origin == .remote).foldl (fun m p => insertSorted p.2.decl.node m) []

/-- Landing-slot buffers latched at a tick: for each node that the task reads the latest complete one (R39). -/
def latchSlots (s : State) (k : TaskId) : Tbl LandedBarge :=
  let nodes := nodesRead s k
  s.net.nodes.filterMap fun p => if nodes.contains p.1 then p.2.landing.getLast?.map fun b => (p.1, b) else none

/-- Arrivals as they stand at the tick, for the absence of R46. -/
def latchArrivals (s : State) (k : TaskId) : Tbl Nat :=
  (inputTags s k).filterMap fun p => p.2.lastArrival.map fun a => (p.1, a)

/-- The code of a task in the running program. -/
def codeOf (s : State) (k : TaskId) : Option TaskCode :=
  match s.ctl.running with
  | some p => p.codes.find? fun c => c.task == k
  | none => none

/-! ### Input tags at the commit, R44 to R46, R186 -/

/-- Age in µs of a source timestamp at the tick. -/
def ageAt (tick src : Nat) : Nat := min ((tick - src) / 1000) 0xFFFFFFFF

def sectionTypeOf : ValType → Nat
  | .bool => 1
  | .int16 | .uint16 => 2
  | .int32 | .uint32 => 3
  | .real32 => 4
  | .real64 => 5
  | _ => 0

/-- The value that a barge carries for a tag's point. -/
def pointValue (b : LandedBarge) (d : TagDecl) : Option W64 :=
  (b.points.find? fun p => p.1 == d.point && p.2.1 == sectionTypeOf d.type).map fun p => encodeVal d.type p.2.2

def pointStatus (b : LandedBarge) (d : TagDecl) : Nat :=
  match b.status.find? fun p => p.1 == d.point with
  | some p => p.2.toNat
  | none => 0

/-- Input timeout in ns: of the node, or of the CAN channel's map slots (R46, R297). -/
def inputTimeout (s : State) (d : TagDecl) : Option Nat :=
  if d.origin = .remote then (nodeEntry s d.node).map fun i => usToNs (cfg s (P.nodeTimeout i))
  else if 0x8000 ≤ d.point then some (usToNs (cfg s (P.canMapTimeout (if d.point / 4096 = 9 then 1 else 0))))
  else none

/-- What a commit finds for an input tag: a value with its source timestamp and quality from the latched barge or
sample, whether it is new and carries the point's value, the arrival of the last barge that carried the point, and of the one taken. -/
structure Found where
  value : Option (W64 × Nat × W16)
  fresh : Bool
  carried : Bool
  arrival : Option Nat
  taken : Option Nat

def later (x y : Option Nat) : Option Nat :=
  match x, y with
  | some a, some b => some (max a b)
  | some a, none => some a
  | none, y => y

/-- x is an instant later than y, or y is none. -/
def after (x y : Option Nat) : Bool :=
  match x, y with
  | some a, some b => decide (b < a)
  | some _, none => true
  | none, _ => false

/-- A remote input tag: new where the barge that the commit takes arrived after the one last taken (R40). -/
def findRemote (e : Exec) (i : Nat) (t : Tag) : Found :=
  let none_ : Found := { value := none, fresh := false, carried := false, arrival := tget i e.arrivals, taken := t.lastTaken }
  match tget t.decl.node e.slots with
  | none => none_
  | some b =>
    match pointValue b t.decl with
    | none => none_
    | some v =>
      { value := some (v, b.sampleTime, qNode (pointStatus b t.decl)), fresh := after (some b.arrival) t.lastTaken, carried := true,
        arrival := later (some b.arrival) (tget i e.arrivals), taken := later (some b.arrival) t.lastTaken }

def findChannel (e : Exec) (i : Nat) (t : Tag) (old : SlotCopy) : Found :=
  match e.samples.find? fun x => x.tag == i with
  | none => { value := none, fresh := false, carried := false, arrival := t.lastTaken, taken := t.lastTaken }
  | some x =>
    let fresh := match x.arrival with
      | none => true
      | some _ => after x.arrival t.lastTaken
    { value := some (x.value.getD old.value, if x.value.isSome then x.sampleTime else old.srcTs, x.quality),
      fresh := fresh, carried := x.value.isSome, arrival := later x.arrival t.lastTaken, taken := later x.arrival t.lastTaken }

/-- The slot fields that a commit gives an input tag, with the tag's counters (R44 to R46, R113, R114). Absence and the
first commit count at the tick T of the execution; NO_DATA stays beside SUBSTITUTED whatever the substitute, and a tag
both stale and substituted has both flags and the reason SUBSTITUTED (DESIGN CHOICE, notes/assumptions/67.md). A
substituted tag stays so until a new barge carries its point. -/
def commitInput (s : State) (e : Exec) (i : Nat) (t : Tag) : ViewEntry × Tag :=
  let d := t.decl
  let old := newest t s.img.epoch
  let force := forceOf s i
  let held := match force with
    | some f => f.wouldBe.getD old.value
    | none => old.value
  let found := if d.origin = .remote then findRemote e i t else findChannel e i t { old with value := held }
  let first := t.firstCommit.getD e.tick
  let misses := if found.fresh then 0 else t.staleCommits + 1
  let stale := decide (e.staleLimit ≤ misses)
  let since := match found.arrival with
    | some a => max a first
    | none => first
  let absent := match inputTimeout s d with
    | some lim => !found.fresh && (hasFlag old.flags fSubstituted || decide (lim < e.tick - since))
    | none => false
  let noData := hasFlag old.flags fNoData && !(found.fresh && found.carried)
  let (v0, src, q0) := match found.value with
    | some x => x
    | none => (held, old.srcTs, old.quality)
  let sub := q0.toNat % 256
  let v := if absent && !d.substIsLast then d.initial else v0
  let q := if absent then qSubstituted sub else if stale then qStale sub else q0
  let view : ViewEntry :=
    { value := match force with
        | some f => f.value
        | none => v,
      srcTs := src, quality := q, flags := slotFlags d stale absent noData false force.isSome, age := ageAt e.tick src,
      wouldBe := if force.isSome then some v else none }
  (view, { t with staleCommits := misses, lastArrival := later found.taken t.lastArrival, lastTaken := found.taken, firstCommit := some first })

/-- A value entry of a manifest as the standby commits it (R148). -/
def viewOfManifest (x : ManifestValue) : ViewEntry :=
  { value := x.value, srcTs := x.srcTs, quality := x.quality, flags := x.flags, age := x.age, wouldBe := none }

def viewOfCopy (c : SlotCopy) : ViewEntry :=
  { value := c.value, srcTs := c.srcTs, quality := c.quality, flags := c.flags, age := c.age, wouldBe := none }

/-! ### The commit -/

def manifestEntry (e : Exec) (i : Nat) : Option ViewEntry :=
  match e.manifest with
  | some m => (m.values.find? fun v => v.tag == i).map viewOfManifest
  | none => none

/-- Foreign tags of a task's view (R37): the copy at the base epoch, else the earliest, else what the manifest says. -/
def foreignView (s : State) (e : Exec) (i : Nat) : Option (ViewEntry × Bool) :=
  match tget i s.img.tags with
  | none => none
  | some t =>
    match manifestEntry e i with
    | some v => some (v, false)
    | none =>
      match copyAt t e.baseEpoch with
      | some c => some (viewOfCopy c, false)
      | none => some (viewOfCopy (earliestCopy t), true)

/-- The step sequencer reads a poisoned slot, an input tag's last copy or a foreign tag, or a poisoned landing buffer
(R15). -/
def commitPoisoned (s : State) (e : Exec) : Bool :=
  !s.basin.poison.isEmpty &&
  (((inputTags s e.task).any fun p => poisonedAt s (slotAddress p.1 (copyIsB p.2 s.img.epoch))) ||
   (match codeOf s e.task with
    | some c => c.view.any fun i => match tget i s.img.tags with
      | some t => poisonedAt s (slotAddress i (copyIsB t e.baseEpoch))
      | none => false
    | none => false) ||
   (e.slots.any fun p => (nodesRead s e.task).contains p.1 && bargePoisoned s p.1 p.2))

/-- Builds the view of the execution, with the tags whose counters the commit advances. -/
def buildView (s : State) (e : Exec) : Tbl ViewEntry × Tbl Tag :=
  let ins : List (Nat × ViewEntry × Tag) := (inputTags s e.task).map fun p =>
    let r := commitInput s e p.1 p.2
    let v := if p.2.decl.origin = .channel then (manifestEntry e p.1).getD r.1 else r.1
    (p.1, v, r.2)
  let foreign : Tbl ViewEntry := match codeOf s e.task with
    | some c => c.view.filterMap fun i => (foreignView s e i).map fun v => (i, v.1)
    | none => []
  let own : Tbl ViewEntry := ins.map fun p => (p.1, p.2.1)
  (own.foldl (fun m p => tput p.1 p.2 m) (foreign.foldl (fun m p => tput p.1 p.2 m) []), ins.map fun p => (p.1, p.2.2))

def valueEntry (i : Nat) (v : ViewEntry) : ManifestValue :=
  { tag := i, quality := v.quality, flags := v.flags, value := v.value, srcTs := v.srcTs, age := v.age }

/-- The manifest of a commit (R148): the barge taken for each node that the task reads, every on-module input, and every
foreign tag taken from a copy newer than the base epoch. -/
def manifestOf (s : State) (e : Exec) (view : Tbl ViewEntry) : Manifest :=
  let nodes := nodesRead s e.task
  let seqs := nodes.map fun n => (n, match tget n e.slots with
    | some b => b.sequence
    | none => 0)
  let ins := (channelTags s e.task).filterMap fun p => (tget p.1 view).map fun v => valueEntry p.1 v
  let foreign := match codeOf s e.task with
    | some c => c.view.filterMap fun i => match foreignView s e i with
      | some (v, true) => some (valueEntry i v)
      | _ => none
    | none => []
  { task := e.task, noBargeAny := seqs.any fun p => p.2 == 0, version := e.version, tick := e.tick,
    baseEpoch := e.baseEpoch, nodes := seqs, values := sortBy (fun v => v.tag) (ins ++ foreign) }

/-- Marks the buffers that a commit takes, for the overwritten-barge counter (R41). -/
def markCommitted (s : State) (e : Exec) : State :=
  let nodes := nodesRead s e.task
  let mark (n : Nat) (x : Node) : Node := match nodes.contains n, tget n e.slots with
    | true, some b =>
      { x with landing := x.landing.map fun y => if y.session = b.session ∧ y.sequence = b.sequence then { y with committed := true } else y,
               superseded := x.superseded.filter fun y => y != (b.session, b.sequence) }
    | _, _ => x
  onNet (fun n => { n with nodes := tmap mark n.nodes }) s

/-- An execution has latched the barge of a node and may still commit it. -/
def awaitsCommit (s : State) (node : Nat) (session sequence : Nat) : Bool :=
  s.ctl.execs.any fun e => (e.phase == .latched || e.phase == .committing) && (match tget node e.slots with
    | some x => x.session == session && x.sequence == sequence
    | none => false)

/-- Barges of a node that were superseded and that no execution will commit any more. -/
def lostBarges (s : State) (node : Nat) (n : Node) : List (Nat × Nat) :=
  n.superseded.filter fun b => !awaitsCommit s node b.1 b.2

/-- The overwritten-barge counter of a node: each barge that no task has committed nor can commit (R41). -/
def overwrittenCount (s : State) (node : Nat) (n : Node) : Nat := min 0xFFFFFFFF (n.overwritten + (lostBarges s node n).length)

end Sys2Proof.Machine
end

