-- ==== Sys2Proof/Machine/Publish.lean ====
section
/-! DEFINITION. What a step commits and publishes: the execution's results (R19, R48), output barges (R51, R54, R186,
R234), and the mirror record (R28, R153, R154). -/

namespace Sys2Proof.Machine

open Sys2Proof

/-! ### Committing an execution -/

/-- Tags that the execution has written, with the last value voted for each, ascending. -/
def writtenTags (e : Exec) : Tbl W64 :=
  e.landed.foldl (fun m x => match x.target with
    | .tag i => tput i x.data m
    | _ => m) []

/-- Instances that the execution has changed, with their last record, ascending. -/
def writtenInsts (e : Exec) : Tbl Inst :=
  e.landed.foldl (fun m x => match x.target, x.record with
    | .inst n, some r => tput n r m
    | _, _ => m) []

/-- An input of the snapshot becomes the committed value of its tag. -/
def commitView (i : Nat) (v : ViewEntry) (epoch : Nat) (s : State) : State :=
  match tget i s.img.tags with
  | none => s
  | some t =>
    let isB := olderIsB t
    let c : SlotCopy :=
      { value := v.value, srcTs := v.srcTs, quality := v.quality, flags := v.flags, age := v.age, epoch := epoch, mark := .committed }
    let s := match v.wouldBe with
      | some w => setWouldBe i w s
      | none => s
    clearPoison (slotAddress i isB) 32 (onTag i (putCopy isB c) s)

/-- The staging copy holds the record as a carried one: same number, kind and task (R104, R108). -/
def carries (staging : Tbl Inst) (n : Nat) (r : Inst) : Bool :=
  match tget n staging with
  | some x => x.kind == r.kind && x.task == r.task
  | none => false

/-- Instance writes land in the STATE copy and, for a carried instance, in the staging copy too, from the moment it
holds it (R104). -/
def commitInst (n : Nat) (r : Inst) (s : State) : State :=
  let s := clearPoison (instAddress s n) 32 (onCtl (fun c => { c with insts := tput n r c.insts }) s)
  match s.ctl.exchange with
  | none => s
  | some x =>
    if carries x.staging n r then
      clearPoison (stagingAddress s x.staging n) 32
        (onCtl (fun c => { c with exchange := some { x with staging := tput n r x.staging } }) s)
    else s

/-- The results of an execution and the inputs of its snapshot are committed at an epoch (R19 step 2). -/
def commitExec (e : Exec) (epoch : Nat) (s : State) : State :=
  let ins := (inputTags s e.task).filterMap fun p => (tget p.1 e.view).map fun v => (p.1, v)
  let s := ins.foldl (fun s p => commitView p.1 p.2 epoch s) s
  let s := (writtenTags e).foldl (fun s p => commitComputed p.1 p.2 e.tick epoch s) s
  (writtenInsts e).foldl (fun s p => commitInst p.1 p.2 s) s

/-- The value that a commit leaves in a tag: a forced tag's force. -/
def committedValue (s : State) (i : Nat) (v : W64) : W64 :=
  match forceOf s i with
  | some f => f.value
  | none => v

/-- CRC-64 over the (tag index, value) pairs that an execution committed (R153). -/
def writeDigest (s : State) (e : Exec) : W64 :=
  crc64 ((writtenTags e).flatMap fun p => le4 p.1 ++ le8 (committedValue s p.1 p.2).toNat)

/-! ### Output barges -/

/-- Output points of nodes that task k writes: node, point, type and committed value. -/
def outputPoints (s : State) (k : TaskId) (epoch : Nat) : List (Nat × Nat × ValType × W64) :=
  (s.img.tags.filter fun p => isNodeOutput p.2.decl && p.2.decl.writer == some k).map fun p =>
    (p.2.decl.node, p.2.decl.point, p.2.decl.type, (newest p.2 epoch).value)

/-- Bits packed first point first, the most significant bit of each byte first. -/
def packBits : List Bool → List Byte
  | b0 :: b1 :: b2 :: b3 :: b4 :: b5 :: b6 :: b7 :: r =>
    byteOf (flag 7 b0 + flag 6 b1 + flag 5 b2 + flag 4 b3 + flag 3 b4 + flag 2 b5 + flag 1 b6 + flag 0 b7) :: packBits r
  | [] => []
  | r => [byteOf ((r.zipIdx.map fun p => flag (7 - p.2) p.1).foldl (· + ·) 0)]

def sectionData (type : Nat) (vs : List W64) : List Byte :=
  match type with
  | 1 => packBits (vs.map fun v => v.getLsbD 0)
  | 2 => vs.flatMap fun v => be2 (v.toNat % 2 ^ 16)
  | 5 => vs.flatMap fun v => be8 v.toNat
  | _ => vs.flatMap fun v => be4 (v.toNat % 2 ^ 32)

/-- Consecutive points of one section type, in rising order of point. -/
def groupPoints : List (Nat × Nat × W64) → List (Nat × Nat × List W64)
  | [] => []
  | (p, ty, v) :: r =>
    match groupPoints r with
    | (q, ty', vs) :: rest => if ty = ty' ∧ q = p + 1 then (p, ty, v :: vs) :: rest else (p, ty, [v]) :: (q, ty', vs) :: rest
    | [] => [(p, ty, [v])]

def outputSections (points : List (Nat × ValType × W64)) : List BargeSection :=
  (groupPoints (sortBy (fun p => p.1) (points.map fun p => (p.1, sectionTypeOf p.2.1, p.2.2)))).map fun g =>
    { type := g.2.1, count := g.2.2.length, first := g.1, data := sectionData g.2.1 g.2.2 }

/-- Nodes that the points name, rising. -/
def nodesOf (points : List (Nat × Nat × ValType × W64)) : List Nat :=
  points.foldl (fun m p => insertSorted p.1 m) []

/-- The output barge of task k for one node. -/
def outputBarge (s : State) (k : TaskId) (release : Nat) (node : Nat) (points : List (Nat × Nat × ValType × W64)) : Barge :=
  { bargeBase s .output with
    task := k.val, node := node, release := release,
    sections := outputSections ((points.filter fun p => p.1 == node).map fun p => p.2) }

/-- A BARGE_SEND unit of task k holds the barge until the instant before its release (R234). -/
def holdInstant (s : State) (k : TaskId) (release : Nat) : Option (TaskId × Nat) :=
  match s.time.triggers.toList.find? fun u => u.armed && (match u.setup with
      | some x => x.action == .bargeSend && x.channel == k.val
      | none => false) with
  | some u =>
    match u.setup with
    | some x => if release - x.argument.toNat ≤ nowOf s then none else some (k, release - x.argument.toNat)
    | none => none
  | none => none

/-- A publication waits for its acknowledgement (R28, R202). -/
def noteUnacked (node : Nat) (k : TaskId) (epoch : Nat) (s : State) : State :=
  onNet (fun n => { n with nodes := tmod node (fun x => { x with unacked := x.unacked ++ [{ task := k, epoch := epoch }] }) n.nodes }) s

/-- Every output point of the task is published, one barge a node (R51). -/
def publishNodes (k : TaskId) (release : Nat) (s : State) : State :=
  let points := outputPoints s k s.img.epoch
  (nodesOf points).foldl (fun s node =>
    noteUnacked node k s.img.epoch (sendToNode (holdInstant s k release) (outputBarge s k release node points) s)) s

/-- Last complete publication: the highest epoch with every barge up to it acknowledged (R28). -/
def lastComplete (s : State) : Nat :=
  let open_ := s.net.nodes.flatMap fun p => p.2.unacked.map fun u => u.epoch
  match open_ with
  | [] => s.img.epoch
  | x :: r => (r.foldl min x) - 1

/-! ### The mirror record -/

def entryRank : MirrorEntry → Nat
  | .inst n _ => 1 * 2 ^ 40 + n
  | .slot x => 2 * 2 ^ 40 + x.tag
  | .forceSet f => 3 * 2 ^ 40 + f.tag
  | .forceClear t => 4 * 2 ^ 40 + t
  | .journal e => 5 * 2 ^ 40 + e.id
  | .exchange v _ _ => 6 * 2 ^ 40 + v
  | .setting p _ => 7 * 2 ^ 40 + p
  | .undefinedType c => c * 2 ^ 40

/-- Bytes of a record on the tow line: 48 of header, 8 and the padded data for each entry (R153, R154). -/
def entryBytes : MirrorEntry → Nat
  | .inst _ _ | .slot _ | .forceSet _ => 40
  | .forceClear _ => 8
  | .journal _ => 72
  | .exchange _ _ _ => 24
  | .setting _ v => 16 + (v.length + 7) / 8 * 8
  | .undefinedType _ => 8

def recordBytes (r : MirrorRecord) : Nat := 48 + (r.entries.map entryBytes).foldl (· + ·) 0

/-- Slots of every tag that a task writes, as committed. -/
def fullSlots (s : State) (k : TaskId) : List MirrorEntry :=
  (s.img.tags.filter fun p => p.2.decl.writer == some k).map fun p => .slot (slotImage p.1 p.2 (newest p.2 s.img.epoch))

def partnerNap (s : State) : Bool :=
  match s.pair.partner with
  | some h => h.power == 2
  | none => false

/-- Drops the oldest retained records beyond 16 MiB (R147). -/
def boundRetained : Nat → List TowFrame → List TowFrame
  | 0, fs => fs
  | k + 1, fs =>
    let total := (fs.map fun f => match f.payload with
      | .mirror r => recordBytes r
      | _ => 0).foldl (· + ·) 0
    if total ≤ 16777216 then fs else boundRetained k (fs.drop 1)

/-- Whether mirror records go to the partner: it is in `STANDBY`, or it is catching up (R141, R153). -/
def mirrors (s : State) : Bool := partnerStandby s || s.tow.serving || !s.pair.mirrorAlone

/-- The entries of a record in full form: the values of the task's tags are added (R154). -/
def fullEntries (k : Option TaskId) (entries : List MirrorEntry) (s : State) : List MirrorEntry :=
  let slots := match k with
    | some i => fullSlots s i
    | none => []
  let written (x : MirrorEntry) : Bool := match x with
    | .slot a => !(entries.any fun y => match y with
        | .slot b => a.tag == b.tag
        | _ => false)
    | _ => true
  entries ++ slots.filter written

/-- The bytes that a step's record takes in full form, kept for 10 s (R172). -/
def noteFullForm (r : MirrorRecord) (s : State) : State :=
  let recent := s.tow.fullFormBytes.filter fun p => decide (nowOf s < p.1 + 10000000000)
  onTow (fun t => { t with fullFormBytes := recent ++ [(nowOf s, recordBytes r)] }) s

/-- Force entries of a record: every force that differs from what the partner holds, and the forces that the step
cleared for good (R117, R154). -/
def forceEntries (entries : List MirrorEntry) (s : State) : List MirrorEntry :=
  let held (i : Nat) : Bool := s.img.forces.any fun f => f.tag == i
  (entries.filter fun x => match x with
    | .forceClear i => !held i
    | .forceSet _ => false
    | _ => true) ++
  (s.img.forces.filter fun f => !s.img.forcesSent.contains f).map fun f => .forceSet f

/-- The journal entries that have changed since the last record, as they stand after the step (R340). -/
def journalEntries (s : State) : List MirrorEntry :=
  s.keeper.unsent.filterMap fun i => (jget s i).map fun e => MirrorEntry.journal e

/-- What the partner holds after a record, or takes by catch-up where none is sent. -/
def noteSent (s : State) : State :=
  onImg (fun im => { im with forcesSent := im.forces }) (onKeeper (fun k => { k with unsent := [] }) s)

/-- A host change was applied in the step: a tag that it wrote, a force, a setting, an exchange or the change's entry (R153). -/
def isHostChange : MirrorEntry → Bool
  | .inst _ _ | .undefinedType _ => false
  | _ => true

/-- The record of the step just taken. -/
def mirrorStep (k : Option TaskId) (tick version : Nat) (digest : W64) (entries : List MirrorEntry) (s : State) : State :=
  let full := match k with
    | some i => s.ctl.tasks[i].sendFull || partnerNap s || s.tow.serving
    | none => false
  let entries := forceEntries entries s ++ journalEntries s
  let all := fullEntries k entries s
  let s := onNet (fun n => { n with lastComplete := lastComplete s }) (noteSent s)
  let r : MirrorRecord :=
    { epoch := s.img.epoch, tick := tick, lastComplete := lastComplete s, claim := s.pair.claim, task := k, fullForm := full,
      version := version, digest := digest, entries := sortBy entryRank (if full then all else entries),
      hostChanges := entries.any isHostChange, invalid := false }
  let r := { r with invalid := r.entries.any fun x => match x with
    | .slot a => match tget a.tag s.img.tags with
      | some t => poisonedAt s (slotAddress a.tag (copyIsB t s.img.epoch))
      | none => false
    | .inst n _ => poisonedAt s (instAddress s n)
    | _ => false }
  let s := noteFullForm { r with entries := all } s
  if mirrors s then
    let s := towSend (.mirror r) s
    let s := onTow (fun t => { t with retained := boundRetained t.retained.length t.retained }) s
    match k with
    | some i => onTask i (fun x => { x with sendFull := false }) s
    | none => s
  else markMirrored s.img.epoch s

/-- The step's epoch counts as mirrored where no standby takes records. -/
def settleMirror (s : State) : State := if s.pair.mirrorAlone then markMirrored s.img.epoch s else s

end Sys2Proof.Machine
end

