-- ==== Sys2Proof/Machine/Weave.lean ====
section
/-! DEFINITION. The Weave between the lanes and the Basin: the vote, halted lanes and their return, faults of the Weave
itself, and AGREE values (R92, R119 to R136). -/

namespace Sys2Proof.Machine

open Sys2Proof

/-! ### Lane roles, R120 -/

def roleOf (s : State) (l : LaneId) : LaneRole := s.ctl.weave.lanes[l].role

/-- A lane takes another role; GENERATION counts the change. -/
def setRole (l : LaneId) (r : LaneRole) (s : State) : State :=
  if roleOf s l = r then s
  else onWeave (fun w => { w with lanes := vmod w.lanes l fun x => { x with role := r }, generation := (w.generation + 1) % 256 }) s

def haltCode : HaltCause → Nat
  | .mismatch => 0
  | .selfFault => 1
  | .late => 2

/-- A lane halts in execution `i`, at entry position `pos` (R124, R126): it takes no further part in any execution in
progress, and what it has posted is compared no more. -/
def haltLane (i : Nat) (l : LaneId) (cause : HaltCause) (pos : Nat) (s : State) : State :=
  let place := (s.ctl.execs[i]?).map fun e => (e.task, e.tick, pos)
  let s := setRole l .halted (onLane l (fun x => { x with haltCause := some cause, haltedIn := place }) s)
  let s := onWear (fun w => { w with lanes := vmod w.lanes l fun x => match cause with
    | .late => { x with lates := sat32 (x.lates + 1) }
    | .selfFault => { x with selfFaults := sat32 (x.selfFaults + 1) }
    | .mismatch => x }) s
  let off (c : LaneCtx) : LaneCtx := if c.lane = l ∧ c.halted = none then { c with halted := some cause, waiting := none } else c
  onExecs (fun es => es.map fun e => { e with lanes := e.lanes.map off }) s

/-! ### Resynchronisation and replacement, R129 to R132 -/

/-- The lane begins resynchronisation, with its event, which names the execution in which the lane was halted (R130). -/
def beginResync (l : LaneId) (s : State) : State :=
  let cause := (s.ctl.weave.lanes[l].haltCause.getD .mismatch)
  let (k, tick, position) := s.ctl.weave.lanes[l].haltedIn.getD (0, 0, 0)
  let s := stage 0x0501 (srcLane l) ([byteOf (haltCode cause), byteOf k.val] ++ le8 tick ++ le2 position) s
  let s := onLane l (fun x => { x with resyncs := x.resyncs ++ [s.path.hours] }) s
  let s := onWear (fun w => { w with lanes := vmod w.lanes l fun x => { x with resyncs := sat32 (x.resyncs + 1), resyncHours := s.path.hours } }) s
  setRole l .resync s

/-- The spare replaces a lane that is due (R131, R132). -/
def replaceLane (l spare : LaneId) (s : State) : State :=
  let cause := (s.ctl.weave.lanes[l].haltCause.getD .mismatch)
  let s := abortBackground (blockLane spare) s
  let s := stage 0x0502 (srcLane l) [byteOf spare.val, byteOf (haltCode cause)] s
  let s := onLane l (fun x => { x with due := false, replacements := x.replacements + 1 }) s
  let s := onWear (fun w => { w with lanes := vmod w.lanes l fun x => { x with replaceHours := s.path.hours } }) s
  let s := onLane spare (fun x => { x with replaces := some l }) s
  checkSpares (setRole spare .loading (setRole l .spareTest s))

/-- A halted lane is due where this halt would be one resynchronisation too many, or where it was due before. -/
def dueNow (s : State) (l : LaneId) : Bool :=
  s.ctl.weave.lanes[l].due || decide (cfg s P.wearLaneResyncs ≤ countIn s s.ctl.weave.lanes[l].resyncs + 1)

/-- A lane that is due is replaced; with no spare available it is resynchronised and remains due, and LANE_NO_SPARE is
recorded each time (R131, R132). -/
def replaceDue (l : LaneId) (s : State) : State :=
  match spareLane s with
  | some p => replaceLane l p s
  | none =>
    let s := stage 0x0503 (srcLane l) [byteOf (countIn s s.ctl.weave.lanes[l].resyncs)] s
    beginResync l (onLane l (fun x => { x with due := true }) s)

/-- A HALTED lane goes on: resynchronised, or replaced where it is due. -/
def returnLane (l : LaneId) (s : State) : State := if dueNow s l then replaceDue l s else beginResync l s

/-- The execution in which a lane was halted has not reached task end. -/
def haltedStill (s : State) (l : LaneId) : Bool :=
  match s.ctl.weave.lanes[l].haltedIn with
  | some (k, tick, _) => s.ctl.execs.any fun e => e.task == k && e.tick == tick && (e.phase == .running || e.phase == .preempted)
  | none => false

/-- Every HALTED lane goes on at task end of the execution in which it was halted, or at once where it was halted after
that (R129). -/
def returnLanes (s : State) : State :=
  allLanes.foldl (fun s l => if roleOf s l = .halted ∧ haltedStill s l = false then returnLane l s else s) s

/-! ### Faults -/

/-- `LANE_DISAGREEMENT` (R124, R125). -/
def disagreement (e : Exec) (s : State) : State :=
  moduleFault .laneDisagreement (stage 0x0505 srcModule ([byteOf e.task.val] ++ le8 e.tick ++ [byteOf (takingPart e).length]) s)

/-- Fewer lanes take part than a vote needs. -/
def lanesShort (e : Exec) : Bool :=
  (e.phase == .running || e.phase == .preempted) && decide ((takingPart e).length < if e.uncompared then 1 else 2)

def checkLanes (s : State) : State :=
  match s.ctl.execs.find? lanesShort with
  | some e => disagreement e s
  | none => s

/-- The execution goes on with one lane: the one that runs, or the lowest that takes part. -/
def aloneIn (l : LaneId) (e : Exec) : Exec :=
  let part := takingPart e
  let keep := match part.find? fun c => c.lane == l with
    | some c => [c]
    | none => part.take 1
  { e with uncompared := true, lanes := keep }

/-- A restoration that the degraded run abandons is not counted in the wear ledger ("Coincidences among lanes"). -/
def uncountRestore (l : LaneId) (s : State) : State :=
  match roleOf s l with
  | .resync =>
    let s := onLane l (fun x => { x with resyncs := x.resyncs.dropLast, haltCause := none, haltedIn := none }) s
    onWear (fun w => { w with lanes := vmod w.lanes l fun x => { x with resyncs := x.resyncs - 1 } }) s
  | .loading =>
    let s := match s.ctl.weave.lanes[l].replaces with
      | some r => onLane r (fun x => { x with replacements := x.replacements - 1 }) s
      | none => s
    onLane l (fun x => { x with replaces := none }) s
  | _ => s

/-- The uncompared degraded run begins (R136). -/
def uncomparedRun (s : State) : State :=
  match allLanes.find? fun l => roleOf s l == .active with
  | none => s
  | some l =>
    let s := allLanes.foldl (fun s x =>
      if x = l ∨ roleOf s x = .spare ∨ roleOf s x = .spareTest ∨ roleOf s x = .retired then s
      else setRole x .bystander (uncountRestore x s)) s
    let s := onWeave (fun w => { w with uncompared := true }) s
    onExecs (fun es => (es.filter fun e => e.phase != .stepped).map (aloneIn l)) s

/-- `COMPARATOR_FAULT` (R134, R136), with the lane and the bit that its event names. -/
def weaveFault (cause lane bit : Nat) (s : State) : State :=
  let s := stage 0x0506 srcModule [byteOf cause, byteOf lane, byteOf bit] s
  let s := onWeave (fun w => { w with comparatorFault := true, uncorrectable := w.uncorrectable || cause == 1 }) s
  if s.mod.state = .standby ∨ (s.mod.state = .active ∧ partnerStandby s = true) then moduleFault .comparatorFault s
  else uncomparedRun s

/-- A fault of the Weave that is found at a vote: the manual names no lane and no bit for it, and its event carries a
free value there. -/
def voteFault (cause : Nat) (s : State) : State :=
  let w := (freeWord s).toNat
  weaveFault cause (w % 256) (w / 256 % 256) (draw s)

/-! ### The vote, R123, R124 -/

/-- Entries agree in every compared field; a gap in SEQ is a mismatch. -/
def entriesAgree (a b : Entry) : Bool :=
  a.kind == b.kind && a.seq == b.seq && a.target == b.target &&
    (a.kind == .sample || (a.mask == b.mask && a.data == b.data && a.record == b.record))

/-- The first position up to `p` at which a lane's entry differs from the entry that landed. -/
def firstMismatch (c : LaneCtx) (landed : List Entry) (p : Nat) : Option Nat :=
  (List.range (p + 1)).find? fun i => match c.posted[i]?, landed[i]? with
    | some a, some b => !entriesAgree a b
    | _, _ => false

/-- What a voted write does in the Basin: a tag takes it as a pending copy (R48); instance records reach the STATE
region at the step. -/
def landEntry (i : Nat) (tick : Nat) (x : Entry) (s : State) : State :=
  let s := onExecs (lmod i fun e => { e with landed := e.landed ++ [x] }) s
  match x.target with
  | .tag n => landPending n x.data tick s
  | _ => s

/-- Lanes that stopped under R98 go to HALTED, SELF_FAULT. -/
def haltStalled (i : Nat) (s : State) : State :=
  match s.ctl.execs[i]? with
  | none => s
  | some e => (takingPart e).foldl (fun s c => if c.stalled then haltLane i c.lane .selfFault c.posted.length s else s) s

/-- Lanes whose entries differ from those that landed, up to position p, go to HALTED, MISMATCH. In an uncompared run
nothing is compared (R136). -/
def haltMismatch (i p : Nat) (s : State) : State :=
  match s.ctl.execs[i]? with
  | none => s
  | some e =>
    if e.uncompared then s
    else (takingPart e).foldl (fun s c => match firstMismatch c e.landed p with
      | some q => haltLane i c.lane .mismatch q s
      | none => s) s

/-- Positions up to p that every lane taking part has posted are compared now, and release their entries (R122). -/
def noteCompared (i p : Nat) (s : State) : State :=
  onExecs (lmod i fun e =>
    let least := (takingPart e).foldl (fun m c => min m c.posted.length) (min (p + 1) e.landed.length)
    { e with compared := max e.compared (if e.uncompared then e.landed.length else least) }) s

/-- The entry that lands at position p: posted alike by two lanes, or by the one lane of an uncompared run. -/
def majority (e : Exec) (p : Nat) : Option Entry :=
  let posted := (takingPart e).filterMap fun c => c.posted[p]?
  if e.uncompared then posted.head? else posted.find? fun x => decide (2 ≤ (posted.filter (entriesAgree x)).length)

/-- Every lane that takes part has posted position p. -/
def allPosted (e : Exec) (p : Nat) : Bool := (takingPart e).all fun c => decide (p < c.posted.length)

/-- The entry at position p of execution i is voted where it is the next one. -/
def voteNext (i p : Nat) (s : State) : State :=
  match s.ctl.execs[i]? with
  | none => s
  | some e =>
    if e.phase ≠ .running ∨ p ≠ e.landed.length then s
    else
      match majority e p with
      | some x => landEntry i e.tick x s
      | none => if allPosted e p && decide (2 ≤ (takingPart e).length) then disagreement e s else s

/-- A lane halted after task end returns at once (R129); a third lane that has posted END ends its execution. -/
def settleTrailing (i p : Nat) (s : State) : State :=
  match s.ctl.execs[i]? with
  | none => s
  | some e =>
    if e.phase = .ended ∨ e.phase = .stepped then
      let s := returnLanes s
      if e.phase = .stepped ∧ e.landed.length ≤ p + 1 ∧ ((takingPart e).all fun c => c.ended) = true then onExecs (fun es => es.eraseIdx i) s else s
    else s

/-- One vote on position p of execution i. -/
def voteAt (i p : Nat) (s : State) : State :=
  settleTrailing i p (checkLanes (noteCompared i p (haltMismatch i p (voteNext i p (haltStalled i s)))))

/-- Executions of task k that have entries to vote on. -/
def votable (s : State) (k : TaskId) : List Nat :=
  (List.range s.ctl.execs.length).filter fun i => match s.ctl.execs[i]? with
    | some e => e.task == k && lanesRun e.phase
    | none => false

/-- WEAVE_VOTE: one entry position of the task's execution is judged by both comparators (R123, R124, R134). -/
def execWeaveVote (t : Nat) (k : TaskId) (position : Nat) (fault : WeaveFault) (s : State) : Host.Outcome State Fault Refusal :=
  let s := atTime t s
  let vote (s : State) : State := (votable s k).reverse.foldl (fun s i => voteAt i position s) s
  .next (if votable s k = [] then s
    else match fault with
    | .none => vote s
    | .corrected => vote (onWeave (fun w => { w with corrections := sat32 (w.corrections + 1) }) s)
    | .verdictsDiffer => voteFault 0 s
    | .uncorrectable => voteFault 1 s)

/-! ### Trailing lanes, R126 -/

def trailLimitNs (e : Exec) : Nat := usToNs e.trailLimit

/-- The lane is behind and its limit has passed: after task end, since the first sample of an AGREE, or since another
lane stalled on a full delay FIFO with entries of this execution pending that the trailing lane has not posted (R126).
The sole lane of an uncompared run trails nothing (R136). -/
def trailing (s : State) (t : Nat) (l : LaneId) (e : Exec) : Bool :=
  match (takingPart e).find? fun c => c.lane == l with
  | none => false
  | some c =>
    let afterEnd := match e.endAt with
      | some x => !c.ended && decide (x + trailLimitNs e ≤ t)
      | none => false
    let inAgree := match e.agreeSince with
      | some x => c.waiting.isNone && !c.ended && decide (x + trailLimitNs e ≤ t)
      | none => false
    let stalled (d : LaneCtx) : Bool := s.ctl.execs.any fun x => x.lanes.any fun y => y.lane == d.lane && (match y.fullSince with
      | some a => !fifoRoom s d.lane a.2 && decide (a.1 + trailLimitNs e ≤ t)
      | none => false)
    let stall := (takingPart e).any fun d => d.lane != l && decide (c.posted.length < d.posted.length) && stalled d
    !e.uncompared && (afterEnd || inAgree || stall)

/-- LANE_TRAIL_TIMEOUT: the trailing lane goes to HALTED, LATE (R126). -/
def execLaneTrailTimeout (t : Nat) (k : TaskId) (l : LaneId) (s : State) : Host.Outcome State Fault Refusal :=
  let s := atTime t s
  .next (match (votable s k).find? fun i => match s.ctl.execs[i]? with
      | some e => trailing s t l e
      | none => false with
    | none => s
    | some i =>
      match s.ctl.execs[i]? with
      | none => s
      | some e =>
        let pos := match e.lanes.find? fun c => c.lane == l with
          | some c => c.posted.length
          | none => 0
        settleTrailing i e.landed.length (checkLanes (haltLane i l .late pos s)))

/-! ### AGREE, R92, R93, R128 -/

/-- The lower of two samples in the order of R85, NaN above every number. -/
def sampleLe (ty : ValType) (x y : W64) : Bool :=
  match compareVals ty x y with
  | some .gt => false
  | some _ => true
  | none => !(isRealType ty && (realOf ty x).isNan)

/-- The value that the samples form: majority or median of three, the lower of two, the one of one. -/
def agreeOf (ty : ValType) (xs : List W64) : W64 :=
  let sorted := xs.foldr (fun x r => (r.takeWhile fun y => !sampleLe ty x y) ++ [x] ++ (r.dropWhile fun y => !sampleLe ty x y)) []
  sorted.getD ((sorted.length - 1) / 2) 0

/-- The value that a lane takes from its AGREE: a bit loads ACC, a word goes to Wd. -/
def takeAgreed (v : W64) (c : LaneCtx) : LaneCtx :=
  match c.waiting with
  | none => c
  | some (_, m, d) =>
    if m = 1 then { c with waiting := none, acc := v.getLsbD 0, fc := false }
    else { c with waiting := none, w := c.w.set d v }

/-- The active's value for AGREE `n` of a shadow execution, by ordinal and source (R93, R148). -/
def activeAgreed (e : Exec) (n source : Nat) : Option W64 :=
  (e.agreements.find? fun a => a.1 == n && a.2.1 == source).map fun a => a.2.2

/-- Every lane taking part waits in the AGREE, and its sample stands first among the lane's pending entries or behind
entries that have been voted. -/
def agreeReady (e : Exec) : Bool := e.lanes.any (fun c => c.halted.isNone && c.waiting.isSome) && (takingPart e).all fun c => c.waiting.isSome

/-- The values of the samples of the lanes that have posted the AGREE with this ordinal; one halted after it posted
counts too (R128). -/
def samplesOf (e : Exec) (n : Nat) : List W64 :=
  e.lanes.filterMap fun c => ((c.posted.filter fun x => x.kind == .sample)[n]?).map fun x => x.data

/-- Gives the agreed value to the lanes of execution i, and to the standby (R148). -/
def giveAgreed (i : Nat) (source : Nat) (v : W64) (s : State) : State :=
  match s.ctl.execs[i]? with
  | none => s
  | some e =>
    let n := e.agreed.length
    let s := onExecs (lmod i fun e => { e with lanes := e.lanes.map (takeAgreed v), agreed := e.agreed ++ [(source, v)], agreeSince := none }) s
    if s.mod.state = .active && mirrors s then
      towSend (.agreement { task := e.task, tick := e.tick, entries := [(n, source, v)] }) s
    else s

/-- The mirror record of the active's step for this execution has arrived and waits for it. -/
def recordSeen (s : State) (e : Exec) : Bool := s.tow.records.any fun r => r.task == some e.task && r.tick == e.tick

/-- A shadow execution samples its own lanes after all (R93): an agreement divergence. -/
def divergeAgree (i : Nat) (s : State) : State :=
  match s.ctl.execs[i]? with
  | none => s
  | some e =>
    match (takingPart e).head? with
    | none => s
    | some c =>
      match c.waiting with
      | none => s
      | some (source, m, _) =>
        let f : WordFields := ⟨0xF1, m, BitVec.ofNat 20 source, 0⟩
        let free := (liveSource s f).isNone
        let v := (liveSource s f).getD (freeWord s)
        let s := onTask e.task (fun x => { x with divergences := sat32 (x.divergences + 1) }) (if free then draw s else s)
        giveAgreed i source v s

/-- AGREE_VALUE_FORMED: the lanes leave their AGREE together with one value. On a standby it is the active's, or its
own lanes' where the active's path did not pass that AGREE. -/
def execAgreeValueFormed (t : Nat) (k : TaskId) (s : State) : Host.Outcome State Fault Refusal :=
  let s := atTime t s
  .next (match (votable s k).find? fun i => match s.ctl.execs[i]? with
      | some e => agreeReady e
      | none => false with
    | none => s
    | some i =>
      match s.ctl.execs[i]? with
      | none => s
      | some e =>
        match (takingPart e).head? with
        | none => s
        | some c =>
          match c.waiting with
          | none => s
          | some (source, m, _) =>
            let n := e.agreed.length
            if e.shadow && !e.held then
              match activeAgreed e n source with
              | some v => giveAgreed i source v s
              | none => if (e.agreements.any fun a => a.1 == n) || recordSeen s e then divergeAgree i s else s
            else giveAgreed i source (agreeOf ((typeOf m.toNat).getD .bool) (samplesOf e n)) s)

end Sys2Proof.Machine
end

