-- ==== Sys2Proof/Machine/Compare.lean ====
section
/-! DEFINITION. The comparison of the standby's shadow outputs with the active's barges, and the decision on a
persisting mismatch (R93, R156 to R158). -/

namespace Sys2Proof.Machine

open Sys2Proof

/-- Fewer than three lanes take part. -/
def duplex (e : Exec) : Bool := decide ((takingPart e).length < 3)

/-- BIST_FLAG is zero, retired lanes apart (R157, R372). -/
def laneFlag (s : State) : Bool :=
  allLanes.any fun l => s.ctl.weave.lanes[l].bistFlag && s.ctl.weave.lanes[l].role != .retired

/-- The verdict of R157 apart from the self-test flag and from the executions compared. -/
def weaveClean (s : State) : Bool :=
  !s.ctl.weave.comparatorFault && !s.ctl.weave.uncompared && !s.basin.uncorrectable && !s.ctl.weave.uncorrectable

def partnerClean (s : State) : Bool :=
  match s.pair.partner with
  | some h => h.weaveClean && !h.bist
  | none => false

/-! ### Hand-over instants, R149, R286 -/

/-- The offset of the tick T (R53): a reduction waits until its release lies after the last one queued. -/
def offsetAt (s : State) (k : TaskId) (tick : Nat) : Nat :=
  let new := offsetOf s k
  let old := s.ctl.tasks[k].offsetInForce
  if old ≤ new ∨ s.ctl.tasks[k].lastRelease < tick + new then new else old

/-- The hand-over instant of a task: the release of its first step on this module. -/
def firstRelease (s : State) (k : TaskId) : Nat :=
  match s.ctl.execs.find? fun e => e.task == k && e.phase != .stepped with
  | some e => e.tick + e.offset
  | none => nextTick s k (nowOf s + 1) + offsetAt s k (nextTick s k (nowOf s + 1))

/-- Tasks that write a tag bound to an OUT_PARALLEL AO channel, with their instants. -/
def handoverInstants (s : State) : List (TaskId × Nat) :=
  (runningTasks s).filterMap fun k =>
    if allAio.any fun c => aioModeOf s c == 3 && (match outputTag s (aioCode c) with
      | some (_, tag) => tag.decl.writer == some k
      | none => false) then some (k, firstRelease s k) else none

/-! ### The decision, R157 and R158 -/

/-- A mismatch that persists over two ticks: recorded, and decided by health (R157, R158). The manual has no frame by which a
standby asks for the hand-over: it takes over, and answers as for one (DEDUCED, notes/assumptions/20.md). -/
def persisting (k : TaskId) (tick node : Nat) (wasDuplex : Bool) (s : State) : State :=
  let s := stage 0x0604 (srcTask k) (le8 tick ++ le2 node) s
  if s.pair.suspect then s
  else if !partnerClean s && weaveClean s && !laneFlag s && !wasDuplex then
    let s := takeOver .compareHealth false 0 s
    if s.mod.state = .active then
      towSend (.handoverAck { newClaim := s.pair.claim, appliedEpoch := s.img.epoch, instants := handoverInstants s }) s
    else s
  else pairChanged (fun p => { p with suspect := true }) s

/-- A comparison of task k has failed at a tick: it counts, and where the tick before failed too, the mismatch persists. A
mismatch of an UNMATCHED execution only counts (R155 to R157). -/
def mismatched (k : TaskId) (tick node : Nat) (isDuplex unmatched : Bool) (s : State) : State :=
  let x := s.ctl.tasks[k]
  let s := onTow (fun t => { t with mismatches := sat32 (t.mismatches + 1) }) s
  if unmatched ∨ x.compareFailed = some tick then s
  else
    let before := some (tick - periodOf s k)
    let again := x.compareFailed == before || x.failedBefore == before
    let s := watchPair s (onTask k (fun x =>
      { x with compareFailed := some tick, failedBefore := x.compareFailed, failedDuplex := isDuplex }) s)
    if again then persisting k tick node (isDuplex || x.failedDuplex) s else s

/-- A comparison of task k has passed at a tick. A failure at the tick before is kept for the other barges of this tick. -/
def matched (k : TaskId) (tick : Nat) (s : State) : State :=
  watchPair s <| onTask k (fun x => match x.compareFailed with
    | some f => if f = tick then x else { x with compareFailed := none, failedBefore := some f }
    | none => x) s

/-- The comparison of one pair of barges of task k at a tick. -/
def compared (k : TaskId) (own other : ShadowBarge) (s : State) : State :=
  if own.sections = other.sections then matched k own.tick s else mismatched k own.tick own.node own.duplex own.unmatched s

def sameKey (a b : ShadowBarge) : Bool := a.task == b.task && a.node == b.node && a.release == b.release

/-- Compares every barge of the shadow steps that has its counterpart from the active. -/
def matchBarges : Nat → State → State
  | 0, s => s
  | n + 1, s =>
    match s.tow.shadowBarges.find? fun a => s.tow.activeBarges.any (sameKey a) with
    | none => s
    | some a =>
      match s.tow.activeBarges.find? (sameKey a) with
      | none => s
      | some b =>
        let s := onTow (fun t => { t with shadowBarges := t.shadowBarges.filter fun x => !sameKey a x, activeBarges := t.activeBarges.filter fun x => !sameKey a x }) s
        matchBarges n (compared a.task a b s)

def compareAll (s : State) : State := matchBarges s.tow.shadowBarges.length s

/-- The barges that a shadow step would have sent: its values as its step would commit them. -/
def shadowOutputs (s : State) (e : Exec) : List ShadowBarge :=
  let s' := commitExec e (s.img.epoch + 1) s
  let points := outputPoints s' e.task (s.img.epoch + 1)
  (nodesOf points).map fun node =>
    { task := e.task, tick := e.tick, node := node, release := e.tick + e.offset,
      sections := (outputSections ((points.filter fun p => p.1 == node).map fun p => p.2)).flatMap encodeSection,
      unmatched := e.unmatched, duplex := duplex e }

/-- Scan time of an execution whose step is due at `t`: on the active its step, on a standby the end of its shadow
execution, with every wait for a barge, a manifest or an agreed value in it (R53, R93, R151). -/
def noteScan (t : Nat) (e : Exec) (s : State) : State :=
  let scan := t - e.tick
  onTask e.task (fun x =>
    { x with lastScan := scan, maxScan := max x.maxScan scan, minScan := some (match x.minScan with
               | some m => min m scan
               | none => scan) }) s

/-- A shadow execution has ended: its scan time is taken, and its outputs go to the comparison. A held execution is not
compared (R152). -/
def shadowEnded (e : Exec) (s : State) : State :=
  let s := if e.shadow then noteScan (nowOf s) e s else s
  if e.shadow && !e.held then
    compareAll (onTow (fun t => { t with shadowBarges := t.shadowBarges ++ shadowOutputs s e }) s)
  else s

end Sys2Proof.Machine
end

