-- ==== Sys2Proof/Machine/FieldLink.lean ====
section
/-! DEFINITION. The isolation link, the strobe, the field-side monitor, digital and fast channels, and trigger firings
(R231 to R235, R242 to R265, R286). -/

namespace Sys2Proof.Machine

open Sys2Proof

/-! ### The link, R246, R253, R254, R259, R260 -/

/-- The logic side runs: it sends frames from the first firmware instruction on; configuration follows at `HELD`. -/
def configures (s : State) : Bool := s.mod.state != .boot && s.mod.state != .selftest

/-- DOWNLINK_FRAME_SEND: the next update, a waiting SAFE command, and configuration while the monitor needs it. -/
def execDownlinkFrameSend (t : Nat) (s : State) : Host.Outcome State Fault Refusal :=
  let s := atTime t s
  .next (if logicAwake s = false then s
    else
      let config := configures s && (s.field.monitor == .start || s.field.monitor == .silent)
      let d : Downlink := { update := s.field.toSend.head?, safe := s.field.safeToSend, config := config }
      onField (fun f => { f with downlinks := f.downlinks ++ [d], toSend := f.toSend.drop 1, safeToSend := false }) s)

/-- The monitor begins to run: its channels take the safe states they are yielded to. -/
def enterRun (s : State) : State := applySafeStates (onField (fun f => { f with monitor := .run }) s)

/-- The stage has less than 1.0 V of headroom where R275 asks for it. -/
def shortHeadroom (mode : Nat) (a : Aio) : Bool :=
  if aioOpen a then false
  else if mode = 2 then decide (a.padMicroV < 3000000)
  else decide (26000000 ≤ a.supplyMicroV) && decide (a.supplyMicroV - a.padMicroV < 1000000)

def noteHeadroom (t : Nat) (mode : Nat) (a : Aio) : Aio :=
  let ok := !shortHeadroom mode a
  if a.headroomOk = ok then a else { a with headroomOk := ok, headroomSince := t }

/-- When an update arrives, the supply of a sourcing loop is raised ahead of the strobe for its new current, by the load that
pad voltage and present current show (R272); without a present current the manual gives no estimate. -/
def raiseSupply (t : Nat) (p : Fin 8 × W64) (s : State) : State :=
  let mode := aioModeOf s p.1
  match driveOf s p.1 p.2 with
  | none => s
  | some d =>
    if mode ≠ 1 ∧ mode ≠ 3 then s
    else onAio p.1 (fun a =>
      let now := if aioOpen a then 0 else millionths (a.driven.getD 0)
      let want := if now = 0 then Config.loadTarget a.padMicroV (millionths d) else a.padMicroV * millionths d / now + 2500000
      let target := min 26000000 want
      if a.supplyMicroV < target then noteHeadroom t mode { a with supplyMicroV := target, lowerTarget := none } else a) s

/-- An update reaches the monitor: held for its strobe, or applied where the strobe has fired (R254). -/
def takeUpdate (t : Nat) (u : FieldUpdate) (s : State) : State :=
  let s := u.aio.foldl (fun s p => raiseSupply t p s) s
  let fired := match s.field.lastStrobe with
    | some x => decide (u.strobeAt ≤ x)
    | none => false
  if fired || decide (u.strobeAt < t) then
    if u.claim = s.pair.claim then applyUpdate true u s else s
  else onField (fun f => { f with heldUpdates := f.heldUpdates ++ [u] }) s

/-- A frame that passes its check, at the monitor. -/
def takeDownlink (t : Nat) (d : Downlink) (s : State) : State :=
  if s.field.monitor = .unpowered then s
  else
    let s := onField (fun f => { f with lastDownlink := some t }) s
    let s := if d.config && s.field.monitor != .run then enterRun s else s
    let s := if d.safe then
        onField (fun f => { f with safeInForce := true, heldUpdates := [] }) (applySafeStates s)
      else s
    match d.update with
    | some u => if s.field.monitor = .run then takeUpdate t u s else s
    | none => s

/-- DOWNLINK_FRAME_RECEIVE: a frame whose check fails is discarded, and the next one repeats what it carried. -/
def execDownlinkFrameReceive (t : Nat) (ok : Bool) (s : State) : Host.Outcome State Fault Refusal :=
  let s := atTime t s
  .next (match s.field.downlinks with
    | [] => s
    | d :: r =>
      let s := onField (fun f => { f with downlinks := r }) s
      if ok then takeDownlink t d s
      else onField (fun f => { f with toSend := d.update.toList ++ f.toSend, safeToSend := f.safeToSend || d.safe }) s)

/-- The live diagnostics that a channel reports: none where it is no output (R250). -/
def liveDiags (s : State) (c : Fin 16) : DioLive :=
  let d := s.field.dio[c]
  if dioIsOut s c then
    { externalDrive := d.externalDrive, openOrBackfed := d.openOrBackfed, overcurrent := d.overcurrent, thermal := d.thermal,
      partnerDrive := d.partnerDrive }
  else DioLive.none

/-- The input of an UNUSED channel is not reported (R242). -/
def reported (s : State) (c : Fin 16) (b : Bool) : Bool := dioModeOf s c != 0 && b

/-- UPLINK_FRAME_SEND: levels, readings and diagnostics as the monitor holds them. -/
def execUplinkFrameSend (t : Nat) (s : State) : Host.Outcome State Fault Refusal :=
  let s := atTime t s
  .next (if s.field.monitor = .unpowered ∨ s.mod.power = .dormant then s
    else
      let u : Uplink :=
        { debounced := Vector.ofFn fun c => reported s c s.field.dio[c].debounced,
          comparators := Vector.ofFn fun c => reported s c s.field.dio[c].comparator, diags := Vector.ofFn (liveDiags s),
          readings := s.field.aio.map fun a => a.reading, converted := s.field.aio.map fun a => a.convertedAt,
          monitor := s.field.monitor }
      onField (fun f => { f with uplinks := f.uplinks ++ [u] }) s)

/-- UPLINK_FRAME_RECEIVE: stamped with its arrival less the fixed link latency of 1.2 µs. -/
def execUplinkFrameReceive (t : Nat) (ok : Bool) (s : State) : Host.Outcome State Fault Refusal :=
  let s := atTime t s
  .next (match s.field.uplinks with
    | [] => s
    | u :: r =>
      let s := onField (fun f => { f with uplinks := r }) s
      if ok && logicAwake s then onField (fun f => { f with received := u, sampleTime := t - 1200, lastUplink := some t, fieldLost := false }) s else s)

def monitorCode : MonState → Nat
  | .unpowered => 0
  | .start => 1
  | .run => 2
  | .silent => 3

/-- An instant has lain d ns back, or there is none. -/
def overdue (last : Option Nat) (d t : Nat) : Bool :=
  match last with
  | some x => decide (x + d ≤ t)
  | none => true

/-- FIELD_LOST_TIMEOUT: no valid uplink frame for 100 µs (R260). -/
def execFieldLostTimeout (t : Nat) (s : State) : Host.Outcome State Fault Refusal :=
  let s := atTime t s
  .next (if logicAwake s && overdue s.field.lastUplink 100000 t && !s.field.fieldLost then
      stage 0x0906 srcModule [byteOf (monitorCode s.field.received.monitor)] (endTrims (onField (fun f => { f with fieldLost := true }) s))
    else s)

/-- FIELD_SILENCE_TIMEOUT: the monitor enters SILENT and applies the safe states (R259, R277). -/
def execFieldSilenceTimeout (t : Nat) (s : State) : Host.Outcome State Fault Refusal :=
  let s := atTime t s
  .next (if s.field.monitor = .run ∧ overdue s.field.lastDownlink (msToNs (cfg s P.silenceTimeout)) t = true then
      applySafeStates (onField (fun f => { f with monitor := .silent, heldUpdates := [] }) s)
    else s)

/-- The monitor's own state at its reset: DIO off, FO low, AIO open (R259, R266). -/
def resetMonitor (m : MonState) (s : State) : State :=
  let s := onField (fun f => { f with monitor := m, heldUpdates := [], delayedActions := [], lastDownlink := none, safeInForce := false }) s
  let s := eachDio (fun c s => onDio c (fun d =>
    { Dio.reset with comparator := d.comparator, comparatorSince := d.comparatorSince, padHigh := d.padHigh, padSince := nowOf s, yielded := d.yielded }) s) s
  let s := eachAio (fun c s => openAio c (onAio c (fun a => { a with held := none, compliance := false, mismatch := false, thermal := false, trippedAt := none }) s)) s
  each4 (fun n s => onFo n (fun f => { f with level := false, safeApplied := true, held := none, pulseEnd := none, short := false }) s) s

/-- MONITOR_WATCHDOG_RESET (R259). -/
def execMonitorWatchdogReset (t : Nat) (s : State) : Host.Outcome State Fault Refusal :=
  let s := atTime t s
  .next (if s.field.monitor = .unpowered then s else resetMonitor .start s)

/-! ### Trigger actions, R231 to R235, R255 -/

/-- The module holds its pair's claim. -/
def holdsClaim (s : State) : Bool := s.mod.state == .active && s.pair.claim != 0

def onTrigger (u : Fin 32) (g : Trigger → Trigger) (s : State) : State := onTime (fun x => { x with triggers := vmod x.triggers u g }) s

def chanOf {n : Nat} (h : 0 < n) (c : Nat) : Fin n := ⟨c % n, Nat.mod_lt _ h⟩

/-- The level of an FO pad: a pulse whose width has passed has ended. -/
def foLevel (s : State) (n : Fin 4) : Bool :=
  match s.field.fo[n].pulseEnd with
  | some e => s.field.fo[n].level && decide (nowOf s < e)
  | none => s.field.fo[n].level

/-- Frees the barges of a task that BARGE_SEND holds and whose instant has come (R234). -/
def releaseBarges (k t : Nat) (s : State) : State :=
  let free (q : QueuedFrame) : QueuedFrame := match q.heldFor with
    | some (x, at_) => if x.val = k ∧ at_ ≤ t then { q with heldFor := none } else q
    | none => q
  onSw (fun w => { w with ports := w.ports.map fun p => { p with queue := p.queue.map free } }) s

/-- The stages take values: the monitor is in RUN, and no `SAFE` command is in force, which stays until the next update under a claim
(R259). -/
def stagesLive (s : State) : Bool := s.field.monitor == .run && !s.field.safeInForce

/-- The action of a unit on its stage. -/
def performAction (t : Nat) (x : TrigSetup) (s : State) : State :=
  if x.action ≠ .bargeSend ∧ stagesLive s = false then s else
  let fo : Fin 4 := chanOf (by decide) x.channel
  let dio : Fin 16 := chanOf (by decide) x.channel
  match x.action with
  | .foPulse =>
    let s := applyFo fo true s
    onFo fo (fun f => { f with pulseEnd := if f.level then some (t + x.argument.toNat) else f.pulseEnd }) s
  | .foSet => applyFo fo true s
  | .foClear => applyFo fo false s
  | .foToggle => applyFo fo (!foLevel s fo) s
  | .dioSet => applyDio dio true s
  | .dioClear => applyDio dio false s
  | .aioStep => applyAio (chanOf (by decide) x.channel) (convert .real32 .real64 x.argument) s
  | .bargeSend => releaseBarges x.channel t s

/-- The action crosses the barrier with a strobe. -/
def needsStrobe (a : TrigAction) : Bool := a == .dioSet || a == .dioClear || a == .aioStep

/-- An update that the strobe of this instant, which has not fired yet, releases. -/
def releaseDue (s : State) (t : Nat) : Bool :=
  s.field.lastStrobe != some t && s.field.heldUpdates.any fun u => u.strobeAt == t

/-- Performs a due action: with the strobe of a release at the same instant, after its values, or put off to 500 ns after the previous
strobe (R255). A module without the claim drives nothing (R233). -/
def fireAction (t : Nat) (u : Fin 32) (x : TrigSetup) (s : State) : State :=
  if holdsClaim s = false then onTrigger u (fun g => { g with suppressed := sat32 (g.suppressed + 1) }) s
  else if needsStrobe x.action then
    match s.field.lastStrobe with
    | some p =>
      if p < t ∧ t < p + 500 then
        onTrigger u (fun g => { g with delayed := sat32 (g.delayed + 1) }) (onField (fun f => { f with delayedActions := f.delayedActions ++ [(p + 500, u, x)] }) s)
      else if releaseDue s t then onField (fun f => { f with delayedActions := f.delayedActions ++ [(t, u, x)] }) s
      else performAction t x (onField (fun f => { f with lastStrobe := some t }) s)
    | none =>
      if releaseDue s t then onField (fun f => { f with delayedActions := f.delayedActions ++ [(t, u, x)] }) s
      else performAction t x (onField (fun f => { f with lastStrobe := some t }) s)
  else performAction t x s

/-- The unit's firing is due at t (R231). -/
def firingDue (s : State) (x : TrigSetup) (t : Nat) : Bool :=
  match x.mode with
  | .once => decide (x.target ≤ t)
  | .periodic => decide (x.target ≤ t) && decide (x.armedAt < t) && (t - x.target) % max 1 x.period == 0
  | .compat => !(s.time.count - x.compatTarget).getLsbD 31

/-- One unit fires at t, once, where it is due. -/
def fireUnit (t : Nat) (u : Fin 32) (s : State) : State :=
  match s.time.triggers[u].setup with
  | some x =>
    if s.time.triggers[u].armed && s.time.triggers[u].firedAt != some t && firingDue s x t then
      let s := onTrigger u (fun g => { g with firings := sat32 (g.firings + 1), armed := x.mode == .periodic, firedAt := some t }) s
      fireAction t u x s
    else s
  | none => s

/-- Two units drive one channel. -/
def sameChannel (s : State) (u v : Fin 32) : Bool :=
  match s.time.triggers[u].setup, s.time.triggers[v].setup with
  | some x, some y => (trigChannel x).isSome && trigChannel x == trigChannel y
  | _, _ => false

/-- TRIGGER_FIRE: an armed unit reaches its target (R231 to R234). Units of lower number that are due at this edge on its channel fire
before it (R235). -/
def execTriggerFire (t : Nat) (u : Fin 32) (s : State) : Host.Outcome State Fault Refusal :=
  let s := atTime t s
  let before := (List.finRange 32).filter fun v => v.val < u.val && sameChannel s u v
  .next (fireUnit t u (before.foldl (fun s v => fireUnit t v s) s))

/-! ### The strobe, R253, R286 -/

/-- An FO release of the time unit. -/
def applyRelease (r : FoRelease) (s : State) : State := applyFo r.channel r.level s

/-- A strobe is due: for an update, wherever it is on its way, a trigger action that waits, or a hand-over (R253, R255, R286). -/
def strobeDue (s : State) (t : Nat) : Bool :=
  let f := s.field
  ((f.heldUpdates ++ f.toSend ++ f.downlinks.filterMap fun d => d.update).any fun u => decide (u.strobeAt ≤ t)) ||
    (f.delayedActions.any fun p => decide (p.1 ≤ t)) ||
    (allAio.any fun c => match f.aio[c].handoverAt with
      | some h => decide (h ≤ t)
      | none => false)

/-- The strobe channel is free: the previous strobe lies 500 ns back (R255). -/
def strobeFree (s : State) (t : Nat) : Bool :=
  match s.field.lastStrobe with
  | some p => decide (t ≤ p) || decide (p + 500 ≤ t)
  | none => true

/-- FO channels released by a task take their value from the time unit, without a strobe (R253). -/
def releaseFo (t : Nat) (s : State) : State :=
  let due := s.field.foReleases.filter fun r => decide (r.atTime ≤ t)
  due.foldl (fun s r => applyRelease r s) (onField (fun f => { f with foReleases := f.foReleases.filter fun r => decide (t < r.atTime) }) s)

/-- The strobe: the updates due, then the trigger actions that wait for it in ascending order of unit, and the hand-over of parallel AO
channels whose instant has come (R253, R255, R286). -/
def fireStrobe (t : Nat) (s : State) : State :=
  let ups := s.field.heldUpdates.filter fun u => decide (u.strobeAt ≤ t)
  let acts := sortBy (fun (p : Nat × Fin 32 × TrigSetup) => p.2.1.val) (s.field.delayedActions.filter fun p => decide (p.1 ≤ t))
  let s := onField (fun f => { f with heldUpdates := f.heldUpdates.filter fun u => decide (t < u.strobeAt),
                                      delayedActions := f.delayedActions.filter fun p => decide (t < p.1),
                                      lastStrobe := some t }) s
  let s := ups.foldl (fun s u => if u.claim = s.pair.claim ∧ s.field.monitor = .run then applyUpdate false u s else s) s
  let s := acts.foldl (fun s p => performAction t p.2.2 s) s
  eachAio (fun c s => match s.field.aio[c].handoverAt with
    | some h => if h ≤ t ∧ s.field.aio[c].yielded = true then openAio c s else s
    | none => s) s

/-- STROBE_FIRE: the release instant at the time unit: FO channels take their values, and a strobe that is due fires, at most one every
500 ns. -/
def execStrobeFire (t : Nat) (s : State) : Host.Outcome State Fault Refusal :=
  let s := releaseFo t (atTime t s)
  .next (if strobeDue s t && strobeFree s t then fireStrobe t s else s)

/-! ### Digital channels, R245, R248, R250, R258 -/

/-- DIO_COMPARATOR_CHANGE: a comparator or an output condition changes, and its filter begins anew. -/
def execDioComparatorChange (t : Nat) (c : Fin 16) (sense : DioSense) (s : State) : Host.Outcome State Fault Refusal :=
  .next (onDio c (fun d => match sense with
    | .comparator b => if d.comparator = b then d else { d with comparator := b, comparatorSince := t }
    | .padHigh b => if d.padHigh = b then d else { d with padHigh := b, padSince := t }
    | .lowCurrent b => if d.lowCurrent = b then d else { d with lowCurrent := b, lowCurrentSince := t }
    | .limiting b => if d.limiting = b then d else { d with limiting := b, limitingSince := t }) (atTime t s))

/-- DIO_DEBOUNCE_EXPIRY: the comparator has held its level for DIO_DEBOUNCE, in units of 2 µs. -/
def execDioDebounceExpiry (t : Nat) (c : Fin 16) (s : State) : Host.Outcome State Fault Refusal :=
  let s := atTime t s
  let d := s.field.dio[c]
  .next (if (s.field.monitor = .run ∨ s.field.monitor = .silent) ∧ dioModeOf s c ≠ 0 ∧
      d.comparatorSince + 2000 * cfg s (P.dioDebounce c.val) ≤ t then
      onDio c (fun d => { d with debounced := d.comparator }) s
    else s)

def diagEnabled (s : State) (c : Fin 16) (bit : Nat) : Bool := bitAt (cfg s (P.dioDiag c.val)) bit

/-- A sticky bit's rising edge records one event (R250). -/
def diagEvent (seen : Bool) (code : Nat) (c : Fin 16) (data : List Byte) (s : State) : State :=
  if seen then s else stage code (srcDio c) data s

/-- A high pad with the switch off for 1 ms: PARTNER_DRIVE or EXTERNAL_DRIVE (R251). -/
def judgePad (t : Nat) (c : Fin 16) (s : State) : State :=
  let d := s.field.dio[c]
  if t < d.padSince + 1000000 then s
  else if !d.padHigh then onDio c (fun d => { d with externalDrive := false, partnerDrive := false }) s
  else if d.driving then s
  else if dioModeOf s c = 4 ∧ d.yielded = true then onDio c (fun d => { d with partnerDrive := true, externalDrive := false }) s
  else if diagEnabled s c 0 then
    diagEvent d.externalSeen 0x0901 c [byteOf (dioModeOf s c)] (onDio c (fun d => { d with externalDrive := true, externalSeen := true }) s)
  else s

def judgeCurrent (t : Nat) (c : Fin 16) (s : State) : State :=
  let d := s.field.dio[c]
  if t < d.lowCurrentSince + 10000000 then s
  else if !d.lowCurrent then onDio c (fun d => { d with openOrBackfed := false }) s
  else if d.driving && diagEnabled s c 1 then
    diagEvent d.openSeen 0x0902 c [byteOf (dioModeOf s c)] (onDio c (fun d => { d with openOrBackfed := true, openSeen := true }) s)
  else s

def judgeLimit (t : Nat) (c : Fin 16) (s : State) : State :=
  let d := s.field.dio[c]
  if t < d.limitingSince + 100000 then s
  else if !d.limiting then onDio c (fun d => { d with overcurrent := false }) s
  else if d.driving && diagEnabled s c 2 then
    let s := if d.overcurrent then s
      else onWear (fun w => { w with dout := vmod w.dout c fun x => { x with overcurrents := sat32 (x.overcurrents + 1) } }) s
    diagEvent d.overcurrentSeen 0x0903 c [byteOf (dioModeOf s c)] (onDio c (fun d => { d with overcurrent := true, overcurrentSeen := true }) s)
  else s

/-- DO_DIAG_FILTER_EXPIRY: output modes only (R250). -/
def execDoDiagFilterExpiry (t : Nat) (c : Fin 16) (d : DioDiag) (s : State) : Host.Outcome State Fault Refusal :=
  let s := atTime t s
  .next (if dioIsOut s c && monitorDrives s then
      match d with
      | .externalDrive | .partnerDrive => judgePad t c s
      | .openOrBackfed => judgeCurrent t c s
      | .overcurrent => judgeLimit t c s
    else s)

/-- DO_THERMAL_TRIP: the switch turns off; the fourth trip before the count resets latches it (R248, R426). -/
def execDoThermalTrip (t : Nat) (c : Fin 16) (s : State) : Host.Outcome State Fault Refusal :=
  let s := atTime t s
  let d := s.field.dio[c]
  .next (if d.driving then
      let s := onWear (fun w => { w with dout := vmod w.dout c fun x => { x with trips := sat32 (x.trips + 1), tripHours := s.path.hours } }) s
      let trips := s.wear.dout[c].trips
      let s := if trips % max 1 (cfg s P.wearDoTrips) = 0 then stage 0x0F14 (srcDio c) (le4 trips) s else s
      let s := if diagEnabled s c 3 then
          diagEvent d.thermalSeen 0x0904 c [byteOf d.retries] (onDio c (fun x => { x with thermal := true, thermalSeen := true }) s)
        else s
      let s := onDio c (fun x => { x with trippedAt := some t, lastTrip := some t, trips := x.trips + 1 }) s
      let s := if d.trips < 3 then s
        else
          let s := onWear (fun w => { w with dout := vmod w.dout c fun x => { x with latchOffs := sat32 (x.latchOffs + 1) } }) s
          stage 0x0905 (srcDio c) (le4 trips) (onDio c (fun x => { x with latchedOff := true }) s)
      settleDio c s
    else s)

/-- The channel's switch would be on but for its trip. -/
def wantsOn (s : State) (c : Fin 16) : Bool := dioSwitch s c { s.field.dio[c] with trippedAt := none }

/-- DO_THERMAL_RETRY: after cooling and 100 ms, the switch turns on again if still commanded (R248). -/
def execDoThermalRetry (t : Nat) (c : Fin 16) (s : State) : Host.Outcome State Fault Refusal :=
  let s := atTime t s
  .next (match s.field.dio[c].trippedAt with
    | some x =>
      if x + 100000000 ≤ t ∧ s.field.dio[c].latchedOff = false then
        let n := if wantsOn s c then 1 else 0
        settleDio c (onDio c (fun d => { d with trippedAt := none, retries := d.retries + n }) s)
      else s
    | none => s)

/-- DO_RETRY_COUNT_RESET: 60 s without a trip (R248). -/
def execDoRetryCountReset (t : Nat) (c : Fin 16) (s : State) : Host.Outcome State Fault Refusal :=
  let s := atTime t s
  .next (if overdue s.field.dio[c].lastTrip 60000000000 t then onDio c (fun d => { d with retries := 0, trips := 0 }) s else s)

/-- PARALLEL_DIO_BREAK: 100 µs after a live yield (R258). -/
def execParallelDioBreak (t : Nat) (c : Fin 16) (s : State) : Host.Outcome State Fault Refusal :=
  let s := atTime t s
  .next (match s.field.dio[c].breakFrom with
    | some x => if x + 100000 ≤ t then settleDio c (onDio c (fun d => { d with breakFrom := none }) s) else s
    | none => s)

/-! ### Fast channels, R262, R263 -/

/-- FI_FAILSAFE_TIMEOUT: the pair reads 1 and the live and sticky bits are set. -/
def execFiFailsafeTimeout (t : Nat) (n : Fin 4) (s : State) : Host.Outcome State Fault Refusal :=
  .next (onFi n (fun f => { f with level := true, failsafe := true, failsafeSeen := true }) (atTime t s))

/-- FO_SHORT_TIMEOUT: the driver keeps driving. -/
def execFoShortTimeout (t : Nat) (n : Fin 4) (s : State) : Host.Outcome State Fault Refusal :=
  .next (onFo n (fun f => { f with short := true, shortSeen := true }) (atTime t s))

end Sys2Proof.Machine
end

