-- ==== Sys2Proof/Machine/Loops.lean ====
section
/-! DEFINITION. Analog current loops: supply, readback, compliance, thermal trips, conversions, parallel loops and trim
(R266 to R288). Currents in nA, voltages in µV; readings as REAL64 in mA or V. -/

namespace Sys2Proof.Machine

open Sys2Proof

/-! ### Trim, R282 -/

/-- The user set applies where it is selected and has been written. -/
def usesUserTrim (s : State) (c : Fin 8) : Bool := cfg s (P.aioTrimSet c.val) == 1 && s.field.aio[c].user.isSome

def trimOf (s : State) (c : Fin 8) : TrimSet :=
  if cfg s (P.aioTrimSet c.val) = 1 then s.field.aio[c].user.getD s.field.aio[c].factory else s.field.aio[c].factory

/-- A raw ADC reading corrected for gain and offset from the two points of a set. -/
def trimmed (x : TrimSet) (raw : Int) : Int :=
  if x.raw2 = x.raw1 then raw else x.ref1 + (raw - x.raw1) * (x.ref2 - x.ref1) / (x.raw2 - x.raw1)

/-- Millionths as a REAL64. -/
def fromMillionths (x : Int) : W64 :=
  let w := BitVec.ofNat 64 (fofRat real64 x.natAbs 1000000)
  if x < 0 then w ||| BitVec.ofNat 64 (2 ^ 63) else w

/-- Mode and commanded current as events carry them. -/
def aoData (s : State) (c : Fin 8) : List Byte :=
  byteOf (aioModeOf s c) :: le4 (convert .real64 .real32 (s.field.aio[c].driven.getD 0)).toNat

def aioDiagOn (s : State) (c : Fin 8) (bit : Nat) : Bool := bitAt (cfg s (P.aioDiag c.val)) bit

/-! ### The adaptive loop supply, R272, R275 -/

def supplyTarget (padMicroV : Int) : Int := max 8000000 (min 26000000 (padMicroV + 2500000))

/-- LOOP_SUPPLY_ADJUST: the supply rises at once and falls after its lower target has held for 10 ms; an open channel
idles at 8 V. -/
def execLoopSupplyAdjust (t : Nat) (c : Fin 8) (padMicroV : Int) (s : State) : Host.Outcome State Fault Refusal :=
  let s := atTime t s
  let mode := aioModeOf s c
  .next (if monitorDrives s = false then s
    else onAio c (fun a =>
      let a := { a with padMicroV := padMicroV }
      let a :=
        if mode ≠ 1 ∧ mode ≠ 3 then a
        else if aioOpen a then { a with supplyMicroV := 8000000, lowerTarget := none }
        else
          let target := supplyTarget padMicroV
          if a.supplyMicroV ≤ target then { a with supplyMicroV := target, lowerTarget := none }
          else match a.lowerTarget with
            | some (_, since) => { a with lowerTarget := some (target, since) }
            | none => { a with lowerTarget := some (target, t) }
      noteHeadroom t mode a) s)

/-- LOOP_SUPPLY_FALL. -/
def execLoopSupplyFall (t : Nat) (c : Fin 8) (s : State) : Host.Outcome State Fault Refusal :=
  let s := atTime t s
  let mode := aioModeOf s c
  .next (match s.field.aio[c].lowerTarget with
    | some (target, since) =>
      if since + 10000000 ≤ t then onAio c (fun a => noteHeadroom t mode { a with supplyMicroV := target, lowerTarget := none }) s else s
    | none => s)

/-! ### Readback and compliance, R274, R275 -/

/-- Samples are compared: not open, not in COMPLIANCE, and 500 µs after a change beyond the threshold. -/
def comparesReadback (t : Nat) (a : Aio) : Bool := !aioOpen a && !a.compliance && decide (a.changedAt + 500000 ≤ t)

/-- One sample of the comparison: five in a row set or clear MISMATCH. -/
def judgeReadback (bad : Bool) (a : Aio) : Aio :=
  if bad then
    { a with disagree := a.disagree + 1, agree := 0, mismatch := a.mismatch || decide (5 ≤ a.disagree + 1) }
  else { a with agree := a.agree + 1, disagree := 0, mismatch := a.mismatch && decide (a.agree + 1 < 5) }

/-- READBACK_SAMPLE: every 100 µs, in the output modes; the reading is also that of the channel's input tag. -/
def execReadbackSample (t : Nat) (c : Fin 8) (rawNanoA : Int) (s : State) : Host.Outcome State Fault Refusal :=
  let s := atTime t s
  .next (if aioIsOut s c && monitorDrives s then
      let r := trimmed (trimOf s c) rawNanoA
      let s := onAio c (fun a => { a with readback := r, reading := fromMillionths r, convertedAt := t, raw := rawNanoA }) s
      let a := s.field.aio[c]
      if comparesReadback t a && aioDiagOn s c 0 then
        let d := millionths (a.driven.getD 0)
        let bad := decide (100000 + r / 100 < ((d - r).natAbs : Int))
        let s := onAio c (judgeReadback bad) s
        if s.field.aio[c].mismatch && !a.mismatch then
          stage 0x0A02 (srcAio c) (aoData s c) (onAio c (fun a => { a with mismatchSeen := true }) s)
        else s
      else s
    else s)

/-- COMPLIANCE_FILTER_EXPIRY: the headroom has stayed on one side of 1.0 V for 1 ms. -/
def execComplianceFilterExpiry (t : Nat) (c : Fin 8) (s : State) : Host.Outcome State Fault Refusal :=
  let s := atTime t s
  let a := s.field.aio[c]
  .next (if aioIsOut s c = false ∨ t < a.headroomSince + 1000000 then s
    else if a.headroomOk then onAio c (fun a => { a with compliance := false, alarmNotReached := false }) s
    else if a.compliance = true ∨ aioDiagOn s c 1 = false then s
    else
      let s := onAio c (fun a => { a with compliance := true, complianceSeen := true, alarmNotReached := highAlarm s c a }) s
      stage 0x0A03 (srcAio c) (aoData s c) s)

/-! ### Thermal trips, R273 -/

/-- AO_THERMAL_TRIP: the channel opens; each trip is recorded. -/
def execAoThermalTrip (t : Nat) (c : Fin 8) (s : State) : Host.Outcome State Fault Refusal :=
  let s := atTime t s
  .next (if aioIsOut s c && !aioOpen s.field.aio[c] then
      let s := onAio c (fun a => { a with trippedAt := some t }) s
      stage 0x0A01 (srcAio c) (aoData s c) (onAio c (fun a => { a with thermal := true, thermalSeen := true }) s)
    else s)

/-- AO_THERMAL_RECOVER: after cooling and at least 100 ms. -/
def execAoThermalRecover (t : Nat) (c : Fin 8) (s : State) : Host.Outcome State Fault Refusal :=
  let s := atTime t s
  .next (match s.field.aio[c].trippedAt with
    | some x => if x + 100000000 ≤ t then onAio c (fun a => { a with trippedAt := none, thermal := false }) s else s
    | none => s)

/-! ### Conversions, R279, R281 -/

/-- AIO_CONVERSION: one sample enters the filter of an input channel; a reading beyond the range sets OVERRANGE. -/
def execAioConversion (t : Nat) (c : Fin 8) (raw : Int) (s : State) : Host.Outcome State Fault Refusal :=
  let s := atTime t s
  let mode := aioModeOf s c
  .next (if (mode = 4 ∨ mode = 5) ∧ monitorDrives s = true then
      let x := fromMillionths (trimmed (trimOf s c) raw)
      let tc := cfg s (P.aioFilter c.val)
      let v := if tc = 0 then x else Config.filter tc s.field.aio[c].reading x
      let ovr := lessReal (microAmp (if mode = 4 then 24500 else 10500)) v
      onAio c (fun a => { a with reading := v, convertedAt := t, raw := raw, overrange := ovr, overrangeSeen := a.overrangeSeen || ovr }) s
    else s)

/-! ### Parallel loops, R287 -/

/-- AIO_PARALLEL_SILENCE_EXPIRY: the monitor opens every OUT_PARALLEL channel. -/
def execAioParallelSilenceExpiry (t : Nat) (s : State) : Host.Outcome State Fault Refusal :=
  let s := atTime t s
  .next (if monitorDrives s && overdue s.field.lastDownlink (usToNs (cfg s P.parallelSilence)) t then
      eachAio (fun c s => if aioModeOf s c = 3 then openAio c s else s) s
    else s)

/-! ### Trim sequences, R283 -/

def trimSeq (s : State) (c : Fin 8) : Option TrimSeq := s.field.trim.find? fun x => x.channel == c

/-- TRIM_STEP_TIMEOUT: more than 60 s between two steps. -/
def execTrimStepTimeout (t : Nat) (c : Fin 8) (s : State) : Host.Outcome State Fault Refusal :=
  let s := atTime t s
  .next (match trimSeq s c with
    | some x => if x.stepAt + 60000000000 < t then endTrim x s else s
    | none => s)

end Sys2Proof.Machine
end

