-- ==== Sys2Proof/Machine/Program.lean ====
section
/-! DEFINITION. Program versions: the container (R334), the checks of PRG.VERIFY (R97, R101), the tasks concerned in an
exchange (R102), what carries over (R108 to R110), and the change report (R111). -/

namespace Sys2Proof.Machine

open Sys2Proof

/-! ### The container, R334 -/

def originOf : Nat → Option Origin
  | 0 => some .computed
  | 1 => some .remote
  | 2 => some .channel
  | _ => none

def taskOf (n : Nat) : Option TaskId := if h : n < 16 then some ⟨n, h⟩ else none

/-- One entry of section TAGS; the outer none is a value that the manual does not define. -/
def parseTag (b : List Byte) : Option (Nat × TagDecl) :=
  let fl := natAt b 7 1
  match typeOf (natAt b 4 1), originOf (natAt b 6 1) with
  | some ty, some org =>
    let w := natAt b 5 1
    if (16 ≤ w ∧ w ≠ 0xFF) ∨ 2 ^ 20 ≤ natAt b 0 4 ∨ (org = .remote ∧ bitAt fl 0 = true) ∨
        meetsEncoding ty (BitVec.ofNat 64 (natAt b 16 8)) = false then none
    else
      some (natAt b 0 4,
        { type := ty, writer := taskOf w, origin := org, published := bitAt fl 0, substIsLast := bitAt fl 1,
          node := natAt b 8 2, point := natAt b 10 2, initial := BitVec.ofNat 64 (natAt b 16 8) })
  | _, _ => none

def parseTags : Nat → List Byte → Tbl TagDecl → Option (Tbl TagDecl)
  | 0, bs, m => if bs.isEmpty then some m else none
  | n + 1, bs, m =>
    if bs.isEmpty then some m
    else if bs.length < 24 then none
    else
      match parseTag (bs.take 24) with
      | some (i, d) => if thas i m then none else parseTags n (bs.drop 24) (tput i d m)
      | none => none

def wordsAt (bs : List Byte) (n : Nat) : List W64 := (List.range n).map fun i => BitVec.ofNat 64 (natAt bs (8 * i) 8)
def numsAt (bs : List Byte) (n : Nat) : List Nat := (List.range n).map fun i => natAt bs (4 * i) 4

def allZero (bs : List Byte) : Bool := bs.all (· == 0)

/-- Records of section CODE: task, frame in units of 64 bytes, words. -/
def parseCode : Nat → List Byte → List TaskCode → Option (List TaskCode)
  | 0, bs, cs => if bs.isEmpty then some cs else none
  | n + 1, bs, cs =>
    if bs.isEmpty then some cs
    else
      let count := natAt bs 4 4
      match taskOf (natAt bs 0 1) with
      | some k =>
        if bs.length < 8 + 8 * count ∨ 1024 < natAt bs 2 2 ∨ (cs.any fun c => c.task == k) = true then none
        else parseCode n (bs.drop (8 + 8 * count))
          (cs ++ [{ task := k, frame := 64 * natAt bs 2 2, words := wordsAt (bs.drop 8) count, routines := [], view := [] }])
      | none => none

def addRoutines (k : TaskId) (rs : List Nat) (cs : List TaskCode) : List TaskCode :=
  cs.map fun c => if c.task = k then { c with routines := rs.foldl (fun m r => insertSorted r m) c.routines } else c

def parseRoutines : Nat → List Byte → List TaskCode → Option (List TaskCode)
  | 0, bs, cs => if allZero bs then some cs else none
  | n + 1, bs, cs =>
    if bs.length < 8 ∧ allZero bs = true then some cs
    else
      let count := natAt bs 2 2
      match taskOf (natAt bs 0 1) with
      | some k =>
        if bs.length < 4 + 4 * count then none
        else parseRoutines n (bs.drop (4 + 4 * count)) (addRoutines k (numsAt (bs.drop 4) count) cs)
      | none => none

def addView (k : TaskId) (vs : List Nat) (cs : List TaskCode) : List TaskCode :=
  cs.map fun c => if c.task = k then { c with view := vs.foldl (fun m r => insertSorted r m) c.view } else c

def parseViews : Nat → List Byte → List TaskCode → Option (List TaskCode)
  | 0, bs, cs => if allZero bs then some cs else none
  | n + 1, bs, cs =>
    if bs.length < 8 ∧ allZero bs = true then some cs
    else
      let count := natAt bs 4 4
      match taskOf (natAt bs 0 1) with
      | some k =>
        if bs.length < 8 + 4 * count then none
        else parseViews n (bs.drop (8 + 4 * count)) (addView k (numsAt (bs.drop 8) count) cs)
      | none => none

/-- Sections of a container: type and data. -/
def parseSectionList : Nat → List Byte → Option (List (Nat × List Byte))
  | 0, bs => if bs.isEmpty then some [] else none
  | n + 1, bs =>
    let len := natAt bs 4 4
    if bs.length < 8 + len ∨ len % 8 ≠ 0 then none
    else (parseSectionList n (bs.drop (8 + len))).map fun r => (natAt bs 0 2, (bs.drop 8).take len) :: r

/-- Applies the sections of one type, in order. -/
def sectionsOf (ty : Nat) (xs : List (Nat × List Byte)) : List (List Byte) := (xs.filter fun p => p.1 == ty).map fun p => p.2

def foldSections {α : Type} (g : List Byte → α → Option α) (bss : List (List Byte)) (x : α) : Option α :=
  bss.foldl (fun a bs => a.bind (g bs)) (some x)

/-- Offsets of the first words of the tasks in one CODE section whose data begins at an offset. -/
def recordPlaces : Nat → Nat → List Byte → Tbl Nat → Tbl Nat
  | 0, _, _, m => m
  | n + 1, offset, bs, m =>
    if bs.isEmpty then m
    else
      let len := 8 + 8 * natAt bs 4 4
      recordPlaces n (offset + len) (bs.drop len) (tput (natAt bs 0 1) (offset + 8) m)

/-- Offsets in the container of the first words of the tasks; the sections begin at an offset. -/
def codePlaces : List (Nat × List Byte) → Nat → Tbl Nat
  | [], _ => []
  | x :: r, offset =>
    let m := codePlaces r (offset + 8 + x.2.length)
    if x.1 = 2 then recordPlaces x.2.length (offset + 8) x.2 m else m

/-- The CRC field of a container taken as zero. -/
def containerCrc (bs : List Byte) : W32 := crc32c (bs.take 24 ++ zeros 4 ++ bs.drop 28)

def crcHolds (bs : List Byte) : Bool := decide (32 ≤ bs.length) && natAt bs 24 4 == (containerCrc bs).toNat

/-- The program that a container spells; none where it breaks the layout of R334. Reserved fields are ignored (R8). -/
def parseProgram (bs : List Byte) : Option Program :=
  if bs.length < 32 ∨ natAt bs 0 4 ≠ 0x564C4331 ∨ natAt bs 4 2 ≠ 1 ∨ natAt bs 12 4 ≠ bs.length then none
  else
    match parseSectionList (natAt bs 6 2) (bs.drop 32) with
    | none => none
    | some xs =>
      if xs.any fun p => p.1 == 0 || decide (4 < p.1) then none
      else
        match foldSections (fun b m => parseTags b.length b m) (sectionsOf 1 xs) [],
              (foldSections (fun b c => parseCode b.length b c) (sectionsOf 2 xs) []).bind fun c =>
                (foldSections (fun b c => parseRoutines b.length b c) (sectionsOf 3 xs) c).bind fun c =>
                  foldSections (fun b c => parseViews b.length b c) (sectionsOf 4 xs) c with
        | some tags, some codes =>
          some { version := natAt bs 8 4, instanceCount := natAt bs 16 4, tags := tags,
                 codes := sortBy (fun c => c.task.val) codes, places := codePlaces xs 32,
                 image := bs }
        | _, _ => none

/-! ### Verification, R97 -/

/-- Finding codes of R331. -/
def fRange : Nat := 0x10
def fUndefined : Nat := 0x11
def fWriterTask : Nat := 0x12
def fNotOnPartner : Nat := 0x13
def fTriggerChannel : Nat := 0x14
def fChannelBinding : Nat := 0x15
def fCanBinding : Nat := 0x16
def fPayloadFit : Nat := 0x17
def fBargeRate : Nat := 0x18
def fQuota : Nat := 0x19
def fForceConflict : Nat := 0x1A
def fLanes : Nat := 0x1B
def fDupPriority : Nat := 0x1C
def fDeadlineOffset : Nat := 0x1D
def fNotVerified : Nat := 0x1E
def fPointType : Nat := 0x1F

def noTask : Nat := 0xFFFFFFFF

def itemInstr : Nat := 1
def itemTag : Nat := 2
def itemInst : Nat := 3
def itemSetting : Nat := 4
def itemChannel : Nat := 5
def itemNode : Nat := 6
def itemField : Nat := 7

/-- Failure of a verification check at an instruction. -/
def atWord (c : TaskCode) (check i : Nat) : Finding :=
  { code := check, item := itemInstr, subject := i, task := c.task.val, detail := none }

/-- Tags that a word writes. -/
def tagsWritten (f : WordFields) : List Nat :=
  let op := f.op.toNat
  if 0x18 ≤ op ∧ op ≤ 0x1B ∧ f.m.toNat < 2 then [f.o.toNat]
  else if op = 0x41 then (List.range 64).map (f.o.toNat + ·)
  else if op = 0x54 then [f.o.toNat]
  else []

/-- Tag operands exist with the type that the word needs (R97). -/
def tagTypesOk (p : Program) (f : WordFields) : Bool :=
  let op := f.op.toNat
  let first := f.o.toNat
  let hasType (i : Nat) (ok : ValType → Bool) : Bool := match tget i p.tags with
    | some d => ok d.type
    | none => false
  if 0x10 ≤ op ∧ op ≤ 0x1B then
    (match f.m.toNat with
     | 0 => hasType first (· == .bool)
     | 1 => hasType first (fun t => isIntType t && decide (f.im.toNat % 64 < typeWidth t))
     | _ => true)
  else if 0x40 ≤ op ∧ op ≤ 0x44 then (List.range 64).all fun i => hasType (first + i) (· == .bool)
  else if op = 0x54 ∨ tagsRead f ≠ [] then hasType first (fun t => typeCode t == f.m.toNat)
  else true

def readOk (p : Program) (c : TaskCode) (i : Nat) : Bool :=
  c.view.contains i || (match tget i p.tags with
    | some d => d.writer == some c.task
    | none => false)

def writeOk (p : Program) (c : TaskCode) (i : Nat) : Bool :=
  match tget i p.tags with
  | some d => d.writer == some c.task && !isInput d
  | none => false

/-- Local operands lie inside the declared frame (R63). -/
def localOk (c : TaskCode) (f : WordFields) : Bool :=
  let op := f.op.toNat
  let layout := (rowOf f).map fun r => r.layout
  if 0x10 ≤ op ∧ op ≤ 0x1B ∧ f.m.toNat = 2 then decide (8 * (f.o.toNat / 64) + 8 ≤ c.frame)
  else if layout = some Layout.loc then decide (8 * f.o.toNat + 8 ≤ c.frame)
  else true

def registersOk (f : WordFields) : Bool :=
  match f.op.toNat with
  | 0xBE => decide (f.o.toNat % 16 ≤ 14)
  | 0xC2 => decide (f.o.toNat % 16 ≤ 12)
  | _ => true

def instanceOk (p : Program) (c : TaskCode) (f : WordFields) : Bool :=
  let n := f.im.toNat
  match kindOfOp f.op.toNat with
  | some k => decide (1 ≤ n) && decide (n ≤ 0xFFFFFFFE) && tget n (instTable p) == some (c.task, k)
  | none =>
    if f.op = 0x3F then (match tget n (instTable p) with
      | some q => q.1 == c.task
      | none => false)
    else true

/-- AGREE: the source is defined and MOD matches it (R91, R267). -/
def agreeOk (p : Program) (f : WordFields) : Bool :=
  if f.op ≠ 0xF1 then true
  else
    let src := f.o.toNat
    let m := f.m.toNat
    if src < 16 ∨ (0x200 ≤ src ∧ src < 0x204) then m == 1
    else if 0x100 ≤ src ∧ src < 0x108 then
      (match p.tags.find? fun q => q.2.origin == .channel && !q.2.published && q.2.point == src with
       | some q => typeCode q.2.type == m
       | none => m == 8 || m == 9)
    else if src = 0x300 ∨ (0x400 ≤ src ∧ src < 0x404) then m == 7
    else false

/-- Entry of the routine that holds an index, and the index after its last word. -/
def routineStart (c : TaskCode) (i : Nat) : Nat := (c.routines.filter (· ≤ i)).foldl max 0

def routineEnd (c : TaskCode) (i : Nat) : Nat :=
  (c.routines.filter fun r => decide (i < r)).foldl min c.words.length

def isJump (f : WordFields) : Bool := f.op == 0xE0 || f.op == 0xE1 || f.op == 0xE2

def jumpOk (c : TaskCode) (i : Nat) (f : WordFields) : Bool :=
  !isJump f || (decide (f.im.toNat < c.words.length) && routineStart c f.im.toNat == routineStart c i)

def routineStarts (c : TaskCode) : List Nat := insertSorted 0 c.routines

def insertAll (xs ys : List Nat) : List Nat := xs.foldl (fun m x => insertSorted x m) ys

/-- Entries called from the routine that begins at an index. -/
def callsFrom (c : TaskCode) (start : Nat) : List Nat :=
  insertAll (((wordsOf c).filter fun w => wordOk w.1 && w.1.op == 0xE3 && routineStart c w.2 == start).map fun w => w.1.im.toNat) []

/-- Routines that n calls in a row reach from those given. -/
def callLevel (c : TaskCode) : Nat → List Nat → List Nat
  | 0, rs => rs
  | n + 1, rs => callLevel c n (rs.foldl (fun m r => insertAll (callsFrom c r) m) [])

/-- Routines that calls reach from those given, themselves among them. -/
def callReach (c : TaskCode) : Nat → List Nat → List Nat
  | 0, rs => rs
  | n + 1, rs => callReach c n (rs.foldl (fun m r => insertAll (callsFrom c r) m) rs)

def callTargetOk (c : TaskCode) (f : WordFields) : Bool := f.op != 0xE3 || c.routines.contains f.im.toNat

/-- A CALL that closes a cycle, and one that would be the 17th on a chain from the task routine. -/
def callOk (c : TaskCode) (i : Nat) (f : WordFields) : Bool :=
  f.op != 0xE3 ||
    (callTargetOk c f && !(callReach c c.routines.length [f.im.toNat]).contains (routineStart c i) &&
      !(callLevel c 16 [0]).contains (routineStart c i))

/-- Next instructions within a routine. The end of a path has none, and neither has a word that is not valid or a
jump out of the routine: checks 1 and 9 report those. -/
def successors (c : TaskCode) (f : WordFields) (i : Nat) : List Nat :=
  let next := if i + 1 < routineEnd c (routineStart c i) then [i + 1] else []
  let target := if jumpOk c i f then [f.im.toNat] else []
  if !wordOk f then []
  else
    match f.op.toNat with
    | 0xE0 => target
    | 0xE1 | 0xE2 => target ++ next
    | 0xE4 | 0xE5 => []
    | _ => next

/-- The instruction lets the lane go on to the next index. -/
def fallsThrough (f : WordFields) : Bool :=
  wordOk f && f.op != 0xE0 && f.op != 0xE4 && f.op != 0xE5

def depthChange (f : WordFields) : Int :=
  if f.op = 0x20 ∨ f.op = 0x21 ∨ f.op = 0x22 then 1 else if f.op = 0x23 then -1 else 0

/-- Relative nesting depths of the instructions reached from a routine's entry, and the indices reached with two. -/
def walk (c : TaskCode) (ws : Array W64) : Nat → List (Nat × Int) → Tbl Int → List Nat → Tbl Int × List Nat
  | 0, _, seen, bad => (seen, bad)
  | _ + 1, [], seen, bad => (seen, bad)
  | n + 1, (i, d) :: work, seen, bad =>
    match tget i seen with
    | some d' => walk c ws n work seen (if d = d' then bad else insertSorted i bad)
    | none =>
      match ws[i]? with
      | none => walk c ws n work seen bad
      | some w =>
        let f := unpackWord w
        walk c ws n ((successors c f i).map (fun j => (j, d + depthChange f)) ++ work) (tput i d seen) bad

def walkRoutine (c : TaskCode) (start : Nat) : Tbl Int × List Nat :=
  walk c c.words.toArray (3 * c.words.length + 3) [(start, 0)] [] []

/-- The instructions that a routine reaches: index, fields and relative depth before the instruction. -/
def reached (c : TaskCode) (start : Nat) : List (Nat × WordFields × Int) :=
  let ws := c.words.toArray
  (walkRoutine c start).1.filterMap fun p => (ws[p.1]?).map fun w => (p.1, unpackWord w, p.2)

/-- The depths at which a routine entered at the given depths enters the routines that it calls. -/
def callDepths (c : TaskCode) (start : Nat) (at_ : Int × Int) (m : Tbl (Int × Int)) : Tbl (Int × Int) :=
  (reached c start).foldl (fun m x =>
    let f : WordFields := x.2.1
    if (wordOk f && f.op == 0xE3 && callTargetOk c f) = true then
      let target := f.im.toNat
      let lo := at_.1 + x.2.2
      let hi := at_.2 + x.2.2
      tput target (match tget target m with
        | some y => (min lo y.1, max hi y.2)
        | none => (lo, hi)) m
    else m) m

/-- Least and greatest absolute depth at the entries of the routines, over chains of at most n more calls. -/
def entryDepths (c : TaskCode) : Nat → Tbl (Int × Int) → Tbl (Int × Int)
  | 0, m => m
  | n + 1, m => entryDepths c n (m.foldl (fun m' q => callDepths c q.1 q.2 m') m)

/-- Check 11: an instruction reached with two relative depths, a RET off relative depth 0, and a bracket that takes
the absolute depth out of 0 to 32 on some chain of calls. -/
def nestingFindings (c : TaskCode) : List Finding :=
  let entries := entryDepths c 16 [(0, (0, 0))]
  (routineStarts c).flatMap fun r =>
    let bad := (reached c r).filterMap fun x =>
      let d := x.2.2 + depthChange x.2.1
      let ret := decide (x.2.1.op = 0xE4) && decide (x.2.2 ≠ 0)
      let out := match tget r entries with
        | some q => (decide (0 < depthChange x.2.1) && decide (32 < q.2 + d)) ||
            (decide (depthChange x.2.1 < 0) && decide (q.1 + d < 0))
        | none => false
      if ret || out then some x.1 else none
    (insertAll bad (walkRoutine c r).2).map (atWord c 11)

/-- Check 12: a path past the last word of its routine, and a RET of the task routine. -/
def terminationFindings (c : TaskCode) : List Finding :=
  (if c.words.isEmpty then [atWord c 12 0] else []) ++
  (routineStarts c).flatMap fun r =>
    (reached c r).filterMap fun x =>
      if (r = 0 ∧ x.2.1.op = 0xE4 ∧ wordOk x.2.1) ∨ (fallsThrough x.2.1 = true ∧ routineEnd c r ≤ x.1 + 1) then some (atWord c 12 x.1)
      else none

/-- A counter's MOD value is one that its kind allows (R77). -/
def selectorOk (f : WordFields) : Bool :=
  match kindOfOp f.op.toNat with
  | some .ctu | some .ctd | some .ctud => (rowOf f).any fun r => r.mods.contains f.m.toNat
  | _ => true

/-- The checks 1 to 10 of each word of a task, in table order. -/
def wordFindings (p : Program) (c : TaskCode) : List Finding :=
  (wordsOf c).flatMap fun w =>
    let f := w.1
    let miss (check : Nat) (ok : Bool) : List Finding := if ok then [] else [atWord c check w.2]
    if !wordOk f then atWord c 1 w.2 :: miss 7 (selectorOk f)
    else
      miss 2 (tagTypesOk p f) ++ miss 3 ((tagsRead f).all (readOk p c)) ++ miss 4 ((tagsWritten f).all (writeOk p c)) ++
      miss 5 (localOk c f) ++ miss 6 (registersOk f) ++ miss 7 (instanceOk p c f) ++ miss 8 (agreeOk p f) ++
      miss 9 (jumpOk c w.2 f) ++ miss 10 (callOk c w.2 f)

/-- R97 for one task. Every check runs whatever another has found. DESIGN CHOICE (notes/assumptions/69.md): the manual
does not say which findings a task with several failing checks lists, nor the index of one about calls or depth: a word
that is not valid gets no check that needs its fields; a finding about calls names the CALL, one about depth the
bracket or RET at which it shows. -/
def taskFindings (p : Program) (c : TaskCode) : List Finding :=
  wordFindings p c ++ nestingFindings c ++ terminationFindings c

/-- Findings of the whole program set: instance count, points (R186), channels (R232, R243, R268), CAN (R299). -/
def tagFinding (code i : Nat) : Finding :=
  { code := code, item := itemTag, subject := i, task := noTask, detail := none }

/-- An output tag's channel is no input, an input tag's channel can be read (R243); an AIO channel in use (R267, R268). -/
def channelOk (s : State) (d : TagDecl) : Bool :=
  let code := d.point
  if h : code < 16 then
    let m := dioModeOf s ⟨code, h⟩
    d.type == .bool && (if d.published then m != 1 && m != 2 else m == 1 || m == 2)
  else if h : 0x100 ≤ code ∧ code < 0x108 then
    let m := aioModeOf s ⟨code - 0x100, by omega⟩
    isRealType d.type && (if d.published then decide (1 ≤ m) && decide (m ≤ 3) else m != 0)
  else if 0x200 ≤ code ∧ code < 0x204 then d.type == .bool && !d.published
  else if 0x300 ≤ code ∧ code < 0x304 then d.type == .bool && d.published
  else if 0x8000 ≤ code ∧ code < 0xA000 then !d.published && d.type != .time
  else if 0xA000 ≤ code ∧ code < 0xC000 then d.published && d.type != .time
  else false

/-- Data length by DLC (R295). -/
def dlcLength (dlc : Nat) : Nat :=
  match dlc with
  | 9 => 12
  | 10 => 16
  | 11 => 20
  | 12 => 24
  | 13 => 32
  | 14 => 48
  | 15 => 64
  | n => n

/-- Data bytes that a frame's identifier word and DLC stand for: a classical frame has at most 8, a remote frame none. -/
def canLength (word dlc : Nat) : Nat :=
  if bitAt word 30 then 0 else if bitAt word 29 then dlcLength dlc else min 8 dlc

def txoWord (s : State) (code : Nat) : Nat := cfg s (P.txoId (code / 0x1000 - 0xA) (code / 64 % 64))
def txoCtl (s : State) (code : Nat) : Nat := cfg s (P.txoControl (code / 0x1000 - 0xA) (code / 64 % 64))

/-- CAN bindings of R299. -/
def canOk (s : State) (tags : Tbl TagDecl) (i : Nat) (d : TagDecl) : Bool :=
  let first := d.point % 64
  let len := canBytes d.type
  if d.origin = .channel ∧ 0xA000 ≤ d.point ∧ d.point < 0xC000 then
    let ctl := txoCtl s d.point
    let ch := d.point / 0x1000 - 0xA
    let fdf := bitAt (txoWord s d.point) 29
    decide (d.point / 64 % 64 < 32) && decide (first + len ≤ canLength (txoWord s d.point) (ctl / 64 % 16)) &&
      (match d.writer with
       | some k => k.val == ctl / 4096 % 16
       | none => false) &&
      (!fdf || cfg s (P.canFormat ch) != 0) &&
      tags.all fun q => q.1 == i || q.2.origin != .channel || q.2.point / 64 != d.point / 64 ||
        decide (q.2.point % 64 + canBytes q.2.type ≤ first) || decide (first + len ≤ q.2.point % 64)
  else if d.origin = .channel ∧ 0x8000 ≤ d.point ∧ d.point < 0xA000 then decide (first + len ≤ 64)
  else true

def bindingFindings (s : State) (p : Program) : List Finding :=
  p.tags.flatMap fun q =>
    let d := q.2
    (if d.origin = .channel ∧ channelOk s d = false then [tagFinding fChannelBinding q.1] else []) ++
    (if isChannelOutput d ∧ triggerHolds s d.point = true then [tagFinding fTriggerChannel q.1] else []) ++
    (if canOk s p.tags q.1 d then [] else [tagFinding fCanBinding q.1]) ++
    (if (d.origin = .remote ∨ isNodeOutput d = true) ∧ sectionTypeOf d.type = 0 then [tagFinding fPointType q.1] else [])

/-- Output points of a task by node, as the container declares them. -/
def declaredPoints (p : Program) (k : TaskId) : List (Nat × Nat × ValType × W64) :=
  (p.tags.filter fun q => isNodeOutput q.2 && q.2.writer == some k).map fun q => (q.2.node, q.2.point, q.2.type, 0)

/-- Payload bytes of the barge of a task for a node. -/
def payloadOf (points : List (Nat × Nat × ValType × W64)) (node : Nat) : Nat :=
  ((outputSections ((points.filter fun x => x.1 == node).map fun x => x.2)).map fun x => 8 + (x.data.length + 7) / 8 * 8).foldl (· + ·) 0

def payloadFindings (s : State) (p : Program) : List Finding :=
  allTasks.flatMap fun k =>
    let points := declaredPoints p k
    (nodesOf points).filterMap fun n =>
      if payloadOf points n ≤ cfg s P.maxPayload then none
      else some { code := fPayloadFit, item := itemNode, subject := n, task := k.val, detail := none }

/-- Publications per second, summed over the tasks, in barges per 1,000 s (R199). -/
def bargeRate (s : State) (p : Program) : Nat :=
  (allTasks.map fun k => (nodesOf (declaredPoints p k)).length * 1000000000000 / max 1 (periodOf s k)).foldl (· + ·) 0

def verifyFindings (s : State) (p : Program) : List Finding :=
  p.codes.flatMap (taskFindings p) ++
  (if (instTable p).length ≤ 262144 then [] else [{ code := 7, item := itemInst, subject := (instTable p).length, task := noTask, detail := none }]) ++
  bindingFindings s p ++ payloadFindings s p ++
  (if bargeRate s p ≤ 1250000000 then [] else [{ code := fBargeRate, item := itemField, subject := 0, task := noTask, detail := none }])

/-! ### Quotas of a version, R359, R360 -/

def stateNeed (p : Program) : Nat := pages (32 * (instTable p).length)
def codeNeed (p : Program) : Nat := pages p.image.length

/-- View buffers: 32 bytes for each input tag and each foreign tag, one buffer a task. -/
def viewNeed (p : Program) : Nat :=
  (p.codes.map fun c => pages (32 * (c.view.length + (p.tags.filter fun q => isInput q.2 && q.2.writer == some c.task).length))).foldl (· + ·) 0

/-- BARGE use in KiB, with the program's output queues. -/
def bargeNeed (s : State) (p : Option Program) : Nat :=
  let pairs := match p with
    | some p => (allTasks.map fun k => (nodesOf (declaredPoints p k)).length).foldl (· + ·) 0
    | none => 0
  (4 * bargeUnit s * (enabledNodes s).length + 2 * bargeUnit s * pairs + 1023) / 1024 + 1024

def quotaOf (s : State) (c : Nat) : Nat := cfg s (P.quota c)

def quotaFits (s : State) (p : Program) : Bool :=
  decide (stateNeed p ≤ quotaOf s 1) && decide (codeNeed p ≤ quotaOf s 2) && decide (viewNeed p ≤ quotaOf s 3) &&
    decide (bargeNeed s (some p) ≤ quotaOf s 4)

/-- Words of the running and the staged code fit one lane's instruction SRAM (R96). -/
def wordCount (p : Program) : Nat := (p.codes.map fun c => c.words.length).foldl (· + ·) 0

/-! ### Exchange: concerned tasks, carry-over -/

def newInst (k : InstKind) (t : TaskId) : Inst :=
  { kind := k, task := t, value := 0, lastT := 0, preset := 0, isNew := true, resume := false, ts := .idle, q := false,
    prev2 := false, prev := false }

/-- The record that an instance of the new version begins with (R108). -/
def carryInst (insts : Tbl Inst) (n : Nat) (t : TaskId) (k : InstKind) : Inst :=
  match tget n insts with
  | some r => if r.kind = k ∧ r.task = t then r else newInst k t
  | none => newInst k t

def stagingOf (insts : Tbl Inst) (new : Program) : Tbl Inst := tmap (fun n q => carryInst insts n q.1 q.2) (instTable new)

/-- Writer tasks: every tag whose writer differs has both tasks concerned (R101). -/
def writerFindings (old : Option Program) (new : Program) : List Finding :=
  match old with
  | none => []
  | some p =>
    let con (w : Option TaskId) : Bool := match w with
      | some k => concerned old new k
      | none => true
    new.tags.filterMap fun q => match tget q.1 p.tags with
      | some d => if d.writer = q.2.writer ∨ (con d.writer && con q.2.writer) = true then none
          else some (tagFinding fWriterTask q.1)
      | none => none

/-! ### The exchange step, R104, R109, R110 -/

/-- The tag table of the new version (R109). -/
def carryTags (s : State) (new : Program) (epoch : Nat) : Tbl Tag :=
  tmap (fun i d => match tget i s.img.tags with
    | some t =>
      if t.decl.type ≠ d.type then newTag d epoch
      else if t.decl.node = d.node ∧ t.decl.point = d.point then { t with decl := d }
      else { t with decl := d, lastArrival := none, lastTaken := none }
    | none => newTag d epoch) new.tags

/-- Another execution holds the lanes. -/
def lanesBusy (s : State) : Bool := s.ctl.execs.any fun e => e.phase == .running

/-- The lanes go on with the waiting execution of the highest priority (R50). -/
def resumeNext (s : State) : State :=
  if lanesBusy s then s
  else
    let waiting := s.ctl.execs.filter fun e => e.phase == .preempted
    match sortBy (fun e => priorityOf s e.task) waiting with
    | [] => s
    | e :: _ =>
      match placeWhere s (fun x => x.task == e.task && x.phase == .preempted) with
      | some i => onExecs (lmod i fun x => { x with phase := .running }) s
      | none => s

/-- A task starts: its first tick is the first one at least 500 µs after the step, and its instances have RESUME set
(R34, R72). An offset that an earlier run left in force stays until R53 lets it go. -/
def startTask (k : TaskId) (s : State) : State :=
  let s := onTask k (fun x => { x with running := true, notBefore := nowOf s + 500000, lastTick := none }) s
  let s := onCtl (fun c =>
    { c with insts := tmap (fun _ r => if r.task = k then { r with resume := true } else r) c.insts,
             exchange := c.exchange.map fun x => { x with staging := tmap (fun n r =>
               if r.task = k ∧ carries c.insts n r = true then { r with resume := true } else r) x.staging } }) s
  onImg (fun im => { im with tags := tmap (fun _ t =>
    if isInput t.decl ∧ t.decl.writer = some k then { t with firstCommit := none } else t) im.tags }) s

/-- A task stops: an execution in progress is abandoned, and the lanes go on with what it had preempted (R34, R50). -/
def stopTask (k : TaskId) (s : State) : State :=
  let s := onTask k (fun x => { x with running := false }) s
  if s.ctl.execs.any fun e => e.task == k then
    resumeNext (onExecs (fun es => es.filter fun e => e.task != k) (voidTasks [k] s))
  else s

/-- Every concerned task is idle: from its step until its next commit begins (R103). -/
def taskIdle (s : State) (k : TaskId) : Bool :=
  !(s.ctl.execs.any fun e => e.task == k && (match e.phase with
    | .committing | .running | .preempted | .ended => true
    | .latched | .stepped => false))

/-- A module of the pair is in NAP or may enter it: PWR.SET takes a module in `STANDBY` there (R200, R384; log 24). -/
def napPossible (s : State) : Bool := s.mod.power == .nap || partnerNap s || s.mod.state == .standby || partnerStandby s

/-- Required hold time of a node in ns: twice the longest period of a task that publishes to it, plus 100 µs, or plus 60 ms where a
module of the pair may enter NAP (R200). -/
def holdCheck (s : State) : State :=
  match s.ctl.running with
  | none => s
  | some p =>
    (enabledNodes s).foldl (fun s i =>
      let node := cfg s (P.nodeId i)
      let longest := (allTasks.filter fun k => (nodesOf (declaredPoints p k)).contains node).foldl (fun m k => max m (periodOf s k)) 0
      let need := 2 * longest + if napPossible s then 60000000 else 100000
      let hold := usToNs (cfg s (P.nodeHold i))
      let short := decide (0 < longest) && decide (hold < need)
      let was := match tget node s.net.nodes with
        | some n => n.holdShort
        | none => false
      let s := onNet (fun n => { n with nodes := tmod node (fun x => { x with holdShort := short }) n.nodes }) s
      if short && !was then stage 0x0701 srcNode (le2 i ++ le2 node ++ le4 (hold / 1000) ++ le4 (need / 1000)) s else s) s

/-- An output-mode AIO channel that the new version binds no output tag to goes to its safe state (R268). -/
def freeAio (old : Option Program) (s : State) : State :=
  let bound (p : Program) (c : Fin 8) : Bool := p.tags.any fun q => isChannelOutput q.2 && q.2.point == aioCode c
  eachAio (fun c s =>
    let wasBound := match old with
      | some p => bound p c
      | none => false
    if wasBound && (outputTag s (aioCode c)).isNone then safeAio c s else s) s

/-- The module takes a new version at the step that produces `epoch`; its staging copy becomes the STATE copy. -/
def installProgram (new : Program) (staging : Tbl Inst) (epoch : Nat) (s : State) : State :=
  let old := s.ctl.running
  let dropped := forceConflicts s new
  let s := dropped.foldl (fun s i => stage 0x0302 srcModule (le4 i ++ le8 epoch ++ le4 new.version)
    (onImg (fun im => { im with forces := im.forces.filter fun f => f.tag != i }) s)) s
  let tags := carryTags s new epoch
  let gone := allTasks.filter fun k => (match old with
    | some p => (codeIn p k).isSome
    | none => false) && (codeIn new k).isNone
  let fresh := allTasks.filter fun k => (match old with
    | some p => (codeIn p k).isNone
    | none => true) && (codeIn new k).isSome && enabledTask s k
  let s := gone.foldl (fun s k => stopTask k s) s
  let s := freeAio old (onImg (fun im => { im with tags := tags }) s)
  let s := onCtl (fun c => { c with running := some new, staged := none, exchange := none, insts := staging, half := !c.half }) s
  let s := if s.mod.state = .active ∨ s.mod.state = .standby then fresh.foldl (fun s k => startTask k s) s else s
  holdCheck s

end Sys2Proof.Machine
end

