-- ==== Sys2Proof/Machine/CanBus.lean ====
section
/-! DEFINITION. The CAN channels: modes, bit-rate detection, filters and queues, transmit objects, errors, sleep and wake
(R290 to R308). -/

namespace Sys2Proof.Machine

open Sys2Proof

/-! ### Modes, R293 -/

def canModeCode : CanMode → Nat
  | .disabled => 0
  | .normal => 1
  | .listenOnly => 2
  | .autobaud => 3
  | .sleep => 4

/-- The wake condition that the settings name now; it holds from the entry to SLEEP (R308). -/
def wakeSetup (s : State) (ch : Fin 2) : CanWakeSetup :=
  { mode := cfg s (P.canWakeMode ch.val), id := cfg s (P.canWufId ch.val), idMask := cfg s (P.canWufIdMask ch.val),
    dlc := cfg s (P.canWufDlc ch.val), dataMask := cfg s (P.canWufData ch.val) }

/-- Changes a channel's mode: a batch ends where it leaves NORMAL, a background test where it leaves DISABLED. -/
def setCanMode (ch : Fin 2) (m : CanMode) (s : State) : State :=
  let old := s.can[ch].mode
  let s := if old = .normal ∧ m ≠ .normal then endBatches ch s else s
  let s := if old = .disabled ∧ m ≠ .disabled then abortBackground (blockCan ch) s else s
  let wake := if m = .sleep ∧ old ≠ .sleep then wakeSetup s ch else s.can[ch].wake
  onCan ch (fun c => { c with mode := m, wake := wake }) s

/-- Transmission is suppressed: a shared bus, and no claim (R302). -/
def canYielded (s : State) (ch : Fin 2) : Bool := cfgFlag s (P.canBusShared ch.val) && !holdsClaim s

/-- Timing words in use: an adopted candidate, or the settings (R294). -/
def canTiming (s : State) (ch : Fin 2) : W32 × W32 :=
  s.can[ch].adopted.getD (BitVec.ofNat 32 (cfg s (P.canNominal ch.val)), BitVec.ofNat 32 (cfg s (P.canData ch.val)))

def setObject (o : Fin 32) (g : TxObject → TxObject) (c : Can) : Can := { c with objects := vmod c.objects o g }

/-- Takes an offered frame off its queue. -/
def takeOffered (o : Option (Fin 32)) (c : Can) : Can :=
  match o with
  | some n => setObject n (fun x => { x with pending := none }) c
  | none => { c with hostQueue := c.hostQueue.drop 1 }

/-- The batch of the head frame: one more frame acknowledged; the entry ends DONE with the last (R301). -/
def batchSent (ch : Fin 2) (journal : Nat) (s : State) : State :=
  let count (b : CanBatch) : CanBatch := if b.journal = journal then { b with sent := b.sent + 1 } else b
  let s := onCan ch (fun c => { c with batches := c.batches.map count }) s
  match s.can[ch].batches.find? fun b => b.journal == journal with
  | none => s
  | some b =>
    if s.can[ch].hostQueue.any fun f => f.journal == journal then s
    else
      let s := onCan ch (fun c => { c with batches := c.batches.filter fun x => x.journal != journal }) s
      jend journal .done stOk (jmod journal (fun e => { e with detail := b.sent, step := e.steps }) s)

/-- Fault confinement after a counter has changed (R303). -/
def confine (ch : Fin 2) (s : State) : State :=
  let c := s.can[ch]
  if c.confinement = .busOff then s
  else if 256 ≤ c.tec then
    let auto := cfgFlag s (P.canBusoffAuto ch.val)
    let s := onCan ch (fun c => { c with confinement := .busOff, busOffSeen := true, busOffEntries := sat32 (c.busOffEntries + 1), recovering := auto }) s
    endBatches ch (stage 0x0B02 (srcCan ch) [byteOf (min c.tec 255)] s)
  else if 128 ≤ c.tec ∨ 128 ≤ c.recCnt then
    if c.confinement = .errorPassive then s
    else
      let s := onCan ch (fun c => { c with confinement := .errorPassive, passiveSeen := true }) s
      stage 0x0B01 (srcCan ch) [byteOf (min c.tec 255), byteOf (min c.recCnt 255)] s
  else onCan ch (fun c => { c with confinement := .errorActive }) s

/-- What an acknowledged frame of the module does to its channel (R300, R303, R305). -/
def frameSent (ch : Fin 2) (f : CanFrame) (s : State) : State :=
  confine ch (onCan ch (fun c =>
    { c with sent := c.sent ++ [f], sentCount := sat32 (c.sentCount + 1), tec := c.tec - 1, ackErrors := 0, lonely := false }) s)

/-- The frame that was on the bus when the module yielded completes; its batch, which has ended, counts it (R301, R302). -/
def frameLeft (ch : Fin 2) (sof : Nat) (s : State) : State :=
  match s.can[ch].leaving with
  | none => s
  | some (f, journal) =>
    if s.can[ch].yieldedAt ≤ sof then s
    else
      let s := frameSent ch f (onCan ch (fun c => { c with leaving := none }) s)
      if journal = 0 then s else jmod journal (fun e => { e with detail := e.detail + 1 }) s

/-- CAN_FRAME_TRANSMITTED: the offered frame, on the bus since `sof`, has won arbitration and is acknowledged (R300, R301, R305). -/
def execCanFrameTransmitted (t : Nat) (ch : Fin 2) (sof : Nat) (s : State) : Host.Outcome State Fault Refusal :=
  let s := atTime t s
  let c := s.can[ch]
  .next (if c.mode ≠ .normal ∨ c.confinement = .busOff then s
    else if canYielded s ch then frameLeft ch sof s
    else match offered c with
      | none => s
      | some (o, f) =>
        let journal := match o with
          | some _ => 0
          | none => (c.hostQueue.head?.map fun h => h.journal).getD 0
        let s := frameSent ch f (onCan ch (takeOffered o) s)
        if journal = 0 then s else batchSent ch journal s)

/-! ### Transmit objects, R298 -/

/-- The value's bytes at its place in the data, in the object's byte order. -/
def putData (data : List Byte) (first : Nat) (bs : List Byte) : List Byte :=
  data.zipIdx.map fun p => if first ≤ p.2 ∧ p.2 < first + bs.length then bs.getD (p.2 - first) 0 else p.1

/-- The frame that the committed values form for an object. -/
def formFrame (s : State) (ch : Fin 2) (o : Fin 32) : CanFrame :=
  let ctl := cfg s (P.txoControl ch.val o.val)
  let dlc := ctl / 64 % 16
  let base := (0xA + ch.val) * 4096 + o.val * 64
  let big := bitAt (cfg s (P.canTxoBig ch.val)) o.val
  let tags := s.img.tags.filter fun p => isChannelOutput p.2.decl && p.2.decl.point / 64 * 64 == base
  let bytes (p : Nat × Tag) : List Byte :=
    let n := canBytes p.2.decl.type
    let le := leBytes n (newest p.2 s.img.epoch).value.toNat
    if big then le.reverse else le
  { word := BitVec.ofNat 32 (cfg s (P.txoId ch.val o.val)), dlc := dlc, brs := bitAt ctl 10, esi := false,
    data := tags.foldl (fun d p => putData d (p.2.decl.point % 64) (bytes p)) (zeros (canLength (cfg s (P.txoId ch.val o.val)) dlc)) }

/-- At the step of task k, the frames of its objects are formed for the release. -/
def formObjects (k : TaskId) (release : Nat) (s : State) : State :=
  ([0, 1] : List (Fin 2)).foldl (fun s ch =>
    allObjects.foldl (fun s o =>
      let ctl := cfg s (P.txoControl ch.val o.val)
      if bitAt ctl 11 && ctl / 4096 % 16 == k.val then
        let f := formFrame s ch o
        onCan ch (setObject o fun x => { x with formed := some (f, release) }) s
      else s) s) s

/-- CAN_TXO_RELEASE: at T + O the frame enters arbitration, or is suppressed (R298, R302). -/
def execCanTxoRelease (t : Nat) (ch : Fin 2) (ob : Fin 32) (s : State) : Host.Outcome State Fault Refusal :=
  let s := atTime t s
  .next (match s.can[ch].objects[ob].formed with
    | none => s
    | some (f, release) =>
      if t < release then s
      else
        let s := onCan ch (setObject ob fun x => { x with formed := none }) s
        if canYielded s ch then onCan ch (fun c => { c with suppressed := sat32 (c.suppressed + 1) }) s
        else
          let lost := if s.can[ch].objects[ob].pending.isSome then 1 else 0
          onCan ch (fun c => setObject ob (fun x => { x with pending := some f }) { c with txOverwritten := sat32 (c.txOverwritten + lost) }) s)

/-- CAN_SEND_TIMEOUT: the batch ends PARTIAL (R301). -/
def execCanSendTimeout (t : Nat) (ch : Fin 2) (journal : Nat) (s : State) : Host.Outcome State Fault Refusal :=
  let s := atTime t s
  .next (match s.can[ch].batches.find? fun b => b.journal == journal with
    | some b => if b.acceptedAt + msToNs (cfg s (P.canSendTimeout ch.val)) ≤ t then endBatch ch b s else s
    | none => s)

/-! ### Bit-rate detection, R294 -/

/-- The channel moves to the next candidate; after four passes it gives up. -/
def nextCandidate (t : Nat) (ch : Fin 2) (s : State) : State :=
  let c := s.can[ch]
  let last := decide (c.candidates.length ≤ c.candidate + 1)
  let passes := if last then c.passes + 1 else c.passes
  if 4 ≤ passes then
    setCanMode ch .disabled (onCan ch (fun c => { c with autobaudFailed := true, passes := passes }) s)
  else
    onCan ch (fun c => { c with candidate := if last then 0 else c.candidate + 1, passes := passes, goodFrames := 0,
                                brsSeen := false, lastComplete := t }) s

/-- AUTOBAUD_DWELL_EXPIRY. -/
def execAutobaudDwellExpiry (t : Nat) (ch : Fin 2) (s : State) : Host.Outcome State Fault Refusal :=
  let s := atTime t s
  .next (if s.can[ch].mode = .autobaud ∧ s.can[ch].lastComplete + msToNs (cfg s (P.canDwell ch.val)) ≤ t then nextCandidate t ch s else s)

/-- The present candidate carries data timing. -/
def hasDataTiming (c : Can) : Bool :=
  match c.candidates[c.candidate]? with
  | some x => x.2 != 0
  | none => false

/-- An error-free frame during the search: the second on one candidate confirms it. -/
def searchFrame (t : Nat) (ch : Fin 2) (f : CanFrame) (s : State) : State :=
  let c := s.can[ch]
  if f.word.getLsbD 29 && !hasDataTiming c then nextCandidate t ch s
  else
    let seen := c.brsSeen || f.brs
    if c.goodFrames + 1 < 2 then onCan ch (fun c => { c with goodFrames := c.goodFrames + 1, brsSeen := seen, lastComplete := t }) s
    else
      let s := onCan ch (fun c => { c with rateFound := true, dataUnconfirmed := !seen, goodFrames := 2, brsSeen := seen, lastComplete := t }) s
      setCanMode ch .listenOnly s

/-! ### Receiving, R295 to R297 -/

/-- A word matches an entry under its mask. -/
def wordMatches (word match_ mask : Nat) : Bool := (BitVec.ofNat 32 word ^^^ BitVec.ofNat 32 match_) &&& BitVec.ofNat 32 mask == 0

/-- A filter entry is enabled: one that uses its slot field, MAP, always; any other, REJECT among them, only with a mask that is
not zero (R295). -/
def filterOn (s : State) (ch : Fin 2) (i : Nat) : Bool :=
  decide (192 ≤ cfg s (P.filterAction ch.val i)) || cfg s (P.filterMask ch.val i) != 0

/-- Action of the first entry that matches, with its index: 0 REJECT, 1 RXQ0, 2 RXQ1, 3 MAP with its slot. -/
def routeOf (s : State) (ch : Fin 2) (word : Nat) : Nat × Nat × Nat :=
  match (List.range 64).find? fun i => filterOn s ch i && wordMatches word (cfg s (P.filterMatch ch.val i)) (cfg s (P.filterMask ch.val i)) with
  | some i =>
    let a := cfg s (P.filterAction ch.val i)
    (a / 64, a % 64, i)
  | none => (cfg s (P.canDefaultRoute ch.val), 0, 0xFF)

/-- A record enters a queue, its shadow buffer, or is discarded (R296). -/
def pushRecord (r : CanRecord) (q : RxQueue) : RxQueue :=
  let stored := { r with lostBefore := q.lost }
  if q.records.length < 64 then { q with records := q.records ++ [stored], lost := false }
  else if q.headOpen ∧ q.shadow = none then { q with shadow := some stored, lost := false }
  else { q with overflows := sat32 (q.overflows + 1), lost := true }

def toQueue (ch : Fin 2) (n : Fin 2) (r : CanRecord) (headOpen : Bool) (s : State) : State :=
  let q := pushRecord r { s.can[ch].rxq[n] with headOpen := headOpen }
  let s := onCan ch (fun c => { c with rxq := c.rxq.set n q, rxOverflowSeen := c.rxOverflowSeen || q.lost }) s
  if q.lost then overrun (sluiceCanRecord ch) s else s

/-- A frame that the controller accepts; `headOpen` where CAN.RECV holds the head of its queue open. -/
def acceptFrame (ch : Fin 2) (sof : Nat) (f : CanFrame) (headOpen : Bool) (s : State) : State :=
  let s := onCan ch (fun c => { c with received := sat32 (c.received + 1) }) s
  let route := routeOf s ch f.word.toNat
  let r : CanRecord := { time := sof, frame := f, lostBefore := false, filter := route.2.2 }
  match route.1 with
  | 1 => toQueue ch 0 r headOpen s
  | 2 => toQueue ch 1 r headOpen s
  | 3 => onCan ch (fun c => { c with slots := vmod c.slots (chanOf (by decide) route.2.1) fun _ => some r }) s
  | _ => s

/-- Receive error counter after a good frame, ISO 11898-1. -/
def goodRec (n : Nat) : Nat := if 127 < n then 127 else n - 1

/-- One-shot transmission: the frame is withdrawn after its first error or lost
arbitration (R300, R301). -/
def withdrawOneShot (ch : Fin 2) (o : Option (Fin 32)) (s : State) : State :=
  match o with
  | some n => if cfgFlag s (P.canOneShot ch.val) then onCan ch (setObject n fun x => { x with pending := none }) s else s
  | none =>
    match s.can[ch].hostQueue.head? with
    | some h =>
      if h.oneShot then
        match s.can[ch].batches.find? fun b => b.journal == h.journal with
        | some b => endBatch ch b s
        | none => s
      else s
    | none => s

/-- The frame that the channel offered lost arbitration to one that it receives: in one-shot transmission it is withdrawn (R300). -/
def lostArbitration (ch : Fin 2) (s : State) : State :=
  match offered s.can[ch] with
  | some x => if canYielded s ch then s else withdrawOneShot ch x.1 s
  | none => s

/-- CAN_FRAME_RECEIVE (R290, R294 to R297): `beat` where the channel's own frame lost arbitration to it, `headOpen` where CAN.RECV
holds the head of its queue open. A received FD frame is a protocol exception on a channel of classical format. -/
def execCanFrameReceive (t : Nat) (ch : Fin 2) (sof : Nat) (frame : CanFrame) (beat headOpen : Bool) (s : State) :
    Host.Outcome State Fault Refusal :=
  let s := atTime t s
  let c := s.can[ch]
  let fd := frame.word.getLsbD 29
  .next (match c.mode with
    | .autobaud => searchFrame t ch frame s
    | .normal =>
      if c.confinement = .busOff ∨ (fd = true ∧ cfg s (P.canFormat ch.val) = 0) then s
      else
        let s := confine ch (onCan ch (fun c => { c with recCnt := goodRec c.recCnt }) (if beat then lostArbitration ch s else s))
        acceptFrame ch sof frame headOpen s
    | .listenOnly =>
      if fd && cfg s (P.canFormat ch.val) == 0 && !c.rateFound then s else acceptFrame ch sof frame headOpen s
    | _ => s)

/-! ### Errors, R303 to R305 -/

/-- A bit error in the data field of the module's own frame; the eighth on one identifier within 1 s is a clash. -/
def noteClash (t : Nat) (ch : Fin 2) (word : W32) (s : State) : State :=
  let s := onCan ch (fun c => { c with clashErrors := (c.clashErrors.filter fun x => decide (t < x.2 + 10000000000)) ++ [(word, t)] }) s
  let n := (s.can[ch].clashErrors.filter fun x => x.1 == word && decide (t ≤ x.2 + 1000000000)).length
  if 8 ≤ n ∧ s.can[ch].clash = false then
    stage 0x0B03 (srcCan ch) (le4 word.toNat) (onCan ch (fun c => { c with clash := true, clashSeen := true, clashCount := sat32 (c.clashCount + 1) }) s)
  else s

/-- An acknowledgement error; the sixteenth in a row means a lonely channel. -/
def noteAckError (ch : Fin 2) (word : W32) (s : State) : State :=
  let s := onCan ch (fun c => { c with ackErrors := c.ackErrors + 1 }) s
  if 16 ≤ s.can[ch].ackErrors ∧ s.can[ch].lonely = false then
    stage 0x0B04 (srcCan ch) (le4 word.toNat) (onCan ch (fun c => { c with lonely := true, lonelySeen := true }) s)
  else s

/-- An error while the module's own frame is on the bus; one that the module has withdrawn since is not sent again. -/
def transmitError (t : Nat) (ch : Fin 2) (e : CanError) (s : State) : State :=
  let left : Option (Option (Fin 32) × CanFrame) := s.can[ch].leaving.map fun x => (none, x.1)
  match if canYielded s ch then left else offered s.can[ch] with
  | none => s
  | some (o, f) =>
    let s := onCan ch (fun c => { c with leaving := none }) s
    let passive := s.can[ch].confinement == .errorPassive
    let s := match e with
      | .bitInData w => noteClash t ch w s
      | .ack _ => noteAckError ch f.word s
      | _ => s
    let s := match e with
      | .ack dominant => if passive && !dominant then s else onCan ch (fun c => { c with tec := c.tec + 8 }) s
      | _ => onCan ch (fun c => { c with tec := c.tec + 8, ackErrors := 0 }) s
    confine ch (withdrawOneShot ch o s)

/-- CAN_BUS_ERROR: counted in NORMAL; in a search it moves on; elsewhere the controller does not participate. -/
def execCanBusError (t : Nat) (ch : Fin 2) (transmitting : Bool) (e : CanError) (s : State) : Host.Outcome State Fault Refusal :=
  let s := atTime t s
  let c := s.can[ch]
  .next (match c.mode with
    | .autobaud => match e with
      | .fdFrame => if hasDataTiming c then s else nextCandidate t ch s
      | _ => nextCandidate t ch s
    | .normal =>
      if c.confinement = .busOff ∨ e = .fdFrame then s
      else if transmitting then transmitError t ch e s
      else confine ch (onCan ch (fun c => { c with recCnt := min (c.recCnt + 1) 255 }) s)
    | _ => s)

/-- CAN_BUSOFF_RECOVERY_COMPLETE. -/
def execCanBusoffRecoveryComplete (t : Nat) (ch : Fin 2) (s : State) : Host.Outcome State Fault Refusal :=
  let s := atTime t s
  .next (if s.can[ch].confinement = .busOff ∧ s.can[ch].recovering = true then
      onCan ch (fun c => { c with confinement := .errorActive, recovering := false, tec := 0, recCnt := 0 }) s
    else s)

/-- CLASH_CLEAR_TIMEOUT: 10 s without a clash error (R304). -/
def execClashClearTimeout (t : Nat) (ch : Fin 2) (s : State) : Host.Outcome State Fault Refusal :=
  let s := atTime t s
  .next (if s.can[ch].clashErrors.all fun x => decide (x.2 + 10000000000 ≤ t) then
      onCan ch (fun c => { c with clash := false, clashErrors := [] }) s
    else s)

/-! ### Sleep and wake, R306, R307 -/

/-- Every channel goes to sleep with the module (R306). -/
def sleepCan (ch : Fin 2) (s : State) : State :=
  if s.can[ch].mode = .disabled ∨ s.can[ch].mode = .sleep then s
  else setCanMode ch .sleep (onCan ch (fun c => { c with beforeSleep := c.mode }) s)

/-- The condition that CAN_WAKE_MODE named at the entry to SLEEP holds. -/
def wakeHolds (s : State) (ch : Fin 2) (cause : CanWakeCause) : Bool :=
  let w := s.can[ch].wake
  match cause with
  | .dominant => w.mode == 1
  | .frameErrors => w.mode == 2
  | .frame f =>
    w.mode == 2 && !f.word.getLsbD 29 && wordMatches f.word.toNat w.id w.idMask && f.dlc == w.dlc &&
      (w.dataMask == 0 || (BitVec.ofNat 64 (natAt f.data 0 8) &&& BitVec.ofNat 64 w.dataMask) != 0)

def wakeData (cause : CanWakeCause) : List Byte :=
  match cause with
  | .dominant => 0 :: zeros 12
  | .frame f => 1 :: (le4 f.word.toNat ++ sliceAt f.data 0 8)
  | .frameErrors => 2 :: zeros 12

/-- CAN_WAKE: the channel returns to its mode before SLEEP; in DORMANT the module wakes where the source is enabled. -/
def execCanWake (t : Nat) (ch : Fin 2) (cause : CanWakeCause) (s : State) : Host.Outcome State Fault Refusal :=
  let s := atTime t s
  .next (if s.can[ch].mode = .sleep ∧ wakeHolds s ch cause = true then
      let s := stage 0x0B05 (srcCan ch) (wakeData cause) (onCan ch (fun c => { c with wakeSeen := true }) s)
      let s := setCanMode ch s.can[ch].beforeSleep s
      if bitAt (cfg s P.wakeSources) ch.val then beginWake ch.val s else s
    else s)

/-! ### CAN_STATUS and commits -/

/-- CONFINEMENT: a channel that receives or sleeps without transmitting does not participate; a DISABLED channel reads the field's reset
value 0b00 (R305). -/
def confinementCode (c : Can) : Nat :=
  if c.mode = .disabled then 0
  else if c.mode = .normal then
    match c.confinement with
    | .errorActive => 0
    | .errorPassive => 1
    | .busOff => 2
    | .notParticipating => 3
  else 3

def canStatusWord (s : State) (ch : Fin 2) : Nat :=
  let c := s.can[ch]
  confinementCode c * 2 ^ 30 + canModeCode c.mode * 2 ^ 27 + flag 26 c.rateFound + flag 25 c.dataUnconfirmed +
    flag 24 c.autobaudFailed + c.candidate % 8 * 2 ^ 21 + flag 20 c.clash + flag 19 c.lonely + flag 18 (canYielded s ch) +
    flag 17 (decide (64 ≤ c.rxq[0].records.length)) + flag 16 (decide (64 ≤ c.rxq[1].records.length)) + flag 7 c.clashSeen +
    flag 6 c.lonelySeen + flag 5 c.busOffSeen + flag 4 c.passiveSeen + flag 3 c.rxOverflowSeen + flag 2 c.wakeSeen

/-- The module has been released, so that an enabled channel runs (R293). -/
def released_ (s : State) : Bool := decide (4 ≤ stateCode s.mod.state)

/-- A commit: an adopted candidate ends with it, and settings of the channel that it changes start, stop or restart its controller
(R293, R294). -/
def commitCan (ch : Fin 2) (ids : List Nat) (s : State) : State :=
  let enable := ids.contains (P.canEnable ch.val)
  let timing := ids.any fun i => i == P.canNominal ch.val || i == P.canData ch.val || i == P.canFormat ch.val
  let s := onCan ch (fun c => { c with adopted := none }) s
  if enable && !cfgFlag s (P.canEnable ch.val) then setCanMode ch .disabled s
  else if enable && released_ s && s.can[ch].mode == .disabled then setCanMode ch .normal s
  else if timing && s.can[ch].mode == .autobaud then
    setCanMode ch .normal (onCan ch (fun c => { c with rateFound := false }) s)
  else s

end Sys2Proof.Machine
end

