-- ==== Sys2Proof/Machine/Ports.lean ====
section
/-! DEFINITION. The four-port switch: forwarding, classes and gates, learned addresses, the ring (R211 to R220, R230). -/

namespace Sys2Proof.Machine

open Sys2Proof

/-! ### Gate control lists, R218 to R220 -/

def gateOpen (entry : W32) (cls : Nat) : Bool := bitAt entry.toNat (24 + cls)

/-- The intervals of one cycle for a class: entries in order, cut off at the end of the cycle, the last one extended. -/
def cycleSlots (cls : Nat) : Nat → List W32 → List (Nat × Bool)
  | _, [] => []
  | left, [e] => [(left, gateOpen e cls)]
  | left, e :: r =>
    let n := e.toNat % 2 ^ 24
    if left ≤ n then [(left, gateOpen e cls)] else (n, gateOpen e cls) :: cycleSlots cls (left - n) r

def slotsOf (g : GateList) (cls : Nat) : List (Nat × Bool) := cycleSlots cls (max 1 g.cycle) (g.entries.take g.length)

/-- Position in the cycle at an instant. -/
def cycleOffset (g : GateList) (t : Nat) : Nat := (t + max 1 g.cycle - g.base % max 1 g.cycle) % max 1 g.cycle

/-- The slots of one cycle beginning at an offset. -/
def rotateSlots : Nat → List (Nat × Bool) → List (Nat × Bool) → List (Nat × Bool)
  | _, [], done => done
  | off, (n, o) :: r, done => if off < n then (n - off, o) :: r ++ done ++ [(off, o)] else rotateSlots (off - n) r (done ++ [(n, o)])

def always : Nat := 10 ^ 15

/-- How long the gate of a class stays open from an instant on: 0 where it is closed. -/
def openNs (g : GateList) (cls t : Nat) : Nat :=
  if g.length = 0 then always
  else
    let xs := rotateSlots (cycleOffset g t) (slotsOf g cls) []
    if xs.all fun x => x.2 then always else ((xs.takeWhile fun x => x.2).map fun x => x.1).foldl (· + ·) 0

/-- How long the gate of a class of a port stays open, with a list that is to take effect (R219, R220). -/
def openFor (p : Port) (cls t : Nat) : Nat :=
  let n := openNs p.gcl cls t
  match p.nextGcl with
  | some (g, at_) => if t + n < at_ then n else at_ - t + openNs g cls at_
  | none => n

/-- Lengths of the open intervals of a class over the cycle, runs of open entries taken together. -/
def openRuns : List (Nat × Bool) → List Nat
  | [] => []
  | (n, o) :: r =>
    match o, r, openRuns r with
    | true, (_, true) :: _, x :: rest => (n + x) :: rest
    | true, _, xs => n :: xs
    | false, _, xs => xs

/-- Open intervals of a class, each with the part that runs into the next cycle. -/
def openIntervals (g : GateList) (cls : Nat) : List Nat :=
  if g.length = 0 then [always]
  else
    let xs := slotsOf g cls
    match xs.findIdx? fun x => !x.2 with
    | none => [always]
    | some i => openRuns (xs.drop i ++ xs.take i)

/-- Entry in force at an instant: its number and its gates. -/
def entryAt (g : GateList) (t : Nat) : Nat × Byte :=
  if g.length = 0 then (0, 0xFF)
  else
    let walk := (g.entries.take g.length).zipIdx.foldl (fun (m : Nat × Option (Nat × Byte)) p =>
      match m.2 with
      | some _ => m
      | none =>
        let n := p.1.toNat % 2 ^ 24
        if m.1 < n ∨ p.2 + 1 = g.length then (0, some (p.2, BitVec.ofNat 8 (p.1.toNat / 2 ^ 24))) else (m.1 - n, none)) (cycleOffset g t, none)
    walk.2.getD (0, 0xFF)

def enterEntry (t : Nat) (p : Port) : Port :=
  let e := entryAt p.gcl t
  { p with gclIndex := e.1, gates := e.2, gclCycleStart := t - cycleOffset p.gcl t }

/-- The list that the committed settings name for port p. -/
def committedGcl (s : State) (p : Fin 3) : GateList :=
  { length := cfg s (P.gclLength (p.val + 1)), cycle := cfg s (P.gclCycle (p.val + 1)), base := cfg s (P.gclBase (p.val + 1)),
    entries := (List.range (cfg s (P.gclLength (p.val + 1)))).map fun j => BitVec.ofNat 32 (cfg s (P.gclEntry (p.val + 1) j)) }

/-- First cycle start of a list at or after an instant. -/
def nextCycle (g : GateList) (t : Nat) : Nat :=
  let c := max 1 g.cycle
  t + (c - cycleOffset g t) % c

/-- A committed list waits for its first cycle start at least 1 ms after the step (R220). -/
def scheduleGcl (p : Fin 3) (s : State) : State :=
  let g := committedGcl s p
  let now := s.sw.ports[p]
  let planned := match now.nextGcl with
    | some x => x.1
    | none => now.gcl
  if g = planned then s else onPort p (fun x => { x with nextGcl := some (g, nextCycle g (nowOf s + 1000000)) }) s

/-! ### Speeds and transmission times -/

def speedCode (s : State) (p : Fin 3) : Nat := cfg s (P.portSpeed (p.val + 1))

/-- Tenths of a ns per byte. -/
def bytePace (code : Nat) : Nat :=
  match code with
  | 1 => 80
  | 2 => 32
  | _ => 8

/-- Transmission time in ns of a frame with its preamble. -/
def sendTime (s : State) (p : Fin 3) (length : Nat) : Nat := ((length + 8) * bytePace (speedCode s p) + 9) / 10

/-- The class of a frame at its egress ports (R213). -/
def classOf (s : State) (ingress : Fin 3) (f : PortFrame) : Nat :=
  match f.vlan with
  | some v => v.2
  | none => cfg s (P.portDefaultPcp (ingress.val + 1))

/-! ### PTP messages on the wire, R226 to R230 -/

/-- Latency compensation of a port in ns, from its picoseconds (R228). -/
def latencyNs (ps : Nat) : Nat := (ps + 500) / 1000

def txLatency (s : State) (p : Fin 3) : Nat := latencyNs (cfg s (P.portTxLatency (p.val + 1)))

def rxLatency (s : State) (p : Fin 3) : Nat := latencyNs (cfg s (P.portRxLatency (p.val + 1)))

/-- Event messages have the type codes 0 to 3. -/
def isEvent (m : PtpFrame) : Bool := decide (m.type < 4)

/-- Peer delay is measured: under 802.1AS, or with the peer-to-peer mechanism (R226). -/
def peerDelay (s : State) : Bool := cfg s P.ptpProfile == 2 || cfg s P.ptpDelayMech == 1

/-- The switch is a transparent clock (R226, R230). -/
def transparent (s : State) : Bool := cfg s P.ptpProfile == 1 && cfg s P.ptpRole == 0 && s.mod.power != .dormant

/-- The servo enters a state; a grandmaster has no clock above it (R222, R240). -/
def setServo (t : Nat) (v : ServoState) (s : State) : State :=
  if s.time.servo = v then s
  else
    let keep := v == .locked || v == .grandmaster
    let s := onTime (fun u => { u with servo := v, lockedSince := if keep then some t else none, goodSyncs := 0 }) s
    let s := if v = .grandmaster then
        onTime (fun u => { u with masterSelected := false, master := none, masterPort := none, masterLostAt := none, selfSelected := true,
                                  stepsRemoved := 0, slowPort := false, gmIdentity := Config.clockIdentity }) s
      else s
    raiseInt intTime s

/-- A third exchange in a row is abandoned: lock is lost. To which state is DESIGN CHOICE (log 37). -/
def loseLock (t : Nat) (s : State) : State :=
  if 3 ≤ s.time.abandonedRun ∧ s.time.servo = .locked then setServo t .acquiring s else s

/-- The module sends Sync as a time-aware relay of another grandmaster (R227). -/
def relaying (s : State) : Bool := cfg s P.ptpProfile == 2 && s.time.masterSelected

/-- Correction that a relayed Sync and its Follow_Up carry: the received one, the residence time and the delay of the upstream link,
scaled by the rate ratio (R227). -/
def relayCorrection (s : State) (egress : Nat) : Int :=
  match s.time.syncOrigin, s.time.masterPort with
  | some (_, c, rx), some i => c + Config.rateScaled ((egress : Int) - rx + s.time.linkDelay[i]) s.time.freqPpb
  | _, _ => 0

/-- The transmit timestamp of an event message enters the port's queue of 16, or is discarded; the Keeper then abandons the exchange,
and with the third in a row lock is lost (R228, R229). -/
def txStamp (t : Nat) (p : Fin 3) (type id : Nat) (s : State) : State :=
  let at_ := t + txLatency s p
  let stamp : TxStamp :=
    { msgType := type, domain := cfg s P.ptpDomain, sequenceId := id, stamp := BitVec.ofNat 32 at_, takenAt := at_, waitsFrom := t }
  if s.sw.ports[p].txts.length < 16 then onPort p (fun x => { x with txts := x.txts ++ [stamp] }) s
  else
    let s := onPort p (fun x => { x with txtsOvf := true, txtsOverflows := min (x.txtsOverflows + 1) 0xFFFF }) s
    let s := onTime (fun u =>
      { u with abandoned := sat32 (u.abandoned + 1), abandonedRun := u.abandonedRun + 1,
               delayTx := if type = 0 then u.delayTx else vmod u.delayTx p fun _ => none }) s
    loseLock t (stage 0x0802 (srcPort p) (le2 s.sw.ports[p].txtsOverflows) (overrun (sluiceTxStamp p) s))

/-- What the one-step correction does to the message's carrier (R230). -/
def correctedCarrier : PtpCarrier → PtpCarrier
  | .ipv4 _ => .ipv4 0
  | .ipv6 false _ => .ipv6 false true
  | c => c

/-- A forwarded event message takes the residence time, and a Sync under the peer-to-peer mechanism also the delay of its ingress
link (R230). A Sync of the module as a relay takes the correction of R227. -/
def corrected (s : State) (t : Nat) (egress : Fin 3) (q : QueuedFrame) : PortFrame :=
  match q.frame.body, q.ingressAt, q.ingress with
  | .ptp m, some a, some i =>
    if isEvent m && transparent s then
      let residence : Int := (t + txLatency s egress : Nat) - ((a : Int) - rxLatency s i)
      let link : Int := if m.type = 0 ∧ peerDelay s = true then s.time.linkDelay[i] else 0
      { q.frame with body := .ptp { m with correction := m.correction + residence + link, carrier := correctedCarrier m.carrier } }
    else q.frame
  | .ptp m, none, none =>
    if m.type = 0 ∧ relaying s = true then
      { q.frame with body := .ptp { m with correction := relayCorrection s (t + txLatency s egress) } }
    else q.frame
  | _, _, _ => q.frame

/-- An event message whose checksum is recomputed is stored (R230). -/
def mustStore (s : State) (f : PortFrame) : Bool :=
  match f.body with
  | .ptp m => isEvent m && transparent s && (match m.carrier with
    | .ipv6 trailing _ => !trailing
    | _ => false)
  | _ => false

/-! ### Sending, R219 -/

/-- The frame may start now: nothing holds it, the ring does not block the port, and it completes before its gate closes. -/
def mayStart (s : State) (t : Nat) (p : Fin 3) (q : QueuedFrame) : Bool :=
  q.heldFor.isNone && !s.sw.ports[p].mrpBlocked &&
    (p == 2 || s.mod.power == .dormant || decide (sendTime s p q.frame.length ≤ openFor s.sw.ports[p] q.cls t))

/-- The frame that starts next: of the highest class that can start, the oldest. -/
def nextFrame (s : State) (t : Nat) (p : Fin 3) : Option Nat :=
  let ready := (s.sw.ports[p].queue.zipIdx.filter fun q => mayStart s t p q.1)
  (ready.foldl (fun m q => match m with
    | none => some q
    | some x => if x.1.cls < q.1.cls then some q else some x) (none : Option (QueuedFrame × Nat))).map fun q => q.2

/-- Nothing is on the wire, and no frame that waits may start. -/
def portIdle (s : State) (t : Nat) (p : Fin 3) : Bool :=
  decide (s.sw.ports[p].busyUntil ≤ t) && (nextFrame s t p).isNone

/-- A frame starts on the wire: it enters the port's record of frames sent, and an event message of the module is timestamped. -/
def startFrame (t : Nat) (p : Fin 3) (q : QueuedFrame) (s : State) : State :=
  let f := corrected s t p q
  let s := onPort p (fun x =>
    { x with sent := x.sent ++ [{ q with frame := f }], framesOut := sat32 (x.framesOut + 1), busyUntil := t + sendTime s p f.length }) s
  match f.body with
  | .ptp m => if q.ingress.isNone ∧ isEvent m = true then txStamp t p m.type m.sequenceId s else s
  | _ => s

/-- The queued frame at a place starts. -/
def startQueued (t : Nat) (p : Fin 3) (i : Nat) (s : State) : State :=
  match s.sw.ports[p].queue[i]? with
  | none => s
  | some q => startFrame t p q (onPort p (fun x => { x with queue := x.queue.eraseIdx i }) s)

/-! ### Receiving, R212 to R217 -/

def vlanOf (f : PortFrame) : Nat :=
  match f.vlan with
  | some v => v.1
  | none => 0

def learn (t : Nat) (p : Fin 3) (f : PortFrame) (s : State) : State :=
  onSw (fun w =>
    let rest := w.learned.filter fun x => !(x.1 == f.src && x.2.1 == vlanOf f)
    if rest.length < 4096 then { w with learned := rest ++ [(f.src, vlanOf f, p, t)] } else w) s

def allPorts : List (Fin 3) := [0, 1, 2]

/-- The Ethernet groups that the module has joined: its owner's, and those of PTP over UDP and over Ethernet, all and peer messages
(R180, R214, R226; log 85). -/
def joinedGroups (s : State) : List Nat :=
  groupMac s :: (if cfg s P.ptpProfile = 0 then []
    else [0x01005E000181, 0x01005E00006B, 0x333300000181, 0x33330000006B, 0x011B19000000, 0x0180C200000E])

/-- The address of the frame is the module's own, which the switch knows at its internal port, or a group that it has joined. -/
def forModule (s : State) (f : PortFrame) : Bool :=
  if f.multicast then f.dst == 2 ^ 48 - 1 || (joinedGroups s).contains f.dst else f.dst == Config.ownMac.toNat

/-- A PTP message ends at a module that is not a transparent clock: a boundary clock or time-aware relay sends messages of its own
(R226). -/
def ptpEnds (s : State) (ingress : Fin 3) (f : PortFrame) : Bool :=
  match f.body with
  | .ptp _ => logicAwake s && cfg s P.ptpProfile != 0 && !transparent s && cfgFlag s (P.portPtpEnable (ingress.val + 1))
  | _ => false

/-- Ports that a frame leaves by: the learned one, or every other that is up and not blocked by the ring. -/
def egressPorts (s : State) (ingress : Fin 3) (f : PortFrame) : List (Fin 3) :=
  let may (p : Fin 3) : Bool := p != ingress && s.sw.ports[p].linkUp && !s.sw.ports[p].mrpBlocked
  if ptpEnds s ingress f then []
  else if f.multicast then allPorts.filter may
  else if forModule s f then []
  else match s.sw.learned.find? fun x => x.1 == f.dst && x.2.1 == vlanOf f with
    | some x => [x.2.2.1].filter may
    | none => allPorts.filter may

/-- Cut-through is possible for this egress (R216, R230). -/
def cutsThrough (s : State) (t : Nat) (ingress egress : Fin 3) (f : PortFrame) : Bool :=
  ingress.val < 2 && egress.val < 2 && cfgFlag s P.cutThrough && speedCode s ingress == 3 && speedCode s egress == 3 &&
    portIdle s t egress && !mustStore s f &&
    decide (sendTime s egress f.length ≤ openFor s.sw.ports[egress] (classOf s ingress f) t)

def queued (s : State) (t : Nat) (ingress : Fin 3) (f : PortFrame) : QueuedFrame :=
  { cls := classOf s ingress f, frame := f, queuedAt := t, ingressAt := some t, ingress := some ingress, heldFor := none, own := false }

/-- Forwards a good frame: by cut-through where it may, else stored. -/
def forward (t : Nat) (ingress : Fin 3) (f : PortFrame) (s : State) : State :=
  (egressPorts s ingress f).foldl (fun s p =>
    let q := queued s t ingress f
    if cutsThrough s t ingress p f then startFrame t p q s
    else onPort p (fun x => { x with queue := x.queue ++ [q] }) s) s

/-- A barge copy is delivered only on VBP_VLAN and to VBP_UDP_PORT, and never as a fragment (R179, R213). -/
def deliverCopy (ingress : Fin 3) (f : PortFrame) (s : State) : State :=
  match f.body with
  | .barge _ port _ _ =>
    if f.fragment then onNet (fun n => { n with fragmented := sat32 (n.fragmented + 1) }) s
    else if vlanOf f = cfg s P.vlan ∧ port = cfg s P.udpPort then onSw (fun w => { w with delivered := w.delivered ++ [(ingress, f)] }) s
    else s
  | _ => onSw (fun w => { w with delivered := w.delivered ++ [(ingress, f)] }) s

/-- In DORMANT with PWR_DORMANT_FORWARD the switch forwards between P1 and P2 by store and forward, and does nothing else
(R383). -/
def dormantForwards (s : State) (port : Fin 3) : Bool :=
  s.path.powered && s.mod.power == .dormant && cfgFlag s P.dormantForward && port != 2

/-- The other port of the ring. -/
def otherRing (p : Fin 3) : Fin 3 := if p = 0 then 1 else 0

/-- Frames too long or with two tags are discarded and counted (R212). -/
def oversized (f : PortFrame) : Bool := decide (9022 < f.length) || f.doubleTagged

def countOversize (port : Fin 3) (s : State) : State := onPort port (fun x => { x with oversize := sat32 (x.oversize + 1) }) s

def countFcs (port : Fin 3) (s : State) : State := onPort port (fun x => { x with fcsErrors := sat32 (x.fcsErrors + 1) }) s

def forwardDormant (t : Nat) (port : Fin 3) (f : PortFrame) (s : State) : State :=
  if dormantForwards s port = false then s
  else if oversized f then countOversize port s
  else if f.length < 64 then s
  else if f.fcsOk = false then countFcs port s
  else
    let p := otherRing port
    if s.sw.ports[port].mrpBlocked || s.sw.ports[p].mrpBlocked || !s.sw.ports[p].linkUp then s
    else onPort p (fun x => { x with queue := x.queue ++ [queued s t port f] }) s

/-- PORT_FRAME_RECEIVE (R212 to R217). -/
def execPortFrameReceive (t : Nat) (port : Fin 3) (frame : PortFrame) (s : State) : Host.Outcome State Fault Refusal :=
  let s := atTime t s
  .next (if s.sw.ports[port].linkUp = false then s
    else if logicAwake s = false then forwardDormant t port frame s
    else
      let s := onPort port (fun x => { x with framesIn := sat32 (x.framesIn + 1) }) s
      if oversized frame then countOversize port s
      else if frame.length < 64 then s
      else if s.sw.ports[port].mrpBlocked then (if frame.fcsOk then s else countFcs port s)
      else if frame.fcsOk = false then
        let cut := (egressPorts s port frame).filter fun p => cutsThrough s t port p frame
        if cut.isEmpty then countFcs port s
        else
          let s := cut.foldl (fun s p => startFrame t p (queued s t port frame) s) s
          onPort port (fun x => { x with fwdBadFcs := sat32 (x.fwdBadFcs + 1) }) s
      else
        let s := forward t port frame (learn t port frame s)
        if forModule s frame then deliverCopy port frame s else s)

/-- FRAME_TRANSMIT_START: the port sends nothing, and a frame may start (R219). -/
def execFrameTransmitStart (t : Nat) (port : Fin 3) (s : State) : Host.Outcome State Fault Refusal :=
  let s := atTime t s
  .next (if s.sw.ports[port].linkUp = false ∨ t < s.sw.ports[port].busyUntil ∨
      (logicAwake s = false ∧ dormantForwards s port = false) then s
    else match nextFrame s t port with
    | none => s
    | some i => startQueued t port i s)

/-- The frame fits no open interval of its class and has waited for one whole cycle of the list in force. -/
def tooLong (s : State) (t : Nat) (p : Fin 3) (q : QueuedFrame) : Bool :=
  decide (max q.queuedAt s.sw.ports[p].gclSince + s.sw.ports[p].gcl.cycle ≤ t) &&
    (openIntervals s.sw.ports[p].gcl q.cls).all fun n => decide (n < sendTime s p q.frame.length)

/-- GATE_TOO_SHORT_DISCARD (R219). -/
def execGateTooShortDiscard (t : Nat) (port : Fin 3) (s : State) : Host.Outcome State Fault Refusal :=
  let s := atTime t s
  .next (if port = 2 ∨ logicAwake s = false then s
    else match s.sw.ports[port].queue.findIdx? (tooLong s t port) with
    | none => s
    | some i => onPort port (fun x => { x with queue := x.queue.eraseIdx i, gateTooShort := sat32 (x.gateTooShort + 1) }) s)

/-! ### Gates, ageing, links and the ring -/

/-- GCL_ENTRY_CHANGE (R218): the gates of the entry in force at the instant. -/
def execGclEntryChange (t : Nat) (port : Fin 3) (s : State) : Host.Outcome State Fault Refusal :=
  let s := atTime t s
  .next (if logicAwake s then onPort port (enterEntry t) s else s)

/-- GCL_SWITCH (R220): the committed list takes effect at its instant. -/
def execGclSwitch (t : Nat) (port : Fin 3) (s : State) : Host.Outcome State Fault Refusal :=
  let s := atTime t s
  .next (match s.sw.ports[port].nextGcl with
    | some (g, at_) => if at_ ≤ t ∧ logicAwake s = true then onPort port (fun x => enterEntry t { x with gcl := g, nextGcl := none, gclSince := at_ }) s else s
    | none => s)

/-- ADDRESS_AGEING (R214): 300 s after it was last seen. -/
def execAddressAgeing (t : Nat) (address : Nat) (s : State) : Host.Outcome State Fault Refusal :=
  .next (onSw (fun w => { w with learned := w.learned.filter fun x => x.1 != address || decide (t < x.2.2.2 + 300000000000) }) (atTime t s))

/-- The optical sideband of a port is read: P1 or P2 with PORT_MEDIA 1 (R472). -/
def readsSideband (s : State) (port : Fin 3) : Bool := port != 2 && cfg s (P.portMedia (port.val + 1)) == 1

/-- P1_TXDIS and P2_TXDIS are high while the port is disabled, which is while the logic is not awake, but not in DORMANT with
PWR_DORMANT_FORWARD (R472). -/
def txDisable (s : State) (port : Fin 3) : Bool := port != 2 && !(logicAwake s || dormantForwards s port)

/-- LINK_STATE_CHANGE (R211, R472): a link comes up only at the speed of PORT_SPEED, and not while LOS or ABS_N, where they are
read, is high. -/
def execLinkStateChange (t : Nat) (port : Fin 3) (up sideband : Bool) (speed : Nat) (s : State) : Host.Outcome State Fault Refusal :=
  let s := atTime t s
  .next (onPort port (fun x => { x with linkUp := up && !(sideband && readsSideband s port) && speed == speedCode s port }) s)

/-- The port that the protocol blocks: a manager blocks one of its ring ports while the ring is closed and none while it is open; a
client blocks the one that the event names, if any. IEC 62439-2 gives the rest of the protocol (log 87). -/
def blockedPort (s : State) (closed : Bool) (blocked : Option (Fin 3)) : Option (Fin 3) :=
  if cfg s P.mrpRole = 2 then (if closed then some (if blocked = some 0 then 0 else 1) else none) else blocked

/-- MRP_RING_EVENT (R215): forwarding between P1 and P2 changes, and the addresses learned on them are learned anew. -/
def execMrpRingEvent (t : Nat) (closed : Bool) (blocked : Option (Fin 3)) (s : State) : Host.Outcome State Fault Refusal :=
  let s := atTime t s
  .next (if cfg s P.mrpRole = 0 then s
    else
      let port := blockedPort s closed blocked
      let block (p : Fin 3) (s : State) : State := onPort p (fun x => { x with mrpBlocked := port == some p }) s
      let moved := s.sw.ports[0].mrpBlocked != (port == some 0) || s.sw.ports[1].mrpBlocked != (port == some 1)
      block 1 (block 0 (onSw (fun w =>
        { w with ringClosed := closed, learned := if moved then w.learned.filter fun x => x.2.2.1 == 2 else w.learned }) s)))

end Sys2Proof.Machine
end

