-- ==== Sys2Proof/Machine/TaskCycle.lean ====
section
/-! DEFINITION. The cycle of one tick up to task end: the latch, the snapshot commit with its injection test, preemption
and resumption (R32 to R50, R130, R135, R382). -/

namespace Sys2Proof.Machine

open Sys2Proof

/-! ### The tick -/

/-- The module executes tasks at this instant: `ACTIVE` and not handing over, or `STANDBY` outside NAP and
not waking from it for a take-over (R33, R172). -/
def takesTicks (s : State) : Bool :=
  match s.mod.state with
  | .active => !handingOver s
  | .standby => s.mod.power != .nap && s.pair.cold.isNone
  | _ => false

/-- T is a tick of task k that it has not taken yet. -/
def tickDue (s : State) (k : TaskId) (t : Nat) : Bool :=
  let x := s.ctl.tasks[k]
  takesTicks s && x.running && enabledTask s k && (codeOf s k).isSome && nextTick s k t == t && decide (x.notBefore ≤ t) &&
    (match x.lastTick with
     | some l => decide (l < t)
     | none => true)

/-- The execution of a tick as it is latched. -/
def latchExec (s : State) (k : TaskId) (tick : Nat) : Exec :=
  { task := k, tick := tick, phase := .latched, baseEpoch := s.img.epoch, version := 0, codeLen := 0, routines := [],
    frame := 0, deadline := deadlineOf s k, offset := offsetAt s k tick, staleLimit := cfg s (P.taskStale k.val),
    margin := cfg s (P.taskMargin k.val), trailLimit := cfg s P.trailLimit, slots := latchSlots s k,
    samples := (channelTags s k).filterMap fun p => sampleOf s tick p.1 p.2.decl, arrivals := latchArrivals s k, view := [], lanes := [], landed := [],
    compared := 0,
    agreeSince := none, agreed := [], endAt := none, shadow := s.mod.state == .standby, held := false,
    unmatched := false, manifest := none, manifestAt := none, agreements := [], uncompared := s.ctl.weave.uncompared,
    preemptions := 0 }

/-- TASK_TICK: landing slots and channel samples are latched (R32, R39). -/
def execTaskTick (t : Nat) (k : TaskId) (s : State) : Host.Outcome State Fault Refusal :=
  let s := atTime t s
  .next (if tickDue s k t then
      let e := latchExec s k t
      onTask k (fun x => { x with lastTick := some t, offsetInForce := e.offset }) (onExecs (fun es => es ++ [e]) s)
    else s)

/-! ### DOZE, R382 -/

/-- Some task is due within 2 µs. -/
def dueSoon (s : State) (t : Nat) : Bool := (runningTasks s).any fun k => decide (nextTick s k t ≤ t + 2000)

def gateLanes (on : Bool) (s : State) : State :=
  onWeave (fun w => { w with lanes := w.lanes.map fun x => { x with gated := on } }) s

/-- LANE_PRE_WAKE: 2 µs before a tick at which a task is due, the lanes wake. -/
def execLanePreWake (t : Nat) (s : State) : Host.Outcome State Fault Refusal :=
  let s := atTime t s
  .next (if s.mod.power = .doze ∧ dueSoon s t = true then gateLanes false s else s)

/-- The lane has nothing to do: no execution in progress, no restoration. -/
def laneIdle (s : State) (l : LaneId) : Bool :=
  !(s.ctl.execs.any fun e => e.lanes.any fun c => c.lane == l && c.halted.isNone && !c.ended) &&
    roleOf s l != .resync && roleOf s l != .loading

/-- LANE_IDLE_GATE: a lane idle for 1 µs in DOZE is gated again. -/
def execLaneIdleGate (t : Nat) (l : LaneId) (s : State) : Host.Outcome State Fault Refusal :=
  let s := atTime t s
  .next (if s.mod.power = .doze ∧ laneIdle s l = true ∧ dueSoon s t = false then onLane l (fun x => { x with gated := true }) s else s)

/-! ### The snapshot commit -/

/-- A commit in progress; the step sequencer does one thing at a time (R38). -/
def committing (s : State) : Bool := s.ctl.execs.any fun e => e.phase == .committing

/-- Place of the task's latched execution; an earlier one of the task that has not been stepped keeps it waiting. -/
def latchedPlace (s : State) (k : TaskId) : Option Nat :=
  match (List.range s.ctl.execs.length).find? fun i => match s.ctl.execs[i]? with
    | some e => e.task == k && e.phase != .stepped
    | none => false with
  | some i => match s.ctl.execs[i]? with
    | some e => if e.phase = .latched then some i else none
    | none => none
  | none => none

/-- Every barge that the manifest names is at hand (R42, R151). -/
def manifestMatched (e : Exec) (m : Manifest) : Bool :=
  m.nodes.all fun p => match tget p.1 e.slots with
    | some b => b.sequence == p.2
    | none => p.2 == 0

/-- The manifest names the version that runs here: an exchange that it is ahead of waits in a mirror record (R107). -/
def versionHere (s : State) (m : Manifest) : Bool :=
  match s.ctl.staged with
  | some g => g.prog.version != m.version || oldVersion s.ctl.running == m.version
  | none => true

/-- A shadow execution may commit: from the manifest, under its version, or as held or UNMATCHED (R107, R151, R152). -/
def shadowReady (s : State) (e : Exec) : Bool :=
  !e.shadow || e.held || (match e.manifest with
    | some m => versionHere s m && (e.unmatched || manifestMatched e m)
    | none => false)

/-- Place of the latched execution of task k whose commit may begin now. -/
def commitPlace (s : State) (k : TaskId) : Option Nat :=
  match latchedPlace s k with
  | some i => match s.ctl.execs[i]?, codeOf s k with
    | some e, some _ => if takesTicks s && shadowReady s e then some i else none
    | _, _ => none
  | none => none

/-- The execution of task k that a step may take now: it has ended, and its deadline has not passed (R56). -/
def stepPlace (t : Nat) (k : TaskId) (s : State) : Option Nat :=
  placeWhere s fun e => e.task == k && e.phase == .ended && !e.shadow && decide (t ≤ e.tick + e.deadline)

/-- A commit or a step of a task of higher priority waits too, and is taken first (R19, R38). -/
def higherDue (t : Nat) (k : TaskId) (s : State) : Bool :=
  allTasks.any fun j => decide (priorityOf s j < priorityOf s k) && ((commitPlace s j).isSome || (stepPlace t j s).isSome)

/-- JOINING lanes become ACTIVE at the next commit of any task (R130). -/
def joinLanes (s : State) : State :=
  allLanes.foldl (fun s l => if roleOf s l = .joining then setRole l .active s else s) s

/-- The lane of the commit's test group: the next in rotation of those that take part (R135). -/
def injectedLane (s : State) : Nat :=
  let part := allLanes.filter fun l => roleOf s l == .active
  match part.find? fun l => decide (s.ctl.weave.injectLane ≤ l.val) with
  | some l => l.val
  | none => match part.head? with
    | some l => l.val
    | none => 0

/-- The next commit's test group goes to a later lane, and inverts the next of the 93 bits of ADDRESS and DATA. -/
def rotateInjection (s : State) : State :=
  let lane := injectedLane s
  onWeave (fun w => { w with injectLane := lane + 1, injectBit := (w.injectBit + 1) % 93 }) s

/-- SNAPSHOT_COMMIT_START: the commit of the task's snapshot begins, with the injection test (R38, R130, R135). -/
def execSnapshotCommitStart (t : Nat) (k : TaskId) (passed : Bool) (s : State) : Host.Outcome State Fault Refusal :=
  let s := atTime t s
  .next (match commitPlace s k with
    | none => s
    | some i =>
      match codeOf s k, s.ctl.running with
      | some c, some p =>
        if committing s || higherDue t k s then s
        else
          let s := abortBackground blockInject (joinLanes (returnLanes s))
          let begun (e : Exec) : Exec :=
            { e with phase := .committing, version := p.version, codeLen := c.words.length, routines := c.routines, frame := c.frame }
          let s := onExecs (lmod i begun) s
          if s.ctl.weave.uncompared then s
          else if passed then rotateInjection s
          else weaveFault 2 (injectedLane s) s.ctl.weave.injectBit s
      | _, _ => s)

/-- A lane at the start of an execution: ACC 0, FC 1, stacks empty, registers and frame zero (R64, R65). -/
def freshLane (l : LaneId) : LaneCtx :=
  { lane := l, pc := 0, acc := false, fc := true, nest := [], ret := [], w := Vector.replicate 16 0, frame := [],
    posted := [], cycles := 0, agrees := 0, waiting := none, ended := false, halted := none, stalled := false,
    fullSince := none }

/-- The lanes that take part in an execution whose commit completes now (R124, R130, R136). -/
def partLanes (s : State) : List LaneId :=
  let act := allLanes.filter fun l => roleOf s l == .active
  if s.ctl.weave.uncompared then act.take 1 else act

/-- SNAPSHOT_COMMIT_DONE: the view is complete, the manifest is sent, and the lanes begin the task where they are
free; otherwise it waits for its preemption point or for task end (R37, R42, R50). -/
def execSnapshotCommitDone (t : Nat) (k : TaskId) (s : State) : Host.Outcome State Fault Refusal :=
  let s := atTime t s
  .next (match (List.range s.ctl.execs.length).find? fun i => match s.ctl.execs[i]? with
      | some e => e.task == k && e.phase == .committing
      | none => false with
    | none => s
    | some i =>
      match s.ctl.execs[i]? with
      | none => s
      | some e =>
        if commitPoisoned s e then poisonFault s
        else
          let v := buildView s e
          let m := manifestOf s e v.1
          let s := v.2.foldl (fun s p => onTag p.1 (fun _ => p.2) s) s
          let s := clearView e.task v.1 (markCommitted s e)
          let phase : ExecPhase := if lanesBusy s then .preempted else .running
          let lanes := (partLanes s).map freshLane
          let alone := s.ctl.weave.uncompared
          let s := onExecs (lmod i fun x => { x with phase := phase, view := v.1, lanes := lanes, uncompared := alone }) s
          let s := onTask k (fun x => { x with executions := sat32 (x.executions + 1) }) s
          if s.mod.state = .active ∧ mirrors s = true then towSend (.manifest m) s else s)

/-! ### Preemption and task end -/

/-- TASK_PREEMPT: at the next instruction boundary of each lane the higher task takes the lanes; a lane that waits in
AGREE has none (R50). -/
def execTaskPreempt (t : Nat) (k : TaskId) (s : State) : Host.Outcome State Fault Refusal :=
  let s := atTime t s
  .next (match placeWhere s (fun e => e.phase == .running), placeWhere s (fun e => e.task == k && e.phase == .preempted) with
    | some i, some j =>
      match s.ctl.execs[i]? with
      | none => s
      | some low =>
        if priorityOf s k < priorityOf s low.task ∧ (low.lanes.any fun c => c.halted.isNone && c.waiting.isSome) = false then
          let s := onExecs (fun es => lmod j (fun e => { e with phase := .running }) (lmod i (fun e => { e with phase := .preempted, preemptions := e.preemptions + 1 }) es)) s
          onTask low.task (fun x => { x with preemptions := sat32 (x.preemptions + 1) }) s
        else s
    | _, _ => s)

/-- END has been voted with every write before it (R49). -/
def endVoted (e : Exec) : Bool :=
  match e.landed.getLast? with
  | some x => x.kind == .endMark
  | none => false

/-- TASK_END: the execution ends; halted lanes go on to their return, a shadow's outputs to the comparison, and the
lanes to the next execution (R49, R50, R129, R156). -/
def execTaskEnd (t : Nat) (k : TaskId) (s : State) : Host.Outcome State Fault Refusal :=
  let s := atTime t s
  .next (match placeWhere s (fun e => e.task == k && e.phase == .running && endVoted e) with
    | none => s
    | some i =>
      let s := haltStalled i (onExecs (lmod i fun e => { e with phase := .ended, endAt := some t }) s)
      match s.ctl.execs[i]? with
      | none => s
      | some e => resumeNext (shadowEnded e (returnLanes s)))

end Sys2Proof.Machine
end

