-- ==== Sys2Proof/Machine/Settle.lean ====
section
/-! DEFINITION. Settings as they come into force: the committed table, and what the parts of the module do when a
setting of class Immediate or At commit changes (R199, R200, R208, R209, R220, R225, R243, R268, R277, R293, R347). -/

namespace Sys2Proof.Machine

open Sys2Proof

/-! ### The committed table: values that differ from their defaults (R353) -/

/-- Puts a value into a table of settings; a value equal to its default is not listed. -/
def putSetting (id : Nat) (v : List Byte) (tbl : Tbl (List Byte)) : Tbl (List Byte) :=
  match paramOf id with
  | some r => if v = defaultBytes r id then tdel id tbl else tput id v tbl
  | none => tbl

/-- The committed set with taken entries over it (R351). -/
def resulting (base entries : Tbl (List Byte)) : Tbl (List Byte) := entries.foldl (fun m p => putSetting p.1 p.2 m) base

def effectOf (id : Nat) : EffectClass :=
  match paramOf id with
  | some r => r.cls
  | none => .readOnly

def isPairScope (id : Nat) : Bool :=
  match paramOf id with
  | some r => r.pair
  | none => false

/-- Entries whose value differs from the committed one. -/
def changedIds (s : State) (entries : Tbl (List Byte)) : List Nat :=
  (entries.filter fun p => valueIn s.settings.committed p.1 != p.2).map fun p => p.1

/-! ### The node table, R187, R199 -/

/-- Tokens of a full bucket. -/
def fullBucket (rate : Nat) : Nat := max 4 (rate / 100)

def freshNode (rate : Nat) : Node :=
  { landing := [], session := none, lastSeq := 0, restarted := false, unsynced := false, safeActive := false,
    holdShort := false, obeyedClaim := 0, address := 0, overwritten := 0, superseded := [], counts := DiscardCounts.zero, accepted := 0,
    sent := 0, ackedEpoch := 0, lastSample := 0, lastArrival := none, tokens := fullBucket rate, seqOut := 0,
    sentKey := 0, provenSample := 0, provenClaim := 0, unacked := [], claimSentAt := none, lag := 0 }

/-- The nodes of the enabled table entries; every bucket starts full at a commit of the node table. The stream to a node goes on when
the node enters or leaves the table (R188). -/
def buildNodes (s : State) : State :=
  let nodes := (enabledNodes s).foldl (fun m i =>
    let id := cfg s (P.nodeId i)
    let rate := cfg s (P.nodeRate i)
    tput id (match tget id s.net.nodes with
      | some n => { n with tokens := fullBucket rate }
      | none =>
        let was := (tget id s.net.otherSeq).getD (0, 0)
        { freshNode rate with seqOut := was.1, sentKey := was.2 }) m) ([] : Tbl Node)
  let left := (s.net.nodes.filter fun p => (tget p.1 nodes).isNone).map fun p => (p.1, p.2.seqOut, p.2.sentKey)
  let other := left.foldl (fun m p => tput p.1 p.2 m) (s.net.otherSeq.filter fun p => (tget p.1 nodes).isNone)
  onNet (fun n => { n with nodes := nodes, otherSeq := other }) s

def isNodeParam (id : Nat) : Bool := decide (0x00071000 ≤ id) && decide (id < 0x00077000)

/-! ### What a changed setting does -/

/-- A DIO channel takes a new mode or safe state; an output begins in its safe state, and the diagnostics of the mode before end (R242,
R250). -/
def settleDioMode (ids : List Nat) (c : Fin 16) (s : State) : State :=
  if ids.contains (P.dioMode c.val) then
    let outside := !holdsClaim s
    settleDio c (onDio c (fun d =>
      { d with commanded := false, held := none, safeApplied := true, yielded := outside, latchedOff := false, retries := 0, trips := 0,
               trippedAt := none, breakFrom := none, externalDrive := false, openOrBackfed := false, overcurrent := false, thermal := false,
               partnerDrive := false, debounced := d.debounced && dioModeOf s c != 0 }) s)
  else if ids.contains (P.dioSafe c.val) then settleDio c s
  else s

/-- An AIO channel takes a new mode, fail signal or safe state; an output begins in its safe state, and any other
channel is open. -/
def settleAioMode (ids : List Nat) (c : Fin 8) (s : State) : State :=
  if ids.contains (P.aioMode c.val) then
    let outside := !holdsClaim s
    let s := onAio c (fun a =>
      { a with held := none, safeApplied := true, yielded := outside, handoverAt := none, mismatch := false, disagree := 0,
               agree := 0, compliance := false, thermal := false, trippedAt := none, overrange := false,
               reading := 0, readback := 0, convertedAt := 0 }) s
    if aioIsOut s c && !(aioModeOf s c == 3 && outside) then safeAio c s else openAio c s
  else if ([P.aioSafe c.val, P.aioSafeValue c.val, P.aioFailSignal c.val, P.aioFailDir c.val].any ids.contains) &&
      s.field.aio[c].safeApplied && !(aioModeOf s c == 3 && s.field.aio[c].yielded) then safeAio c s
  else s

def settleFo (ids : List Nat) (n : Fin 4) (s : State) : State :=
  if ids.contains (P.foSafe n.val) && s.field.fo[n].safeApplied then safeFo n s else s

/-- A key epoch or a switch instant is set (R208, R209). -/
def settleKeys (entries : Tbl (List Byte)) (s : State) : State :=
  let s := match tget P.keyEpoch entries with
    | some v => if leNat v = s.net.auth.keyEpoch ∧ (tget P.keyMaster entries).isNone = true then s
        else onNet (fun n =>
          resetSent { n with auth := { n.auth with keyEpoch := leNat v, overlapUntil := none, closed := false, switchRefused := false } }) s
    | none => s
  match tget P.keySwitchAt entries with
  | some v => onNet (fun n => { n with auth := { n.auth with switchAt := leNat v } }) s
  | none => s

def isGclParam (p : Nat) (id : Nat) : Bool :=
  (List.range 128).any (fun j => id == P.gclEntry p j) || id == P.gclLength p || id == P.gclCycle p || id == P.gclBase p

def settleGates (p : Fin 3) (ids : List Nat) (s : State) : State :=
  if ids.any (isGclParam (p.val + 1)) then scheduleGcl p s else s

def settleCan (ch : Fin 2) (ids : List Nat) (s : State) : State :=
  commitCan ch (ids.filter fun i => i / 0x1000 == (0x000B0000 + ch.val * 0x1000) / 0x1000) s

/-- A committed TAI second waits for the next edge or the next whole second (R225). -/
def settleTai (entries : Tbl (List Byte)) (s : State) : State :=
  match tget P.gmTaiSeconds entries with
  | some v => if leNat v = 0 then s else onTime (fun u => { u with pendingTai := some (leNat v) }) s
  | none => s

/-- A new PWR_DEFAULT_STATE holds at once for a module in FULL or DOZE (R389). -/
def settlePower (ids : List Nat) (s : State) : State :=
  if ids.contains P.pwrDefault && (s.mod.power == .full || s.mod.power == .doze) then setPower (defaultPower s) 0 s else s

/-- Settings of the classes in `pick` enter the committed table. -/
def takeEntries (pick : EffectClass → Bool) (entries : Tbl (List Byte)) (s : State) : State :=
  let now := entries.filter fun p => pick (effectOf p.1)
  onSettings (fun t => { t with committed := resulting t.committed now }) s

/-- At-commit settings take effect as one change (R347, R352); settings of classes At restart and At power-up become
committed with them and come into force at that event. -/
def applyAtCommit (entries : Tbl (List Byte)) (s : State) : State :=
  let ids := changedIds s entries
  let s := takeEntries (fun c => c != .immediate) entries s
  let s := if ids.any isNodeParam then buildNodes s else s
  let s := settleTai entries (settleKeys entries s)
  let s := settleGates 1 ids (settleGates 0 ids s)
  let s := settleCan 1 ids (settleCan 0 ids s)
  let s := each4 (settleFo ids) (eachAio (settleAioMode ids) (eachDio (settleDioMode ids) s))
  holdCheck (settlePower ids s)

/-- Immediate settings take effect when the first MRAM copy has been written. -/
def applyImmediate (entries : Tbl (List Byte)) (s : State) : State := takeEntries (fun c => c == .immediate) entries s

/-! ### Settings copies of the MRAM, R353, R354 -/

def copyInUse (s : State) : SettingsCopy := if s.settings.usingB then s.settings.copyB else s.settings.copyA

/-- A settings copy as the MRAM holds it: header of 64 bytes, then the entries in rising order of ID (R353). -/
def copyImage (isB : Bool) (c : SettingsCopy) : List Byte :=
  let body := c.entries.flatMap fun p => settingEntry p.1 p.2
  let head := le4 0x56535431 ++ le2 1 ++ le2 c.schema ++ le2 0x6416 ++ le2 0 ++ le4 c.entries.length ++ le8 c.generation ++ le8 c.epoch ++
    valueIn c.entries P.configId ++ le4 body.length ++ [byteOf (flag 0 isB)] ++ zeros 19
  head ++ le4 (crc32c (head ++ le4 0 ++ body)).toNat ++ body

/-- The copy with the lower generation is rewritten, and is the copy in use (R352 step 2). -/
def writeFirstCopy (entries : Tbl (List Byte)) (s : State) : State :=
  let schema := fwSchema s
  onSettings (fun t =>
    let aLower := !t.copyA.valid || (t.copyB.valid && decide (t.copyA.generation < t.copyB.generation))
    let equal := t.copyA.valid && t.copyB.valid && t.copyA.generation == t.copyB.generation
    let g := max (if t.copyA.valid then t.copyA.generation else 0) (if t.copyB.valid then t.copyB.generation else 0)
    let base := if t.unreadable then ([] : Tbl (List Byte)) else t.committed
    let c : SettingsCopy := { generation := g + 1, schema := schema, epoch := 0, entries := resulting base entries, valid := true }
    if aLower && !equal then { t with copyA := c, usingB := false } else { t with copyB := c, usingB := true }) s

/-- The other copy is written under the same generation, with the epoch of the step (R352 step 5). -/
def writeSecondCopy (epoch : Nat) (s : State) : State :=
  onSettings (fun t =>
    let c := { (if t.usingB then t.copyB else t.copyA) with epoch := epoch }
    { t with copyA := c, copyB := c, unreadable := false }) s

end Sys2Proof.Machine
end

