-- ==== Sys2Proof/Machine/Quotas.lean ====
section
/-! DEFINITION. What each client class uses of the Basin (R358 to R360, R363). -/

namespace Sys2Proof.Machine

open Sys2Proof

/-- HOST use in KiB: staged sets, export images, and one page for each subscription and network connection. -/
def hostUse (s : State) : Nat :=
  let sets := (s.settings.staged.map fun p => pages ((p.2.map fun e => (settingEntry e.1 e.2).length).foldl (· + ·) 0)).foldl (· + ·) 0
  let images := (s.keeper.exports.map fun x => pages x.bytes.length).foldl (· + ·) 0
  sets + images + 4 * s.keeper.subscriptions.length + 4 * s.keeper.conns.length

/-- UPDATE use in KiB: the delta length accepted by UPD.OPEN. -/
def updateUse (s : State) : Nat := if s.upd.header.isEmpty then 0 else pages (natAt s.upd.header 24 4)

def classUse (s : State) (c : Nat) : Nat :=
  match c, s.ctl.running with
  | 1, some p => stateNeed p
  | 2, some p => codeNeed p
  | 3, some p => viewNeed p
  | 4, p => bargeNeed s p
  | 5, _ => hostUse s
  | 6, _ => updateUse s
  | _, _ => 0

def cyclicClass (c : Nat) : Bool := decide (1 ≤ c) && decide (c ≤ 4)
def isClass (c : Nat) : Bool := decide (1 ≤ c) && decide (c ≤ 6)

/-- Peak use of each class since restart. -/
def notePeaks (s : State) : State :=
  onKeeper (fun k => { k with peaks := Vector.ofFn fun i => max k.peaks[i] (classUse s (i.val + 1)) }) s

end Sys2Proof.Machine
end

