-- ==== Sys2Proof/Machine/HostChanges.lean ====
section
/-! DEFINITION. Epoch-bound host changes as a step applies them, with the mirror entries they make (R18, R19, R24, R47,
R103 to R110, R112 to R118, R352, R489). -/

namespace Sys2Proof.Machine

open Sys2Proof

/-- The staged version of an accepted exchange is at its exchange point: staging is complete and every concerned task
is idle (R103). -/
def exchangeReady (s : State) (journal : Nat) : Bool :=
  match s.ctl.exchange, s.ctl.staged with
  | some x, some g =>
    x.journal == journal && x.phase == .staged &&
      allTasks.all fun k => !concerned s.ctl.running g.prog k || taskIdle s k
  | _, _ => false

/-- The first copy of a commit has been written, so that the next step may apply it (R352). -/
def commitReady (s : State) (journal : Nat) : Bool := s.settings.commits.any fun c => c.journal == journal && c.phase == .firstCopy

/-- A host change is due at the step that produces `epoch`. -/
def changeDue (s : State) (epoch : Nat) (c : HostChange) : Bool :=
  (match c.atEpoch with
   | some e => e == epoch
   | none => true) &&
  (match c.kind with
   | .settings => commitReady s c.journal
   | .exchange => exchangeReady s c.journal
   | _ => true)

/-- The journal entry of a change that this step applies runs on until its epoch is mirrored (R25). -/
def jrun (id step epoch : Nat) (s : State) : State :=
  jmod id (fun e => { e with state := .running, step := step, epoch := epoch }) s

/-- A failed exchange: its entry ends FAILED with the report; the staged version stays VERIFIED (R105, R118). -/
def failExchange (id status reason : Nat) (s : State) : State :=
  jend id .failed status (onCtl (fun c => { c with exchange := none }) (failureReport id reason s))

/-- The exchange is applied at the step that produces `epoch` (R104, R118). -/
def takeExchange (id epoch : Nat) (s : State) : State × List MirrorEntry :=
  match s.ctl.exchange, s.ctl.staged with
  | some x, some g =>
    if forceConflicts s g.prog ≠ [] ∧ x.dropForces = false then
      (failExchange id stForceConflict reasonForce s, [])
    else if quotaFits s g.prog = false then (failExchange id stOverQuota reasonQuota s, [])
    else
      let old := s.ctl.running
      let es := changeEntries s old g.prog (reportForces s g.prog 8)
      let mask := (allTasks.filter fun k => concerned old g.prog k).foldl (fun m k => m + 2 ^ k.val) 0
      let s := withReport id (reportOf old g.prog epoch reasonNone es es.length) s
      (jrun id 2 epoch (installProgram g.prog x.staging epoch s), [.exchange g.prog.version (oldVersion old) mask])
  | _, _ => (s, [])

/-- A settings commit takes effect (R352 step 3). -/
def takeCommit (id epoch : Nat) (s : State) : State × List MirrorEntry :=
  match s.settings.commits.find? fun c => c.journal == id with
  | none => (s, [])
  | some c =>
    let s := onSettings (fun t => { t with commits := t.commits.map fun x => if x.journal = id then { x with phase := .applied } else x }) s
    (jrun id 2 epoch (applyAtCommit c.entries s),
     (c.entries.filter fun p => isPairScope p.1).map fun p => .setting p.1 p.2)

def maskTasks (s : State) (mask : Nat) : List TaskId :=
  allTasks.filter fun k => if mask = 0 then enabledTask s k else bitAt mask k.val

/-- Slot entries of tags, as committed after the step. -/
def slotEntries (tags : List Nat) (epoch : Nat) (s : State) : List MirrorEntry :=
  tags.filterMap fun i => (tget i s.img.tags).map fun t => .slot (slotImage i t (newest t epoch))

def noWriter (s : State) (i : Nat) : Bool :=
  match tget i s.img.tags with
  | some t => t.decl.writer.isNone
  | none => false

/-- Every tag of a batch still exists with the type that its request was checked for. -/
def batchHolds (s : State) (ws : List (Nat × Nat × W64)) : Bool :=
  ws.all fun w => match tget w.1 s.img.tags with
    | some t => typeCode t.decl.type == w.2.1
    | none => false

/-- What one host change does at the step that produces `epoch`. A batch of which an exchange has meanwhile deleted or
retyped a tag is not applied at all (R112) and ends FAILED with BAD_ARGUMENT: DESIGN CHOICE
(notes/assumptions/78.md). -/
def applyChange (c : HostChange) (epoch : Nat) (s : State) : State × List MirrorEntry :=
  match c.kind with
  | .imgWrite ws =>
    if batchHolds s ws = false then (jend c.journal .failed stBadArgument s, [])
    else
      let s := ws.foldl (fun s w => hostWrite w.1 w.2.2 epoch s) s
      (jrun c.journal 1 epoch s, slotEntries (ws.map fun w => w.1) epoch s)
  | .forceSet fs =>
    if batchHolds s fs = false then (jend c.journal .failed stBadArgument s, [])
    else
      let s := fs.foldl (fun s w => applyForce w.1 w.2.2 epoch s) s
      (jrun c.journal 1 epoch s, slotEntries ((fs.map fun w => w.1).filter (noWriter s)) epoch s)
  | .forceClear tags all =>
    let ids := if all then s.img.forces.map fun f => f.tag else tags.filter fun i => (forceOf s i).isSome
    let s := ids.foldl (fun s i => clearForce i epoch s) s
    (jrun c.journal 1 epoch s, ids.map (fun i => MirrorEntry.forceClear i) ++ slotEntries (ids.filter (noWriter s)) epoch s)
  | .start mask =>
    (jrun c.journal 1 epoch ((maskTasks s mask).foldl (fun s k => if (codeOf s k).isSome && enabledTask s k && !s.ctl.tasks[k].running then startTask k s else s) s), [])
  | .stop mask => (jrun c.journal 1 epoch ((maskTasks s mask).foldl (fun s k => stopTask k s) s), [])
  | .settings => takeCommit c.journal epoch s
  | .exchange => takeExchange c.journal epoch s

def applyList (epoch : Nat) : List HostChange → State × List MirrorEntry → State × List MirrorEntry
  | [], r => r
  | c :: rest, r =>
    let x := applyChange c epoch r.1
    applyList epoch rest (x.1, r.2 ++ x.2)

/-- The change was accepted before this instant, or is bound to the epoch of the step (R19 step 3, R24). -/
def acceptedBefore (s : State) (c : HostChange) : Bool :=
  c.atEpoch.isSome || (match jget s c.journal with
    | some e => decide (e.accepted < nowOf s)
    | none => true)

/-- Takes the due changes off the queue and applies them in acceptance order (R19 step 3). A step formed without a task
end applies one change, and every other one bound to its epoch (R18, R24). -/
def applyChanges (epoch : Nat) (one : Bool) (s : State) : State × List MirrorEntry :=
  let due := s.keeper.changes.filter (changeDue s epoch)
  let now := if one then due.take 1 ++ (due.drop 1).filter (fun c => c.atEpoch.isSome) else due.filter (acceptedBefore s)
  let ids := now.map fun c => c.journal
  let s := onKeeper (fun k => { k with changes := k.changes.filter fun c => !ids.contains c.journal }) s
  let r := applyList epoch now (s, [])
  let note (c : Commit) : Commit := if ids.contains c.journal then { c with copyEpoch := if one then 0 else epoch } else c
  let s := onSettings (fun t => { t with commits := t.commits.map note }) r.1
  (notePeaks s, r.2)

/-- A change for an epoch that has passed without it can no longer land at its step (R24). -/
def dropMissed (s : State) : State :=
  let missed := s.keeper.changes.filter fun c => match c.atEpoch with
    | some e => decide (e ≤ s.img.epoch)
    | none => false
  missed.foldl (fun s c =>
    let s := onKeeper (fun k => { k with changes := k.changes.filter fun x => x.journal != c.journal }) s
    let s := onSettings (fun t => { t with commits := t.commits.filter fun x => x.journal != c.journal }) s
    jend c.journal .failed stEpochGone s) s

/-- A change waits that a step without a task end may take now. -/
def changeWaits (s : State) : Bool := s.keeper.changes.any (changeDue s (s.img.epoch + 1))

end Sys2Proof.Machine
end

