-- ==== Sys2Proof/Machine/Sections.lean ====
section
/-! DEFINITION. Basin sections: the patrol scrubber, the thresholds that start a migration, and the migration itself
(R12, R14, R16, R420, R422, R423). -/

namespace Sys2Proof.Machine

open Sys2Proof

/-- Causes of a migration. -/
def causeSingle : Nat := 0
def causeDouble : Nat := 1
def causeTriple : Nat := 2
def causeTest : Nat := 3

/-- The threshold that a section has met (R422). -/
def migrationCause (s : State) (p : Nat) : Option Nat :=
  let x := sectionOf s p
  if 0 < x.triples then some causeTriple
  else if cfg s P.wearSingles ≤ countIn s x.singleHours then some causeSingle
  else if cfg s P.wearDoubles ≤ countIn s x.doubleHours then some causeDouble
  else if x.bistFlag then some causeTest
  else none

/-- The lowest-numbered spare section that has not failed its test. -/
def spareSection (s : State) : Option Nat :=
  (List.range 512).find? fun p => (sectionOf s p).state == .spare && !(sectionOf s p).spareBad

/-- A section whose spare is missing stays in use (R423). -/
def noSpareFor (logical p cause : Nat) (s : State) : State :=
  let s := onSection p (fun x => { x with noSpare := true, state := .inUse }) s
  stage 0x0F11 srcSection (le2 logical ++ le2 p ++ [byteOf cause]) s

/-- Begins the copy of a logical section, or records that no spare is left. -/
def beginMigration (logical cause : Nat) (s : State) : State :=
  let p := physicalOf s logical
  match spareSection s with
  | none => noSpareFor logical p cause s
  | some q =>
    let s := abortBackground blockSpare s
    let s := onSection q (fun x => { x with state := .copyTo, changeHours := s.path.hours }) s
    let s := onSection p (fun x => { x with state := .copyFrom, changeHours := s.path.hours }) s
    onBasin (fun b =>
      { b with migration := some { logical := logical, source := p, target := q, cause := cause, copied := false },
               idlePoison := b.idlePoison.filter fun w => w / 0x20000 != q }) s

/-- The next waiting migration begins. -/
def nextMigration (s : State) : State :=
  match s.basin.migration, s.basin.waiting with
  | none, (l, c) :: r => beginMigration l c (onBasin (fun b => { b with waiting := r }) s)
  | _, _ => s

def migrationKnown (s : State) (logical : Nat) : Bool :=
  (match s.basin.migration with
   | some m => m.logical == logical
   | none => false) || s.basin.waiting.any fun w => w.1 == logical

/-- A section in use that has met a threshold joins the queue; one with a triple detection goes ahead. -/
def checkSection (p : Nat) (s : State) : State :=
  match logicalOf s p, migrationCause s p with
  | some l, some c =>
    if (sectionOf s p).noSpare || migrationKnown s l then s
    else nextMigration (onBasin (fun b =>
      { b with waiting := if c = causeTriple then (l, c) :: b.waiting else b.waiting ++ [(l, c)] }) s)
  | _, _ => s

/-- The map entry changes; the old section retires (R422). -/
def finishMigration (epoch : Nat) (s : State) : State :=
  match s.basin.migration with
  | none => s
  | some m =>
    let s := onSection m.source (fun x => { x with state := .retired, changeHours := s.path.hours }) s
    let s := onSection m.target (fun x => { x with state := .inUse, changeHours := s.path.hours }) s
    let map (t : Tbl Nat) : Tbl Nat := if m.target = m.logical then tdel m.logical t else tput m.logical m.target t
    let s := onBasin (fun b => { b with map := map b.map, migration := none }) s
    let s := stage 0x0F10 srcSection (le2 m.logical ++ le2 m.source ++ le2 m.target ++ [byteOf m.cause] ++ le8 epoch) s
    nextMigration (checkSpares s)

/-- IMG, STATE and MIRROR change their map at an epoch step (R16). -/
def mapsAtStep (logical : Nat) : Bool := decide (logical < 96) || (decide (168 ≤ logical) && decide (logical < 184))

/-- A copy that is complete and waits for a step changes its map at the step that produces `epoch`. -/
def migrateAtStep (epoch : Nat) (s : State) : State :=
  match s.basin.migration with
  | some m => if m.copied then finishMigration epoch s else s
  | none => s

/-- BASIN_MIGRATION_COMPLETE: the copy has ended; with a failed write-back check the target retires and the next spare
is chosen (R422, R423). -/
def execBasinMigrationComplete (t : Nat) (ok : Bool) (s : State) : Host.Outcome State Fault Refusal :=
  let s := atTime t s
  .next (match s.basin.migration with
    | none => s
    | some m =>
      if m.copied then s
      else if ok then
        if mapsAtStep m.logical then onBasin (fun b => { b with migration := some { m with copied := true } }) s
        else finishMigration 0 s
      else
        let s := onSection m.target (fun x => { x with state := .retired, changeHours := s.path.hours }) s
        let s := checkSpares (onBasin (fun b => { b with migration := none }) s)
        nextMigration (beginMigration m.logical m.cause s))

/-- What the scrubber counts for a codeword with errors. -/
def countErrors (p errors : Nat) (s : State) : State :=
  let h := s.path.hours
  onSection p (fun x =>
    if errors = 1 then { x with singles := sat32 (x.singles + 1), singleHours := x.singleHours.filter (inWindow s) ++ [h], errorHours := h }
    else if errors = 2 then { x with doubles := sat32 (x.doubles + 1), doubleHours := x.doubleHours.filter (inWindow s) ++ [h], errorHours := h }
    else { x with triples := min 0xFFFF (x.triples + 1), errorHours := h }) s

/-- A codeword is marked poisoned and reported with its reader (R15, 0x0102). -/
def poisonWord (codeword reader : Nat) (s : State) : State :=
  let p := physicalOf s (codeword * 8 / 0x100000)
  let s := onBasin (fun b => { b with poison := insertSorted codeword b.poison, uncorrectable := true }) s
  stage 0x0102 srcSection (le4 (codeword * 8) ++ le2 p ++ [byteOf reader]) s

/-- A poisoned codeword of a physical section that serves no logical one; it is reported by its place in the memory
(notes/assumptions/68.md). -/
def poisonIdle (codeword p : Nat) (s : State) : State :=
  let s := onBasin (fun b => { b with idlePoison := insertSorted codeword b.idlePoison, uncorrectable := true }) s
  stage 0x0102 srcSection (le4 (codeword * 8) ++ le2 p ++ [byteOf 5]) s

/-- Codewords of the memory: 512 sections of 1 MiB. -/
def codewords : Nat := 67108864

/-- One codeword of the memory read by the scrubber, with the number of bits in error: those of a section that serves a
logical one, and those of the other sections (R12, R16). -/
def scrubWord (codeword errors : Nat) (s : State) : State :=
  if codewords ≤ codeword then s
  else
    let s := onBasin (fun b => { b with scrubbed := b.scrubbed + 1 }) s
    let p := codeword / 0x20000
    match logicalOf s p with
    | some l =>
      let w := l * 0x20000 + codeword % 0x20000
      if errors = 0 ∨ s.basin.poison.contains w = true then s
      else
        let s := countErrors p errors s
        checkSection p (if 3 ≤ errors then poisonWord w 5 s else s)
    | none =>
      if errors = 0 ∨ s.basin.idlePoison.contains codeword = true then s
      else
        let s := countErrors p errors s
        if 3 ≤ errors then poisonIdle codeword p s else s

/-- SCRUB_CODEWORD (R16). -/
def execScrubCodeword (t : Nat) (codeword errors : Nat) (s : State) : Host.Outcome State Fault Refusal :=
  let s := atTime t s
  .next (if s.path.powered then scrubWord codeword errors s else s)

end Sys2Proof.Machine
end

