-- ==== Sys2Proof/Machine/Mirror.lean ====
section
/-! DEFINITION. The standby's side of the mirror: records applied to the shadow image, held executions, and settings
that a record brings (R28, R29, R107, R110, R147, R152 to R155, R349, R488). -/

namespace Sys2Proof.Machine

open Sys2Proof

def prgStartCode : Nat := 0x0303
def prgStopCode : Nat := 0x0304

/-! ### Requests to the active -/

def requestFullForm (k : TaskId) (s : State) : State :=
  if s.ctl.tasks[k].wantFull then s
  else towSend (.nack (.fullForm k)) (onTask k (fun x => { x with wantFull := true }) s)

/-! ### Held executions, R152 -/

/-- The active is heard: held results are discarded, and their tasks' next records are requested in full form. -/
def dropHeld (s : State) : State :=
  let held := s.ctl.execs.filter fun e => e.held
  held.foldl (fun s e => requestFullForm e.task s)
    (resumeNext (voidTasks (held.map fun e => e.task) (onExecs (fun es => es.filter fun e => !e.held) s)))

/-! ### Entries of a record, R154 -/

/-- Puts a journal entry in the place of one with its ID, or adds it; the entry that ended earliest makes room (R340). Only
the 64 bytes of an entry travel (R154): an attachment stays with the module that made it (notes/assumptions/18.md). -/
def jput (x : JnlEntry) (s : State) : State :=
  onKeeper (fun k =>
    let others := k.journal.filter fun e => e.id != x.id
    let room := if others.length < 256 then others
      else match (sortBy (fun e => e.ended) (others.filter fun e => ended e.state)).head? with
        | some old => others.filter fun e => e.id != old.id
        | none => others
    let mine := match k.journal.find? fun e => e.id == x.id with
      | some e => e.attachment
      | none => []
    { k with journal := if room.length < 256 then room ++ [{ x with attachment := mine }] else room }) s

/-- The tasks that a mirrored PRG.START or PRG.STOP names; its entry carries the task mask in detail 2. -/
def journalTasks (x : JnlEntry) (epoch : Nat) (s : State) : State :=
  if x.epoch ≠ epoch then s
  else if x.command = prgStartCode then
    (maskTasks s x.detail2).foldl (fun s k => if (codeOf s k).isSome && enabledTask s k && !s.ctl.tasks[k].running then startTask k s else s) s
  else if x.command = prgStopCode then (maskTasks s x.detail2).foldl (fun s k => stopTask k s) s
  else s

/-- A committed slot of the active lands in the copy that the step commits, else as a host value lands (R489). -/
def takeSlot (x : SlotImage) (epoch : Nat) (s : State) : State :=
  match tget x.tag s.img.tags with
  | none => s
  | some t =>
    let isB := hostCopyIsB s t epoch
    clearPoison (slotAddress x.tag isB) 32 (onTag x.tag (putCopy isB (copyOfImage x epoch)) s)

def putForce (f : Force) (s : State) : State :=
  onImg (fun im => { im with forces := insertBy (fun x => x.tag) f (im.forces.filter fun x => x.tag != f.tag) }) s

def dropForce (i : Nat) (s : State) : State := onImg (fun im => { im with forces := im.forces.filter fun x => x.tag != i }) s

/-- One entry of a record. -/
def applyEntry (epoch : Nat) (x : MirrorEntry) (s : State) : State :=
  match x with
  | .inst n r => commitInst n r s
  | .slot i => takeSlot i epoch s
  | .forceSet f => putForce f s
  | .forceClear i => dropForce i s
  | .journal e => journalTasks e epoch (jput e s)
  | .exchange _ _ _ =>
    match s.ctl.staged with
    | some g => installProgram g.prog (stagingOf s.ctl.insts g.prog) epoch s
    | none => s
  | .setting _ _ => s
  | .undefinedType _ => s

/-- PAIR-scope settings of a record take effect with it, and both copies are written (R349, R352). -/
def applySettings (r : MirrorRecord) (s : State) : State :=
  let es : Tbl (List Byte) := r.entries.filterMap fun x => match x with
    | .setting p v => some (p, v)
    | _ => none
  if es.isEmpty then s else rewriteCopies (applyAtCommit es (applyImmediate es s))

/-! ### Records in order, R155 -/

/-- The record names a program version that the standby does not hold staged and verified (R107). -/
def lacksVersion (s : State) (r : MirrorRecord) : Bool :=
  r.entries.any fun x => match x with
    | .exchange v _ _ => !(match s.ctl.staged with
      | some g => g.prog.version == v && g.state == .verified
      | none => false)
    | _ => false

/-- Place of the shadow execution of a record's task and tick. -/
def shadowPlace (s : State) (r : MirrorRecord) : Option Nat :=
  match r.task with
  | none => none
  | some k => placeWhere s fun e => e.task == k && e.tick == r.tick && e.shadow

/-- The record may be applied now: its shadow step has been computed, or there is none. -/
def recordReady (s : State) (r : MirrorRecord) : Bool :=
  match shadowPlace s r with
  | none => true
  | some i => match s.ctl.execs[i]? with
    | some e => e.phase == .ended
    | none => true

/-- An execution that has been stepped stays only for a third lane that trails (R126). -/
def retireExec (i : Nat) (s : State) : State :=
  match s.ctl.execs[i]? with
  | none => s
  | some e =>
    if (takingPart e).all fun c => c.ended then onExecs (fun es => es.eraseIdx i) s
    else onExecs (lmod i fun e => { e with phase := .stepped }) s

/-- Earlier shadow steps of the task, whose records never came, are discarded. -/
def dropOlderShadow (k : TaskId) (tick : Nat) (s : State) : State :=
  onExecs (fun es => es.filter fun e => !(e.task == k && e.shadow && e.phase == .ended && decide (e.tick < tick))) s

/-- The shadow step of the record: its digest is compared and its values are committed (R155 steps 1 to 3). A digest that differs is a failed comparison of the task, with no node to name
(notes/assumptions/23.md). Without a
shadow step a record that is not in full form leaves the task's values behind, and a full form is requested. -/
def shadowStep (r : MirrorRecord) (s : State) : State :=
  match r.task, shadowPlace s r with
  | some k, some i =>
    match s.ctl.execs[i]? with
    | none => s
    | some e =>
      let same := decide (writeDigest s e = r.digest)
      let s := retireExec i (commitExec e r.epoch s)
      let s := onTask k (fun x => { x with lastRelease := max x.lastRelease (e.tick + e.offset) }) s
      let s := if same || r.fullForm then s else requestFullForm k s
      let s := if e.unmatched && !r.fullForm then requestFullForm k s else s
      if same then s else mismatched k e.tick 0 (duplex e) e.unmatched s
  | some k, none => if r.fullForm then s else requestFullForm k s
  | none, _ => s

/-- A task of which records or manifests come runs on the active. -/
def noteRunning (k : TaskId) (s : State) : State :=
  if s.ctl.tasks[k].running || (codeOf s k).isNone then s
  else onTask k (fun x => { x with running := true, notBefore := 0, lastTick := none }) s

/-- MODULE-scope commits accepted by a standby take effect at the record that it applies (R349). -/
def standbyChanges (epoch : Nat) (s : State) : State :=
  let r := applyChanges epoch false s
  r.1

/-- The active's publications of a record wait for their acknowledgements here too, so that the last complete publication goes on
from the record's after a take-over (R28). -/
def notePublished (r : MirrorRecord) (s : State) : State :=
  let s := match r.task with
    | some k => (nodesOf (outputPoints s k r.epoch)).foldl (fun s node => noteUnacked node k r.epoch s) s
    | none => s
  onNet (fun n => { n with lastComplete := r.lastComplete,
                           nodes := tmap (fun _ x => { x with unacked := x.unacked.filter fun u => decide (r.lastComplete < u.epoch) }) n.nodes }) s

/-- Release offset of the record's execution. -/
def recordOffset (s : State) (r : MirrorRecord) : Nat :=
  match r.task with
  | none => 0
  | some k => match (shadowPlace s r).bind fun i => s.ctl.execs[i]? with
    | some e => e.offset
    | none => offsetAt s k r.tick

/-- The record is applied: shadow step, entries, settings, epoch (R155). The transmit objects of its task form their frames here
too: without the claim a channel of a shared bus suppresses them, one of its own bus sends them (R298, R302). -/
def applyRecord (r : MirrorRecord) (s : State) : State :=
  let offset := recordOffset s r
  let s := match r.task with
    | some k => dropOlderShadow k r.tick (noteRunning k s)
    | none => s
  let s := shadowStep r s
  let s := r.entries.foldl (fun s x => applyEntry r.epoch x s) s
  let s := standbyChanges r.epoch (applySettings r s)
  let s := migrateAtStep r.epoch s
  let s := match r.task with
    | some k => if r.fullForm then onTask k (fun x => { x with wantFull := false }) s else s
    | none => s
  let s := notePublished r s
  let s := onImg (fun im => { im with epoch := r.epoch, stored := if r.epoch % 1048576 = 0 then r.epoch else im.stored }) s
  let s := match r.task with
    | some k => formObjects k (r.tick + offset) s
    | none => s
  let s := noteFullForm { r with entries := fullEntries r.task r.entries s } s
  noteClaim r.claim (markMirrored r.epoch s)

/-- The standby leaves its role to join again by catch-up (R107, R147). -/
def rejoin (s : State) : State :=
  let s := onTow (fun t => { t with records := [], shadowBarges := [], activeBarges := [], catchup := some { chunks := [], queued := [] } }) s
  let s := haltExecs (enterState .ready .none s)
  pairChanged (fun p => { p with catchingUp := true }) s

/-- Applies the waiting records in epoch order, as far as their shadow steps have been computed. -/
def settleRecords : Nat → State → State
  | 0, s => s
  | n + 1, s =>
    match s.tow.records with
    | [] => s
    | r :: rest =>
      if !recordReady s r then s
      else
        let s := onTow (fun t => { t with records := rest }) s
        if lacksVersion s r then rejoin s else settleRecords n (applyRecord r s)

def applyWaiting (s : State) : State := settleRecords s.tow.records.length s

/-! ### Taking over by a hand-over, R159 -/

/-- The HANDOVER that was taken is answered once the claim is raised. -/
def answerHandover (instants : List (TaskId × Nat)) (s : State) : State :=
  match s.tow.handoverSeen, s.mod.state with
  | none, _ => s
  | some _, .active =>
    towSend (.handoverAck { newClaim := s.pair.claim, appliedEpoch := s.img.mirrored, instants := instants })
      (onTow (fun t => { t with handoverSeen := none }) s)
  | some _, _ => if s.pair.cold.isSome then s else onTow (fun t => { t with handoverSeen := none }) s

/-- The standby raises its claim and answers the HANDOVER. A standby in NAP answers when it has woken, and one that cannot raise
its claim sends no answer. -/
def finishHandover (h : Handover) (s : State) : State :=
  let instants := handoverInstants s
  answerHandover instants (takeOver h.cause h.safeSent 0 s)

/-- Every record that the HANDOVER names has been applied, or the 50 µs for them have passed (R159). -/
def handoverReady (h : Handover) (s : State) : Bool :=
  decide (h.lastCompleted ≤ s.img.epoch) || decide (s.tow.handoverAt + 50000 ≤ nowOf s)

/-- Records are applied as far as they can be; a HANDOVER that waited for them is then taken. -/
def standbyStep (s : State) : State :=
  let s := applyWaiting s
  match s.tow.handoverSeen with
  | some h =>
    if s.mod.state = .standby ∧ handoverReady h s = true ∧ keeperDecides s = true ∧ s.pair.cold.isNone = true then finishHandover h s else s
  | none => s

end Sys2Proof.Machine
end

