-- ==== Sys2Proof/Machine/EpochStep.lean ====
section
/-! DEFINITION. The epoch step, the deadline that it has, and the progress of an accepted exchange up to its point
(R18, R19, R21, R49 to R57, R103 to R105, R126, R159, R201, R488). -/

namespace Sys2Proof.Machine

open Sys2Proof

/-! ### What a step of a task does, R19 -/

/-- Slack and short slack of a step taken at `t`, with its scan time (R53, R54). -/
def noteSlack (t : Nat) (e : Exec) (s : State) : State :=
  let release := e.tick + e.offset
  let slack : Int := (release : Int) - t
  let short := decide (slack < (usToNs e.margin : Nat))
  let s := onTask e.task (fun x =>
    { x with minSlack := some (match x.minSlack with
               | some m => min m slack
               | none => slack),
             shortSlack := if short then sat32 (x.shortSlack + 1) else x.shortSlack, lastRelease := max x.lastRelease release }) (noteScan t e s)
  if short then stage 0x0202 (srcTask e.task) (le4 (ofSigned 32 (slack / 1000)) ++ le4 e.margin) s else s

/-- The epoch is stored in MRAM every 1,048,576 steps (R21), with the force table's size (R117). -/
def storeEpoch (s : State) : State :=
  if s.img.epoch % 1048576 = 0 then onImg (fun im => { im with stored := im.epoch, storedForces := im.forces.length }) s else s

/-- The outputs of a step: barges, on-module releases and CAN objects, with the release time T + O (R51, R52, R298). -/
def publishStep (t : Nat) (e : Exec) (s : State) : State :=
  let release := e.tick + e.offset
  noteSlack t e (formObjects e.task release (releaseStages e.task release (publishNodes e.task release s)))

/-- The barge engine or the step sequencer meets poison in what the step publishes (R15). -/
def outputPoisoned (s : State) (k : TaskId) : Bool :=
  !s.basin.poison.isEmpty && s.img.tags.any fun p =>
    isNodeOutput p.2.decl && p.2.decl.writer == some k && poisonedAt s (slotAddress p.1 (copyIsB p.2 s.img.epoch))

/-- The step of an execution of the active at `t`. Where the barge engine meets poison the step stands and is mirrored;
its barges are not built, and the module declares the fault (R15). -/
def stepExec (t i : Nat) (e : Exec) (s : State) : State :=
  let epoch := s.img.epoch + 1
  let digest := writeDigest s e
  let insts : List MirrorEntry := (writtenInsts e).map fun p => .inst p.1 p.2
  let s := retireExec i (commitExec e epoch s)
  let r := applyChanges epoch false s
  let s := migrateAtStep epoch (onImg (fun im => { im with epoch := epoch }) r.1)
  let s := storeEpoch (dropMissed s)
  let bad := outputPoisoned s e.task
  let s := if bad then noteSlack t e s else publishStep t e s
  let s := settleMirror (mirrorStep (some e.task) e.tick e.version digest (insts ++ r.2) s)
  if bad then poisonFault s else s

/-- The module takes steps: `ACTIVE` and not handing over (R159). -/
def takesSteps (s : State) : Bool := s.mod.state == .active && !handingOver s

/-! ### Steps without a task end, R18 -/

/-- No task executes at this instant. -/
def lanesFree (s : State) : Bool := allTasks.all fun k => taskIdle s k

/-- The module takes a step for a host change by itself; a standby follows the active's steps. -/
def stepsAlone (s : State) : Bool :=
  match s.mod.state with
  | .held | .ready | .stoppedFault | .maintenance => true
  | .active => !handingOver s
  | _ => false

/-- The step formed for one host change. -/
def stepChange (s : State) : State :=
  let epoch := s.img.epoch + 1
  let version := oldVersion s.ctl.running
  let r := applyChanges epoch true s
  let s := migrateAtStep epoch (onImg (fun im => { im with epoch := epoch }) r.1)
  let s := storeEpoch (dropMissed s)
  if s.mod.state = .active then settleMirror (mirrorStep none 0 version (crc64 []) r.2 s) else noteSent (markMirrored epoch s)

/-- EPOCH_STEP: for a task that has ended, or for an accepted host change while no task executes (R18, R19). On a
standby the step of a task is the record of the active that waits for it (R155). -/
def execEpochStep (t : Nat) (k : Option TaskId) (s : State) : Host.Outcome State Fault Refusal :=
  let s := atTime t s
  .next (match k with
    | some i =>
      if s.mod.state = .standby then standbyStep s
      else if takesSteps s && !committing s then
        match stepPlace t i s with
        | none => s
        | some p => match s.ctl.execs[p]? with
          | some e => if higherDue t i s then s else stepExec t p e s
          | none => s
      else s
    | none => if stepsAlone s && lanesFree s && changeWaits s then stepChange s else s)

/-! ### The task watchdog, R56 and R57 -/

/-- The instant at which an execution misses its deadline; on a standby extended by the wait for the manifest. -/
def missAt (e : Exec) : Nat :=
  let wait := match e.manifestAt with
    | some a => min (a - e.tick) 10000
    | none => 10000
  e.tick + e.deadline + if e.shadow then wait else 0

/-- The execution of task k whose step has not been taken in time. -/
def missPlace (t : Nat) (k : TaskId) (s : State) : Option Nat :=
  placeWhere s fun e => e.task == k && e.phase != .stepped && decide (missAt e ≤ t) && !(e.shadow && e.phase == .ended)

/-- A deadline miss of the active, in the order of R57; a partner in `STANDBY` takes over. -/
def missActive (s : State) : State :=
  let paired := partnerStandby s
  let s := dropOutputBarges (stopFaulted (setFault .taskOverrun s))
  let s := safeStages (sendSafe s)
  if paired then handOver .selfDeclared true s else s

/-- DEADLINE_MISS. -/
def execDeadlineMiss (t : Nat) (k : TaskId) (s : State) : Host.Outcome State Fault Refusal :=
  let s := atTime t s
  .next (match missPlace t k s with
    | none => s
    | some i =>
      match s.ctl.execs[i]? with
      | none => s
      | some e =>
        let ev (s : State) : State := stage 0x0201 (srcTask k) (le8 e.tick ++ le4 ((t - e.tick) / 1000)) s
        match s.mod.state with
        | .active => if handingOver s then s else missActive (ev s)
        | .standby => stopFaulted (setFault .taskOverrun (ev s))
        | _ => s)

/-- SAFE_BARGE_REPEAT: the `SAFE` broadcast again, 10 µs later, twice, under the same claim (R201). -/
def execSafeBargeRepeat (t : Nat) (s : State) : Host.Outcome State Fault Refusal :=
  let s := atTime t s
  .next (if s.net.safeRepeats = 0 ∨ t < s.net.safeSentAt + 10000 then s
    else finishRelease (sendSafeOnce (s.net.safeRepeats - 1) s))

/-! ### The way to an exchange point, R104, R105 -/

/-- STAGING_COPY_COMPLETE: every carried instance has been copied and every new one made; dual writes are active. -/
def execStagingCopyComplete (t : Nat) (s : State) : Host.Outcome State Fault Refusal :=
  let s := atTime t s
  .next (match s.ctl.exchange, s.ctl.staged with
    | some x, some g =>
      if x.phase = .queued then
        let copy := stagingOf s.ctl.insts g.prog
        let s := onCtl (fun c => { c with exchange := some { x with phase := .staged, staging := copy, stagedAt := t } }) s
        jmod x.journal (fun e => { e with state := .running, step := 2 }) s
      else s
    | _, _ => s)

/-- EXCHANGE_WINDOW_EXPIRY: no exchange point within PRG_EXCHANGE_WINDOW of staging completion. -/
def execExchangeWindowExpiry (t : Nat) (s : State) : Host.Outcome State Fault Refusal :=
  let s := atTime t s
  .next (match s.ctl.exchange with
    | some x =>
      if x.phase = .staged ∧ x.stagedAt + msToNs x.window ≤ t then
        let s := onKeeper (fun k => { k with changes := k.changes.filter fun c => c.journal != x.journal }) s
        failExchange x.journal stStateConflict reasonWindow s
      else s
    | none => s)

end Sys2Proof.Machine
end

