-- ==== Sys2Proof/Machine/Returns.lean ====
section
/-! DEFINITION. A lane that is restored or a spare that is loaded (R120, R129 to R132), and the LANE_MAP word. -/

namespace Sys2Proof.Machine

open Sys2Proof

/-- Codewords of the blocks of 4 KiB that differ in the lane, and cannot be read from CODE either (R129 steps 2 and 3). -/
def wrongBlocks (s : State) (l : LaneId) : List Nat :=
  (poisonedCode s).filter fun w => s.ctl.weave.lanes[l].badCode.any fun x => x / 512 == w / 512

/-- The lane's instruction SRAM is the CODE region's again and its instance-resolution area is built anew, whatever a
debug session wrote there (R129 steps 3 and 4, R131 steps 3 to 5). -/
def rebuildLane (l : LaneId) (s : State) : State :=
  let s := onSec (fun c => { c with laneMem := vmod c.laneMem l fun _ => [] }) s
  setRole l .joining (onLane l (fun x => { x with haltCause := none, haltedIn := none, replaces := none, badCode := [] }) s)

/-- The restoration has failed: the lane returns to HALTED and is replaced, or resynchronised again for want of a spare
(R131, R132). -/
def resyncFailed (l : LaneId) (s : State) : State := replaceDue l (setRole l .halted s)

/-- RESYNC_COMPLETE: restoration complete and verified; a block that is still wrong after reload makes it fail. -/
def execResyncComplete (t : Nat) (l : LaneId) (s : State) : Host.Outcome State Fault Refusal :=
  let s := atTime t s
  .next (if roleOf s l ≠ .resync then s
    else if (wrongBlocks s l).isEmpty then rebuildLane l s
    else resyncFailed l s)

/-- RESYNC_TIMEOUT: restoration is not complete within its bound. -/
def execResyncTimeout (t : Nat) (l : LaneId) (s : State) : Host.Outcome State Fault Refusal :=
  let s := atTime t s
  .next (if roleOf s l = .resync then resyncFailed l s else s)

/-- SPARE_LOAD_COMPLETE: the spare's load is complete and verified. With a codeword of CODE that cannot be read the
digests do not verify, and the lane stays in LOADING. -/
def execSpareLoadComplete (t : Nat) (l : LaneId) (s : State) : Host.Outcome State Fault Refusal :=
  let s := atTime t s
  .next (if roleOf s l = .loading ∧ (poisonedCode s).isEmpty = true then rebuildLane l s else s)

def roleCode : LaneRole → Nat
  | .active => 0
  | .halted => 1
  | .resync => 2
  | .loading => 3
  | .joining => 4
  | .spare => 5
  | .spareTest => 6
  | .retired => 7
  | .bystander => 8

/-- DUPLEX: from the moment a lane leaves ACTIVE until one has re-entered it, with only two usable lanes, and while
fewer than three lanes take part in an execution in progress (R120, R121, R133; notes/assumptions/79.md). -/
def duplexNow (s : State) : Bool :=
  decide ((allLanes.filter fun l => roleOf s l == .active).length < 3) ||
  s.ctl.execs.any fun e => (e.phase == .running || e.phase == .preempted) && decide ((takingPart e).length < 3)

/-- The LANE_MAP word (R120). -/
def laneMap (s : State) : Nat :=
  let w := s.ctl.weave
  flag 31 w.uncompared + flag 30 w.comparatorFault + flag 29 (duplexNow s) +
    (allLanes.map fun l => flag (24 + l.val) w.lanes[l].bistFlag + roleCode w.lanes[l].role * 16 ^ l.val).foldl (· + ·) 0 +
    w.generation % 256 * 2 ^ 16

end Sys2Proof.Machine
end

