-- ==== Sys2Proof/Machine/PairLink.lean ====
section
/-! DEFINITION. The tow line: heartbeats, manifests, agreements, mirror records, NACKs and the serial lanes
(R42, R138, R139, R142 to R149, R151 to R155, R160, R161, R164, R168). -/

namespace Sys2Proof.Machine

open Sys2Proof

/-! ### Heartbeats out, R145 -/

/-- An open INVASIVE session or TAINTED keeps the module from joining a pair; the active then reports UNPAIRED
(R457, R466, "When security meets other events"). -/
def joinBarred (s : State) : Bool :=
  s.mod.state == .ready && (s.sec.tainted || match s.sec.session with
    | some x => x.level == .invasive
    | none => false)

/-- The payload of a heartbeat. A module that must not join reports `HELD`, the one content that makes the active report UNPAIRED
under R138: DESIGN CHOICE (notes/assumptions/81.md). -/
def ownHeartbeat (s : State) : Heartbeat :=
  { state := if joinBarred s then 3 else stateCode s.mod.state, power := powerCode s.mod.power, offer := s.pair.offer.isSome,
    unmatched := s.ctl.tasks.toList.any fun x => x.wantFull, suspect := s.pair.suspect, bist := moduleFlag s,
    weaveClean := weaveClean s && !duplexNow s, claim := s.pair.claim, highestClaim := s.pair.highestClaim,
    node := ownNode s, completed := s.img.epoch, mirrored := s.img.mirrored, serial := Config.serial }

/-- HEARTBEAT_SEND: a heartbeat carries the sequence of the latest other frame and does not advance it (R144, R145). -/
def execHeartbeatSend (t : Nat) (s : State) : Host.Outcome State Fault Refusal :=
  let s := atTime t s
  .next (if s.tow.up then
      onTow (fun w => { w with sent := w.sent ++ [towFrame (ownerId s) (mirrorFormat s) s.tow.seqOut (.heartbeat (ownHeartbeat s))] }) s
    else s)

/-! ### Frames in, R144, R147 -/

def nackResend (sequence : Nat) (s : State) : State := towSend (.nack (.resend sequence)) s

/-- What becomes of a frame other than a heartbeat: discarded, or accepted in sequence. -/
def acceptTow (fr : TowHdr) (asks : Bool) (s : State) : Option State × State :=
  if !s.tow.up then (none, s)
  else if !fr.crcOk then
    let s := onTow (fun w => { w with crcErrors := sat32 (w.crcErrors + 1) }) s
    (none, if asks then nackResend (s.tow.seqIn + 1) s else s)
  else if fr.owner ≠ ownerId s ∨ pairedNow s = false ∨ fr.sequence ≤ s.tow.seqIn then (none, s)
  else if s.tow.seqIn + 1 < fr.sequence then (none, nackResend (s.tow.seqIn + 1) s)
  else
    let s := onTow (fun w => { w with seqIn := fr.sequence }) s
    (some s, s)

/-- Runs `g` where the frame is accepted and is the last of its record (R144). -/
def withFrame (fr : TowHdr) (asks : Bool) (g : State → State) (s : State) : State :=
  match acceptTow fr asks s with
  | (some s', _) => if fr.more then s' else g s'
  | (none, s') => s'

/-- A frame of the partner arrives behind a gap. -/
def behindGap (fr : TowHdr) (s : State) : Bool :=
  s.tow.up && fr.crcOk && fr.owner == ownerId s && pairedNow s && decide (s.tow.seqIn + 1 < fr.sequence)

/-! ### The catch-up that an active serves, R141 and R150 -/

def chunksOf {α : Type} (n : Nat) : Nat → List α → List (List α)
  | 0, _ => []
  | k + 1, xs => if xs.isEmpty then [] else xs.take n :: chunksOf n k (xs.drop n)

/-- Pieces with the place of the first element of each. -/
def placedChunks {α : Type} (n : Nat) (xs : List α) : List (Nat × List α) :=
  (chunksOf n (xs.length + 1) xs).zipIdx.map fun p => (n * p.2, p.1)

/-- Tags in runs of consecutive indices, at most 250 each. -/
def slotRuns : Tbl Tag → List (List (Nat × Tag))
  | [] => []
  | p :: rest =>
    match slotRuns rest with
    | (q :: run) :: more =>
      if q.1 = p.1 + 1 ∧ run.length < 249 then (p :: q :: run) :: more else [p] :: (q :: run) :: more
    | more => [p] :: more

/-- Poisoned words of records at a Basin address, numbered from the first word of the chunk. -/
def poisonMap (s : State) (addresses : List Nat) : List Nat :=
  (addresses.zipIdx.flatMap fun a => (List.range 4).filterMap fun i =>
    if s.basin.poison.contains (a.1 / 8 + i) then some (4 * a.2 + i) else none)

/-- Chunks of a container that lies at an address of CODE. -/
def codeChunks (s : State) (base : Nat) (image : List Byte) : List Chunk :=
  (placedChunks 8000 image).map fun p =>
    .code p.1 p.2 ((List.range ((p.2.length + 7) / 8)).filter fun i => s.basin.poison.contains ((base + p.1) / 8 + i))

/-- Consecutive entries that take at most 8,000 bytes together, with the place of the first. -/
def settingChunks : Nat → List (Nat × List Byte) → List (Nat × List (Nat × List Byte)) → List (Nat × List (Nat × List Byte))
  | _, [], done => done.reverse
  | i, p :: rest, done =>
    let size (es : List (Nat × List Byte)) : Nat := (es.map fun e => (settingEntry e.1 e.2).length).foldl (· + ·) 0
    match done with
    | (first, es) :: more =>
      if size es + (settingEntry p.1 p.2).length ≤ 8000 then settingChunks (i + 1) rest ((first, es ++ [p]) :: more)
      else settingChunks (i + 1) rest ((i, [p]) :: done)
    | [] => settingChunks (i + 1) rest [(i, [p])]

/-- The chunks of a catch-up, read now (R141, R150). Where no version runs, an empty chunk stands for its container. -/
def catchupChunks (s : State) : List Chunk :=
  let e := s.img.epoch
  let running := match s.ctl.running with
    | some p => codeChunks s (codeHalf s.ctl.half) p.image
    | none => [Chunk.code 0 [] []]
  let staged := match s.ctl.staged with
    | some g => codeChunks s (codeHalf (!s.ctl.half)) g.prog.image
    | none => []
  let slots := (slotRuns s.img.tags).map fun ts =>
    Chunk.tagSlots (match ts.head? with
        | some p => p.1
        | none => 0)
      (ts.map fun p => slotImage p.1 p.2 (newest p.2 e)) (poisonMap s (ts.map fun p => slotAddress p.1 (copyIsB p.2 e)))
  let insts := (placedChunks 250 s.ctl.insts).map fun p =>
    Chunk.state (32 * p.1) p.2 (poisonMap s (p.2.map fun x => instAddress s x.1))
  let settings := s.settings.committed.filter fun p => isPairScope p.1
  running ++ staged ++ slots ++ insts ++ (placedChunks 250 s.img.forces).map (fun p => Chunk.forces p.1 p.2) ++
    (placedChunks 125 s.keeper.journal).map (fun p => Chunk.journal p.1 p.2) ++
    (settingChunks 0 settings []).map (fun p => Chunk.settings p.1 p.2) ++ [.lostRanges s.img.lostFloor s.img.lostRanges]

/-- CRC-32C over every chunk payload in order (R150). -/
def chunksCrc (cs : List (Nat × Chunk)) : Nat := (crc32c (cs.flatMap fun c => catchupBytes c.1 c.2)).toNat

/-- Sends a whole catch-up; steps taken from now on are sent in full form until the partner is in `STANDBY`. -/
def serveCatchup (s : State) : State :=
  let cs := catchupChunks s
  let s := pairChanged (fun p => { p with catchingUp := true }) (onTow (fun w => { w with serving := true }) s)
  let e := s.img.epoch
  let s := onCtl (fun c => { c with staged := c.staged.map fun g => { g with onPartner := g.state == .verified } }) s
  let s := cs.foldl (fun s c => towSend (.catchup e c) s) s
  towSend (.catchup 0 (.ending e cs.length (chunksCrc (cs.map fun c => (e, c))))) s

/-! ### Heartbeats in -/

/-- Drops the mirror records that the partner has reported applied (R147). -/
def releaseRetained (upTo : Nat) (s : State) : State :=
  onTow (fun w => { w with retained := w.retained.filter fun f => match f.payload with
    | .mirror r => decide (upTo < r.epoch)
    | _ => false }) s

/-- What a heartbeat means to an active (R161, R168, R136, R141). -/
def heartbeatActive (wasSilent : Bool) (hb : Heartbeat) (s : State) : State :=
  if hb.claim = s.pair.claim ∧ s.pair.claim ≠ 0 ∧ Config.serial.toNat < hb.serial.toNat then supersede hb.claim s
  else if hb.state = 5 then
    let s := onTow (fun w => { w with serving := false }) s
    let s := pairChanged (fun p => { p with catchingUp := false }) (onPair (fun p => { p with mirrorAlone := false }) s)
    let s := releaseRetained hb.mirrored (markMirrored (min hb.mirrored s.img.epoch) s)
    if s.ctl.weave.uncompared && !handingOver s then moduleFault .comparatorFault s else s
  else
    let s := if hb.state ≤ 4 ∧ hb.claim ≤ s.pair.claim ∧ (wasSilent = true ∨ s.pair.paired = true) then
        settleMirror (onPair (fun p => { p with mirrorAlone := true }) s)
      else s
    if hb.state = 4 ∧ s.pair.paired = true ∧ s.tow.serving = false ∧ handingOver s = false then serveCatchup s else s

/-- The active is heard: held executions end, and a HANDOVER that waits is taken when its bound has passed. Where the active
has left its role without a hand-over, the standby takes over with a claim above the one that was reported. -/
def heartbeatStandby (hb : Heartbeat) (s : State) : State :=
  let s := standbyStep (dropHeld s)
  if hb.state = 4 ∧ hb.claim = 0 ∧ s.mod.state = .standby then takeOver .superseded false 0 s else s

/-- The module's offer is withdrawn: its command ends with ROLE_CONFLICT. -/
def dropOffer (s : State) : State :=
  match s.pair.offer with
  | some j => jend j .failed stRoleConflict (onPair (fun p => { p with offer := none }) s)
  | none => s

/-- Offers, in `READY` and in `STOPPED_FAULT`: an active partner or one with the lower serial number has the role; against a
higher one the 30 µs begin again (R139, "Coincidences in a pair"). -/
def settleOffer (hb : Heartbeat) (s : State) : State :=
  if hb.state = 6 then dropOffer s
  else if s.pair.offer.isSome && hb.offer then
    if Config.serial.toNat < hb.serial.toNat then onPair (fun p => { p with offerAt := nowOf s }) s else dropOffer s
  else s

/-- A module in `READY`: it joins an active partner, and settles offers (R139, R141). -/
def heartbeatReady (hb : Heartbeat) (s : State) : State :=
  let s := settleOffer hb s
  if hb.state = 6 ∧ s.pair.paired = true ∧ joinBarred s = false then
    if s.tow.catchup.isSome then s
    else pairChanged (fun p => { p with catchingUp := true }) (onTow (fun w => { w with catchup := some { chunks := [], queued := [] } }) s)
  else if s.tow.catchup.isSome then pairChanged (fun p => { p with catchingUp := false }) (onTow (fun w => { w with catchup := none }) s)
  else s

/-- The streams of the partner that a valid heartbeat resets: its claim-zero `STATUS` stream (R188). -/
def forgetZeroStatus (s : State) : State :=
  onNet (fun n => { n with partnerStreams := n.partnerStreams.filter fun x => !(x.1 == 5 && x.2.2.1 == 0) }) s

/-- The latest sequence that a heartbeat names (R147): a module that has lost frames asks for them. A partner that counts anew, or a
module that will join by catch-up, takes the stream from here. -/
def followStream (sequence : Nat) (s : State) : State :=
  let anew := s.pair.lastHeartbeat.isNone || decide (sequence < s.tow.seqIn) || (s.mod.state == .ready && s.tow.catchup.isNone)
  if anew then onTow (fun w => { w with seqIn := sequence }) s
  else if s.tow.seqIn < sequence then nackResend (s.tow.seqIn + 1) s
  else s

/-- A valid heartbeat (R138, R145, R160, R164). -/
def validHeartbeat (t : Nat) (fr : TowHdr) (hb : Heartbeat) (s : State) : State :=
  let wasSilent := s.pair.silence
  let near := decide (fr.format ≤ mirrorFormat s + 1) && decide (mirrorFormat s ≤ fr.format + 1)
  let pairs := ownerId s != 0 && near && decide (4 ≤ stateCode s.mod.state) && decide (4 ≤ hb.state) && !joinBarred s
  let s := followStream fr.sequence s
  let s := pairChanged (fun p =>
    { p with partner := some hb, partnerFormat := fr.format, paired := pairs, ownerMismatch := false, formatMismatch := !near, silence := false,
             towLineLost := false, partnerSuspect := p.partnerSuspect && decide (4 ≤ hb.state) }) s
  let s := onPair (fun p =>
    let tied := p.claim != 0 && hb.claim == p.claim
    { p with lastHeartbeat := some t, heardHeartbeat := true, heardOffer := hb.offer, checkWindow := false, tie := tied,
             activeClaim := if hb.claim = 0 then p.activeClaim else hb.claim }) s
  let s := noteClaim (max hb.claim hb.highestClaim) (forgetZeroStatus s)
  let s := seeClaim hb.claim s
  match s.mod.state with
  | .active => heartbeatActive wasSilent hb s
  | .standby => heartbeatStandby hb s
  | .ready => heartbeatReady hb s
  | .stoppedFault => settleOffer hb s
  | _ => s

/-- HEARTBEAT_RECEIVE: valid where its CRC passes and its owner ID matches; another owner's is recorded once (R138). -/
def execHeartbeatReceive (t : Nat) (fr : TowHdr) (hb : Heartbeat) (s : State) : Host.Outcome State Fault Refusal :=
  let s := atTime t s
  .next (if !s.tow.up then s
    else if !fr.crcOk then onTow (fun w => { w with crcErrors := sat32 (w.crcErrors + 1) }) s
    else if fr.owner ≠ ownerId s then
      let s := onPair (fun p => { p with heardHeartbeat := true }) s
      if s.pair.ownerMismatch then s
      else stage 0x0602 srcModule (le2 (ownerId s) ++ le2 fr.owner) (pairChanged (fun p => { p with ownerMismatch := true }) s)
    else validHeartbeat t fr hb s)

/-! ### Manifests, agreements and fetched barges, R42, R93, R148, R151 -/

/-- The buffer of a landing slot that holds a barge of a sequence. -/
def bargeOf (s : State) (node sequence : Nat) : Option LandedBarge :=
  match tget node s.net.nodes with
  | some n => n.landing.find? fun b => b.sequence == sequence
  | none => none

/-- Takes the barges that a manifest names; zero names none. -/
def manifestSlots (s : State) (m : Manifest) (slots : Tbl LandedBarge) : Tbl LandedBarge :=
  m.nodes.foldl (fun r p =>
    if p.2 = 0 then tdel p.1 r
    else match bargeOf s p.1 p.2 with
      | some b => tput p.1 b r
      | none => r) slots

/-- The shadow execution that a manifest is for: latched and without one. -/
def manifestPlace (s : State) (m : Manifest) : Option Nat :=
  placeWhere s fun e => e.task == m.task && e.tick == m.tick && e.phase == .latched && e.shadow && !e.held && e.manifest.isNone

/-- A standby that has not latched the tick, because it learns only now that the task runs, latches it from the
manifest. -/
def lateLatch (m : Manifest) (s : State) : State :=
  let seen := match s.ctl.tasks[m.task].lastTick with
    | some l => decide (m.tick ≤ l)
    | none => false
  let s := noteRunning m.task s
  if seen || (codeOf s m.task).isNone || !takesTicks s then s
  else
    onTask m.task (fun x => { x with lastTick := some m.tick }) (onExecs (fun es => es ++ [latchExec s m.task m.tick]) s)

/-- The manifest of a commit of the active (R42). -/
def takeManifest (t : Nat) (m : Manifest) (s : State) : State :=
  if s.mod.state ≠ .standby then s
  else
    let s := lateLatch m s
    match manifestPlace s m with
    | none => s
    | some i =>
      let put (e : Exec) : Exec := { e with manifest := some m, manifestAt := some t, baseEpoch := m.baseEpoch, slots := manifestSlots s m e.slots }
      let s' := onExecs (lmod i put) s
      m.nodes.foldl (fun s p => if p.2 != 0 && (bargeOf s p.1 p.2).isNone then towSend (.nack (.barge p.1 p.2)) s else s) s'

/-- MANIFEST_RECEIVE. -/
def execManifestReceive (t : Nat) (fr : TowHdr) (mf : Manifest) (s : State) : Host.Outcome State Fault Refusal :=
  .next (withFrame fr true (takeManifest t mf) (atTime t s))

/-- AGREEMENT_RECEIVE: the values wait in the shadow execution for its AGREE instructions (R93). -/
def execAgreementReceive (t : Nat) (fr : TowHdr) (ag : Agreement) (s : State) : Host.Outcome State Fault Refusal :=
  let take (s : State) : State :=
    match placeWhere s (fun e => e.task == ag.task && e.tick == ag.tick && e.shadow) with
    | some i => onExecs (lmod i fun e => { e with agreements := e.agreements ++ ag.entries }) s
    | none => s
  .next (withFrame fr false (fun s => if s.mod.state = .standby then take s else s) (atTime t s))

/-- MANIFEST_TIMEOUT: 10 µs after the tick the standby runs a held execution (R152). -/
def execManifestTimeout (t : Nat) (k : TaskId) (s : State) : Host.Outcome State Fault Refusal :=
  let s := atTime t s
  .next (match placeWhere s (fun e => e.task == k && e.phase == .latched && e.shadow && !e.held && e.manifest.isNone && decide (e.tick + 10000 ≤ t)) with
    | some i => onExecs (lmod i fun e => { e with held := true }) s
    | none => s)

/-- BARGE_FETCH_TIMEOUT: after 20 µs the standby commits the buffer that it latched (R151). -/
def execBargeFetchTimeout (t : Nat) (k : TaskId) (s : State) : Host.Outcome State Fault Refusal :=
  let s := atTime t s
  let waits (e : Exec) : Bool :=
    e.task == k && e.phase == .latched && e.shadow && !e.unmatched && (match e.manifest, e.manifestAt with
      | some m, some a => !manifestMatched e m && decide (a + 20000 ≤ t)
      | _, _ => false)
  .next (match placeWhere s waits with
    | some i => requestFullForm k (onExecs (lmod i fun e => { e with unmatched := true }) s)
    | none => s)

/-! ### Mirror records and NACKs, R147, R153, R155 -/

/-- What has come of a copy is discarded, and the catch-up begins again: sequence 0 is one that no sender still holds
(R147, R150; notes/assumptions/18.md). -/
def copyAgain (s : State) : State :=
  nackResend 0 (onTow (fun w => { w with catchup := some { chunks := [], queued := [] } }) s)

def undefinedEntry (r : MirrorRecord) : Bool :=
  r.entries.any fun x => match x with
    | .undefinedType _ => true
    | _ => false

/-- A record that cannot be applied is discarded and asked for in full form (R154). No task's full form brings back a record without
a task end: the standby joins again by catch-up, and a module that joins asks for its copy anew (R147). -/
def refuseRecord (r : MirrorRecord) (s : State) : State :=
  match r.task with
  | some k => towSend (.nack (.fullForm k)) s
  | none => if s.mod.state = .standby then rejoin s else if s.tow.catchup.isSome then copyAgain s else s

/-- A record of the active. -/
def takeRecord (fr : TowHdr) (r : MirrorRecord) (s : State) : State :=
  let s := onImg (fun im => { im with observed := max im.observed r.epoch }) s
  if fr.invalid || r.invalid then refuseRecord r s
  else if undefinedEntry r && !(decide (fr.format = mirrorFormat s + 1)) then refuseRecord r s
  else
    match s.tow.catchup with
    | some c => onTow (fun w => { w with catchup := some { c with queued := c.queued ++ [r] } }) s
    | none =>
      if s.mod.state ≠ .standby then s
      else applyWaiting (onTow (fun w => { w with records := w.records ++ [r] }) (dropHeld s))

/-- MIRROR_RECEIVE. -/
def execMirrorReceive (t : Nat) (fr : TowHdr) (rc : MirrorRecord) (s : State) : Host.Outcome State Fault Refusal :=
  .next (withFrame fr true (takeRecord fr rc) (atTime t s))

def isHeartbeat (f : TowFrame) : Bool :=
  match f.payload with
  | .heartbeat _ => true
  | _ => false

/-- The sequence after a frame record's last. -/
def seqAfter (f : TowFrame) : Nat := f.sequence + f.wire.length

/-- The frames may be sent again: those of a mirror record only while it is retained. -/
def stillHeld (s : State) (f : TowFrame) : Bool :=
  match f.payload with
  | .mirror _ => s.tow.retained.any fun g => seqAfter g == seqAfter f
  | .heartbeat _ => false
  | _ => true

/-- The frames of a record from a sequence on. -/
def cutFrame (sequence : Nat) (f : TowFrame) : TowFrame :=
  if f.sequence < sequence then { f with sequence := sequence, wire := f.wire.drop (sequence - f.sequence) } else f

/-- Frames to send again, from a sequence on; each once. -/
def framesFrom (s : State) (sequence : Nat) : List TowFrame :=
  ((s.tow.sent.filter fun f => !isHeartbeat f && decide (sequence < seqAfter f)).map (cutFrame sequence)).foldl
    (fun r f => if r.any fun g => seqAfter g == seqAfter f then r else r ++ [f]) []

/-- NACK_RECEIVE: frames are sent again, a barge is fetched, or the next record goes out in full form. Where a
requested record is no longer held, the partner is served a new catch-up. -/
def takeNack (n : Nack) (s : State) : State :=
  match n with
  | .resend sequence =>
    let fs := framesFrom s sequence
    if sequence ≠ 0 ∧ fs.all (stillHeld s) = true then onTow (fun w => { w with sent := w.sent ++ fs }) s
    else if s.mod.state = .active then serveCatchup s
    else s
  | .barge node sequence =>
    match bargeOf s node sequence with
    | some b => towSend (.catchup 0 (.barge node sequence b.payload)) s
    | none => s
  | .fullForm k => onTask k (fun x => { x with sendFull := true }) s

def execNackReceive (t : Nat) (fr : TowHdr) (nk : Nack) (s : State) : Host.Outcome State Fault Refusal :=
  .next (withFrame fr false (takeNack nk) (atTime t s))

/-! ### Serial lanes, R146 -/

def towLaneAt (s : State) (r : TowLane) : Option (Fin 3) := (List.finRange 3).find? fun i => s.tow.lanes[i] == r

/-- TOW_LANE_LOST: frames continue on the remaining lane. -/
def execTowLaneLost (t : Nat) (sl : Fin 3) (alignment : Bool) (crcErrors : Nat) (s : State) : Host.Outcome State Fault Refusal :=
  let s := atTime t s
  .next (if s.tow.lanes[sl] ≠ .carrying then s
    else
      let h := s.path.hours
      let s := onWear (fun w => { w with tow := vmod w.tow sl fun x => { x with crcErrors := sat32 (x.crcErrors + crcErrors) } }) s
      if alignment = false ∧ crcErrors < cfg s P.wearTowCrc then s
      else
        let joins := match towLaneAt s .spare with
          | some j => j.val
          | none => 0xFF
        let s := stage 0x0608 (srcTow sl) ([byteOf sl.val, byteOf joins] ++ le4 crcErrors) s
        let s := onWear (fun w => { w with tow := vmod w.tow sl fun x =>
          { x with alignLosses := if alignment then sat32 (x.alignLosses + 1) else x.alignLosses, lossHours := h } }) s
        let s := onTow (fun w => { w with lanes := vmod w.lanes sl fun _ => .lost, degraded := true }) s
        raiseInt intPair s)

/-- TOW_SPARE_LANE_JOINED: the spare is trained and carries traffic. -/
def execTowSpareLaneJoined (t : Nat) (sl : Fin 3) (s : State) : Host.Outcome State Fault Refusal :=
  let s := atTime t s
  .next (match s.tow.lanes[sl] == .spare, towLaneAt s .lost with
    | true, some lost =>
      let s := onTow (fun w => { w with lanes := vmod w.lanes sl fun _ => .carrying, degraded := false, spareInUse := true }) s
      let s := onWear (fun w => { w with tow := vmod w.tow lost fun x => { x with swaps := min 0xFFFF (x.swaps + 1) } }) s
      checkSpares (raiseInt intPair s)
    | _, _ => s)

end Sys2Proof.Machine
end

