-- ==== Sys2Proof/Machine/PairRoles.lean ====
section
/-! DEFINITION. Role changes of the pair: hand-over, silence, offers, catch-up, planned switch, proof and claims on the
plant network (R139 to R142, R149, R150, R156, R159 to R165, R172, R175 to R177). -/

namespace Sys2Proof.Machine

open Sys2Proof

/-! ### Hand-over, R149, R159 -/

/-- A HANDOVER has come: its bound runs from its first arrival (R159), and its last completed epoch is observed (R26). -/
def noteHandover (h : Handover) (s : State) : State :=
  let s := onImg (fun im => { im with observed := max im.observed h.lastCompleted }) (noteClaim h.claim s)
  onTow (fun w => { w with handoverSeen := some h, handoverAt := if w.handoverSeen.isSome then w.handoverAt else nowOf s }) s

/-- The records are applied, and the standby takes over. Records that still wait for their shadow steps keep the hand-over waiting.
The hand-over that ends the dwell of a proof is its step 4 on the module that began it (R176). -/
def takeHandover (h : Handover) (s : State) : State :=
  if s.mod.state ≠ .standby then noteClaim h.claim s
  else
    let s := match s.tow.proof with
      | some p => if p.origin && h.cause == .proof && p.step == 3 then jmod p.journal (fun e => { e with step := 4 }) s else s
      | none => s
    standbyStep (noteHandover h s)

/-- HANDOVER_RECEIVE. One that arrives behind a gap waits for the frames before it, no longer than its bound (R147, R159). -/
def execHandoverReceive (t : Nat) (fr : TowHdr) (ho : Handover) (s : State) : Host.Outcome State Fault Refusal :=
  let s := atTime t s
  .next (if behindGap fr s && s.mod.state == .standby then noteHandover ho (nackResend (s.tow.seqIn + 1) s)
    else withFrame fr false (takeHandover ho) s)

/-- A switch has handed over: a planned switch or a release is done, and a proof goes on, to step 2 on the module that began it, to
step 5 on its partner (R162, R175, R176). -/
def settleSwitch (s : State) : State :=
  match s.tow.switch with
  | none => s
  | some w =>
    let s := onTow (fun x => { x with switch := none }) s
    let now := nowOf s
    if w.isProof then
      let s := match s.tow.proof with
        | some p => if p.origin then jmod p.journal (fun e => { e with step := 2 }) s else s
        | none => s
      onTow (fun x => { x with proof := x.proof.map fun p => { p with step := if p.origin then 2 else 5, since := now } }) s
    else jend w.journal .done stOk (jmod w.journal (fun e => { e with step := e.steps }) s)

/-- HANDOVER_ACK_RECEIVE. An answer that no HANDOVER waits for names a higher claim: it supersedes an active, and the stages of a
module that has stopped yield to it (R157, R167, R168). -/
def takeAck (a : HandoverAck) (s : State) : State :=
  if handingOver s then settleSwitch (afterHandover a.newClaim a.instants (markMirrored a.appliedEpoch s))
  else seeClaim a.newClaim s

def execHandoverAckReceive (t : Nat) (fr : TowHdr) (ack : HandoverAck) (s : State) : Host.Outcome State Fault Refusal :=
  .next (withFrame fr false (takeAck ack) (atTime t s))

/-- HANDOVER_ACK_TIMEOUT: 50 µs without an answer; the module stops and publishes nothing further. -/
def execHandoverAckTimeout (t : Nat) (s : State) : Host.Outcome State Fault Refusal :=
  let s := atTime t s
  .next (match s.tow.handoverSent with
    | none => s
    | some (t0, _) =>
      if t < t0 + 50000 then s
      else
        let s := endSwitch stRoleConflict .none (onTow (fun w => { w with handoverSent := none, serving := false }) s)
        stopFaulted (dropOwnBarges s))

/-! ### Silence, R160, R161 -/

/-- TOW_LINE_SILENCE: no valid heartbeat for 30 µs. -/
def execTowLineSilence (t : Nat) (s : State) : Host.Outcome State Fault Refusal :=
  let s := atTime t s
  .next (match s.pair.lastHeartbeat with
    | none => s
    | some l =>
      if s.pair.silence ∨ t < l + 30000 then s
      else
        let alone := !partnerStandby s && s.pair.mirrorAlone
        let open_ := s.mod.state == .standby
        let s := pairChanged (fun p =>
          { p with silence := true, silenceStart := l, paired := false, mirrorAlone := alone, checkWindow := open_,
                   catchingUp := false }) s
        onTow (fun w => { w with catchup := none, serving := false }) s)

/-- The instant before which parallel AO channels do not make after a take-over that named none (R287). -/
def makeInstant (s : State) : Nat := s.pair.silenceStart + usToNs (cfg s P.parallelSilence + 20)

/-- CHECK_WINDOW_EXPIRY: the window has closed without a barge of the active, and the standby takes over. -/
def execCheckWindowExpiry (t : Nat) (s : State) : Host.Outcome State Fault Refusal :=
  let s := atTime t s
  .next (if s.mod.state = .standby ∧ s.pair.checkWindow = true ∧ s.pair.silenceStart + 70000 ≤ t then
      takeOver .towSilence false (makeInstant s) s
    else s)

/-- COLD_TAKEOVER_READY: the module has woken from NAP and rebuilt; a HANDOVER that asked for it is answered now (R159, R172). -/
def execColdTakeoverReady (t : Nat) (s : State) : Host.Outcome State Fault Refusal :=
  let s := atTime t s
  .next (match s.pair.cold with
    | some (cause, miss, notBefore) =>
      if s.mod.state = .standby then answerHandover (handoverInstants s) (takeOverNow cause miss notBefore s) else s
    | none => s)

/-- STATUS_BARGE_SEND: during silence the active, and a module in `READY` with TOW_LINE_LOST set under claim zero. -/
def execStatusBargeSend (t : Nat) (s : State) : Host.Outcome State Fault Refusal :=
  let s := atTime t s
  .next (if s.mod.state = .active ∧ s.pair.silence = true ∧ handingOver s = false then sendStatus s.pair.claim false s
    else if s.mod.state = .ready ∧ s.pair.towLineLost = true ∧ logicAwake s = true then sendStatus 0 false s
    else s)

/-- CLAIM_TIE_STATUS_SEND: the barge with the serial number, repeated while the tie lasts. -/
def execClaimTieStatusSend (t : Nat) (s : State) : Host.Outcome State Fault Refusal :=
  let s := atTime t s
  .next (if s.mod.state = .active ∧ s.pair.tie = true then sendStatus s.pair.claim true s else s)

/-! ### Starting a pair, R139, R140 -/

/-- Enters `ACTIVE` for an accepted PRG.START and queues the start of its tasks for the next step (R34). -/
def startActive (journal mask : Nat) (s : State) : State :=
  let s := enterActive .none false 0 s
  let s := onMod (fun m => { m with fault := .none }) s
  onKeeper (fun k => { k with changes := k.changes ++ [{ journal := journal, kind := .start mask, atEpoch := none }] }) s

/-- OFFER_TIMEOUT: 30 µs after OFFER without one from the partner, the module enters `ACTIVE`. -/
def execOfferTimeout (t : Nat) (s : State) : Host.Outcome State Fault Refusal :=
  let s := atTime t s
  .next (match s.pair.offer with
    | none => s
    | some j =>
      if (s.mod.state ≠ .ready ∧ s.mod.state ≠ .stoppedFault) ∨ t < s.pair.offerAt + 30000 ∨ keeperDecides s = false then s
      else if claimExhausted s then
        jend j .failed stRoleConflict (stage 0x0606 srcModule (le4 s.pair.highestClaim) (onPair (fun p => { p with offer := none }) s))
      else
        let mask := match jget s j with
          | some e => e.detail2
          | none => 0
        startActive j mask s)

/-- PAIR_JOIN_WAIT_EXPIRY: nothing of a partner was heard for the whole wait. -/
def execPairJoinWaitExpiry (t : Nat) (s : State) : Host.Outcome State Fault Refusal :=
  let s := atTime t s
  .next (match s.pair.releasedAt with
    | some r =>
      if r + msToNs (cfg s P.joinWait) ≤ t ∧ s.pair.heardHeartbeat = false ∧ s.pair.heardBarge = false then
        onPair (fun p => { p with joinWaitOver := true }) s
      else s
    | none => s)

/-! ### Joining by catch-up, R141, R150, R490 -/

/-- A slot of a chunk becomes both copies of its tag, with the chunk's read epoch. -/
def installSlot (read : Nat) (x : SlotImage) (s : State) : State :=
  let c := copyOfImage x read
  onTag x.tag (fun t => { t with a := c, b := c }) s

def markPoison (address : Nat) (word : Nat) (s : State) : State :=
  onBasin (fun b => { b with poison := insertSorted (address / 8 + word % 4) b.poison }) s

/-- Containers of the CODE chunks of a copy: one begins at each offset zero (R150). -/
def containersOf (cs : List Chunk) : List (List Byte × List Nat) :=
  cs.foldl (fun done c => match c with
    | .code 0 data poison => done ++ [(data, poison)]
    | .code offset data poison => match done.getLast? with
      | some x => done.dropLast ++ [(x.1 ++ data, x.2 ++ poison.map (offset / 8 + ·))]
      | none => done
    | _ => done) []

/-- A container is written to a half of CODE; its marked words become poisoned codewords there and in the lanes' instruction
SRAMs (R14, R98, R150). -/
def installCode (second : Bool) (x : List Byte × List Nat) (s : State) : State :=
  let s := writeCode second x.1.length s
  let words := x.2.map (codeHalf second / 8 + ·)
  let s := onBasin (fun b => { b with poison := words.foldl (fun m w => insertSorted w m) b.poison }) s
  onWeave (fun w => { w with lanes := w.lanes.map fun l => { l with badCode := l.badCode ++ words } }) s

/-- The running and the staged version of a copy. R150 does not carry the state of the staged one: the joining module verifies it
itself (DESIGN CHOICE, notes/assumptions/18.md). -/
def installPrograms (read : Nat) (cs : List Chunk) (s : State) : State :=
  let xs := containersOf cs
  let at_ (i : Nat) : List Byte × List Nat := (xs[i]?).getD ([], [])
  let running := parseProgram (at_ 0).1
  let tags : Tbl Tag := match running with
    | some p => tmap (fun _ d => newTag d read) p.tags
    | none => []
  let s := onCtl (fun x => { x with running := running, staged := none, exchange := none, load := none, insts := [] }) s
  let s := onBasin (fun b => { b with poison := b.poison.filter fun w => decide (0x06000000 / 8 ≤ w) }) (onImg (fun im => { im with tags := tags }) s)
  let s := installCode (!s.ctl.half) (at_ 1) (installCode s.ctl.half (at_ 0) s)
  match parseProgram (at_ 1).1 with
  | none => s
  | some p =>
    let good := (verifyFindings s p).isEmpty
    onCtl (fun x => { x with staged := some { prog := p, state := if good then .verified else .loaded, onPartner := good } }) s

/-- One chunk is written; marked words become poisoned codewords (R14, R150). -/
def installChunk (read : Nat) (c : Chunk) (s : State) : State :=
  match c with
  | .barge _ _ _ | .code _ _ _ => s
  | .tagSlots _ xs poison =>
    let s := xs.foldl (fun s x => installSlot read x s) s
    poison.foldl (fun s w => match xs[w / 4]? with
      | some x => markPoison (slotAddress x.tag true) w (markPoison (slotAddress x.tag false) w s)
      | none => s) s
  | .state _ is poison =>
    let s := onCtl (fun x => { x with insts := is.foldl (fun m p => tput p.1 p.2 m) x.insts }) s
    poison.foldl (fun s w => match is[w / 4]? with
      | some p => markPoison (instAddress s p.1) w s
      | none => s) s
  | .forces first fs => onImg (fun im => { im with forces := if first = 0 then fs else im.forces ++ fs }) s
  | .journal _ es => es.foldl (fun s e => jput e s) s
  | .settings _ _ => s
  | .lostRanges floor ranges => onImg (fun im => { im with lostRanges := ranges, lostFloor := floor }) s
  | .ending _ _ _ => s

/-- The joining module takes every PAIR-scope setting of the copy, and writes both of its MRAM copies with them (R349). -/
def installSettings (cs : List Chunk) (s : State) : State :=
  let es := cs.flatMap fun c => match c with
    | .settings _ es => es
    | _ => []
  let own := s.settings.committed.filter fun p => !isPairScope p.1
  let all : Tbl (List Byte) := es.foldl (fun m p => putSetting p.1 p.2 m) own
  let changed : Tbl (List Byte) := (keysOf s.settings.committed all).map fun i => (i, valueIn all i)
  rewriteCopies (applyAtCommit changed (applyImmediate changed s))

/-- Read epoch of the chunk that carried the item of an entry. -/
def readEpochOf (chunks : List (Nat × Chunk)) (x : MirrorEntry) : Nat :=
  let carries (c : Chunk) : Bool := match x, c with
    | .slot i, .tagSlots _ xs _ => xs.any fun y => y.tag == i.tag
    | .inst n _, .state _ is _ => is.any fun p => p.1 == n
    | .forceSet _, .forces _ _ | .forceClear _, .forces _ _ => true
    | .journal _, .journal _ _ => true
    | .setting _ _, .settings _ _ => true
    | .exchange _ _ _, .code _ _ _ => true
    | _, _ => false
  match chunks.find? fun c => carries c.2 with
  | some c => c.1
  | none => 0

/-- A queued record is applied after END: only entries newer than the chunk that carried their item. -/
def installRecord (chunks : List (Nat × Chunk)) (r : MirrorRecord) (s : State) : State :=
  applyRecord { r with entries := r.entries.filter fun x => decide (readEpochOf chunks x < r.epoch) } s

/-- END: the copy is complete; the queued records are applied and the module enters `STANDBY`. The highest epoch observed of the
active is read anew against the epoch taken (R26). The MRAM keeps the larger of the epoch it held and the base epoch: R21 does not
say whether the epoch taken is stored (DESIGN CHOICE, notes/assumptions/77.md). -/
def finishCatchup (c : CatchUp) (base : Nat) (s : State) : State :=
  let held := s.img.epoch
  let claim := match s.pair.partner with
    | some h => h.claim
    | none => 0
  let cs := c.chunks.map fun x => x.2
  let s := installPrograms base cs (installSettings cs (haltExecs (stopTasks s)))
  let s := c.chunks.foldl (fun s x => installChunk x.1 x.2 s) s
  let s := onTow (fun w => { w with catchup := none, records := [], shadowBarges := [], activeBarges := [], handoverSeen := none }) s
  let s := onImg (fun im => { im with epoch := base, mirrored := base, stored := max im.stored base }) s
  let s := onImg (fun im => { im with observed := if im.observed = 0 then 0 else fullEpoch s (im.observed % 2 ^ 32), forcesSent := im.forces }) s
  let s := c.queued.foldl (fun s r => installRecord c.chunks r s) s
  let s := stage 0x0609 srcModule (le8 held ++ le8 s.img.epoch ++ le4 claim) s
  let s := buildNodes s
  enterState .standby .none (pairChanged (fun p => { p with catchingUp := false }) (onPair (fun p => { p with mirrorAlone := true }) s))

/-- A barge that the standby has fetched reaches the shadow execution that waits for it (R151). -/
def fetchedBarge (t node sequence : Nat) (payload : List Byte) (s : State) : State :=
  match parseBarge payload with
  | .error _ => s
  | .ok b =>
    let land := landed t b payload 0
    let wants (e : Exec) : Bool := e.shadow && e.phase == .latched && (match e.manifest with
      | some m => m.nodes.any fun p => p.1 == node && p.2 == sequence
      | none => false)
    if b.sequence = sequence ∧ b.node = node then
      onExecs (fun es => es.map fun e => if wants e then { e with slots := tput node land e.slots } else e) s
    else s

/-- A chunk received. A standby that is served a new catch-up has lost its stream, and joins again (R147). -/
def takeChunk (t readEpoch : Nat) (ck : Chunk) (s : State) : State :=
  match ck with
  | .barge node sequence payload => if s.mod.state = .standby then fetchedBarge t node sequence payload s else s
  | _ =>
    let s := if s.mod.state = .standby then rejoin s else s
    match s.tow.catchup with
    | none => s
    | some c =>
      match ck with
      | .ending base chunks crc =>
        if c.chunks.length = chunks ∧ chunksCrc c.chunks = crc then finishCatchup c base s else copyAgain s
      | _ => onTow (fun w => { w with catchup := some { c with chunks := c.chunks ++ [(readEpoch, ck)] } }) s

/-- The first chunk of a container: a copy begins with one. -/
def beginsCopy (ck : Chunk) : Bool :=
  match ck with
  | .code 0 _ _ => true
  | _ => false

/-- CATCHUP_RECEIVE. The copy that the active serves in place of records it no longer holds reaches a standby behind the gap that
they left (R147). -/
def execCatchupReceive (t : Nat) (fr : TowHdr) (readEpoch : Nat) (ck : Chunk) (s : State) : Host.Outcome State Fault Refusal :=
  let s := atTime t s
  .next (if s.mod.state = .standby ∧ beginsCopy ck = true ∧ behindGap fr s = true then
      takeChunk t readEpoch ck (onTow (fun w => { w with seqIn := fr.sequence }) s)
    else withFrame fr false (takeChunk t readEpoch ck) s)

/-! ### Planned switch, R162 -/

/-- SWITCH_POINT_REACHED: no task executes; the active waits for its queued barges. -/
def execSwitchPointReached (t : Nat) (s : State) : Host.Outcome State Fault Refusal :=
  let s := atTime t s
  .next (match s.tow.switch with
    | some w =>
      if w.phase = .waitPoint ∧ s.mod.state = .active ∧ lanesFree s = true then
        onTow (fun x => { x with switch := some { w with phase := .waitDrain } }) s
      else s
    | none => s)

def ownQueued (s : State) : Bool := [0, 1].any fun p : Fin 3 => s.sw.ports[p].queue.any fun q => q.own

/-- SWITCH_QUEUE_DRAINED: every queued barge has left P1 and P2, and the active hands over. Where a task has begun in
the meantime, the point has passed and the switch waits for the next one. -/
def execSwitchQueueDrained (t : Nat) (s : State) : Host.Outcome State Fault Refusal :=
  let s := atTime t s
  .next (match s.tow.switch with
    | some w =>
      if w.phase ≠ .waitDrain ∨ s.mod.state ≠ .active ∨ ownQueued s = true ∨ handingOver s = true then s
      else if lanesFree s = false then onTow (fun x => { x with switch := some { w with phase := .waitPoint } }) s
      else if partnerStandby s = false then endSwitch stRoleConflict .none s
      else
        let cause : SwitchCause := if w.isProof then .proof else if w.isRelease then .release else .planned
        handOver cause false (onTow (fun x => { x with switch := some { w with phase := .handing } }) s)
    | none => s)

/-- SWITCH_POINT_TIMEOUT: no switch point within 1 s. The switch back of a proof, which no command of this module asked for, waits on
(R162, R176; notes/assumptions/20.md). -/
def execSwitchPointTimeout (t : Nat) (s : State) : Host.Outcome State Fault Refusal :=
  let s := atTime t s
  .next (match s.tow.switch with
    | some w =>
      if w.phase = .handing ∨ t < w.requestedAt + 1000000000 then s
      else if w.isProof ∧ w.journal = 0 then onTow (fun x => { x with switch := some { w with requestedAt := t } }) s
      else endSwitch stStateConflict .none s
    | none => s)

/-! ### Proof, R176, R177 -/

/-- The failing check of a proof: 0 none, 1 stages, 2 nodes, 3 readback, 4 parallel loops. -/
def proofResult (s : State) (c : ProofChecks) : Nat :=
  let claim := s.pair.highestClaim
  if !c.stagesEnabled then 1
  else if s.net.nodes.any fun p => p.2.obeyedClaim != claim then 2
  else if !c.readbackOk then 3
  else if !c.parallelOk then 4
  else 0

/-- A proof that has passed clears SUSPECT, PROOF_FAILED and PROOF_DUE. -/
def passProof (p : Proof) (s : State) : State :=
  let s := jend p.journal .done stOk (jmod p.journal (fun e => { e with step := 5 }) s)
  let s := onTow (fun x => { x with proof := none, proofHours := s.path.hours }) s
  pairChanged (fun x => { x with suspect := false, partnerSuspect := false, proofFailed := false, proofDue := false }) s

/-- A check of step 2 has failed on the module that began the proof: it takes its role back, and answers as for a hand-over; the
partner is SUSPECT (R177; notes/assumptions/20.md). -/
def takeBack (p : Proof) (check : Nat) (s : State) : State :=
  let instants := handoverInstants s
  let s := pairChanged (fun x => { x with partnerSuspect := true }) (failProof p check s)
  let s := takeOver .proof false 0 (onTow (fun x => { x with proof := some { p with step := 0 } }) s)
  if s.mod.state = .active then
    towSend (.handoverAck { newClaim := s.pair.claim, appliedEpoch := s.img.mirrored, instants := instants }) s
  else s

/-- The partner's checks of step 2 have failed: it is SUSPECT, and hands back at once. -/
def handBack (s : State) : State :=
  let s := pairChanged (fun x => { x with suspect := true, proofFailed := true }) (onTow (fun x => { x with proof := none }) s)
  if partnerStandby s then handOver .proof false s else s

/-- A check of step 5 has failed: the proof ends FAILED, and the partner is given the role (R177). -/
def failBack (p : Proof) (check : Nat) (s : State) : State :=
  let s := failProof p check s
  if partnerStandby s && s.mod.state == .active then handOver .planned false s else s

/-- PROOF_CHECK_TIMEOUT: the checks are judged three ticks after the first release under the new claim, on both modules. In step 2 the
one that runs hands back at once where a check fails, and the one that began the proof takes its role back. In step 5 the one that
began the proof ends it, and its partner's flags follow its own checks (R176, R177). -/
def execProofCheckTimeout (t : Nat) (checks : ProofChecks) (s : State) : Host.Outcome State Fault Refusal :=
  let s := atTime t s
  let r := proofResult s checks
  .next (match s.tow.proof with
    | none => s
    | some p =>
      if p.step = 2 ∧ r = 0 then
        let s := if p.origin then jmod p.journal (fun e => { e with step := 3 }) s else s
        onTow (fun x => { x with proof := some { p with step := 3, since := t } }) s
      else if p.step = 2 ∧ p.origin = true then takeBack p r s
      else if p.step = 2 ∧ s.mod.state = .active then handBack s
      else if p.step = 5 ∧ r = 0 then passProof p s
      else if p.step = 5 ∧ p.origin = true then failBack p r s
      else if p.step = 5 then onTow (fun x => { x with proof := none }) s
      else s)

/-- PROOF_DWELL_EXPIRY: the partner has run PAIR_PROOF_DWELL ticks and switches back. -/
def execProofDwellExpiry (t : Nat) (s : State) : Host.Outcome State Fault Refusal :=
  let s := atTime t s
  .next (match s.tow.proof, fastestPeriod s with
    | some p, some period =>
      if p.step = 3 ∧ p.origin = false ∧ s.mod.state = .active ∧ p.since + p.dwell * period ≤ t then
        let w : Switch := { journal := 0, phase := .waitPoint, requestedAt := t, isProof := true, isRelease := false }
        onTow (fun x => { x with proof := some { p with step := 4, since := t }, switch := some w }) s
      else s
    | _, _ => s)

/-- PROOF_DUE_EXPIRY: PAIR_PROOF_DUE days of operating hours since the last passed proof. -/
def execProofDueExpiry (t : Nat) (s : State) : Host.Outcome State Fault Refusal :=
  let s := atTime t s
  let days := cfg s P.proofDueDays
  .next (if 0 < days ∧ s.tow.proofHours + 24 * days ≤ s.path.hours then pairChanged (fun p => { p with proofDue := true }) s else s)

/-! ### Claims on the plant network, R165 -/

/-- CLAIM_REFRESH: the active's broadcast every PAIR_CLAIM_REFRESH. -/
def execClaimRefresh (t : Nat) (s : State) : Host.Outcome State Fault Refusal :=
  let s := atTime t s
  let due := match s.net.claimSentAt with
    | some c => decide (c + msToNs (cfg s P.claimRefresh) ≤ t)
    | none => true
  .next (if s.mod.state = .active ∧ s.pair.claim ≠ 0 ∧ handingOver s = false ∧ due = true then sendClaimBroadcast s else s)

/-- The wait of the lag check: three ticks of the fastest task, or three refreshes while no task runs. -/
def lagWait (s : State) : Nat :=
  match fastestPeriod s with
  | some p => 3 * p
  | none => 3 * msToNs (cfg s P.claimRefresh)

/-- NODE_CLAIM_LAG_CHECK: the node still reports a lower claim, three ticks after the first CLAIM barge since it does; the next CLAIM
barge begins the next wait (R165). -/
def execNodeClaimLagCheck (t : Nat) (node : Nat) (s : State) : Host.Outcome State Fault Refusal :=
  let s := atTime t s
  .next (match tget node s.net.nodes with
    | none => s
    | some n =>
      match n.claimSentAt with
      | none => s
      | some c =>
        if s.mod.state = .active ∧ n.session.isSome = true ∧ n.obeyedClaim < s.pair.claim ∧ c + lagWait s ≤ t then
          let s := onTow (fun w => { w with nodeClaimLag := sat32 (w.nodeClaimLag + 1) }) s
          onNet (fun x => { x with nodes := tmod node (fun y => { y with lag := sat32 (y.lag + 1), claimSentAt := none }) x.nodes }) s
        else s)

/-! ### Comparison without a counterpart, R156 -/

/-- COMPARE_MISSING_TIMEOUT: the active's barge has not come 100 µs after its release. -/
def execCompareMissingTimeout (t : Nat) (k : TaskId) (node release : Nat) (s : State) : Host.Outcome State Fault Refusal :=
  let s := atTime t s
  let it (b : ShadowBarge) : Bool := b.task == k && b.node == node && b.release == release
  .next (if (s.tow.shadowBarges.any it) && decide (release + 100000 ≤ t) then
      onTow (fun w => { w with shadowBarges := w.shadowBarges.filter (fun b => !it b), compareMissing := sat32 (w.compareMissing + 1) }) s
    else s)

end Sys2Proof.Machine
end

