-- ==== Sys2Proof/Machine/BargeRx.lean ====
section
/-! DEFINITION. Barges received: the checks in their order, landing, claims, the standby's comparison, and the key epoch
(R39 to R41, R156, R160, R161, R164, R165, R168, R188, R189, R198, R199, R202, R207 to R209). -/

namespace Sys2Proof.Machine

open Sys2Proof

/-! ### Checks 5 to 8, R189 -/

/-- The stream class of a barge of a module: 5 `STATUS`, 3 broadcast, 2 addressed to a node (R188). -/
def streamClass (b : Barge) : Nat := if b.kind = .status then 5 else if b.broadcast then 3 else 2

def lastInStream (s : State) (b : Barge) : Nat :=
  match s.net.partnerStreams.find? fun x => x.1 == streamClass b && x.2.1 == b.node && x.2.2.1 == b.claim with
  | some x => x.2.2.2
  | none => 0

/-- Remembers the last sequence of a module's stream; each claim has a stream of its own. -/
def noteStream (b : Barge) (s : State) : State :=
  onNet (fun n => { n with partnerStreams := (n.partnerStreams.filter fun x =>
    !(x.1 == streamClass b && x.2.1 == b.node && x.2.2.1 == b.claim)) ++ [(streamClass b, b.node, b.claim, b.sequence)] }) s

/-- The sample time lies within 1 s of the module's time (R198). -/
def nearNow (s : State) (x : Nat) : Bool := decide (x ≤ nowOf s + 1000000000) && decide (nowOf s ≤ x + 1000000000)

/-- Checks 5 to 8 for an `INPUT` barge. -/
def judgeInput (s : State) (b : Barge) : Option Discard :=
  if b.owner ≠ ownerId s then some .notMine
  else
    match tget b.node s.net.nodes with
    | none => some .unknownNode
    | some n =>
      if authPasses s b = false then some .authFail
      else if n.session = some b.epochLow ∧ b.sequence ≤ n.lastSeq then some .replay
      else if n.session ≠ some b.epochLow ∧ nearNow s b.release = false then some .staleSession
      else if n.tokens = 0 then some .rateLimited
      else none

/-- Checks 5 to 7 for a barge of a module. -/
def judgeOther (s : State) (b : Barge) : Option Discard :=
  if b.owner ≠ ownerId s then some .notMine
  else if authPasses s b = false then some .authFail
  else if b.sequence ≤ lastInStream s b then some .replay
  else none

/-! ### Landing, R39, R41, R199 -/

/-- A new barge supersedes the latest one of its node: one that no task has committed is counted, at once or when the
executions that latched it are past their commits (R41). -/
def supersedeLatest (s : State) (node : Nat) (n : Node) : Node :=
  let n := match n.landing.getLast? with
    | some b => if b.committed then n else { n with superseded := n.superseded ++ [(b.session, b.sequence)] }
    | none => n
  { n with overwritten := overwrittenCount s node n, superseded := n.superseded.filter fun b => awaitsCommit s node b.1 b.2 }

/-- The arrival of the last complete barge is kept for every tag whose point it carries (R46). -/
def noteArrivals (t node : Nat) (b : LandedBarge) (s : State) : State :=
  onImg (fun im => { im with tags := tmap (fun _ g =>
    if g.decl.origin = .remote ∧ g.decl.node = node ∧ (pointValue b g.decl).isSome = true then { g with lastArrival := some t } else g) im.tags }) s

/-- Acknowledged publications leave the list (R202). -/
def ackOne (n : Node) (a : Nat × Nat) : Node :=
  match n.unacked.find? fun u => u.task.val == a.1 && u.epoch % 2 ^ 32 == a.2 with
  | some u => { n with unacked := n.unacked.filter (fun x => !(x.task == u.task && decide (x.epoch ≤ u.epoch))), ackedEpoch := max n.ackedEpoch u.epoch }
  | none => n

def landInput (t source : Nat) (b : Barge) (payload : List Byte) (s : State) : State :=
  let buffer := match tget b.node s.net.nodes with
    | some n => freeBuffer n.landing
    | none => 0
  let land := landed t b payload buffer
  let put (n : Node) : Node :=
    let n := (bargeAcks b).foldl ackOne (supersedeLatest s b.node n)
    { n with landing := lastN 4 (n.landing ++ [land]), session := some b.epochLow, lastSeq := b.sequence,
             restarted := b.restarted, unsynced := b.unsynced, safeActive := b.safeActive, obeyedClaim := b.obeyed,
             address := source,
             accepted := sat32 (n.accepted + 1), lastSample := b.release, lastArrival := some t, tokens := n.tokens - 1,
             provenSample := if countsForClaims s b then b.release else n.provenSample,
             provenClaim := if countsForClaims s b then b.obeyed else n.provenClaim,
             claimSentAt := if b.obeyed < s.pair.claim then n.claimSentAt else none }
  let s := noteArrivals t b.node land (onNet (fun x => { x with nodes := tmod b.node put x.nodes }) s)
  let s := match landingAddress s b.node buffer with
    | some a => clearPoison a payload.length s
    | none => s
  onNet (fun x => { x with lastComplete := if s.mod.state = .active then lastComplete s else x.lastComplete }) s

/-- Every enabled node has been heard 100 ms after the silence began, and obeys this module's claim (R161),
by barges that count for claims (R169). -/
def nodesConfirm (s : State) : Bool :=
  !s.net.nodes.isEmpty && s.net.nodes.all fun p =>
    decide (s.pair.silenceStart + 100000000 ≤ p.2.provenSample) && p.2.provenClaim == s.pair.claim

/-- Completed epochs count as mirrored from here on (R161). -/
def confirmAlone (s : State) : State := settleMirror (onPair (fun p => { p with mirrorAlone := true }) s)

def confirmByNodes (s : State) : State :=
  if s.mod.state = .active && s.pair.silence && !s.pair.mirrorAlone && nodesConfirm s then confirmAlone s else s

/-- A node that reports a lower claim is sent a `CLAIM` barge (R165). -/
def answerLowClaim (b : Barge) (s : State) : State :=
  if s.mod.state = .active ∧ s.pair.claim ≠ 0 ∧ b.obeyed < s.pair.claim ∧ handingOver s = false then sendClaimTo b.node s else s

def takeInput (t source : Nat) (b : Barge) (payload : List Byte) (s : State) : State :=
  let s := landInput t source b payload s
  let s := if countsForClaims s b then confirmByNodes (seeClaim b.obeyed s) else s
  answerLowClaim b s

/-- An `INPUT` barge that finds the engine's capacity taken is discarded at the port and counted (R199). -/
def engineDrops (kind : BargeKind) (s : State) : Bool := decide (kind = .input) && engineTaken s

/-- Runs checks 1 to 4, takes a barge of the row's kind on, and counts a discard. -/
def receiveBarge (port : Fin 3) (kind : BargeKind) (bytes : List Byte) (judge : State → Barge → Option Discard)
    (take : Barge → State → State) (s : State) : State :=
  if engineDrops kind s then overrun sluiceFrames (onNet (fun n => { n with engineFull := sat32 (n.engineFull + 1) }) s)
  else
    let s := engineTake s
    match parseBarge bytes with
    | .error d => discard port none d s
    | .ok b =>
      if b.kind ≠ kind then s
      else
        match judge s b with
        | some d => discard port (some b.node) d s
        | none => take b s

/-- INPUT_BARGE_RECEIVE. -/
def execInputBargeReceive (t : Nat) (port : Fin 3) (source : Nat) (bytes : List Byte) (s : State) : Host.Outcome State Fault Refusal :=
  let s := atTime t s
  .next (if logicAwake s then receiveBarge port .input bytes judgeInput (fun b => takeInput t source b bytes) s else s)

/-! ### Barges of the owner's other module -/

/-- The active is alive although the tow line is silent: the standby takes no role and joins again later (R160). -/
def aliveSeen (s : State) : State :=
  let claim := s.pair.activeClaim
  let s := pairChanged (fun p => { p with towLineLost := true, checkWindow := false }) s
  let s := stage 0x0603 srcModule (le4 claim) s
  let s := haltExecs s
  let s := onTow (fun w => { w with records := [], shadowBarges := [], activeBarges := [], handoverSeen := none }) s
  enterState .ready .none s

/-- What any barge of the owner from another module shows: that it exists, the epoch of the active (R26), and that it lives
(R160). -/
def noteOwnerBarge (port : Fin 3) (b : Barge) (s : State) : State :=
  let s := noteStream b s
  if port = 2 then s
  else
    let s := onPair (fun p => { p with heardBarge := true }) s
    let activeClaim := s.pair.activeClaim
    let s := if b.claim = activeClaim ∧ b.claim ≠ 0 then
        onImg (fun im => { im with observed := max im.observed (fullEpoch s b.epochLow) }) s
      else s
    if s.mod.state = .standby ∧ s.pair.checkWindow = true ∧ b.claim = activeClaim ∧ b.claim ≠ 0 then aliveSeen s else s

/-- Serial number of an IDENTITY section. -/
def identityOf (b : Barge) : Option Nat := (b.sections.find? fun x => x.type == 7).map fun x => beNat x.data

/-- The module sees its own claim in another module's barge: a tie, which the serial numbers decide (R168). -/
def judgeTie (b : Barge) (s : State) : State :=
  if s.mod.state ≠ .active ∨ b.claim ≠ s.pair.claim ∨ s.pair.claim = 0 then s
  else
    match identityOf b with
    | some n => if Config.serial.toNat < n then supersede b.claim s else onPair (fun p => { p with tie := true }) s
    | none => if s.pair.tie then s else sendStatus s.pair.claim true (onPair (fun p => { p with tie := true }) s)

/-- The claim of an `OUTPUT`, `SAFE` or `CLAIM` barge: one received on P1 or P2 also raises the highest claim seen (R164, R167,
R168). -/
def claimOf (port : Fin 3) (b : Barge) (s : State) : State :=
  if countsForClaims s b then judgeTie b (if port = 2 then obeyClaim b.claim s else seeClaim b.claim s) else s

/-- A source address of zero stands for the module's own. -/
def fromOther (source : Nat) (take : State → State) (s : State) : State := if source = 0 then s else take s

/-- The active's output barge goes to the standby's comparison (R156). -/
def compareOutput (t : Nat) (b : Barge) (s : State) : State :=
  if h : s.mod.state = .standby ∧ b.task < 16 then
    let x : ShadowBarge :=
      { task := ⟨b.task, h.2⟩, tick := 0, node := b.node, release := b.release, sections := b.sections.flatMap encodeSection,
        unmatched := false, duplex := false }
    let recent := s.tow.activeBarges.filter fun y => decide (t < y.release + 1000000000)
    compareAll (onTow (fun w => { w with activeBarges := recent ++ [x] }) s)
  else s

def receiveOther (port : Fin 3) (source : Nat) (kind : BargeKind) (bytes : List Byte) (take : Barge → State → State) (s : State) : State :=
  if logicAwake s then fromOther source (receiveBarge port kind bytes judgeOther (fun b s => take b (noteOwnerBarge port b s))) s else s

/-- OUTPUT_BARGE_RECEIVE. -/
def execOutputBargeReceive (t : Nat) (port : Fin 3) (source : Nat) (bytes : List Byte) (s : State) : Host.Outcome State Fault Refusal :=
  .next (receiveOther port source .output bytes (fun b s => claimOf port b (compareOutput t b s)) (atTime t s))

/-- SAFE_BARGE_RECEIVE. -/
def execSafeBargeReceive (t : Nat) (port : Fin 3) (source : Nat) (bytes : List Byte) (s : State) : Host.Outcome State Fault Refusal :=
  .next (receiveOther port source .safe bytes (claimOf port) (atTime t s))

/-- The instant of the next key-epoch switch, which a `CLAIM` barge announces to the other module too (R208). -/
def noteSwitch (b : Barge) (s : State) : State :=
  if b.release ≠ 0 ∧ s.mod.state ≠ .active ∧ countsForClaims s b = true ∧ s.net.auth.switchAt = 0 then
    onNet (fun n => { n with auth := { n.auth with switchAt := b.release } }) s
  else s

/-- CLAIM_BARGE_RECEIVE. -/
def execClaimBargeReceive (t : Nat) (port : Fin 3) (source : Nat) (bytes : List Byte) (s : State) : Host.Outcome State Fault Refusal :=
  .next (receiveOther port source .claim bytes (fun b s => claimOf port b (noteSwitch b s)) (atTime t s))

/-- A `STATUS` barge of the partner under claim zero ends the wait of R161. -/
def takeStatus (b : Barge) (s : State) : State :=
  let partnerNode := match s.pair.partner with
    | some h => some h.node
    | none => none
  let s := if s.mod.state = .active && s.pair.silence && !s.pair.mirrorAlone && b.claim == 0 && partnerNode == some b.node &&
      decide (s.pair.silenceStart < b.release) && countsForClaims s b then confirmAlone s else s
  if countsForClaims s b then judgeTie b s else s

/-- STATUS_BARGE_RECEIVE. -/
def execStatusBargeReceive (t : Nat) (port : Fin 3) (source : Nat) (bytes : List Byte) (s : State) : Host.Outcome State Fault Refusal :=
  .next (receiveOther port source .status bytes takeStatus (atTime t s))

/-! ### Tokens and key epochs -/

/-- NODE_INPUT_RATE of a node. -/
def nodeRateOf (s : State) (node : Nat) : Nat :=
  match nodeEntry s node with
  | some i => cfg s (P.nodeRate i)
  | none => 0

/-- TOKEN_BUCKET_REFILL: one token, up to the bucket's size. -/
def execTokenBucketRefill (t : Nat) (node : Nat) (s : State) : Host.Outcome State Fault Refusal :=
  let s := atTime t s
  let size := fullBucket (nodeRateOf s node)
  .next (onNet (fun x => { x with nodes := tmod node (fun n => { n with tokens := min size (n.tokens + 1) }) x.nodes }) s)

/-- A committed setting that the module itself changes. -/
def ownSetting (id n : Nat) (s : State) : State :=
  let len := match paramOf id with
    | some r => setTypeLen r.type
    | none => 0
  onSettings (fun x => { x with committed := putSetting id (leBytes len n) x.committed }) s

/-- KEY_EPOCH_SWITCH: the pair sends under e + 1; the epoch 0xFFFF_FFFF is never used (R208, R209). -/
def execKeyEpochSwitch (t : Nat) (s : State) : Host.Outcome State Fault Refusal :=
  let s := atTime t s
  let a := s.net.auth
  .next (if a.switchAt = 0 ∨ t < a.switchAt then s
    else if 0xFFFFFFFF ≤ a.keyEpoch + 1 then
      onNet (fun n => { n with auth := { n.auth with switchAt := 0, switchRefused := true } }) (ownSetting P.keySwitchAt 0 s)
    else
      let until_ := a.switchAt + msToNs (cfg s P.keyOverlap)
      let s := onNet (fun n =>
        resetSent { n with auth := { a with keyEpoch := a.keyEpoch + 1, switchAt := 0, overlapUntil := some until_, closed := false } }) s
      rewriteCopies (ownSetting P.keySwitchAt 0 (ownSetting P.keyEpoch (a.keyEpoch + 1) s)))

/-- KEY_OVERLAP_EXPIRY: only the new key epoch is accepted from now on (R208). -/
def execKeyOverlapExpiry (t : Nat) (s : State) : Host.Outcome State Fault Refusal :=
  let s := atTime t s
  .next (match s.net.auth.overlapUntil with
    | some u => if u ≤ t then onNet (fun n => { n with auth := { n.auth with overlapUntil := none, closed := true } }) s else s
    | none => s)

end Sys2Proof.Machine
end

