-- ==== Sys2Proof/Machine/BitUnit.lean ====
section
/-! DEFINITION. The Bit Unit: loads, combinations, stores, brackets (R62, R67 to R69) and NOP. -/

namespace Sys2Proof.Machine

open Sys2Proof

/-- A loading or combining instruction (R67): with FC = 1, or for LD and LDN, ACC takes the operand; otherwise `op`
combines it. A TAG or TAGBIT read costs 4 cycles in total (R95). -/
def combine (op : Option (Bool → Bool → Bool)) (negate : Bool) (f : WordFields) (x : LaneIn) : LaneCtx :=
  let v := ((bitOperand x f).getD (x.free.getLsbD 0)) != negate
  let acc := match op with
    | none => v
    | some g => if x.c.fc then v else g x.c.acc v
  { x.c with acc := acc, fc := false, cycles := x.c.cycles + if f.m.toNat < 2 then 3 else 0 }

/-- A store (R68): writes the bit where there is one to write, leaves ACC and sets FC. -/
def storeAcc (what : Bool → Option Bool) (f : WordFields) (x : LaneIn) : LaneCtx :=
  match what x.c.acc with
  | none => { x.c with fc := true }
  | some b =>
    let c := storeBit x f b
    { c with fc := true, cycles := c.cycles + if f.m.toNat = 1 then 3 else 0 }

/-- R69 push: the entry holds ACC, FC and the pending operation; FC becomes 1. A 33rd entry stops the lane (R98). -/
def openBracket (op : NestOp) (x : LaneIn) : LaneCtx :=
  if 32 ≤ x.c.nest.length then laneFault x
  else { x.c with nest := { acc := x.c.acc, fc := x.c.fc, op := op } :: x.c.nest, fc := true }

def nestApply : NestOp → Bool → Bool → Bool
  | .and, a, b => a && b
  | .or, a, b => a || b
  | .xor, a, b => a != b

/-- R69 pop: combines unless the bracket was the first check of its string; an empty stack stops the lane (R98). -/
def closeNest (x : LaneIn) : LaneCtx :=
  match x.c.nest with
  | [] => laneFault x
  | n :: r => { x.c with nest := r, acc := if n.fc then x.c.acc else nestApply n.op n.acc x.c.acc, fc := false }

/-- The bit operand's value is one that the spec leaves open. -/
def bitOpen (f : WordFields) (x : LaneIn) : Bool := (bitOperand x f).isNone

/-- A TAGBIT store reads its tag first; its value is open where the tag is not declared. -/
def storeOpen (f : WordFields) (x : LaneIn) : Bool := f.m.toNat == 1 && (laneTag x f.o.toNat).isNone

/-- NOP executes no operation (R94). -/
def execNop (l : LaneId) (m : BitVec 4) (o : BitVec 20) (im : W32) (s : State) : Host.Outcome State Fault Refusal :=
  let f : WordFields := ⟨0x01, m, o, im⟩
  .next (laneStep s l f (fun x => x.c) (neverOpen))

/-- LD, R67. -/
def execLd (l : LaneId) (m : BitVec 4) (o : BitVec 20) (im : W32) (s : State) : Host.Outcome State Fault Refusal :=
  let f : WordFields := ⟨0x10, m, o, im⟩
  .next (laneStep s l f (combine none false f) (bitOpen f))

/-- LDN, R67. -/
def execLdn (l : LaneId) (m : BitVec 4) (o : BitVec 20) (im : W32) (s : State) : Host.Outcome State Fault Refusal :=
  let f : WordFields := ⟨0x11, m, o, im⟩
  .next (laneStep s l f (combine none true f) (bitOpen f))

/-- AND, R67. -/
def execAnd (l : LaneId) (m : BitVec 4) (o : BitVec 20) (im : W32) (s : State) : Host.Outcome State Fault Refusal :=
  let f : WordFields := ⟨0x12, m, o, im⟩
  .next (laneStep s l f (combine (some fun a b => a && b) false f) (bitOpen f))

/-- ANDN, R67. -/
def execAndn (l : LaneId) (m : BitVec 4) (o : BitVec 20) (im : W32) (s : State) : Host.Outcome State Fault Refusal :=
  let f : WordFields := ⟨0x13, m, o, im⟩
  .next (laneStep s l f (combine (some fun a b => a && b) true f) (bitOpen f))

/-- OR, R67. -/
def execOr (l : LaneId) (m : BitVec 4) (o : BitVec 20) (im : W32) (s : State) : Host.Outcome State Fault Refusal :=
  let f : WordFields := ⟨0x14, m, o, im⟩
  .next (laneStep s l f (combine (some fun a b => a || b) false f) (bitOpen f))

/-- ORN, R67. -/
def execOrn (l : LaneId) (m : BitVec 4) (o : BitVec 20) (im : W32) (s : State) : Host.Outcome State Fault Refusal :=
  let f : WordFields := ⟨0x15, m, o, im⟩
  .next (laneStep s l f (combine (some fun a b => a || b) true f) (bitOpen f))

/-- XOR, R67. -/
def execXor (l : LaneId) (m : BitVec 4) (o : BitVec 20) (im : W32) (s : State) : Host.Outcome State Fault Refusal :=
  let f : WordFields := ⟨0x16, m, o, im⟩
  .next (laneStep s l f (combine (some fun a b => a != b) false f) (bitOpen f))

/-- XORN, R67. -/
def execXorn (l : LaneId) (m : BitVec 4) (o : BitVec 20) (im : W32) (s : State) : Host.Outcome State Fault Refusal :=
  let f : WordFields := ⟨0x17, m, o, im⟩
  .next (laneStep s l f (combine (some fun a b => a != b) true f) (bitOpen f))

/-- NOT negates ACC and leaves FC (R67). -/
def execNot (l : LaneId) (m : BitVec 4) (o : BitVec 20) (im : W32) (s : State) : Host.Outcome State Fault Refusal :=
  let f : WordFields := ⟨0x1C, m, o, im⟩
  .next (laneStep s l f (fun x => { x.c with acc := !x.c.acc }) (neverOpen))

/-- ST writes ACC to the operand (R68). -/
def execSt (l : LaneId) (m : BitVec 4) (o : BitVec 20) (im : W32) (s : State) : Host.Outcome State Fault Refusal :=
  let f : WordFields := ⟨0x18, m, o, im⟩
  .next (laneStep s l f (storeAcc (fun a => some a) f) (storeOpen f))

/-- STN writes the negated ACC (R68). -/
def execStn (l : LaneId) (m : BitVec 4) (o : BitVec 20) (im : W32) (s : State) : Host.Outcome State Fault Refusal :=
  let f : WordFields := ⟨0x19, m, o, im⟩
  .next (laneStep s l f (storeAcc (fun a => some (!a)) f) (storeOpen f))

/-- SET writes 1 if ACC is 1; otherwise it sends nothing through the Weave (R68). -/
def execSet (l : LaneId) (m : BitVec 4) (o : BitVec 20) (im : W32) (s : State) : Host.Outcome State Fault Refusal :=
  let f : WordFields := ⟨0x1A, m, o, im⟩
  .next (laneStep s l f (storeAcc (fun a => if a then some true else none) f) (storeOpen f))

/-- RST writes 0 if ACC is 1; otherwise it sends nothing through the Weave (R68). -/
def execRst (l : LaneId) (m : BitVec 4) (o : BitVec 20) (im : W32) (s : State) : Host.Outcome State Fault Refusal :=
  let f : WordFields := ⟨0x1B, m, o, im⟩
  .next (laneStep s l f (storeAcc (fun a => if a then some false else none) f) (storeOpen f))

/-- Pushes a nesting entry (R69). -/
def execAndOpen (l : LaneId) (m : BitVec 4) (o : BitVec 20) (im : W32) (s : State) : Host.Outcome State Fault Refusal :=
  let f : WordFields := ⟨0x20, m, o, im⟩
  .next (laneStep s l f (openBracket .and) (neverOpen))

/-- Pushes a nesting entry (R69). -/
def execOrOpen (l : LaneId) (m : BitVec 4) (o : BitVec 20) (im : W32) (s : State) : Host.Outcome State Fault Refusal :=
  let f : WordFields := ⟨0x21, m, o, im⟩
  .next (laneStep s l f (openBracket .or) (neverOpen))

/-- Pushes a nesting entry (R69). -/
def execXorOpen (l : LaneId) (m : BitVec 4) (o : BitVec 20) (im : W32) (s : State) : Host.Outcome State Fault Refusal :=
  let f : WordFields := ⟨0x22, m, o, im⟩
  .next (laneStep s l f (openBracket .xor) (neverOpen))

/-- Pops the nesting stack and combines (R69). -/
def execCloseBracket (l : LaneId) (m : BitVec 4) (o : BitVec 20) (im : W32) (s : State) : Host.Outcome State Fault Refusal :=
  let f : WordFields := ⟨0x23, m, o, im⟩
  .next (laneStep s l f (closeNest) (neverOpen))

end Sys2Proof.Machine
end

