-- ==== Sys2Proof/Machine/TimeSync.lean ====
section
/-! DEFINITION. The time unit, its servo, PTP messages and their timestamps, and the pulse input (R221 to R230,
R236, R237). -/

namespace Sys2Proof.Machine

open Sys2Proof

/-! ### Messages the module sends -/

def ptpSyncType : Nat := 0
def ptpDelayReqType : Nat := 1
def ptpPdelayReqType : Nat := 2
def ptpPdelayRespType : Nat := 3
def ptpFollowUpType : Nat := 8
def ptpDelayRespType : Nat := 9
def ptpPdelayFollowUpType : Nat := 10

def ptpOn (s : State) (p : Fin 3) : Bool := logicAwake s && cfg s P.ptpProfile != 0 && cfgFlag s (P.portPtpEnable (p.val + 1))

/-- Announce. -/
def ptpAnnounceType : Nat := 11

/-- Bytes of a message by its type, of IEEE 1588-2019. -/
def ptpLength (type : Nat) : Nat :=
  if type = ptpAnnounceType then 64
  else if type = ptpSyncType ∨ type = ptpDelayReqType ∨ type = ptpFollowUpType then 44 else 54

/-- Group address of a message: that of peer delay, or that of all others. -/
def ptpGroup (s : State) (type : Nat) : Nat :=
  let peer := type = ptpPdelayReqType ∨ type = ptpPdelayRespType ∨ type = ptpPdelayFollowUpType
  if cfg s P.ptpProfile = 2 then 0x0180C200000E
  else if cfg s P.ipVersion = 6 then (if peer then 0x33330000006B else 0x333300000181)
  else if peer then 0x01005E00006B else 0x01005E000181

/-- The frame of a message of the module: untagged (R213), over Ethernet under 802.1AS and over UDP under the default profile (R226). -/
def ptpFrame (s : State) (m : PtpFrame) : PortFrame :=
  let head := match m.carrier with
    | .ethernet => 0
    | .ipv4 _ => 28
    | .ipv6 _ _ => 50
  { dst := ptpGroup s m.type, src := Config.ownMac.toNat, multicast := true, vlan := none, doubleTagged := false, fragment := false,
    length := max 64 (14 + head + ptpLength m.type + 4), fcsOk := true, body := .ptp m }

/-- A message of the module, with its type, sequence ID, timestamp, correction and, in an Announce, the grandmaster: it waits in TC7 of port
p (R213). -/
def sendPtp (t : Nat) (p : Fin 3) (type id stamp : Nat) (correction : Int) (announce : Option ClockInfo) (s : State) : State :=
  let carrier : PtpCarrier :=
    if cfg s P.ptpProfile = 2 then .ethernet else if cfg s P.ipVersion = 6 then .ipv6 true true else .ipv4 0
  let m : PtpFrame :=
    { type := type, domain := cfg s P.ptpDomain, sequenceId := id, correction := correction, stamp := stamp, carrier := carrier, announce := announce }
  let q : QueuedFrame :=
    { cls := 7, frame := ptpFrame s m, queuedAt := t, ingressAt := none, ingress := none, heldFor := none, own := false }
  onPort p (fun x => { x with queue := x.queue ++ [q] }) (onTime (fun u => { u with ptpSent := u.ptpSent ++ [(p, type, id)] }) s)

/-- An event message of the module starts at once on a port that is free for it, and is timestamped then; else with
FRAME_TRANSMIT_START (R219, R228). -/
def sendEvent (t : Nat) (p : Fin 3) (type id stamp : Nat) (s : State) : State :=
  let place := s.sw.ports[p].queue.length
  let s := sendPtp t p type id stamp 0 none s
  if s.sw.ports[p].linkUp = true ∧ s.sw.ports[p].busyUntil ≤ t ∧ nextFrame s t p = some place then startQueued t p place s else s

/-- The module acts as a master on a port: always as PTP_ROLE 3; as a boundary clock or grandmaster-capable on every port but the one
toward its master; as a relay of 802.1AS on the ports that are not toward the master (R222, R226, R227). -/
def masterOn (s : State) (p : Fin 3) : Bool :=
  let role := cfg s P.ptpRole
  let away := s.time.masterSelected && s.time.masterPort != some p
  ptpOn s p && (role == 3 || (decide (1 ≤ role) && (s.time.servo == .grandmaster || away)) || (cfg s P.ptpProfile == 2 && away))

/-- The module's own clock as a grandmaster. -/
def ownClock (s : State) : ClockInfo :=
  { priority1 := cfg s P.ptpPriority1, quality := Config.clockQuality, priority2 := cfg s P.ptpPriority2, identity := Config.clockIdentity,
    stepsRemoved := 0 }

/-- The grandmaster that the module's Announce names. -/
def announced (s : State) : ClockInfo :=
  match s.time.master with
  | some m => { m with stepsRemoved := m.stepsRemoved + 1 }
  | none => ownClock s

/-- PTP_SYNC_SEND: Sync in two steps, after an Announce; its Follow_Up leaves when the queue is served (R227). That an Announce goes with
each Sync is DESIGN CHOICE (log 86). -/
def execPtpSyncSend (t : Nat) (port : Fin 3) (s : State) : Host.Outcome State Fault Refusal :=
  let s := atTime t s
  .next (if masterOn s port && s.keeper.running then
      let s := onTime (fun u => { u with ptpSeq := (u.ptpSeq + 1) % 65536 }) s
      let s := sendPtp t port ptpAnnounceType s.time.ptpSeq 0 0 (some (announced s)) s
      sendEvent t port ptpSyncType s.time.ptpSeq 0 s
    else s)

/-- PTP_DELAY_REQ_SEND: by the mechanism in force: peer delay on every port that takes part, Delay_Req toward the master (R226). -/
def execPtpDelayReqSend (t : Nat) (port : Fin 3) (s : State) : Host.Outcome State Fault Refusal :=
  let s := atTime t s
  .next (if ptpOn s port && s.keeper.running && (peerDelay s || s.time.masterPort == some port) then
      let s := onTime (fun u => { u with ptpSeq := (u.ptpSeq + 1) % 65536 }) s
      sendEvent t port (if peerDelay s then ptpPdelayReqType else ptpDelayReqType) s.time.ptpSeq 0 s
    else s)

/-- Origin timestamp and correction of the Follow_Up to a Sync that left at an instant (R227). -/
def followUpOf (s : State) (left : Nat) : Nat × Int :=
  match s.time.syncOrigin with
  | some (origin, _, _) => if relaying s then (origin, relayCorrection s left) else (left, 0)
  | none => (left, 0)

/-- One entry of the queue as the Keeper takes it (R229), extended against the module's time when it was taken: a step of the time
leaves it as it was (R222). -/
def takeStamp (t : Nat) (p : Fin 3) (x : TxStamp) (s : State) : State :=
  let left := extendAt x.takenAt x.stamp
  if x.waitsFrom + 2000000000 ≤ t then onTime (fun u => { u with tsExpired := min (u.tsExpired + 1) 0xFFFF }) s
  else
    let s := onTime (fun u => { u with abandonedRun := 0 }) s
    if x.msgType = ptpSyncType then
      let f := followUpOf s left
      sendPtp t p ptpFollowUpType x.sequenceId f.1 f.2 none s
    else if x.msgType = ptpPdelayRespType then sendPtp t p ptpPdelayFollowUpType x.sequenceId left 0 none s
    else onTime (fun u => { u with delayTx := vmod u.delayTx p fun _ => some (x.sequenceId, left) }) s

/-- TXTS_QUEUE_SERVICE: the Keeper empties the port's queue (R229). -/
def execTxtsQueueService (t : Nat) (port : Fin 3) (s : State) : Host.Outcome State Fault Refusal :=
  let s := atTime t s
  .next (if s.keeper.running then
      let xs := s.sw.ports[port].txts
      xs.foldl (fun s x => takeStamp t port x s) (onPort port (fun x => { x with txts := [] }) s)
    else s)

/-- TIMESTAMP_EXPIRY: a timestamp that has waited 2 s is discarded unextended (R222). -/
def execTimestampExpiry (t : Nat) (port : Fin 3) (s : State) : Host.Outcome State Fault Refusal :=
  let s := atTime t s
  let old := (s.sw.ports[port].txts.filter fun x => decide (x.waitsFrom + 2000000000 ≤ t)).length
  let s := onPort port (fun p => { p with txts := p.txts.filter fun x => decide (t < x.waitsFrom + 2000000000) }) s
  .next (onTime (fun u => { u with tsExpired := min (u.tsExpired + old) 0xFFFF }) s)

/-! ### The servo, R222 to R225 -/

/-- A task of the pair runs: a task of this module in a role, or the partner's, which runs tasks while it is `ACTIVE`. -/
def pairRuns (s : State) : Bool :=
  ((runningTasks s).length != 0 && (s.mod.state == .active || s.mod.state == .standby)) || partnerActive s

/-- Writes COUNT and ERA together. What is measured as a span of time goes on across the step. -/
def writeTime (x : Nat) (s : State) : State :=
  let move (n : Nat) : Nat := ((n : Int) + (x : Int) - (nowOf s : Int)).toNat
  let s := onTime (fun u =>
    { u with eraSet := true, lockedSince := u.lockedSince.map move, masterLostAt := u.masterLostAt.map move, lastPps := u.lastPps.map move }) s
  let s := onSw (fun w => { w with ports := w.ports.map fun p =>
    { p with txts := p.txts.map fun y => { y with waitsFrom := move y.waitsFrom } } }) s
  atTime x s

/-- The frequency correction after an offset: the servo's, limited to TIME_SLEW_MAX (R223). -/
def slew (offset : Int) (s : State) : State :=
  let limit : Int := (cfg s P.slewMax * 1000 : Nat)
  let want := Config.servoPpb offset s.time.freqPpb
  let got := if want < -limit then -limit else if limit < want then limit else want
  onTime (fun u => { u with freqPpb := got, slewing := decide (want < -limit) || decide (limit < want) }) s

/-- OFFSET_LARGE and its event, while tasks run (R223). -/
def judgeOffset (offset : Int) (s : State) : State :=
  let alarm := cfg s P.offsetAlarm
  if pairRuns s && decide (alarm < offset.natAbs) && !s.time.offsetLarge then
    stage 0x0801 srcModule (le8 (ofSigned 64 offset)) (onTime (fun u => { u with offsetLarge := true }) s)
  else if s.time.offsetLarge && decide (2 * offset.natAbs < alarm) then
    onTime (fun u => { u with offsetLarge := false }) s
  else s

/-- A measured offset from the master (R222, R223). -/
def measured (t : Nat) (offset : Int) (s : State) : State :=
  let s := onTime (fun u => { u with offset := offset }) s
  let s := judgeOffset offset s
  match s.time.servo with
  | .acquiring =>
    if 10000 < offset.natAbs ∧ pairRuns s = false then onTime (fun u => { u with goodSyncs := 0 }) (writeTime ((t : Int) - offset).toNat s)
    else
      let s := slew offset s
      let n := if offset.natAbs < 100 then s.time.goodSyncs + 1 else 0
      let s := onTime (fun u => { u with goodSyncs := n }) s
      if 16 ≤ n then setServo t .locked s else s
  | .locked => slew offset (if 1000 < offset.natAbs then setServo t .acquiring s else s)
  | _ => s

/-- A clock is better than another: the first of priority 1, quality, priority 2, identity and steps that differs is lower (R226). -/
def betterClock (a b : ClockInfo) : Bool :=
  let rank (c : ClockInfo) : List Nat := [c.priority1, c.quality, c.priority2, c.identity.toNat, c.stepsRemoved]
  ((rank a).zip (rank b)).foldr (fun p r => decide (p.1 < p.2) || (p.1 == p.2 && r)) false

/-- The best master clock algorithm has selected another clock. -/
def selectMaster (t : Nat) (info : ClockInfo) (port : Fin 3) (s : State) : State :=
  let s := onTime (fun u =>
    { u with masterSelected := true, master := some info, masterPort := some port, selfSelected := false, gmIdentity := info.identity,
             stepsRemoved := min info.stepsRemoved 255, slowPort := speedCode s port == 1 }) s
  match s.time.servo with
  | .freeRun | .grandmaster => setServo t .acquiring s
  | _ => s

/-- The algorithm has selected the module itself: grandmaster, in HOLDOVER once the master has been lost for 60 s (R222). -/
def selectSelf (t : Nat) (s : State) : State :=
  if s.time.servo = .holdover then onTime (fun u => { u with selfSelected := true }) s else setServo t .grandmaster s

/-- The module may be selected: as a boundary clock or grandmaster-capable (R226). -/
def mayMaster (s : State) : Bool := cfg s P.ptpRole == 1 || cfg s P.ptpRole == 2

/-- The best master clock algorithm on an Announce: the clock announced stands against the module's own, where it may be one, and against
the master selected so far (R226). -/
def judgeAnnounce (t : Nat) (port : Fin 3) (info : ClockInfo) (s : State) : State :=
  let same := s.time.masterPort == some port && (match s.time.master with
    | some m => m.identity == info.identity
    | none => false)
  let stands := same || (match s.time.master with
    | some m => betterClock info m
    | none => true)
  if cfg s P.ptpRole = 3 ∨ info.identity = Config.clockIdentity ∨ stands = false then s
  else if mayMaster s && betterClock (ownClock s) info then selectSelf t s
  else selectMaster t info port s

/-- The servo as PTP_PROFILE and PTP_ROLE set it at a start (R222). -/
def startServo (t : Nat) (s : State) : State :=
  if cfg s P.ptpProfile = 0 then setServo t .freeRun s
  else if cfg s P.ptpRole = 3 then setServo t .grandmaster s
  else if s.time.servo = .grandmaster ∧ mayMaster s = false then setServo t .freeRun s
  else s

/-- A Sync arrives: HOLDOVER ends. -/
def syncArrives (t : Nat) (id rx : Nat) (s : State) : State :=
  let s := onTime (fun u => { u with syncRx := some (id, rx), everSynced := true, masterLostAt := none }) s
  if s.time.servo = .holdover then setServo t .acquiring s else s

/-- A receive timestamp of a port: COUNT less the port's latency, extended (R222, R228). -/
def rxTime (s : State) (p : Fin 3) (stamp : W32) : Nat := fullTime s (stamp - BitVec.ofNat 32 (latencyNs (cfg s (P.portRxLatency (p.val + 1)))))

/-- Mean delay of the path toward the master by the mechanism in force. -/
def delayToMaster (s : State) (p : Fin 3) : Int := if peerDelay s then s.time.linkDelay[p] else s.time.pathDelay

/-- A Sync with its origin timestamp and correction: an offset is measured (R222). -/
def takeSync (t : Nat) (port : Fin 3) (t2 origin : Nat) (correction : Int) (s : State) : State :=
  let d : Int := (t2 : Int) - (origin : Int) - correction
  measured t (d - delayToMaster s port) (onTime (fun u => { u with masterToSlave := d, syncOrigin := some (origin, correction, t2) }) s)

/-- The port is the one toward the selected master. -/
def slaveOn (s : State) (p : Fin 3) : Bool := s.time.masterSelected && s.time.masterPort == some p

/-- What one message does. -/
def handlePtp (t : Nat) (port : Fin 3) (m : PtpMsg) (s : State) : State :=
  match m with
  | .announce info => judgeAnnounce t port info s
  | .sync id stamp oneStep =>
    if slaveOn s port then
      let t2 := rxTime s port stamp
      let s := syncArrives t id t2 s
      match oneStep with
      | some (origin, correction) => takeSync t port t2 origin correction s
      | none => s
    else s
  | .followUp id origin correction =>
    match s.time.syncRx with
    | some (i, t2) => if i = id ∧ slaveOn s port = true then takeSync t port t2 origin correction s else s
    | none => s
  | .delayResp id received correction =>
    match s.time.delayTx[port] with
    | some (i, t3) =>
      if i = id then
        let back : Int := (received : Int) - (t3 : Int) - correction
        onTime (fun u => { u with pathDelay := (u.masterToSlave + back) / 2, delayTx := vmod u.delayTx port fun _ => none }) s
      else s
    | none => s
  | .delayReq id stamp => if masterOn s port then sendPtp t port ptpDelayRespType id (rxTime s port stamp) 0 none s else s
  | .pdelayReq id stamp => if peerDelay s then sendEvent t port ptpPdelayRespType id (rxTime s port stamp) s else s
  | .pdelayResp id received stamp =>
    match s.time.delayTx[port] with
    | some (i, _) =>
      if i = id then onTime (fun u => { u with pdelayRx := vmod u.pdelayRx port fun _ => some (id, received, rxTime s port stamp) }) s else s
    | none => s
  | .pdelayRespFollowUp id sent correction =>
    match s.time.delayTx[port], s.time.pdelayRx[port] with
    | some (i, t1), some (j, t2, t4) =>
      if i = id ∧ j = id then
        let delay : Int := (((t4 : Int) - (t1 : Int)) - ((sent : Int) - (t2 : Int)) - correction) / 2
        onTime (fun u =>
          { u with linkDelay := vmod u.linkDelay port (fun _ => delay), pathDelay := if u.masterPort = some port then delay else u.pathDelay,
                   delayTx := vmod u.delayTx port (fun _ => none), pdelayRx := vmod u.pdelayRx port fun _ => none }) s
      else s
    | _, _ => s

/-- PTP_MESSAGE_RECEIVE (R222 to R226): a message of the module's domain; messages wait for a Keeper that does not run. -/
def execPtpMessageReceive (t : Nat) (port : Fin 3) (domain : Nat) (msg : PtpMsg) (s : State) : Host.Outcome State Fault Refusal :=
  let s := atTime t s
  .next (if ptpOn s port && s.keeper.running && domain == cfg s P.ptpDomain then handlePtp t port msg s else s)

/-- The Sync interval in ns: a power of two of a second. -/
def syncInterval (s : State) : Nat := 1000000000 / 2 ^ (-(toSigned 8 (cfg s P.ptpSyncInterval))).toNat

/-- SYNC_TIMEOUT: no Sync for 3 intervals in LOCKED (R222). -/
def execSyncTimeout (t : Nat) (s : State) : Host.Outcome State Fault Refusal :=
  let s := atTime t s
  .next (let late := match s.time.syncRx with
      | some x => decide (x.2 + 3 * syncInterval s ≤ t)
      | none => true
    if s.time.servo == .locked && late then
      stage 0x0803 srcModule [2] (setServo t .holdover (onTime (fun u =>
        { u with masterLostAt := some t, master := none, selfSelected := mayMaster s }) s))
    else s)

/-- HOLDOVER_GM_TIMEOUT: the master lost for 60 s with the module selected (R222). -/
def execHoldoverGmTimeout (t : Nat) (s : State) : Host.Outcome State Fault Refusal :=
  let s := atTime t s
  .next (match s.time.masterLostAt with
    | some x =>
      if s.time.servo = .holdover ∧ x + 60000000000 ≤ t ∧ s.time.selfSelected = true then setServo t .grandmaster s
      else s
    | none => s)

/-- COUNT_WRAP: COUNT passes from its last value to zero and ERA increments (R221). -/
def execCountWrap (s : State) : Host.Outcome State Fault Refusal :=
  .next (onTime (fun u => { u with count := 0, era := u.era + 1 }) s)

/-! ### The pulse input, R225 -/

/-- A committed TAI second is applied. While a task runs the time is never stepped (R223): a difference within 10 µs is slewed, and a
greater one, of a second committed before the tasks started, waits until they stop: DESIGN CHOICE (log 88). -/
def applySecond (sec : Nat) (s : State) : State :=
  let offset : Int := (nowOf s : Int) - (sec * 1000000000 : Nat)
  let done (s : State) : State := onTime (fun u => { u with pendingTai := none }) s
  if pairRuns s = false then writeTime (sec * 1000000000) (done s)
  else if offset.natAbs ≤ 10000 then slew offset (done s)
  else s

/-- PPS_EDGE: in GRANDMASTER an edge on FI0 disciplines the module's time; it applies a committed second (R225). -/
def execPpsEdge (t : Nat) (s : State) : Host.Outcome State Fault Refusal :=
  let s := atTime t s
  .next (if cfgFlag s P.ppsInput = false then s
    else
      let s := onTime (fun u => { u with lastPps := some t, ppsLost := false }) s
      if s.time.servo ≠ .grandmaster then s
      else match s.time.pendingTai with
        | some sec => applySecond sec s
        | none =>
          let phase : Int := (((t + 500000000) % 1000000000 : Nat) : Int) - 500000000
          slew phase (onTime (fun u => { u with offset := phase }) s))

/-- PPS_LOST_TIMEOUT: no edge for 1.5 s. -/
def execPpsLostTimeout (t : Nat) (s : State) : Host.Outcome State Fault Refusal :=
  let s := atTime t s
  .next (let late := match s.time.lastPps with
      | some x => decide (x + 1500000000 ≤ t)
      | none => true
    if cfgFlag s P.ppsInput && late && !s.time.ppsLost then onTime (fun u => { u with ppsLost := true }) s else s)

/-- TAI_SECOND_APPLY: without a pulse input the committed second applies at the next whole second. -/
def execTaiSecondApply (t : Nat) (s : State) : Host.Outcome State Fault Refusal :=
  let s := atTime t s
  .next (match s.time.pendingTai with
    | some sec =>
      if cfgFlag s P.ppsInput = false ∧ t % 1000000000 = 0 ∧ s.time.servo = .grandmaster then applySecond sec s
      else s
    | none => s)

/-! ### TIME_FLAGS and captures -/

def servoCode : ServoState → Nat
  | .freeRun => 0
  | .acquiring => 1
  | .locked => 2
  | .holdover => 3
  | .grandmaster => 4

/-- ALIGNED: what the module can observe of R240. -/
def aligned (s : State) : Bool :=
  (match s.time.lockedSince with
   | some x => decide (x + 60000000000 ≤ nowOf s)
   | none => false) && !s.time.slowPort && decide (s.time.stepsRemoved ≤ 16)

def timeFlags (s : State) : Nat :=
  servoCode s.time.servo * 2 ^ 28 + flag 27 (aligned s) + flag 26 s.time.offsetLarge + flag 25 s.time.slewing +
    flag 24 s.time.eraSet + flag 23 s.sw.ports[0].txtsOvf + flag 22 s.sw.ports[1].txtsOvf + flag 21 s.sw.ports[2].txtsOvf +
    flag 20 s.time.slowPort + flag 19 s.time.ppsLost + cfg s P.ptpProfile * 2 ^ 16 + s.time.stepsRemoved * 2 ^ 8

/-- A capture that follows another on its channel within the crossing of that one replaces it: 7 to 10.5 ns to KEEPER and back, 4 to
6 ns to LANE and back (R390, R402). -/
def crossCapture (n : Fin 4) (at_ : Nat) (s : State) : State :=
  let c := s.time.captures[n]
  if c.count = 0 then s
  else crossValue (sluiceCaptureLane n) (at_ - c.takenAt) 4 6 (crossValue (sluiceCaptureKeeper n) (at_ - c.takenAt) 7 11 s)

/-- FI_CAPTURE_EDGE (R236, R237): the pad takes the level of the edge; a selected edge is stamped and counted. -/
def execFiCaptureEdge (t : Nat) (n : Fin 4) (rising : Bool) (s : State) : Host.Outcome State Fault Refusal :=
  let s := onFi n (fun f => { f with level := rising, failsafe := false }) (atTime t s)
  let sel := cfg s (P.fiCaptureEdge n.val)
  .next (if sel = 3 ∨ (sel = 1 ∧ rising = true) ∨ (sel = 2 ∧ rising = false) then
      let at_ := t - cfg s (P.fiDelay n.val)
      onTime (fun u => { u with captures := vmod u.captures n fun c => { stamp := BitVec.ofNat 32 at_, takenAt := at_, rising := rising, count := c.count + 1 } })
        (crossCapture n at_ s)
    else s)

end Sys2Proof.Machine
end

