-- ==== Sys2Proof/Machine/Requests.lean ====
section
/-! DEFINITION. Requests to the Keeper: the command table, the checks in their order, stored responses, journal entries
at acceptance, findings, sessions, and what a client class uses of the Basin (R309 to R331, R340, R358 to R363). -/

namespace Sys2Proof.Machine

open Sys2Proof

/-! ### The command table, R325, R330 -/

structure CmdRow where
  access : Access
  /-- Bit c: legal in the state of code c. -/
  legal : Nat
  /-- Flags that the command may carry: AT_EPOCH, DRY_RUN, PAIR_SCOPE, DROP_CONFLICTING_FORCES. -/
  flags : Nat
  deriving DecidableEq, Repr

def inAll : Nat := 0x1FC
def fromHeld : Nat := 0x1F8
def inRel : Nat := 0x1F0
def inOp : Nat := 0xF0
/-- `READY`, `ACTIVE`, `STOPPED_FAULT`. -/
def inRun : Nat := 0xD0

def cmdTable : Tbl CmdRow :=
  [(0x0100, ⟨.read, inAll, 0⟩), (0x0101, ⟨.read, inAll, 0⟩), (0x0102, ⟨.read, fromHeld, 0⟩), (0x0103, ⟨.engineer, 0x8, 0⟩),
   (0x0200, ⟨.read, fromHeld, 0⟩), (0x0201, ⟨.engineer, fromHeld, 4⟩), (0x0202, ⟨.engineer, fromHeld, 7⟩),
   (0x0203, ⟨.read, fromHeld, 0⟩), (0x0300, ⟨.engineer, inOp, 4⟩), (0x0301, ⟨.engineer, inOp, 4⟩),
   (0x0302, ⟨.engineer, inRun, 14⟩), (0x0303, ⟨.operate, inRun, 4⟩), (0x0304, ⟨.operate, 0x40, 4⟩),
   (0x0400, ⟨.read, inRel, 1⟩), (0x0401, ⟨.operate, inRun, 3⟩), (0x0402, ⟨.read, inRel, 0⟩), (0x0500, ⟨.operate, inRun, 3⟩),
   (0x0501, ⟨.operate, inRun, 3⟩), (0x0502, ⟨.read, inRel, 0⟩), (0x0600, ⟨.read, fromHeld, 0⟩), (0x0601, ⟨.operate, 0x40, 0⟩),
   (0x0602, ⟨.operate, 0x40, 0⟩), (0x0603, ⟨.engineer, 0x60, 0⟩), (0x0700, ⟨.read, fromHeld, 0⟩), (0x0701, ⟨.operate, inOp, 4⟩),
   (0x0702, ⟨.operate, inOp, 4⟩), (0x0800, ⟨.read, fromHeld, 0⟩), (0x0801, ⟨.engineer, inRel, 0⟩), (0x0802, ⟨.operate, inRel, 0⟩),
   (0x0900, ⟨.read, fromHeld, 0⟩), (0x0901, ⟨.operate, inOp, 0⟩), (0x0902, ⟨.operate, inRel, 0⟩), (0x0903, ⟨.engineer, inRel, 0⟩),
   (0x0A00, ⟨.read, fromHeld, 0⟩), (0x0A01, ⟨.operate, fromHeld, 0⟩), (0x0B00, ⟨.read, inAll, 0⟩), (0x0B01, ⟨.engineer, fromHeld, 0⟩),
   (0x0C00, ⟨.admin, fromHeld, 2⟩), (0x0C01, ⟨.admin, fromHeld, 0⟩), (0x0C02, ⟨.admin, fromHeld, 0⟩), (0x0C03, ⟨.admin, fromHeld, 0⟩),
   (0x0C04, ⟨.read, fromHeld, 0⟩), (0x0D00, ⟨.admin, fromHeld, 0⟩), (0x0D01, ⟨.admin, fromHeld, 0⟩), (0x0D02, ⟨.admin, 0x108, 0⟩),
   (0x0E00, ⟨.engineer, fromHeld, 0⟩), (0x0E01, ⟨.read, fromHeld, 0⟩), (0x0F00, ⟨.read, fromHeld, 0⟩), (0x0F01, ⟨.engineer, fromHeld, 2⟩),
   (0x0F02, ⟨.read, fromHeld, 0⟩), (0x0F03, ⟨.read, fromHeld, 0⟩)]

def cmdRow (code : Nat) : CmdRow := (tget code cmdTable).getD ⟨.read, inAll, 0⟩

def accessCode : Access → Nat
  | .read => 0
  | .operate => 1
  | .engineer => 2
  | .admin => 3

def accessOfCode : Nat → Access
  | 0 => .read
  | 1 => .operate
  | 2 => .engineer
  | _ => .admin

def lifecycleCode : Lifecycle → Nat
  | .blank => 0
  | .provisioned => 1
  | .deployed => 2
  | .returned => 3

/-! ### Findings, R331 -/

/-- Bytes of the finding at place i of a list; `n` numbers the free values of the list. -/
def findingBytes (n i : Nat) (f : Finding) : List Byte :=
  le2 f.code ++ le2 f.item ++ le4 f.subject ++ le4 f.task ++ le4 (match f.detail with
    | some d => d
    | none => (Config.findingDetail n i).toNat)

def findingsBytes (n : Nat) (fs : List Finding) : List Byte := fs.zipIdx.flatMap fun p => findingBytes n p.2 p.1

/-- A findings list as one response carries it. -/
def findingsList (n : Nat) (fs : List Finding) : List Byte :=
  let shown := fs.take 253
  le2 shown.length ++ le2 0 ++ findingsBytes n shown

/-- The whole list, as a journal attachment holds it. -/
def findingsWhole (n : Nat) (fs : List Finding) : List Byte := le2 fs.length ++ le2 0 ++ findingsBytes n fs

/-- A finding on a request field: the subject is its payload offset. -/
def fieldFinding (code offset : Nat) : Finding := { code := code, item := itemField, subject := offset, task := noTask, detail := none }

def settingFinding (code id : Nat) : Finding := { code := code, item := itemSetting, subject := id, task := noTask, detail := none }

/-- Findings of fields whose condition does not hold. -/
def needs (ok : Bool) (code offset : Nat) : List Finding := if ok then [] else [fieldFinding code offset]

/-! ### Sessions and transports, R309, R310, R329 -/

/-- A mailbox is served by SPI where MBX_SPI_MASK has its bit, and by PCIe otherwise (R313). -/
def bySpi (s : State) (n : Fin 8) : Bool := bitAt (cfg s P.spiMask) n.val

def connOf (s : State) (id : Nat) : Option NetConn := s.keeper.conns.find? fun c => c.session == id

/-- The current session of a request's transport. -/
def sessionOf (s : State) (src : Source) : Option Nat :=
  match src with
  | .mailbox n => some (if bySpi s n then s.keeper.spiSession else s.keeper.pcieSession)
  | .net id => (connOf s id).map fun c => c.session

def accessOf (s : State) (src : Source) : Access :=
  match src with
  | .mailbox n => if bySpi s n then s.keeper.spiAccess else s.keeper.pcieAccess
  | .net id => match connOf s id with
    | some c => c.access
    | none => .read

/-- Transport code of R341, and mailbox number. -/
def transportOf (s : State) (src : Source) : Nat :=
  match src with
  | .mailbox n => if bySpi s n then 1 else 0
  | .net _ => 2

def mailboxOf : Source → Nat
  | .mailbox n => n.val
  | .net _ => 0xFF

/-- A session ID that this power cycle has not used (R310). -/
def freshSession (s : State) : Nat :=
  let c := (Config.sessionId s.drawn).toNat
  if c ≠ 0 ∧ s.keeper.usedSessions.contains c = false then c
  else (((List.range (s.keeper.usedSessions.length + 1)).map (· + 1)).find? fun n => !s.keeper.usedSessions.contains n).getD 0

/-- Takes a fresh session ID. -/
def useSession (s : State) : Nat × State :=
  let id := freshSession s
  (id, draw (onKeeper (fun k => { k with usedSessions := k.usedSessions ++ [id] }) s))

/-- The update lease falls free; an APPLY that runs goes on (R436). -/
def leaveLease (s : State) : State := if s.upd.applying.isSome then s else onUpd (fun u => { u with lease := none }) s

/-- What a session holds goes with it: lease, subscriptions, staged set and export images (R310, R332, R356). -/
def endSession (id : Nat) (s : State) : State :=
  let s := match s.upd.lease with
    | some l => if l.session = id then leaveLease s else s
    | none => s
  let mine := s.keeper.subscriptions.filter fun x => x.hdr.session == id
  let s := mine.foldl (fun s x => match x.hdr.src with
    | .mailbox n => onMailbox n (fun b => { b with subscribed := false }) s
    | .net _ => s) s
  let s := onKeeper (fun k =>
    { k with subscriptions := k.subscriptions.filter fun x => x.hdr.session != id,
             exports := k.exports.filter fun x => x.session != id }) s
  onSettings (fun t => { t with staged := tdel id t.staged }) s

def endPcie (s : State) : State :=
  let s := endSession s.keeper.pcieSession s
  let r := useSession s
  onKeeper (fun k => { k with pcieSession := r.1, pcieAccess := accessOfCode (cfg s P.accessPcie) }) r.2

def endSpi (s : State) : State :=
  let s := endSession s.keeper.spiSession s
  let r := useSession s
  onKeeper (fun k => { k with spiSession := r.1, spiAccess := accessOfCode (cfg s P.accessSpi) }) r.2

def endConn (id : Nat) (s : State) : State :=
  onKeeper (fun k => { k with conns := k.conns.filter fun c => c.session != id }) (endSession id s)

def endConns (s : State) : State := (s.keeper.conns.map fun c => c.session).foldl (fun s id => endConn id s) s

/-! ### Journal entries at acceptance, R340, R341 -/

def journalFull (s : State) : Bool := decide (256 ≤ s.keeper.journal.length) && s.keeper.journal.all fun e => !ended e.state

/-- A new entry, QUEUED; its ID is one above the last. -/
def makeEntry (h : ReqHdr) (code steps : Nat) (s : State) : State :=
  let id := s.keeper.lastJournal + 1
  let e : JnlEntry :=
    { id := id, command := code, state := .queued, mirrored := false, pairScope := h.pairScope, step := 0, steps := steps,
      lastStatus := 0, session := h.session, sequence := h.sequence, attachment := [],
      accepted := if s.time.everSynced then nowOf s else 0, ended := 0, epoch := 0, detail := 0, detail2 := 0,
      transport := transportOf s h.src, mailbox := mailboxOf h.src }
  raiseInt intJnl (noteUnsent e (onKeeper (fun k => { k with lastJournal := id }) (jput e s)))

/-- Class L: the entry is made, ACCEPTED follows at once, and the command runs. -/
def acceptLong (h : ReqHdr) (code steps : Nat) (run : Nat → State → State) (s : State) : State :=
  if journalFull s then respond h code stOverQuota [] s
  else
    let s := makeEntry h code steps s
    let id := s.keeper.lastJournal
    run id (answer h (mkResponse s h code stAccepted id (lastMirrored s) []) s)

/-- Class E: the entry is made and the response held until it ends (R324). -/
def acceptEpoch (h : ReqHdr) (code steps : Nat) (payload : List Byte) (run : Nat → State → State) (s : State) : State :=
  if journalFull s then respond h code stOverQuota [] s
  else
    let s := makeEntry h code steps s
    let id := s.keeper.lastJournal
    let held : HeldResponse := { journal := id, hdr := h, command := code, acceptedAt := nowOf s, payload := payload }
    run id (onKeeper (fun k => { k with held := k.held ++ [held] }) s)

/-- Queues a host change for its epoch step (R19). -/
def queueChange (h : ReqHdr) (kind : ChangeKind) (id : Nat) (s : State) : State :=
  let c : HostChange := { journal := id, kind := kind, atEpoch := if h.atEpoch then some h.epoch else none }
  onKeeper (fun k => { k with changes := k.changes ++ [c] }) s

/-! ### The checks of R321 -/

/-- The Keeper runs and takes requests. -/
def keeperServes (s : State) : Bool :=
  s.path.powered && s.keeper.running && !s.sec.keeperHalted && s.mod.state != .boot

/-- Commands served in DORMANT without waking (R387). -/
def servedDormant : List Nat := [0x0100, 0x0101, 0x0E01, 0x0E00, 0x0B00, 0x0A00, 0x0F00]

/-- Payload of STATE_CONFLICT, R328. -/
def conflictPayload (s : State) (legal : Nat) : List Byte := le2 (stateCode s.mod.state) ++ le2 legal ++ le4 0

def conflict (h : ReqHdr) (code : Nat) (s : State) : State := respond h code stStateConflict (conflictPayload s (cmdRow code).legal) s

def badArgument (h : ReqHdr) (code : Nat) (fs : List Finding) (s : State) : State :=
  respond h code stBadArgument (findingsList s.drawn fs) (draw s)

/-- Lifecycle states that lock a command (R449). -/
def lifecycleLocks (s : State) (code : Nat) : Bool :=
  match s.sec.lifecycle with
  | .blank => code == 0x0D01
  | .returned => code == 0x0103 || code == 0x0D01 || code == 0x0D02
  | _ => false

/-- Commands that a standby refuses with ROLE_CONFLICT (R330). -/
def roleRefused : List Nat := [0x0303, 0x0304, 0x0302, 0x0401, 0x0500, 0x0501]

/-- Changes that may name an epoch (R325). -/
def namesEpoch : List Nat := [0x0401, 0x0500, 0x0501, 0x0202]

def flagBits (h : ReqHdr) : Nat := flag 0 h.atEpoch + flag 1 h.dryRun + flag 2 h.pairScope + flag 3 h.dropForces

/-- Flags that the command may not carry, and an epoch too far ahead (R325). -/
def flagFindings (s : State) (h : ReqHdr) (code : Nat) : List Finding :=
  let allowed := (cmdRow code).flags
  needs ((List.range 4).all fun b => !bitAt (flagBits h) b || bitAt allowed b) fUndefined 0x06 ++
    needs (!h.atEpoch || !namesEpoch.contains code || decide (h.epoch ≤ s.img.epoch + 1000000)) fRange 0x10

/-- The status and payload of the first check of R321 that fails, checks 5 to 8. -/
def stateRefusal (s : State) (h : ReqHdr) (code : Nat) : Option (Nat × List Byte) :=
  let row := cmdRow code
  if accessCode (accessOf s h.src) < accessCode row.access then some (stNotAuthorised, [])
  else if lifecycleLocks s code then some (stLifecycle, [])
  else if s.mod.state = .held ∧ bitAt row.legal 3 = false then some (stNotReleased, [])
  else if bitAt row.legal (stateCode s.mod.state) = false ∨ (s.mod.state = .selftest ∧ row.legal ≠ inAll) then
    some (if s.mod.state = .standby ∧ roleRefused.contains code = true then (stRoleConflict, [])
      else (stStateConflict, conflictPayload s row.legal))
  else none

/-- Checks 1, 3 and 5 to 10, and then the command itself. -/
def checked (h : ReqHdr) (code len : Nat) (fit : Bool) (flaws : List Finding) (body : State → State) (s : State) : State :=
  if 4064 < len then respond h code stBadLength [] s
  else if sessionOf s h.src ≠ some h.session ∧ ¬(code = 0x0100 ∧ h.session = 0) then respond h code stBadHeader [] s
  else
    match stateRefusal s h code with
    | some (status, payload) => respond h code status payload s
    | none =>
      if fit = false then respond h code stBadLength [] s
      else
        let fs := flagFindings s h code ++ flaws
        if fs ≠ [] then badArgument h code fs s else body s

/-- The stored response where sequence and CRC are those of the last request answered, or the present outcome of the
journal entry that the request made (R323). -/
def repeated (h : ReqHdr) (s : State) : Option State :=
  let stored := match h.src with
    | .mailbox n => s.keeper.mailboxes[n].stored
    | .net id => match connOf s id with
      | some c => c.stored
      | none => none
  match stored with
  | some (q, c, r) =>
    if q = h.sequence ∧ c = h.crc then
      some (match h.src with
        | .mailbox n => deliver n r s
        | .net id => onKeeper (fun k => { k with conns := k.conns.map fun c => if c.session = id then { c with sent := c.sent ++ [r] } else c }) s)
    else none
  | none => none

def found (h : ReqHdr) (code : Nat) (s : State) : Option JnlEntry :=
  if h.dryRun then none
  else s.keeper.journal.find? fun e => e.session == h.session && e.sequence == h.sequence && e.command == code

/-- The entry's present outcome. -/
def outcomeOf (h : ReqHdr) (code : Nat) (e : JnlEntry) (s : State) : State :=
  let status := if ended e.state then e.lastStatus else stAccepted
  let epoch := if status = 0 ∧ e.epoch ≠ 0 then e.epoch else lastMirrored s
  answer h (mkResponse s h code status e.id epoch (if status = 0 ∨ status = 1 then [] else cutList e.attachment)) s

/-- The state as the Keeper finds it when a request arrives: a network connection was active just now (R317). -/
def arrived (h : ReqHdr) (s : State) : State :=
  match h.src with
  | .net id => onKeeper (fun k => { k with conns := k.conns.map fun c => if c.session = id then { c with lastActivity := nowOf s } else c }) s
  | .mailbox _ => s

/-- A request that the Keeper takes. -/
def taken (h : ReqHdr) (code len : Nat) (fit : Bool) (flaws : List Finding) (body : State → State) (s : State) : State :=
  let s := arrived h s
  match repeated h s with
  | some s' => s'
  | none =>
    match found h code s with
    | some e => outcomeOf h code e s
    | none => notePeaks (checked h code len fit flaws body s)

def isStop : Request → Bool
  | .imgSubscribeStop => true
  | _ => false

/-- A mailbox held by a subscription takes no other request than its STOP (R336). -/
def mailboxBusy (s : State) (i : Request) (h : ReqHdr) : Bool :=
  match h.src with
  | .mailbox n => s.keeper.mailboxes[n].subscribed && !isStop i
  | .net _ => false

/-- A network session has four requests outstanding (R317). -/
def connBusy (s : State) (h : ReqHdr) : Bool :=
  match h.src with
  | .mailbox _ => false
  | .net id => (connOf s id).isNone || decide (4 ≤ (s.keeper.held.filter fun x => x.hdr.src == .net id).length)

def defer (i : Request) (h : ReqHdr) (s : State) : State :=
  match h.src with
  | .mailbox _ => if s.path.powered then { s with deferred := s.deferred ++ [(h, i)] } else s
  | .net _ => s

/-- A request arrives. While the Keeper is paused or the module is in `BOOT`, a ring stays set (R328); in DORMANT most
commands wake the module first and are served after the wake (R387). -/
def serve (i : Request) (h : ReqHdr) (code len : Nat) (fit : Bool) (flaws : List Finding) (body : State → State) (s : State) : State :=
  if keeperServes s = false then defer i h s
  else if mailboxBusy s i h ∨ connBusy s h = true then s
  else if s.mod.power = .dormant then
    if s.mod.waking.isNone ∧ servedDormant.contains code = true then taken h code len fit flaws body s
    else defer i h (beginWake 4 s)
  else taken h code len fit flaws body s

/-! ### Status words -/

def faultCode : FaultCause → Nat
  | .none => 0
  | .taskOverrun => 1
  | .laneDisagreement => 2
  | .comparatorFault => 3
  | .basinUncorrectable => 4

def levelCode : DbgLevel → Nat
  | .closed => 0
  | .observe => 1
  | .invasive => 2

def levelOf (s : State) : DbgLevel :=
  match s.sec.session with
  | some x => x.level
  | none => .closed

end Sys2Proof.Machine
end

