-- ==== Sys2Proof/Machine/CmdInfo.lean ====
section
/-! DEFINITION. Identity, state, health, release and journal commands: ID.GET, STATE.GET, HEALTH.GET, STATE.RELEASE,
JNL.GET, and PWR.GET (R332, R339 to R341, R364, R368, R378). -/

namespace Sys2Proof.Machine

open Sys2Proof

/-! ### Firmware versions of the slots -/

/-- Version field of a slot's image header (R431). -/
def slotVersion (x : FwSlot) : Nat := natAt x.header 16 4

def bootSlotOf (s : State) : FwSlot := s.upd.slots[s.upd.bootSlot]

/-- Running Keeper firmware version. -/
def keeperVersion (s : State) : Nat := slotVersion (bootSlotOf s)

/-- Full-image version: that of a FULL image, or the base version of a KEEPER_ONLY one (R431, notes/assumptions/26.md). -/
def fullVersion (s : State) : Nat :=
  let x := bootSlotOf s
  if natAt x.header 13 1 = 0 ∧ x.header ≠ [] then natAt x.header 20 4 else slotVersion x

/-! ### ID.GET -/

def idPayload (s : State) (h : ReqHdr) : List Byte :=
  le2 0x6416 ++ [Config.hwRev, byteOf (flag 0 Config.coated)] ++ le4 ((sessionOf s h.src).getD 0) ++ le8 Config.serial.toNat ++
    le4 (keeperVersion s) ++ le4 (fullVersion s) ++ [byteOf s.upd.bootSlot.val, byteOf (lifecycleCode s.sec.lifecycle)] ++
    le2 (ownerId s) ++ [byteOf (mirrorFormat s), 0] ++ le2 (fwSchema s)

def doIdGet (h : ReqHdr) (s : State) : State := respond h 0x0100 stOk (idPayload s h) s

def reqIdGet (h : ReqHdr) (s : State) : State := serve .idGet h 0x0100 0 true [] (doIdGet h) s

def execIdGet (t : Nat) (h : ReqHdr) (s : State) : Host.Outcome State Fault Refusal := .next (reqIdGet h (atTime t s))

/-! ### STATE.GET -/

def levelByte (s : State) : Byte := byteOf (flag 7 s.sec.tainted + levelCode (levelOf s))

def statePayload (s : State) : List Byte :=
  [byteOf (stateCode s.mod.state), byteOf (powerCode s.mod.power), byteOf (lifecycleCode s.sec.lifecycle), levelByte s] ++
    le4 s.pair.claim ++ le8 (lastMirrored s) ++ le4 (pairFlags s) ++ le4 (laneMap s) ++ le4 (timeFlags s) ++
    le2 (faultCode s.mod.fault) ++ le2 0

/-- Host software has read the fault (R58). -/
def readFault (s : State) : State := onMod (fun m => { m with faultRead := true }) s

def doStateGet (h : ReqHdr) (s : State) : State := readFault (respond h 0x0101 stOk (statePayload s) s)

def reqStateGet (h : ReqHdr) (s : State) : State := serve .stateGet h 0x0101 0 true [] (doStateGet h) s

def execStateGet (t : Nat) (h : ReqHdr) (s : State) : Host.Outcome State Fault Refusal := .next (reqStateGet h (atTime t s))

/-! ### HEALTH.GET -/

def taskRecord (x : Task) : List Byte :=
  le4 (sat32 x.lastScan) ++ le4 (sat32 (x.minScan.getD 0)) ++ le4 (sat32 x.maxScan) ++
    le4 (ofSigned 32 (max (-2147483648) (min 2147483647 (x.minSlack.getD 0)))) ++ le4 (sat32 x.shortSlack) ++ le4 x.executions ++
    le4 (sat32 x.preemptions) ++ le4 (sat32 x.divergences)

/-- Highest overrun count among the sluices that receive in domain `d` (R403, R404). -/
def domainCount (s : State) (d : Nat) : Nat :=
  (s.keeper.sluices.filter fun p => p.1 / 256 % 16 == d).foldl (fun m p => max m p.2) 0

def runningMask (s : State) : Nat := (runningTasks s).foldl (fun m k => m + 2 ^ k.val) 0

def healthPayload (s : State) : List Byte :=
  le4 (laneMap s) ++ le4 (pairFlags s) ++ le4 (timeFlags s) ++ le4 s.keeper.sluiceOvf.toNat ++ le4 (canStatusWord s 0) ++
    le4 (canStatusWord s 1) ++ le4 (sat32 s.ctl.weave.corrections) ++ le2 (runningMask s) ++ le2 (faultCode s.mod.fault) ++
    ((List.range 9).map fun d => byteOf (domainCount s d)) ++ [0] ++ le2 (min 0xFFFF s.keeper.barErrors) ++
    le2 (min 0xFFFF s.keeper.spiBurstErr) ++ le2 (min 0xFFFF s.keeper.connsRefused) ++ s.ctl.tasks.toList.flatMap taskRecord

def doHealthGet (h : ReqHdr) (s : State) : State := readFault (respond h 0x0102 stOk (healthPayload s) s)

def reqHealthGet (h : ReqHdr) (s : State) : State := serve .healthGet h 0x0102 0 true [] (doHealthGet h) s

def execHealthGet (t : Nat) (h : ReqHdr) (s : State) : Host.Outcome State Fault Refusal := .next (reqHealthGet h (atTime t s))

/-! ### STATE.RELEASE, R293, R368, R378 -/

/-- A foreground run gives way to the release. -/
def abortForeground (s : State) : State := allBlocks.foldl (fun s b => abortRun b s) s

/-- An enabled CAN channel enters NORMAL at the release (R293). -/
def startCan (ch : Fin 2) (s : State) : State :=
  if cfgFlag s (P.canEnable ch.val) && s.can[ch].mode == .disabled then setCanMode ch .normal s else s

/-- `HELD` to `READY`; PAIR_JOIN_WAIT counts from here (R140, R368). -/
def release (s : State) : State :=
  let s := enterState .ready .none (abortForeground s)
  let s := onPair (fun p =>
    { p with releasedAt := some (nowOf s), heardHeartbeat := false, heardBarge := false, joinWaitOver := false }) s
  startCan 1 (startCan 0 s)

def lanesFinding : Finding := { code := fLanes, item := itemField, subject := 0, task := noTask, detail := none }

def doStateRelease (h : ReqHdr) (s : State) : State :=
  if s.settings.unreadable then respond h 0x0103 stSettings [] s
  else if usableLanes s < 2 then respond h 0x0103 stInternal (findingsList s.drawn [lanesFinding]) (draw s)
  else
    let s := release s
    respond h 0x0103 stOk [] s

def reqStateRelease (h : ReqHdr) (s : State) : State := serve .stateRelease h 0x0103 0 true [] (doStateRelease h) s

def execStateRelease (t : Nat) (h : ReqHdr) (s : State) : Host.Outcome State Fault Refusal := .next (reqStateRelease h (atTime t s))

/-! ### JNL.GET, R341 -/

/-- Entries backwards from an ID; 0 is the newest. -/
def entriesFrom (s : State) (id maximum : Nat) : List JnlEntry :=
  let sorted := (sortBy (fun (e : JnlEntry) => e.id) s.keeper.journal).reverse
  (if id = 0 then sorted else sorted.filter fun e => decide (e.id ≤ id)).take maximum

def doJnlEntries (h : ReqHdr) (id maximum : Nat) (s : State) : State :=
  if id ≠ 0 ∧ (jget s id).isNone then respond h 0x0F00 stOk (le4 1 ++ le4 0 ++ le4 id ++ zeros 60) s
  else
    let es := entriesFrom s id maximum
    respond h 0x0F00 stOk (le4 es.length ++ le4 0 ++ es.flatMap jnlBytes) s

def reqJnlEntries (h : ReqHdr) (id maximum : Nat) (s : State) : State :=
  serve (.jnlGetEntries id maximum) h 0x0F00 12 true (needs (decide (1 ≤ maximum) && decide (maximum ≤ 63)) fRange 4)
    (doJnlEntries h id maximum) s

def execJnlGetEntries (t : Nat) (h : ReqHdr) (id maximum : Nat) (s : State) : Host.Outcome State Fault Refusal :=
  .next (reqJnlEntries h id maximum (atTime t s))

/-- An attachment in pieces of at most 4,056 bytes; an ID not held has none. -/
def doJnlAttachment (h : ReqHdr) (id offset : Nat) (s : State) : State :=
  let whole := match jget s id with
    | some e => e.attachment
    | none => []
  if whole.length < offset then badArgument h 0x0F00 [fieldFinding fRange 8] s
  else
    let data := (whole.drop offset).take 4056
    respond h 0x0F00 stOk (le4 whole.length ++ le4 data.length ++ data) s

def reqJnlAttachment (h : ReqHdr) (id offset : Nat) (s : State) : State :=
  serve (.jnlGetAttachment id offset) h 0x0F00 12 true [] (doJnlAttachment h id offset) s

def execJnlGetAttachment (t : Nat) (h : ReqHdr) (id offset : Nat) (s : State) : Host.Outcome State Fault Refusal :=
  .next (reqJnlAttachment h id offset (atTime t s))

/-! ### PWR.GET -/

/-- A quantity in millionths as REAL32. -/
def microReal (micro : Int) : List Byte := le4 (fofRat real32 micro 1000000)

/-- The measured powers and the die temperature are free values: no command tells the model what the module measures. -/
def powerPayload (s : State) (logic field die : W64) : List Byte :=
  let f := s.path.feeds
  [byteOf (powerCode s.mod.power), byteOf (flag 3 f[3].inRange + flag 2 f[2].inRange + flag 1 f[1].inRange + flag 0 f[0].inRange)] ++ le2 0 ++
    microReal f[0].microV ++ microReal f[1].microV ++ microReal f[2].microV ++ microReal f[3].microV ++ le4 logic.toNat ++
    le4 field.toNat ++ le4 die.toNat

def doPwrGet (h : ReqHdr) (s : State) : State :=
  let s1 := draw s
  let s2 := draw s1
  respond h 0x0E01 stOk (powerPayload s (freeWord s) (freeWord s1) (freeWord s2)) (draw s2)

def reqPwrGet (h : ReqHdr) (s : State) : State := serve .pwrGet h 0x0E01 0 true [] (doPwrGet h) s

def execPwrGet (t : Nat) (h : ReqHdr) (s : State) : Host.Outcome State Fault Refusal := .next (reqPwrGet h (atTime t s))

end Sys2Proof.Machine
end

