-- ==== Sys2Proof/Machine/CmdSettings.lean ====
section
/-! DEFINITION. Commands of family 0x02 and the way of a commit: SET.READ, SET.WRITE, SET.COMMIT, SET.EXPORT (R343 to
R356), and QUO.SET and QUO.GET (R358, R361 to R363). -/

namespace Sys2Proof.Machine

open Sys2Proof

/-! ### Read-only settings -/

/-- Key slot states, R444, R446: 0 EMPTY, 1 HELD, 2 REVOKED, 3 MISMATCH. -/
def keySlotCode (k : KeySlot) : Nat :=
  match k.hash with
  | none => 0
  | some d => if k.revoked then 2 else if sha384 k.copy1 = d ∨ sha384 k.copy2 = d then 1 else 3

/-- The stored public key of a slot that holds a key. -/
def keyOf (k : KeySlot) : Option (List Byte) :=
  match k.hash with
  | none => none
  | some d => if k.revoked then none else if sha384 k.copy1 = d then some k.copy1 else if sha384 k.copy2 = d then some k.copy2 else none

/-- REF_STATUS, R406. -/
def refStatusByte (s : State) : Nat :=
  flag 3 s.refs.failed[1] + flag 2 s.refs.failed[0] + flag 1 s.refs.xtalFailed + s.refs.inUse.val

def holdupStatusByte (s : State) : Nat := flag 1 s.path.weak + flag 0 s.path.charged

/-- Bytes 16 p to 16 p + 15 of the device fingerprint; zero in BLANK and RETURNED (R458). -/
def fingerprintPart (s : State) (p : Nat) : List Byte :=
  match s.sec.lifecycle with
  | .blank | .returned => zeros 16
  | _ => sliceAt s.sec.fingerprint (16 * p) 16

/-- What SET.READ returns for an ID from a table of settings; none for an undefined ID. -/
def readSetting (s : State) (tbl : Tbl (List Byte)) (staged : Bool) (id : Nat) : Option (List Byte) :=
  (paramOf id).map fun r =>
    if id = P.settingsGeneration then le8 (copyInUse s).generation
    else if id = P.settingsSchema then le2 (copyInUse s).schema
    else if id = P.refStatus then le1 (refStatusByte s)
    else if id = P.holdupStatus then le1 (holdupStatusByte s)
    else if id = P.holdupMeasured then le2 s.path.measuredMicroF
    else if r.base = P.deviceFp 0 then fingerprintPart s (id % 16)
    else if r.base = P.keyState 0 then le1 (match s.sec.keys[id % 16]? with
      | some k => keySlotCode k
      | none => 0)
    else if r.type = .bytes16wo then zeros 16
    else if id = P.keyEpoch ∧ (staged = false ∨ (tget id tbl).isNone = true) then le4 s.net.auth.keyEpoch
    else if id = P.keySwitchAt ∧ staged = false then le8 s.net.auth.switchAt
    else valueIn tbl id

/-! ### Staged sets -/

def stagedOf (s : State) (session : Nat) : Tbl (List Byte) := (tget session s.settings.staged).getD []

def setStaged (session : Nat) (m : Tbl (List Byte)) (s : State) : State :=
  onSettings (fun t => { t with staged := if m.isEmpty then tdel session t.staged else tput session m t.staged }) s

/-! ### SET.READ, R348 -/

def doSetRead (h : ReqHdr) (source : Nat) (ids : List Nat) (s : State) : State :=
  let unknown := ids.filter fun i => (paramOf i).isNone
  if unknown ≠ [] then badArgument h 0x0200 (unknown.map (settingFinding fUndefined)) s
  else
    let ovr := stagedOf s h.session
    let tbl := if source = 1 then ovr.foldl (fun m p => tput p.1 p.2 m) s.settings.committed else s.settings.committed
    let one (i : Nat) : List Byte :=
      match readSetting s tbl (source == 1 && thas i ovr) i with
      | some v => settingEntry i v
      | none => []
    respond h 0x0200 stOk (ids.flatMap one) s

def reqSetRead (h : ReqHdr) (source : Nat) (ids : List Nat) (s : State) : State :=
  serve (.setRead source ids) h 0x0200 (4 + 4 * ids.length) true
    (needs (decide (1 ≤ ids.length) && decide (ids.length ≤ 169)) fRange 0 ++ needs (decide (source ≤ 1)) fUndefined 2)
    (doSetRead h source ids) s

def execSetRead (t : Nat) (h : ReqHdr) (source : Nat) (ids : List Nat) (s : State) : Host.Outcome State Fault Refusal :=
  .next (reqSetRead h source ids (atTime t s))

/-! ### SET.WRITE, R345, R348 to R350 -/

/-- The finding of an entry that fails the checks of R350. -/
def writeFinding (pairScope : Bool) (p : Nat × List Byte) : Option Finding :=
  match paramOf p.1 with
  | none => some (settingFinding fUndefined p.1)
  | some r =>
    if r.cls = .readOnly ∨ p.2.length ≠ setTypeLen r.type ∨ inRange r p.1 p.2 = false ∨ (pairScope && !r.pair) = true then
      some (settingFinding fRange p.1)
    else none

/-- A class may take `new` KiB where it uses `old`: within its quota, or no new allocation (R362). -/
def withinQuota (s : State) (c old new : Nat) : Bool := decide (new ≤ quotaOf s c) || decide (new ≤ old)

def doSetWrite (h : ReqHdr) (entries : List (Nat × List Byte)) (s : State) : State :=
  let fs := entries.filterMap (writeFinding h.pairScope)
  if fs ≠ [] then badArgument h 0x0201 fs s
  else
    let set := entries.foldl (fun m p => tput p.1 (withoutReserved p.1 p.2) m) (stagedOf s h.session)
    let s' := setStaged h.session set s
    if 4096 < set.length ∨ withinQuota s 5 (hostUse s) (hostUse s') = false then respond h 0x0201 stOverQuota [] s
    else respond h 0x0201 stOk (le2 set.length ++ le2 0) s'

def reqSetWrite (h : ReqHdr) (entries : List (Nat × List Byte)) (s : State) : State :=
  let len := 4 + (entries.map fun p => 8 + (p.2.length + 7) / 8 * 8).foldl (· + ·) 0
  serve (.setWrite entries) h 0x0201 len true [] (doSetWrite h entries) s

def execSetWrite (t : Nat) (h : ReqHdr) (entries : List (Nat × List Byte)) (s : State) : Host.Outcome State Fault Refusal :=
  .next (reqSetWrite h entries (atTime t s))

/-! ### The checks of a commit, R351 -/

/-- The module as a commit would leave it: only its committed set differs. -/
def withSet (entries : Tbl (List Byte)) (s : State) : State :=
  let base := if s.settings.unreadable then ([] : Tbl (List Byte)) else s.settings.committed
  onSettings (fun t => { t with committed := resulting base entries }) s

/-- The committed value of a setting as a number, whatever its effect class. -/
def setNat (s : State) (id : Nat) : Nat := leNat (valueIn s.settings.committed id)

/-- Check 2: scope in a pair (R349). -/
def scopeOk (s : State) (pairScope : Bool) (entries : Tbl (List Byte)) : Bool :=
  let hasPair := entries.any fun p => isPairScope p.1
  !hasPair || (s.mod.state != .standby && (pairScope || !(partnerStandby s || partnerActive s)))

/-- Programs whose bindings a commit must respect. -/
def boundPrograms (s : State) : List Program :=
  (match s.ctl.running with
   | some p => [p]
   | none => []) ++ (match s.ctl.staged with
   | some g => [g.prog]
   | none => [])

def boundWhere (s : State) (p : Nat → Bool) : Bool :=
  (boundPrograms s).any fun g => g.tags.any fun q => q.2.origin == .channel && p q.2.point

/-- Tags of transmit object `j` of a channel. -/
def objectBound (s : State) (ch j : Nat) : Bool := boundWhere s fun c => c / 0x1000 == 0xA + ch && c / 64 % 64 == j

/-- TIME_GM_TAI_SECONDS would move the module's time by more than 10 µs while a task runs (R225). -/
def taiConflict (s : State) (v : Nat) : Bool :=
  let edge := match s.time.lastPps with
    | some x => if cfgFlag s P.ppsInput then x + 1000000000 else (nowOf s / 1000000000 + 1) * 1000000000
    | none => (nowOf s / 1000000000 + 1) * 1000000000
  let gap : Int := (v * 1000000000 : Nat) - (edge : Int)
  v != 0 && (pairRuns s || !(runningTasks s).isEmpty) && decide (10000 < gap.natAbs)

/-- Check 3: what the owning chapters refuse in the present state (R35, R209, R225, R243, R268, R299, R308). -/
def stateRulesOk (s : State) (entries : Tbl (List Byte)) : Bool :=
  let ids := changedIds s entries
  let after := withSet entries s
  (allTasks.all fun k => !s.ctl.tasks[k].running ||
    !([P.taskEnable k.val, P.taskPeriod k.val, P.taskPhase k.val, P.taskPriority k.val].any ids.contains)) &&
  (allDio.all fun c => !ids.contains (P.dioMode c.val) || !(boundWhere s (· == dioCode c) || triggerHolds s (dioCode c))) &&
  (allAio.all fun c => !ids.contains (P.aioMode c.val) || !(boundWhere s (· == aioCode c) || triggerHolds s (aioCode c))) &&
  ([0, 1].all fun ch => (List.range 32).all fun j =>
    !objectBound s ch j || (!ids.contains (P.txoId ch j) && !ids.contains (P.txoControl ch j) &&
      !(ids.contains (P.canFormat ch) && setNat after (P.canFormat ch) == 0 && bitAt (setNat after (P.txoId ch j)) 29))) &&
  (!thas P.keyEpoch entries || thas P.keyMaster entries || setNat s P.authMode == 0) &&
  (match tget P.gmTaiSeconds entries with
   | some v => !taiConflict s (leNat v)
   | none => true)

def taskFinding (code id task : Nat) : Finding := { settingFinding code id with task := task }

/-- A condition on a setting of the resulting set. -/
def ruleOn (ok : Bool) (code id : Nat) : List Finding := if ok then [] else [settingFinding code id]

/-- Task rules: priorities, phase, deadline and offset (R31, R35, R36). -/
def taskRules (s : State) (k : TaskId) : List Finding :=
  let n := k.val
  let period := setNat s (P.taskPeriod n)
  let offset := setNat s (P.taskOffset n)
  let deadline := setNat s (P.taskDeadline n)
  let twin := setNat s (P.taskEnable n) == 1 && (List.range n).any fun j =>
    setNat s (P.taskEnable j) == 1 && setNat s (P.taskPriority j) == setNat s (P.taskPriority n)
  let off := if offset = 0 then period else offset
  let dead := if deadline = 0 then period else deadline
  (if twin then [taskFinding fDupPriority (P.taskPriority n) n] else []) ++
    (if setNat s (P.taskPhase n) < period then [] else [taskFinding fRange (P.taskPhase n) n]) ++
    (if offset ≤ 4 * period then [] else [taskFinding fRange (P.taskOffset n) n]) ++
    (if deadline ≤ period then [] else [taskFinding fRange (P.taskDeadline n) n]) ++
    (if dead ≤ off then [] else [taskFinding fDeadlineOffset (P.taskDeadline n) n])

/-- Two enabled entries with one NODE_ID (R204). -/
def nodeRules (s : State) : List Finding :=
  let on := (enabledNodes s).map fun i => (i, setNat s (P.nodeId i))
  on.filterMap fun p => if on.any fun q => decide (q.1 < p.1) && q.2 == p.2 then some { settingFinding fRange (P.nodeId p.1) with detail := some p.2 } else none

/-- Gate control lists of P1 and P2 (R219). -/
def gateRules (s : State) (p : Fin 3) : List Finding :=
  let g := committedGcl s p
  let n := p.val + 1
  if g.length = 0 then []
  else
    let need := sendTime s p (wireLength s (cfg s P.maxPayload))
    ruleOn ((openIntervals g (cfg s P.pcpOut)).all fun x => decide (need ≤ x)) fRange (P.gclLength n) ++
      ruleOn (!(openIntervals g 7).isEmpty) fRange (P.gclLength n) ++
      (g.entries.zipIdx.filterMap fun e => if e.1.toNat % 2 ^ 24 < 100 then some (settingFinding fRange (P.gclEntry n e.2)) else none)

/-- The switch of the key epoch (R209). -/
def keyRules (s : State) (entries : Tbl (List Byte)) : List Finding :=
  match tget P.keySwitchAt entries with
  | none => []
  | some v =>
    let longest := (runningTasks s).foldl (fun m k => max m (periodOf s k)) 0
    let floor := nowOf s + 3 * msToNs (cfg s P.claimRefresh) + longest + 15000000
    let epoch := match tget P.keyEpoch entries with
      | some e => leNat e
      | none => s.net.auth.keyEpoch
    if leNat v = 0 then [] else ruleOn (decide (floor ≤ leNat v) && decide (epoch < 0xFFFFFFFE)) fRange P.keySwitchAt

/-- A CAN bit: prescaler and quanta; at least 8 quanta, and at most `rate` Mbit/s (R290, R292). -/
def bitOk (brp tseg1 tseg2 rate : Nat) : Bool :=
  let quanta := 1 + (tseg1 + 1) + (tseg2 + 1)
  decide (8 ≤ quanta) && decide (80 ≤ rate * (brp + 1) * quanta)

def canRules (s : State) (ch : Nat) : List Finding :=
  let n := setNat s (P.canNominal ch)
  let d := setNat s (P.canData ch)
  ruleOn (bitOk (n / 2 ^ 23 % 512) (n / 2 ^ 15 % 256) (n / 2 ^ 8 % 128) 1) fRange (P.canNominal ch) ++
    ruleOn (bitOk (d / 2 ^ 27 % 32) (d / 2 ^ 22 % 32) (d / 2 ^ 18 % 16) 8) fRange (P.canData ch)

def portRules (s : State) : List Finding :=
  ruleOn (setNat s P.mgmtTcpPort != setNat s P.udpPort) fRange P.mgmtTcpPort ++
    ruleOn (setNat s P.wakeUdpPort != setNat s P.udpPort && setNat s P.wakeUdpPort != setNat s P.mgmtTcpPort) fRange P.wakeUdpPort ++
    ruleOn (setNat s P.ptpProfile != 2 || setNat s P.ptpDelayMech == 1) fRange P.ptpDelayMech

/-- OUT_PARALLEL takes the safe state OFF only (R243). -/
def dioRules (s : State) : List Finding :=
  allDio.flatMap fun c => ruleOn (setNat s (P.dioMode c.val) != 4 || setNat s (P.dioSafe c.val) == 0) fRange (P.dioSafe c.val)

/-- Check 4: the cross-parameter rules, on the resulting set. -/
def crossFindings (s : State) (entries : Tbl (List Byte)) : List Finding :=
  let after := withSet entries s
  allTasks.flatMap (taskRules after) ++ nodeRules after ++ gateRules after 0 ++ gateRules after 1 ++ keyRules after entries ++
    dioRules after ++ canRules after 0 ++ canRules after 1 ++ portRules after

/-- Check 5: BARGE use of the node table and VBP_MAX_PAYLOAD (R358). -/
def commitFits (s : State) (entries : Tbl (List Byte)) : Bool :=
  let ids := changedIds s entries
  let after := withSet entries s
  !(ids.any fun i => isNodeParam i || i == P.maxPayload) ||
    withinQuota after 4 (bargeNeed s s.ctl.running) (bargeNeed after s.ctl.running)

def quotaFinding (c : Nat) : Finding := settingFinding fQuota (P.quota c)

/-- Status and findings of checks 2 to 5; OK where all pass. -/
def commitVerdict (s : State) (pairScope : Bool) (entries : Tbl (List Byte)) : Nat × List Finding :=
  if scopeOk s pairScope entries = false then (stRoleConflict, [])
  else if stateRulesOk s entries = false then (stStateConflict, [])
  else
    let fs := crossFindings s entries
    if fs ≠ [] then (stBadArgument, fs)
    else if commitFits s entries = false then (stOverQuota, [quotaFinding 4])
    else (stOk, [])

/-- Payload of an answered commit: entries committed; RESTART_NEEDED and POWER_CYCLE_NEEDED for changed settings (R347). -/
def commitPayload (s : State) (entries : Tbl (List Byte)) : List Byte :=
  let ids := changedIds s entries
  le2 entries.length ++ le2 (flag 0 (ids.any fun i => effectOf i == .atRestart) + flag 1 (ids.any fun i => effectOf i == .atPowerUp))

/-! ### SET.COMMIT, R351, R352 -/

def findingPayload (status : Nat) (s : State) (code : Nat) (fs : List Finding) : List Byte :=
  if status = stStateConflict then conflictPayload s (cmdRow code).legal else if fs.isEmpty then [] else findingsList s.drawn fs

def acceptCommit (h : ReqHdr) (set : Tbl (List Byte)) (s : State) : State :=
  acceptEpoch h 0x0202 4 (commitPayload s set) (fun id s =>
    let c : Commit :=
      { journal := id, session := h.session, entries := set, phase := .waiting, pairScope := h.pairScope,
        atEpoch := if h.atEpoch then some h.epoch else none, acceptedAt := nowOf s, before := [], copyEpoch := 0 }
    queueChange h .settings id (onSettings (fun t => { t with commits := t.commits ++ [c] }) (setStaged h.session [] s))) s

def doSetCommit (h : ReqHdr) (expected : Nat) (s : State) : State :=
  let set := stagedOf s h.session
  if expected = 0 ∨ expected ≠ set.length then badArgument h 0x0202 [fieldFinding fRange 0] s
  else if passedEpoch s h then respond h 0x0202 stEpochGone [] s
  else if h.dryRun then
    let v := commitVerdict s h.pairScope set
    respond h 0x0202 v.1 (if v.1 = stOk then commitPayload s set else findingPayload v.1 s 0x0202 v.2) (draw s)
  else acceptCommit h set s

def reqSetCommit (h : ReqHdr) (expected : Nat) (s : State) : State :=
  serve (.setCommit expected) h 0x0202 4 true [] (doSetCommit h expected) s

def execSetCommit (t : Nat) (h : ReqHdr) (expected : Nat) (s : State) : Host.Outcome State Fault Refusal :=
  .next (reqSetCommit h expected (atTime t s))

def onCommit (id : Nat) (g : Commit → Commit) (s : State) : State :=
  onSettings (fun t => { t with commits := t.commits.map fun c => if c.journal = id then g c else c }) s

def dropCommit (id : Nat) (s : State) : State :=
  let s := onSettings (fun t => { t with commits := t.commits.filter fun c => c.journal != id }) s
  onKeeper (fun k => { k with changes := k.changes.filter fun c => c.journal != id }) s

def sessionLives (s : State) (id : Nat) : Bool :=
  id == s.keeper.pcieSession || id == s.keeper.spiSession || (connOf s id).isSome

/-- A commit that fails: the taken entries go back beneath those staged since. -/
def failCommit (c : Commit) (status : Nat) (fs : List Finding) (s : State) : State :=
  let back := (stagedOf s c.session).foldl (fun m p => tput p.1 p.2 m) c.entries
  let s := if sessionLives s c.session then setStaged c.session back s else s
  let payload := findingPayload status s 0x0202 fs
  let whole := if fs.isEmpty then payload else findingsWhole s.drawn fs
  jend c.journal .failed status (jmod c.journal (fun e => { e with attachment := whole }) (dropCommit c.journal (draw s)))

/-- SET_COMMIT_TURN_START (R351): the commit at the head of the order runs checks 2 to 5. -/
def execSetCommitTurnStart (t : Nat) (journal : Nat) (s : State) : Host.Outcome State Fault Refusal :=
  let s := atTime t s
  .next (match s.settings.commits.head? with
    | some c =>
      if c.journal = journal ∧ c.phase = .waiting then
        let v := commitVerdict s c.pairScope c.entries
        if v.1 = stOk then onCommit journal (fun c => { c with phase := .checked }) s else failCommit c v.1 v.2 s
      else s
    | none => s)

/-- SETTINGS_FIRST_COPY_WRITTEN (R352 step 2). -/
def execSettingsFirstCopyWritten (t : Nat) (journal : Nat) (s : State) : Host.Outcome State Fault Refusal :=
  let s := atTime t s
  .next (match s.settings.commits.find? fun c => c.journal == journal with
    | some c =>
      if c.phase = .checked then
        let was := s.settings.committed
        let s := applyImmediate c.entries (writeFirstCopy c.entries s)
        jmod journal (fun e => { e with state := .running, step := 1 }) (onCommit journal (fun c => { c with phase := .firstCopy, before := was }) s)
      else s
    | none => s)

/-- SETTINGS_SECOND_COPY_WRITTEN (R352 step 5): the entry ends and the response follows. -/
def execSettingsSecondCopyWritten (t : Nat) (journal : Nat) (s : State) : Host.Outcome State Fault Refusal :=
  let s := atTime t s
  .next (match s.settings.commits.find? fun c => c.journal == journal with
    | some c =>
      if c.phase = .mirrored then
        let s := writeSecondCopy c.copyEpoch s
        jend journal .done stOk (jmod journal (fun e => { e with step := 4 }) (dropCommit journal s))
      else s
    | none => s)

/-! ### SET.EXPORT, R356 -/

/-- IDs that a parameter row names, in rising order. -/
def rowIds (r : ParamRow) : List Nat :=
  r.idx.foldl (fun ids x => ids.flatMap fun i => (List.range (x.last + 1 - x.first)).map fun n => i + (x.first + n) * 2 ^ x.shift) [r.base]

/-- Every defined parameter ID, ascending. -/
def allIds : List Nat := (paramTable.flatMap rowIds).mergeSort (· ≤ ·)

/-- One entry of an export image: a write-only setting has length 0 and no value. -/
def exportEntry (s : State) (id : Nat) : List Byte :=
  match paramOf id with
  | some r =>
    if r.type = .bytes16wo then le4 id ++ le2 (setTypeCode r.type) ++ le2 0
    else (match readSetting s s.settings.committed false id with
      | some v => settingEntry id v
      | none => [])
  | none => []

/-- Entries that fit in `room` bytes, in order. -/
def fitEntries : Nat → List (List Byte) → List (List Byte)
  | _, [] => []
  | room, e :: rest => if e.length ≤ room then e :: fitEntries (room - e.length) rest else []

/-- The image of R356 from its entries. -/
def exportImage (s : State) (entries : List (List Byte)) (complete : Bool) : List Byte :=
  let body := entries.flatMap id
  let head := le4 0x56534558 ++ le2 1 ++ le2 (copyInUse s).schema ++ le8 (copyInUse s).generation ++ le4 entries.length ++
    le4 (32 + body.length) ++ le4 (flag 0 (!complete))
  head ++ le4 (crc32c (head ++ le4 0 ++ body)).toNat ++ body

def buildExport (h : ReqHdr) (journal : Nat) (s : State) : State :=
  let s := onKeeper (fun k => { k with exports := k.exports.filter fun x => x.session != h.session }) s
  let all := allIds.map (exportEntry s)
  let room := (quotaOf s 5 - hostUse s) * 1024
  let kept := if 32 + (all.map fun e => e.length).foldl (· + ·) 0 ≤ room then all else fitEntries (room - 32) all
  let complete := kept.length == all.length
  let image : ExportImage := { journal := journal, session := h.session, bytes := exportImage s kept complete }
  let s := onKeeper (fun k => { k with exports := k.exports ++ [image] }) s
  let s := jmod journal (fun e => { e with step := 1, detail := if complete then 0 else kept.length, detail2 := if complete then 0 else all.length }) s
  if complete then jend journal .done stOk s else jend journal .partly stPartial s

def doExportBuild (h : ReqHdr) (s : State) : State :=
  if quotaOf s 5 < hostUse s + 4 then respond h 0x0203 stOverQuota [] s
  else acceptLong h 0x0203 1 (buildExport h) s

def reqExportBuild (h : ReqHdr) (s : State) : State :=
  serve (.setExportBuild) h 0x0203 12 true [] (doExportBuild h) s

def execSetExportBuild (t : Nat) (h : ReqHdr) (s : State) : Host.Outcome State Fault Refusal := .next (reqExportBuild h (atTime t s))

def doExportRead (h : ReqHdr) (offset journal : Nat) (s : State) : State :=
  match s.keeper.exports.find? fun x => x.journal == journal && x.session == h.session with
  | none => badArgument h 0x0203 [fieldFinding fRange 8] s
  | some x =>
    if x.bytes.length < offset then badArgument h 0x0203 [fieldFinding fRange 4] s
    else
      let data := (x.bytes.drop offset).take 4056
      respond h 0x0203 stOk (le4 x.bytes.length ++ le4 data.length ++ data) s

def reqExportRead (h : ReqHdr) (offset journal : Nat) (s : State) : State :=
  serve (.setExportRead offset journal) h 0x0203 12 true [] (doExportRead h offset journal) s

def execSetExportRead (t : Nat) (h : ReqHdr) (offset journal : Nat) (s : State) : Host.Outcome State Fault Refusal :=
  .next (reqExportRead h offset journal (atTime t s))

/-! ### Quotas, R361 to R363 -/

def overNow (s : State) (c : Nat) : Bool := decide (quotaOf s c < classUse s c)

/-- QUO.SET: applied at once, and written to both MRAM copies. -/
def doQuoSet (h : ReqHdr) (cls quota : Nat) (s : State) : State :=
  let v := le4 quota
  let inside := match paramOf (P.quota cls) with
    | some r => isClass cls && inRange r (P.quota cls) v
    | none => false
  if inside = false then badArgument h 0x0F01 [fieldFinding fRange (if isClass cls then 4 else 0)] s
  else
    let s' := rewriteCopies (onSettings (fun t => { t with committed := putSetting (P.quota cls) v t.committed }) s)
    let payload := le4 (flag 0 (overNow s' cls)) ++ le4 (classUse s cls)
    respond h 0x0F01 stOk payload (if h.dryRun then s else s')

def reqQuoSet (h : ReqHdr) (cls quota : Nat) (s : State) : State :=
  serve (.quoSet cls quota) h 0x0F01 8 true [] (doQuoSet h cls quota) s

def execQuoSet (t : Nat) (h : ReqHdr) (cls quota : Nat) (s : State) : Host.Outcome State Fault Refusal :=
  .next (reqQuoSet h cls quota (atTime t s))

def quoRecord (s : State) (c : Nat) : List Byte :=
  let ovr := overNow s c
  let staged := s.ctl.staged.isSome && decide (c ≤ 3)
  le2 c ++ le2 (flag 2 staged + flag 1 (ovr && cyclicClass c) + flag 0 ovr) ++ le4 (quotaOf s c) ++ le4 (classUse s c) ++
    le4 (max (classUse s c) ((s.keeper.peaks[c - 1]?).getD 0))

def doQuoGet (h : ReqHdr) (cls : Nat) (s : State) : State :=
  if cls = 0xFFFF then respond h 0x0F02 stOk ((List.range 6).flatMap fun i => quoRecord s (i + 1)) s
  else if isClass cls then respond h 0x0F02 stOk (quoRecord s cls) s
  else badArgument h 0x0F02 [fieldFinding fUndefined 0] s

def reqQuoGet (h : ReqHdr) (cls : Nat) (s : State) : State := serve (.quoGet cls) h 0x0F02 2 true [] (doQuoGet h cls) s

def execQuoGet (t : Nat) (h : ReqHdr) (cls : Nat) (s : State) : Host.Outcome State Fault Refusal := .next (reqQuoGet h cls (atTime t s))

end Sys2Proof.Machine
end

