-- ==== Sys2Proof/Machine/CmdImage.lean ====
section
/-! DEFINITION. Image, subscription and force commands: IMG.READ, IMG.WRITE, IMG.SUBSCRIBE, FRC.SET, FRC.CLEAR, FRC.LIST,
and notifications (R15, R22 to R29, R47, R112 to R117, R335, R336, R489, R490). -/

namespace Sys2Proof.Machine

open Sys2Proof

/-! ### Reading the image at one epoch -/

/-- The epoch of a read: the named one, or the last mirrored one (R22, R29). -/
def readEpoch (s : State) (h : ReqHdr) : Nat := if h.atEpoch then h.epoch else s.img.mirrored

/-- Epochs that answer `EPOCH_GONE` to every request that names them: not mirrored, lost, or below the floor (R23, R27, R490). -/
def epochGone (s : State) (e : Nat) : Bool := decide (s.img.mirrored < e) || lostEpoch s e

/-- Tag indices of the ranges, in request order. -/
def rangeTags (ranges : List (Nat × Nat)) : List Nat := ranges.flatMap fun r => (List.range r.2).map (r.1 + ·)

/-- What a read of the image finds. -/
inductive ImageRead where
  | gone
  | poisoned (tags : List Nat)
  | slots (bytes : List (List Byte))

/-- Slots of tags at epoch `e`: a copy for every tag first, and only then poison (R15). -/
def readImage (s : State) (e : Nat) (tags : List Nat) : ImageRead :=
  let got := tags.filterMap fun i => match tget i s.img.tags with
    | some t => (copyAt t e).map fun c => (i, t, c)
    | none => none
  if got.length < tags.length then .gone
  else
    let bad := (got.filter fun g => poisonedAt s (slotAddress g.1 (copyIsB g.2.1 e))).map fun g => g.1
    if bad ≠ [] then .poisoned bad else .slots (got.map fun g => slotBytes (slotImage g.1 g.2.1 g.2.2))

def slotsPayload (slots : List (List Byte)) : List Byte := le4 slots.length ++ le4 0 ++ slots.flatMap fun b => b

/-- Range count 1 to 32 and at most 126 tags; every tag exists. -/
def rangeFlaws (countAt : Nat) (ranges : List (Nat × Nat)) : List Finding :=
  needs (decide (1 ≤ ranges.length) && decide (ranges.length ≤ 32) && decide ((ranges.map fun r => r.2).foldl (· + ·) 0 ≤ 126)) fRange countAt

def missingTags (s : State) (tags : List Nat) : List Finding :=
  (tags.filter fun i => !thas i s.img.tags).map fun i => tagFinding fUndefined i

/-- A joining module serves no host reads until its image is complete (R141). -/
def joining (s : State) : Bool := s.tow.catchup.isSome

def answerRead (h : ReqHdr) (code : Nat) (e : Nat) (tags : List Nat) (extra : List Byte) (good : State → State) (s : State) : State :=
  match readImage s e tags with
  | .gone => respond h code stEpochGone [] s
  | .poisoned bad => respondEpoch h code stInternal e (le4 bad.length ++ bad.flatMap le4) s
  | .slots bs => good (respondEpoch h code stOk e (slotsPayload bs ++ extra) s)

def doImgRead (h : ReqHdr) (ranges : List (Nat × Nat)) (s : State) : State :=
  let tags := rangeTags ranges
  let fs := missingTags s tags
  if joining s then conflict h 0x0400 s
  else if fs ≠ [] then badArgument h 0x0400 fs s
  else if h.atEpoch && epochGone s h.epoch then respond h 0x0400 stEpochGone [] s
  else answerRead h 0x0400 (readEpoch s h) tags [] id s

def reqImgRead (h : ReqHdr) (ranges : List (Nat × Nat)) (s : State) : State :=
  serve (.imgRead ranges) h 0x0400 (4 + 8 * ranges.length) true (rangeFlaws 0 ranges) (doImgRead h ranges) s

def execImgRead (t : Nat) (h : ReqHdr) (ranges : List (Nat × Nat)) (s : State) : Host.Outcome State Fault Refusal :=
  .next (reqImgRead h ranges (atTime t s))

/-! ### Batches of values: IMG.WRITE and FRC.SET -/

/-- A value's tag exists, its type is the tag's and it meets the encoding of R43. -/
def valueFlaws (s : State) (writes : List (Nat × Nat × W64)) : List Finding :=
  writes.filterMap fun w => match tget w.1 s.img.tags with
    | none => some (tagFinding fUndefined w.1)
    | some t =>
      if typeCode t.decl.type ≠ w.2.1 then some (tagFinding fUndefined w.1)
      else if meetsEncoding t.decl.type w.2.2 then none else some (tagFinding fRange w.1)

/-- The end of acceptance of an epoch-bound batch: EPOCH_GONE, a dry run's answer, or a queued change. -/
def queueBatch (h : ReqHdr) (code : Nat) (kind : ChangeKind) (s : State) : State :=
  if passedEpoch s h then respond h code stEpochGone [] s
  else if h.dryRun then respond h code stOk [] s
  else acceptEpoch h code 2 [] (queueChange h kind) s

def doImgWrite (h : ReqHdr) (writes : List (Nat × Nat × W64)) (s : State) : State :=
  let fs := valueFlaws s writes
  if fs ≠ [] then badArgument h 0x0401 fs s else queueBatch h 0x0401 (.imgWrite writes) s

def countFlaws (lo hi n : Nat) : List Finding := needs (decide (lo ≤ n) && decide (n ≤ hi)) fRange 0

def reqImgWrite (h : ReqHdr) (writes : List (Nat × Nat × W64)) (s : State) : State :=
  serve (.imgWrite writes) h 0x0401 (4 + 16 * writes.length) true (countFlaws 1 253 writes.length) (doImgWrite h writes) s

def execImgWrite (t : Nat) (h : ReqHdr) (writes : List (Nat × Nat × W64)) (s : State) : Host.Outcome State Fault Refusal :=
  .next (reqImgWrite h writes (atTime t s))

/-! ### Forces -/

/-- Tags of the force table after one more change. -/
def forcedAfter (m : List Nat) (k : ChangeKind) : List Nat :=
  match k with
  | .forceSet fs => fs.foldl (fun m w => insertSorted w.1 m) m
  | .forceClear tags all => if all then [] else m.filter fun i => !tags.contains i
  | _ => m

/-- The order in which steps come to queued changes: those bound to no epoch first, then the others by epoch. -/
def stepOrder (cs : List HostChange) : List HostChange :=
  (cs.filter fun c => c.atEpoch.isNone) ++ sortBy (fun c => c.atEpoch.getD 0) (cs.filter fun c => c.atEpoch.isSome)

/-- Most entries that the force table comes to hold while the queued changes and one more are applied (R112). -/
def mostForced (s : State) (h : ReqHdr) (k : ChangeKind) : Nat :=
  let c : HostChange := { journal := 0, kind := k, atEpoch := if h.atEpoch then some h.epoch else none }
  ((stepOrder (s.keeper.changes ++ [c])).foldl (fun (m : List Nat × Nat) x =>
    let f := forcedAfter m.1 x.kind
    (f, max m.2 f.length)) (s.img.forces.map fun f => f.tag, 0)).2

def doFrcSet (h : ReqHdr) (writes : List (Nat × Nat × W64)) (s : State) : State :=
  let fs := valueFlaws s writes
  if fs ≠ [] then badArgument h 0x0500 fs s
  else if 4096 < mostForced s h (.forceSet writes) then respond h 0x0500 stOverQuota [] s
  else queueBatch h 0x0500 (.forceSet writes) s

def reqFrcSet (h : ReqHdr) (writes : List (Nat × Nat × W64)) (s : State) : State :=
  serve (.frcSet writes) h 0x0500 (4 + 16 * writes.length) true (countFlaws 1 253 writes.length) (doFrcSet h writes) s

def execFrcSet (t : Nat) (h : ReqHdr) (writes : List (Nat × Nat × W64)) (s : State) : Host.Outcome State Fault Refusal :=
  .next (reqFrcSet h writes (atTime t s))

def doFrcClear (h : ReqHdr) (all : Bool) (tags : List Nat) (s : State) : State :=
  let fs := missingTags s tags
  if fs ≠ [] then badArgument h 0x0501 fs s else queueBatch h 0x0501 (.forceClear tags all) s

def reqFrcClear (h : ReqHdr) (all : Bool) (tags : List Nat) (s : State) : State :=
  serve (.frcClear all tags) h 0x0501 (4 + 4 * tags.length) true (countFlaws 0 1015 tags.length) (doFrcClear h all tags) s

def execFrcClear (t : Nat) (h : ReqHdr) (all : Bool) (tags : List Nat) (s : State) : Host.Outcome State Fault Refusal :=
  .next (reqFrcClear h all tags (atTime t s))

def doFrcList (h : ReqHdr) (first : Nat) (s : State) : State :=
  let shown := (s.img.forces.drop first).take 126
  respond h 0x0502 stOk (le4 s.img.forces.length ++ le4 shown.length ++ shown.flatMap forceBytes) s

def reqFrcList (h : ReqHdr) (first : Nat) (s : State) : State := serve (.frcList first) h 0x0502 4 true [] (doFrcList h first) s

def execFrcList (t : Nat) (h : ReqHdr) (first : Nat) (s : State) : Host.Outcome State Fault Refusal :=
  .next (reqFrcList h first (atTime t s))

/-! ### Subscriptions, R336 -/

def startSubscription (h : ReqHdr) (interval : Nat) (ranges : List (Nat × Nat)) (s : State) : State :=
  let x : Subscription :=
    { hdr := h, ranges := ranges, minInterval := usToNs interval, lastNotified := nowOf s, lastEpoch := s.img.mirrored, skipped := 0 }
  let s := match h.src with
    | .mailbox n => onMailbox n (fun b => { b with subscribed := true }) s
    | .net _ => s
  onKeeper (fun k => { k with subscriptions := k.subscriptions.filter (fun y => y.hdr.src != h.src) ++ [x] }) s

def doSubscribe (h : ReqHdr) (interval : Nat) (ranges : List (Nat × Nat)) (s : State) : State :=
  let tags := rangeTags ranges
  let fs := missingTags s tags
  if joining s then conflict h 0x0402 s
  else if fs ≠ [] then badArgument h 0x0402 fs s
  else if 8 ≤ s.keeper.subscriptions.length ∨ withinQuota s 5 (hostUse s) (hostUse s + 4) = false then respond h 0x0402 stOverQuota [] s
  else answerRead h 0x0402 s.img.mirrored tags (le4 0) (startSubscription h interval ranges) s

def reqSubscribeStart (h : ReqHdr) (interval : Nat) (ranges : List (Nat × Nat)) (s : State) : State :=
  serve (.imgSubscribeStart interval ranges) h 0x0402 (8 + 8 * ranges.length) true
    (needs (decide (250 ≤ interval) && decide (interval ≤ 10000000)) fRange 4 ++ rangeFlaws 2 ranges) (doSubscribe h interval ranges) s

def execImgSubscribeStart (t : Nat) (h : ReqHdr) (interval : Nat) (ranges : List (Nat × Nat)) (s : State) :
    Host.Outcome State Fault Refusal :=
  .next (reqSubscribeStart h interval ranges (atTime t s))

/-- STOP frees the mailbox or the network session. -/
def doSubscribeStop (h : ReqHdr) (s : State) : State :=
  let s := match h.src with
    | .mailbox n => onMailbox n (fun b => { b with subscribed := false }) s
    | .net _ => s
  respond h 0x0402 stOk [] (onKeeper (fun k => { k with subscriptions := k.subscriptions.filter fun y => y.hdr.src != h.src }) s)

def reqSubscribeStop (h : ReqHdr) (s : State) : State := serve .imgSubscribeStop h 0x0402 8 true [] (doSubscribeStop h) s

def execImgSubscribeStop (t : Nat) (h : ReqHdr) (s : State) : Host.Outcome State Fault Refusal := .next (reqSubscribeStop h (atTime t s))

/-- A subscribed tag has a copy that a mirrored epoch since the last notification committed. -/
def subscribedChange (s : State) (x : Subscription) : Bool :=
  (rangeTags x.ranges).any fun i => match tget i s.img.tags with
    | some t => match copyAt t s.img.mirrored with
      | some c => decide (x.lastEpoch < c.epoch)
      | none => false
    | none => false

/-- Writes a notification: over a mailbox whose DB_RSP is set it replaces the one that waits. -/
def putNotification (h : ReqHdr) (r : Response) (s : State) : State :=
  match h.src with
  | .mailbox n => if s.keeper.mailboxes[n].dbRsp then onMailbox n (fun b => { b with waiting := [r] }) s else deliver n r s
  | .net id => onKeeper (fun k => { k with conns := k.conns.map fun c => if c.session = id then { c with sent := c.sent ++ [r] } else c }) s

/-- A notification waits in the mailbox for DB_RSP. -/
def notificationWaits (s : State) (src : Source) : Bool :=
  match src with
  | .mailbox n => s.keeper.mailboxes[n].dbRsp && !s.keeper.mailboxes[n].waiting.isEmpty
  | .net _ => false

def notify (x : Subscription) (s : State) : State :=
  match readImage s s.img.mirrored (rangeTags x.ranges) with
  | .slots bs =>
    let skipped := if notificationWaits s x.hdr.src then x.skipped + 1 else 0
    let r := mkResponse s x.hdr 0x0402 stOk 0 s.img.mirrored (slotsPayload bs ++ le4 skipped)
    let x' := { x with lastNotified := nowOf s, lastEpoch := s.img.mirrored, skipped := skipped }
    let s := onKeeper (fun k => { k with subscriptions := k.subscriptions.map fun y => if y.hdr.src = x.hdr.src then x' else y }) s
    putNotification x.hdr r s
  | _ => s

def execSubscriptionNotify (t : Nat) (src : Source) (s : State) : Host.Outcome State Fault Refusal :=
  let s := atTime t s
  .next (match s.keeper.subscriptions.find? fun x => x.hdr.src == src with
    | some x =>
      if keeperServes s && subscribedChange s x && decide (x.lastNotified + x.minInterval ≤ nowOf s) then notify x s else s
    | none => s)

end Sys2Proof.Machine
end

