-- ==== Sys2Proof/Machine/CmdProgram.lean ====
section
/-! DEFINITION. Commands of family 0x03: PRG.LOAD, PRG.VERIFY, PRG.EXCHANGE, PRG.START and PRG.STOP (R34, R58, R96 to R101,
R105 to R107, R111, R118, R139, R140, R333, R334, R457, R466). -/

namespace Sys2Proof.Machine

open Sys2Proof

/-! ### PRG.LOAD -/

/-- An exchange of the staged version is QUEUED or RUNNING (R100). -/
def exchangeBusy (s : State) : Bool := s.ctl.exchange.isSome

def loadBytes (h : ReqHdr) (n : Nat) (s : State) : State := respond h 0x0300 stOk (le4 n) s

def doLoadBegin (h : ReqHdr) (version length : Nat) (s : State) : State :=
  if version = 0 then badArgument h 0x0300 [fieldFinding fRange 4] s
  else if exchangeBusy s then conflict h 0x0300 s
  else if quotaOf s 2 < pages length then respond h 0x0300 stOverQuota [] s
  else loadBytes h 0 (onCtl (fun c => { c with load := some { version := version, length := length, bytes := [], journal := 0 } }) s)

def reqLoadBegin (h : ReqHdr) (version length : Nat) (s : State) : State :=
  serve (.prgLoadBegin version length) h 0x0300 16 true [] (doLoadBegin h version length) s

def execPrgLoadBegin (t : Nat) (h : ReqHdr) (version length : Nat) (s : State) : Host.Outcome State Fault Refusal :=
  .next (reqLoadBegin h version length (atTime t s))

/-- A chunk must name the load in progress, come in order and stay inside the container. -/
def doLoadData (h : ReqHdr) (version offset : Nat) (data : List Byte) (s : State) : State :=
  match s.ctl.load with
  | none => conflict h 0x0300 s
  | some l =>
    if exchangeBusy s then conflict h 0x0300 s
    else if l.version ≠ version then badArgument h 0x0300 [fieldFinding fRange 4] s
    else if offset ≠ l.bytes.length then badArgument h 0x0300 [fieldFinding fRange 8] s
    else if l.length < offset + data.length then badArgument h 0x0300 [fieldFinding fRange 12] s
    else loadBytes h (offset + data.length) (onCtl (fun c => { c with load := some { l with bytes := l.bytes ++ data } }) s)

def reqLoadData (h : ReqHdr) (version offset : Nat) (data : List Byte) (s : State) : State :=
  serve (.prgLoadData version offset data) h 0x0300 (16 + data.length) true [] (doLoadData h version offset data) s

def execPrgLoadData (t : Nat) (h : ReqHdr) (version offset : Nat) (data : List Byte) (s : State) :
    Host.Outcome State Fault Refusal := .next (reqLoadData h version offset data (atTime t s))

/-- The findings of END: length, CRC, version and layout (R99, R333, R334). -/
def loadFindings (l : Load) : List Finding :=
  if l.bytes.length ≠ l.length then [fieldFinding fRange 12]
  else if l.length < 32 then [fieldFinding fUndefined 0]
  else if crcHolds l.bytes = false then [fieldFinding fRange 24]
  else if natAt l.bytes 8 4 = 0 ∨ natAt l.bytes 8 4 ≠ l.version then [fieldFinding fRange 8]
  else if (parseProgram l.bytes).isNone then [fieldFinding fUndefined 0]
  else []

/-- The code fits instruction SRAM beside the running set (R96), and the version its quotas (R358). -/
def placeFits (s : State) (p : Program) : Bool :=
  let running := match s.ctl.running with
    | some q => wordCount q
    | none => 0
  decide (running + wordCount p ≤ 262144) && decide (stateNeed p ≤ quotaOf s 1) && decide (codeNeed p ≤ quotaOf s 2) &&
    decide (viewNeed p ≤ quotaOf s 3)

def failWith (id status : Nat) (fs : List Finding) (s : State) : State :=
  jend id .failed status (jmod id (fun e => { e with step := 1, attachment := if fs.isEmpty then [] else findingsWhole s.drawn fs }) (draw s))

def endLoad (l : Load) (id : Nat) (s : State) : State :=
  let s := onCtl (fun c => { c with load := none }) s
  match loadFindings l, parseProgram l.bytes with
  | [], some p =>
    if placeFits s p = false then failWith id stOverQuota [] s
    else
      let staged : Staged := { prog := p, state := .loaded, onPartner := false }
      jend id .done stOk (jmod id (fun e => { e with step := 1 }) (writeCode (!s.ctl.half) l.bytes.length (onCtl (fun c => { c with staged := some staged }) s)))
  | fs, _ => failWith id stBadArgument fs s

def doLoadEnd (h : ReqHdr) (version : Nat) (s : State) : State :=
  match s.ctl.load with
  | none => conflict h 0x0300 s
  | some l =>
    if exchangeBusy s then conflict h 0x0300 s
    else if l.version ≠ version then badArgument h 0x0300 [fieldFinding fRange 4] s
    else acceptLong h 0x0300 1 (endLoad l) s

def reqLoadEnd (h : ReqHdr) (version : Nat) (s : State) : State :=
  serve (.prgLoadEnd version) h 0x0300 16 true [] (doLoadEnd h version) s

def execPrgLoadEnd (t : Nat) (h : ReqHdr) (version : Nat) (s : State) : Host.Outcome State Fault Refusal :=
  .next (reqLoadEnd h version (atTime t s))

def doLoadAbort (h : ReqHdr) (version : Nat) (s : State) : State :=
  match s.ctl.load with
  | none => conflict h 0x0300 s
  | some l =>
    if exchangeBusy s then conflict h 0x0300 s
    else if l.version ≠ version then badArgument h 0x0300 [fieldFinding fRange 4] s
    else loadBytes h 0 (onCtl (fun c => { c with load := none }) s)

def reqLoadAbort (h : ReqHdr) (version : Nat) (s : State) : State :=
  serve (.prgLoadAbort version) h 0x0300 16 true [] (doLoadAbort h version) s

def execPrgLoadAbort (t : Nat) (h : ReqHdr) (version : Nat) (s : State) : Host.Outcome State Fault Refusal :=
  .next (reqLoadAbort h version (atTime t s))

/-! ### PRG.VERIFY, R97, R101 -/

/-- Quota findings of a version. -/
def versionQuota (s : State) (p : Program) : List Finding :=
  let ovr (c need : Nat) : List Finding := if need ≤ quotaOf s c then [] else [quotaFinding c]
  ovr 1 (stateNeed p) ++ ovr 2 (codeNeed p) ++ ovr 3 (viewNeed p) ++ ovr 4 (bargeNeed s (some p))

/-- The exchange checks that a version must pass; forces are only reported. -/
def exchangeFindings (s : State) (p : Program) : List Finding :=
  (if oldVersion s.ctl.running = p.version then [fieldFinding fRange 0] else []) ++ versionQuota s p ++ writerFindings s.ctl.running p

def forceFindings (s : State) (p : Program) : List Finding := (forceConflicts s p).map fun i => tagFinding fForceConflict i

/-- The partner's verdict of a PAIR_SCOPE verification is a free value: no command of the block carries it. -/
def partnerVerified (h : ReqHdr) (s : State) : Bool × State :=
  if h.pairScope && s.pair.paired then ((freeWord s).getLsbD 0, draw s) else (false, s)

def runVerify (h : ReqHdr) (g : Staged) (id : Nat) (s : State) : State :=
  let fs := verifyFindings s g.prog ++ exchangeFindings s g.prog
  let whole := fs ++ forceFindings s g.prog
  let r := partnerVerified h s
  let st : StageState := if fs.isEmpty then .verified else .loaded
  let s := onCtl (fun c => { c with staged := some { g with state := st, onPartner := fs.isEmpty && (g.onPartner || r.1) } }) r.2
  let s := jmod id (fun e => { e with step := 1, attachment := if whole.isEmpty then [] else findingsWhole s.drawn whole }) (draw s)
  if fs.isEmpty then jend id .done stOk s else jend id .failed stBadArgument s

def doVerify (h : ReqHdr) (version : Nat) (s : State) : State :=
  match s.ctl.staged with
  | none => badArgument h 0x0301 [fieldFinding fRange 0] s
  | some g => if g.prog.version ≠ version then badArgument h 0x0301 [fieldFinding fRange 0] s else acceptLong h 0x0301 1 (runVerify h g) s

def reqVerify (h : ReqHdr) (version : Nat) (s : State) : State := serve (.prgVerify version) h 0x0301 4 true [] (doVerify h version) s

def execPrgVerify (t : Nat) (h : ReqHdr) (version : Nat) (s : State) : Host.Outcome State Fault Refusal :=
  .next (reqVerify h version (atTime t s))

/-! ### PRG.EXCHANGE, R101, R105 to R107, R111, R118 -/

def notVerified : Finding := fieldFinding fNotVerified 0

/-- In a pair whose partner is in `STANDBY` the partner holds the version VERIFIED (R107). It does after a PAIR_SCOPE
verification and after a catch-up that brought it; whether its own commands made it so is a free value. -/
def heldByPartner (h : ReqHdr) (g : Staged) (s : State) : Bool × State :=
  if partnerStandby s = false then (true, s)
  else if h.pairScope = false then (false, s)
  else if g.onPartner then (true, s)
  else ((freeWord s).getLsbD 0, draw s)

/-- The version fits the quotas of the partner, which each module holds for itself: a free value (R361). -/
def partnerFits (s : State) : Bool × State := if partnerStandby s then ((freeWord s).getLsbD 0, draw s) else (true, s)

/-- A refusal at acceptance carries the change report. -/
def refuseExchange (h : ReqHdr) (status reason : Nat) (p : Program) (s : State) : State :=
  respond h 0x0302 status (reportOf s.ctl.running p 0 reason (failureEntries s p h.dropForces) 250) s

/-- The bindings of the version against the settings of the moment (R232, R243, R268, R299). -/
def exchangeBindings (s : State) (p : Program) : List Finding := bindingFindings s p

def acceptExchange (h : ReqHdr) (s : State) : State :=
  acceptLong h 0x0302 3 (fun id s =>
    let x : Exchange := { journal := id, phase := .queued, dropForces := h.dropForces, staging := [], stagedAt := 0, window := cfg s P.exchangeWindow }
    let s := jmod id (fun e => { e with step := 1 }) (onCtl (fun c => { c with exchange := some x }) s)
    queueChange h .exchange id s) s

def doExchange (h : ReqHdr) (version : Nat) (s : State) : State :=
  match s.ctl.staged with
  | none => badArgument h 0x0302 [notVerified] s
  | some g =>
    let p := g.prog
    let fs := exchangeBindings s p
    let r := heldByPartner h g s
    let s := r.2
    if p.version ≠ version ∨ g.state ≠ .verified then badArgument h 0x0302 [notVerified] s
    else if !r.1 then badArgument h 0x0302 [fieldFinding fNotOnPartner 0] s
    else if fs ≠ [] then badArgument h 0x0302 fs s
    else if exchangeBusy s then conflict h 0x0302 s
    else if forceConflicts s p ≠ [] ∧ h.dropForces = false then refuseExchange h stForceConflict reasonForce p s
    else
      let q := partnerFits s
      let s := q.2
      if quotaFits s p = false ∨ q.1 = false then refuseExchange h stOverQuota reasonQuota p s
      else if h.dryRun then
        let es := changeEntries s s.ctl.running p (reportForces s p 8)
        respond h 0x0302 stOk (reportOf s.ctl.running p 0 reasonNone es 250) s
      else acceptExchange h s

def reqExchange (h : ReqHdr) (version : Nat) (s : State) : State :=
  serve (.prgExchange version) h 0x0302 4 true [] (doExchange h version) s

def execPrgExchange (t : Nat) (h : ReqHdr) (version : Nat) (s : State) : Host.Outcome State Fault Refusal :=
  .next (reqExchange h version (atTime t s))

/-! ### PRG.START, R34, R58, R139, R140 -/

def invasiveOpen (s : State) : Bool := levelOf s == .invasive

/-- The partner carries a self-test flag, as its heartbeat says. -/
def partnerFlag (s : State) : Bool :=
  match s.pair.partner with
  | some p => p.bist
  | none => false

def acceptStart (h : ReqHdr) (mask : Nat) (run : Nat → State → State) (s : State) : State :=
  acceptEpoch h 0x0303 2 [] (fun id s => run id (jmod id (fun e => { e with detail2 := mask }) s)) s

/-- The module enters `ACTIVE` at once; a claim that cannot be raised leaves it as it is (R164). -/
def startAlone (h : ReqHdr) (mask : Nat) (s : State) : State :=
  if claimExhausted s then respond h 0x0303 stRoleConflict [] (stage 0x0606 srcModule (le4 s.pair.highestClaim) s)
  else acceptStart h mask (fun id s => startActive id mask s) s

/-- A module that is not paired starts where nothing of a partner was heard in the whole of PAIR_JOIN_WAIT (R140). -/
def startUnpaired (h : ReqHdr) (mask : Nat) (s : State) : State :=
  if s.pair.joinWaitOver then startAlone h mask s else respond h 0x0303 stRoleConflict [] s

/-- In a pair where neither module is in `ACTIVE`: OFFER (R139). -/
def offerRole (h : ReqHdr) (mask : Nat) (s : State) : State :=
  if h.pairScope = false ∨ s.pair.heardOffer = true ∨ partnerActive s = true then respond h 0x0303 stRoleConflict [] s
  else if moduleFlag s && !partnerFlag s then respond h 0x0303 stRoleConflict [] s
  else if s.pair.offer.isSome then conflict h 0x0303 s
  else acceptStart h mask (fun id s => onPair (fun p => { p with offer := some id, offerAt := nowOf s }) s) s

def doStart (h : ReqHdr) (mask : Nat) (s : State) : State :=
  if ownerId s = 0 then respond h 0x0303 stRoleConflict [] s
  else if s.sec.tainted ∨ invasiveOpen s = true then conflict h 0x0303 s
  else
    match s.mod.state with
    | .active =>
      if s.pair.paired && !h.pairScope then respond h 0x0303 stRoleConflict [] s
      else acceptStart h mask (fun id s => queueChange h (.start mask) id s) s
    | .stoppedFault =>
      if partnerActive s ∨ s.mod.faultRead = false then conflict h 0x0303 s
      else if s.pair.paired then offerRole h mask s
      else startUnpaired h mask s
    | _ =>
      if s.pair.paired then offerRole h mask s
      else startUnpaired h mask s

def reqStart (h : ReqHdr) (mask : Nat) (s : State) : State := serve (.prgStart mask) h 0x0303 4 true [] (doStart h mask) s

def execPrgStart (t : Nat) (h : ReqHdr) (mask : Nat) (s : State) : Host.Outcome State Fault Refusal := .next (reqStart h mask (atTime t s))

/-! ### PRG.STOP, R34 -/

def doStop (h : ReqHdr) (mask : Nat) (s : State) : State :=
  acceptEpoch h 0x0304 2 [] (fun id s => queueChange h (.stop mask) id (jmod id (fun e => { e with detail2 := mask }) s)) s

def reqStop (h : ReqHdr) (mask : Nat) (s : State) : State := serve (.prgStop mask) h 0x0304 4 true [] (doStop h mask) s

def execPrgStop (t : Nat) (h : ReqHdr) (mask : Nat) (s : State) : Host.Outcome State Fault Refusal := .next (reqStop h mask (atTime t s))

end Sys2Proof.Machine
end

