-- ==== Sys2Proof/Machine/CmdPair.lean ====
section
/-! DEFINITION. Pair commands: PAIR.STATUS, PAIR.SWITCH, PAIR.PROOF and PAIR.RELEASE (R28, R162, R175 to R178, R337). -/

namespace Sys2Proof.Machine

open Sys2Proof

/-! ### PAIR.STATUS -/

def latestLost (s : State) : Nat × Nat :=
  match s.img.lostRanges.getLast? with
  | some r => r
  | none => (0, 0)

def partnerClaim (s : State) : Nat :=
  match s.pair.partner with
  | some p => p.claim
  | none => 0

def pairPayload (s : State) : List Byte :=
  le4 (pairFlags s) ++ le4 s.pair.claim ++ le4 (partnerClaim s) ++ le4 s.pair.highestClaim ++ le8 s.img.mirrored ++
    le8 s.net.lastComplete ++ le8 (latestLost s).1 ++ le8 (latestLost s).2 ++ le4 (sat32 s.tow.switches) ++
    le4 (sat32 s.tow.mismatches) ++ le4 (sat32 s.tow.compareMissing) ++ le4 (sat32 s.tow.nodeClaimLag) ++
    le4 (sat32 (s.ctl.tasks.toList.foldl (fun n x => n + x.divergences) 0)) ++ le4 s.time.partnerTimeFlags.toNat ++
    le4 s.tow.proofHours ++ le4 0

def doPairStatus (h : ReqHdr) (s : State) : State := respond h 0x0600 stOk (pairPayload s) s

def reqPairStatus (h : ReqHdr) (s : State) : State := serve .pairStatus h 0x0600 0 true [] (doPairStatus h) s

def execPairStatus (t : Nat) (h : ReqHdr) (s : State) : Host.Outcome State Fault Refusal := .next (reqPairStatus h (atTime t s))

/-! ### PAIR.SWITCH, R162 -/

/-- A planned switch, a proof or a hand-over is in progress. -/
def switching (s : State) : Bool := s.tow.switch.isSome || s.tow.proof.isSome || handingOver s

def beginSwitch (id : Nat) (isProof isRelease : Bool) (s : State) : State :=
  let w : Switch := { journal := id, phase := .waitPoint, requestedAt := nowOf s, isProof := isProof, isRelease := isRelease }
  jmod id (fun e => { e with state := .running, step := 1 }) (onTow (fun x => { x with switch := some w }) s)

def doPairSwitch (h : ReqHdr) (s : State) : State :=
  if partnerStandby s = false ∨ partnerSuspect s = true then respond h 0x0601 stRoleConflict [] s
  else if switching s then conflict h 0x0601 s
  else acceptLong h 0x0601 3 (fun id s => beginSwitch id false false s) s

def reqPairSwitch (h : ReqHdr) (s : State) : State := serve .pairSwitch h 0x0601 0 true [] (doPairSwitch h) s

def execPairSwitch (t : Nat) (h : ReqHdr) (s : State) : Host.Outcome State Fault Refusal := .next (reqPairSwitch h (atTime t s))

/-! ### PAIR.PROOF, R176 -/

/-- An update is in progress: the lease is held, an image is being rebuilt or the pair procedure runs. -/
def updateBusy (s : State) : Bool := s.upd.lease.isSome || s.upd.applying.isSome || s.upd.pairUpdate.isSome

def doPairProof (h : ReqHdr) (s : State) : State :=
  if partnerStandby s = false ∨ partnerNap s = true ∨ exchangeBusy s = true ∨ updateBusy s = true ∨ switching s = true then
    conflict h 0x0602 s
  else
    acceptLong h 0x0602 5 (fun id s =>
      let p : Proof := { journal := id, step := 1, origin := true, since := nowOf s, dwell := cfg s P.proofDwell }
      beginSwitch id true false (onTow (fun x => { x with proof := some p }) s)) s

def reqPairProof (h : ReqHdr) (s : State) : State := serve .pairProof h 0x0602 0 true [] (doPairProof h) s

def execPairProof (t : Nat) (h : ReqHdr) (s : State) : Host.Outcome State Fault Refusal := .next (reqPairProof h (atTime t s))

/-! ### PAIR.RELEASE, R175 -/

/-- An active without a standby: its tasks stop and `SAFE` goes out three times under its claim. -/
def releaseAlone (id : Nat) (s : State) : State :=
  let w : Switch := { journal := id, phase := .handing, requestedAt := nowOf s, isProof := false, isRelease := true }
  let s := jmod id (fun e => { e with state := .running, step := 1 }) s
  onTow (fun x => { x with switch := some w }) (safeStages (sendSafe (stopTasks (haltExecs s))))

def releaseStandby (id : Nat) (s : State) : State :=
  let s := stopTasks (haltExecs s)
  let s := onTow (fun x => { x with catchup := none, records := [], shadowBarges := [], activeBarges := [], handoverSeen := none }) s
  let s := enterState .maintenance .release (yieldStages [] s)
  jend id .done stOk (jmod id (fun e => { e with step := 1 }) s)

def doPairRelease (h : ReqHdr) (s : State) : State :=
  if switching s then conflict h 0x0603 s
  else if s.mod.state = .standby then acceptLong h 0x0603 1 releaseStandby s
  else if partnerStandby s then acceptLong h 0x0603 3 (fun id s => beginSwitch id false true s) s
  else acceptLong h 0x0603 1 releaseAlone s

def reqPairRelease (h : ReqHdr) (s : State) : State := serve .pairRelease h 0x0603 0 true [] (doPairRelease h) s

def execPairRelease (t : Nat) (h : ReqHdr) (s : State) : Host.Outcome State Fault Refusal := .next (reqPairRelease h (atTime t s))

end Sys2Proof.Machine
end

