-- ==== Sys2Proof/Machine/CmdTime.lean ====
section
/-! DEFINITION. Time and trigger commands: TIME.STATUS, TRG.ARM and TRG.CANCEL (R222, R229, R231 to R236, R337). -/

namespace Sys2Proof.Machine

open Sys2Proof

/-! ### TIME.STATUS -/

/-- Seconds in LOCKED or GRANDMASTER without interruption. -/
def lockedSeconds (s : State) : Nat :=
  match s.time.lockedSince with
  | some x => (nowOf s - x) / 1000000000
  | none => 0

def captureBytes (c : Capture) : List Byte := le8 c.takenAt ++ le4 c.count.toNat ++ le4 (flag 0 c.rising)

def trigModeCode : TrigMode → Nat
  | .once => 1
  | .periodic => 2
  | .compat => 3

def trigActionCode : TrigAction → Nat
  | .foPulse => 1
  | .foSet => 2
  | .foClear => 3
  | .foToggle => 4
  | .dioSet => 5
  | .dioClear => 6
  | .aioStep => 7
  | .bargeSend => 8

def triggerBytes (g : Trigger) : List Byte :=
  (match g.setup with
   | some x => [byteOf (trigModeCode x.mode), byteOf (trigActionCode x.action), byteOf x.channel]
   | none => [0, 0, 0]) ++ [byteOf (flag 1 g.late + flag 0 g.armed)] ++ le4 g.firings ++ le4 g.suppressed ++ le4 g.delayed

def timePayload (s : State) : List Byte :=
  let u := s.time
  le4 (timeFlags s) ++ le4 (lockedSeconds s) ++ le8 (ofSigned 64 u.offset) ++ le8 (ofSigned 64 u.pathDelay) ++
    le4 (ofSigned 32 u.freqPpb) ++ le2 (min 0xFFFF u.tsExpired) ++ le2 0 ++ le8 (nowOf s) ++ le8 u.gmIdentity.toNat ++
    (s.sw.ports.toList.flatMap fun p => le2 (min 0xFFFF p.txtsOverflows)) ++ le2 0 ++ u.captures.toList.flatMap captureBytes ++
    u.triggers.toList.flatMap triggerBytes

/-- TXTS_OVF of P1, P2 and P3 are bits 23, 22 and 21. -/
def clearTxts (mask : W32) (s : State) : State :=
  let one (p : Fin 3) (s : State) : State := if mask.getLsbD (23 - p.val) then onPort p (fun x => { x with txtsOvf := false }) s else s
  one 2 (one 1 (one 0 s))

def doTimeStatus (h : ReqHdr) (mask : W32) (s : State) : State := clearTxts mask (respond h 0x0700 stOk (timePayload s) s)

def reqTimeStatus (h : ReqHdr) (mask : W32) (s : State) : State :=
  serve (.timeStatus mask) h 0x0700 4 true [] (doTimeStatus h mask) s

def execTimeStatus (t : Nat) (h : ReqHdr) (mask : W32) (s : State) : Host.Outcome State Fault Refusal :=
  .next (reqTimeStatus h mask (atTime t s))

/-! ### TRG.ARM -/

def trigModeOf : Nat → Option TrigMode
  | 1 => some .once
  | 2 => some .periodic
  | 3 => some .compat
  | _ => none

def trigActionOf : Nat → Option TrigAction
  | 1 => some .foPulse
  | 2 => some .foSet
  | 3 => some .foClear
  | 4 => some .foToggle
  | 5 => some .dioSet
  | 6 => some .dioClear
  | 7 => some .aioStep
  | 8 => some .bargeSend
  | _ => none

/-- Channels of an action. -/
def trigChannels : TrigAction → Nat
  | .foPulse | .foSet | .foClear | .foToggle => 4
  | .dioSet | .dioClear | .bargeSend => 16
  | .aioStep => 8

/-- The argument is in the action's range. -/
def trigArgumentOk (a : TrigAction) (x : W64) : Bool :=
  match a with
  | .foPulse => decide (10 ≤ x.toNat) && decide (x.toNat ≤ 1000000000)
  | .aioStep =>
    let v := convert .real32 .real64 x
    !isNanReal v && !lessReal v (microAmp 0) && !lessReal (microAmp 24000) v
  | .bargeSend => decide (x.toNat ≤ 1000000000)
  | _ => true

/-- Shortest period of an action in ns; at least 20 ns in the periodic mode. -/
def shortestPeriod (s : State) (a : TrigAction) (channel : Nat) (x : W64) : Nat :=
  max 20 (match a with
    | .foPulse => x.toNat + 10
    | .dioSet | .dioClear => 100000
    | .aioStep => 1000000
    | .bargeSend => periodOf s (chanOf (by decide) channel)
    | _ => 20)

/-- The channel is in the mode that the action needs. -/
def trigChannelReady (s : State) (a : TrigAction) (channel : Nat) : Bool :=
  match a with
  | .dioSet | .dioClear => dioIsOut s (chanOf (by decide) channel)
  | .aioStep => aioIsOut s (chanOf (by decide) channel)
  | _ => true

/-- The channel is bound to a tag that a task publishes. -/
def trigBound (s : State) (x : TrigSetup) : Bool :=
  match trigChannel x with
  | some c => (outputTag s c).isSome
  | none => false

def channelFinding (code channel : Nat) : Finding := { code := code, item := itemChannel, subject := channel, task := noTask, detail := none }

/-- Findings on the set-up of a unit (R232). -/
def trigFlaws (s : State) (x : TrigSetup) : List Finding :=
  needs (decide (x.channel < trigChannels x.action)) fRange 3 ++
    needs (trigArgumentOk x.action x.argument) fRange 24 ++
    needs (x.mode != .periodic ||
      (decide (shortestPeriod s x.action x.channel x.argument ≤ x.period) && decide (x.period ≤ 10000000000))) fRange 16 ++
    (if trigChannelReady s x.action x.channel then [] else [channelFinding fChannelBinding ((trigChannel x).getD x.channel)]) ++
    (if trigBound s x then [channelFinding fTriggerChannel ((trigChannel x).getD x.channel)] else [])

/-- The instant of a unit's first firing after its arming at `t`, and whether the firing is LATE (R231). -/
def firstFiring (s : State) (x : TrigSetup) (t : Nat) : Nat :=
  match x.mode with
  | .once => max x.target t
  | .periodic => if t < x.target then x.target else x.target + ((t - x.target) / max 1 x.period + 1) * x.period
  | .compat => max (fullTime s x.compatTarget) t

/-- Arms a unit; a target that has come fires at once. The counts of the unit start anew. -/
def armUnit (u : Fin 32) (x : TrigSetup) (s : State) : State :=
  let t := nowOf s
  let now := x.mode != .periodic && firingDue s x t
  let g : Trigger :=
    { setup := some x, armed := !now, late := now && x.mode == .once, firings := if now then 1 else 0, suppressed := 0, delayed := 0,
      firedAt := if now then some t else none }
  let s := onTrigger u (fun _ => g) s
  if now then fireAction t u x s else s

def doArm (h : ReqHdr) (u : Nat) (x : TrigSetup) (s : State) : State :=
  let fs := trigFlaws s x
  let n : Fin 32 := chanOf (by decide) u
  if fs ≠ [] then badArgument h 0x0701 fs s
  else if s.time.triggers[n].armed then conflict h 0x0701 s
  else
    let first := firstFiring s x (nowOf s)
    respond h 0x0701 stOk (le8 first) (armUnit n x s)

/-- Undefined unit, mode or action. -/
def armFlaws (u mode action : Nat) : List Finding :=
  needs (decide (u < 32)) fRange 0 ++ needs (trigModeOf mode).isSome fUndefined 1 ++ needs (trigActionOf action).isSome fUndefined 2

def reqArm (h : ReqHdr) (u mode action channel : Nat) (compat : W32) (target period : Nat) (argument : W64) (s : State) : State :=
  let body (s : State) : State :=
    match trigModeOf mode, trigActionOf action with
    | some m, some a =>
      let x : TrigSetup := { mode := m, action := a, channel := channel, compatTarget := compat, target := target,
                             period := period, argument := argument, armedAt := nowOf s }
      doArm h u x s
    | _, _ => s
  serve (.trgArm u mode action channel compat target period argument) h 0x0701 32 true (armFlaws u mode action) body s

def execTrgArm (t : Nat) (h : ReqHdr) (u mode action channel : Nat) (compat : W32) (target period : Nat) (argument : W64) (s : State) :
    Host.Outcome State Fault Refusal :=
  .next (reqArm h u mode action channel compat target period argument (atTime t s))

/-! ### TRG.CANCEL, R235 -/

/-- Barges of a task that a cancelled unit held leave without it (R234). -/
def freeHeld (x : TrigSetup) (s : State) : State :=
  let free (q : QueuedFrame) : QueuedFrame := match q.heldFor with
    | some (k, _) => if k.val = x.channel then { q with heldFor := none } else q
    | none => q
  if x.action = .bargeSend then onSw (fun w => { w with ports := w.ports.map fun p => { p with queue := p.queue.map free } }) s else s

def doCancel (h : ReqHdr) (u : Nat) (s : State) : State :=
  let n : Fin 32 := chanOf (by decide) u
  let g := s.time.triggers[n]
  let payload := le4 g.firings ++ le4 g.suppressed ++ le4 g.delayed ++ le4 (flag 0 g.late)
  let s := match g.setup with
    | some x => freeHeld x s
    | none => s
  respond h 0x0702 stOk payload (onTrigger n (fun x => { x with setup := none, armed := false }) s)

def reqCancel (h : ReqHdr) (u : Nat) (s : State) : State :=
  serve (.trgCancel u) h 0x0702 4 true (needs (decide (u < 32)) fRange 0) (doCancel h u) s

def execTrgCancel (t : Nat) (h : ReqHdr) (u : Nat) (s : State) : Host.Outcome State Fault Refusal :=
  .next (reqCancel h u (atTime t s))

end Sys2Proof.Machine
end

