-- ==== Sys2Proof/Machine/CmdIo.lean ====
section
/-! DEFINITION. Channel commands: IO.STATUS, IO.TRIM and IO.RESET_FAULT, with the status words of the channels (R249, R252,
R264, R282 to R284, R288, R338, R426). -/

namespace Sys2Proof.Machine

open Sys2Proof

/-! ### Status words -/

/-- DIO_STATUS, R252: the input level and the live diagnostics are those of the latest uplink frame (R246). -/
def dioStatus (s : State) (c : Fin 16) : Nat :=
  let d := s.field.dio[c]
  let isOut := dioIsOut s c
  let level := if isOut then d.padHigh else reported s c s.field.received.debounced[c]
  let live : DioLive := if isOut then s.field.received.diags[c] else DioLive.none
  dioModeOf s c * 2 ^ 29 + flag 28 level + flag 27 d.commanded + flag 26 d.driving + flag 25 d.safeApplied + flag 24 d.yielded +
    flag 23 d.latchedOff + min 3 d.retries * 2 ^ 21 + flag 20 (triggerHolds s (dioCode c)) + flag 15 live.externalDrive +
    flag 14 live.openOrBackfed + flag 13 live.overcurrent + flag 12 live.thermal + flag 11 live.partnerDrive +
    flag 7 (isOut && d.externalSeen) + flag 6 (isOut && d.openSeen) + flag 5 (isOut && d.overcurrentSeen) +
    flag 4 (isOut && d.thermalSeen) + flag 3 d.lateField

/-- AIO_STATUS, R288. -/
def aioStatus (s : State) (c : Fin 8) : Nat :=
  let a := s.field.aio[c]
  aioModeOf s c * 2 ^ 29 + flag 28 (aioIsOut s c && !aioOpen a) + flag 27 a.safeApplied + flag 26 a.yielded + flag 25 (failHigh s c) +
    flag 24 (ne43 s c) + flag 23 (usesUserTrim s c) + flag 22 (trimSeq s c).isSome + flag 21 a.handoverAt.isSome +
    flag 20 (triggerHolds s (aioCode c)) + flag 15 a.mismatch + flag 14 a.compliance + flag 13 a.alarmNotReached + flag 12 a.thermal +
    flag 11 a.overrange + flag 7 a.mismatchSeen + flag 6 a.complianceSeen + flag 5 a.thermalSeen + flag 4 a.overrangeSeen +
    flag 3 a.lateField

/-- FAST_STATUS, R264. -/
def fastStatus (s : State) (n : Fin 4) : Nat :=
  let i := s.field.fi[n]
  let o := s.field.fo[n]
  flag 31 i.level + flag 30 i.failsafe + flag 29 (cfgFlag s (P.fiTermination n.val)) + flag 28 (foLevel s n) + flag 27 o.short +
    flag 26 o.safeApplied + flag 25 (triggerHolds s (foCode n)) + flag 1 i.failsafeSeen + flag 0 o.shortSeen

/-! ### IO.STATUS -/

def realBytes (w : W64) : List Byte := le4 (convert .real64 .real32 w).toNat

def dioGroup (s : State) : List Byte :=
  (allDio.flatMap fun c => le4 (dioStatus s c)) ++
    [byteOf (monitorCode s.field.monitor),
     byteOf (flag 2 s.path.feeds[3].inRange + flag 1 s.path.feeds[2].inRange + flag 0 s.field.fieldLost)] ++ le2 0

def aioGroup (s : State) : List Byte :=
  allAio.flatMap fun c =>
    let a := s.field.aio[c]
    le4 (aioStatus s c) ++ realBytes (a.driven.getD 0) ++ realBytes a.reading ++ microReal a.supplyMicroV ++ microReal a.padMicroV ++
      le4 a.badValues

def fastGroup (s : State) : List Byte := all4.flatMap fun n => le4 (fastStatus s n)

/-- Age of a node's latest input in µs; a node that has sent none reads as the largest age. -/
def inputAge (s : State) (n : Node) : Nat := if n.lastArrival.isSome then ageAt (nowOf s) n.lastSample else 0xFFFFFFFF

def nodeRecord (s : State) (id : Nat) (n : Node) : List Byte :=
  le2 id ++ le2 (flag 2 n.unsynced + flag 1 n.restarted + flag 0 n.holdShort) ++ le4 n.obeyedClaim ++ le4 (n.session.getD 0) ++
    le4 (overwrittenCount s id n) ++ le4 n.counts.badCrc ++ le4 n.counts.badFormat ++ le4 n.counts.authFail ++ le4 n.counts.replay ++
    le4 n.counts.staleSession ++ le4 n.counts.rateLimited ++ le4 n.accepted ++ le4 n.sent ++ le8 n.ackedEpoch ++
    le4 (inputAge s n) ++ le4 0

/-- Enabled nodes from a node-table entry on, in table order. -/
def nodesFrom (s : State) (first : Nat) : List (Nat × Node) :=
  let placed : List (Nat × Nat × Node) := s.net.nodes.filterMap fun p => (nodeEntry s p.1).map fun i => (i, p.1, p.2)
  (sortBy (fun (p : Nat × Nat × Node) => p.1) (placed.filter fun p => decide (first ≤ p.1))).map fun p => p.2

def nodeGroup (s : State) (first : Nat) : List Byte :=
  let shown := (nodesFrom s first).take 63
  le4 shown.length ++ le4 0 ++ shown.flatMap fun p => nodeRecord s p.1 p.2

def portMbit (s : State) (p : Fin 3) : Nat :=
  match cfg s (P.portSpeed (p.val + 1)) with
  | 1 => 1000
  | 2 => 2500
  | _ => 10000

/-- Barges discarded on a port under checks 1 to 5 of R189. -/
def portDiscards (s : State) (p : Fin 3) : Nat :=
  let c := s.net.counts[p]
  c.badLength + c.badVersion + c.badCrc + c.badFormat + c.notMine + c.unknownNode

def portRecord (s : State) (p : Fin 3) : List Byte :=
  let x := s.sw.ports[p]
  [byteOf (p.val + 1), byteOf (flag 1 s.sw.ringClosed + flag 0 x.linkUp)] ++ le2 (portMbit s p) ++ le4 x.framesIn ++ le4 x.framesOut ++
    le4 x.fcsErrors ++ le4 x.oversize ++ le4 x.gateTooShort ++ le4 x.fwdBadFcs ++ le4 (sat32 (portDiscards s p))

def ioPayload (s : State) (group first : Nat) : List Byte :=
  match group with
  | 0 => dioGroup s
  | 1 => aioGroup s
  | 2 => fastGroup s
  | 3 => nodeGroup s first
  | _ => (List.finRange 3).flatMap (portRecord s)

def doIoStatus (h : ReqHdr) (group first : Nat) (s : State) : State := respond h 0x0800 stOk (ioPayload s group first) s

def reqIoStatus (h : ReqHdr) (group first : Nat) (s : State) : State :=
  serve (.ioStatus group first) h 0x0800 4 true (needs (decide (group ≤ 4)) fUndefined 0) (doIoStatus h group first) s

def execIoStatus (t : Nat) (h : ReqHdr) (group first : Nat) (s : State) : Host.Outcome State Fault Refusal :=
  .next (reqIoStatus h group first (atTime t s))

/-! ### IO.RESET_FAULT -/

def setIf (clear old : Bool) : Bool := old && !clear

def resetDio (mask : W32) (c : Fin 16) (s : State) : State :=
  settleDio c (onDio c (fun d =>
    { d with latchedOff := false, retries := 0, trips := 0, trippedAt := if d.latchedOff then none else d.trippedAt,
             externalSeen := setIf (mask.getLsbD 7) d.externalSeen, openSeen := setIf (mask.getLsbD 6) d.openSeen,
             overcurrentSeen := setIf (mask.getLsbD 5) d.overcurrentSeen, thermalSeen := setIf (mask.getLsbD 4) d.thermalSeen,
             lateField := setIf (mask.getLsbD 3) d.lateField }) s)

def resetAio (mask : W32) (c : Fin 8) (s : State) : State :=
  onAio c (fun a =>
    { a with mismatchSeen := setIf (mask.getLsbD 7) a.mismatchSeen, complianceSeen := setIf (mask.getLsbD 6) a.complianceSeen,
             thermalSeen := setIf (mask.getLsbD 5) a.thermalSeen, overrangeSeen := setIf (mask.getLsbD 4) a.overrangeSeen,
             lateField := setIf (mask.getLsbD 3) a.lateField }) s

def resetFast (mask : W32) (n : Fin 4) (s : State) : State :=
  onFo n (fun o => { o with shortSeen := setIf (mask.getLsbD 0) o.shortSeen })
    (onFi n (fun i => { i with failsafeSeen := setIf (mask.getLsbD 1) i.failsafeSeen }) s)

def resetGroup (group : Nat) (channels : W16) (mask : W32) (s : State) : State :=
  match group with
  | 0 => eachDio (fun c s => if channels.getLsbD c.val then resetDio mask c s else s) s
  | 1 => eachAio (fun c s => if channels.getLsbD c.val then resetAio mask c s else s) s
  | _ => each4 (fun n s => if channels.getLsbD n.val then resetFast mask n s else s) s

/-- Channels of a group. -/
def groupSize (group : Nat) : Nat :=
  match group with
  | 0 => 16
  | 1 => 8
  | _ => 4

def doResetFault (h : ReqHdr) (group : Nat) (channels : W16) (mask : W32) (s : State) : State :=
  respond h 0x0802 stOk [] (resetGroup group channels mask s)

def reqResetFault (h : ReqHdr) (group : Nat) (channels : W16) (mask : W32) (s : State) : State :=
  serve (.ioResetFault group channels mask) h 0x0802 8 true
    (needs (decide (group ≤ 2)) fUndefined 0 ++ needs (decide (channels.toNat < 2 ^ groupSize group)) fRange 2)
    (doResetFault h group channels mask) s

def execIoResetFault (t : Nat) (h : ReqHdr) (group : Nat) (channels : W16) (mask : W32) (s : State) : Host.Outcome State Fault Refusal :=
  .next (reqResetFault h group channels mask (atTime t s))

/-! ### IO.TRIM, R282 to R284 -/

/-- Nominal points of a mode in nA or µV. -/
def nominalPoints (mode : Nat) : Int × Int := if mode = 5 then (2000000, 10000000) else (4000000, 20000000)

def trimTolerance (mode : Nat) : Int := if mode = 5 then 100000 else 200000

/-- A tag of the running or staged program is bound to the channel. -/
def aioBound (s : State) (c : Fin 8) : Bool :=
  let bound (p : Program) : Bool := p.tags.any fun q => (q.2.origin == .channel || isChannelOutput q.2) && q.2.point == aioCode c
  (match s.ctl.running with
   | some p => bound p
   | none => false) ||
  (match s.ctl.staged with
   | some g => bound g.prog
   | none => false)

/-- The channel may be trimmed now. -/
def trimAllowed (s : State) (c : Fin 8) : Bool :=
  aioModeOf s c != 0 && !aioBound s c && !triggerHolds s (aioCode c) && (trimSeq s c).isNone && monitorDrives s && !s.field.fieldLost &&
    !(aioModeOf s c == 3 && s.pair.paired && (partnerState s == 5 || partnerState s == 6))

/-- A trim drive acts whether or not the module holds a claim. -/
def trimDrive (c : Fin 8) (point : Int) (s : State) : State :=
  if aioIsOut s c then onAio c (fun a => { a with safeApplied := false }) (driveAio c (some (fromMillionths point)) s) else s

/-- The raw reading and the step reached. -/
def trimPayload (s : State) (c : Fin 8) (step : Nat) : List Byte := microReal s.field.aio[c].raw ++ le4 step

def trimAnswer (h : ReqHdr) (c : Fin 8) (journal step : Nat) (s : State) : State :=
  answer h (mkResponse s h 0x0801 stOk journal (lastMirrored s) (trimPayload s c step)) s

def putTrim (x : TrimSeq) (s : State) : State :=
  onField (fun f => { f with trim := f.trim.map fun y => if y.journal = x.journal then x else y }) s

def doTrimStart (h : ReqHdr) (c : Fin 8) (s : State) : State :=
  if trimAllowed s c = false then conflict h 0x0801 s
  else if journalFull s then respond h 0x0801 stOverQuota [] s
  else
    let s := makeEntry h 0x0801 4 s
    let id := s.keeper.lastJournal
    let x : TrimSeq := { channel := c, journal := id, step := 1, stepAt := nowOf s, ref1 := 0, raw1 := 0, ref2 := 0, raw2 := 0 }
    let s := answer h (mkResponse s h 0x0801 stAccepted id (lastMirrored s) (trimPayload s c 1)) s
    let s := onField (fun f => { f with trim := f.trim ++ [x] }) s
    trimDrive c (nominalPoints (aioModeOf s c)).1 (jmod id (fun e => { e with state := .running, step := 1 }) s)

def channelFlaws (channel : Nat) : List Finding := needs (decide (channel < 8)) fRange 0

def reqTrimStart (h : ReqHdr) (channel : Nat) (s : State) : State :=
  serve (.ioTrimStart channel) h 0x0801 12 true (channelFlaws channel) (doTrimStart h (chanOf (by decide) channel)) s

def execIoTrimStart (t : Nat) (h : ReqHdr) (channel : Nat) (s : State) : Host.Outcome State Fault Refusal :=
  .next (reqTrimStart h channel (atTime t s))

/-- Runs one operation of the sequence in progress, where it is at the step that the operation follows. -/
def withTrim (h : ReqHdr) (c : Fin 8) (journal : Nat) (after : Nat → Bool) (body : TrimSeq → State → State) (s : State) : State :=
  match trimSeq s c with
  | none => conflict h 0x0801 s
  | some x =>
    if x.journal ≠ journal then badArgument h 0x0801 [fieldFinding fRange 8] s
    else if after x.step then body x s else conflict h 0x0801 s

def doPoint1 (h : ReqHdr) (c : Fin 8) (reading : W32) (x : TrimSeq) (s : State) : State :=
  let x := { x with step := 2, stepAt := nowOf s, ref1 := millionths (convert .real32 .real64 (reading.setWidth 64)), raw1 := s.field.aio[c].raw }
  let s := jmod x.journal (fun e => { e with step := 2 }) (putTrim x s)
  trimDrive c (nominalPoints (aioModeOf s c)).2 (trimAnswer h c x.journal 2 s)

def reqTrimPoint1 (h : ReqHdr) (channel : Nat) (reading : W32) (journal : Nat) (s : State) : State :=
  let c : Fin 8 := chanOf (by decide) channel
  serve (.ioTrimPoint1 channel reading journal) h 0x0801 12 true (channelFlaws channel)
    (withTrim h c journal (fun k => k == 1) (doPoint1 h c reading)) s

def execIoTrimPoint1 (t : Nat) (h : ReqHdr) (channel : Nat) (reading : W32) (journal : Nat) (s : State) : Host.Outcome State Fault Refusal :=
  .next (reqTrimPoint1 h channel reading journal (atTime t s))

def doPoint2 (h : ReqHdr) (c : Fin 8) (reading : W32) (x : TrimSeq) (s : State) : State :=
  let x := { x with step := 3, stepAt := nowOf s, ref2 := millionths (convert .real32 .real64 (reading.setWidth 64)), raw2 := s.field.aio[c].raw }
  trimAnswer h c x.journal 3 (jmod x.journal (fun e => { e with step := 3 }) (putTrim x s))

def reqTrimPoint2 (h : ReqHdr) (channel : Nat) (reading : W32) (journal : Nat) (s : State) : State :=
  let c : Fin 8 := chanOf (by decide) channel
  serve (.ioTrimPoint2 channel reading journal) h 0x0801 12 true (channelFlaws channel)
    (withTrim h c journal (fun k => k == 2) (doPoint2 h c reading)) s

def execIoTrimPoint2 (t : Nat) (h : ReqHdr) (channel : Nat) (reading : W32) (journal : Nat) (s : State) : Host.Outcome State Fault Refusal :=
  .next (reqTrimPoint2 h channel reading journal (atTime t s))

/-- Both reference readings lie within the tolerance of their nominal points. -/
def pointsGood (mode : Nat) (x : TrimSeq) : Bool :=
  decide ((x.ref1 - (nominalPoints mode).1).natAbs ≤ (trimTolerance mode).natAbs) &&
    decide ((x.ref2 - (nominalPoints mode).2).natAbs ≤ (trimTolerance mode).natAbs)

/-- Differences of the two points from a set, in µA or mV. -/
def driftFrom (old : TrimSet) (x : TrimSeq) : Int × Int :=
  ((x.ref1 - trimmed old x.raw1).tdiv 1000, (x.ref2 - trimmed old x.raw2).tdiv 1000)

/-- The ledger's account of a commit, and AO_TRIM_DRIFT where the limit is passed (R284, R426). -/
def noteTrim (c : Fin 8) (x : TrimSeq) (s : State) : State :=
  let a := s.field.aio[c]
  let f := driftFrom a.factory x
  let u := driftFrom (a.user.getD a.factory) x
  let limit := cfg s P.wearAoDrift
  let ovr := decide (limit < f.1.natAbs) || decide (limit < f.2.natAbs)
  let s := onWear (fun w => { w with aout := vmod w.aout c fun y =>
    { y with commits := y.commits + 1, fromFactory1 := f.1, fromFactory2 := f.2, fromUser1 := u.1, fromUser2 := u.2,
             hours := s.path.hours, drift := y.drift || ovr } }) s
  if ovr then stage 0x0A04 (srcAio c) (le4 (ofSigned 32 f.1) ++ le4 (ofSigned 32 f.2)) s else s

def doTrimCommit (h : ReqHdr) (c : Fin 8) (x : TrimSeq) (s : State) : State :=
  if pointsGood (aioModeOf s c) x = false then badArgument h 0x0801 [fieldFinding fRange 4] s
  else
    let s := noteTrim c x s
    let set : TrimSet := { ref1 := x.ref1, raw1 := x.raw1, ref2 := x.ref2, raw2 := x.raw2 }
    let s := onAio c (fun a => { a with user := some set }) s
    let s := onField (fun f => { f with trim := f.trim.filter fun y => y.journal != x.journal }) s
    let s := trimAnswer h c x.journal 4 s
    safeAio c (jend x.journal .done stOk (jmod x.journal (fun e => { e with step := 4 }) s))

def reqTrimCommit (h : ReqHdr) (channel journal : Nat) (s : State) : State :=
  let c : Fin 8 := chanOf (by decide) channel
  serve (.ioTrimCommit channel journal) h 0x0801 12 true (channelFlaws channel) (withTrim h c journal (fun k => k == 3) (doTrimCommit h c)) s

def execIoTrimCommit (t : Nat) (h : ReqHdr) (channel : Nat) (journal : Nat) (s : State) : Host.Outcome State Fault Refusal :=
  .next (reqTrimCommit h channel journal (atTime t s))

def doTrimAbort (h : ReqHdr) (c : Fin 8) (x : TrimSeq) (s : State) : State := endTrim x (trimAnswer h c x.journal x.step s)

def reqTrimAbort (h : ReqHdr) (channel journal : Nat) (s : State) : State :=
  let c : Fin 8 := chanOf (by decide) channel
  serve (.ioTrimAbort channel journal) h 0x0801 12 true (channelFlaws channel) (withTrim h c journal (fun _ => true) (doTrimAbort h c)) s

def execIoTrimAbort (t : Nat) (h : ReqHdr) (channel : Nat) (journal : Nat) (s : State) : Host.Outcome State Fault Refusal :=
  .next (reqTrimAbort h channel journal (atTime t s))

end Sys2Proof.Machine
end

