-- ==== Sys2Proof/Machine/CmdCan.lean ====
section
/-! DEFINITION. CAN commands: CAN.STATUS, CAN.SEND, CAN.RECV and CAN.CONFIG (R293 to R296, R300 to R303, R338). -/

namespace Sys2Proof.Machine

open Sys2Proof

def canOf (channel : Nat) : Fin 2 := chanOf (by decide) channel

def canFlaws (channel : Nat) : List Finding := needs (decide (channel < 2)) fRange 0

/-! ### CAN.STATUS -/

def canPayload (s : State) (ch : Fin 2) : List Byte :=
  let c := s.can[ch]
  le4 (canStatusWord s ch) ++ [byteOf (min 255 c.tec), byteOf (min 255 c.recCnt), byteOf c.rxq[0].records.length,
    byteOf c.rxq[1].records.length, byteOf c.hostQueue.length, 0, 0, 0] ++ le4 c.clashCount ++ le4 c.rxq[0].overflows ++
    le4 c.rxq[1].overflows ++ le4 c.txOverwritten ++ le4 c.suppressed ++ le4 c.received ++ le4 c.sentCount ++ le4 c.busOffEntries

def clearCan (mask : W32) (ch : Fin 2) (s : State) : State :=
  onCan ch (fun c =>
    { c with clashSeen := setIf (mask.getLsbD 7) c.clashSeen, lonelySeen := setIf (mask.getLsbD 6) c.lonelySeen,
             busOffSeen := setIf (mask.getLsbD 5) c.busOffSeen, passiveSeen := setIf (mask.getLsbD 4) c.passiveSeen,
             rxOverflowSeen := setIf (mask.getLsbD 3) c.rxOverflowSeen, wakeSeen := setIf (mask.getLsbD 2) c.wakeSeen }) s

def doCanStatus (h : ReqHdr) (channel : Nat) (mask : W32) (s : State) : State :=
  clearCan mask (canOf channel) (respond h 0x0900 stOk (canPayload s (canOf channel)) s)

def reqCanStatus (h : ReqHdr) (channel : Nat) (mask : W32) (s : State) : State :=
  serve (.canStatus channel mask) h 0x0900 8 true (canFlaws channel) (doCanStatus h channel mask) s

def execCanStatus (t : Nat) (h : ReqHdr) (channel : Nat) (mask : W32) (s : State) : Host.Outcome State Fault Refusal :=
  .next (reqCanStatus h channel mask (atTime t s))

/-! ### CAN.SEND, R301, R302 -/

def frameLength (f : CanFrame) : Nat := canLength f.word.toNat f.dlc

/-- An identifier word, DLC and flags that the bus knows; FD only on a channel of FD format. -/
def frameOk (s : State) (ch : Fin 2) (f : CanFrame) : Bool :=
  identifierOk f.word.toNat && decide (f.dlc ≤ 15) && !(f.word.getLsbD 30 && f.word.getLsbD 29) && (!f.brs || f.word.getLsbD 29) &&
    (!f.word.getLsbD 29 || cfg s (P.canFormat ch.val) == 1)

def sendLength (frames : List (CanFrame × Bool)) : Nat :=
  4 + (frames.map fun f => 8 + (f.1.data.length + 7) / 8 * 8).foldl (· + ·) 0

/-- Offsets of the frames that are not legal. -/
def frameFlaws (s : State) (ch : Fin 2) (frames : List (CanFrame × Bool)) : List Finding :=
  (frames.zipIdx.filter fun p => !frameOk s ch p.1.1).map fun p => fieldFinding fUndefined (sendLength (frames.take p.2))

def queueBatchFrames (ch : Fin 2) (frames : List (CanFrame × Bool)) (id : Nat) (s : State) : State :=
  let fs := frames.map fun f => ({ frame := f.1, oneShot := f.2, journal := id } : HostFrame)
  let b : CanBatch := { journal := id, acceptedAt := nowOf s, sent := 0 }
  jmod id (fun e => { e with state := .running, step := 1 })
    (onCan ch (fun c => { c with hostQueue := c.hostQueue ++ fs, batches := c.batches ++ [b] }) s)

def doCanSend (h : ReqHdr) (channel : Nat) (frames : List (CanFrame × Bool)) (s : State) : State :=
  let ch := canOf channel
  let fs := frameFlaws s ch frames
  if fs ≠ [] then badArgument h 0x0901 fs s
  else if s.can[ch].mode ≠ .normal then conflict h 0x0901 s
  else if canYielded s ch then respond h 0x0901 stRoleConflict [] s
  else if 64 < s.can[ch].hostQueue.length + frames.length then respond h 0x0901 stOverQuota [] s
  else acceptLong h 0x0901 1 (queueBatchFrames ch frames) s

def reqCanSend (h : ReqHdr) (channel : Nat) (frames : List (CanFrame × Bool)) (s : State) : State :=
  serve (.canSend channel frames) h 0x0901 (sendLength frames) (frames.all fun f => f.1.data.length == frameLength f.1)
    (canFlaws channel ++ needs (decide (1 ≤ frames.length) && decide (frames.length ≤ 64)) fRange 1) (doCanSend h channel frames) s

def execCanSend (t : Nat) (h : ReqHdr) (channel : Nat) (frames : List (CanFrame × Bool)) (s : State) : Host.Outcome State Fault Refusal :=
  .next (reqCanSend h channel frames (atTime t s))

/-! ### CAN.RECV, R296 -/

/-- A frame record of 80 bytes. -/
def frameRecord (r : CanRecord) : List Byte :=
  le8 r.time ++ le4 r.frame.word.toNat ++
    [byteOf r.frame.dlc, byteOf (flag 2 r.frame.brs + flag 1 r.frame.esi + flag 0 r.lostBefore), byteOf r.filter, 0] ++ sliceAt r.frame.data 0 64

/-- Pops n records; a record in the shadow buffer enters the queue when its head closes. -/
def popRecords (n : Nat) (q : RxQueue) : RxQueue :=
  if n = 0 then q else { q with records := q.records.drop n ++ q.shadow.toList, shadow := none, headOpen := false }

def doCanRecv (h : ReqHdr) (channel queue maximum : Nat) (s : State) : State :=
  let ch := canOf channel
  let n : Fin 2 := canOf queue
  let got := s.can[ch].rxq[n].records.take maximum
  let s := onCan ch (fun c => { c with rxq := vmod c.rxq n (popRecords got.length) }) s
  let left := s.can[ch].rxq[n].records.length
  respond h 0x0902 stOk ([byteOf got.length, byteOf left] ++ zeros 6 ++ got.flatMap frameRecord) s

def reqCanRecv (h : ReqHdr) (channel queue maximum : Nat) (s : State) : State :=
  serve (.canRecv channel queue maximum) h 0x0902 4 true
    (canFlaws channel ++ needs (decide (queue < 2)) fRange 1 ++ needs (decide (1 ≤ maximum) && decide (maximum ≤ 50)) fRange 2)
    (doCanRecv h channel queue maximum) s

def execCanRecv (t : Nat) (h : ReqHdr) (channel queue maximum : Nat) (s : State) : Host.Outcome State Fault Refusal :=
  .next (reqCanRecv h channel queue maximum (atTime t s))

/-! ### CAN.CONFIG, R293, R294, R303, R306 -/

def canModeOf : Nat → Option CanMode
  | 0 => some .disabled
  | 1 => some .normal
  | 2 => some .listenOnly
  | 3 => some .autobaud
  | 4 => some .sleep
  | _ => none

/-- A candidate's timing words are in range; a data word of zero stands for no data timing. -/
def candidateOk (c : W32 × W32) : Bool :=
  let good (id : Nat) (w : W32) : Bool := match paramOf id with
    | some r => inRange r id (le4 w.toNat)
    | none => false
  good (P.canNominal 0) c.1 && (c.2 == 0 || good (P.canData 0) c.2)

/-- Starts the search over the candidates. -/
def startSearch (candidates : List (W32 × W32)) (ch : Fin 2) (s : State) : State :=
  let s := setCanMode ch .autobaud s
  onCan ch (fun c =>
    { c with candidates := candidates, candidate := 0, passes := 0, goodFrames := 0, brsSeen := false, rateFound := false,
             dataUnconfirmed := false, autobaudFailed := false, lastComplete := nowOf s }) s

/-- Changes the mode of a channel as the host asks. -/
def changeMode (m : CanMode) (adopt : Bool) (candidates : List (W32 × W32)) (ch : Fin 2) (s : State) : State :=
  match m with
  | .autobaud => startSearch candidates ch s
  | .sleep => if s.can[ch].mode = .sleep then s else setCanMode ch .sleep (onCan ch (fun c => { c with beforeSleep := c.mode }) s)
  | .normal =>
    let found_ := if adopt then s.can[ch].candidates[s.can[ch].candidate]? else none
    setCanMode ch .normal (onCan ch (fun c => { c with adopted := found_ }) s)
  | x => setCanMode ch x s

def statusAnswer (h : ReqHdr) (ch : Fin 2) (s : State) : State := respond h 0x0903 stOk (le4 (canStatusWord s ch)) s

def doSetMode (h : ReqHdr) (channel : Nat) (m : CanMode) (adopt : Bool) (candidates : List (W32 × W32)) (s : State) : State :=
  let ch := canOf channel
  if adopt ∧ s.can[ch].rateFound = false then conflict h 0x0903 s
  else statusAnswer h ch (changeMode m adopt candidates ch s)

/-- Undefined modes, ADOPT outside NORMAL, and candidates that AUTOBAUD lacks or that are out of range. -/
def modeFlaws (channel mode : Nat) (adopt : Bool) (candidates : List (W32 × W32)) : List Finding :=
  canFlaws channel ++ needs (canModeOf mode).isSome fUndefined 2 ++ needs (!adopt || mode == 1) fUndefined 3 ++
    needs (decide (candidates.length ≤ 8) && (mode != 3 || !candidates.isEmpty)) fRange 4 ++
    ((candidates.zipIdx.filter fun p => !candidateOk p.1).map fun p => fieldFinding fRange (8 + 8 * p.2))

def reqSetMode (h : ReqHdr) (channel mode : Nat) (adopt : Bool) (candidates : List (W32 × W32)) (s : State) : State :=
  let body (s : State) : State :=
    match canModeOf mode with
    | some m => doSetMode h channel m adopt candidates s
    | none => s
  serve (.canConfigSetMode channel mode adopt candidates) h 0x0903 (8 + 8 * candidates.length) true
    (modeFlaws channel mode adopt candidates) body s

def execCanConfigSetMode (t : Nat) (h : ReqHdr) (channel mode : Nat) (adopt : Bool) (candidates : List (W32 × W32)) (s : State) :
    Host.Outcome State Fault Refusal :=
  .next (reqSetMode h channel mode adopt candidates (atTime t s))

/-- RESTART starts the recovery of a channel that waits in BUS_OFF. -/
def doCanRestart (h : ReqHdr) (channel : Nat) (s : State) : State :=
  let ch := canOf channel
  if s.can[ch].confinement = .busOff ∧ s.can[ch].recovering = false then
    statusAnswer h ch (onCan ch (fun c => { c with recovering := true }) s)
  else conflict h 0x0903 s

def reqCanRestart (h : ReqHdr) (channel : Nat) (s : State) : State :=
  serve (.canConfigRestart channel) h 0x0903 8 true (canFlaws channel) (doCanRestart h channel) s

def execCanConfigRestart (t : Nat) (h : ReqHdr) (channel : Nat) (s : State) : Host.Outcome State Fault Refusal :=
  .next (reqCanRestart h channel (atTime t s))

end Sys2Proof.Machine
end

