-- ==== Sys2Proof/Machine/CmdEvents.lean ====
section
/-! DEFINITION. The event recorder and the wear ledger: EVENT_RECORD_WRITE, EVT.READ, EVT.MARK and WEAR.GET (R407 to R417, R420,
R424). -/

namespace Sys2Proof.Machine

open Sys2Proof

/-! ### Records, R407, R409 -/

def permanentSlots : Nat := 4096
def recorderSlots : Nat := 32768

/-- A record of 64 bytes. -/
def eventBytes (sequence : Nat) (e : Event) : List Byte :=
  let body := le4 sequence ++ le4 e.cycles ++ le4 e.hours ++ le2 e.seconds ++ le2 e.code ++ le8 e.time ++ le2 e.source ++
    [byteOf e.severity, byteOf (flag 1 e.holdup + flag 0 e.lostBefore)] ++ sliceAt e.data 0 32
  body ++ le2 (crc16 body).toNat ++ [0, 0xA5]

/-- The newest record of the circulating area: its slot. -/
def newestCirculating (s : State) : Option Nat :=
  ((s.recd.slots.filter fun p => decide (permanentSlots ≤ p.1)).foldl (fun (m : Option (Nat × Nat)) p => match m with
    | some x => if x.2 < p.2.1 then some (p.1, p.2.1) else some x
    | none => some (p.1, p.2.1)) none).map fun x => x.1

/-- The slot of the next record: the permanent area first, and never in BLANK. -/
def nextSlot (s : State) : Nat :=
  if s.recd.permanentUsed < permanentSlots ∧ s.sec.lifecycle ≠ .blank then s.recd.permanentUsed
  else
    match newestCirculating s with
    | some n => if n + 1 < recorderSlots then n + 1 else permanentSlots
    | none => permanentSlots

/-- Writes a record: the next sequence, its slot, INT_STAT EVT (R408, R410). -/
def writeRecord (e : Event) (s : State) : State :=
  let slot := nextSlot s
  let q := s.recd.lastSeq + 1
  raiseInt intEvt (onRecd (fun r =>
    { r with slots := tput slot (q, e) r.slots, permanentUsed := if slot < permanentSlots then slot + 1 else r.permanentUsed,
             newestSlot := some slot, lastSeq := q, newestSinceRestart := true }) s)

def newestRecord (s : State) : Option (Nat × Event) :=
  match s.recd.newestSlot with
  | some n => tget n s.recd.slots
  | none => none

/-! ### Repeats, R413 to R415 -/

def isMark (code : Nat) : Bool := decide (0xF000 ≤ code)

/-- The event repeats the newest record (R413). -/
def isRepeat (s : State) (e : Event) : Bool :=
  match newestRecord s with
  | some r =>
    s.recd.newestSinceRestart && !isMark e.code && r.2.code != 0x0F01 && r.2.code != 0x0F02 && r.2.code == e.code &&
      r.2.source == e.source && r.2.data == e.data
  | none => false

/-- The slot of the valid tail with the higher tail sequence. -/
def tailSlot (s : State) : Option (Fin 2) :=
  match s.recd.tails[0], s.recd.tails[1] with
  | none, none => none
  | some _, none => some 0
  | none, some _ => some 1
  | some a, some b => if a.tailSeq ≤ b.tailSeq then some 1 else some 0

def validTail (s : State) : Option RepeatTail := (tailSlot s).bind fun n => s.recd.tails[n]

/-- One more repeat of the newest record: the other slot is written. -/
def noteRepeat (e : Event) (s : State) : State :=
  let old := validTail s
  let n : Fin 2 := if tailSlot s = some 0 then 1 else 0
  let count := match old with
    | some x => if x.record = s.recd.lastSeq then min 0xFFFF (x.count + 1) else 1
    | none => 1
  let seq := (old.map fun x => x.tailSeq).getD 0 + 1
  let x : RepeatTail := { tailSeq := seq, record := s.recd.lastSeq, hours := e.hours, count := count }
  onRecd (fun r => { r with tails := r.tails.set n (some x) }) s

/-- The tail refers to the newest record, so that its history precedes the next record (R415). -/
def closeTail (s : State) : State :=
  match validTail s with
  | some x =>
    if x.record = s.recd.lastSeq ∧ s.recd.newestSlot.isSome = true then
      writeRecord (mkEvent 0x0F02 srcModule (le4 x.record ++ le2 x.count ++ le4 x.hours) s) s
    else s
  | none => s

/-- The response of an EVT.MARK follows its record (R417). -/
def answerMark (e : Event) (s : State) : State :=
  if isMark e.code then
    let first := s.keeper.marks.head?
    let s := onKeeper (fun k => { k with marks := k.marks.drop 1 }) s
    match first with
    | some (some h) => respond h 0x0A01 stOk (le4 s.recd.lastSeq) s
    | _ => s
  else s

/-- Writes one staged event. -/
def writeEvent (e : Event) (s : State) : State :=
  if isRepeat s e then noteRepeat e s else answerMark e (writeRecord e (closeTail s))

/-- The queue has room again: the discarded events are reported (R411). -/
def stageLost (s : State) : State :=
  if s.recd.discarded = 0 ∨ 32768 ≤ s.recd.staging.length then s
  else
    let e := { mkEvent 0x0F01 srcModule (le4 (sat32 s.recd.discarded)) s with lostBefore := true }
    onRecd (fun r => { r with staging := r.staging ++ [e], discarded := 0 }) s

/-! ### Writing, R410, R424 -/

/-- EVENT_RECORD_WRITE: the Keeper writes the oldest staged event; what it finds of blocks is acted on first. -/
def execEventRecordWrite (t : Nat) (found : List BlockReport) (s : State) : Host.Outcome State Fault Refusal :=
  let s := atTime t s
  .next (if keeperServes s = false then s
    else
      match s.recd.staging with
      | [] => s
      | e :: rest =>
        let s := onRecd (fun r => { r with staging := rest }) s
        stageLost (writeEvent e (takeReports found s)))

/-! ### EVT.READ, R416 -/

/-- Records of an area from a sequence on, rising. -/
def recordsFrom (s : State) (first area : Nat) : List (Nat × Event) :=
  let inArea (slot : Nat) : Bool :=
    match area with
    | 0 => true
    | 1 => decide (slot < permanentSlots)
    | _ => decide (permanentSlots ≤ slot)
  let all := (s.recd.slots.filter fun p => inArea p.1 && decide (first ≤ p.2.1)).map fun p => p.2
  sortBy (fun (p : Nat × Event) => p.1) all

/-- The 16 bytes of the valid tail; zeros where there is none. -/
def tailBytes (s : State) : List Byte :=
  match validTail s with
  | some x =>
    let body := le4 x.tailSeq ++ le4 x.record ++ le4 x.hours ++ le2 x.count
    body ++ le2 (crc16 body).toNat
  | none => zeros 16

def doEvtRead (h : ReqHdr) (first maximum area : Nat) (s : State) : State :=
  let got := (recordsFrom s first area).take maximum
  let next := match got.getLast? with
    | some x => x.1 + 1
    | none => s.recd.lastSeq + 1
  respond h 0x0A00 stOk (le4 got.length ++ le4 next ++ tailBytes s ++ got.flatMap fun p => eventBytes p.1 p.2) s

def reqEvtRead (h : ReqHdr) (first maximum area : Nat) (s : State) : State :=
  serve (.evtRead first maximum area) h 0x0A00 8 true
    (needs (decide (1 ≤ maximum) && decide (maximum ≤ 63)) fRange 4 ++ needs (decide (area ≤ 2)) fUndefined 6) (doEvtRead h first maximum area) s

def execEvtRead (t : Nat) (h : ReqHdr) (first maximum area : Nat) (s : State) : Host.Outcome State Fault Refusal :=
  .next (reqEvtRead h first maximum area (atTime t s))

/-! ### EVT.MARK, R417 -/

/-- Stages the mark; its response waits for the record. A queue without room discards it, and the response says so. -/
def doEvtMark (h : ReqHdr) (code : Nat) (data : List Byte) (s : State) : State :=
  if s.recd.staging.length < 32768 then
    onKeeper (fun k => { k with marks := k.marks ++ [some h] }) (stage code (srcHost (transportOf s h.src)) data s)
  else respond h 0x0A01 stOverQuota [] (stage code (srcHost (transportOf s h.src)) data s)

def reqEvtMark (h : ReqHdr) (code : Nat) (data : List Byte) (s : State) : State :=
  serve (.evtMark code data) h 0x0A01 (8 + data.length) (data.length == 32)
    (needs (decide (0xF000 ≤ code) && decide (code ≤ 0xFFFF)) fRange 0) (doEvtMark h code data) s

def execEvtMark (t : Nat) (h : ReqHdr) (code : Nat) (data : List Byte) (s : State) : Host.Outcome State Fault Refusal :=
  .next (reqEvtMark h code data (atTime t s))

/-! ### WEAR.GET, R420 -/

def sat16 (n : Nat) : Nat := min 0xFFFF n
def sat8 (n : Nat) : Nat := min 0xFF n

def laneRecord (s : State) (l : LaneId) : List Byte :=
  let x := s.ctl.weave.lanes[l]
  let w := s.wear.lanes[l]
  [byteOf l.val, byteOf (roleCode x.role), byteOf (sat8 x.replacements), byteOf (flag 1 x.due + flag 0 x.bistFlag)] ++ le4 (sat32 w.resyncs) ++
    le2 (sat16 (countIn s x.resyncs)) ++ le2 (sat16 w.fails) ++ le4 w.resyncHours ++ le4 w.replaceHours ++ le4 (sat32 w.lates) ++
    le4 (sat32 w.selfFaults) ++ le4 0

def sectionCode : SectionState → Nat
  | .inUse => 0
  | .spare => 1
  | .copyFrom => 2
  | .copyTo => 3
  | .retired => 4

/-- The logical number that a section's record shows. -/
def sectionLogical (s : State) (p : Nat) : Nat :=
  match (sectionOf s p).state with
  | .spare => 0xFFFF
  | .retired => 0xFFFE
  | .copyTo => match s.basin.migration with
    | some m => m.logical
    | none => 0xFFFF
  | _ => (logicalOf s p).getD 0xFFFF

def sectionRecord (s : State) (p : Nat) : List Byte :=
  let x := sectionOf s p
  le2 p ++ le2 (sectionLogical s p) ++ [byteOf (sectionCode x.state), byteOf (flag 0 x.bistFlag)] ++ le2 (sat16 x.triples) ++
    le4 x.singles ++ le4 x.doubles ++ le2 (sat16 (countIn s x.singleHours)) ++ le2 (sat16 (countIn s x.doubleHours)) ++
    le4 x.changeHours ++ le4 x.errorHours ++ le4 0

def blockRecord (b : BlockRecord) : List Byte :=
  le2 b.logical ++ le2 b.old ++ le2 b.new ++ [byteOf b.cause, 0] ++ le4 b.hours ++ le4 b.cycles ++ le4 b.erases ++ zeros 12

def towRole : TowLane → Nat
  | .carrying => 0
  | .spare => 1
  | .lost => 2

def towRecord (s : State) (n : Fin 3) : List Byte :=
  let w := s.wear.tow[n]
  [byteOf n.val, byteOf (towRole s.tow.lanes[n])] ++ le2 (sat16 w.swaps) ++ le4 (sat32 w.crcErrors) ++ le4 (sat32 w.alignLosses) ++
    le4 w.lossHours ++ zeros 16

/-- State of a clock source: 0 in use, 1 standby, 2 failed. -/
def clockState (s : State) (n : Fin 3) : Nat :=
  if h : n.val < 2 then
    if s.refs.failed[n.val] then 2 else if s.refs.inUse.val = n.val then 0 else 1
  else if s.refs.xtalFailed then 2 else 0

def clockRecord (s : State) (n : Fin 3) : List Byte :=
  [byteOf n.val, byteOf (clockState s n)] ++ le2 (sat16 s.refs.switchesAway[n]) ++ le4 (ofSigned 32 s.refs.deviationPpb[n]) ++
    le4 s.refs.failHours[n] ++ zeros 20

def doRecord (s : State) (c : Fin 16) : List Byte :=
  let w := s.wear.dout[c]
  [byteOf c.val, byteOf (flag 0 s.field.dio[c].latchedOff), 0, 0] ++ le4 (sat32 w.trips) ++ le4 (sat32 w.latchOffs) ++
    le4 (sat32 w.overcurrents) ++ le4 w.tripHours ++ zeros 12

def aoRecord (s : State) (c : Fin 8) : List Byte :=
  let w := s.wear.aout[c]
  [byteOf c.val, byteOf (flag 0 (aioModeOf s c == 5))] ++ le2 (sat16 w.commits) ++ le4 (ofSigned 32 w.fromFactory1) ++
    le4 (ofSigned 32 w.fromFactory2) ++ le4 (ofSigned 32 w.fromUser1) ++ le4 (ofSigned 32 w.fromUser2) ++ le4 w.hours ++
    le4 (flag 0 w.drift) ++ le4 0

/-- Records of a category; none for a code that the table does not hold. -/
def wearRecords (s : State) (category first : Nat) : Option (List (List Byte)) :=
  let from_ {α : Type} (xs : List α) : List α := (xs.drop first).take 126
  match category with
  | 0 => some ((from_ allLanes).map (laneRecord s))
  | 1 => some ((from_ (List.range 512)).map (sectionRecord s))
  | 2 => some ((from_ s.wear.flash).map blockRecord)
  | 3 => some ((from_ s.wear.mram).map blockRecord)
  | 4 => some ((from_ (List.finRange 3)).map (towRecord s))
  | 5 => some ((from_ (List.finRange 3)).map (clockRecord s))
  | 6 => some ((from_ allDio).map (doRecord s))
  | 7 => some ((from_ allAio).map (aoRecord s))
  | 0xFF => some (from_ [summaryRecord s])
  | _ => none

def doWearGet (h : ReqHdr) (category first : Nat) (s : State) : State :=
  match wearRecords s category first with
  | some rs => respond h 0x0F03 stOk (le2 rs.length ++ le2 32 ++ le4 0 ++ rs.flatMap fun b => b) s
  | none => badArgument h 0x0F03 [fieldFinding fUndefined 0] s

def reqWearGet (h : ReqHdr) (category first : Nat) (s : State) : State :=
  serve (.wearGet category first) h 0x0F03 4 true [] (doWearGet h category first) s

def execWearGet (t : Nat) (h : ReqHdr) (category first : Nat) (s : State) : Host.Outcome State Fault Refusal :=
  .next (reqWearGet h category first (atTime t s))

end Sys2Proof.Machine
end

