-- ==== Sys2Proof/Machine/Firmware.lean ====
section
/-! DEFINITION. Firmware images: the header, its signature, the secure-boot check and the boot record (R430, R431, R437, R441,
R442, R444, R447, R448). -/

namespace Sys2Proof.Machine

open Sys2Proof

/-! ### The header, R431 -/

def headerMagic : Nat := 0x56555044

def hdrKind (hd : List Byte) : Nat := natAt hd 13 1
def hdrSlot (hd : List Byte) : Nat := natAt hd 14 1
def hdrMirror (hd : List Byte) : Nat := natAt hd 15 1
def hdrVersion (hd : List Byte) : Nat := natAt hd 16 4
def hdrBase (hd : List Byte) : Nat := natAt hd 20 4
def hdrDelta (hd : List Byte) : Nat := natAt hd 24 4
def hdrResult (hd : List Byte) : Nat := natAt hd 28 4
def hdrDigest (hd : List Byte) : List Byte := sliceAt hd 64 48
def hdrBaseDigest (hd : List Byte) : List Byte := sliceAt hd 112 48

/-- Part code and hardware mask name this module. -/
def hdrFits (hd : List Byte) : Bool := natAt hd 6 2 == 0x6416 && bitAt (natAt hd 8 4) Config.hwRev.toNat

def hdrLifecycleOk (s : State) (hd : List Byte) : Bool := decide (natAt hd 12 1 ≤ lifecycleCode s.sec.lifecycle)

/-- The owner slot of a number, 0 to 3. -/
def keySlotAt (s : State) (n : Nat) : Option KeySlot := s.sec.keys[n]?

/-- The public key of a slot that holds a key (R444). -/
def slotKey (s : State) (n : Nat) : Option (List Byte) := (keySlotAt s n).bind keyOf

/-- The slot counts as EMPTY: nothing programmed, or stored copies that both fail to match. -/
def slotEmpty (s : State) (n : Nat) : Bool :=
  match keySlotAt s n with
  | some k => !k.revoked && (keyOf k).isNone
  | none => false

/-- The key under which a header is checked: in BLANK the factory key stands for an EMPTY slot (R448). -/
def headerKey (s : State) (hd : List Byte) : Option (List Byte) :=
  if s.sec.lifecycle = .blank ∧ slotEmpty s (hdrSlot hd) = true then some Config.factoryKey else slotKey s (hdrSlot hd)

def signatureOk (s : State) (hd : List Byte) : Bool :=
  match headerKey s hd with
  | some k => ecdsaVerify k (sliceAt hd 0 160) (sliceAt hd 160 96)
  | none => false

/-- Digest of a slot's result bytes. -/
def imageDigest (x : FwSlot) : List Byte := sha384 x.image

/-- The image that the module left the factory with: its header is not held by the model, it is signed with the factory key, and
it passes the check while BLANK (notes/assumptions/27.md). -/
def isFactoryImage (x : FwSlot) : Bool := x.header.isEmpty && x.image.isEmpty

/-- The checks of secure boot in their order (R447). -/
def slotPasses (s : State) (n : Fin 2) : Bool :=
  let x := s.upd.slots[n]
  if isFactoryImage x then s.sec.lifecycle == .blank
  else
    natAt x.header 0 4 == headerMagic && natAt x.header 4 2 == 1 && hdrFits x.header && signatureOk s x.header &&
      hdrLifecycleOk s x.header && imageDigest x == hdrDigest x.header

/-! ### The boot record, R437, R441 -/

def otherSlot (n : Fin 2) : Fin 2 := if n = 0 then 1 else 0

def onSlot (n : Fin 2) (g : FwSlot → FwSlot) (s : State) : State := onUpd (fun u => { u with slots := vmod u.slots n g }) s

def inactiveSlot (s : State) : Fin 2 := otherSlot s.upd.bootSlot

/-- An image on trial goes back: its slot is REVERTED and the fallback boots next. -/
def revertSlot (cause status : Nat) (s : State) : State :=
  match s.upd.fallback with
  | none => s
  | some f =>
    let bad := slotVersion s.upd.slots[s.upd.bootSlot]
    let s := onSlot s.upd.bootSlot (fun x => { x with state := .reverted }) s
    let s := onUpd (fun u => { u with bootSlot := f, fallback := none, trialSince := none, lastStatus := status }) s
    stage 0x1001 srcModule ([byteOf cause] ++ le4 bad ++ le4 (slotVersion s.upd.slots[f])) (onSlot f (fun x => { x with state := .active }) s)

/-- The slot that boots: the named slot, or the other where that one is VALID or is the fallback; none where neither passes. An
image on trial that fails is reverted; a named slot that fails otherwise is DAMAGED. -/
def secureBoot (s : State) : Option State :=
  let n := s.upd.bootSlot
  if s.upd.slots[n].state ≠ .damaged ∧ slotPasses s n = true then some s
  else
    let o := otherSlot n
    if s.upd.fallback = some o then
      if slotPasses s o then some (revertSlot 1 stInternal s) else none
    else if s.upd.slots[o].state = .valid ∧ slotPasses s o = true then
      some (onUpd (fun u => { u with bootSlot := o })
        (onSlot o (fun x => { x with state := .active }) (onSlot n (fun x => { x with state := .damaged }) s)))
    else none

end Sys2Proof.Machine
end

