-- ==== Sys2Proof/Machine/SelfTest.lean ====
section
/-! DEFINITION. Self-test: what a run of a block leaves, at power-up, in the foreground and in the background, and the lane
role that follows it (R121, R370 to R373, R375, R422, R423). -/

namespace Sys2Proof.Machine

open Sys2Proof

/-- The one result of a run (R371). -/
def runResult (r : BistRun) : BistResult :=
  if r.completed then (if r.signature = Config.bistExpected r.block then .pass else .fail) else .incomplete

/-- The lane that a block tests. -/
def blockLaneOf (b : Fin 14) : Option LaneId := if h : b.val < 4 then some ⟨b.val, h⟩ else none

/-- The CAN channel that a block tests. -/
def blockCanOf (b : Fin 14) : Option (Fin 2) := if b.val = 12 then some 0 else if b.val = 13 then some 1 else none

/-- The block keeps its result; a FAIL sets its flag and a PASS clears it (R372). -/
def noteResult (r : BistRun) (s : State) : State :=
  let res := runResult r
  onBist r.block (fun x =>
    { x with result := res, hours := s.path.hours, signature := r.signature, running := none,
             flag := if res = .fail then true else if res = .pass then false else x.flag,
             retryFrom := if res = .incomplete then x.retryFrom else none }) s

/-- `BIST_FAIL`, with the first failing section of the Basin blocks. -/
def failEvent (r : BistRun) (s : State) : State :=
  let sec := if r.block = blockSections ∨ r.block = blockSpare then r.failSection.getD 0xFFFF else 0xFFFF
  stage 0x0D01 srcModule ([byteOf r.block.val] ++ le8 r.signature.toNat ++ le8 (Config.bistExpected r.block).toNat ++ le2 sec) s

/-- A lane's flag in LANE_MAP, and the FAIL counted in its wear record (R421). -/
def laneResult (r : BistRun) (s : State) : State :=
  match blockLaneOf r.block with
  | none => s
  | some l =>
    let s := onLane l (fun x => { x with bistFlag := s.bist[r.block].flag }) s
    if runResult r = .fail then onWear (fun w => { w with lanes := vmod w.lanes l fun x => { x with fails := x.fails + 1 } }) s else s

/-- The contents of a section that failed its test stay in a free spare section, as a migration that is complete at once
(R375); with none free, or at a test without save and restore, the threshold of R422 starts one. -/
def moveSection (p : Nat) (s : State) : State :=
  match logicalOf s p with
  | none => s
  | some l =>
    if s.basin.migration.isSome then checkSection p s
    else
      let s := beginMigration l causeTest s
      if s.basin.migration.isSome then finishMigration 0 s else s

/-- What the Basin blocks say of sections (R372, R375, R422). -/
def sectionResult (warm : Bool) (r : BistRun) (s : State) : State :=
  if r.block = blockSections then
    match runResult r, r.failSection with
    | .fail, some p =>
      let s := onSection p (fun x => { x with bistFlag := true }) s
      if warm then moveSection p s else checkSection p s
    | .pass, _ =>
      onBasin (fun b => { b with sections := tmap (fun _ (x : Section) => if x.state = .inUse then { x with bistFlag := false } else x) b.sections }) s
    | _, _ => s
  else if r.block = blockSpare then
    match runResult r, r.failSection with
    | .pass, _ =>
      onBasin (fun b => { b with sections := tmap (fun _ (x : Section) => if x.state = .spare then { x with spareBad := false } else x) b.sections }) s
    | _, some p => onSection p (fun x => { x with spareBad := true }) s
    | _, none => s
  else s

/-- A lane leaves SPARE_TEST at the end of its test ("Lane role transitions"); INCOMPLETE leaves it there. -/
def leaveTest (r : BistRun) (s : State) : State :=
  match blockLaneOf r.block with
  | none => s
  | some l =>
    if roleOf s l ≠ .spareTest ∨ runResult r = .incomplete then s
    else if runResult r = .pass ∧ s.ctl.weave.lanes[l].replacements < 2 then setRole l .spare s
    else
      let s := setRole l .retired s
      checkSpares (stage 0x0504 (srcLane l) [byteOf s.ctl.weave.lanes[l].replacements, byteOf (bistCode (runResult r))] s)

/-- A run of BASIN_SECTIONS that keeps the contents is INCOMPLETE where it only reads the sections in use: with BIST_WARM_BASIN clear,
or with no free spare section to save them to (R375). -/
def readOnlyRun (warm : Bool) (r : BistRun) (s : State) : BistRun :=
  if warm && r.block == blockSections && (!cfgFlag s P.warmBasin || (spareSection s).isNone) then
    { r with completed := false, failSection := none }
  else r

/-- Everything that the end of a run leaves but its journal entry. -/
def judgeRun (warm : Bool) (r : BistRun) (s : State) : State :=
  let s := noteResult r s
  let s := if runResult r = .fail then failEvent r s else s
  leaveTest r (sectionResult warm r (laneResult r s))

/-- The journal entry of a run that was commanded: step 2 of 2, its detail the result code (R377). -/
def endRun (journal : Nat) (res : BistResult) (s : State) : State :=
  jend journal .done stOk (jmod journal (fun e => { e with step := 2, detail := bistCode res }) s)

/-- The runs of a power-up or restart self-test. A block whose foreground run was commanded ends its entry too. -/
def judgeAll (warm : Bool) (runs : List BistRun) (s : State) : State :=
  runs.foldl (fun s r0 =>
    let r := readOnlyRun warm r0 s
    let j := match s.bist[r.block].running with
      | some p => p.1
      | none => 0
    endRun j (runResult r) (judgeRun warm r s)) s

end Sys2Proof.Machine
end

