-- ==== Sys2Proof/Machine/Boot.lean ====
section
/-! DEFINITION. Restarts: what a restart and a loss of power clear, secure boot, self-test, the settings copies, boot confirmation,
lane roles, the wipe and the journal, up to `HELD` (R21, R117, R121, R354, R355, R364 to R366, R374, R375, R438 to R441,
R447, R452, R453, R480). -/

namespace Sys2Proof.Machine

open Sys2Proof

/-! ### The debug session -/

/-- The session closes and every halt is released (R455, R456). -/
def closeSession (s : State) : State :=
  let s := onSec (fun c => { c with session := none, keeperHalted := false, tracing := false, pads := [] }) s
  onWeave (fun w => { w with lanes := w.lanes.map fun x => { x with debugHalt := false } }) s

/-! ### Journal entries that a restart or a loss of power cuts short, R435, R480 -/

def closeCode : Nat := 0x0C02
def activateCode : Nat := 0x0C03

/-- Commands whose entries may end PARTIAL: UPD.CLOSE, IO.TRIM, CAN.SEND, SET.EXPORT. -/
def mayEndPartial (code : Nat) : Bool := [closeCode, 0x0801, 0x0901, 0x0203].contains code

/-- An entry that had not ended keeps its step and ends PARTIAL or FAILED. -/
def cutEntry (e : JnlEntry) : JnlEntry :=
  if ended e.state then e
  else if mayEndPartial e.command then { e with state := .partly, lastStatus := stPartial }
  else { e with state := .failed, lastStatus := stInternal }

/-- Every open entry but an activation, which goes on through its own restart (R437, R443). -/
def cutJournal (keep : JnlEntry → Bool) (s : State) : State :=
  onKeeper (fun k => { k with journal := k.journal.map fun e => if keep e then e else cutEntry e }) s

/-- An APPLY is cut short: its slot stays BUILDING, with the bytes that MRAM recorded per 64 KiB block (R434, R435). How far it had
come is a matter of timing: its step and its bytes are free values. -/
def cutApply (s : State) : State :=
  match s.upd.applying with
  | none => s
  | some (j, _) =>
    let w := (freeWord s).toNat
    let step := 1 + w % 4
    let bytes := if step < 3 then 0 else w / 4 % (natAt s.upd.header 28 4 + 1)
    let s := jmod j (fun e => { e with step := step, detail := bytes }) (draw s)
    onUpd (fun u => { u with applying := none, rebuilt := bytes, interrupted := some (u.header, bytes / 0x10000 * 0x10000), lastStatus := stPartial }) s

/-! ### What a restart without power loss clears, R374 -/

/-- A migration is abandoned: the logical section keeps its old physical section; thresholds are checked again (R423). -/
def abandonMigration (s : State) : State :=
  let back (x : Section) : Section :=
    { x with noSpare := false, state := match x.state with
      | .copyTo => .spare
      | .copyFrom => .inUse
      | y => y }
  onBasin (fun b => { b with migration := none, waiting := [], sections := tmap (fun _ x => back x) b.sections }) s

/-- Without a downlink frame the monitor is SILENT before the restart ends, with its safe states (R259, R277). -/
def silenceField (s : State) : State :=
  let s := onField (fun f =>
    { f with toSend := [], safeToSend := false, downlinks := [], uplinks := [], foReleases := [], lastUplink := none,
             fieldLost := false, lastStrobe := none, trim := [], safeUntilRelease := false, makeNotBefore := 0 }) s
  let s := if s.field.monitor = .run then
      applySafeStates (onField (fun f => { f with monitor := .silent, heldUpdates := [], delayedActions := [] }) s)
    else s
  yieldStages [] s

def clearControl (s : State) : State :=
  let s := onImg (fun im => { im with tags := tmap (fun _ t => { t with a := voidCopy t.a, b := voidCopy t.b }) im.tags, observed := 0 }) s
  let lanes := s.ctl.weave.lanes.map fun (x : Lane) => { x with haltCause := none, haltedIn := none, replaces := none, gated := false, debugHalt := false }
  onCtl (fun c =>
    { c with load := none, exchange := none, tasks := Vector.replicate 16 Task.reset, execs := [],
             weave := { Weave.reset with lanes := lanes, uncompared := c.weave.uncompared } }) s

/-- Serial lanes keep their roles; where only one carried the link, a lost one is trained again, first one that the wear ledger
shows no swap for (R146, R178; notes/assumptions/20.md). -/
def retrained (s : State) (lanes : Vector TowLane 3) : Vector TowLane 3 :=
  let lost := (List.finRange 3).filter fun i => lanes[i] == .lost
  if lanes.toList.countP (· == .carrying) < 2 then
    match (lost.find? fun i => s.wear.tow[i].swaps == 0), lost.head? with
    | some i, _ | none, some i => vmod lanes i fun _ => .carrying
    | none, none => lanes
  else lanes

/-- The pair, the tow line and the barge engine begin anew; TOW_DEGRADED reads 0 (R178). -/
def clearLinks (s : State) : State :=
  let s := onPair (fun p => { Pair.reset with highestClaim := p.highestClaim }) s
  let s := onTow (fun t =>
    { Tow.reset with lanes := retrained s t.lanes, spareInUse := t.spareInUse, proofHours := t.proofHours }) s
  let s := onNet (fun n => { State.reset.net with auth := n.auth }) s
  let s := onSw (fun w => { Switching.reset with ports := w.ports.map fun (p : Port) => { Port.reset with linkUp := p.linkUp } }) s
  onTime (fun u => { TimeUnit.reset with count := u.count, era := u.era }) s

/-- BAR0, sessions and what the Keeper's SRAM held; the journal is in the Basin (R310, R332, R459). -/
def clearKeeper (s : State) : State :=
  let s := endConns (endSpi (endPcie s))
  onKeeper (fun k =>
    { Keeper.reset with pcieSession := k.pcieSession, spiSession := k.spiSession, pcieAccess := k.pcieAccess,
                        spiAccess := k.spiAccess, usedSessions := k.usedSessions, journal := k.journal, lastJournal := k.lastJournal,
                        sluices := k.sluices, sluiceOvf := k.sluiceOvf, msis := k.msis,
                        restartCause := k.restartCause }) s

/-- A debug session ends, and what it wrote is cleared by the self-test (R456, R457, R464). -/
def clearDebug (s : State) : State :=
  onSec (fun c => { c with nonces := [], fuses := [], tainted := false, denied := false, bistHeld := false, keeperSram := [], laneMem := Vector.replicate 4 [] })
    (closeSession s)

/-- The die is reset: the module is in `BOOT`, in FULL, and everything but the Basin and the non-volatile stores is cleared. -/
def collapse (s : State) : State :=
  let s := endBatches 1 (endBatches 0 (abortForeground s))
  let s := enterState .boot .none (setPower .full 3 s)
  let s := onKeeper (fun k => { k with held := [], changes := [], marks := [] }) s
  let s := cutJournal (fun e => e.command == activateCode) (cutApply s)
  let s := silenceField (clearControl (abandonMigration s))
  let s := clearDebug (clearKeeper (clearLinks s))
  let s := onSettings (fun t => { t with staged := [], commits := [] }) s
  let s := onUpd (fun u => { u with lease := none }) s
  let s := onRecd (fun r => { r with newestSinceRestart := false }) s
  let s := onRefs (fun r => { r with holdSince := none }) s
  let s := onMod (fun m => { m with fault := .none, faultRead := false, waking := none, keeperCause := 0 }) s
  { s with can := Vector.replicate 2 Can.reset, deferred := [] }

/-- A restart without power loss begins; its cause is one of `KEEPER_RESTART`, or 3 where that event has none for it. -/
def beginRestart (cause : Nat) (s : State) : State :=
  let s := collapse s
  onMod (fun m => { m with restarting := true }) (onKeeper (fun k => { k with restartCause := cause }) s)

/-! ### Settings at a start, R347, R354, R355 -/

def copyReads (s : State) (c : SettingsCopy) : Bool := c.valid && decide (c.schema ≤ fwSchema s)

/-- One copy is rewritten from the other. -/
def repairCopy (isB : Bool) (s : State) : State :=
  let s := onSettings (fun t => if isB then { t with copyB := t.copyA, usingB := false } else { t with copyA := t.copyB, usingB := true }) s
  stage 0x0103 (srcStore 1) ([byteOf (flag 0 isB)] ++ le8 (copyInUse s).generation) s

/-- The copies are judged. -/
def judgeSettings (s : State) : State :=
  let t := s.settings
  let s := match copyReads s t.copyA, copyReads s t.copyB with
    | true, true => onSettings (fun t => { t with usingB := decide (t.copyA.generation < t.copyB.generation), unreadable := false }) s
    | true, false => repairCopy true (onSettings (fun t => { t with unreadable := false }) s)
    | false, true => repairCopy false (onSettings (fun t => { t with unreadable := false }) s)
    | false, false =>
      stage 0x0104 (srcStore 1) (le8 t.copyA.generation ++ le8 t.copyB.generation) (onSettings (fun t => { t with unreadable := true }) s)
  let entries := if s.settings.unreadable then ([] : Tbl (List Byte)) else (copyInUse s).entries
  onSettings (fun t => { t with committed := entries }) s

/-- Settings of class At restart come into force, and at a power-up those of class At power-up (R347). -/
def enforceSettings (isPowerUp : Bool) (s : State) : State :=
  let power (id : Nat) : Bool := match paramOf id with
    | some r => r.cls == .atPowerUp
    | none => false
  onSettings (fun t =>
    { t with inForce :=
        (if isPowerUp then t.committed
         else (t.inForce.filter fun p => power p.1).foldl (fun m p => tput p.1 p.2 m) (t.committed.filter fun p => !power p.1)) }) s

/-! ### Boot confirmation, R440, R441 -/

/-- The image on trial is confirmed: its slot is ACTIVE, the former one VALID; a set of an older schema is migrated into both
copies under the next generation. The manual gives no rule that changes a setting's value in a migration. -/
def confirmBoot (s : State) : State :=
  match s.upd.fallback with
  | none => s
  | some f =>
    let x := s.upd.slots[s.upd.bootSlot]
    let old := slotVersion s.upd.slots[f]
    let s := onSlot f (fun y => { y with state := .valid }) (onSlot s.upd.bootSlot (fun y => { y with state := .active }) s)
    let s := onUpd (fun u => { u with fallback := none, trialSince := none, lastStatus := stOk }) s
    let s := if s.settings.unreadable = false ∧ (copyInUse s).schema < fwSchema s then
        rewriteCopies s
      else s
    stage 0x1002 srcModule ([byteOf (hdrKind x.header)] ++ le4 old ++ le4 (slotVersion x)) s

/-- No valid copy can be read or migrated by the image on trial. -/
def trialUnreadable (s : State) : Bool :=
  s.upd.fallback.isSome && (s.settings.copyA.valid || s.settings.copyB.valid) && !copyReads s s.settings.copyA &&
    !copyReads s s.settings.copyB

/-- The journal entries of an activation end as its boot did. -/
def endActivations (s : State) : State :=
  let driven := match s.upd.pairUpdate with
    | some p => p.journal
    | none => 0
  let mine := s.keeper.journal.filter fun e => e.command == activateCode && !ended e.state && e.id != driven
  mine.foldl (fun s e =>
    if s.upd.lastStatus = 0 then jend e.id .done stOk (jmod e.id (fun x => { x with step := x.steps }) s)
    else jend e.id .failed s.upd.lastStatus s) s

/-! ### Lane roles, R121 -/

def onRole (l : LaneId) (r : LaneRole) (s : State) : State := onLane l (fun x => { x with role := r }) s

/-- A stored role as it is restored. -/
def restoreLane (l : LaneId) (s : State) : State :=
  match roleOf s l with
  | .retired | .spare | .bystander => s
  | .spareTest =>
    let s := onBist (blockLane l) (fun x => if x.result = .notRun then { x with result := .incomplete } else x) s
    if s.ctl.weave.lanes[l].replacements < 2 then onRole l .spare s
    else
      stage 0x0504 (srcLane l) [byteOf s.ctl.weave.lanes[l].replacements, byteOf (bistCode s.bist[blockLane l].result)] (onRole l .retired s)
  | _ => onRole l .active s

/-- A flagged ACTIVE lane exchanges roles with a spare that carries no flag. -/
def exchangeLane (l : LaneId) (s : State) : State :=
  let good (x : LaneId) : Bool := roleOf s x == .spare && !s.ctl.weave.lanes[x].bistFlag
  if roleOf s l = .active ∧ s.ctl.weave.lanes[l].bistFlag = true then
    match allLanes.find? good with
    | some x => onRole x .active (onRole l .spare s)
    | none => s
  else s

/-- The uncompared degraded run ends at a power-up, and at a restart whose self-test passes, that is, one of whose runs
none FAILs; its BYSTANDER lanes are ACTIVE again (R121, R136; notes/assumptions/80.md). -/
def endUncompared (isPowerUp : Bool) (runs : List BistRun) (s : State) : State :=
  if isPowerUp ∨ (runs.all fun r => runResult r != .fail) = true then
    let s := onWeave (fun w => { w with uncompared := false }) s
    allLanes.foldl (fun s l => if roleOf s l = .bystander then onRole l .active s else s) s
  else s

/-- The stored roles are restored before the self-test is judged; the lanes' instruction SRAM is loaded from CODE. -/
def restoreLanes (s : State) : State :=
  let s := allLanes.foldl (fun s l => restoreLane l s) s
  let bad := poisonedCode s
  onWeave (fun w => { w with lanes := w.lanes.map fun x => { x with badCode := bad } }) s

/-- Flagged lanes exchange roles with the spare. -/
def exchangeLanes (s : State) : State := checkSpares (allLanes.foldl (fun s l => exchangeLane l s) s)

/-! ### The epoch and the force table, R21, R117 -/

/-- The smallest multiple of 1,048,576 above the stored epoch; it is stored, so that a later start does not go back. -/
def startEpoch (s : State) : State :=
  let e := (s.img.stored / 1048576 + 1) * 1048576
  onImg (fun im => { im with epoch := e, mirrored := e, stored := e }) s

/-- `FORCES_CLEARED` where the table last stored was not empty. -/
def clearForces (s : State) : State :=
  if s.img.storedForces = 0 then s
  else stage 0x0301 srcModule (le2 (min 0xFFFF s.img.storedForces)) (onImg (fun im => { im with storedForces := 0 }) s)

/-! ### The wipe, R452, R453 -/

def isSecret (id : Nat) : Bool :=
  match paramOf id with
  | some r => r.type == .bytes16wo
  | none => false

/-- Step 2: every section of the Basin is zero. -/
def wipeBasin (s : State) : State :=
  let s := onImg (fun im => { im with tags := [], forces := [] }) s
  let s := onCtl (fun c => { c with running := none, staged := none, load := none, exchange := none, insts := [], execs := [] }) s
  let s := onBasin (fun b => { b with mem := [], poison := [] }) s
  let s := onUpd (fun u => { u with delta := [], header := [] }) s
  let s := onRecd (fun r => { r with staging := [], discarded := 0 }) s
  onKeeper (fun k => { k with journal := [], exports := [] }) s

/-- Step 3: every BYTES16_WO value is zero in both copies, under a new generation. -/
def wipeSettings (s : State) : State :=
  let s := onSettings (fun t => { t with committed := t.committed.filter fun p => !isSecret p.1 }) s
  rewriteCopies (onSettings (fun t => { t with inForce := t.inForce.filter fun p => !isSecret p.1, staged := [] }) s)

/-- Steps 2 to 5: secrets go, the read-back is judged, the fuse is blown, and LIFECYCLE_CHANGED is recorded with its key slot.
Whether the stores read back as written is free; one failure repeats steps 2 to 4, and a second leaves the module in `BOOT`. -/
def wipe (keySlot : Byte) (s : State) : State :=
  let old := lifecycleCode s.sec.lifecycle
  let verdict := freeWord s
  let s := wipeSettings (wipeBasin (draw s))
  let s := onSec (fun c => { c with deviceKey := false, secretRow := false, fingerprint := [] }) s
  if verdict.getLsbD 0 ∧ verdict.getLsbD 1 then enterState .boot .none (onSec (fun c => { c with wipeFailed := true }) s)
  else
    stage 0x1101 srcModule [byteOf old, byteOf (lifecycleCode .returned), keySlot] (onSec (fun c => { c with lifecycle := .returned }) s)

/-- WIPE_RESUME: a wipe that a loss of power interrupted is completed. No store keeps the slot that signed, so the event's byte is
free. -/
def resumeWipe (s : State) : State :=
  if s.sec.wipePending ∧ s.sec.lifecycle ≠ .returned then wipe ((freeWord s).setWidth 8) (draw s) else s

/-! ### From step 3 of the power-up table to `HELD`, R365, R374 -/

/-- The Keeper starts: INT_STAT KEEPER_RESTART; state `SELFTEST`. -/
def startKeeper (s : State) : State :=
  enterState .selftest .none (raiseInt intRestart (onKeeper (fun k => { k with running := true, beatCount := 0 }) s))

/-- The settings are judged, an image on trial is confirmed, and the module takes its settings, lane roles and epoch (step 7). -/
def configure (isPowerUp : Bool) (s : State) : State :=
  let s := enforceSettings isPowerUp (confirmBoot (judgeSettings s))
  let s := buildNodes (onNet (fun n => { n with nodes := [] }) s)
  let s := startServo (nowOf s) (scheduleGcl 2 (scheduleGcl 1 (scheduleGcl 0 s)))
  let access := fun (k : Keeper) => { k with pcieAccess := accessOfCode (cfg s P.accessPcie), spiAccess := accessOfCode (cfg s P.accessSpi) }
  let s := exchangeLanes (onKeeper access s)
  let s := if isPowerUp then clearForces s else s
  startEpoch s

/-- The reference that is in use after a start (R391). -/
def chooseReference (s : State) : State :=
  let p : Fin 2 := if cfg s P.refPreferred = 1 then 1 else 0
  onRefs (fun r => { r with inUse := if r.failed[p] && !r.failed[otherSlot p] then otherSlot p else p }) s

/-- `HELD`: the tow line is up, every output channel is yielded, and the power state is PWR_DEFAULT_STATE (R366, R386). -/
def reachHeld (s : State) : State :=
  let s := yieldStages [] (onTow (fun t => { t with up := true }) s)
  setPower (defaultPower s) 3 (enterState .held .none s)

/-- The `KEEPER_RESTART` event of a restart. -/
def restartEvent (s : State) : State :=
  let c := s.keeper.restartCause
  let s := onKeeper (fun k => { k with restartCause := 0 }) s
  if 1 ≤ c ∧ c ≤ 2 then stage 0x0101 srcModule ([byteOf c] ++ le4 (keeperVersion s)) s else s

/-- The firmware that starts: the slot of secure boot, or its fallback where an image on trial cannot read the settings (R441). -/
def bootFirmware (s : State) : Option State :=
  match secureBoot s with
  | none => none
  | some s' => if trialUnreadable s' then secureBoot (revertSlot 0 stSettings s') else some s'

/-- Steps 6 to 8: self-test, configuration, `HELD`. -/
def finishStart (isPowerUp : Bool) (runs : List BistRun) (s : State) : State :=
  let s := endUncompared isPowerUp runs (judgeAll (!isPowerUp) runs (restoreLanes s))
  let s := endActivations (chooseReference (configure isPowerUp s))
  let s := resumeWipe s
  if s.sec.wipeFailed then s else reachHeld (restartEvent s)

/-- A start from step 3: with no slot that passes, or after a failed wipe, the
module stays in `BOOT` (R365, R453). -/
def startUp (isPowerUp : Bool) (runs : List BistRun) (s : State) : State :=
  if s.sec.wipeFailed then s
  else
    match bootFirmware s with
    | none => s
    | some s => finishStart isPowerUp runs (startKeeper s)

/-! ### Loss of power, R364, R374, R478, R479 -/

/-- The module is OFF: the non-volatile stores, the towpath registers, the pads and what lies outside the module are left. -/
def powerOff (s : State) : State :=
  let r := State.reset
  let keep (x : Lane) : Lane := { x with haltCause := none, haltedIn := none, replaces := none, badCode := [], due := x.due, gated := false, debugHalt := false }
  { r with
    img := { r.img with stored := s.img.stored, lostRanges := s.img.lostRanges, lostFloor := s.img.lostFloor, storedForces := s.img.storedForces },
    ctl := { r.ctl with weave := { Weave.reset with lanes := s.ctl.weave.lanes.map keep } },
    pair := { Pair.reset with highestClaim := s.pair.highestClaim },
    tow := { Tow.reset with lanes := retrained s s.tow.lanes, spareInUse := s.tow.spareInUse, proofHours := s.tow.proofHours },
    net := { r.net with auth := { s.net.auth with sentBroadcast := 0, sentStatus := 0, sentStatusZero := 0, overlapUntil := none } },
    time := { TimeUnit.reset with count := s.time.count, era := s.time.era },
    field := s.field,
    keeper := { Keeper.reset with msis := s.keeper.msis },
    settings := { Settings.reset with copyA := s.settings.copyA, copyB := s.settings.copyB, usingB := s.settings.usingB },
    basin := { Basin.reset with map := s.basin.map, sections := s.basin.sections },
    bist := s.bist.map fun (b : BistBlock) => { BistBlock.reset with lastBackground := b.lastBackground },
    path := { s.path with powered := false, charged := false, weak := false, flushed := false },
    refs := { Refs.reset with failed := s.refs.failed, deviationPpb := s.refs.deviationPpb, switchesAway := s.refs.switchesAway, failHours := s.refs.failHours },
    recd := { Recorder.reset with lostAtFlush := s.recd.lostAtFlush + s.recd.staging.length + s.recd.discarded, slots := s.recd.slots, permanentUsed := s.recd.permanentUsed, newestSlot := s.recd.newestSlot, lastSeq := s.recd.lastSeq, tails := s.recd.tails },
    wear := s.wear,
    upd := { Update.reset with slots := s.upd.slots, bootSlot := s.upd.bootSlot, fallback := s.upd.fallback, trialSince := s.upd.trialSince, interrupted := s.upd.interrupted },
    sec := { Security.reset with lifecycle := s.sec.lifecycle, wipePending := s.sec.wipePending, wipeFailed := s.sec.wipeFailed, keys := s.sec.keys, deviceKey := s.sec.deviceKey, secretRow := s.sec.secretRow, fingerprint := s.sec.fingerprint },
    drawn := s.drawn, pending := s.pending }

end Sys2Proof.Machine
end

