-- ==== Sys2Proof/Machine/Clocks.lean ====
section
/-! DEFINITION. References and the crystal: missing and deviating references, the switch, the hold of the PLLs, and the calibration
of the towpath oscillator (R391 to R396). -/

namespace Sys2Proof.Machine

open Sys2Proof

/-! ### The switch, R394, R395 -/

def refClock (r : Fin 2) : Fin 3 := ⟨r.val, by omega⟩

/-- Every PLL takes the other reference: the failed one is marked, the switch recorded, and the ledger counts it. -/
def switchReference (cause : Nat) (deviation : Int) (s : State) : State :=
  let r := s.refs.inUse
  let o := otherSlot r
  let c := refClock r
  let s := onRefs (fun x =>
    { x with inUse := o, failed := x.failed.set r true, switchesAway := vmod x.switchesAway c fun n => n + 1,
             failHours := x.failHours.set c s.path.hours }) s
  checkSpares (stage 0x0E02 (srcClock r.val) ([byteOf cause, byteOf r.val, byteOf o.val] ++ le4 (ofSigned 32 deviation)) s)

/-- The logic runs on a reference: powered, and neither held nor in reset. -/
def clocked (s : State) : Bool := s.path.powered && !s.path.flushed && s.refs.holdSince.isNone && !s.refs.latchedLost

/-- REF_MISSING_EDGE: the other reference is taken even where it is marked. -/
def execRefMissingEdge (t : Nat) (s : State) : Host.Outcome State Fault Refusal :=
  let s := atTime t s
  .next (if clocked s then switchReference 0 s.refs.deviationPpb[refClock s.refs.inUse] s else s)

/-- The servo has been LOCKED for 60 s. -/
def lockedLong (s : State) (t : Nat) : Bool :=
  match s.time.servo, s.time.lockedSince with
  | .locked, some a => decide (a + 60000000000 ≤ t)
  | _, _ => false

/-- REF_DEVIATION_CHECK: the second's measurements of the reference in use and of the other one against the same standard, and of
the reference in use against the crystal. -/
def execRefDeviationCheck (t : Nat) (thisPpb otherPpb xtalPpb : Int) (s : State) : Host.Outcome State Fault Refusal :=
  let s := atTime t s
  .next (if clocked s then
      let long := lockedLong s t
      let measured := if long then thisPpb else xtalPpb
      let limit := if long then 1000 * cfg s P.refLimit else 150000
      let s := onRefs (fun x => { x with deviationPpb := x.deviationPpb.set (refClock x.inUse) measured }) s
      if (long ∨ s.refs.xtalFailed = false) ∧ limit < measured.natAbs then
        let s := onRefs (fun x => { x with deviationPpb := x.deviationPpb.set (refClock (otherSlot x.inUse)) otherPpb }) s
        if otherPpb.natAbs ≤ limit then switchReference 1 measured s else s
      else s
    else s)

/-! ### Both references fail, R396 -/

def execRefBothFail (t : Nat) (s : State) : Host.Outcome State Fault Refusal :=
  let s := atTime t s
  .next (if clocked s then onRefs (fun x => { x with holdSince := some t }) s else s)

/-- REF_HOLD_EXPIRY: the die is held in reset, and the module waits in `BOOT` for a reference. -/
def execRefHoldExpiry (t : Nat) (s : State) : Host.Outcome State Fault Refusal :=
  let s := atTime t s
  .next (match s.refs.holdSince with
    | some a => if a + 1000000 ≤ t then onRefs (fun x => { x with latchedLost := true }) (beginRestart 3 s) else s
    | none => s)

/-! ### The crystal, R393 -/

def execXtalFail (t : Nat) (s : State) : Host.Outcome State Fault Refusal :=
  let s := atTime t s
  .next (if s.path.powered ∧ s.refs.xtalFailed = false then
      stage 0x0E01 (srcClock 2) [] (onRefs (fun x => { x with xtalFailed := true, failHours := x.failHours.set 2 s.path.hours }) s)
    else s)

/-- RC_CALIBRATION: the towpath oscillator follows the crystal, or the reference in use; no state of the model changes. -/
def execRcCalibration (t : Nat) (s : State) : Host.Outcome State Fault Refusal := .next (atTime t s)

end Sys2Proof.Machine
end

