-- ==== Sys2Proof/Machine/CmdBist.lean ====
section
/-! DEFINITION. Self-test on demand and in the background: BIST.RESULT, BIST.RUN, the end of a run, and the background interval
and retry (R369, R371, R373, R377 to R380, R466). -/

namespace Sys2Proof.Machine

open Sys2Proof

/-! ### BIST.RESULT, R373 -/

def bistRecord (s : State) (b : Fin 14) : List Byte :=
  let x := s.bist[b]
  [byteOf b.val, byteOf (bistCode x.result)] ++ le2 0 ++ le4 x.hours ++ le8 x.signature.toNat ++ le8 (Config.bistExpected b).toNat ++ le8 0

def doBistResult (h : ReqHdr) (s : State) : State :=
  respond h 0x0B00 stOk (le2 14 ++ le2 0 ++ le4 0 ++ allBlocks.flatMap (bistRecord s)) s

def reqBistResult (h : ReqHdr) (s : State) : State := serve .bistResult h 0x0B00 0 true [] (doBistResult h) s

def execBistResult (t : Nat) (h : ReqHdr) (s : State) : Host.Outcome State Fault Refusal := .next (reqBistResult h (atTime t s))

/-! ### What may be tested in the background, R369, R379 -/

def isBackground (b : Fin 14) : Bool := decide (b.val < 4) || b == blockInject || b == blockSpare || (blockCanOf b).isSome

/-- The bit of BIST_BG_ENABLE. -/
def backgroundOn (s : State) (b : Fin 14) : Bool :=
  bitAt (cfg s P.bgEnable) (if b.val < 4 then 0 else if b = blockSpare then 1 else if b = blockInject then 2 else 3)

/-- The part is out of service: a spare lane, a CAN channel that is DISABLED; in NAP only the spare sections. -/
def partFree (s : State) (b : Fin 14) : Bool :=
  let power := match s.mod.power with
    | .full | .doze => true
    | .nap => b == blockSpare
    | .dormant => false
  let part := match blockLaneOf b, blockCanOf b with
    | some l, _ => roleOf s l == .spare || roleOf s l == .spareTest
    | _, some c => s.can[c].mode == .disabled
    | _, _ => true
  power && part

def sessionInvasive (s : State) : Bool := levelOf s == .invasive

/-- A run begins; a spare lane enters SPARE_TEST for a background run. -/
def startRun (b : Fin 14) (journal : Nat) (background : Bool) (s : State) : State :=
  let s := match blockLaneOf b with
    | some l => if background ∧ roleOf s l = .spare then setRole l .spareTest s else s
    | none => s
  let s := onBist b (fun x =>
    { x with running := some (journal, background), retryFrom := if background then none else x.retryFrom,
             lastBackground := if background then s.path.hours else x.lastBackground }) s
  jmod journal (fun e => { e with state := .running, step := 1 }) s

/-! ### BIST.RUN, R377, R466 -/

/-- States in which a foreground run is legal. -/
def foregroundStates : Nat := 0x108

def foregroundConflict (h : ReqHdr) (s : State) : State := respond h 0x0B01 stStateConflict (conflictPayload s foregroundStates) s

/-- A foreground run of KEEPER_SRAM is a restart without power loss; its entry ends with the block's result. -/
def runForeground (b : Fin 14) (id : Nat) (s : State) : State :=
  if b = blockKeeper then
    let e := jget s id
    let s := beginRestart 3 s
    let s := match e with
      | some x => onKeeper (fun k => { k with journal := k.journal.map fun y => if y.id == id then x else y }) s
      | none => s
    startRun b id false s
  else startRun b id false s

def doBistRun (h : ReqHdr) (block : Nat) (background : Bool) (s : State) : State :=
  if hb : block < 14 then
    let b : Fin 14 := ⟨block, hb⟩
    if background then
      if isBackground b = false then badArgument h 0x0B01 [fieldFinding fRange 0] s
      else if s.bist[b].running.isSome ∨ partFree s b = false then conflict h 0x0B01 s
      else acceptLong h 0x0B01 2 (fun id s => startRun b id true s) s
    else if bitAt foregroundStates (stateCode s.mod.state) = false ∨ s.bist[b].running.isSome ∨ sessionInvasive s = true then
      foregroundConflict h s
    else acceptLong h 0x0B01 2 (runForeground b) s
  else respond h 0x0B01 stBadArgument [] s

def reqBistRun (h : ReqHdr) (block : Nat) (background : Bool) (s : State) : State :=
  serve (.bistRun block background) h 0x0B01 4 true (needs (decide (block < 14)) fRange 0) (doBistRun h block background) s

def execBistRun (t : Nat) (h : ReqHdr) (block : Nat) (background : Bool) (s : State) : Host.Outcome State Fault Refusal :=
  .next (reqBistRun h block background (atTime t s))

/-! ### The end of a run -/

/-- BIST_RUN_COMPLETE. While an INVASIVE session is open, background self-test is suspended. -/
def execBistRunComplete (t : Nat) (run : BistRun) (found : List BlockReport) (s : State) : Host.Outcome State Fault Refusal :=
  let s := takeReports found (atTime t s)
  .next (match s.bist[run.block].running with
    | none => s
    | some (j, background) =>
      if s.mod.restarting ∨ (background ∧ sessionInvasive s) then s
      else
        let run := readOnlyRun (!background) run s
        let s := judgeRun (!background) run s
        let s := if background ∧ runResult run = .incomplete then onBist run.block (fun x => { x with retryFrom := some t }) s else s
        endRun j (runResult run) s)

/-! ### The background, R379, R380 -/

/-- A background run may begin now; WEAVE_INJECT in the idle time between executions. -/
def backgroundDue (s : State) (b : Fin 14) : Bool :=
  isBackground b && backgroundOn s b && partFree s b && (b != blockInject || s.ctl.execs.isEmpty) && s.bist[b].running.isNone && !sessionInvasive s &&
    decide (3 ≤ stateCode s.mod.state) && keeperServes s

/-- A snapshot commit is in progress: service for WEAVE_INJECT. -/
def committingNow (s : State) : Bool := s.ctl.execs.any fun e => e.phase == .committing

/-- A background run begins; one that meets service gives way at once. -/
def beginBackground (b : Fin 14) (s : State) : State :=
  let s := startRun b 0 true s
  if b = blockInject ∧ committingNow s = true then abortRun b s else s

def execBistBgIntervalExpiry (t : Nat) (block : Fin 14) (s : State) : Host.Outcome State Fault Refusal :=
  let s := atTime t s
  .next (if backgroundDue s block ∧ s.bist[block].lastBackground + cfg s P.bgInterval ≤ s.path.hours then beginBackground block s else s)

def execBistBgRetryExpiry (t : Nat) (block : Fin 14) (s : State) : Host.Outcome State Fault Refusal :=
  let s := atTime t s
  .next (match s.bist[block].retryFrom with
    | none => s
    | some a => if backgroundDue s block ∧ a + msToNs (1000 * cfg s P.bgRetry) ≤ t then beginBackground block s else s)

end Sys2Proof.Machine
end

