-- ==== Sys2Proof/Machine/CmdPower.lean ====
section
/-! DEFINITION. Power states and counters: PWR.SET, DORMANT and its wake sources, the scrub window and the operating-hours counter
(R172, R364, R376, R380, R383 to R388). -/

namespace Sys2Proof.Machine

open Sys2Proof

/-! ### PWR.SET POWER_STATE, R384, R385 -/

def powerOfCode : Nat → PowerState
  | 0 => .full
  | 1 => .doze
  | 2 => .nap
  | _ => .dormant

/-- The allowed combinations. -/
def powerAllowed (s : State) (p : PowerState) : Bool :=
  match p, s.mod.state with
  | .full, _ => true
  | .doze, .boot | .doze, .selftest => false
  | .doze, _ => true
  | .nap, .standby => true
  | .nap, _ => false
  | .dormant, .ready => !s.pair.catchingUp && s.tow.catchup.isNone
  | .dormant, _ => false

/-- Full-form records of the last 10 s need more than 0.5 GB/s (R172). -/
def napTooMuch (s : State) : Bool :=
  let recent := s.tow.fullFormBytes.filter fun p => decide (nowOf s ≤ p.1 + 10000000000)
  decide (5000000000 < (recent.map fun p => p.2).foldl (· + ·) 0)

def napBarred (s : State) : Bool := napTooMuch s || sessionInvasive s || s.tow.proof.isSome

/-- Entry to NAP: the lanes stop, and no shadow execution goes on. -/
def enterNap (s : State) : State := setPower .nap 0 (haltExecs s)

/-- Entry to DORMANT: connections and debug sessions close, CAN channels sleep, the tow line and the isolation link stop, and the
monitor's channels are as when yielded (R306, R383). -/
def enterDormant (s : State) : State :=
  let s := sleepCan 1 (sleepCan 0 (closeSession (endConns s)))
  let s := match s.pair.offer with
    | some j => jend j .failed stStateConflict (onPair (fun p => { p with offer := none }) s)
    | none => s
  let s := pairChanged (fun p => { p with paired := false, partner := none, lastHeartbeat := none, silence := false, heardOffer := false }) s
  let s := onTow (fun t => { t with up := false, serving := false, records := [], shadowBarges := [], activeBarges := [] }) s
  let s := onField (fun f => { f with toSend := [], safeToSend := false, downlinks := [], uplinks := [], heldUpdates := [] }) s
  let s := if s.field.monitor = .run then yieldStages [] (applySafeStates (onField (fun f => { f with monitor := .silent }) s)) else s
  setPower .dormant 0 s

/-- A change of power state that is accepted; background tests give way (R380). -/
def changePower (p : PowerState) (s : State) : State :=
  if s.mod.power = p then s
  else
    let s := abortAllBackground s
    match p with
    | .nap => enterNap s
    | .dormant => enterDormant s
    | _ => setPower p 0 s

/-- The refusal of a combination that is not allowed (R384). -/
def refusePower (h : ReqHdr) (s : State) : State :=
  if isRole s.mod.state then respond h 0x0E00 stRoleConflict [] s else conflict h 0x0E00 s

/-- In DORMANT, FULL and DOZE wake the module, which then enters PWR_DEFAULT_STATE. -/
def doPowerState (h : ReqHdr) (code : Nat) (s : State) : State :=
  let p := powerOfCode code
  if powerAllowed s p = false then refusePower h s
  else if p = .nap ∧ s.mod.power ≠ .nap ∧ napBarred s = true then conflict h 0x0E00 s
  else if s.mod.power = .dormant ∧ p ≠ .dormant then beginWake 5 (respond h 0x0E00 stOk [] s)
  else respond h 0x0E00 stOk [] (changePower p s)

def reqPwrSetPowerState (h : ReqHdr) (code : Nat) (s : State) : State :=
  serve (.pwrSetPowerState code) h 0x0E00 4 true (needs (decide (code < 4)) fUndefined 1) (doPowerState h code) s

def execPwrSetPowerState (t : Nat) (h : ReqHdr) (code : Nat) (s : State) : Host.Outcome State Fault Refusal :=
  .next (reqPwrSetPowerState h code (atTime t s))

/-! ### PWR.SET RESTART, R376 -/

/-- The response goes out, and the restart begins. -/
def doRestart (h : ReqHdr) (s : State) : State :=
  if s.mod.state = .active ∧ runningTasks s ≠ [] then respond h 0x0E00 stRoleConflict [] s
  else if s.mod.state = .standby ∧ s.tow.proof.isSome = true then respond h 0x0E00 stRoleConflict [] s
  else beginRestart 3 (respond h 0x0E00 stOk [] s)

def reqPwrSetRestart (h : ReqHdr) (s : State) : State := serve .pwrSetRestart h 0x0E00 4 true [] (doRestart h) s

def execPwrSetRestart (t : Nat) (h : ReqHdr) (s : State) : Host.Outcome State Fault Refusal := .next (reqPwrSetRestart h (atTime t s))

/-! ### Wake sources, R387, R388 -/

def wakeEnabled (s : State) (n : Nat) : Bool := bitAt (cfg s P.wakeSources) n

def execWakePadLow (t : Nat) (s : State) : Host.Outcome State Fault Refusal :=
  let s := atTime t s
  .next (if wakeEnabled s 3 then beginWake 3 s else s)

/-- A wake frame's payload names this module, or every module of its owner. -/
def wakeMatches (s : State) (payload : List Byte) : Bool :=
  payload.length == 16 && beNat (sliceAt payload 0 4) == 0x56574B31 &&
    ((bitAt (beNat (sliceAt payload 6 2)) 0 && beNat (sliceAt payload 4 2) == ownerId s) ||
      beNat (sliceAt payload 8 8) == Config.serial.toNat)

/-- WAKE_FRAME_RECEIVE: a UDP datagram to PWR_WAKE_UDP_PORT on VBP_VLAN that matches. -/
def execWakeFrameReceive (t : Nat) (port : Fin 3) (vlan udpPort : Nat) (payload : List Byte) (s : State) : Host.Outcome State Fault Refusal :=
  let s := atTime t s
  .next (if wakeEnabled s 2 && s.sw.ports[port].linkUp && decide (vlan = cfg s P.vlan) && decide (udpPort = cfg s P.wakeUdpPort) &&
    wakeMatches s payload then beginWake 2 s else s)

/-- The wake sequence up to PWR_DEFAULT_STATE: the isolation link runs, the monitor is in RUN, the tow line is up, and the servo
starts in ACQUIRING. -/
def wakeUp (t : Nat) (s : State) : State :=
  match s.mod.power, s.mod.waking with
  | .dormant, some _ =>
    let s := onMod (fun m => { m with waking := none }) s
    let s := setPower (defaultPower s) 2 (onTow (fun x => { x with up := true }) s)
    let s := onField (fun f => { f with lastUplink := some t, lastDownlink := some t }) s
    let s := if s.field.monitor = .silent then enterRun s else s
    if s.time.servo = .freeRun then s else startServo t (setServo t .acquiring s)
  | _, _ => s

/-! ### In DORMANT: the Basin's scrub window, R383 -/

/-- The codewords read in the second outside self-refresh; errors are the matter of SCRUB_CODEWORD. -/
def execDormantScrubWindow (t : Nat) (codewords : Nat) (s : State) : Host.Outcome State Fault Refusal :=
  let s := atTime t s
  .next (if s.path.powered ∧ s.mod.power = .dormant then onBasin (fun b => { b with scrubbed := b.scrubbed + codewords }) s else s)

/-! ### Counters, R364 -/

/-- Copies of the counters to MRAM, and of the registers that outlive a loss of power. -/
def saveCounters (s : State) : State :=
  onPath (fun p => { p with mramHours := p.hours, mramSeconds := p.seconds, mramCycles := p.powerCycles }) s

/-- OPERATING_HOURS_TICK: one second while at least one feed is in range; every full hour is copied to MRAM. -/
def execOperatingHoursTick (t : Nat) (s : State) : Host.Outcome State Fault Refusal :=
  let s := atTime t s
  .next (if s.path.feeds[0].inRange || s.path.feeds[1].inRange then
      if s.path.seconds < 3599 then onPath (fun p => { p with seconds := p.seconds + 1 }) s
      else saveCounters (onPath (fun p => { p with hours := sat32 (p.hours + 1), seconds := 0 }) s)
    else s)

end Sys2Proof.Machine
end

