-- ==== Sys2Proof/Machine/CmdUpdate.lean ====
section
/-! DEFINITION. Firmware update: the header checks, the lease, the delta, the rebuild, activation, boot confirmation and the update
of a pair (R430 to R443, R466). -/

namespace Sys2Proof.Machine

open Sys2Proof

/-! ### The lease, R436 -/

/-- The payload of LEASE_HELD: holder, transport, seconds to the idle timeout. The idle time does not run while APPLY runs. -/
def leasePayload (s : State) (l : Lease) : List Byte :=
  let gone := if s.upd.applying.isSome then 0 else (nowOf s - l.lastCommand) / 1000000000
  le4 l.session ++ [byteOf l.transport] ++ zeros 3 ++ le4 (60 - gone)

/-- The lease is held by another session. -/
def heldByOther (s : State) (h : ReqHdr) : Option Lease :=
  match s.upd.lease with
  | some l => if l.session = h.session then none else some l
  | none => none

/-- An update command of the holder restarts the idle time. -/
def touchLease (h : ReqHdr) (s : State) : State :=
  onUpd (fun u => { u with lease := u.lease.map fun l => if l.session = h.session then { l with lastCommand := nowOf s } else l }) s

/-- Another session's update command is refused; the holder's restarts its idle time. -/
def leased (h : ReqHdr) (code : Nat) (body : State → State) (s : State) : State :=
  match heldByOther s h with
  | some l => respond h code stLeaseHeld (leasePayload s l) s
  | none => body (touchLease h s)

/-- The session holds the lease and no APPLY runs. -/
def mayDeliver (s : State) : Bool := s.upd.lease.isSome && s.upd.applying.isNone

/-! ### UPD.OPEN, R432 -/

/-- Check 1: the header's own form. -/
def formFindings (hd : List Byte) : List Finding :=
  needs (natAt hd 0 4 == headerMagic) fUndefined 0 ++ needs (natAt hd 4 2 == 1) fUndefined 4 ++ needs (decide (hdrKind hd ≤ 1)) fUndefined 13 ++
    needs ((sliceAt hd 34 30).all fun b => b == 0) fUndefined 34

/-- Check 3: part and hardware revision. -/
def fitFindings (hd : List Byte) : List Finding :=
  needs (natAt hd 6 2 == 0x6416) fRange 6 ++ needs (bitAt (natAt hd 8 4) Config.hwRev.toNat) fRange 8

/-- Check 5: the base is the active image. -/
def baseOk (s : State) (hd : List Byte) : Bool :=
  let a := bootSlotOf s
  hdrBase hd == 0 || (hdrBase hd == slotVersion a && hdrBaseDigest hd == imageDigest a && a.state != .damaged)

/-- Check 7: the result fits its slot, and the delta the UPDATE quota. -/
def sizeFindings (s : State) (hd : List Byte) : List Finding :=
  needs (decide (hdrResult hd ≤ 25165824)) fQuota 28 ++ needs (decide (pages (hdrDelta hd) ≤ quotaOf s 6)) fQuota 24

/-- The first check that fails, with its status and payload. -/
def openRefusal (s : State) (h : ReqHdr) (hd : List Byte) : Option (Nat × List Byte) :=
  let bad (fs : List Finding) : Option (Nat × List Byte) := some (stBadArgument, findingsList s.drawn fs)
  if formFindings hd ≠ [] then bad (formFindings hd)
  else if signatureOk s hd = false then bad [fieldFinding fRange 160]
  else if fitFindings hd ≠ [] then bad (fitFindings hd)
  else if hdrLifecycleOk s hd = false then some (stLifecycle, [])
  else if baseOk s hd = false then bad [fieldFinding fRange 20]
  else if hdrVersion hd < slotVersion (bootSlotOf s) ∧ cfg s P.allowDowngrade = 0 then bad [fieldFinding fRange 16]
  else if sizeFindings s hd ≠ [] then some (stOverQuota, findingsList s.drawn (sizeFindings s hd))
  else (heldByOther s h).map fun l => (stLeaseHeld, leasePayload s l)

/-- The header is taken: an interrupted update with the same header resumes, and a different one discards its slot (R435). -/
def takeHeader (h : ReqHdr) (hd : List Byte) (s : State) : State :=
  let same := match s.upd.interrupted with
    | some x => x.1 == hd
    | none => false
  let s := match s.upd.interrupted with
    | some _ => if same then s
      else onUpd (fun u => { u with interrupted := none })
        (onSlot (inactiveSlot s) (fun x => if x.state = .building then { state := .empty, header := [], image := [] } else x) s)
    | none => s
  let keep := same && s.upd.header == hd
  let l : Lease := { session := h.session, transport := transportOf s h.src, lastCommand := nowOf s }
  let done := match s.upd.interrupted with
    | some x => x.2
    | none => 0
  onUpd (fun u => { u with lease := some l, header := hd, delta := if keep then u.delta else [], rebuilt := done }) s

def doUpdOpen (h : ReqHdr) (hd : List Byte) (s : State) : State :=
  match openRefusal s h hd with
  | some (status, payload) => respond h 0x0C00 status payload (draw (touchLease h s))
  | none =>
    if s.upd.applying.isSome then conflict h 0x0C00 (touchLease h s)
    else if h.dryRun then respond h 0x0C00 stOk [] (touchLease h s)
    else respond h 0x0C00 stOk [] (takeHeader h hd s)

def reqUpdOpen (h : ReqHdr) (header : List Byte) (s : State) : State :=
  serve (.updOpen header) h 0x0C00 header.length (header.length == 256) [] (doUpdOpen h header) s

def execUpdOpen (t : Nat) (h : ReqHdr) (header : List Byte) (s : State) : Host.Outcome State Fault Refusal :=
  .next (reqUpdOpen h header (atTime t s))

/-! ### UPD.CHUNK, R434 -/

def doUpdChunk (h : ReqHdr) (offset : Nat) (data : List Byte) (s : State) : State :=
  if mayDeliver s = false then conflict h 0x0C01 s
  else
    let fs := needs (offset == s.upd.delta.length) fRange 0 ++ needs (decide (offset + data.length ≤ hdrDelta s.upd.header)) fRange 4
    if fs ≠ [] then badArgument h 0x0C01 fs s
    else
      let s := onUpd (fun u => { u with delta := u.delta ++ data }) s
      respond h 0x0C01 stOk (le4 s.upd.delta.length) s

def reqUpdChunk (h : ReqHdr) (offset : Nat) (data : List Byte) (s : State) : State :=
  serve (.updChunk offset data) h 0x0C01 (8 + data.length) true [] (leased h 0x0C01 (doUpdChunk h offset data)) s

def execUpdChunk (t : Nat) (h : ReqHdr) (offset : Nat) (data : List Byte) (s : State) : Host.Outcome State Fault Refusal :=
  .next (reqUpdChunk h offset data (atTime t s))

/-! ### The delta, R433 -/

/-- Runs the operations of a stream over the base image, which is empty for a base version of 0: such a delta contains no COPY. None
where the stream is malformed. -/
def runDelta (base : List Byte) : Nat → List Byte → List Byte → Option (List Byte)
  | 0, _, _ => none
  | n + 1, ops, out =>
    if ops.length < 16 then none
    else
      let len := natAt ops 4 4
      let src := natAt ops 8 8
      let rest := ops.drop 16
      match natAt ops 0 1 with
      | 1 => if base ≠ [] ∧ src + len ≤ base.length then runDelta base n rest (out ++ sliceAt base src len) else none
      | 2 =>
        let padded := (len + 7) / 8 * 8
        if padded ≤ rest.length then runDelta base n (rest.drop padded) (out ++ rest.take len) else none
      | 3 => if rest.isEmpty then some out else none
      | _ => none

/-- The result of the delta that was delivered; none where it is incomplete, malformed, or of another length. -/
def rebuiltImage (s : State) : Option (List Byte) :=
  let hd := s.upd.header
  let base := if hdrBase hd = 0 then [] else (bootSlotOf s).image
  if s.upd.delta.length ≠ hdrDelta hd then none
  else
    match runDelta base (s.upd.delta.length + 1) s.upd.delta [] with
    | some out => if out.length = hdrResult hd then some out else none
    | none => none

/-! ### UPD.CLOSE APPLY and the rebuild, R434, R435 -/

/-- The lease is released, and the update ends with a status. -/
def endUpdate (status : Nat) (s : State) : State :=
  onUpd (fun u => { u with lease := none, applying := none, header := [], delta := [], interrupted := none, lastStatus := status }) s

def beginApply (id : Nat) (s : State) : State :=
  let s := jmod id (fun e => { e with state := .running, step := 1 }) s
  match rebuiltImage s with
  | none => jend id .failed stBadArgument (onUpd (fun u => { u with lease := none, lastStatus := stBadArgument }) s)
  | some _ =>
    let s := onSlot (inactiveSlot s) (fun x => { x with state := .building, header := s.upd.header }) s
    onUpd (fun u => { u with applying := some (id, 1) }) s

def doApply (h : ReqHdr) (s : State) : State :=
  if mayDeliver s = false then conflict h 0x0C02 s else acceptLong h 0x0C02 4 beginApply s

def reqUpdCloseApply (h : ReqHdr) (s : State) : State := serve .updCloseApply h 0x0C02 4 true [] (leased h 0x0C02 (doApply h)) s

def execUpdCloseApply (t : Nat) (h : ReqHdr) (s : State) : Host.Outcome State Fault Refusal := .next (reqUpdCloseApply h (atTime t s))

/-- IMAGE_REBUILD_COMPLETE: the slot is read back and its digest compared. Flash blocks that failed while it was programmed have been
replaced (R424). -/
def execImageRebuildComplete (t : Nat) (found : List BlockReport) (s : State) : Host.Outcome State Fault Refusal :=
  let s := takeReports found (atTime t s)
  .next (match s.upd.applying, rebuiltImage s with
    | some (j, _), some out =>
      let n := inactiveSlot s
      let hd := s.upd.header
      let s := jmod j (fun e => { e with step := 4, detail := out.length }) (onUpd (fun u => { u with rebuilt := out.length }) s)
      if sha384 out = hdrDigest hd then
        jend j .done stOk (endUpdate stOk (onSlot n (fun _ => { state := .built, header := hd, image := out }) s))
      else
        jend j .failed stBadArgument (endUpdate stBadArgument (onSlot n (fun _ => { state := .empty, header := [], image := [] }) s))
    | _, _ => s)

/-! ### UPD.CLOSE ABANDON -/

/-- The update is abandoned; an APPLY that runs is cut short. -/
def abandonUpdate (id : Nat) (s : State) : State :=
  let apply := s.upd.applying
  let s := cutApply s
  let s := match apply with
    | some (j, _) => jend j .partly stPartial s
    | none => s
  let s := onUpd (fun u => { u with lease := none, header := [], delta := [] }) s
  jend id .done stOk (jmod id (fun e => { e with step := 1 }) s)

def doAbandon (h : ReqHdr) (s : State) : State :=
  if s.upd.lease.isNone then conflict h 0x0C02 s else acceptLong h 0x0C02 1 abandonUpdate s

def reqUpdCloseAbandon (h : ReqHdr) (s : State) : State := serve .updCloseAbandon h 0x0C02 4 true [] (leased h 0x0C02 (doAbandon h)) s

def execUpdCloseAbandon (t : Nat) (h : ReqHdr) (s : State) : Host.Outcome State Fault Refusal :=
  .next (reqUpdCloseAbandon h (atTime t s))

/-- UPDATE_LEASE_IDLE_EXPIRY. -/
def execUpdateLeaseIdleExpiry (t : Nat) (s : State) : Host.Outcome State Fault Refusal :=
  let s := atTime t s
  .next (match s.upd.lease with
    | some l => if s.upd.applying.isNone ∧ l.lastCommand + 60000000000 ≤ t then onUpd (fun u => { u with lease := none }) s else s
    | none => s)

/-! ### UPD.STATUS -/

def slotCode : SlotState → Nat
  | .empty => 0
  | .valid => 1
  | .active => 2
  | .building => 3
  | .built => 4
  | .trial => 5
  | .reverted => 6
  | .damaged => 7

def updPayload (s : State) : List Byte :=
  let u := s.upd
  [byteOf (flag 0 u.lease.isSome), byteOf (slotCode u.slots[0].state), byteOf (slotCode u.slots[1].state), 0] ++
    le4 (match u.lease with
      | some l => l.session
      | none => 0) ++
    le4 u.delta.length ++ le4 u.rebuilt ++ le4 (slotVersion u.slots[0]) ++ le4 (slotVersion u.slots[1]) ++ le2 u.lastStatus ++ le2 0

def doUpdStatus (h : ReqHdr) (s : State) : State := respond h 0x0C04 stOk (updPayload s) s

def reqUpdStatus (h : ReqHdr) (s : State) : State := serve .updStatus h 0x0C04 0 true [] (doUpdStatus h) s

def execUpdStatus (t : Nat) (h : ReqHdr) (s : State) : Host.Outcome State Fault Refusal := .next (reqUpdStatus h (atTime t s))

/-! ### UPD.ACTIVATE, R437 to R439 -/

/-- The Keeper stops for a restart of its own: network sessions, nonces and debug sessions end (R438, R456, R459). -/
def pauseKeeper (cause : Nat) (s : State) : State :=
  let s := onSec (fun c => { c with nonces := [] }) (closeSession (endConns s))
  onKeeper (fun k => { k with running := false, restartCause := cause }) s

/-- Kind of a slot's image: the factory image counts as FULL. -/
def slotKind (x : FwSlot) : Nat := if isFactoryImage x then 1 else hdrKind x.header

def slotFormat (x : FwSlot) : Nat := if isFactoryImage x then factoryFormat else hdrMirror x.header

/-- The boot record names the slot TRIAL, and the previous slot stays as the fallback. -/
def writeBootRecord (s : State) : State :=
  let n := inactiveSlot s
  let old := s.upd.bootSlot
  onUpd (fun u => { u with bootSlot := n, fallback := some old, trialSince := some (nowOf s) }) (onSlot n (fun x => { x with state := .trial }) s)

/-- The slot's bytes still match the digest of its header (R439, step 1). -/
def digestHolds (x : FwSlot) : Bool := isFactoryImage x || imageDigest x == hdrDigest x.header

/-- Activates the inactive slot: the Keeper alone restarts, or the module. -/
def activate (s : State) : State :=
  let kind := slotKind s.upd.slots[inactiveSlot s]
  let s := writeBootRecord s
  if kind = 0 then pauseKeeper 2 s else beginRestart 2 s

/-- Conditions of every activation. -/
def activateBarred (s : State) : Bool :=
  let x := s.upd.slots[inactiveSlot s]
  let fits := decide (slotFormat x ≤ s.pair.partnerFormat + 1) && decide (s.pair.partnerFormat ≤ slotFormat x + 1)
  !(x.state == .built || x.state == .valid) || exchangeBusy s || s.tow.proof.isSome || (s.pair.paired && !fits) ||
    s.upd.applying.isSome || s.upd.pairUpdate.isSome || s.upd.fallback.isSome || sessionInvasive s

/-- Step 1 of the pair procedure: the partner activates its image; the active waits for it. -/
def beginPairUpdate (id : Nat) (s : State) : State :=
  let p : PairUpdate := { journal := id, step := 1, activatedAt := nowOf s }
  jmod id (fun e => { e with state := .running, step := 1 }) (onUpd (fun u => { u with pairUpdate := some p }) s)

/-- The entry of an activation runs; a FULL image whose read-back fails the digest check ends it (R439; the status is the model's,
notes/assumptions/96.md). -/
def beginActivation (id : Nat) (s : State) : State :=
  let s := jmod id (fun e => { e with state := .running, step := 1 }) s
  let x := s.upd.slots[inactiveSlot s]
  if slotKind x ≠ 0 ∧ digestHolds x = false then jend id .failed stBadArgument s else activate s

def doActivate (h : ReqHdr) (pairProcedure : Bool) (s : State) : State :=
  let kind := slotKind s.upd.slots[inactiveSlot s]
  if activateBarred s then conflict h 0x0C03 s
  else if pairProcedure then
    -- Which image the partner's inactive slot holds is not said on the tow line: a free bit.
    let has := (freeWord s).getLsbD 0
    let s := draw s
    if s.mod.state ≠ .active ∨ partnerStandby s = false ∨ kind = 0 ∨ has = false then conflict h 0x0C03 s
    else acceptLong h 0x0C03 5 beginPairUpdate s
  else if kind ≠ 0 ∧ s.mod.state = .active ∧ runningTasks s ≠ [] then respond h 0x0C03 stRoleConflict [] s
  else acceptLong h 0x0C03 (if kind = 0 then 1 else 5) beginActivation s

def reqUpdActivate (h : ReqHdr) (pairProcedure : Bool) (s : State) : State :=
  serve (.updActivate pairProcedure) h 0x0C03 4 true [] (leased h 0x0C03 (doActivate h pairProcedure)) s

def execUpdActivate (t : Nat) (h : ReqHdr) (pairProcedure : Bool) (s : State) : Host.Outcome State Fault Refusal :=
  .next (reqUpdActivate h pairProcedure (atTime t s))

/-! ### BOOT_CONFIRM_TIMEOUT, R441 -/

/-- An image on trial has not confirmed its boot: 30 s after a module restart, 250 ms after a Keeper restart. The boot of the
fallback follows. -/
def execBootConfirmTimeout (t : Nat) (s : State) : Host.Outcome State Fault Refusal :=
  let s := atTime t s
  .next (match s.upd.trialSince with
    | none => s
    | some a =>
      if s.mod.restarting ∧ a + 30000000000 ≤ t then revertSlot 1 stInternal s
      else if s.mod.restarting = false ∧ s.keeper.running = false ∧ s.path.powered = true ∧ a + 250000000 ≤ t then revertSlot 1 stInternal s
      else s)

/-! ### The pair procedure, R443 -/

/-- The procedure ends FAILED at its step. -/
def failPairUpdate (p : PairUpdate) (s : State) : State :=
  jend p.journal .failed stInternal (jmod p.journal (fun e => { e with step := p.step }) (onUpd (fun u => { u with pairUpdate := none }) s))

def stepPairUpdate (p : PairUpdate) (step : Nat) (s : State) : State :=
  jmod p.journal (fun e => { e with step := step })
    (onUpd (fun u => { u with pairUpdate := some { p with step := step, activatedAt := if step = 4 then nowOf s else p.activatedAt } }) s)

/-- A module of the pair procedure has returned to `STANDBY`. The partner's image is not said on the tow line: whether it kept the
new one is a free bit. -/
def advancePairUpdate (p : PairUpdate) (s : State) : State :=
  match p.step with
  | 1 =>
    if s.mod.state ≠ .active then failPairUpdate p s
    else if partnerStandby s then s
    else stepPairUpdate p 2 s
  | 2 =>
    if s.mod.state ≠ .active then failPairUpdate p s
    else if partnerStandby s = false then s
    else
      let kept := (freeWord s).getLsbD 0
      let s := draw s
      if kept = false ∨ partnerFlag s = true ∨ switching s = true then failPairUpdate p s
      else beginSwitch 0 false false (stepPairUpdate p 3 s)
  | 3 =>
    if s.mod.state = .standby then activate (stepPairUpdate p 4 s)
    else if s.mod.state = .active then s
    else failPairUpdate p s
  | _ =>
    if s.mod.state = .standby then
      jend p.journal .done stOk (jmod p.journal (fun e => { e with step := 5 }) (onUpd (fun u => { u with pairUpdate := none }) s))
    else s

def execPairUpdateStepAdvance (t : Nat) (s : State) : Host.Outcome State Fault Refusal :=
  let s := atTime t s
  .next (match s.upd.pairUpdate with
    | some p => if s.mod.restarting then s else advancePairUpdate p s
    | none => s)

/-- PAIR_UPDATE_STEP_TIMEOUT: a module has not returned to `STANDBY` within 60 s of its activation. -/
def execPairUpdateStepTimeout (t : Nat) (s : State) : Host.Outcome State Fault Refusal :=
  let s := atTime t s
  .next (match s.upd.pairUpdate with
    | some p => if p.activatedAt + 60000000000 ≤ t then failPairUpdate p s else s
    | none => s)

/-- A module that the procedure restarted releases itself at `HELD` when it carries no self-test flag; with one the procedure ends. -/
def releaseAfterUpdate (s : State) : State :=
  match s.upd.pairUpdate with
  | none => s
  | some p =>
    if s.mod.state ≠ .held ∨ p.step ≠ 4 then s
    else if moduleFlag s ∨ s.settings.unreadable = true ∨ usableLanes s < 2 then failPairUpdate p s
    else release s

end Sys2Proof.Machine
end

