-- ==== Sys2Proof/Machine/CmdSec.lean ====
section
/-! DEFINITION. Security commands: nonces, signed unlocks and lifecycle changes, fuse writes, the levels that each lifecycle and
module state offers (R444 to R453, R456 to R463, R466). -/

namespace Sys2Proof.Machine

open Sys2Proof

/-! ### The level matrix, R463 -/

/-- The level that a lifecycle offers in a module state, with or without authentication. -/
def matrixLevel (s : State) : DbgLevel :=
  match s.sec.lifecycle, s.mod.state with
  | .blank, .boot | .blank, .selftest => if s.sec.bistHeld then .invasive else .closed
  | .blank, .standby | .blank, .active => .observe
  | .blank, _ => .invasive
  | .provisioned, .boot | .provisioned, .selftest | .deployed, .boot | .deployed, .selftest => .closed
  | .provisioned, .standby | .provisioned, .active | .deployed, .standby | .deployed, .active => .observe
  | .provisioned, _ => .invasive
  | .deployed, .maintenance => .invasive
  | .deployed, _ => .observe
  | .returned, .held => .invasive
  | .returned, _ => .closed

/-- BLANK and RETURNED open a level without authentication. -/
def opensFreely (s : State) : Bool := s.sec.lifecycle == .blank || s.sec.lifecycle == .returned

def atLeast (a b : DbgLevel) : Bool := decide (levelCode b ≤ levelCode a)

/-! ### Opening a session, R456, R466 -/

/-- Background self-test is suspended, a catch-up waits, and an offer of the claim ends. -/
def suspendJoin (s : State) : State :=
  let s := abortAllBackground s
  let s := if s.mod.state = .ready then
      let s := pairChanged (fun p => { p with catchingUp := false }) (onTow (fun w => { w with catchup := none }) s)
      pairChanged (fun p => { p with paired := false }) s
    else s
  match s.pair.offer with
  | some j => jend j .failed stStateConflict (onPair (fun p => { p with offer := none }) s)
  | none => s

/-- A session opens and replaces any session already open. -/
def openSession (level : DbgLevel) (keySlot : Option (Fin 4)) (s : State) : State :=
  let s := closeSession s
  let x : DbgSession := { level := level, keySlot := keySlot, lastTck := nowOf s }
  let s := onSec (fun c => { c with session := some x }) s
  if level = .invasive then suspendJoin s else s

/-! ### SEC.CHALLENGE, R459 -/

def levelOfCode : Nat → DbgLevel
  | 0 => .closed
  | 1 => .observe
  | _ => .invasive

/-- A fresh nonce; a fifth cancels the oldest. -/
def giveNonce (level : Nat) (s : State) : State :=
  let value := beBytes 32 (Config.nonce s.drawn).toNat
  let n : Nonce := { id := s.sec.nextNonce + 1, level := levelOfCode level, value := value, expires := nowOf s + msToNs (1000 * cfg s P.nonceLifetime) }
  draw (onSec (fun c => { c with nextNonce := n.id, nonces := lastN 4 (c.nonces ++ [n]) }) s)

def doChallenge (h : ReqHdr) (level : Nat) (s : State) : State :=
  let s' := giveNonce level s
  let value := match s'.sec.nonces.getLast? with
    | some n => n.value
    | none => []
  respond h 0x0D00 stOk (le4 s'.sec.nextNonce ++ le4 (cfg s P.nonceLifetime) ++ value) s'

def reqSecChallenge (h : ReqHdr) (level : Nat) (s : State) : State :=
  serve (.secChallenge level) h 0x0D00 4 true (needs (level == 1 || level == 2) fUndefined 0) (doChallenge h level) s

def execSecChallenge (t : Nat) (h : ReqHdr) (level : Nat) (s : State) : Host.Outcome State Fault Refusal :=
  .next (reqSecChallenge h level (atTime t s))

/-- NONCE_EXPIRY. -/
def execNonceExpiry (t : Nat) (nonce : Nat) (s : State) : Host.Outcome State Fault Refusal :=
  let s := atTime t s
  .next (onSec (fun c => { c with nonces := c.nonces.filter fun n => n.id != nonce || decide (t < n.expires) }) s)

/-! ### The checks of R461 -/

def unlockPurpose : Nat := 0x56444247
def lifecyclePurpose : Nat := 0x564C4346

/-- The signed message of 48 bytes, R460. -/
def signedMessage (purpose levelOrTarget slot : Nat) (nonce : List Byte) : List Byte :=
  le4 purpose ++ [byteOf levelOrTarget, byteOf slot] ++ le2 0 ++ le8 Config.serial.toNat ++ nonce

/-- The outstanding nonce of an ID, still valid. -/
def nonceOf (s : State) (id : Nat) : Option Nonce := s.sec.nonces.find? fun n => n.id == id && decide (nowOf s < n.expires)

/-- The first command that names a nonce consumes it. -/
def consumeNonce (id : Nat) (s : State) : State := onSec (fun c => { c with nonces := c.nonces.filter fun n => n.id != id }) s

def tenMinutes : Nat := 600000000000

/-- A failure at check 7: the event, and LOCKOUT at the third within 10 min. -/
def noteFailure (level slot : Nat) (s : State) : State :=
  let s := stage 0x1103 srcModule [byteOf level, byteOf slot] s
  let recent := (s.sec.failures.filter fun a => decide (nowOf s ≤ a + tenMinutes)) ++ [nowOf s]
  if 3 ≤ recent.length then onSec (fun c => { c with failures := [], lockoutUntil := some (nowOf s + tenMinutes) }) s
  else onSec (fun c => { c with failures := recent }) s

/-- LOCKOUT_EXPIRY. -/
def execLockoutExpiry (t : Nat) (s : State) : Host.Outcome State Fault Refusal :=
  let s := atTime t s
  .next (match s.sec.lockoutUntil with
    | some u => if u ≤ t then onSec (fun c => { c with lockoutUntil := none }) s else s
    | none => s)

/-! ### SEC.UNLOCK -/

def verifies (s : State) (slot : Nat) (message signature : List Byte) : Bool :=
  match slotKey s slot with
  | some k => ecdsaVerify k message signature
  | none => false

/-- The level that the signed message names: the request itself does not carry it. The module tries the levels that the nonce
serves; where the signature verifies under none, the level is the nonce's. -/
def unlockLevel (s : State) (n : Nonce) (slot : Nat) (signature : List Byte) : DbgLevel :=
  if n.level = .invasive ∧ verifies s slot (signedMessage unlockPurpose 1 slot n.value) signature = true then .observe else n.level

/-- The status, and payload, of the first of checks 1 to 6 that fails; none goes on to check 7. -/
def unlockRefusal (s : State) (found : Option Nonce) (slot : Nat) (level : DbgLevel) : Option (Nat × List Byte) :=
  let conflicted := some (stStateConflict, conflictPayload s (cmdRow 0x0D01).legal)
  if s.sec.lockoutUntil.isSome then some (stNotAuthorised, [])
  else if found.isNone then some (stBadArgument, findingsList s.drawn [fieldFinding fRange 0])
  else if (slotKey s slot).isNone then some (stBadArgument, findingsList s.drawn [fieldFinding fRange 4])
  else if opensFreely s then some (stLifecycle, [])
  else if level = .invasive ∧ isRole s.mod.state = true then some (stRoleConflict, [])
  else if level = .invasive ∧ (atLeast (matrixLevel s) .invasive = false ∨ s.mod.power = .nap) then conflicted
  else none

def doUnlock (h : ReqHdr) (nonce slot : Nat) (signature : List Byte) (s : State) : State :=
  let got := nonceOf s nonce
  let level := match got with
    | some n => unlockLevel s n slot signature
    | none => .closed
  let message := match got with
    | some n => signedMessage unlockPurpose (levelCode level) slot n.value
    | none => []
  let refusal := unlockRefusal s got slot level
  let good := verifies s slot message signature
  let s := consumeNonce nonce s
  match refusal with
  | some (status, payload) => respond h 0x0D01 status payload (draw s)
  | none =>
    if good = false then respond h 0x0D01 stNotAuthorised [] (noteFailure (levelCode level) slot s)
    else
      let by_ := if hs : slot < 4 then some (⟨slot, hs⟩ : Fin 4) else none
      let s := stage 0x1102 srcModule [byteOf (levelCode level), byteOf slot] (openSession level by_ s)
      respond h 0x0D01 stOk [byteOf (levelCode level)] s

def reqSecUnlock (h : ReqHdr) (nonce slot : Nat) (signature : List Byte) (s : State) : State :=
  serve (.secUnlock nonce slot signature) h 0x0D01 (8 + signature.length) (signature.length == 96) (needs (decide (slot < 4)) fRange 4)
    (doUnlock h nonce slot signature) s

def execSecUnlock (t : Nat) (h : ReqHdr) (nonce slot : Nat) (signature : List Byte) (s : State) : Host.Outcome State Fault Refusal :=
  .next (reqSecUnlock h nonce slot signature (atTime t s))

/-! ### Fuse writes, R451 -/

/-- A feed is in range and the hold-up capacitor is charged. -/
def mayBlow (s : State) : Bool := (s.path.feeds[0].inRange || s.path.feeds[1].inRange) && s.path.charged

def onKeySlot (n : Fin 4) (g : KeySlot → KeySlot) (s : State) : State := onSec (fun c => { c with keys := vmod c.keys n g }) s

/-- Network connections whose chain a slot signed end with its revocation (R462). -/
def endSlotConns (n : Fin 4) (s : State) : State :=
  ((s.keeper.conns.filter fun c => c.keySlot == n).map fun c => c.session).foldl (fun s id => endConn id s) s

/-- Every change of the lifecycle closes every session and records LIFECYCLE_CHANGED; the entry ends. -/
def endLifecycle (journal : Nat) (old : Lifecycle) (slot : Byte) (s : State) : State :=
  let s := stage 0x1101 srcModule [byteOf (lifecycleCode old), byteOf (lifecycleCode s.sec.lifecycle), slot] (closeSession s)
  jend journal .done stOk (jmod journal (fun e => { e with step := 2 }) s)

/-- The device key and its certificate (R458). -/
def makeDeviceKey (s : State) : State :=
  draw (onSec (fun c => { c with deviceKey := true, fingerprint := beBytes 48 (Config.fingerprint s.drawn).toNat }) s)

def setLifecycle (l : Lifecycle) (s : State) : State := onSec (fun c => { c with lifecycle := l }) s

/-- The change of a lifecycle target. RETURNED: WIPE_PENDING, sessions and connections closed, the wipe, and a restart. -/
def changeLifecycle (journal target : Nat) (slot : Byte) (s : State) : State :=
  let old := s.sec.lifecycle
  if target = 1 then endLifecycle journal old slot (setLifecycle .provisioned (makeDeviceKey s))
  else if target = 2 then endLifecycle journal old slot (setLifecycle .deployed s)
  else if target = 3 then
    let s := endConns (closeSession (onSec (fun c => { c with wipePending := true }) s))
    beginRestart 3 (wipe slot s)
  else
    let n : Fin 4 := if ht : target - 0x10 < 4 then ⟨target - 0x10, ht⟩ else 0
    endLifecycle journal old slot (endSlotConns n (onKeySlot n (fun k => { k with revoked := true }) s))

def blowFuse (f : FuseWrite) (s : State) : State :=
  match f with
  | .lifecycle journal target slot => changeLifecycle journal target slot s
  | .keyHash n => onKeySlot n (fun k => { k with hash := some (sha384 k.copy1) }) s

/-- The fuse writes that wait take place where the towpath domain may start them. -/
def blowFuses (s : State) : State :=
  if mayBlow s then s.sec.fuses.foldl (fun s f => blowFuse f s) (onSec (fun c => { c with fuses := [] }) s) else s

def requestFuse (f : FuseWrite) (s : State) : State := blowFuses (onSec (fun c => { c with fuses := c.fuses ++ [f] }) s)

/-! ### SEC.LIFECYCLE, R446, R450 -/

/-- Pairs of present state and target that the table lists. -/
def targetLegal (s : State) (target : Nat) : Bool :=
  match s.sec.lifecycle with
  | .blank => target == 1 || (decide (0x10 ≤ target) && decide (target ≤ 0x13))
  | .provisioned => target == 2 || target == 3 || (decide (0x10 ≤ target) && decide (target ≤ 0x13))
  | .deployed => target == 3 || (decide (0x10 ≤ target) && decide (target ≤ 0x13))
  | .returned => false

/-- The active image's header verifies under a slot that holds a key. -/
def activeVerifies (s : State) : Bool :=
  let x := bootSlotOf s
  !isFactoryImage x && verifies s (hdrSlot x.header) (sliceAt x.header 0 160) (sliceAt x.header 160 96)

/-- The slot signed the header of the active image. -/
def signedActive (s : State) (n : Nat) : Bool := hdrSlot (bootSlotOf s).header == n && activeVerifies s

/-- No slot but this one holds a key. -/
def lastKey (s : State) (n : Nat) : Bool := (List.range 4).all fun m => m == n || (slotKey s m).isNone

/-- The conditions of a target, by R446 and the table of R450. -/
def targetFindings (s : State) (target slot : Nat) : List Finding :=
  if target = 1 then needs (activeVerifies s) fRange 14
  else if 0x10 ≤ target then
    needs (!(slot == target - 0x10 || signedActive s (target - 0x10) || lastKey s (target - 0x10))) fRange 1
  else []

def doLifecycle (h : ReqHdr) (target slot nonce : Nat) (signature : List Byte) (s : State) : State :=
  let got : Option Nonce := match nonceOf s nonce with
    | some n => if n.level = .invasive then some n else none
    | none => none
  let message := match got with
    | some n => signedMessage lifecyclePurpose target slot n.value
    | none => []
  let good := verifies s slot message signature
  let keyed := (slotKey s slot).isSome
  let fs := targetFindings s target slot
  let s := consumeNonce nonce s
  if s.sec.lockoutUntil.isSome then respond h 0x0D02 stNotAuthorised [] s
  else if got.isNone then badArgument h 0x0D02 [fieldFinding fRange 4] s
  else if keyed = false then badArgument h 0x0D02 [fieldFinding fRange 1] s
  else if good = false then respond h 0x0D02 stNotAuthorised [] (noteFailure target slot s)
  else if fs ≠ [] then badArgument h 0x0D02 fs s
  else
    acceptLong h 0x0D02 2 (fun id s =>
      requestFuse (.lifecycle id target (byteOf slot)) (jmod id (fun e => { e with state := .running, step := 1 }) s)) s

def reqSecLifecycle (h : ReqHdr) (target slot nonce : Nat) (signature : List Byte) (s : State) : State :=
  serve (.secLifecycle target slot nonce signature) h 0x0D02 (8 + signature.length) (signature.length == 96)
    (needs (targetLegal s target) fRange 0 ++ needs (decide (slot < 4)) fRange 1) (doLifecycle h target slot nonce signature) s

def execSecLifecycle (t : Nat) (h : ReqHdr) (target slot nonce : Nat) (signature : List Byte) (s : State) :
    Host.Outcome State Fault Refusal :=
  .next (reqSecLifecycle h target slot nonce signature (atTime t s))

end Sys2Proof.Machine
end

