-- ==== Sys2Proof/Machine/ControlFlow.lean ====
section
/-! DEFINITION. Control flow, TNOW and AGREE on a lane (R88 to R93, R98). -/

namespace Sys2Proof.Machine

open Sys2Proof

/-- Entry of the routine that holds an index: the greatest routine entry not above it (R88). -/
def routineOf (e : Exec) (pc : Nat) : Nat := (e.routines.filter (· ≤ pc)).foldl max 0

/-- A jump of R88; a target outside the routine stops the lane (R98). The lane's pc already names the next
instruction, so the jump itself stands one below. -/
def jumpTo (f : WordFields) (x : LaneIn) : LaneCtx :=
  let target := f.im.toNat
  if target < x.e.codeLen ∧ routineOf x.e target = routineOf x.e (x.c.pc - 1) then { x.c with pc := target } else laneFault x

/-- JMPC and JMPCN: FC becomes 1 whether or not they jump; 2 cycles taken, 1 not taken. -/
def jumpIf (want : Bool) (f : WordFields) (x : LaneIn) : LaneCtx :=
  if x.c.acc = want then
    let c := jumpTo f x
    if c.stalled then c else { c with fc := true, cycles := c.cycles + 1 }
  else { x.c with fc := true }

/-- CALL: at most 16 returns; the target is a routine entry (R88, R96, R98). -/
def callTo (f : WordFields) (x : LaneIn) : LaneCtx :=
  let target := f.im.toNat
  if target < x.e.codeLen ∧ (target = 0 ∨ target ∈ x.e.routines) ∧ x.c.ret.length < 16 then
    { x.c with ret := x.c.pc :: x.c.ret, pc := target }
  else laneFault x

def returnTo (x : LaneIn) : LaneCtx :=
  match x.c.ret with
  | [] => laneFault x
  | r :: rest => { x.c with ret := rest, pc := r }

/-- TEND posts the lane's end mark and ends the execution on this lane; stacks are discarded (R89). -/
def endLane (x : LaneIn) : LaneCtx :=
  { postEntry x.c .endMark .endMark 0 none with ended := true, nest := [], ret := [] }

/-- AGREE: the sample is posted and the lane waits (R92); on a standby the lane waits for the active's value and
samples nothing (R93). -/
def agreeWait (sample : W64) (f : WordFields) (x : LaneIn) : LaneCtx :=
  let d : Fin 16 := ⟨wdHigh f % 16, Nat.mod_lt _ (by decide)⟩
  let c := if x.e.shadow && !x.e.held then x.c else postEntry x.c .sample (.source f.o.toNat) sample none
  { c with waiting := some (f.o.toNat, f.m, d), agrees := c.agrees + 1 }

/-- JMP jumps within the routine (R88). -/
def execJmp (l : LaneId) (m : BitVec 4) (o : BitVec 20) (im : W32) (s : State) : Host.Outcome State Fault Refusal :=
  let f : WordFields := ⟨0xE0, m, o, im⟩
  .next (laneStep s l f (jumpTo f) (neverOpen))

/-- JMPC jumps if ACC is 1 (R88). -/
def execJmpc (l : LaneId) (m : BitVec 4) (o : BitVec 20) (im : W32) (s : State) : Host.Outcome State Fault Refusal :=
  let f : WordFields := ⟨0xE1, m, o, im⟩
  .next (laneStep s l f (jumpIf true f) (neverOpen))

/-- JMPCN jumps if ACC is 0 (R88). -/
def execJmpcn (l : LaneId) (m : BitVec 4) (o : BitVec 20) (im : W32) (s : State) : Host.Outcome State Fault Refusal :=
  let f : WordFields := ⟨0xE2, m, o, im⟩
  .next (laneStep s l f (jumpIf false f) (neverOpen))

/-- CALL pushes the return index and jumps to a routine entry (R88). -/
def execCall (l : LaneId) (m : BitVec 4) (o : BitVec 20) (im : W32) (s : State) : Host.Outcome State Fault Refusal :=
  let f : WordFields := ⟨0xE3, m, o, im⟩
  .next (laneStep s l f (callTo f) (neverOpen))

/-- RET pops the return index; an empty return stack stops the lane (R88, R98). -/
def execRet (l : LaneId) (m : BitVec 4) (o : BitVec 20) (im : W32) (s : State) : Host.Outcome State Fault Refusal :=
  let f : WordFields := ⟨0xE4, m, o, im⟩
  .next (laneStep s l f (returnTo) (neverOpen))

/-- TEND ends the execution (R89). -/
def execTend (l : LaneId) (m : BitVec 4) (o : BitVec 20) (im : W32) (s : State) : Host.Outcome State Fault Refusal :=
  let f : WordFields := ⟨0xE5, m, o, im⟩
  .next (laneStep s l f (endLane) (neverOpen))

/-- TNOW writes the snapshot time T to Wd (R90). -/
def execTnow (l : LaneId) (m : BitVec 4) (o : BitVec 20) (im : W32) (s : State) : Host.Outcome State Fault Refusal :=
  let f : WordFields := ⟨0xF0, m, o, im⟩
  .next (laneStep s l f (fun x => setReg x.c (wdHigh f) (BitVec.ofNat 64 x.e.tick)) (neverOpen))

/-- AGREE samples a live source and posts the sample (R92); the instant of the execution's first sample is kept for
R126. An undefined source gives a free value. -/
def execAgree (t : Nat) (l : LaneId) (m : BitVec 4) (o : BitVec 20) (im : W32) (s : State) : Host.Outcome State Fault Refusal :=
  let f : WordFields := ⟨0xF1, m, o, im⟩
  let s := atTime t s
  .next (noteSample t l (laneStep s l f (fun x => agreeWait ((liveSource s f).getD x.free) f x)
    (fun x => (!x.e.shadow || x.e.held) && (liveSource s f).isNone)))

end Sys2Proof.Machine
end

