-- ==== Sys2Proof/Machine/Debug.lean ====
section
/-! DEFINITION. The debug port: its instructions, the levels they need, DBG_STATUS, memory access, halts and key installation
(R445, R454 to R457, R463 to R465). -/

namespace Sys2Proof.Machine

open Sys2Proof

/-! ### Levels, R454, R463, R465 -/

/-- The highest level that DBG_OPEN may open now. -/
def availableLevel (s : State) : DbgLevel :=
  if opensFreely s = false ∨ s.sec.wipeFailed = true then .closed
  else
    match s.mod.power with
    | .dormant => .closed
    | .nap => if atLeast (matrixLevel s) .observe then .observe else .closed
    | _ => matrixLevel s

/-- The logic rails are up. -/
def portUp (s : State) : Bool := s.path.powered && !s.path.flushed

/-- A JTAG instruction: TCK runs; one that lacks its level loads BYPASS and sets DENIED, and an accepted one clears it. -/
def jtag (allowed : State → Bool) (body : State → State) (t : Nat) (s : State) : State :=
  let s := atTime t s
  if portUp s = false then s
  else
    let ok := allowed s
    let tck (x : DbgSession) : DbgSession := { x with lastTck := nowOf s }
    let s := onSec (fun c => { c with denied := !ok, tdo := [], session := c.session.map tck }) s
    if ok then body s else s

def noLevel (_ : State) : Bool := true
def observing (s : State) : Bool := atLeast (levelOf s) .observe
def invading (s : State) : Bool := atLeast (levelOf s) .invasive

def shiftOut (bs : List Byte) (s : State) : State := onSec (fun c => { c with tdo := bs }) s

/-- What the port captures and the manual does not give: a free value. -/
def shiftFree (s : State) : State := draw (shiftOut (le8 (freeWord s).toNat) s)

def taint (s : State) : State := onSec (fun c => { c with tainted := true }) s

/-! ### BYPASS, IDCODE, SAMPLE/PRELOAD, EXTEST, TRACE -/

def execBypass (t : Nat) (s : State) : Host.Outcome State Fault Refusal := .next (jtag noLevel (fun s => s) t s)

def idcodeWord : Nat := Config.hwRev.toNat % 16 * 2 ^ 28 + 0x6416 * 2 ^ 12 + 0x7E1 * 2 + 1

def execIdcode (t : Nat) (s : State) : Host.Outcome State Fault Refusal := .next (jtag noLevel (shiftOut (le4 idcodeWord)) t s)

def execSamplePreload (t : Nat) (s : State) : Host.Outcome State Fault Refusal := .next (jtag observing shiftFree t s)

/-- EXTEST drives the logic-zone pads. -/
def execExtest (t : Nat) (pads : List Byte) (s : State) : Host.Outcome State Fault Refusal :=
  .next (jtag invading (fun s => shiftFree (taint (onSec (fun c => { c with pads := pads }) s))) t s)

def execTrace (t : Nat) (s : State) : Host.Outcome State Fault Refusal :=
  .next (jtag observing (fun s => shiftFree (onSec (fun c => { c with tracing := true }) s)) t s)

/-! ### DBG_STATUS and DBG_OPEN -/

def lanesHalted (s : State) : Nat := (allLanes.map fun l => flag l.val s.ctl.weave.lanes[l].debugHalt).foldl (· + ·) 0

/-- The DBG_STATUS register, R456. -/
def dbgStatusWord (s : State) : Nat :=
  let c := s.sec
  lifecycleCode c.lifecycle * 2 ^ 30 + levelCode (levelOf s) * 2 ^ 28 + levelCode (availableLevel s) * 2 ^ 26 + flag 25 c.tainted +
    flag 24 c.keeperHalted + lanesHalted s * 2 ^ 20 + flag 19 c.bistHeld + flag 18 (c.bistHeld || decide (3 ≤ stateCode s.mod.state)) +
    flag 17 c.wipePending + flag 16 c.lockoutUntil.isSome + flag 15 c.denied + stateCode s.mod.state * 2 ^ 8

/-- The word shows DENIED as the instruction before it left it. -/
def execDbgStatus (t : Nat) (s : State) : Host.Outcome State Fault Refusal :=
  .next (jtag noLevel (shiftOut (le4 (dbgStatusWord s))) t s)

/-- DBG_OPEN: a level that is available without authentication. -/
def execDbgOpen (t : Nat) (level : DbgLevel) (s : State) : Host.Outcome State Fault Refusal :=
  .next (jtag (fun s => level != .closed && atLeast (availableLevel s) level) (openSession level none) t s)

/-! ### Halts -/

/-- HALT stops the Keeper core pair or a lane. -/
def haltTarget (target : Option LaneId) (s : State) : State :=
  match target with
  | none => onSec (fun c => { c with keeperHalted := true }) s
  | some l => onLane l (fun x => { x with debugHalt := true }) s

def execHalt (t : Nat) (target : Option LaneId) (s : State) : Host.Outcome State Fault Refusal :=
  .next (jtag invading (fun s => haltTarget target (taint s)) t s)

/-! ### KEY_PROGRAM, R445 -/

def keyBarred (s : State) (slot : Fin 4) (key : List Byte) : Bool :=
  !(s.sec.lifecycle == .blank || s.sec.lifecycle == .provisioned) || s.sec.keys[slot].hash.isSome || s.sec.fuses.contains (.keyHash slot) ||
    key.length != 97

/-- Both copies are stored, then the hash is blown; a slot that refuses keeps what it holds. -/
def installKey (slot : Fin 4) (key : List Byte) (s : State) : State :=
  if keyBarred s slot key then s
  else requestFuse (.keyHash slot) (onKeySlot slot (fun k => { k with copy1 := key, copy2 := key }) s)

def execKeyProgram (t : Nat) (slot : Fin 4) (key : List Byte) (s : State) : Host.Outcome State Fault Refusal :=
  .next (jtag invading (installKey slot key) t s)

/-! ### The bytes of the Basin, R12, R357 -/

/-- Addresses at which a byte that the Basin does not hold otherwise reads as zero: the image, the instances and what no client
uses, which the self-test clears. Elsewhere an unlisted byte is the region's own, and free. -/
def zeroRegion (a : Nat) : Bool := decide (a < 0x06000000) || dropsZero a

/-- Writes one byte of the unstructured Basin, in its canonical form. -/
def pokeByte (a : Nat) (b : Byte) (m : Memory) : Memory := if dropsZero a ∧ b = 0 then tdel a m else tput a b m

def imgEnd : Nat := 0x04000000
def stateEnd : Nat := 0x06000000

/-- Fields of a tag slot that the image holds; the others are the program's declaration. -/
def liveSlotByte (off : Nat) : Bool := decide (off < 20) || decide (28 ≤ off)

/-- Fields of an instance record that the instance holds. -/
def liveInstByte (off : Nat) : Bool := decide (off < 24) || off == 29

def tagCopy (t : Tag) (b : Bool) : SlotCopy := if b then t.b else t.a

/-- The half of STATE that an address lies in. -/
def secondHalf (a : Nat) : Bool := decide (stateHalf true ≤ a)

/-- The instance record at an address of STATE: of the running version in its half, of the staging copy in the other (R104, R357). -/
def instAt (s : State) (a : Nat) : Option (Nat × Inst) :=
  let rank := (a - stateHalf (secondHalf a)) / 32
  if secondHalf a = s.ctl.half then s.ctl.insts[rank]?
  else s.ctl.exchange.bind fun x => x.staging[rank]?

/-- A byte of the containers of CODE: the running version in its half, the staged one in the other (R100, R357). -/
def codeByte (s : State) (a : Nat) : Option Byte :=
  let second := decide (codeHalf true ≤ a)
  let image := if second = s.ctl.half then (s.ctl.running.map fun p => p.image) else (s.ctl.staged.map fun g => g.prog.image)
  image.bind fun x => x[a - codeHalf second]?

/-- A byte of a landing buffer: the barge that landed there last (R39). -/
def landingByte (s : State) (a : Nat) : Option Byte :=
  s.net.nodes.findSome? fun p => p.2.landing.findSome? fun b =>
    match landingAddress s p.1 b.buffer with
    | some x => if x ≤ a then b.payload[a - x]? else none
    | none => none

/-- A byte as the structured regions hold it; none where they hold nothing. -/
def heldByte (s : State) (a : Nat) : Option Byte :=
  if a < imgEnd then
    let i := a % 0x02000000 / 32
    (tget i s.img.tags).map fun g => (slotBytes (slotImage i g (tagCopy g (decide (0x02000000 ≤ a))))).getD (a % 32) 0
  else if a < stateEnd then (instAt s a).map fun p => (instBytes p.1 p.2).getD (a % 32) 0
  else if a < bargeRegion then codeByte s a
  else landingByte s a

def isLive (s : State) (a : Nat) : Bool :=
  decide (a < stateEnd) && (heldByte s a).isSome && if a < imgEnd then liveSlotByte (a % 32) else liveInstByte (a % 32)

/-- A byte of the Basin: none where the manual does not say how the region's contents are laid out, or the codeword is poisoned. -/
def basinByte (s : State) (a : Nat) : Option Byte :=
  if s.basin.poison.contains (a / 8) then none
  else if isLive s a then heldByte s a
  else
    match tget a s.basin.mem with
    | some b => some b
    | none =>
      match heldByte s a with
      | some b => some b
      | none => if zeroRegion a then some 0 else none

/-- Bytes shifted out, free where the model holds none. -/
def shiftBytes (bs : List (Option Byte)) (s : State) : State :=
  let step (p : List Byte × State) (b : Option Byte) : List Byte × State :=
    match b with
    | some x => (x :: p.1, p.2)
    | none => ((freeWord p.2).setWidth 8 :: p.1, draw p.2)
  let r := bs.foldl step ([], s)
  shiftOut r.1.reverse r.2

/-! ### Writing -/

def tstateOf : Nat → Option TState
  | 0 => some .idle
  | 1 => some .running
  | 2 => some .done
  | _ => none

/-- A copy of a slot with one byte of its record replaced. -/
def slotWith (i : Nat) (g : Tag) (c : SlotCopy) (off : Nat) (b : Byte) : SlotCopy :=
  let bs := (slotBytes (slotImage i g c)).set off b
  { c with value := BitVec.ofNat 64 (natAt bs 0 8), srcTs := natAt bs 8 8, quality := BitVec.ofNat 16 (natAt bs 16 2),
           flags := BitVec.ofNat 16 (natAt bs 18 2), age := natAt bs 28 4 }

def instWith (n : Nat) (r : Inst) (off : Nat) (b : Byte) : Inst :=
  let bs := (instBytes n r).set off b
  let f := natAt bs 29 1
  { r with value := BitVec.ofNat 64 (natAt bs 0 8), lastT := BitVec.ofNat 64 (natAt bs 8 8), preset := BitVec.ofNat 64 (natAt bs 16 8),
           isNew := bitAt f 7, resume := bitAt f 6, ts := (tstateOf (f / 16 % 4)).getD r.ts, q := bitAt f 3, prev2 := bitAt f 2,
           prev := bitAt f 1 }

/-- One byte written past the Weave, the epoch and the journal. -/
def pokeBasin (a : Nat) (b : Byte) (s : State) : State :=
  if isLive s a = false then onBasin (fun m => { m with mem := pokeByte a b m.mem }) s
  else if a < imgEnd then
    let i := a % 0x02000000 / 32
    let poke (g : Tag) : Tag := if 0x02000000 ≤ a then { g with b := slotWith i g g.b (a % 32) b } else { g with a := slotWith i g g.a (a % 32) b }
    onImg (fun im => { im with tags := tmod i poke im.tags }) s
  else
    match instAt s a with
    | some p =>
      let poke (t : Tbl Inst) : Tbl Inst := tmod p.1 (fun r => instWith p.1 r (a % 32) b) t
      if secondHalf a = s.ctl.half then onCtl (fun c => { c with insts := poke c.insts }) s
      else onCtl (fun c => { c with exchange := c.exchange.map fun x => { x with staging := poke x.staging } }) s
    | none => s

/-- Codewords written whole lose their poison; others keep it (R14). -/
def pokeBytes (a : Nat) (bs : List Byte) (s : State) : State :=
  let s := bs.zipIdx.foldl (fun s p => pokeBasin (a + p.2) p.1 s) s
  let whole (w : Nat) : Bool := decide (a ≤ 8 * w) && decide (8 * w + 8 ≤ a + bs.length)
  onBasin (fun m => { m with poison := m.poison.filter fun w => !whole w }) s

/-! ### MEM_READ and MEM_WRITE, R455 -/

/-- A memory of a block: what a debug session has written there; any other byte is the block's own, and free. -/
def peekMemory (m : Memory) (written : Nat → Bool) (a count : Nat) : List (Option Byte) :=
  (List.range count).map fun i => if written (a + i) then some ((tget (a + i) m).getD 0) else none

/-- A memory written by a debug session keeps zero bytes too: its entries are the bytes written. -/
def pokeMemory (a : Nat) (bs : List Byte) (m : Memory) : Memory := bs.zipIdx.foldl (fun m p => tput (a + p.2) p.1 m) m

def readSpace (space : MemSpace) (a count : Nat) (s : State) : State :=
  match space with
  | .basin => shiftBytes ((List.range count).map fun i => basinByte s (a + i)) s
  | .keeperSram => shiftBytes (peekMemory s.sec.keeperSram (fun x => thas x s.sec.keeperSram) a count) s
  | .lane l =>
    let s := abortBackground (blockLane l) s
    shiftBytes (peekMemory s.sec.laneMem[l] (fun x => thas x s.sec.laneMem[l]) a count) s
  | .keyStore | .secretRow => shiftOut (zeros count) s

def writeSpace (space : MemSpace) (a : Nat) (bs : List Byte) (s : State) : State :=
  match space with
  | .basin => pokeBytes a bs s
  | .keeperSram => onSec (fun c => { c with keeperSram := pokeMemory a bs c.keeperSram }) s
  | .lane l => onSec (fun c => { c with laneMem := vmod c.laneMem l (pokeMemory a bs) }) s
  | .keyStore | .secretRow => s

/-- An access beyond the Basin's address space. -/
def outside (space : MemSpace) (a count : Nat) : Bool := space == .basin && decide (basinSize < a + count)

def execMemRead (t : Nat) (space : MemSpace) (address count : Nat) (s : State) : Host.Outcome State Fault Refusal :=
  if portUp s && observing s && outside space address count then .fault (.noSuchAddress (max address basinSize))
  else .next (jtag observing (readSpace space address count) t s)

def execMemWrite (t : Nat) (space : MemSpace) (address : Nat) (data : List Byte) (s : State) : Host.Outcome State Fault Refusal :=
  if portUp s && invading s && outside space address data.length then .fault (.noSuchAddress (max address basinSize))
  else .next (jtag invading (fun s => writeSpace space address data (taint s)) t s)

end Sys2Proof.Machine
end

