-- ==== Sys2Proof/Machine/Feeds.lean ====
section
/-! DEFINITION. Feeds, hold-up and field supplies: ranges with their hysteresis, the hold-up flush, the charge and the measurement of
the capacitor (R261, R412, R451, R476 to R481). -/

namespace Sys2Proof.Machine

open Sys2Proof

/-! ### Ranges, R476, R481 -/

/-- A feed's range after a voltage has persisted: it is entered above 17.0 V and below 33.0 V, left below 16.7 V or above 33.0 V, and
re-entered from overvoltage below 32.7 V. -/
def rangeAfter (f : Feed) (microV : Int) : Bool :=
  if f.inRange then decide (16700000 ≤ microV ∧ microV ≤ 33000000)
  else if 32700000 ≤ f.microV then decide (16700000 ≤ microV ∧ microV < 32700000)
  else decide (17000000 < microV ∧ microV < 33000000)

def setFeed (n : Fin 4) (f : Feed) (s : State) : State := onPath (fun p => { p with feeds := p.feeds.set n f }) s

/-- `FEED_LOST` or `FEED_RESTORED`, for a feed that FEED_EXPECTED names. -/
def feedEvent (n : Fin 4) (f : Feed) (s : State) : State :=
  if s.path.powered = false ∨ s.path.flushed = true ∨ bitAt (cfg s P.feedExpected) n.val = false then s
  else stage (if f.inRange then 0x1202 else 0x1201) (srcFeed n.val) (microReal f.microV) s

def changeFeed (n : Fin 4) (microV : Int) (s : State) : State :=
  let old := s.path.feeds[n]
  let f : Feed := { inRange := rangeAfter old microV, microV := microV }
  let s := setFeed n f s
  if f.inRange = old.inRange then s else feedEvent n f s

def feedsOut (s : State) : Bool := !s.path.feeds[0].inRange && !s.path.feeds[1].inRange
def suppliesOut (s : State) : Bool := !s.path.feeds[2].inRange && !s.path.feeds[3].inRange

/-- FEED_RANGE_CHANGE. A feed that returns after the flush restarts the module without power loss; a fuse write that waits may
start. -/
def execFeedRangeChange (t : Nat) (n : Fin 2) (microV : Int) (s : State) : Host.Outcome State Fault Refusal :=
  let s := changeFeed ⟨n.val, by omega⟩ microV (atTime t s)
  .next (if feedsOut s then s
    else
      let s := if s.path.flushed then
          let s := onPath (fun p => { p with flushed := false }) s
          onMod (fun m => { m with restarting := true }) (onKeeper (fun k => { k with restartCause := 3 }) s)
        else s
      if s.path.powered then blowFuses s else s)

/-- Without a supply every input of the field zone reads 0. -/
def deadInputs (s : State) : State :=
  let s := eachDio (fun c s => onDio c (fun d => { d with comparator := false, debounced := false, padHigh := false }) s) s
  let s := eachAio (fun c s => onAio c (fun a => { a with reading := 0, raw := 0 }) s) s
  each4 (fun n s => onFi n (fun f => { f with level := false }) s) s

/-- FIELD_SUPPLY_CHANGE: the loss of one supply has no effect on the channels; the loss of both switches the field zone off. -/
def execFieldSupplyChange (t : Nat) (n : Fin 2) (microV : Int) (s : State) : Host.Outcome State Fault Refusal :=
  let s := atTime t s
  let out := suppliesOut s
  let s := changeFeed ⟨n.val + 2, by omega⟩ microV s
  .next (if suppliesOut s = out then s
    else if out then resetMonitor .start s
    else deadInputs (resetMonitor .unpowered s))

/-! ### The capacitor, R478 -/

def execHoldupCharged (t : Nat) (s : State) : Host.Outcome State Fault Refusal :=
  let s := atTime t s
  .next (if s.path.powered ∧ feedsOut s = false then blowFuses (onPath (fun p => { p with charged := true }) s) else s)

def measureHoldup (microF : Nat) (s : State) : State :=
  onPath (fun p => { p with measuredMicroF := microF, weak := decide (microF < 240) }) s

def execHoldupMeasure (t : Nat) (microF : Nat) (s : State) : Host.Outcome State Fault Refusal :=
  let s := atTime t s
  .next (if s.path.powered ∧ s.path.charged then measureHoldup microF s else s)

/-! ### The hold-up flush, R479 -/

/-- Step 2: the journal goes to MRAM, without attachments. -/
def saveJournal (s : State) : State :=
  let entries := s.keeper.journal.map fun (e : JnlEntry) => { e with attachment := [] }
  onPath (fun p => { p with savedJournal := entries }) s

/-- Step 3: the oldest staged events are written with HOLDUP set; the rest is lost and counted. -/
def saveEvents (n : Nat) (s : State) : State :=
  let all := s.recd.staging
  let lost := (all.length - n) + s.recd.discarded
  let s := (all.take n).foldl (fun s (e : Event) => writeEvent { e with holdup := true } s) s
  onRecd (fun r => { r with staging := [], discarded := 0, lostAtFlush := r.lostAtFlush + lost }) s

/-- Step 4: the epoch, the force table's size and the counters. -/
def saveEpoch (s : State) : State :=
  saveCounters (onImg (fun im => { im with stored := im.epoch, storedForces := im.forces.length }) s)

/-- Step 5: `HOLDUP_FLUSH` is the last record. -/
def recordFlush (written lost : Nat) (s : State) : State :=
  let e := mkEvent 0x1203 srcModule (le2 written ++ le2 (min 0xFFFF lost)) s
  writeEvent { e with holdup := true } s

/-- The flush in its order. With a capacitor that is WEAK or not charged it runs until the energy ends: how far it comes is free. -/
def flush (s : State) : State :=
  let full := s.path.charged && !s.path.weak
  let w := (freeWord s).toNat
  let s := if full then s else draw s
  let most := min 1024 s.recd.staging.length
  let n := if full then most else w / 8 % (most + 1)
  let journalDone := full || bitAt w 0
  let eventsDone := full || (bitAt w 0 && bitAt w 1)
  let restDone := full || (bitAt w 0 && bitAt w 1 && bitAt w 2)
  let s := if journalDone then saveJournal s else s
  let s := saveEvents (if eventsDone then most else if journalDone then n else 0) s
  if restDone then recordFlush most s.recd.lostAtFlush (saveEpoch s) else s

/-- HOLDUP_FLUSH: both feeds are out of range. The module falls silent, the flush runs, and the die is held in reset. -/
def execHoldupFlush (t : Nat) (s : State) : Host.Outcome State Fault Refusal :=
  let s := atTime t s
  .next (if s.path.powered = false ∨ s.path.flushed = true ∨ feedsOut s = false then s
    else
      let s := collapse (flush s)
      let s := onRefs (fun x => { x with latchedLost := false }) s
      let s := onMod (fun m => { m with restarting := false }) (onKeeper (fun k => { k with running := false }) s)
      onPath (fun p => { p with flushed := true, charged := false }) s)

/-- HOLDUP_EXHAUSTED: the module is OFF. -/
def execHoldupExhausted (s : State) : Host.Outcome State Fault Refusal :=
  .next (if s.path.powered ∧ feedsOut s = true then powerOff s else s)

end Sys2Proof.Machine
end

