-- ==== Sys2Proof/Machine/RequestDecode.lean ====
section
/-! DEFINITION. Requests as bytes: the header and its checks, every payload layout, and the command that a request names
(R318 to R321, R330 to R339, R420). -/

namespace Sys2Proof.Machine

open Sys2Proof

/-! ### Requests that name no command, R321, R330 -/

/-- The header without its flags, for a command that has none. -/
def plainHdr (h : ReqHdr) : ReqHdr := { h with atEpoch := false, dryRun := false, pairScope := false, dropForces := false }

def reqUnknown (h : ReqHdr) (code : Nat) (s : State) : State :=
  serve (.unknown code) (plainHdr h) code 0 true [] (respond h code stUnknown []) s

/-- UNKNOWN_COMMAND_REQUEST. -/
def execUnknownCommandRequest (t : Nat) (h : ReqHdr) (code : Nat) (s : State) : Host.Outcome State Fault Refusal :=
  .next (reqUnknown h code (atTime t s))

def reqMalformed (h : ReqHdr) (code length : Nat) (field : Option Nat) (s : State) : State :=
  serve (.malformed code length field) h code length field.isSome (match field with
    | some o => [fieldFinding fUndefined o]
    | none => []) (fun s => s) s

/-- A request that fails check 1, 2 or 3 is answered at once; in DORMANT the ring wakes the module first. -/
def reqBroken (h : ReqHdr) (code status : Nat) (s : State) : State :=
  let i : Request := .broken code status
  if keeperServes s = false then defer i h s
  else if mailboxBusy s i h ∨ connBusy s h = true then s
  else if s.mod.power = .dormant ∧ (s.mod.waking.isSome ∨ servedDormant.contains code = false) then defer i h (beginWake 4 s)
  else respond h code status [] s

/-! ### The command of a request -/

/-- Runs the command that a request names. -/
def runRequest (h : ReqHdr) (i : Request) (s : State) : State :=
  match i with
  | .idGet => reqIdGet h s
  | .stateGet => reqStateGet h s
  | .healthGet => reqHealthGet h s
  | .stateRelease => reqStateRelease h s
  | .setRead source ids => reqSetRead h source ids s
  | .setWrite entries => reqSetWrite h entries s
  | .setCommit expected => reqSetCommit h expected s
  | .setExportBuild => reqExportBuild h s
  | .setExportRead offset journal => reqExportRead h offset journal s
  | .prgLoadBegin version length => reqLoadBegin h version length s
  | .prgLoadData version offset data => reqLoadData h version offset data s
  | .prgLoadEnd version => reqLoadEnd h version s
  | .prgLoadAbort version => reqLoadAbort h version s
  | .prgVerify version => reqVerify h version s
  | .prgExchange version => reqExchange h version s
  | .prgStart mask => reqStart h mask s
  | .prgStop mask => reqStop h mask s
  | .imgRead ranges => reqImgRead h ranges s
  | .imgWrite writes => reqImgWrite h writes s
  | .imgSubscribeStart interval ranges => reqSubscribeStart h interval ranges s
  | .imgSubscribeStop => reqSubscribeStop h s
  | .frcSet writes => reqFrcSet h writes s
  | .frcClear all tags => reqFrcClear h all tags s
  | .frcList first => reqFrcList h first s
  | .pairStatus => reqPairStatus h s
  | .pairSwitch => reqPairSwitch h s
  | .pairProof => reqPairProof h s
  | .pairRelease => reqPairRelease h s
  | .timeStatus mask => reqTimeStatus h mask s
  | .trgArm u mode action channel compat target period argument => reqArm h u mode action channel compat target period argument s
  | .trgCancel u => reqCancel h u s
  | .ioStatus group first => reqIoStatus h group first s
  | .ioTrimStart channel => reqTrimStart h channel s
  | .ioTrimPoint1 channel reading journal => reqTrimPoint1 h channel reading journal s
  | .ioTrimPoint2 channel reading journal => reqTrimPoint2 h channel reading journal s
  | .ioTrimCommit channel journal => reqTrimCommit h channel journal s
  | .ioTrimAbort channel journal => reqTrimAbort h channel journal s
  | .ioResetFault group channels mask => reqResetFault h group channels mask s
  | .canStatus channel mask => reqCanStatus h channel mask s
  | .canSend channel frames => reqCanSend h channel frames s
  | .canRecv channel queue maximum => reqCanRecv h channel queue maximum s
  | .canConfigSetMode channel mode adopt candidates => reqSetMode h channel mode adopt candidates s
  | .canConfigRestart channel => reqCanRestart h channel s
  | .evtRead first maximum area => reqEvtRead h first maximum area s
  | .evtMark code data => reqEvtMark h code data s
  | .bistResult => reqBistResult h s
  | .bistRun block background => reqBistRun h block background s
  | .updOpen header => reqUpdOpen h header s
  | .updChunk offset data => reqUpdChunk h offset data s
  | .updCloseApply => reqUpdCloseApply h s
  | .updCloseAbandon => reqUpdCloseAbandon h s
  | .updActivate pairProcedure => reqUpdActivate h pairProcedure s
  | .updStatus => reqUpdStatus h s
  | .secChallenge level => reqSecChallenge h level s
  | .secUnlock nonce slot signature => reqSecUnlock h nonce slot signature s
  | .secLifecycle target slot nonce signature => reqSecLifecycle h target slot nonce signature s
  | .pwrSetPowerState code => reqPwrSetPowerState h code s
  | .pwrSetRestart => reqPwrSetRestart h s
  | .pwrGet => reqPwrGet h s
  | .jnlGetEntries id maximum => reqJnlEntries h id maximum s
  | .jnlGetAttachment id offset => reqJnlAttachment h id offset s
  | .quoSet cls quota => reqQuoSet h cls quota s
  | .quoGet cls => reqQuoGet h cls s
  | .wearGet category first => reqWearGet h category first s
  | .unknown code => reqUnknown h code s
  | .malformed code length field => reqMalformed h code length field s
  | .broken code status => reqBroken h code status s

/-- Requests that waited are served in the order of their rings; each may wait again. -/
def serveDeferred (s : State) : State := s.deferred.foldl (fun s p => runRequest p.1 p.2 s) { s with deferred := [] }

/-! ### Payload layouts, R332 to R339, R420 -/

def word32 (p : List Byte) (o : Nat) : W32 := BitVec.ofNat 32 (natAt p o 4)

def rangesOf (p : List Byte) (o n : Nat) : List (Nat × Nat) := (List.range n).map fun i => (natAt p (o + 8 * i) 4, natAt p (o + 8 * i + 4) 4)

def writesOf (p : List Byte) (n : Nat) : List (Nat × Nat × W64) :=
  (List.range n).map fun i => (natAt p (4 + 16 * i) 4, natAt p (4 + 16 * i + 4) 1, BitVec.ofNat 64 (natAt p (4 + 16 * i + 8) 8))

/-- Entries of SET.WRITE: value padded to 8; none where the payload does not hold them exactly. -/
def settingEntries : Nat → List Byte → Option (List (Nat × List Byte))
  | 0, p => if p.isEmpty then some [] else none
  | n + 1, p =>
    let len := natAt p 4 2
    let whole := 8 + (len + 7) / 8 * 8
    if p.length < whole then none
    else (settingEntries n (p.drop whole)).map fun r => (natAt p 0 4, sliceAt p 8 len) :: r

/-- Frames of CAN.SEND: data padded to 8; none where the payload does not hold them exactly. -/
def sendFrames : Nat → List Byte → Option (List (CanFrame × Bool))
  | 0, p => if p.isEmpty then some [] else none
  | n + 1, p =>
    let f : CanFrame := { word := word32 p 0, dlc := natAt p 4 1, brs := bitAt (natAt p 5 1) 0, esi := false, data := [] }
    let len := frameLength f
    let whole := 8 + (len + 7) / 8 * 8
    if p.length < whole then none
    else (sendFrames n (p.drop whole)).map fun r => ({ f with data := sliceAt p 8 len }, bitAt (natAt p 5 1) 1) :: r

/-- A payload of a fixed length. -/
def exact (code n : Nat) (p : List Byte) (i : Request) : Request := if p.length = n then i else .malformed code p.length none

/-- Families 0x01 to 0x03. -/
def decodeLow (code : Nat) (p : List Byte) : Request :=
  let undefinedOp := Request.malformed code p.length (some 0)
  match code with
  | 0x0100 => exact code 0 p .idGet
  | 0x0101 => exact code 0 p .stateGet
  | 0x0102 => exact code 0 p .healthGet
  | 0x0103 => exact code 0 p .stateRelease
  | 0x0200 =>
    let n := natAt p 0 2
    exact code (4 + 4 * n) p (.setRead (natAt p 2 1) ((List.range n).map fun i => natAt p (4 + 4 * i) 4))
  | 0x0201 =>
    match settingEntries (natAt p 0 2) (p.drop 4) with
    | some es => if 4 ≤ p.length then .setWrite es else .malformed code p.length none
    | none => .malformed code p.length none
  | 0x0202 => exact code 4 p (.setCommit (natAt p 0 2))
  | 0x0203 => exact code 12 p (match natAt p 0 1 with
    | 0 => .setExportBuild
    | 1 => .setExportRead (natAt p 4 4) (natAt p 8 4)
    | _ => undefinedOp)
  | 0x0300 =>
    let v := natAt p 4 4
    match natAt p 0 1 with
    | 0 => exact code 16 p (.prgLoadBegin v (natAt p 12 4))
    | 1 => exact code (16 + natAt p 12 4) p (.prgLoadData v (natAt p 8 4) (p.drop 16))
    | 2 => exact code 16 p (.prgLoadEnd v)
    | 3 => exact code 16 p (.prgLoadAbort v)
    | _ => undefinedOp
  | 0x0301 => exact code 4 p (.prgVerify (natAt p 0 4))
  | 0x0302 => exact code 4 p (.prgExchange (natAt p 0 4))
  | 0x0303 => exact code 4 p (.prgStart (natAt p 0 2))
  | _ => exact code 4 p (.prgStop (natAt p 0 2))

/-- Families 0x04 to 0x07. -/
def decodeMiddle (code : Nat) (p : List Byte) : Request :=
  let n := natAt p 0 2
  match code with
  | 0x0400 => exact code (4 + 8 * n) p (.imgRead (rangesOf p 4 n))
  | 0x0401 => exact code (4 + 16 * n) p (.imgWrite (writesOf p n))
  | 0x0402 =>
    let k := natAt p 2 2
    exact code (8 + 8 * k) p (match natAt p 0 1 with
      | 0 => .imgSubscribeStart (natAt p 4 4) (rangesOf p 8 k)
      | 1 => .imgSubscribeStop
      | _ => .malformed code p.length (some 0))
  | 0x0500 => exact code (4 + 16 * n) p (.frcSet (writesOf p n))
  | 0x0501 => exact code (4 + 4 * n) p (.frcClear (bitAt (natAt p 2 2) 0) ((List.range n).map fun i => natAt p (4 + 4 * i) 4))
  | 0x0502 => exact code 4 p (.frcList (natAt p 0 4))
  | 0x0600 => exact code 0 p .pairStatus
  | 0x0601 => exact code 0 p .pairSwitch
  | 0x0602 => exact code 0 p .pairProof
  | 0x0603 => exact code 0 p .pairRelease
  | 0x0700 => exact code 4 p (.timeStatus (word32 p 0))
  | 0x0701 => exact code 32 p (.trgArm (natAt p 0 1) (natAt p 1 1) (natAt p 2 1) (natAt p 3 1) (word32 p 4) (natAt p 8 8) (natAt p 16 8) (BitVec.ofNat 64 (natAt p 24 8)))
  | _ => exact code 4 p (.trgCancel (natAt p 0 1))

/-- Families 0x08 to 0x0B. -/
def decodeChannels (code : Nat) (p : List Byte) : Request :=
  let c := natAt p 0 1
  let op := natAt p 1 1
  match code with
  | 0x0800 => exact code 4 p (.ioStatus c (natAt p 2 2))
  | 0x0801 => exact code 12 p (match op with
    | 0 => .ioTrimStart c
    | 1 => .ioTrimPoint1 c (word32 p 4) (natAt p 8 4)
    | 2 => .ioTrimPoint2 c (word32 p 4) (natAt p 8 4)
    | 3 => .ioTrimCommit c (natAt p 8 4)
    | 4 => .ioTrimAbort c (natAt p 8 4)
    | _ => .malformed code p.length (some 1))
  | 0x0802 => exact code 8 p (.ioResetFault c (BitVec.ofNat 16 (natAt p 2 2)) (word32 p 4))
  | 0x0900 => exact code 8 p (.canStatus c (word32 p 4))
  | 0x0901 =>
    match sendFrames op (p.drop 4) with
    | some fs => if 4 ≤ p.length then .canSend c fs else .malformed code p.length none
    | none => .malformed code p.length none
  | 0x0902 => exact code 4 p (.canRecv c op (natAt p 2 1))
  | 0x0903 =>
    let k := natAt p 4 1
    let pair (i : Nat) : W32 × W32 := (word32 p (8 + 8 * i), word32 p (12 + 8 * i))
    exact code (8 + 8 * k) p (match op with
      | 0 => .canConfigSetMode c (natAt p 2 1) (bitAt (natAt p 3 1) 0) ((List.range k).map pair)
      | 1 => .canConfigRestart c
      | _ => .malformed code p.length (some 1))
  | 0x0A00 => exact code 8 p (.evtRead (natAt p 0 4) (natAt p 4 2) (natAt p 6 1))
  | 0x0A01 => exact code 40 p (.evtMark (natAt p 0 2) (p.drop 8))
  | 0x0B00 => exact code 0 p .bistResult
  | _ => exact code 4 p (.bistRun c (bitAt op 0))

/-- Families 0x0C to 0x0F. -/
def decodeHigh (code : Nat) (p : List Byte) : Request :=
  let a := natAt p 0 1
  match code with
  | 0x0C00 => exact code 256 p (.updOpen p)
  | 0x0C01 => exact code (8 + natAt p 4 4) p (.updChunk (natAt p 0 4) (p.drop 8))
  | 0x0C02 => exact code 4 p (match a with
    | 0 => .updCloseApply
    | 1 => .updCloseAbandon
    | _ => .malformed code p.length (some 0))
  | 0x0C03 => exact code 4 p (.updActivate (bitAt a 0))
  | 0x0C04 => exact code 0 p .updStatus
  | 0x0D00 => exact code 4 p (.secChallenge a)
  | 0x0D01 => exact code 104 p (.secUnlock (natAt p 0 4) (natAt p 4 1) (p.drop 8))
  | 0x0D02 => exact code 104 p (.secLifecycle a (natAt p 1 1) (natAt p 4 4) (p.drop 8))
  | 0x0E00 => exact code 4 p (match a with
    | 0 => .pwrSetPowerState (natAt p 1 1)
    | 1 => .pwrSetRestart
    | _ => .malformed code p.length (some 0))
  | 0x0E01 => exact code 0 p .pwrGet
  | 0x0F00 => exact code 12 p (match natAt p 6 1 with
    | 0 => .jnlGetEntries (natAt p 0 4) (natAt p 4 2)
    | 1 => .jnlGetAttachment (natAt p 0 4) (natAt p 8 4)
    | _ => .malformed code p.length (some 6))
  | 0x0F01 => exact code 8 p (.quoSet (natAt p 0 2) (natAt p 4 4))
  | 0x0F02 => exact code 2 p (.quoGet (natAt p 0 2))
  | _ => exact code 4 p (.wearGet a (natAt p 2 2))

/-- The command of a code and its payload. -/
def decodePayload (code : Nat) (p : List Byte) : Request :=
  if thas code cmdTable = false then .unknown code
  else if code < 0x0400 then decodeLow code p
  else if code < 0x0800 then decodeMiddle code p
  else if code < 0x0C00 then decodeChannels code p
  else decodeHigh code p

/-! ### The header, R318, R321 -/

def hdrOf (src : Source) (bs : List Byte) : ReqHdr :=
  let f := natAt bs 6 2
  { src := src, session := natAt bs 12 4, sequence := natAt bs 0 4, atEpoch := bitAt f 0, dryRun := bitAt f 1, pairScope := bitAt f 2,
    dropForces := bitAt f 3, epoch := natAt bs 16 8, crc := word32 bs 28 }

/-- The request that a byte string is: checks 1 to 3 on length, CRC and reserved fields, then the command. The session is checked
with the other checks of the command. -/
def requestOf (bs : List Byte) : Request :=
  let code := natAt bs 4 2
  let len := natAt bs 8 4
  let p := sliceAt bs 32 len
  if 4064 < len then .broken code stBadLength
  else if crc32c (sliceAt bs 0 28 ++ le4 0 ++ p) ≠ word32 bs 28 then .broken code stBadCrc
  else if natAt bs 24 4 ≠ 0 ∨ 16 ≤ natAt bs 6 2 then .broken code stBadHeader
  else decodePayload code p

/-- The Keeper takes the request of a mailbox whose bit of DB_REQ is set, unless a subscription holds the mailbox (R313, R336). -/
def takeMailbox (n : Fin 8) (s : State) : State :=
  let b := s.keeper.mailboxes[n]
  if b.dbReq = false ∨ keeperServes s = false then s
  else
    let bs := getBytes b.req 0 4096
    let i := requestOf bs
    let h := hdrOf (.mailbox n) bs
    if mailboxBusy s i h then s else runRequest h i (onMailbox n (fun x => { x with dbReq := false }) s)

def allMailboxes : List (Fin 8) := List.finRange 8

/-- After a pause: requests that waited, and the mailboxes that were rung. -/
def servePending (s : State) : State :=
  if keeperServes s = false then s else allMailboxes.foldl (fun s n => takeMailbox n s) (serveDeferred s)

end Sys2Proof.Machine
end

