-- ==== Sys2Proof/Machine/HostPort.lean ====
section
/-! DEFINITION. The host interface: BAR0 over PCIe and SPI, doorbells, interrupts, liveness, network connections and the answer of a
held command (R309 to R317, R324, R362, R398, R404, R462). -/

namespace Sys2Proof.Machine

open Sys2Proof

/-! ### Doorbells and responses, R313, R398 -/

/-- DB_REQ bit n is written 1: the mailbox is rung, unless the interface does not serve it; then the ring is counted. -/
def ring (n : Fin 8) (spi inAck : Bool) (s : State) : State :=
  if bySpi s n ≠ spi then onKeeper (fun k => { k with foreignRings := sat32 (k.foreignRings + 1) }) s
  else
    let s := onMailbox n (fun b => { b with dbReq := true }) s
    takeMailbox n (if inAck then overrun sluiceDoorbell s else s)

def execDoorbellRing (t : Nat) (n : Fin 8) (spi inAck : Bool) (s : State) : Host.Outcome State Fault Refusal :=
  let s := atTime t s
  .next (if portUp s then ring n spi inAck s else s)

/-- DB_RSP bit n is cleared; a response that waits is written next. -/
def releaseResponse (n : Fin 8) (s : State) : State :=
  let b := s.keeper.mailboxes[n]
  if b.dbRsp = false then s
  else
    match b.waiting with
    | [] => onMailbox n (fun x => { x with dbRsp := false }) s
    | r :: rest => deliver n r (onMailbox n (fun x => { x with dbRsp := false, waiting := rest }) s)

def execResponseRelease (t : Nat) (n : Fin 8) (s : State) : Host.Outcome State Fault Refusal := .next (releaseResponse n (atTime t s))

def execSluiceOvfClear (mask : W32) (s : State) : Host.Outcome State Fault Refusal := .next (clearOverruns mask s)

/-! ### Registers, R311, R312 -/

def mailboxBits (g : Mailbox → Bool) (s : State) : Nat := (allMailboxes.map fun n => flag n.val (g s.keeper.mailboxes[n])).foldl (· + ·) 0

/-- The value of the aligned word at an offset below 0x1000. -/
def readRegister (s : State) (offset : Nat) : Nat :=
  let k := s.keeper
  match offset with
  | 0x000 => 0x6416D1A5
  | 0x004 => 0x6416 * 2 ^ 16 + Config.hwRev.toNat * 2 ^ 8 + 1
  | 0x008 => Config.serial.toNat % 2 ^ 32
  | 0x00C => Config.serial.toNat / 2 ^ 32
  | 0x010 => if k.running then keeperVersion s else 0
  | 0x014 => cfg s P.spiMask
  | 0x100 => mailboxBits (fun b => b.dbReq) s
  | 0x104 => mailboxBits (fun b => b.dbRsp) s
  | 0x108 => k.intStat.toNat
  | 0x10C => k.intMask.toNat
  | 0x110 => k.hostBeat.toNat
  | 0x114 => stateCode s.mod.state * 2 ^ 24 + powerCode s.mod.power * 2 ^ 16 + k.beatCount.toNat
  | 0x118 => k.sluiceOvf.toNat
  | _ => 0

/-- HOST_BEAT is written; its word crosses to the KEEPER domain and back in 13 to 19.5 ns (R390, R402). -/
def writeBeat (w : W32) (s : State) : State :=
  let s := match s.keeper.beatAt with
    | some a => crossValue sluiceBeat (nowOf s - a) 13 20 s
    | none => s
  onKeeper (fun k => { k with hostBeat := w, beatAt := some (nowOf s) }) s

/-- A write of the aligned word at an offset below 0x1000, by SPI or by PCIe. -/
def writeRegister (spi : Bool) (offset : Nat) (w : W32) (s : State) : State :=
  match offset with
  | 0x100 => allMailboxes.foldl (fun s n => if w.getLsbD n.val then ring n spi false s else s) s
  | 0x104 => allMailboxes.foldl (fun s n => if w.getLsbD n.val then releaseResponse n s else s) s
  | 0x108 => onKeeper (fun k => { k with intStat := k.intStat &&& ~~~w }) s
  | 0x10C => onKeeper (fun k => { k with intMask := w &&& 0x1FF#32 }) s
  | 0x110 => writeBeat w s
  | 0x118 => clearOverruns w s
  | _ => s

def countBarError (s : State) : State := onKeeper (fun k => { k with barErrors := min 0xFFFF (k.barErrors + 1) }) s

/-- The mailbox at an offset from 0x10000, and the place in its 8 KiB. -/
def mailboxAt (offset : Nat) : Option (Fin 8 × Nat) :=
  if h : 0x10000 ≤ offset ∧ offset < 0x20000 then some (⟨(offset - 0x10000) / 0x2000, by omega⟩, offset % 0x2000) else none

/-- Bytes into mailbox halves; response halves and unused space ignore them. -/
def writeHalf (offset : Nat) (b : Byte) (s : State) : State :=
  match mailboxAt offset with
  | some (n, o) => if o < 0x1000 then onMailbox n (fun x => { x with req := putBytes o [b] x.req }) s else s
  | none => s

def writeHalves (offset : Nat) (bs : List Byte) (s : State) : State := bs.zipIdx.foldl (fun s p => writeHalf (offset + p.2) p.1 s) s

def readHalf (s : State) (offset : Nat) : Byte :=
  match mailboxAt offset with
  | some (n, o) => if o < 0x1000 then (tget o s.keeper.mailboxes[n].req).getD 0 else (tget (o - 0x1000) s.keeper.mailboxes[n].rsp).getD 0
  | none => 0

/-- REGISTER_WRITE: a PCIe write of 1, 2 or 4 bytes. -/
def execRegisterWrite (t : Nat) (offset width : Nat) (data : W32) (s : State) : Host.Outcome State Fault Refusal :=
  let s := atTime t s
  .next (if portUp s = false then s
    else if 0x1000 ≤ offset then writeHalves offset (leBytes width data.toNat) s
    else if width = 4 ∧ offset % 4 = 0 then writeRegister false offset data s
    else countBarError s)

/-- BAR0_READ: a PCIe read; any other access to a register than an aligned word returns all ones and is counted. -/
def execBar0Read (offset width : Nat) (s : State) : Host.Outcome State Fault Refusal :=
  .next (if portUp s = false then s
    else
      let answer (bs : List Byte) (s : State) : State := onKeeper (fun k => { k with readData := bs }) s
      if 0x1000 ≤ offset then answer ((List.range width).map fun i => readHalf s (offset + i)) s
      else if width = 4 ∧ offset % 4 = 0 then answer (le4 (readRegister s offset)) s
      else answer (le4 0xFFFFFFFF) (countBarError s))

/-! ### SPI, R316 -/

/-- End of the registers, where a burst is cut. -/
def registerEnd : Nat := 0x120

/-- Bytes of a burst before the next boundary: of 4 KiB, or the end of the register block. -/
def burstRoom (address : Nat) : Nat := if address < registerEnd then registerEnd - address else 0x1000 - address % 0x1000

def cutBurst (address count : Nat) (s : State) : Nat × State :=
  if count ≤ burstRoom address then (count, s)
  else (burstRoom address, onKeeper (fun k => { k with spiBurstErr := min 0xFFFF (k.spiBurstErr + 1) }) s)

/-- Registers under a burst: the aligned words that it touches, and whether it covers each whole. -/
def burstWords (address count : Nat) : List (Nat × Bool) :=
  let first := address / 4
  let last := (address + count + 3) / 4
  (List.range (last - first)).map fun i =>
    let o := 4 * (first + i)
    (o, decide (address ≤ o) && decide (o + 4 ≤ address + count))

def spiWriteBytes (address : Nat) (bs : List Byte) (s : State) : State :=
  if 0x1000 ≤ address then writeHalves address bs s
  else
    (burstWords address bs.length).foldl (fun s p =>
      if p.2 then writeRegister true p.1 (BitVec.ofNat 32 (natAt bs (p.1 - address) 4)) s else countBarError s) s

def execSpiWrite (t : Nat) (address : Nat) (data : List Byte) (s : State) : Host.Outcome State Fault Refusal :=
  let s := atTime t s
  .next (if portUp s = false then s
    else
      let a := address % 0x20000
      let r := cutBurst a data.length s
      spiWriteBytes a (data.take r.1) r.2)

/-- The bytes of a register burst, from the words as they stand. -/
def burstBytes (s : State) (address count : Nat) : List Byte :=
  let words := (burstWords address count).flatMap fun p => if p.2 then le4 (readRegister s p.1) else le4 0xFFFFFFFF
  (words.drop (address % 4)).take count

def execSpiRead (t : Nat) (address count : Nat) (s : State) : Host.Outcome State Fault Refusal :=
  let s := atTime t s
  .next (if portUp s = false then s
    else
      let a := address % 0x20000
      let r := cutBurst a count s
      let answer (bs : List Byte) (s : State) : State := onKeeper (fun k => { k with readData := bs }) s
      if 0x1000 ≤ a then answer ((List.range r.1).map fun i => readHalf r.2 (a + i)) r.2
      else answer (burstBytes r.2 a r.1) ((burstWords a r.1).foldl (fun s p => if p.2 then s else countBarError s) r.2))

/-- HOST_IRQ_N is low (R314). -/
def irqAsserted (s : State) : Bool := (s.keeper.intStat &&& s.keeper.intMask) != 0

def execSpiStatus (s : State) : Host.Outcome State Fault Refusal :=
  .next (if portUp s then onKeeper (fun k => { k with readData := [byteOf (flag 7 (irqAsserted s))] }) s else s)

def execSpiReset (t : Nat) (s : State) : Host.Outcome State Fault Refusal :=
  let s := atTime t s
  .next (if portUp s then endSpi s else s)

def execPcieReset (t : Nat) (s : State) : Host.Outcome State Fault Refusal :=
  let s := atTime t s
  .next (if portUp s then endPcie s else s)

/-! ### Liveness, R312, R315 -/

def execKeeperBeatTick (s : State) : Host.Outcome State Fault Refusal :=
  .next (if s.path.powered && s.keeper.running && !s.sec.keeperHalted then onKeeper (fun k => { k with beatCount := k.beatCount + 1 }) s else s)

/-- The host is silent: PCIe and SPI sessions end. Which transport the event's source names is free; the word was either's. -/
def loseBeat (s : State) : State :=
  let w := s.keeper.hostBeat.toNat
  let from_ := (freeWord s).toNat % 2
  let s := raiseInt intBeat (endSpi (endPcie (draw s)))
  stage 0x0C01 (srcHost from_) (le4 w) s

def execHostBeatSample (t : Nat) (s : State) : Host.Outcome State Fault Refusal :=
  let s := atTime t s
  let k := s.keeper
  .next (if keeperServes s = false then s
    else if k.hostBeat ≠ k.sampledBeat ∨ cfg s P.beatTimeout = 0 then
      onKeeper (fun k => { k with sampledBeat := k.hostBeat, sampledAt := t }) s
    else if k.sampledAt + msToNs (cfg s P.beatTimeout) ≤ t then onKeeper (fun k => { k with sampledAt := t }) (loseBeat s)
    else s)

/-! ### Network connections, R317, R462 -/

def timeKnown (s : State) : Bool :=
  match s.time.servo with
  | .locked | .holdover | .grandmaster => true
  | _ => false

/-- The certificate is accepted. -/
def certOk (s : State) (c : ClientCert) : Bool :=
  c.handshakeOk && c.keyP384 && decide (c.chainLength ≤ 2) &&
    (match c.signer with
    | some n => (slotKey s n.val).isSome
    | none => false) &&
    (!timeKnown s || (decide (c.notBefore ≤ nowOf s) && decide (nowOf s ≤ c.notAfter)))

/-- The transport accepts connections on a port. -/
def listens (s : State) (port : Fin 3) : Bool :=
  keeperServes s && logicAwake s && bitAt (cfg s P.mgmtPorts) port.val && (s.sec.lifecycle == .provisioned || s.sec.lifecycle == .deployed)

/-- A connection beyond the HOST quota is closed after its handshake and counted (R362). -/
def refuseConn (s : State) : State :=
  stage 0x0401 (srcHost 2) (le4 (quotaOf s 5) ++ le4 (hostUse s)) (onKeeper (fun k => { k with connsRefused := min 0xFFFF (k.connsRefused + 1) }) s)

def openConn (port : Fin 3) (slot : Fin 4) (access : Access) (s : State) : State :=
  let r := useSession s
  let c : NetConn := { session := r.1, port := port, access := access, keySlot := slot, lastActivity := nowOf s, stored := none, sent := [] }
  notePeaks (onKeeper (fun k => { k with conns := k.conns ++ [c] }) r.2)

def execNetConnectionOpen (t : Nat) (port : Fin 3) (cert : ClientCert) (s : State) : Host.Outcome State Fault Refusal :=
  let s := atTime t s
  .next (match cert.signer with
    | some n =>
      if listens s port = false ∨ certOk s cert = false ∨ 16 ≤ s.keeper.conns.length then s
      else if withinQuota s 5 (hostUse s) (hostUse s + 4) = false then refuseConn s
      else openConn port n (cert.unit.getD .read) s
    | none => s)

def execNetConnectionClose (t : Nat) (session : Nat) (s : State) : Host.Outcome State Fault Refusal :=
  let s := atTime t s
  .next (if (connOf s session).isSome then endConn session s else s)

def execNetMgmtIdleExpiry (t : Nat) (session : Nat) (s : State) : Host.Outcome State Fault Refusal :=
  let s := atTime t s
  .next (match connOf s session with
    | some c => if c.lastActivity + msToNs (1000 * cfg s P.mgmtIdle) ≤ t then endConn session s else s
    | none => s)

/-! ### CLASS_E_RESPONSE_TIMEOUT, R324 -/

/-- The entry has not ended within 100 ms of its acceptance: the Keeper answers `ACCEPTED`. -/
def execClassEResponseTimeout (t : Nat) (journal : Nat) (s : State) : Host.Outcome State Fault Refusal :=
  let s := atTime t s
  .next (match s.keeper.held.find? fun r => r.journal == journal with
    | some r =>
      if keeperServes s ∧ r.acceptedAt + 100000000 ≤ t then
        answer r.hdr (mkResponse s r.hdr r.command stAccepted journal (lastMirrored s) [])
          (onKeeper (fun k => { k with held := k.held.filter fun x => x.journal != journal }) s)
      else s
    | none => s)

end Sys2Proof.Machine
end

