-- ==== Sys2Proof/Machine/Instances.lean ====
section
/-! DEFINITION. Instances: edges, timers, counters, LDI (R72 to R79), and the block instructions (R80). -/

namespace Sys2Proof.Machine

open Sys2Proof

/-- Writes an instance record back through the Weave where it changed (R75). -/
def putInst (c : LaneCtx) (number : Nat) (old new : Inst) : LaneCtx :=
  if new = old then c else postEntry c .write (.inst number) new.value (some new)

/-- R73: the instruction is part of the first execution of an edge or a counter: NEW is set, or LAST_T equals T. -/
def firstExecution (x : LaneIn) (r : Inst) : Bool := r.isNew || r.lastT == BitVec.ofNat 64 x.e.tick

/-- What every edge and counter instruction leaves in the state byte: NEW and RESUME clear, and LAST_T at the first
execution (R72, R73). -/
def touched (x : LaneIn) (r : Inst) : Inst :=
  { r with isNew := false, resume := false, lastT := if r.isNew then BitVec.ofNat 64 x.e.tick else r.lastT }

/-- EP and EN, R76. -/
def edgeOp (rising : Bool) (kind : InstKind) (f : WordFields) (x : LaneIn) : LaneCtx :=
  let n := f.im.toNat
  let r := laneInst x n kind
  let i := x.c.acc
  let prev := if firstExecution x r then i else r.prev
  let out := if rising then i && !prev else !i && prev
  putInst { x.c with acc := out, fc := false } n r { touched x r with prev := i }

/-- The preset PT of a timer in ns (R77). -/
def timerPreset (x : LaneIn) (f : WordFields) : Nat :=
  let count := if f.m.getLsbD 2 then (regOf x.c (f.o.toNat % 16)).toNat else f.o.toNat
  min (count * if f.m.getLsbD 3 then 1000 else 1000000) 0x7FFFFFFFFFFFFFFF

/-- Δ of R74. -/
def timerDelta (x : LaneIn) (r : Inst) : Nat :=
  if r.isNew || r.resume then 0 else x.e.tick - r.lastT.toNat

/-- New TSTATE, E and Q of a timer from its kind, input, previous input, Δ and PT (R77). -/
def timerEval (kind : InstKind) (inp prev q : Bool) (ts : TState) (e delta pt : Nat) : TState × Nat × Bool :=
  match kind with
  | .ton =>
    if inp then
      let (ts, e) := if ts = .idle then (TState.running, 0) else (ts, min (e + delta) pt)
      (if pt ≤ e then .done else ts, e, decide (pt ≤ e))
    else (.idle, 0, false)
  | .tof =>
    if inp then (.idle, 0, true)
    else
      let (ts, e) :=
        if ts = .idle ∧ q = true then (TState.running, 0)
        else if ts = .running then (ts, min (e + delta) pt)
        else (ts, e)
      let ts := if ts = .running ∧ pt ≤ e then .done else ts
      (ts, e, decide (ts = .running))
  | _ =>
    let (ts, e) :=
      if ts = .idle ∧ inp = true ∧ prev = false then (TState.running, 0)
      else if ts = .running then (ts, min (e + delta) pt)
      else (ts, e)
    let ts := if ts = .running ∧ pt ≤ e then .done else ts
    let (ts, e) := if ts = .done ∧ inp = false then (TState.idle, 0) else (ts, e)
    (ts, e, decide (ts = .running))

/-- TON, TOF and TP, R73, R74 and R77. -/
def timerOp (kind : InstKind) (f : WordFields) (x : LaneIn) : LaneCtx :=
  let n := f.im.toNat
  let r := laneInst x n kind
  let inp := x.c.acc
  let pt := timerPreset x f
  let prev := if r.isNew then inp else r.prev
  let (ts, e, q) := timerEval kind inp prev r.q r.ts r.value.toNat (timerDelta x r) pt
  putInst { x.c with acc := q, fc := false } n r
    { r with value := BitVec.ofNat 64 e, lastT := BitVec.ofNat 64 x.e.tick, preset := BitVec.ofNat 64 pt,
             isNew := false, resume := false, ts := ts, q := q, prev2 := false, prev := inp }

/-- CTU, CTD and CTUD, R73 and R78. -/
def counterOp (kind : InstKind) (f : WordFields) (x : LaneIn) : LaneCtx :=
  let n := f.im.toNat
  let r := laneInst x n kind
  let inp := x.c.acc
  let pv : Int := if f.m.getLsbD 1 then intOf .int64 (regOf x.c (f.o.toNat % 16)) else f.o.toNat
  let cv := intOf .int64 r.value
  let first := firstExecution x r
  let prev := if first then inp else r.prev
  let prev2 := if first then inp else r.prev2
  let (cv, newPrev, newPrev2) :=
    match f.m.toNat / 4 with
    | 0 =>
      (if inp = true ∧ prev = false then
         (if kind = InstKind.ctd then max (cv - 1) (minOf .int64) else min (cv + 1) (maxOf .int64))
       else cv, inp, r.prev2)
    | 1 => (if inp = true ∧ prev2 = false then max (cv - 1) (minOf .int64) else cv, r.prev, inp)
    | 2 => (if inp then 0 else cv, r.prev, r.prev2)
    | _ => (if inp then pv else cv, r.prev, r.prev2)
  let out := if kind = InstKind.ctd ∨ f.m.getLsbD 0 = true then decide (cv ≤ 0) else decide (pv ≤ cv)
  putInst { x.c with acc := out, fc := false } n r
    { touched x r with value := BitVec.ofInt 64 cv, preset := BitVec.ofInt 64 pv, prev := newPrev, prev2 := newPrev2 }

/-- BLD, BAND, BOR and BXOR (R80). -/
def blockRead (g : W64 → W64 → W64) (f : WordFields) (x : LaneIn) : LaneCtx :=
  setReg x.c (wdHigh f) (g (regOf x.c (wdHigh f)) (packedTags x f.o.toNat))

/-- BST: 64 writes in ascending order, each tag written even if its value is unchanged (R80). -/
def blockStore (f : WordFields) (x : LaneIn) : LaneCtx :=
  let w := regOf x.c (wdHigh f)
  (List.range 64).foldl (fun c i => postTag c (f.o.toNat + i) (if w.getLsbD i then 1 else 0)) x.c

def blockOpen (f : WordFields) (x : LaneIn) : Bool := (List.range 64).any fun i => (laneTag x (f.o.toNat + i)).isNone

/-- EP detects a rising edge of ACC (R76). -/
def execEp (l : LaneId) (m : BitVec 4) (o : BitVec 20) (im : W32) (s : State) : Host.Outcome State Fault Refusal :=
  let f : WordFields := ⟨0x28, m, o, im⟩
  .next (laneStep s l f (edgeOp true .ep f) (neverOpen))

/-- EN detects a falling edge of ACC (R76). -/
def execEn (l : LaneId) (m : BitVec 4) (o : BitVec 20) (im : W32) (s : State) : Host.Outcome State Fault Refusal :=
  let f : WordFields := ⟨0x29, m, o, im⟩
  .next (laneStep s l f (edgeOp false .en f) (neverOpen))

/-- TON, R77. -/
def execTon (l : LaneId) (m : BitVec 4) (o : BitVec 20) (im : W32) (s : State) : Host.Outcome State Fault Refusal :=
  let f : WordFields := ⟨0x30, m, o, im⟩
  .next (laneStep s l f (timerOp .ton f) (neverOpen))

/-- TOF, R77. -/
def execTof (l : LaneId) (m : BitVec 4) (o : BitVec 20) (im : W32) (s : State) : Host.Outcome State Fault Refusal :=
  let f : WordFields := ⟨0x31, m, o, im⟩
  .next (laneStep s l f (timerOp .tof f) (neverOpen))

/-- TP, R77. -/
def execTp (l : LaneId) (m : BitVec 4) (o : BitVec 20) (im : W32) (s : State) : Host.Outcome State Fault Refusal :=
  let f : WordFields := ⟨0x32, m, o, im⟩
  .next (laneStep s l f (timerOp .tp f) (neverOpen))

/-- CTU, R78. -/
def execCtu (l : LaneId) (m : BitVec 4) (o : BitVec 20) (im : W32) (s : State) : Host.Outcome State Fault Refusal :=
  let f : WordFields := ⟨0x38, m, o, im⟩
  .next (laneStep s l f (counterOp .ctu f) (neverOpen))

/-- CTD, R78. -/
def execCtd (l : LaneId) (m : BitVec 4) (o : BitVec 20) (im : W32) (s : State) : Host.Outcome State Fault Refusal :=
  let f : WordFields := ⟨0x39, m, o, im⟩
  .next (laneStep s l f (counterOp .ctd f) (neverOpen))

/-- CTUD, R78. -/
def execCtud (l : LaneId) (m : BitVec 4) (o : BitVec 20) (im : W32) (s : State) : Host.Outcome State Fault Refusal :=
  let f : WordFields := ⟨0x3A, m, o, im⟩
  .next (laneStep s l f (counterOp .ctud f) (neverOpen))

/-- LDI copies the VALUE field of an instance into Wd; nothing else changes (R79). -/
def execLdi (l : LaneId) (m : BitVec 4) (o : BitVec 20) (im : W32) (s : State) : Host.Outcome State Fault Refusal :=
  let f : WordFields := ⟨0x3F, m, o, im⟩
  .next (laneStep s l f (fun x => setReg x.c (wdLow f) (laneInst x f.im.toNat .ep).value) (neverOpen))

/-- BLD loads 64 packed BOOL tags (R80). -/
def execBld (l : LaneId) (m : BitVec 4) (o : BitVec 20) (im : W32) (s : State) : Host.Outcome State Fault Refusal :=
  let f : WordFields := ⟨0x40, m, o, im⟩
  .next (laneStep s l f (blockRead (fun _ p => p) f) (blockOpen f))

/-- BST writes 64 BOOL tags (R80). -/
def execBst (l : LaneId) (m : BitVec 4) (o : BitVec 20) (im : W32) (s : State) : Host.Outcome State Fault Refusal :=
  let f : WordFields := ⟨0x41, m, o, im⟩
  .next (laneStep s l f (blockStore f) (neverOpen))

/-- BAND (R80). -/
def execBand (l : LaneId) (m : BitVec 4) (o : BitVec 20) (im : W32) (s : State) : Host.Outcome State Fault Refusal :=
  let f : WordFields := ⟨0x42, m, o, im⟩
  .next (laneStep s l f (blockRead (fun w p => w &&& p) f) (blockOpen f))

/-- BOR (R80). -/
def execBor (l : LaneId) (m : BitVec 4) (o : BitVec 20) (im : W32) (s : State) : Host.Outcome State Fault Refusal :=
  let f : WordFields := ⟨0x43, m, o, im⟩
  .next (laneStep s l f (blockRead (fun w p => w ||| p) f) (blockOpen f))

/-- BXOR (R80). -/
def execBxor (l : LaneId) (m : BitVec 4) (o : BitVec 20) (im : W32) (s : State) : Host.Outcome State Fault Refusal :=
  let f : WordFields := ⟨0x44, m, o, im⟩
  .next (laneStep s l f (blockRead (fun w p => w ^^^ p) f) (blockOpen f))

end Sys2Proof.Machine
end

