-- ==== Sys2Proof/Machine/Startup.lean ====
section
/-! DEFINITION. Starts and returns to service: power-up, restarts, the Keeper's own restart, the wake from DORMANT, the self-test hold,
and the end of a debug session (R10, R364 to R366, R374, R387, R396, R412, R438, R440, R441, R455, R456, R464, R480). -/

namespace Sys2Proof.Machine

open Sys2Proof

/-! ### POWER_UP -/

/-- Step 1: the power-cycle counter increments from the higher of its two copies, and operating hours resume from the later. -/
def resumeCounters (p : Towpath) : Towpath :=
  let fromMram := decide (p.hours < p.mramHours) || (p.hours == p.mramHours && decide (p.seconds < p.mramSeconds))
  { p with powerCycles := sat32 (max p.powerCycles p.mramCycles + 1), hours := if fromMram then p.mramHours else p.hours,
           seconds := if fromMram then p.mramSeconds else p.seconds }

/-- The feed has risen above its threshold; the straps are read. -/
def takePower (feed : Fin 2) (failHi dbgHold : Bool) (s : State) : State :=
  let n : Fin 4 := ⟨feed.val, by omega⟩
  let risen : Feed := if s.path.feeds[n].inRange then s.path.feeds[n] else { inRange := true, microV := 17000001 }
  onPath (fun p =>
    { resumeCounters p with powered := true, feeds := p.feeds.set n risen, charged := false, flushed := false, strapFailHi := failHi,
                            strapDbgHold := dbgHold }) s

/-- JOURNAL_RESTORE: entries that had not ended at the flush end PARTIAL or FAILED; IDs continue from the highest. -/
def restoreJournal (s : State) : State :=
  let entries := s.path.savedJournal.map cutEntry
  let last := (entries.map fun (e : JnlEntry) => e.id).foldl max 0
  onPath (fun p => { p with savedJournal := [] }) (onKeeper (fun k => { k with journal := entries, lastJournal := last }) s)

/-- Entries that the last flush lost are the first record (R412). -/
def reportLost (s : State) : State :=
  if s.recd.lostAtFlush = 0 then s
  else
    let e := { mkEvent 0x0F01 srcModule (le4 s.recd.lostAtFlush) s with lostBefore := true }
    onRecd (fun r => { r with staging := r.staging ++ [e], lostAtFlush := 0 }) s

/-- The monitor is in START while it has a supply (R366). -/
def startMonitor (s : State) : State := if suppliesOut s then s else resetMonitor .start s

/-- In BLANK a high DBG_HOLD stops the module at the start of step 6, with BIST_HELD set. -/
def holdForDebug (s : State) : State :=
  match bootFirmware s with
  | none => s
  | some s => onSec (fun c => { c with bistHeld := true }) (startKeeper s)

def execPowerUp (t : Nat) (feed : Fin 2) (failHi dbgHold : Bool) (microF : Nat) (runs : List BistRun) (s : State) :
    Host.Outcome State Fault Refusal :=
  let s := atTime t s
  .next (if s.path.powered then s
    else
      let s := measureHoldup microF (takePower feed failHi dbgHold s)
      let s := endSpi (endPcie (startMonitor (reportLost (restoreJournal s))))
      if s.sec.lifecycle = .blank ∧ dbgHold ∧ s.sec.wipeFailed = false then holdForDebug s else startUp true runs s)

/-! ### RESTART -/

/-- A restart runs from step 3; a module that the pair procedure restarted releases itself, and requests that waited are served. -/
def runRestart (runs : List BistRun) (s : State) : State :=
  servePending (releaseAfterUpdate (startUp false runs (onMod (fun m => { m with restarting := false }) s)))

/-- The die may leave reset. -/
def resetOver (s : State) : Bool := s.path.powered && s.mod.restarting && !s.path.flushed

def execRestart (t : Nat) (runs : List BistRun) (s : State) : Host.Outcome State Fault Refusal :=
  let s := atTime t s
  .next (if resetOver s && !s.refs.latchedLost then runRestart runs s else s)

/-- REF_RECOVERED: the module leaves `BOOT` on that reference and records `REF_LOST`. The manual gives the latched cause no code. -/
def execRefRecovered (t : Nat) (r : Fin 2) (runs : List BistRun) (s : State) : Host.Outcome State Fault Refusal :=
  let s := atTime t s
  .next (if resetOver s && s.refs.latchedLost then
      let s := onRefs (fun x => { x with latchedLost := false }) s
      let s := stage 0x0E03 (srcClock s.refs.inUse.val) [(freeWord s).setWidth 8] (draw s)
      let s := startUp false runs (onMod (fun m => { m with restarting := false }) s)
      servePending (releaseAfterUpdate (onRefs (fun x => { x with inUse := r }) s))
    else s)

/-! ### The Keeper's own restart, R10, R374, R438 to R441 -/

/-- The Keeper runs its firmware outside a restart of the module. -/
def keeperUp (s : State) : Bool := s.path.powered && s.keeper.running && !s.mod.restarting

def execKeeperLockstepError (t : Nat) (s : State) : Host.Outcome State Fault Refusal :=
  let s := atTime t s
  .next (if keeperUp s then pauseKeeper 0 s else s)

def execKeeperWatchdog (t : Nat) (s : State) : Host.Outcome State Fault Refusal :=
  let s := atTime t s
  .next (if keeperUp s then beginRestart 1 s else s)

/-- The Keeper runs again: an image on trial is confirmed, the restart is recorded, and requests that waited are served. -/
def resumeKeeper (s : State) : State :=
  let s := confirmBoot s
  let c := s.keeper.restartCause
  let s := raiseInt intRestart (onKeeper (fun k => { k with running := true, restartCause := 0 }) s)
  servePending (endActivations (stage 0x0101 srcModule ([byteOf c] ++ le4 (keeperVersion s)) s))

/-- KEEPER_RESTART_COMPLETE. An image on trial that cannot read the settings goes back, and the Keeper loads the fallback first. -/
def execKeeperRestartComplete (t : Nat) (s : State) : Host.Outcome State Fault Refusal :=
  let s := atTime t s
  .next (if s.path.powered && !s.keeper.running && !s.mod.restarting && s.mod.state != .boot then
      if trialUnreadable s then revertSlot 0 stSettings s else resumeKeeper s
    else s)

/-! ### DORMANT_WAKE -/

def execDormantWake (t : Nat) (s : State) : Host.Outcome State Fault Refusal := .next (servePending (wakeUp t (atTime t s)))

/-! ### The end of a debug session, R455, R456, R464 -/

/-- DBG_CLOSE: with any session. -/
def execDbgClose (t : Nat) (s : State) : Host.Outcome State Fault Refusal :=
  .next (jtag (fun s => s.sec.session.isSome) (fun s => servePending (closeSession s)) t s)

def execDebugIdleExpiry (t : Nat) (s : State) : Host.Outcome State Fault Refusal :=
  let s := atTime t s
  .next (match s.sec.session with
    | some x =>
      if cfg s P.debugIdle ≠ 0 ∧ x.lastTck + msToNs (60000 * cfg s P.debugIdle) ≤ t then servePending (closeSession s) else s
    | none => s)

/-- The self-test runs and the module reaches `HELD`; the session, closed meanwhile, reopens there. -/
def goOn (runs : List BistRun) (s : State) : State :=
  let level := levelOf s
  let s := finishStart true runs (clearDebug s)
  let s := if level ≠ .closed ∧ s.mod.state = .held then openSession level none s else s
  servePending s

/-- BIST_GO, in a hold. -/
def execBistGo (t : Nat) (runs : List BistRun) (s : State) : Host.Outcome State Fault Refusal :=
  .next (jtag (fun s => s.sec.bistHeld) (goOn runs) t s)

end Sys2Proof.Machine
end

