-- ==== Sys2Proof/Machine/WordUnit.lean ====
section
/-! DEFINITION. The Word Unit: moves, integer and real arithmetic, comparisons, conversion, LIMIT and SCALE
(R81 to R87). -/

namespace Sys2Proof.Machine

open Sys2Proof

/-- Opcode of a word instruction in a form: bits [1:0] select T, L, G, I (R60). -/
def formOp (base : Nat) (fm : Form) : BitVec 8 :=
  BitVec.ofNat 8 (base + match fm with
    | .t => 0
    | .l => 1
    | .g => 2
    | .i => 3)

def wordOpen (fm : Form) (f : WordFields) (x : LaneIn) : Bool := (wordOperand x fm (modType f) f).isNone

/-- Wd ← Wd op operand in the type of MOD, in that type's encoding. -/
def arith (op : ValType → W64 → W64 → W64) (fm : Form) (f : WordFields) (x : LaneIn) : LaneCtx :=
  let ty := modType f
  let v := (wordOperand x fm ty f).getD x.free
  setReg x.c (destOf fm f) (op ty (regOf x.c (destOf fm f)) v)

/-- An integer operation in exact arithmetic, wrapped to the type (R83). -/
def intOp (g : Int → Int → Int) (ty : ValType) (a b : W64) : W64 := encodeInt ty (g (intOf ty a) (intOf ty b))

/-- Division truncating toward zero; by zero it gives 0 (R83). -/
def divTrunc (a b : Int) : Int := if b = 0 then 0 else Int.tdiv a b

/-- Remainder with the sign of the dividend; by zero it gives 0 (R83). -/
def modTrunc (a b : Int) : Int := if b = 0 then 0 else Int.tmod a b

/-- A real operation on the formats of REAL32 and REAL64 (R84). -/
def realOp (g : Fmt → Nat → Nat → Nat) (ty : ValType) (a b : W64) : W64 :=
  let low (w : W64) := w.toNat % 2 ^ typeWidth ty
  BitVec.ofNat 64 (g (fmtOf ty) (low a) (low b))

/-- A comparison (R85): c combines into ACC as an AND, opening a string where FC is 1. -/
def compareOp (want : Option Ordering → Bool) (fm : Form) (f : WordFields) (x : LaneIn) : LaneCtx :=
  let ty := modType f
  let v := (wordOperand x fm ty f).getD x.free
  let c := want (compareVals ty (regOf x.c (destOf fm f)) v)
  { x.c with acc := if x.c.fc then c else x.c.acc && c, fc := false }

def isLt (o : Option Ordering) : Bool := o == some .lt
def isGt (o : Option Ordering) : Bool := o == some .gt

/-- LIMIT of R87; none where a bound is a NaN and Wd is not, for which the spec states no result. Where Wd is a NaN and
Wa is greater than Wa+1, two sentences of R87 give Wa and Wa+1; Wa is taken: DESIGN CHOICE (notes/assumptions/74.md). -/
def limitVal (ty : ValType) (d lo hi : W64) : Option W64 :=
  if isRealType ty && (realOf ty d).isNan then some lo
  else
    match compareVals ty d lo, compareVals ty d hi, compareVals ty lo hi with
    | some dl, some dh, some lh =>
      some (if lh = .gt then hi else if dl = .lt then lo else if dh = .gt then hi else d)
    | _, _, _ => none

def limitArgs (f : WordFields) (x : LaneIn) : Option W64 :=
  let a := f.o.toNat % 16
  limitVal (modType f) (regOf x.c (wdHigh f)) (regOf x.c a) (regOf x.c (a + 1))

/-- SCALE of R87, rounding each operation in its order. -/
def scaleVal (ty : ValType) (x x1 x2 y1 y2 : W64) : W64 :=
  if compareVals ty x2 x1 = some .eq then encodeVal ty y1
  else
    let d := realOp fsub ty x x1
    let r := realOp fsub ty y2 y1
    let q := realOp fmul ty d r
    realOp fadd ty y1 (realOp fdiv ty q (realOp fsub ty x2 x1))

/-- STW in form T or L. DESIGN CHOICE (notes/assumptions/71.md): a local word outside the declared frame is dropped
and the lane goes on. -/
def storeWord (fm : Form) (f : WordFields) (x : LaneIn) : LaneCtx :=
  let v := encodeVal (modType f) (regOf x.c (wdHigh f))
  match fm with
  | .t => postTag x.c f.o.toNat v
  | _ =>
    match laneLocal x f.o.toNat with
    | some _ => setLocal x.c f.o.toNat v
    | none => x.c

/-- LDW loads a tag, a local word or an extended immediate (R82). -/
def execLdw (l : LaneId) (fm : Form) (m : BitVec 4) (o : BitVec 20) (im : W32) (s : State) : Host.Outcome State Fault Refusal :=
  let f : WordFields := ⟨formOp 0x50 fm, m, o, im⟩
  .next (laneStep s l f (fun x => setReg x.c (destOf fm f) ((wordOperand x fm (modType f) f).getD x.free)) (wordOpen fm f))

/-- STW writes Wd in its type's encoding to a tag, through the Weave, or to a local word (R82). -/
def execStw (l : LaneId) (fm : Form) (m : BitVec 4) (o : BitVec 20) (im : W32) (s : State) : Host.Outcome State Fault Refusal :=
  let f : WordFields := ⟨formOp 0x54 fm, m, o, im⟩
  .next (laneStep s l f (fun x => storeWord fm f x) (neverOpen))

/-- MOVW copies Ws to Wd unchanged (R82). -/
def execMovw (l : LaneId) (m : BitVec 4) (o : BitVec 20) (im : W32) (s : State) : Host.Outcome State Fault Refusal :=
  let f : WordFields := ⟨0x5A, m, o, im⟩
  .next (laneStep s l f (fun x => setReg x.c (wdHigh f) (regOf x.c (f.o.toNat % 16))) (neverOpen))

/-- LDWH replaces Wd[63:32] with the immediate (R82). -/
def execLdwh (l : LaneId) (m : BitVec 4) (o : BitVec 20) (im : W32) (s : State) : Host.Outcome State Fault Refusal :=
  let f : WordFields := ⟨0x5F, m, o, im⟩
  .next (laneStep s l f (fun x => setReg x.c (wdLow f) (f.im ++ (regOf x.c (wdLow f)).extractLsb' 0 32)) (neverOpen))

/-- ADD wraps modulo the type's width (R83). -/
def execAdd (l : LaneId) (fm : Form) (m : BitVec 4) (o : BitVec 20) (im : W32) (s : State) : Host.Outcome State Fault Refusal :=
  let f : WordFields := ⟨formOp 0x60 fm, m, o, im⟩
  .next (laneStep s l f (arith (intOp (fun a b => a + b)) fm f) (wordOpen fm f))

/-- SUB wraps modulo the type's width (R83). -/
def execSub (l : LaneId) (fm : Form) (m : BitVec 4) (o : BitVec 20) (im : W32) (s : State) : Host.Outcome State Fault Refusal :=
  let f : WordFields := ⟨formOp 0x64 fm, m, o, im⟩
  .next (laneStep s l f (arith (intOp (fun a b => a - b)) fm f) (wordOpen fm f))

/-- MUL wraps modulo the type's width (R83). -/
def execMul (l : LaneId) (fm : Form) (m : BitVec 4) (o : BitVec 20) (im : W32) (s : State) : Host.Outcome State Fault Refusal :=
  let f : WordFields := ⟨formOp 0x68 fm, m, o, im⟩
  .next (laneStep s l f (arith (intOp (fun a b => a * b)) fm f) (wordOpen fm f))

/-- DIV wraps modulo the type's width (R83). -/
def execDiv (l : LaneId) (fm : Form) (m : BitVec 4) (o : BitVec 20) (im : W32) (s : State) : Host.Outcome State Fault Refusal :=
  let f : WordFields := ⟨formOp 0x6C fm, m, o, im⟩
  .next (laneStep s l f (arith (intOp (divTrunc)) fm f) (wordOpen fm f))

/-- MOD wraps modulo the type's width (R83). -/
def execMod (l : LaneId) (fm : Form) (m : BitVec 4) (o : BitVec 20) (im : W32) (s : State) : Host.Outcome State Fault Refusal :=
  let f : WordFields := ⟨formOp 0x70 fm, m, o, im⟩
  .next (laneStep s l f (arith (intOp (modTrunc)) fm f) (wordOpen fm f))

/-- NEG: Wd ← −Ws, wrapping (R83). -/
def execNeg (l : LaneId) (m : BitVec 4) (o : BitVec 20) (im : W32) (s : State) : Host.Outcome State Fault Refusal :=
  let f : WordFields := ⟨0x76, m, o, im⟩
  .next (laneStep s l f (fun x => setReg x.c (wdHigh f) (encodeInt (modType f) (-intOf (modType f) (regOf x.c (f.o.toNat % 16))))) (neverOpen))

/-- ABS: Wd ← the absolute value of Ws, wrapping (R83). -/
def execAbs (l : LaneId) (m : BitVec 4) (o : BitVec 20) (im : W32) (s : State) : Host.Outcome State Fault Refusal :=
  let f : WordFields := ⟨0x7A, m, o, im⟩
  .next (laneStep s l f (fun x => setReg x.c (wdHigh f) (encodeInt (modType f) (intOf (modType f) (regOf x.c (f.o.toNat % 16))).natAbs)) (neverOpen))

/-- FADD, R84. -/
def execFadd (l : LaneId) (fm : Form) (m : BitVec 4) (o : BitVec 20) (im : W32) (s : State) : Host.Outcome State Fault Refusal :=
  let f : WordFields := ⟨formOp 0x80 fm, m, o, im⟩
  .next (laneStep s l f (arith (realOp fadd) fm f) (wordOpen fm f))

/-- FSUB, R84. -/
def execFsub (l : LaneId) (fm : Form) (m : BitVec 4) (o : BitVec 20) (im : W32) (s : State) : Host.Outcome State Fault Refusal :=
  let f : WordFields := ⟨formOp 0x84 fm, m, o, im⟩
  .next (laneStep s l f (arith (realOp fsub) fm f) (wordOpen fm f))

/-- FMUL, R84. -/
def execFmul (l : LaneId) (fm : Form) (m : BitVec 4) (o : BitVec 20) (im : W32) (s : State) : Host.Outcome State Fault Refusal :=
  let f : WordFields := ⟨formOp 0x88 fm, m, o, im⟩
  .next (laneStep s l f (arith (realOp fmul) fm f) (wordOpen fm f))

/-- FDIV, R84. -/
def execFdiv (l : LaneId) (fm : Form) (m : BitVec 4) (o : BitVec 20) (im : W32) (s : State) : Host.Outcome State Fault Refusal :=
  let f : WordFields := ⟨formOp 0x8C fm, m, o, im⟩
  .next (laneStep s l f (arith (realOp fdiv) fm f) (wordOpen fm f))

/-- FSQRT: Wd ← the square root of Ws (R84). -/
def execFsqrt (l : LaneId) (m : BitVec 4) (o : BitVec 20) (im : W32) (s : State) : Host.Outcome State Fault Refusal :=
  let f : WordFields := ⟨0x92, m, o, im⟩
  .next (laneStep s l f (fun x => setReg x.c (wdHigh f) (realOp (fun g a _ => fsqrt g a) (modType f) (regOf x.c (f.o.toNat % 16)) 0)) (neverOpen))

/-- CMPEQ, R85. -/
def execCmpeq (l : LaneId) (fm : Form) (m : BitVec 4) (o : BitVec 20) (im : W32) (s : State) : Host.Outcome State Fault Refusal :=
  let f : WordFields := ⟨formOp 0xA0 fm, m, o, im⟩
  .next (laneStep s l f (compareOp (fun o => o == some .eq) fm f) (wordOpen fm f))

/-- CMPNE, R85. -/
def execCmpne (l : LaneId) (fm : Form) (m : BitVec 4) (o : BitVec 20) (im : W32) (s : State) : Host.Outcome State Fault Refusal :=
  let f : WordFields := ⟨formOp 0xA4 fm, m, o, im⟩
  .next (laneStep s l f (compareOp (fun o => o != some .eq) fm f) (wordOpen fm f))

/-- CMPLT, R85. -/
def execCmplt (l : LaneId) (fm : Form) (m : BitVec 4) (o : BitVec 20) (im : W32) (s : State) : Host.Outcome State Fault Refusal :=
  let f : WordFields := ⟨formOp 0xA8 fm, m, o, im⟩
  .next (laneStep s l f (compareOp (isLt) fm f) (wordOpen fm f))

/-- CMPLE, R85. -/
def execCmple (l : LaneId) (fm : Form) (m : BitVec 4) (o : BitVec 20) (im : W32) (s : State) : Host.Outcome State Fault Refusal :=
  let f : WordFields := ⟨formOp 0xAC fm, m, o, im⟩
  .next (laneStep s l f (compareOp (fun o => isLt o || o == some .eq) fm f) (wordOpen fm f))

/-- CMPGT, R85. -/
def execCmpgt (l : LaneId) (fm : Form) (m : BitVec 4) (o : BitVec 20) (im : W32) (s : State) : Host.Outcome State Fault Refusal :=
  let f : WordFields := ⟨formOp 0xB0 fm, m, o, im⟩
  .next (laneStep s l f (compareOp (isGt) fm f) (wordOpen fm f))

/-- CMPGE, R85. -/
def execCmpge (l : LaneId) (fm : Form) (m : BitVec 4) (o : BitVec 20) (im : W32) (s : State) : Host.Outcome State Fault Refusal :=
  let f : WordFields := ⟨formOp 0xB4 fm, m, o, im⟩
  .next (laneStep s l f (compareOp (fun o => isGt o || o == some .eq) fm f) (wordOpen fm f))

/-- CVT converts Ws from the type in IMM [27:24] to the type in MOD (R86). -/
def execCvt (l : LaneId) (m : BitVec 4) (o : BitVec 20) (im : W32) (s : State) : Host.Outcome State Fault Refusal :=
  let f : WordFields := ⟨0xBA, m, o, im⟩
  .next (laneStep s l f (fun x => setReg x.c (wdHigh f) (convert ((typeOf (f.im.toNat / 2 ^ 24 % 16)).getD .uint64) (modType f) (regOf x.c (f.o.toNat % 16)))) (neverOpen))

/-- LIMIT clamps Wd between Wa and Wa+1 (R87). -/
def execLimit (l : LaneId) (m : BitVec 4) (o : BitVec 20) (im : W32) (s : State) : Host.Outcome State Fault Refusal :=
  let f : WordFields := ⟨0xBE, m, o, im⟩
  .next (laneStep s l f (fun x => setReg x.c (wdHigh f) (encodeVal (modType f) ((limitArgs f x).getD x.free))) (fun x => (limitArgs f x).isNone))

/-- SCALE: two-point linear scaling of Wd (R87). -/
def execScale (l : LaneId) (m : BitVec 4) (o : BitVec 20) (im : W32) (s : State) : Host.Outcome State Fault Refusal :=
  let f : WordFields := ⟨0xC2, m, o, im⟩
  .next (laneStep s l f (fun x => setReg x.c (wdHigh f) (scaleVal (modType f) (regOf x.c (wdHigh f)) (regOf x.c (f.o.toNat % 16)) (regOf x.c (f.o.toNat % 16 + 1)) (regOf x.c (f.o.toNat % 16 + 2)) (regOf x.c (f.o.toNat % 16 + 3)))) (neverOpen))

end Sys2Proof.Machine
end

