-- ==== Sys2Proof/Machine/Dispatch.lean ====
section
/-! DEFINITION. One arm per command: the meaning of each, or its rejection by name. -/

namespace Sys2Proof.Machine

/-- The effect of a command on everything but the queue. -/
def exec (i : Instr) (s : State) : Host.Outcome State Fault Refusal :=
  match i with
  | .powerUp t feed failHi dbgHold microF runs => Sys2Proof.Machine.execPowerUp t feed failHi dbgHold microF runs s
  | .restart t runs => Sys2Proof.Machine.execRestart t runs s
  | .keeperLockstepError t => Sys2Proof.Machine.execKeeperLockstepError t s
  | .keeperWatchdog t => Sys2Proof.Machine.execKeeperWatchdog t s
  | .taskTick t k => Sys2Proof.Machine.execTaskTick t k s
  | .lanePreWake t => Sys2Proof.Machine.execLanePreWake t s
  | .laneIdleGate t l => Sys2Proof.Machine.execLaneIdleGate t l s
  | .snapshotCommitStart t k passed => Sys2Proof.Machine.execSnapshotCommitStart t k passed s
  | .snapshotCommitDone t k => Sys2Proof.Machine.execSnapshotCommitDone t k s
  | .taskPreempt t k => Sys2Proof.Machine.execTaskPreempt t k s
  | .taskEnd t k => Sys2Proof.Machine.execTaskEnd t k s
  | .epochStep t k => Sys2Proof.Machine.execEpochStep t k s
  | .deadlineMiss t k => Sys2Proof.Machine.execDeadlineMiss t k s
  | .safeBargeRepeat t => Sys2Proof.Machine.execSafeBargeRepeat t s
  | .weaveVote t k position fault => Sys2Proof.Machine.execWeaveVote t k position fault s
  | .laneTrailTimeout t k l => Sys2Proof.Machine.execLaneTrailTimeout t k l s
  | .agreeValueFormed t k => Sys2Proof.Machine.execAgreeValueFormed t k s
  | .resyncComplete t l => Sys2Proof.Machine.execResyncComplete t l s
  | .resyncTimeout t l => Sys2Proof.Machine.execResyncTimeout t l s
  | .spareLoadComplete t l => Sys2Proof.Machine.execSpareLoadComplete t l s
  | .nop l m o im => Sys2Proof.Machine.execNop l m o im s
  | .ld l m o im => Sys2Proof.Machine.execLd l m o im s
  | .ldn l m o im => Sys2Proof.Machine.execLdn l m o im s
  | .and l m o im => Sys2Proof.Machine.execAnd l m o im s
  | .andn l m o im => Sys2Proof.Machine.execAndn l m o im s
  | .or l m o im => Sys2Proof.Machine.execOr l m o im s
  | .orn l m o im => Sys2Proof.Machine.execOrn l m o im s
  | .xor l m o im => Sys2Proof.Machine.execXor l m o im s
  | .xorn l m o im => Sys2Proof.Machine.execXorn l m o im s
  | .not l m o im => Sys2Proof.Machine.execNot l m o im s
  | .st l m o im => Sys2Proof.Machine.execSt l m o im s
  | .stn l m o im => Sys2Proof.Machine.execStn l m o im s
  | .set l m o im => Sys2Proof.Machine.execSet l m o im s
  | .rst l m o im => Sys2Proof.Machine.execRst l m o im s
  | .andOpen l m o im => Sys2Proof.Machine.execAndOpen l m o im s
  | .orOpen l m o im => Sys2Proof.Machine.execOrOpen l m o im s
  | .xorOpen l m o im => Sys2Proof.Machine.execXorOpen l m o im s
  | .closeBracket l m o im => Sys2Proof.Machine.execCloseBracket l m o im s
  | .ep l m o im => Sys2Proof.Machine.execEp l m o im s
  | .en l m o im => Sys2Proof.Machine.execEn l m o im s
  | .ton l m o im => Sys2Proof.Machine.execTon l m o im s
  | .tof l m o im => Sys2Proof.Machine.execTof l m o im s
  | .tp l m o im => Sys2Proof.Machine.execTp l m o im s
  | .ctu l m o im => Sys2Proof.Machine.execCtu l m o im s
  | .ctd l m o im => Sys2Proof.Machine.execCtd l m o im s
  | .ctud l m o im => Sys2Proof.Machine.execCtud l m o im s
  | .ldi l m o im => Sys2Proof.Machine.execLdi l m o im s
  | .bld l m o im => Sys2Proof.Machine.execBld l m o im s
  | .bst l m o im => Sys2Proof.Machine.execBst l m o im s
  | .band l m o im => Sys2Proof.Machine.execBand l m o im s
  | .bor l m o im => Sys2Proof.Machine.execBor l m o im s
  | .bxor l m o im => Sys2Proof.Machine.execBxor l m o im s
  | .ldw l f m o im => Sys2Proof.Machine.execLdw l f m o im s
  | .stw l f m o im => Sys2Proof.Machine.execStw l f m o im s
  | .movw l m o im => Sys2Proof.Machine.execMovw l m o im s
  | .ldwh l m o im => Sys2Proof.Machine.execLdwh l m o im s
  | .add l f m o im => Sys2Proof.Machine.execAdd l f m o im s
  | .sub l f m o im => Sys2Proof.Machine.execSub l f m o im s
  | .mul l f m o im => Sys2Proof.Machine.execMul l f m o im s
  | .div l f m o im => Sys2Proof.Machine.execDiv l f m o im s
  | .mod l f m o im => Sys2Proof.Machine.execMod l f m o im s
  | .neg l m o im => Sys2Proof.Machine.execNeg l m o im s
  | .abs l m o im => Sys2Proof.Machine.execAbs l m o im s
  | .fadd l f m o im => Sys2Proof.Machine.execFadd l f m o im s
  | .fsub l f m o im => Sys2Proof.Machine.execFsub l f m o im s
  | .fmul l f m o im => Sys2Proof.Machine.execFmul l f m o im s
  | .fdiv l f m o im => Sys2Proof.Machine.execFdiv l f m o im s
  | .fsqrt l m o im => Sys2Proof.Machine.execFsqrt l m o im s
  | .cmpeq l f m o im => Sys2Proof.Machine.execCmpeq l f m o im s
  | .cmpne l f m o im => Sys2Proof.Machine.execCmpne l f m o im s
  | .cmplt l f m o im => Sys2Proof.Machine.execCmplt l f m o im s
  | .cmple l f m o im => Sys2Proof.Machine.execCmple l f m o im s
  | .cmpgt l f m o im => Sys2Proof.Machine.execCmpgt l f m o im s
  | .cmpge l f m o im => Sys2Proof.Machine.execCmpge l f m o im s
  | .cvt l m o im => Sys2Proof.Machine.execCvt l m o im s
  | .limit l m o im => Sys2Proof.Machine.execLimit l m o im s
  | .scale l m o im => Sys2Proof.Machine.execScale l m o im s
  | .jmp l m o im => Sys2Proof.Machine.execJmp l m o im s
  | .jmpc l m o im => Sys2Proof.Machine.execJmpc l m o im s
  | .jmpcn l m o im => Sys2Proof.Machine.execJmpcn l m o im s
  | .call l m o im => Sys2Proof.Machine.execCall l m o im s
  | .ret l m o im => Sys2Proof.Machine.execRet l m o im s
  | .tend l m o im => Sys2Proof.Machine.execTend l m o im s
  | .tnow l m o im => Sys2Proof.Machine.execTnow l m o im s
  | .agree t l m o im => Sys2Proof.Machine.execAgree t l m o im s
  | .stagingCopyComplete t => Sys2Proof.Machine.execStagingCopyComplete t s
  | .exchangeWindowExpiry t => Sys2Proof.Machine.execExchangeWindowExpiry t s
  | .heartbeatSend t => Sys2Proof.Machine.execHeartbeatSend t s
  | .heartbeatReceive t fr hb => Sys2Proof.Machine.execHeartbeatReceive t fr hb s
  | .manifestReceive t fr mf => Sys2Proof.Machine.execManifestReceive t fr mf s
  | .agreementReceive t fr ag => Sys2Proof.Machine.execAgreementReceive t fr ag s
  | .mirrorReceive t fr rc => Sys2Proof.Machine.execMirrorReceive t fr rc s
  | .nackReceive t fr nk => Sys2Proof.Machine.execNackReceive t fr nk s
  | .handoverReceive t fr ho => Sys2Proof.Machine.execHandoverReceive t fr ho s
  | .handoverAckReceive t fr ack => Sys2Proof.Machine.execHandoverAckReceive t fr ack s
  | .handoverAckTimeout t => Sys2Proof.Machine.execHandoverAckTimeout t s
  | .catchupReceive t fr readEpoch ck => Sys2Proof.Machine.execCatchupReceive t fr readEpoch ck s
  | .towLaneLost t sl alignment crcErrors => Sys2Proof.Machine.execTowLaneLost t sl alignment crcErrors s
  | .towSpareLaneJoined t sl => Sys2Proof.Machine.execTowSpareLaneJoined t sl s
  | .towLineSilence t => Sys2Proof.Machine.execTowLineSilence t s
  | .checkWindowExpiry t => Sys2Proof.Machine.execCheckWindowExpiry t s
  | .statusBargeSend t => Sys2Proof.Machine.execStatusBargeSend t s
  | .claimTieStatusSend t => Sys2Proof.Machine.execClaimTieStatusSend t s
  | .offerTimeout t => Sys2Proof.Machine.execOfferTimeout t s
  | .pairJoinWaitExpiry t => Sys2Proof.Machine.execPairJoinWaitExpiry t s
  | .manifestTimeout t k => Sys2Proof.Machine.execManifestTimeout t k s
  | .bargeFetchTimeout t k => Sys2Proof.Machine.execBargeFetchTimeout t k s
  | .compareMissingTimeout t k node release => Sys2Proof.Machine.execCompareMissingTimeout t k node release s
  | .coldTakeoverReady t => Sys2Proof.Machine.execColdTakeoverReady t s
  | .switchPointReached t => Sys2Proof.Machine.execSwitchPointReached t s
  | .switchQueueDrained t => Sys2Proof.Machine.execSwitchQueueDrained t s
  | .switchPointTimeout t => Sys2Proof.Machine.execSwitchPointTimeout t s
  | .proofDwellExpiry t => Sys2Proof.Machine.execProofDwellExpiry t s
  | .proofCheckTimeout t checks => Sys2Proof.Machine.execProofCheckTimeout t checks s
  | .proofDueExpiry t => Sys2Proof.Machine.execProofDueExpiry t s
  | .claimRefresh t => Sys2Proof.Machine.execClaimRefresh t s
  | .nodeClaimLagCheck t node => Sys2Proof.Machine.execNodeClaimLagCheck t node s
  | .inputBargeReceive t port source bytes => Sys2Proof.Machine.execInputBargeReceive t port source bytes s
  | .outputBargeReceive t port source bytes => Sys2Proof.Machine.execOutputBargeReceive t port source bytes s
  | .safeBargeReceive t port source bytes => Sys2Proof.Machine.execSafeBargeReceive t port source bytes s
  | .claimBargeReceive t port source bytes => Sys2Proof.Machine.execClaimBargeReceive t port source bytes s
  | .statusBargeReceive t port source bytes => Sys2Proof.Machine.execStatusBargeReceive t port source bytes s
  | .tokenBucketRefill t node => Sys2Proof.Machine.execTokenBucketRefill t node s
  | .keyEpochSwitch t => Sys2Proof.Machine.execKeyEpochSwitch t s
  | .keyOverlapExpiry t => Sys2Proof.Machine.execKeyOverlapExpiry t s
  | .portFrameReceive t port frame => Sys2Proof.Machine.execPortFrameReceive t port frame s
  | .linkStateChange t port up sideband speed => Sys2Proof.Machine.execLinkStateChange t port up sideband speed s
  | .frameTransmitStart t port => Sys2Proof.Machine.execFrameTransmitStart t port s
  | .gateTooShortDiscard t port => Sys2Proof.Machine.execGateTooShortDiscard t port s
  | .gclEntryChange t port => Sys2Proof.Machine.execGclEntryChange t port s
  | .gclSwitch t port => Sys2Proof.Machine.execGclSwitch t port s
  | .addressAgeing t address => Sys2Proof.Machine.execAddressAgeing t address s
  | .mrpRingEvent t closed blocked => Sys2Proof.Machine.execMrpRingEvent t closed blocked s
  | .ptpSyncSend t port => Sys2Proof.Machine.execPtpSyncSend t port s
  | .ptpDelayReqSend t port => Sys2Proof.Machine.execPtpDelayReqSend t port s
  | .ptpMessageReceive t port domain msg => Sys2Proof.Machine.execPtpMessageReceive t port domain msg s
  | .txtsQueueService t port => Sys2Proof.Machine.execTxtsQueueService t port s
  | .syncTimeout t => Sys2Proof.Machine.execSyncTimeout t s
  | .holdoverGmTimeout t => Sys2Proof.Machine.execHoldoverGmTimeout t s
  | .countWrap => Sys2Proof.Machine.execCountWrap s
  | .timestampExpiry t port => Sys2Proof.Machine.execTimestampExpiry t port s
  | .ppsEdge t => Sys2Proof.Machine.execPpsEdge t s
  | .ppsLostTimeout t => Sys2Proof.Machine.execPpsLostTimeout t s
  | .triggerFire t u => Sys2Proof.Machine.execTriggerFire t u s
  | .fiCaptureEdge t n rising => Sys2Proof.Machine.execFiCaptureEdge t n rising s
  | .strobeFire t => Sys2Proof.Machine.execStrobeFire t s
  | .downlinkFrameSend t => Sys2Proof.Machine.execDownlinkFrameSend t s
  | .downlinkFrameReceive t ok => Sys2Proof.Machine.execDownlinkFrameReceive t ok s
  | .uplinkFrameSend t => Sys2Proof.Machine.execUplinkFrameSend t s
  | .uplinkFrameReceive t ok => Sys2Proof.Machine.execUplinkFrameReceive t ok s
  | .dioDebounceExpiry t c => Sys2Proof.Machine.execDioDebounceExpiry t c s
  | .fieldSilenceTimeout t => Sys2Proof.Machine.execFieldSilenceTimeout t s
  | .fieldLostTimeout t => Sys2Proof.Machine.execFieldLostTimeout t s
  | .monitorWatchdogReset t => Sys2Proof.Machine.execMonitorWatchdogReset t s
  | .doDiagFilterExpiry t c d => Sys2Proof.Machine.execDoDiagFilterExpiry t c d s
  | .doThermalTrip t c => Sys2Proof.Machine.execDoThermalTrip t c s
  | .doThermalRetry t c => Sys2Proof.Machine.execDoThermalRetry t c s
  | .doRetryCountReset t c => Sys2Proof.Machine.execDoRetryCountReset t c s
  | .parallelDioBreak t c => Sys2Proof.Machine.execParallelDioBreak t c s
  | .fiFailsafeTimeout t n => Sys2Proof.Machine.execFiFailsafeTimeout t n s
  | .foShortTimeout t n => Sys2Proof.Machine.execFoShortTimeout t n s
  | .fieldSupplyChange t n microV => Sys2Proof.Machine.execFieldSupplyChange t n microV s
  | .loopSupplyAdjust t c padMicroV => Sys2Proof.Machine.execLoopSupplyAdjust t c padMicroV s
  | .loopSupplyFall t c => Sys2Proof.Machine.execLoopSupplyFall t c s
  | .readbackSample t c rawNanoA => Sys2Proof.Machine.execReadbackSample t c rawNanoA s
  | .complianceFilterExpiry t c => Sys2Proof.Machine.execComplianceFilterExpiry t c s
  | .aoThermalTrip t c => Sys2Proof.Machine.execAoThermalTrip t c s
  | .aoThermalRecover t c => Sys2Proof.Machine.execAoThermalRecover t c s
  | .aioConversion t c raw => Sys2Proof.Machine.execAioConversion t c raw s
  | .aioParallelSilenceExpiry t => Sys2Proof.Machine.execAioParallelSilenceExpiry t s
  | .trimStepTimeout t c => Sys2Proof.Machine.execTrimStepTimeout t c s
  | .canFrameReceive t ch sof frame beat headOpen => Sys2Proof.Machine.execCanFrameReceive t ch sof frame beat headOpen s
  | .canTxoRelease t ch ob => Sys2Proof.Machine.execCanTxoRelease t ch ob s
  | .canFrameTransmitted t ch sof => Sys2Proof.Machine.execCanFrameTransmitted t ch sof s
  | .canBusError t ch transmitting e => Sys2Proof.Machine.execCanBusError t ch transmitting e s
  | .canBusoffRecoveryComplete t ch => Sys2Proof.Machine.execCanBusoffRecoveryComplete t ch s
  | .autobaudDwellExpiry t ch => Sys2Proof.Machine.execAutobaudDwellExpiry t ch s
  | .clashClearTimeout t ch => Sys2Proof.Machine.execClashClearTimeout t ch s
  | .canSendTimeout t ch journal => Sys2Proof.Machine.execCanSendTimeout t ch journal s
  | .canWake t ch cause => Sys2Proof.Machine.execCanWake t ch cause s
  | .doorbellRing t n spi inAck => Sys2Proof.Machine.execDoorbellRing t n spi inAck s
  | .responseRelease t n => Sys2Proof.Machine.execResponseRelease t n s
  | .sluiceOvfClear mask => Sys2Proof.Machine.execSluiceOvfClear mask s
  | .registerWrite t offset width data => Sys2Proof.Machine.execRegisterWrite t offset width data s
  | .spiWrite t address data => Sys2Proof.Machine.execSpiWrite t address data s
  | .spiRead t address count => Sys2Proof.Machine.execSpiRead t address count s
  | .spiStatus => Sys2Proof.Machine.execSpiStatus s
  | .spiReset t => Sys2Proof.Machine.execSpiReset t s
  | .pcieReset t => Sys2Proof.Machine.execPcieReset t s
  | .netConnectionOpen t port cert => Sys2Proof.Machine.execNetConnectionOpen t port cert s
  | .netConnectionClose t session => Sys2Proof.Machine.execNetConnectionClose t session s
  | .netMgmtIdleExpiry t session => Sys2Proof.Machine.execNetMgmtIdleExpiry t session s
  | .hostBeatSample t => Sys2Proof.Machine.execHostBeatSample t s
  | .keeperBeatTick => Sys2Proof.Machine.execKeeperBeatTick s
  | .classEResponseTimeout t journal => Sys2Proof.Machine.execClassEResponseTimeout t journal s
  | .subscriptionNotify t src => Sys2Proof.Machine.execSubscriptionNotify t src s
  | .unknownCommandRequest t h code => Sys2Proof.Machine.execUnknownCommandRequest t h code s
  | .idGet t h => Sys2Proof.Machine.execIdGet t h s
  | .stateGet t h => Sys2Proof.Machine.execStateGet t h s
  | .healthGet t h => Sys2Proof.Machine.execHealthGet t h s
  | .stateRelease t h => Sys2Proof.Machine.execStateRelease t h s
  | .setRead t h source ids => Sys2Proof.Machine.execSetRead t h source ids s
  | .setWrite t h entries => Sys2Proof.Machine.execSetWrite t h entries s
  | .setCommit t h expected => Sys2Proof.Machine.execSetCommit t h expected s
  | .setCommitTurnStart t journal => Sys2Proof.Machine.execSetCommitTurnStart t journal s
  | .settingsFirstCopyWritten t journal => Sys2Proof.Machine.execSettingsFirstCopyWritten t journal s
  | .settingsSecondCopyWritten t journal => Sys2Proof.Machine.execSettingsSecondCopyWritten t journal s
  | .setExportBuild t h => Sys2Proof.Machine.execSetExportBuild t h s
  | .setExportRead t h offset journal => Sys2Proof.Machine.execSetExportRead t h offset journal s
  | .prgLoadBegin t h version length => Sys2Proof.Machine.execPrgLoadBegin t h version length s
  | .prgLoadData t h version offset data => Sys2Proof.Machine.execPrgLoadData t h version offset data s
  | .prgLoadEnd t h version => Sys2Proof.Machine.execPrgLoadEnd t h version s
  | .prgLoadAbort t h version => Sys2Proof.Machine.execPrgLoadAbort t h version s
  | .prgVerify t h version => Sys2Proof.Machine.execPrgVerify t h version s
  | .prgExchange t h version => Sys2Proof.Machine.execPrgExchange t h version s
  | .prgStart t h mask => Sys2Proof.Machine.execPrgStart t h mask s
  | .prgStop t h mask => Sys2Proof.Machine.execPrgStop t h mask s
  | .imgRead t h ranges => Sys2Proof.Machine.execImgRead t h ranges s
  | .imgWrite t h writes => Sys2Proof.Machine.execImgWrite t h writes s
  | .imgSubscribeStart t h interval ranges => Sys2Proof.Machine.execImgSubscribeStart t h interval ranges s
  | .imgSubscribeStop t h => Sys2Proof.Machine.execImgSubscribeStop t h s
  | .frcSet t h writes => Sys2Proof.Machine.execFrcSet t h writes s
  | .frcClear t h all tags => Sys2Proof.Machine.execFrcClear t h all tags s
  | .frcList t h first => Sys2Proof.Machine.execFrcList t h first s
  | .pairStatus t h => Sys2Proof.Machine.execPairStatus t h s
  | .pairSwitch t h => Sys2Proof.Machine.execPairSwitch t h s
  | .pairProof t h => Sys2Proof.Machine.execPairProof t h s
  | .pairRelease t h => Sys2Proof.Machine.execPairRelease t h s
  | .timeStatus t h mask => Sys2Proof.Machine.execTimeStatus t h mask s
  | .trgArm t h u mode action channel compat target period argument => Sys2Proof.Machine.execTrgArm t h u mode action channel compat target period argument s
  | .trgCancel t h u => Sys2Proof.Machine.execTrgCancel t h u s
  | .ioStatus t h group first => Sys2Proof.Machine.execIoStatus t h group first s
  | .ioTrimStart t h channel => Sys2Proof.Machine.execIoTrimStart t h channel s
  | .ioTrimPoint1 t h channel reading journal => Sys2Proof.Machine.execIoTrimPoint1 t h channel reading journal s
  | .ioTrimPoint2 t h channel reading journal => Sys2Proof.Machine.execIoTrimPoint2 t h channel reading journal s
  | .ioTrimCommit t h channel journal => Sys2Proof.Machine.execIoTrimCommit t h channel journal s
  | .ioTrimAbort t h channel journal => Sys2Proof.Machine.execIoTrimAbort t h channel journal s
  | .ioResetFault t h group channels mask => Sys2Proof.Machine.execIoResetFault t h group channels mask s
  | .canStatus t h channel mask => Sys2Proof.Machine.execCanStatus t h channel mask s
  | .canSend t h channel frames => Sys2Proof.Machine.execCanSend t h channel frames s
  | .canRecv t h channel queue maximum => Sys2Proof.Machine.execCanRecv t h channel queue maximum s
  | .canConfigSetMode t h channel mode adopt candidates => Sys2Proof.Machine.execCanConfigSetMode t h channel mode adopt candidates s
  | .canConfigRestart t h channel => Sys2Proof.Machine.execCanConfigRestart t h channel s
  | .evtRead t h first maximum area => Sys2Proof.Machine.execEvtRead t h first maximum area s
  | .evtMark t h code data => Sys2Proof.Machine.execEvtMark t h code data s
  | .bistResult t h => Sys2Proof.Machine.execBistResult t h s
  | .bistRun t h block background => Sys2Proof.Machine.execBistRun t h block background s
  | .bistRunComplete t run found => Sys2Proof.Machine.execBistRunComplete t run found s
  | .bistBgIntervalExpiry t block => Sys2Proof.Machine.execBistBgIntervalExpiry t block s
  | .bistBgRetryExpiry t block => Sys2Proof.Machine.execBistBgRetryExpiry t block s
  | .updOpen t h header => Sys2Proof.Machine.execUpdOpen t h header s
  | .updChunk t h offset data => Sys2Proof.Machine.execUpdChunk t h offset data s
  | .updCloseApply t h => Sys2Proof.Machine.execUpdCloseApply t h s
  | .updCloseAbandon t h => Sys2Proof.Machine.execUpdCloseAbandon t h s
  | .updActivate t h pairProcedure => Sys2Proof.Machine.execUpdActivate t h pairProcedure s
  | .updStatus t h => Sys2Proof.Machine.execUpdStatus t h s
  | .updateLeaseIdleExpiry t => Sys2Proof.Machine.execUpdateLeaseIdleExpiry t s
  | .bootConfirmTimeout t => Sys2Proof.Machine.execBootConfirmTimeout t s
  | .pairUpdateStepAdvance t => Sys2Proof.Machine.execPairUpdateStepAdvance t s
  | .pairUpdateStepTimeout t => Sys2Proof.Machine.execPairUpdateStepTimeout t s
  | .secChallenge t h level => Sys2Proof.Machine.execSecChallenge t h level s
  | .secUnlock t h nonce slot signature => Sys2Proof.Machine.execSecUnlock t h nonce slot signature s
  | .secLifecycle t h target slot nonce signature => Sys2Proof.Machine.execSecLifecycle t h target slot nonce signature s
  | .nonceExpiry t nonce => Sys2Proof.Machine.execNonceExpiry t nonce s
  | .lockoutExpiry t => Sys2Proof.Machine.execLockoutExpiry t s
  | .pwrSetPowerState t h code => Sys2Proof.Machine.execPwrSetPowerState t h code s
  | .pwrSetRestart t h => Sys2Proof.Machine.execPwrSetRestart t h s
  | .pwrGet t h => Sys2Proof.Machine.execPwrGet t h s
  | .jnlGetEntries t h id maximum => Sys2Proof.Machine.execJnlGetEntries t h id maximum s
  | .jnlGetAttachment t h id offset => Sys2Proof.Machine.execJnlGetAttachment t h id offset s
  | .quoSet t h cls quota => Sys2Proof.Machine.execQuoSet t h cls quota s
  | .quoGet t h cls => Sys2Proof.Machine.execQuoGet t h cls s
  | .wearGet t h category first => Sys2Proof.Machine.execWearGet t h category first s
  | .wakePadLow t => Sys2Proof.Machine.execWakePadLow t s
  | .wakeFrameReceive t port vlan udpPort payload => Sys2Proof.Machine.execWakeFrameReceive t port vlan udpPort payload s
  | .dormantWake t => Sys2Proof.Machine.execDormantWake t s
  | .dormantScrubWindow t codewords => Sys2Proof.Machine.execDormantScrubWindow t codewords s
  | .operatingHoursTick t => Sys2Proof.Machine.execOperatingHoursTick t s
  | .scrubCodeword t codeword errors => Sys2Proof.Machine.execScrubCodeword t codeword errors s
  | .basinMigrationComplete t ok => Sys2Proof.Machine.execBasinMigrationComplete t ok s
  | .eventRecordWrite t found => Sys2Proof.Machine.execEventRecordWrite t found s
  | .refMissingEdge t => Sys2Proof.Machine.execRefMissingEdge t s
  | .refDeviationCheck t thisPpb otherPpb xtalPpb => Sys2Proof.Machine.execRefDeviationCheck t thisPpb otherPpb xtalPpb s
  | .refBothFail t => Sys2Proof.Machine.execRefBothFail t s
  | .refHoldExpiry t => Sys2Proof.Machine.execRefHoldExpiry t s
  | .refRecovered t r runs => Sys2Proof.Machine.execRefRecovered t r runs s
  | .xtalFail t => Sys2Proof.Machine.execXtalFail t s
  | .rcCalibration t => Sys2Proof.Machine.execRcCalibration t s
  | .bypass t => Sys2Proof.Machine.execBypass t s
  | .idcode t => Sys2Proof.Machine.execIdcode t s
  | .samplePreload t => Sys2Proof.Machine.execSamplePreload t s
  | .extest t pads => Sys2Proof.Machine.execExtest t pads s
  | .dbgStatus t => Sys2Proof.Machine.execDbgStatus t s
  | .dbgOpen t level => Sys2Proof.Machine.execDbgOpen t level s
  | .dbgClose t => Sys2Proof.Machine.execDbgClose t s
  | .trace t => Sys2Proof.Machine.execTrace t s
  | .memRead t space address count => Sys2Proof.Machine.execMemRead t space address count s
  | .memWrite t space address data => Sys2Proof.Machine.execMemWrite t space address data s
  | .halt t target => Sys2Proof.Machine.execHalt t target s
  | .keyProgram t slot key => Sys2Proof.Machine.execKeyProgram t slot key s
  | .bistGo t runs => Sys2Proof.Machine.execBistGo t runs s
  | .debugIdleExpiry t => Sys2Proof.Machine.execDebugIdleExpiry t s
  | .feedRangeChange t n microV => Sys2Proof.Machine.execFeedRangeChange t n microV s
  | .holdupFlush t => Sys2Proof.Machine.execHoldupFlush t s
  | .holdupExhausted => Sys2Proof.Machine.execHoldupExhausted s
  | .holdupCharged t => Sys2Proof.Machine.execHoldupCharged t s
  | .holdupMeasure t microF => Sys2Proof.Machine.execHoldupMeasure t microF s
  | .keeperRestartComplete t => Sys2Proof.Machine.execKeeperRestartComplete t s
  | .imageRebuildComplete t found => Sys2Proof.Machine.execImageRebuildComplete t found s
  | .bar0Read offset width => Sys2Proof.Machine.execBar0Read offset width s
  | .dioComparatorChange t c sense => Sys2Proof.Machine.execDioComparatorChange t c sense s
  | .taiSecondApply t => Sys2Proof.Machine.execTaiSecondApply t s

end Sys2Proof.Machine
end

