-- ==== Sys2Proof/Laws/State.lean ====
section
/-! SUPPORT. What each update of the state leaves in each field: one lemma per field and update, true by definition. -/

namespace Sys2Proof.Machine

open Sys2Proof

/-! `onMod` changes `mod` alone. -/

@[simp] theorem onMod_mod (g : Mod → Mod) (s : State) : (onMod g s).mod = g s.mod := rfl
@[simp] theorem onMod_img (g : Mod → Mod) (s : State) : (onMod g s).img = s.img := rfl
@[simp] theorem onMod_ctl (g : Mod → Mod) (s : State) : (onMod g s).ctl = s.ctl := rfl
@[simp] theorem onMod_pair (g : Mod → Mod) (s : State) : (onMod g s).pair = s.pair := rfl
@[simp] theorem onMod_tow (g : Mod → Mod) (s : State) : (onMod g s).tow = s.tow := rfl
@[simp] theorem onMod_net (g : Mod → Mod) (s : State) : (onMod g s).net = s.net := rfl
@[simp] theorem onMod_sw (g : Mod → Mod) (s : State) : (onMod g s).sw = s.sw := rfl
@[simp] theorem onMod_time (g : Mod → Mod) (s : State) : (onMod g s).time = s.time := rfl
@[simp] theorem onMod_field (g : Mod → Mod) (s : State) : (onMod g s).field = s.field := rfl
@[simp] theorem onMod_can (g : Mod → Mod) (s : State) : (onMod g s).can = s.can := rfl
@[simp] theorem onMod_keeper (g : Mod → Mod) (s : State) : (onMod g s).keeper = s.keeper := rfl
@[simp] theorem onMod_settings (g : Mod → Mod) (s : State) : (onMod g s).settings = s.settings := rfl
@[simp] theorem onMod_basin (g : Mod → Mod) (s : State) : (onMod g s).basin = s.basin := rfl
@[simp] theorem onMod_bist (g : Mod → Mod) (s : State) : (onMod g s).bist = s.bist := rfl
@[simp] theorem onMod_path (g : Mod → Mod) (s : State) : (onMod g s).path = s.path := rfl
@[simp] theorem onMod_refs (g : Mod → Mod) (s : State) : (onMod g s).refs = s.refs := rfl
@[simp] theorem onMod_recd (g : Mod → Mod) (s : State) : (onMod g s).recd = s.recd := rfl
@[simp] theorem onMod_wear (g : Mod → Mod) (s : State) : (onMod g s).wear = s.wear := rfl
@[simp] theorem onMod_upd (g : Mod → Mod) (s : State) : (onMod g s).upd = s.upd := rfl
@[simp] theorem onMod_sec (g : Mod → Mod) (s : State) : (onMod g s).sec = s.sec := rfl
@[simp] theorem onMod_deferred (g : Mod → Mod) (s : State) : (onMod g s).deferred = s.deferred := rfl
@[simp] theorem onMod_drawn (g : Mod → Mod) (s : State) : (onMod g s).drawn = s.drawn := rfl
@[simp] theorem onMod_pending (g : Mod → Mod) (s : State) : (onMod g s).pending = s.pending := rfl

/-! `onImg` changes `img` alone. -/

@[simp] theorem onImg_mod (g : Image → Image) (s : State) : (onImg g s).mod = s.mod := rfl
@[simp] theorem onImg_img (g : Image → Image) (s : State) : (onImg g s).img = g s.img := rfl
@[simp] theorem onImg_ctl (g : Image → Image) (s : State) : (onImg g s).ctl = s.ctl := rfl
@[simp] theorem onImg_pair (g : Image → Image) (s : State) : (onImg g s).pair = s.pair := rfl
@[simp] theorem onImg_tow (g : Image → Image) (s : State) : (onImg g s).tow = s.tow := rfl
@[simp] theorem onImg_net (g : Image → Image) (s : State) : (onImg g s).net = s.net := rfl
@[simp] theorem onImg_sw (g : Image → Image) (s : State) : (onImg g s).sw = s.sw := rfl
@[simp] theorem onImg_time (g : Image → Image) (s : State) : (onImg g s).time = s.time := rfl
@[simp] theorem onImg_field (g : Image → Image) (s : State) : (onImg g s).field = s.field := rfl
@[simp] theorem onImg_can (g : Image → Image) (s : State) : (onImg g s).can = s.can := rfl
@[simp] theorem onImg_keeper (g : Image → Image) (s : State) : (onImg g s).keeper = s.keeper := rfl
@[simp] theorem onImg_settings (g : Image → Image) (s : State) : (onImg g s).settings = s.settings := rfl
@[simp] theorem onImg_basin (g : Image → Image) (s : State) : (onImg g s).basin = s.basin := rfl
@[simp] theorem onImg_bist (g : Image → Image) (s : State) : (onImg g s).bist = s.bist := rfl
@[simp] theorem onImg_path (g : Image → Image) (s : State) : (onImg g s).path = s.path := rfl
@[simp] theorem onImg_refs (g : Image → Image) (s : State) : (onImg g s).refs = s.refs := rfl
@[simp] theorem onImg_recd (g : Image → Image) (s : State) : (onImg g s).recd = s.recd := rfl
@[simp] theorem onImg_wear (g : Image → Image) (s : State) : (onImg g s).wear = s.wear := rfl
@[simp] theorem onImg_upd (g : Image → Image) (s : State) : (onImg g s).upd = s.upd := rfl
@[simp] theorem onImg_sec (g : Image → Image) (s : State) : (onImg g s).sec = s.sec := rfl
@[simp] theorem onImg_deferred (g : Image → Image) (s : State) : (onImg g s).deferred = s.deferred := rfl
@[simp] theorem onImg_drawn (g : Image → Image) (s : State) : (onImg g s).drawn = s.drawn := rfl
@[simp] theorem onImg_pending (g : Image → Image) (s : State) : (onImg g s).pending = s.pending := rfl

/-! `onCtl` changes `ctl` alone. -/

@[simp] theorem onCtl_mod (g : Control → Control) (s : State) : (onCtl g s).mod = s.mod := rfl
@[simp] theorem onCtl_img (g : Control → Control) (s : State) : (onCtl g s).img = s.img := rfl
@[simp] theorem onCtl_ctl (g : Control → Control) (s : State) : (onCtl g s).ctl = g s.ctl := rfl
@[simp] theorem onCtl_pair (g : Control → Control) (s : State) : (onCtl g s).pair = s.pair := rfl
@[simp] theorem onCtl_tow (g : Control → Control) (s : State) : (onCtl g s).tow = s.tow := rfl
@[simp] theorem onCtl_net (g : Control → Control) (s : State) : (onCtl g s).net = s.net := rfl
@[simp] theorem onCtl_sw (g : Control → Control) (s : State) : (onCtl g s).sw = s.sw := rfl
@[simp] theorem onCtl_time (g : Control → Control) (s : State) : (onCtl g s).time = s.time := rfl
@[simp] theorem onCtl_field (g : Control → Control) (s : State) : (onCtl g s).field = s.field := rfl
@[simp] theorem onCtl_can (g : Control → Control) (s : State) : (onCtl g s).can = s.can := rfl
@[simp] theorem onCtl_keeper (g : Control → Control) (s : State) : (onCtl g s).keeper = s.keeper := rfl
@[simp] theorem onCtl_settings (g : Control → Control) (s : State) : (onCtl g s).settings = s.settings := rfl
@[simp] theorem onCtl_basin (g : Control → Control) (s : State) : (onCtl g s).basin = s.basin := rfl
@[simp] theorem onCtl_bist (g : Control → Control) (s : State) : (onCtl g s).bist = s.bist := rfl
@[simp] theorem onCtl_path (g : Control → Control) (s : State) : (onCtl g s).path = s.path := rfl
@[simp] theorem onCtl_refs (g : Control → Control) (s : State) : (onCtl g s).refs = s.refs := rfl
@[simp] theorem onCtl_recd (g : Control → Control) (s : State) : (onCtl g s).recd = s.recd := rfl
@[simp] theorem onCtl_wear (g : Control → Control) (s : State) : (onCtl g s).wear = s.wear := rfl
@[simp] theorem onCtl_upd (g : Control → Control) (s : State) : (onCtl g s).upd = s.upd := rfl
@[simp] theorem onCtl_sec (g : Control → Control) (s : State) : (onCtl g s).sec = s.sec := rfl
@[simp] theorem onCtl_deferred (g : Control → Control) (s : State) : (onCtl g s).deferred = s.deferred := rfl
@[simp] theorem onCtl_drawn (g : Control → Control) (s : State) : (onCtl g s).drawn = s.drawn := rfl
@[simp] theorem onCtl_pending (g : Control → Control) (s : State) : (onCtl g s).pending = s.pending := rfl

/-! `onPair` changes `pair` alone. -/

@[simp] theorem onPair_mod (g : Pair → Pair) (s : State) : (onPair g s).mod = s.mod := rfl
@[simp] theorem onPair_img (g : Pair → Pair) (s : State) : (onPair g s).img = s.img := rfl
@[simp] theorem onPair_ctl (g : Pair → Pair) (s : State) : (onPair g s).ctl = s.ctl := rfl
@[simp] theorem onPair_pair (g : Pair → Pair) (s : State) : (onPair g s).pair = g s.pair := rfl
@[simp] theorem onPair_tow (g : Pair → Pair) (s : State) : (onPair g s).tow = s.tow := rfl
@[simp] theorem onPair_net (g : Pair → Pair) (s : State) : (onPair g s).net = s.net := rfl
@[simp] theorem onPair_sw (g : Pair → Pair) (s : State) : (onPair g s).sw = s.sw := rfl
@[simp] theorem onPair_time (g : Pair → Pair) (s : State) : (onPair g s).time = s.time := rfl
@[simp] theorem onPair_field (g : Pair → Pair) (s : State) : (onPair g s).field = s.field := rfl
@[simp] theorem onPair_can (g : Pair → Pair) (s : State) : (onPair g s).can = s.can := rfl
@[simp] theorem onPair_keeper (g : Pair → Pair) (s : State) : (onPair g s).keeper = s.keeper := rfl
@[simp] theorem onPair_settings (g : Pair → Pair) (s : State) : (onPair g s).settings = s.settings := rfl
@[simp] theorem onPair_basin (g : Pair → Pair) (s : State) : (onPair g s).basin = s.basin := rfl
@[simp] theorem onPair_bist (g : Pair → Pair) (s : State) : (onPair g s).bist = s.bist := rfl
@[simp] theorem onPair_path (g : Pair → Pair) (s : State) : (onPair g s).path = s.path := rfl
@[simp] theorem onPair_refs (g : Pair → Pair) (s : State) : (onPair g s).refs = s.refs := rfl
@[simp] theorem onPair_recd (g : Pair → Pair) (s : State) : (onPair g s).recd = s.recd := rfl
@[simp] theorem onPair_wear (g : Pair → Pair) (s : State) : (onPair g s).wear = s.wear := rfl
@[simp] theorem onPair_upd (g : Pair → Pair) (s : State) : (onPair g s).upd = s.upd := rfl
@[simp] theorem onPair_sec (g : Pair → Pair) (s : State) : (onPair g s).sec = s.sec := rfl
@[simp] theorem onPair_deferred (g : Pair → Pair) (s : State) : (onPair g s).deferred = s.deferred := rfl
@[simp] theorem onPair_drawn (g : Pair → Pair) (s : State) : (onPair g s).drawn = s.drawn := rfl
@[simp] theorem onPair_pending (g : Pair → Pair) (s : State) : (onPair g s).pending = s.pending := rfl

/-! `onTow` changes `tow` alone. -/

@[simp] theorem onTow_mod (g : Tow → Tow) (s : State) : (onTow g s).mod = s.mod := rfl
@[simp] theorem onTow_img (g : Tow → Tow) (s : State) : (onTow g s).img = s.img := rfl
@[simp] theorem onTow_ctl (g : Tow → Tow) (s : State) : (onTow g s).ctl = s.ctl := rfl
@[simp] theorem onTow_pair (g : Tow → Tow) (s : State) : (onTow g s).pair = s.pair := rfl
@[simp] theorem onTow_tow (g : Tow → Tow) (s : State) : (onTow g s).tow = g s.tow := rfl
@[simp] theorem onTow_net (g : Tow → Tow) (s : State) : (onTow g s).net = s.net := rfl
@[simp] theorem onTow_sw (g : Tow → Tow) (s : State) : (onTow g s).sw = s.sw := rfl
@[simp] theorem onTow_time (g : Tow → Tow) (s : State) : (onTow g s).time = s.time := rfl
@[simp] theorem onTow_field (g : Tow → Tow) (s : State) : (onTow g s).field = s.field := rfl
@[simp] theorem onTow_can (g : Tow → Tow) (s : State) : (onTow g s).can = s.can := rfl
@[simp] theorem onTow_keeper (g : Tow → Tow) (s : State) : (onTow g s).keeper = s.keeper := rfl
@[simp] theorem onTow_settings (g : Tow → Tow) (s : State) : (onTow g s).settings = s.settings := rfl
@[simp] theorem onTow_basin (g : Tow → Tow) (s : State) : (onTow g s).basin = s.basin := rfl
@[simp] theorem onTow_bist (g : Tow → Tow) (s : State) : (onTow g s).bist = s.bist := rfl
@[simp] theorem onTow_path (g : Tow → Tow) (s : State) : (onTow g s).path = s.path := rfl
@[simp] theorem onTow_refs (g : Tow → Tow) (s : State) : (onTow g s).refs = s.refs := rfl
@[simp] theorem onTow_recd (g : Tow → Tow) (s : State) : (onTow g s).recd = s.recd := rfl
@[simp] theorem onTow_wear (g : Tow → Tow) (s : State) : (onTow g s).wear = s.wear := rfl
@[simp] theorem onTow_upd (g : Tow → Tow) (s : State) : (onTow g s).upd = s.upd := rfl
@[simp] theorem onTow_sec (g : Tow → Tow) (s : State) : (onTow g s).sec = s.sec := rfl
@[simp] theorem onTow_deferred (g : Tow → Tow) (s : State) : (onTow g s).deferred = s.deferred := rfl
@[simp] theorem onTow_drawn (g : Tow → Tow) (s : State) : (onTow g s).drawn = s.drawn := rfl
@[simp] theorem onTow_pending (g : Tow → Tow) (s : State) : (onTow g s).pending = s.pending := rfl

/-! `onNet` changes `net` alone. -/

@[simp] theorem onNet_mod (g : Net → Net) (s : State) : (onNet g s).mod = s.mod := rfl
@[simp] theorem onNet_img (g : Net → Net) (s : State) : (onNet g s).img = s.img := rfl
@[simp] theorem onNet_ctl (g : Net → Net) (s : State) : (onNet g s).ctl = s.ctl := rfl
@[simp] theorem onNet_pair (g : Net → Net) (s : State) : (onNet g s).pair = s.pair := rfl
@[simp] theorem onNet_tow (g : Net → Net) (s : State) : (onNet g s).tow = s.tow := rfl
@[simp] theorem onNet_net (g : Net → Net) (s : State) : (onNet g s).net = g s.net := rfl
@[simp] theorem onNet_sw (g : Net → Net) (s : State) : (onNet g s).sw = s.sw := rfl
@[simp] theorem onNet_time (g : Net → Net) (s : State) : (onNet g s).time = s.time := rfl
@[simp] theorem onNet_field (g : Net → Net) (s : State) : (onNet g s).field = s.field := rfl
@[simp] theorem onNet_can (g : Net → Net) (s : State) : (onNet g s).can = s.can := rfl
@[simp] theorem onNet_keeper (g : Net → Net) (s : State) : (onNet g s).keeper = s.keeper := rfl
@[simp] theorem onNet_settings (g : Net → Net) (s : State) : (onNet g s).settings = s.settings := rfl
@[simp] theorem onNet_basin (g : Net → Net) (s : State) : (onNet g s).basin = s.basin := rfl
@[simp] theorem onNet_bist (g : Net → Net) (s : State) : (onNet g s).bist = s.bist := rfl
@[simp] theorem onNet_path (g : Net → Net) (s : State) : (onNet g s).path = s.path := rfl
@[simp] theorem onNet_refs (g : Net → Net) (s : State) : (onNet g s).refs = s.refs := rfl
@[simp] theorem onNet_recd (g : Net → Net) (s : State) : (onNet g s).recd = s.recd := rfl
@[simp] theorem onNet_wear (g : Net → Net) (s : State) : (onNet g s).wear = s.wear := rfl
@[simp] theorem onNet_upd (g : Net → Net) (s : State) : (onNet g s).upd = s.upd := rfl
@[simp] theorem onNet_sec (g : Net → Net) (s : State) : (onNet g s).sec = s.sec := rfl
@[simp] theorem onNet_deferred (g : Net → Net) (s : State) : (onNet g s).deferred = s.deferred := rfl
@[simp] theorem onNet_drawn (g : Net → Net) (s : State) : (onNet g s).drawn = s.drawn := rfl
@[simp] theorem onNet_pending (g : Net → Net) (s : State) : (onNet g s).pending = s.pending := rfl

/-! `onSw` changes `sw` alone. -/

@[simp] theorem onSw_mod (g : Switching → Switching) (s : State) : (onSw g s).mod = s.mod := rfl
@[simp] theorem onSw_img (g : Switching → Switching) (s : State) : (onSw g s).img = s.img := rfl
@[simp] theorem onSw_ctl (g : Switching → Switching) (s : State) : (onSw g s).ctl = s.ctl := rfl
@[simp] theorem onSw_pair (g : Switching → Switching) (s : State) : (onSw g s).pair = s.pair := rfl
@[simp] theorem onSw_tow (g : Switching → Switching) (s : State) : (onSw g s).tow = s.tow := rfl
@[simp] theorem onSw_net (g : Switching → Switching) (s : State) : (onSw g s).net = s.net := rfl
@[simp] theorem onSw_sw (g : Switching → Switching) (s : State) : (onSw g s).sw = g s.sw := rfl
@[simp] theorem onSw_time (g : Switching → Switching) (s : State) : (onSw g s).time = s.time := rfl
@[simp] theorem onSw_field (g : Switching → Switching) (s : State) : (onSw g s).field = s.field := rfl
@[simp] theorem onSw_can (g : Switching → Switching) (s : State) : (onSw g s).can = s.can := rfl
@[simp] theorem onSw_keeper (g : Switching → Switching) (s : State) : (onSw g s).keeper = s.keeper := rfl
@[simp] theorem onSw_settings (g : Switching → Switching) (s : State) : (onSw g s).settings = s.settings := rfl
@[simp] theorem onSw_basin (g : Switching → Switching) (s : State) : (onSw g s).basin = s.basin := rfl
@[simp] theorem onSw_bist (g : Switching → Switching) (s : State) : (onSw g s).bist = s.bist := rfl
@[simp] theorem onSw_path (g : Switching → Switching) (s : State) : (onSw g s).path = s.path := rfl
@[simp] theorem onSw_refs (g : Switching → Switching) (s : State) : (onSw g s).refs = s.refs := rfl
@[simp] theorem onSw_recd (g : Switching → Switching) (s : State) : (onSw g s).recd = s.recd := rfl
@[simp] theorem onSw_wear (g : Switching → Switching) (s : State) : (onSw g s).wear = s.wear := rfl
@[simp] theorem onSw_upd (g : Switching → Switching) (s : State) : (onSw g s).upd = s.upd := rfl
@[simp] theorem onSw_sec (g : Switching → Switching) (s : State) : (onSw g s).sec = s.sec := rfl
@[simp] theorem onSw_deferred (g : Switching → Switching) (s : State) : (onSw g s).deferred = s.deferred := rfl
@[simp] theorem onSw_drawn (g : Switching → Switching) (s : State) : (onSw g s).drawn = s.drawn := rfl
@[simp] theorem onSw_pending (g : Switching → Switching) (s : State) : (onSw g s).pending = s.pending := rfl

/-! `onTime` changes `time` alone. -/

@[simp] theorem onTime_mod (g : TimeUnit → TimeUnit) (s : State) : (onTime g s).mod = s.mod := rfl
@[simp] theorem onTime_img (g : TimeUnit → TimeUnit) (s : State) : (onTime g s).img = s.img := rfl
@[simp] theorem onTime_ctl (g : TimeUnit → TimeUnit) (s : State) : (onTime g s).ctl = s.ctl := rfl
@[simp] theorem onTime_pair (g : TimeUnit → TimeUnit) (s : State) : (onTime g s).pair = s.pair := rfl
@[simp] theorem onTime_tow (g : TimeUnit → TimeUnit) (s : State) : (onTime g s).tow = s.tow := rfl
@[simp] theorem onTime_net (g : TimeUnit → TimeUnit) (s : State) : (onTime g s).net = s.net := rfl
@[simp] theorem onTime_sw (g : TimeUnit → TimeUnit) (s : State) : (onTime g s).sw = s.sw := rfl
@[simp] theorem onTime_time (g : TimeUnit → TimeUnit) (s : State) : (onTime g s).time = g s.time := rfl
@[simp] theorem onTime_field (g : TimeUnit → TimeUnit) (s : State) : (onTime g s).field = s.field := rfl
@[simp] theorem onTime_can (g : TimeUnit → TimeUnit) (s : State) : (onTime g s).can = s.can := rfl
@[simp] theorem onTime_keeper (g : TimeUnit → TimeUnit) (s : State) : (onTime g s).keeper = s.keeper := rfl
@[simp] theorem onTime_settings (g : TimeUnit → TimeUnit) (s : State) : (onTime g s).settings = s.settings := rfl
@[simp] theorem onTime_basin (g : TimeUnit → TimeUnit) (s : State) : (onTime g s).basin = s.basin := rfl
@[simp] theorem onTime_bist (g : TimeUnit → TimeUnit) (s : State) : (onTime g s).bist = s.bist := rfl
@[simp] theorem onTime_path (g : TimeUnit → TimeUnit) (s : State) : (onTime g s).path = s.path := rfl
@[simp] theorem onTime_refs (g : TimeUnit → TimeUnit) (s : State) : (onTime g s).refs = s.refs := rfl
@[simp] theorem onTime_recd (g : TimeUnit → TimeUnit) (s : State) : (onTime g s).recd = s.recd := rfl
@[simp] theorem onTime_wear (g : TimeUnit → TimeUnit) (s : State) : (onTime g s).wear = s.wear := rfl
@[simp] theorem onTime_upd (g : TimeUnit → TimeUnit) (s : State) : (onTime g s).upd = s.upd := rfl
@[simp] theorem onTime_sec (g : TimeUnit → TimeUnit) (s : State) : (onTime g s).sec = s.sec := rfl
@[simp] theorem onTime_deferred (g : TimeUnit → TimeUnit) (s : State) : (onTime g s).deferred = s.deferred := rfl
@[simp] theorem onTime_drawn (g : TimeUnit → TimeUnit) (s : State) : (onTime g s).drawn = s.drawn := rfl
@[simp] theorem onTime_pending (g : TimeUnit → TimeUnit) (s : State) : (onTime g s).pending = s.pending := rfl

/-! `onField` changes `field` alone. -/

@[simp] theorem onField_mod (g : FieldZone → FieldZone) (s : State) : (onField g s).mod = s.mod := rfl
@[simp] theorem onField_img (g : FieldZone → FieldZone) (s : State) : (onField g s).img = s.img := rfl
@[simp] theorem onField_ctl (g : FieldZone → FieldZone) (s : State) : (onField g s).ctl = s.ctl := rfl
@[simp] theorem onField_pair (g : FieldZone → FieldZone) (s : State) : (onField g s).pair = s.pair := rfl
@[simp] theorem onField_tow (g : FieldZone → FieldZone) (s : State) : (onField g s).tow = s.tow := rfl
@[simp] theorem onField_net (g : FieldZone → FieldZone) (s : State) : (onField g s).net = s.net := rfl
@[simp] theorem onField_sw (g : FieldZone → FieldZone) (s : State) : (onField g s).sw = s.sw := rfl
@[simp] theorem onField_time (g : FieldZone → FieldZone) (s : State) : (onField g s).time = s.time := rfl
@[simp] theorem onField_field (g : FieldZone → FieldZone) (s : State) : (onField g s).field = g s.field := rfl
@[simp] theorem onField_can (g : FieldZone → FieldZone) (s : State) : (onField g s).can = s.can := rfl
@[simp] theorem onField_keeper (g : FieldZone → FieldZone) (s : State) : (onField g s).keeper = s.keeper := rfl
@[simp] theorem onField_settings (g : FieldZone → FieldZone) (s : State) : (onField g s).settings = s.settings := rfl
@[simp] theorem onField_basin (g : FieldZone → FieldZone) (s : State) : (onField g s).basin = s.basin := rfl
@[simp] theorem onField_bist (g : FieldZone → FieldZone) (s : State) : (onField g s).bist = s.bist := rfl
@[simp] theorem onField_path (g : FieldZone → FieldZone) (s : State) : (onField g s).path = s.path := rfl
@[simp] theorem onField_refs (g : FieldZone → FieldZone) (s : State) : (onField g s).refs = s.refs := rfl
@[simp] theorem onField_recd (g : FieldZone → FieldZone) (s : State) : (onField g s).recd = s.recd := rfl
@[simp] theorem onField_wear (g : FieldZone → FieldZone) (s : State) : (onField g s).wear = s.wear := rfl
@[simp] theorem onField_upd (g : FieldZone → FieldZone) (s : State) : (onField g s).upd = s.upd := rfl
@[simp] theorem onField_sec (g : FieldZone → FieldZone) (s : State) : (onField g s).sec = s.sec := rfl
@[simp] theorem onField_deferred (g : FieldZone → FieldZone) (s : State) : (onField g s).deferred = s.deferred := rfl
@[simp] theorem onField_drawn (g : FieldZone → FieldZone) (s : State) : (onField g s).drawn = s.drawn := rfl
@[simp] theorem onField_pending (g : FieldZone → FieldZone) (s : State) : (onField g s).pending = s.pending := rfl

/-! `onKeeper` changes `keeper` alone. -/

@[simp] theorem onKeeper_mod (g : Keeper → Keeper) (s : State) : (onKeeper g s).mod = s.mod := rfl
@[simp] theorem onKeeper_img (g : Keeper → Keeper) (s : State) : (onKeeper g s).img = s.img := rfl
@[simp] theorem onKeeper_ctl (g : Keeper → Keeper) (s : State) : (onKeeper g s).ctl = s.ctl := rfl
@[simp] theorem onKeeper_pair (g : Keeper → Keeper) (s : State) : (onKeeper g s).pair = s.pair := rfl
@[simp] theorem onKeeper_tow (g : Keeper → Keeper) (s : State) : (onKeeper g s).tow = s.tow := rfl
@[simp] theorem onKeeper_net (g : Keeper → Keeper) (s : State) : (onKeeper g s).net = s.net := rfl
@[simp] theorem onKeeper_sw (g : Keeper → Keeper) (s : State) : (onKeeper g s).sw = s.sw := rfl
@[simp] theorem onKeeper_time (g : Keeper → Keeper) (s : State) : (onKeeper g s).time = s.time := rfl
@[simp] theorem onKeeper_field (g : Keeper → Keeper) (s : State) : (onKeeper g s).field = s.field := rfl
@[simp] theorem onKeeper_can (g : Keeper → Keeper) (s : State) : (onKeeper g s).can = s.can := rfl
@[simp] theorem onKeeper_keeper (g : Keeper → Keeper) (s : State) : (onKeeper g s).keeper = g s.keeper := rfl
@[simp] theorem onKeeper_settings (g : Keeper → Keeper) (s : State) : (onKeeper g s).settings = s.settings := rfl
@[simp] theorem onKeeper_basin (g : Keeper → Keeper) (s : State) : (onKeeper g s).basin = s.basin := rfl
@[simp] theorem onKeeper_bist (g : Keeper → Keeper) (s : State) : (onKeeper g s).bist = s.bist := rfl
@[simp] theorem onKeeper_path (g : Keeper → Keeper) (s : State) : (onKeeper g s).path = s.path := rfl
@[simp] theorem onKeeper_refs (g : Keeper → Keeper) (s : State) : (onKeeper g s).refs = s.refs := rfl
@[simp] theorem onKeeper_recd (g : Keeper → Keeper) (s : State) : (onKeeper g s).recd = s.recd := rfl
@[simp] theorem onKeeper_wear (g : Keeper → Keeper) (s : State) : (onKeeper g s).wear = s.wear := rfl
@[simp] theorem onKeeper_upd (g : Keeper → Keeper) (s : State) : (onKeeper g s).upd = s.upd := rfl
@[simp] theorem onKeeper_sec (g : Keeper → Keeper) (s : State) : (onKeeper g s).sec = s.sec := rfl
@[simp] theorem onKeeper_deferred (g : Keeper → Keeper) (s : State) : (onKeeper g s).deferred = s.deferred := rfl
@[simp] theorem onKeeper_drawn (g : Keeper → Keeper) (s : State) : (onKeeper g s).drawn = s.drawn := rfl
@[simp] theorem onKeeper_pending (g : Keeper → Keeper) (s : State) : (onKeeper g s).pending = s.pending := rfl

/-! `onSettings` changes `settings` alone. -/

@[simp] theorem onSettings_mod (g : Settings → Settings) (s : State) : (onSettings g s).mod = s.mod := rfl
@[simp] theorem onSettings_img (g : Settings → Settings) (s : State) : (onSettings g s).img = s.img := rfl
@[simp] theorem onSettings_ctl (g : Settings → Settings) (s : State) : (onSettings g s).ctl = s.ctl := rfl
@[simp] theorem onSettings_pair (g : Settings → Settings) (s : State) : (onSettings g s).pair = s.pair := rfl
@[simp] theorem onSettings_tow (g : Settings → Settings) (s : State) : (onSettings g s).tow = s.tow := rfl
@[simp] theorem onSettings_net (g : Settings → Settings) (s : State) : (onSettings g s).net = s.net := rfl
@[simp] theorem onSettings_sw (g : Settings → Settings) (s : State) : (onSettings g s).sw = s.sw := rfl
@[simp] theorem onSettings_time (g : Settings → Settings) (s : State) : (onSettings g s).time = s.time := rfl
@[simp] theorem onSettings_field (g : Settings → Settings) (s : State) : (onSettings g s).field = s.field := rfl
@[simp] theorem onSettings_can (g : Settings → Settings) (s : State) : (onSettings g s).can = s.can := rfl
@[simp] theorem onSettings_keeper (g : Settings → Settings) (s : State) : (onSettings g s).keeper = s.keeper := rfl
@[simp] theorem onSettings_settings (g : Settings → Settings) (s : State) : (onSettings g s).settings = g s.settings := rfl
@[simp] theorem onSettings_basin (g : Settings → Settings) (s : State) : (onSettings g s).basin = s.basin := rfl
@[simp] theorem onSettings_bist (g : Settings → Settings) (s : State) : (onSettings g s).bist = s.bist := rfl
@[simp] theorem onSettings_path (g : Settings → Settings) (s : State) : (onSettings g s).path = s.path := rfl
@[simp] theorem onSettings_refs (g : Settings → Settings) (s : State) : (onSettings g s).refs = s.refs := rfl
@[simp] theorem onSettings_recd (g : Settings → Settings) (s : State) : (onSettings g s).recd = s.recd := rfl
@[simp] theorem onSettings_wear (g : Settings → Settings) (s : State) : (onSettings g s).wear = s.wear := rfl
@[simp] theorem onSettings_upd (g : Settings → Settings) (s : State) : (onSettings g s).upd = s.upd := rfl
@[simp] theorem onSettings_sec (g : Settings → Settings) (s : State) : (onSettings g s).sec = s.sec := rfl
@[simp] theorem onSettings_deferred (g : Settings → Settings) (s : State) : (onSettings g s).deferred = s.deferred := rfl
@[simp] theorem onSettings_drawn (g : Settings → Settings) (s : State) : (onSettings g s).drawn = s.drawn := rfl
@[simp] theorem onSettings_pending (g : Settings → Settings) (s : State) : (onSettings g s).pending = s.pending := rfl

/-! `onBasin` changes `basin` alone. -/

@[simp] theorem onBasin_mod (g : Basin → Basin) (s : State) : (onBasin g s).mod = s.mod := rfl
@[simp] theorem onBasin_img (g : Basin → Basin) (s : State) : (onBasin g s).img = s.img := rfl
@[simp] theorem onBasin_ctl (g : Basin → Basin) (s : State) : (onBasin g s).ctl = s.ctl := rfl
@[simp] theorem onBasin_pair (g : Basin → Basin) (s : State) : (onBasin g s).pair = s.pair := rfl
@[simp] theorem onBasin_tow (g : Basin → Basin) (s : State) : (onBasin g s).tow = s.tow := rfl
@[simp] theorem onBasin_net (g : Basin → Basin) (s : State) : (onBasin g s).net = s.net := rfl
@[simp] theorem onBasin_sw (g : Basin → Basin) (s : State) : (onBasin g s).sw = s.sw := rfl
@[simp] theorem onBasin_time (g : Basin → Basin) (s : State) : (onBasin g s).time = s.time := rfl
@[simp] theorem onBasin_field (g : Basin → Basin) (s : State) : (onBasin g s).field = s.field := rfl
@[simp] theorem onBasin_can (g : Basin → Basin) (s : State) : (onBasin g s).can = s.can := rfl
@[simp] theorem onBasin_keeper (g : Basin → Basin) (s : State) : (onBasin g s).keeper = s.keeper := rfl
@[simp] theorem onBasin_settings (g : Basin → Basin) (s : State) : (onBasin g s).settings = s.settings := rfl
@[simp] theorem onBasin_basin (g : Basin → Basin) (s : State) : (onBasin g s).basin = g s.basin := rfl
@[simp] theorem onBasin_bist (g : Basin → Basin) (s : State) : (onBasin g s).bist = s.bist := rfl
@[simp] theorem onBasin_path (g : Basin → Basin) (s : State) : (onBasin g s).path = s.path := rfl
@[simp] theorem onBasin_refs (g : Basin → Basin) (s : State) : (onBasin g s).refs = s.refs := rfl
@[simp] theorem onBasin_recd (g : Basin → Basin) (s : State) : (onBasin g s).recd = s.recd := rfl
@[simp] theorem onBasin_wear (g : Basin → Basin) (s : State) : (onBasin g s).wear = s.wear := rfl
@[simp] theorem onBasin_upd (g : Basin → Basin) (s : State) : (onBasin g s).upd = s.upd := rfl
@[simp] theorem onBasin_sec (g : Basin → Basin) (s : State) : (onBasin g s).sec = s.sec := rfl
@[simp] theorem onBasin_deferred (g : Basin → Basin) (s : State) : (onBasin g s).deferred = s.deferred := rfl
@[simp] theorem onBasin_drawn (g : Basin → Basin) (s : State) : (onBasin g s).drawn = s.drawn := rfl
@[simp] theorem onBasin_pending (g : Basin → Basin) (s : State) : (onBasin g s).pending = s.pending := rfl

/-! `onPath` changes `path` alone. -/

@[simp] theorem onPath_mod (g : Towpath → Towpath) (s : State) : (onPath g s).mod = s.mod := rfl
@[simp] theorem onPath_img (g : Towpath → Towpath) (s : State) : (onPath g s).img = s.img := rfl
@[simp] theorem onPath_ctl (g : Towpath → Towpath) (s : State) : (onPath g s).ctl = s.ctl := rfl
@[simp] theorem onPath_pair (g : Towpath → Towpath) (s : State) : (onPath g s).pair = s.pair := rfl
@[simp] theorem onPath_tow (g : Towpath → Towpath) (s : State) : (onPath g s).tow = s.tow := rfl
@[simp] theorem onPath_net (g : Towpath → Towpath) (s : State) : (onPath g s).net = s.net := rfl
@[simp] theorem onPath_sw (g : Towpath → Towpath) (s : State) : (onPath g s).sw = s.sw := rfl
@[simp] theorem onPath_time (g : Towpath → Towpath) (s : State) : (onPath g s).time = s.time := rfl
@[simp] theorem onPath_field (g : Towpath → Towpath) (s : State) : (onPath g s).field = s.field := rfl
@[simp] theorem onPath_can (g : Towpath → Towpath) (s : State) : (onPath g s).can = s.can := rfl
@[simp] theorem onPath_keeper (g : Towpath → Towpath) (s : State) : (onPath g s).keeper = s.keeper := rfl
@[simp] theorem onPath_settings (g : Towpath → Towpath) (s : State) : (onPath g s).settings = s.settings := rfl
@[simp] theorem onPath_basin (g : Towpath → Towpath) (s : State) : (onPath g s).basin = s.basin := rfl
@[simp] theorem onPath_bist (g : Towpath → Towpath) (s : State) : (onPath g s).bist = s.bist := rfl
@[simp] theorem onPath_path (g : Towpath → Towpath) (s : State) : (onPath g s).path = g s.path := rfl
@[simp] theorem onPath_refs (g : Towpath → Towpath) (s : State) : (onPath g s).refs = s.refs := rfl
@[simp] theorem onPath_recd (g : Towpath → Towpath) (s : State) : (onPath g s).recd = s.recd := rfl
@[simp] theorem onPath_wear (g : Towpath → Towpath) (s : State) : (onPath g s).wear = s.wear := rfl
@[simp] theorem onPath_upd (g : Towpath → Towpath) (s : State) : (onPath g s).upd = s.upd := rfl
@[simp] theorem onPath_sec (g : Towpath → Towpath) (s : State) : (onPath g s).sec = s.sec := rfl
@[simp] theorem onPath_deferred (g : Towpath → Towpath) (s : State) : (onPath g s).deferred = s.deferred := rfl
@[simp] theorem onPath_drawn (g : Towpath → Towpath) (s : State) : (onPath g s).drawn = s.drawn := rfl
@[simp] theorem onPath_pending (g : Towpath → Towpath) (s : State) : (onPath g s).pending = s.pending := rfl

/-! `onRefs` changes `refs` alone. -/

@[simp] theorem onRefs_mod (g : Refs → Refs) (s : State) : (onRefs g s).mod = s.mod := rfl
@[simp] theorem onRefs_img (g : Refs → Refs) (s : State) : (onRefs g s).img = s.img := rfl
@[simp] theorem onRefs_ctl (g : Refs → Refs) (s : State) : (onRefs g s).ctl = s.ctl := rfl
@[simp] theorem onRefs_pair (g : Refs → Refs) (s : State) : (onRefs g s).pair = s.pair := rfl
@[simp] theorem onRefs_tow (g : Refs → Refs) (s : State) : (onRefs g s).tow = s.tow := rfl
@[simp] theorem onRefs_net (g : Refs → Refs) (s : State) : (onRefs g s).net = s.net := rfl
@[simp] theorem onRefs_sw (g : Refs → Refs) (s : State) : (onRefs g s).sw = s.sw := rfl
@[simp] theorem onRefs_time (g : Refs → Refs) (s : State) : (onRefs g s).time = s.time := rfl
@[simp] theorem onRefs_field (g : Refs → Refs) (s : State) : (onRefs g s).field = s.field := rfl
@[simp] theorem onRefs_can (g : Refs → Refs) (s : State) : (onRefs g s).can = s.can := rfl
@[simp] theorem onRefs_keeper (g : Refs → Refs) (s : State) : (onRefs g s).keeper = s.keeper := rfl
@[simp] theorem onRefs_settings (g : Refs → Refs) (s : State) : (onRefs g s).settings = s.settings := rfl
@[simp] theorem onRefs_basin (g : Refs → Refs) (s : State) : (onRefs g s).basin = s.basin := rfl
@[simp] theorem onRefs_bist (g : Refs → Refs) (s : State) : (onRefs g s).bist = s.bist := rfl
@[simp] theorem onRefs_path (g : Refs → Refs) (s : State) : (onRefs g s).path = s.path := rfl
@[simp] theorem onRefs_refs (g : Refs → Refs) (s : State) : (onRefs g s).refs = g s.refs := rfl
@[simp] theorem onRefs_recd (g : Refs → Refs) (s : State) : (onRefs g s).recd = s.recd := rfl
@[simp] theorem onRefs_wear (g : Refs → Refs) (s : State) : (onRefs g s).wear = s.wear := rfl
@[simp] theorem onRefs_upd (g : Refs → Refs) (s : State) : (onRefs g s).upd = s.upd := rfl
@[simp] theorem onRefs_sec (g : Refs → Refs) (s : State) : (onRefs g s).sec = s.sec := rfl
@[simp] theorem onRefs_deferred (g : Refs → Refs) (s : State) : (onRefs g s).deferred = s.deferred := rfl
@[simp] theorem onRefs_drawn (g : Refs → Refs) (s : State) : (onRefs g s).drawn = s.drawn := rfl
@[simp] theorem onRefs_pending (g : Refs → Refs) (s : State) : (onRefs g s).pending = s.pending := rfl

/-! `onRecd` changes `recd` alone. -/

@[simp] theorem onRecd_mod (g : Recorder → Recorder) (s : State) : (onRecd g s).mod = s.mod := rfl
@[simp] theorem onRecd_img (g : Recorder → Recorder) (s : State) : (onRecd g s).img = s.img := rfl
@[simp] theorem onRecd_ctl (g : Recorder → Recorder) (s : State) : (onRecd g s).ctl = s.ctl := rfl
@[simp] theorem onRecd_pair (g : Recorder → Recorder) (s : State) : (onRecd g s).pair = s.pair := rfl
@[simp] theorem onRecd_tow (g : Recorder → Recorder) (s : State) : (onRecd g s).tow = s.tow := rfl
@[simp] theorem onRecd_net (g : Recorder → Recorder) (s : State) : (onRecd g s).net = s.net := rfl
@[simp] theorem onRecd_sw (g : Recorder → Recorder) (s : State) : (onRecd g s).sw = s.sw := rfl
@[simp] theorem onRecd_time (g : Recorder → Recorder) (s : State) : (onRecd g s).time = s.time := rfl
@[simp] theorem onRecd_field (g : Recorder → Recorder) (s : State) : (onRecd g s).field = s.field := rfl
@[simp] theorem onRecd_can (g : Recorder → Recorder) (s : State) : (onRecd g s).can = s.can := rfl
@[simp] theorem onRecd_keeper (g : Recorder → Recorder) (s : State) : (onRecd g s).keeper = s.keeper := rfl
@[simp] theorem onRecd_settings (g : Recorder → Recorder) (s : State) : (onRecd g s).settings = s.settings := rfl
@[simp] theorem onRecd_basin (g : Recorder → Recorder) (s : State) : (onRecd g s).basin = s.basin := rfl
@[simp] theorem onRecd_bist (g : Recorder → Recorder) (s : State) : (onRecd g s).bist = s.bist := rfl
@[simp] theorem onRecd_path (g : Recorder → Recorder) (s : State) : (onRecd g s).path = s.path := rfl
@[simp] theorem onRecd_refs (g : Recorder → Recorder) (s : State) : (onRecd g s).refs = s.refs := rfl
@[simp] theorem onRecd_recd (g : Recorder → Recorder) (s : State) : (onRecd g s).recd = g s.recd := rfl
@[simp] theorem onRecd_wear (g : Recorder → Recorder) (s : State) : (onRecd g s).wear = s.wear := rfl
@[simp] theorem onRecd_upd (g : Recorder → Recorder) (s : State) : (onRecd g s).upd = s.upd := rfl
@[simp] theorem onRecd_sec (g : Recorder → Recorder) (s : State) : (onRecd g s).sec = s.sec := rfl
@[simp] theorem onRecd_deferred (g : Recorder → Recorder) (s : State) : (onRecd g s).deferred = s.deferred := rfl
@[simp] theorem onRecd_drawn (g : Recorder → Recorder) (s : State) : (onRecd g s).drawn = s.drawn := rfl
@[simp] theorem onRecd_pending (g : Recorder → Recorder) (s : State) : (onRecd g s).pending = s.pending := rfl

/-! `onWear` changes `wear` alone. -/

@[simp] theorem onWear_mod (g : Wear → Wear) (s : State) : (onWear g s).mod = s.mod := rfl
@[simp] theorem onWear_img (g : Wear → Wear) (s : State) : (onWear g s).img = s.img := rfl
@[simp] theorem onWear_ctl (g : Wear → Wear) (s : State) : (onWear g s).ctl = s.ctl := rfl
@[simp] theorem onWear_pair (g : Wear → Wear) (s : State) : (onWear g s).pair = s.pair := rfl
@[simp] theorem onWear_tow (g : Wear → Wear) (s : State) : (onWear g s).tow = s.tow := rfl
@[simp] theorem onWear_net (g : Wear → Wear) (s : State) : (onWear g s).net = s.net := rfl
@[simp] theorem onWear_sw (g : Wear → Wear) (s : State) : (onWear g s).sw = s.sw := rfl
@[simp] theorem onWear_time (g : Wear → Wear) (s : State) : (onWear g s).time = s.time := rfl
@[simp] theorem onWear_field (g : Wear → Wear) (s : State) : (onWear g s).field = s.field := rfl
@[simp] theorem onWear_can (g : Wear → Wear) (s : State) : (onWear g s).can = s.can := rfl
@[simp] theorem onWear_keeper (g : Wear → Wear) (s : State) : (onWear g s).keeper = s.keeper := rfl
@[simp] theorem onWear_settings (g : Wear → Wear) (s : State) : (onWear g s).settings = s.settings := rfl
@[simp] theorem onWear_basin (g : Wear → Wear) (s : State) : (onWear g s).basin = s.basin := rfl
@[simp] theorem onWear_bist (g : Wear → Wear) (s : State) : (onWear g s).bist = s.bist := rfl
@[simp] theorem onWear_path (g : Wear → Wear) (s : State) : (onWear g s).path = s.path := rfl
@[simp] theorem onWear_refs (g : Wear → Wear) (s : State) : (onWear g s).refs = s.refs := rfl
@[simp] theorem onWear_recd (g : Wear → Wear) (s : State) : (onWear g s).recd = s.recd := rfl
@[simp] theorem onWear_wear (g : Wear → Wear) (s : State) : (onWear g s).wear = g s.wear := rfl
@[simp] theorem onWear_upd (g : Wear → Wear) (s : State) : (onWear g s).upd = s.upd := rfl
@[simp] theorem onWear_sec (g : Wear → Wear) (s : State) : (onWear g s).sec = s.sec := rfl
@[simp] theorem onWear_deferred (g : Wear → Wear) (s : State) : (onWear g s).deferred = s.deferred := rfl
@[simp] theorem onWear_drawn (g : Wear → Wear) (s : State) : (onWear g s).drawn = s.drawn := rfl
@[simp] theorem onWear_pending (g : Wear → Wear) (s : State) : (onWear g s).pending = s.pending := rfl

/-! `onUpd` changes `upd` alone. -/

@[simp] theorem onUpd_mod (g : Update → Update) (s : State) : (onUpd g s).mod = s.mod := rfl
@[simp] theorem onUpd_img (g : Update → Update) (s : State) : (onUpd g s).img = s.img := rfl
@[simp] theorem onUpd_ctl (g : Update → Update) (s : State) : (onUpd g s).ctl = s.ctl := rfl
@[simp] theorem onUpd_pair (g : Update → Update) (s : State) : (onUpd g s).pair = s.pair := rfl
@[simp] theorem onUpd_tow (g : Update → Update) (s : State) : (onUpd g s).tow = s.tow := rfl
@[simp] theorem onUpd_net (g : Update → Update) (s : State) : (onUpd g s).net = s.net := rfl
@[simp] theorem onUpd_sw (g : Update → Update) (s : State) : (onUpd g s).sw = s.sw := rfl
@[simp] theorem onUpd_time (g : Update → Update) (s : State) : (onUpd g s).time = s.time := rfl
@[simp] theorem onUpd_field (g : Update → Update) (s : State) : (onUpd g s).field = s.field := rfl
@[simp] theorem onUpd_can (g : Update → Update) (s : State) : (onUpd g s).can = s.can := rfl
@[simp] theorem onUpd_keeper (g : Update → Update) (s : State) : (onUpd g s).keeper = s.keeper := rfl
@[simp] theorem onUpd_settings (g : Update → Update) (s : State) : (onUpd g s).settings = s.settings := rfl
@[simp] theorem onUpd_basin (g : Update → Update) (s : State) : (onUpd g s).basin = s.basin := rfl
@[simp] theorem onUpd_bist (g : Update → Update) (s : State) : (onUpd g s).bist = s.bist := rfl
@[simp] theorem onUpd_path (g : Update → Update) (s : State) : (onUpd g s).path = s.path := rfl
@[simp] theorem onUpd_refs (g : Update → Update) (s : State) : (onUpd g s).refs = s.refs := rfl
@[simp] theorem onUpd_recd (g : Update → Update) (s : State) : (onUpd g s).recd = s.recd := rfl
@[simp] theorem onUpd_wear (g : Update → Update) (s : State) : (onUpd g s).wear = s.wear := rfl
@[simp] theorem onUpd_upd (g : Update → Update) (s : State) : (onUpd g s).upd = g s.upd := rfl
@[simp] theorem onUpd_sec (g : Update → Update) (s : State) : (onUpd g s).sec = s.sec := rfl
@[simp] theorem onUpd_deferred (g : Update → Update) (s : State) : (onUpd g s).deferred = s.deferred := rfl
@[simp] theorem onUpd_drawn (g : Update → Update) (s : State) : (onUpd g s).drawn = s.drawn := rfl
@[simp] theorem onUpd_pending (g : Update → Update) (s : State) : (onUpd g s).pending = s.pending := rfl

/-! `onSec` changes `sec` alone. -/

@[simp] theorem onSec_mod (g : Security → Security) (s : State) : (onSec g s).mod = s.mod := rfl
@[simp] theorem onSec_img (g : Security → Security) (s : State) : (onSec g s).img = s.img := rfl
@[simp] theorem onSec_ctl (g : Security → Security) (s : State) : (onSec g s).ctl = s.ctl := rfl
@[simp] theorem onSec_pair (g : Security → Security) (s : State) : (onSec g s).pair = s.pair := rfl
@[simp] theorem onSec_tow (g : Security → Security) (s : State) : (onSec g s).tow = s.tow := rfl
@[simp] theorem onSec_net (g : Security → Security) (s : State) : (onSec g s).net = s.net := rfl
@[simp] theorem onSec_sw (g : Security → Security) (s : State) : (onSec g s).sw = s.sw := rfl
@[simp] theorem onSec_time (g : Security → Security) (s : State) : (onSec g s).time = s.time := rfl
@[simp] theorem onSec_field (g : Security → Security) (s : State) : (onSec g s).field = s.field := rfl
@[simp] theorem onSec_can (g : Security → Security) (s : State) : (onSec g s).can = s.can := rfl
@[simp] theorem onSec_keeper (g : Security → Security) (s : State) : (onSec g s).keeper = s.keeper := rfl
@[simp] theorem onSec_settings (g : Security → Security) (s : State) : (onSec g s).settings = s.settings := rfl
@[simp] theorem onSec_basin (g : Security → Security) (s : State) : (onSec g s).basin = s.basin := rfl
@[simp] theorem onSec_bist (g : Security → Security) (s : State) : (onSec g s).bist = s.bist := rfl
@[simp] theorem onSec_path (g : Security → Security) (s : State) : (onSec g s).path = s.path := rfl
@[simp] theorem onSec_refs (g : Security → Security) (s : State) : (onSec g s).refs = s.refs := rfl
@[simp] theorem onSec_recd (g : Security → Security) (s : State) : (onSec g s).recd = s.recd := rfl
@[simp] theorem onSec_wear (g : Security → Security) (s : State) : (onSec g s).wear = s.wear := rfl
@[simp] theorem onSec_upd (g : Security → Security) (s : State) : (onSec g s).upd = s.upd := rfl
@[simp] theorem onSec_sec (g : Security → Security) (s : State) : (onSec g s).sec = g s.sec := rfl
@[simp] theorem onSec_deferred (g : Security → Security) (s : State) : (onSec g s).deferred = s.deferred := rfl
@[simp] theorem onSec_drawn (g : Security → Security) (s : State) : (onSec g s).drawn = s.drawn := rfl
@[simp] theorem onSec_pending (g : Security → Security) (s : State) : (onSec g s).pending = s.pending := rfl

/-! `onCan` changes `can` alone. -/

@[simp] theorem onCan_mod (c : Fin 2) (g : Can → Can) (s : State) : (onCan c g s).mod = s.mod := rfl
@[simp] theorem onCan_img (c : Fin 2) (g : Can → Can) (s : State) : (onCan c g s).img = s.img := rfl
@[simp] theorem onCan_ctl (c : Fin 2) (g : Can → Can) (s : State) : (onCan c g s).ctl = s.ctl := rfl
@[simp] theorem onCan_pair (c : Fin 2) (g : Can → Can) (s : State) : (onCan c g s).pair = s.pair := rfl
@[simp] theorem onCan_tow (c : Fin 2) (g : Can → Can) (s : State) : (onCan c g s).tow = s.tow := rfl
@[simp] theorem onCan_net (c : Fin 2) (g : Can → Can) (s : State) : (onCan c g s).net = s.net := rfl
@[simp] theorem onCan_sw (c : Fin 2) (g : Can → Can) (s : State) : (onCan c g s).sw = s.sw := rfl
@[simp] theorem onCan_time (c : Fin 2) (g : Can → Can) (s : State) : (onCan c g s).time = s.time := rfl
@[simp] theorem onCan_field (c : Fin 2) (g : Can → Can) (s : State) : (onCan c g s).field = s.field := rfl
@[simp] theorem onCan_can (c : Fin 2) (g : Can → Can) (s : State) : (onCan c g s).can = vmod s.can c g := rfl
@[simp] theorem onCan_keeper (c : Fin 2) (g : Can → Can) (s : State) : (onCan c g s).keeper = s.keeper := rfl
@[simp] theorem onCan_settings (c : Fin 2) (g : Can → Can) (s : State) : (onCan c g s).settings = s.settings := rfl
@[simp] theorem onCan_basin (c : Fin 2) (g : Can → Can) (s : State) : (onCan c g s).basin = s.basin := rfl
@[simp] theorem onCan_bist (c : Fin 2) (g : Can → Can) (s : State) : (onCan c g s).bist = s.bist := rfl
@[simp] theorem onCan_path (c : Fin 2) (g : Can → Can) (s : State) : (onCan c g s).path = s.path := rfl
@[simp] theorem onCan_refs (c : Fin 2) (g : Can → Can) (s : State) : (onCan c g s).refs = s.refs := rfl
@[simp] theorem onCan_recd (c : Fin 2) (g : Can → Can) (s : State) : (onCan c g s).recd = s.recd := rfl
@[simp] theorem onCan_wear (c : Fin 2) (g : Can → Can) (s : State) : (onCan c g s).wear = s.wear := rfl
@[simp] theorem onCan_upd (c : Fin 2) (g : Can → Can) (s : State) : (onCan c g s).upd = s.upd := rfl
@[simp] theorem onCan_sec (c : Fin 2) (g : Can → Can) (s : State) : (onCan c g s).sec = s.sec := rfl
@[simp] theorem onCan_deferred (c : Fin 2) (g : Can → Can) (s : State) : (onCan c g s).deferred = s.deferred := rfl
@[simp] theorem onCan_drawn (c : Fin 2) (g : Can → Can) (s : State) : (onCan c g s).drawn = s.drawn := rfl
@[simp] theorem onCan_pending (c : Fin 2) (g : Can → Can) (s : State) : (onCan c g s).pending = s.pending := rfl

/-! `onBist` changes `bist` alone. -/

@[simp] theorem onBist_mod (b : Fin 14) (g : BistBlock → BistBlock) (s : State) : (onBist b g s).mod = s.mod := rfl
@[simp] theorem onBist_img (b : Fin 14) (g : BistBlock → BistBlock) (s : State) : (onBist b g s).img = s.img := rfl
@[simp] theorem onBist_ctl (b : Fin 14) (g : BistBlock → BistBlock) (s : State) : (onBist b g s).ctl = s.ctl := rfl
@[simp] theorem onBist_pair (b : Fin 14) (g : BistBlock → BistBlock) (s : State) : (onBist b g s).pair = s.pair := rfl
@[simp] theorem onBist_tow (b : Fin 14) (g : BistBlock → BistBlock) (s : State) : (onBist b g s).tow = s.tow := rfl
@[simp] theorem onBist_net (b : Fin 14) (g : BistBlock → BistBlock) (s : State) : (onBist b g s).net = s.net := rfl
@[simp] theorem onBist_sw (b : Fin 14) (g : BistBlock → BistBlock) (s : State) : (onBist b g s).sw = s.sw := rfl
@[simp] theorem onBist_time (b : Fin 14) (g : BistBlock → BistBlock) (s : State) : (onBist b g s).time = s.time := rfl
@[simp] theorem onBist_field (b : Fin 14) (g : BistBlock → BistBlock) (s : State) : (onBist b g s).field = s.field := rfl
@[simp] theorem onBist_can (b : Fin 14) (g : BistBlock → BistBlock) (s : State) : (onBist b g s).can = s.can := rfl
@[simp] theorem onBist_keeper (b : Fin 14) (g : BistBlock → BistBlock) (s : State) : (onBist b g s).keeper = s.keeper := rfl
@[simp] theorem onBist_settings (b : Fin 14) (g : BistBlock → BistBlock) (s : State) : (onBist b g s).settings = s.settings := rfl
@[simp] theorem onBist_basin (b : Fin 14) (g : BistBlock → BistBlock) (s : State) : (onBist b g s).basin = s.basin := rfl
@[simp] theorem onBist_bist (b : Fin 14) (g : BistBlock → BistBlock) (s : State) : (onBist b g s).bist = vmod s.bist b g := rfl
@[simp] theorem onBist_path (b : Fin 14) (g : BistBlock → BistBlock) (s : State) : (onBist b g s).path = s.path := rfl
@[simp] theorem onBist_refs (b : Fin 14) (g : BistBlock → BistBlock) (s : State) : (onBist b g s).refs = s.refs := rfl
@[simp] theorem onBist_recd (b : Fin 14) (g : BistBlock → BistBlock) (s : State) : (onBist b g s).recd = s.recd := rfl
@[simp] theorem onBist_wear (b : Fin 14) (g : BistBlock → BistBlock) (s : State) : (onBist b g s).wear = s.wear := rfl
@[simp] theorem onBist_upd (b : Fin 14) (g : BistBlock → BistBlock) (s : State) : (onBist b g s).upd = s.upd := rfl
@[simp] theorem onBist_sec (b : Fin 14) (g : BistBlock → BistBlock) (s : State) : (onBist b g s).sec = s.sec := rfl
@[simp] theorem onBist_deferred (b : Fin 14) (g : BistBlock → BistBlock) (s : State) : (onBist b g s).deferred = s.deferred := rfl
@[simp] theorem onBist_drawn (b : Fin 14) (g : BistBlock → BistBlock) (s : State) : (onBist b g s).drawn = s.drawn := rfl
@[simp] theorem onBist_pending (b : Fin 14) (g : BistBlock → BistBlock) (s : State) : (onBist b g s).pending = s.pending := rfl

/-! `onTask` changes `ctl` alone. -/

@[simp] theorem onTask_mod (k : TaskId) (g : Task → Task) (s : State) : (onTask k g s).mod = s.mod := rfl
@[simp] theorem onTask_img (k : TaskId) (g : Task → Task) (s : State) : (onTask k g s).img = s.img := rfl
@[simp] theorem onTask_ctl (k : TaskId) (g : Task → Task) (s : State) : (onTask k g s).ctl = { s.ctl with tasks := vmod s.ctl.tasks k g } := rfl
@[simp] theorem onTask_pair (k : TaskId) (g : Task → Task) (s : State) : (onTask k g s).pair = s.pair := rfl
@[simp] theorem onTask_tow (k : TaskId) (g : Task → Task) (s : State) : (onTask k g s).tow = s.tow := rfl
@[simp] theorem onTask_net (k : TaskId) (g : Task → Task) (s : State) : (onTask k g s).net = s.net := rfl
@[simp] theorem onTask_sw (k : TaskId) (g : Task → Task) (s : State) : (onTask k g s).sw = s.sw := rfl
@[simp] theorem onTask_time (k : TaskId) (g : Task → Task) (s : State) : (onTask k g s).time = s.time := rfl
@[simp] theorem onTask_field (k : TaskId) (g : Task → Task) (s : State) : (onTask k g s).field = s.field := rfl
@[simp] theorem onTask_can (k : TaskId) (g : Task → Task) (s : State) : (onTask k g s).can = s.can := rfl
@[simp] theorem onTask_keeper (k : TaskId) (g : Task → Task) (s : State) : (onTask k g s).keeper = s.keeper := rfl
@[simp] theorem onTask_settings (k : TaskId) (g : Task → Task) (s : State) : (onTask k g s).settings = s.settings := rfl
@[simp] theorem onTask_basin (k : TaskId) (g : Task → Task) (s : State) : (onTask k g s).basin = s.basin := rfl
@[simp] theorem onTask_bist (k : TaskId) (g : Task → Task) (s : State) : (onTask k g s).bist = s.bist := rfl
@[simp] theorem onTask_path (k : TaskId) (g : Task → Task) (s : State) : (onTask k g s).path = s.path := rfl
@[simp] theorem onTask_refs (k : TaskId) (g : Task → Task) (s : State) : (onTask k g s).refs = s.refs := rfl
@[simp] theorem onTask_recd (k : TaskId) (g : Task → Task) (s : State) : (onTask k g s).recd = s.recd := rfl
@[simp] theorem onTask_wear (k : TaskId) (g : Task → Task) (s : State) : (onTask k g s).wear = s.wear := rfl
@[simp] theorem onTask_upd (k : TaskId) (g : Task → Task) (s : State) : (onTask k g s).upd = s.upd := rfl
@[simp] theorem onTask_sec (k : TaskId) (g : Task → Task) (s : State) : (onTask k g s).sec = s.sec := rfl
@[simp] theorem onTask_deferred (k : TaskId) (g : Task → Task) (s : State) : (onTask k g s).deferred = s.deferred := rfl
@[simp] theorem onTask_drawn (k : TaskId) (g : Task → Task) (s : State) : (onTask k g s).drawn = s.drawn := rfl
@[simp] theorem onTask_pending (k : TaskId) (g : Task → Task) (s : State) : (onTask k g s).pending = s.pending := rfl

/-! `onWeave` changes `ctl` alone. -/

@[simp] theorem onWeave_mod (g : Weave → Weave) (s : State) : (onWeave g s).mod = s.mod := rfl
@[simp] theorem onWeave_img (g : Weave → Weave) (s : State) : (onWeave g s).img = s.img := rfl
@[simp] theorem onWeave_ctl (g : Weave → Weave) (s : State) : (onWeave g s).ctl = { s.ctl with weave := g s.ctl.weave } := rfl
@[simp] theorem onWeave_pair (g : Weave → Weave) (s : State) : (onWeave g s).pair = s.pair := rfl
@[simp] theorem onWeave_tow (g : Weave → Weave) (s : State) : (onWeave g s).tow = s.tow := rfl
@[simp] theorem onWeave_net (g : Weave → Weave) (s : State) : (onWeave g s).net = s.net := rfl
@[simp] theorem onWeave_sw (g : Weave → Weave) (s : State) : (onWeave g s).sw = s.sw := rfl
@[simp] theorem onWeave_time (g : Weave → Weave) (s : State) : (onWeave g s).time = s.time := rfl
@[simp] theorem onWeave_field (g : Weave → Weave) (s : State) : (onWeave g s).field = s.field := rfl
@[simp] theorem onWeave_can (g : Weave → Weave) (s : State) : (onWeave g s).can = s.can := rfl
@[simp] theorem onWeave_keeper (g : Weave → Weave) (s : State) : (onWeave g s).keeper = s.keeper := rfl
@[simp] theorem onWeave_settings (g : Weave → Weave) (s : State) : (onWeave g s).settings = s.settings := rfl
@[simp] theorem onWeave_basin (g : Weave → Weave) (s : State) : (onWeave g s).basin = s.basin := rfl
@[simp] theorem onWeave_bist (g : Weave → Weave) (s : State) : (onWeave g s).bist = s.bist := rfl
@[simp] theorem onWeave_path (g : Weave → Weave) (s : State) : (onWeave g s).path = s.path := rfl
@[simp] theorem onWeave_refs (g : Weave → Weave) (s : State) : (onWeave g s).refs = s.refs := rfl
@[simp] theorem onWeave_recd (g : Weave → Weave) (s : State) : (onWeave g s).recd = s.recd := rfl
@[simp] theorem onWeave_wear (g : Weave → Weave) (s : State) : (onWeave g s).wear = s.wear := rfl
@[simp] theorem onWeave_upd (g : Weave → Weave) (s : State) : (onWeave g s).upd = s.upd := rfl
@[simp] theorem onWeave_sec (g : Weave → Weave) (s : State) : (onWeave g s).sec = s.sec := rfl
@[simp] theorem onWeave_deferred (g : Weave → Weave) (s : State) : (onWeave g s).deferred = s.deferred := rfl
@[simp] theorem onWeave_drawn (g : Weave → Weave) (s : State) : (onWeave g s).drawn = s.drawn := rfl
@[simp] theorem onWeave_pending (g : Weave → Weave) (s : State) : (onWeave g s).pending = s.pending := rfl

/-! `onLane` changes `ctl` alone. -/

@[simp] theorem onLane_mod (l : LaneId) (g : Lane → Lane) (s : State) : (onLane l g s).mod = s.mod := rfl
@[simp] theorem onLane_img (l : LaneId) (g : Lane → Lane) (s : State) : (onLane l g s).img = s.img := rfl
@[simp] theorem onLane_ctl (l : LaneId) (g : Lane → Lane) (s : State) : (onLane l g s).ctl = { s.ctl with weave := { s.ctl.weave with lanes := vmod s.ctl.weave.lanes l g } } := rfl
@[simp] theorem onLane_pair (l : LaneId) (g : Lane → Lane) (s : State) : (onLane l g s).pair = s.pair := rfl
@[simp] theorem onLane_tow (l : LaneId) (g : Lane → Lane) (s : State) : (onLane l g s).tow = s.tow := rfl
@[simp] theorem onLane_net (l : LaneId) (g : Lane → Lane) (s : State) : (onLane l g s).net = s.net := rfl
@[simp] theorem onLane_sw (l : LaneId) (g : Lane → Lane) (s : State) : (onLane l g s).sw = s.sw := rfl
@[simp] theorem onLane_time (l : LaneId) (g : Lane → Lane) (s : State) : (onLane l g s).time = s.time := rfl
@[simp] theorem onLane_field (l : LaneId) (g : Lane → Lane) (s : State) : (onLane l g s).field = s.field := rfl
@[simp] theorem onLane_can (l : LaneId) (g : Lane → Lane) (s : State) : (onLane l g s).can = s.can := rfl
@[simp] theorem onLane_keeper (l : LaneId) (g : Lane → Lane) (s : State) : (onLane l g s).keeper = s.keeper := rfl
@[simp] theorem onLane_settings (l : LaneId) (g : Lane → Lane) (s : State) : (onLane l g s).settings = s.settings := rfl
@[simp] theorem onLane_basin (l : LaneId) (g : Lane → Lane) (s : State) : (onLane l g s).basin = s.basin := rfl
@[simp] theorem onLane_bist (l : LaneId) (g : Lane → Lane) (s : State) : (onLane l g s).bist = s.bist := rfl
@[simp] theorem onLane_path (l : LaneId) (g : Lane → Lane) (s : State) : (onLane l g s).path = s.path := rfl
@[simp] theorem onLane_refs (l : LaneId) (g : Lane → Lane) (s : State) : (onLane l g s).refs = s.refs := rfl
@[simp] theorem onLane_recd (l : LaneId) (g : Lane → Lane) (s : State) : (onLane l g s).recd = s.recd := rfl
@[simp] theorem onLane_wear (l : LaneId) (g : Lane → Lane) (s : State) : (onLane l g s).wear = s.wear := rfl
@[simp] theorem onLane_upd (l : LaneId) (g : Lane → Lane) (s : State) : (onLane l g s).upd = s.upd := rfl
@[simp] theorem onLane_sec (l : LaneId) (g : Lane → Lane) (s : State) : (onLane l g s).sec = s.sec := rfl
@[simp] theorem onLane_deferred (l : LaneId) (g : Lane → Lane) (s : State) : (onLane l g s).deferred = s.deferred := rfl
@[simp] theorem onLane_drawn (l : LaneId) (g : Lane → Lane) (s : State) : (onLane l g s).drawn = s.drawn := rfl
@[simp] theorem onLane_pending (l : LaneId) (g : Lane → Lane) (s : State) : (onLane l g s).pending = s.pending := rfl

/-! `onExecs` changes `ctl` alone. -/

@[simp] theorem onExecs_mod (g : List Exec → List Exec) (s : State) : (onExecs g s).mod = s.mod := rfl
@[simp] theorem onExecs_img (g : List Exec → List Exec) (s : State) : (onExecs g s).img = s.img := rfl
@[simp] theorem onExecs_ctl (g : List Exec → List Exec) (s : State) : (onExecs g s).ctl = { s.ctl with execs := g s.ctl.execs } := rfl
@[simp] theorem onExecs_pair (g : List Exec → List Exec) (s : State) : (onExecs g s).pair = s.pair := rfl
@[simp] theorem onExecs_tow (g : List Exec → List Exec) (s : State) : (onExecs g s).tow = s.tow := rfl
@[simp] theorem onExecs_net (g : List Exec → List Exec) (s : State) : (onExecs g s).net = s.net := rfl
@[simp] theorem onExecs_sw (g : List Exec → List Exec) (s : State) : (onExecs g s).sw = s.sw := rfl
@[simp] theorem onExecs_time (g : List Exec → List Exec) (s : State) : (onExecs g s).time = s.time := rfl
@[simp] theorem onExecs_field (g : List Exec → List Exec) (s : State) : (onExecs g s).field = s.field := rfl
@[simp] theorem onExecs_can (g : List Exec → List Exec) (s : State) : (onExecs g s).can = s.can := rfl
@[simp] theorem onExecs_keeper (g : List Exec → List Exec) (s : State) : (onExecs g s).keeper = s.keeper := rfl
@[simp] theorem onExecs_settings (g : List Exec → List Exec) (s : State) : (onExecs g s).settings = s.settings := rfl
@[simp] theorem onExecs_basin (g : List Exec → List Exec) (s : State) : (onExecs g s).basin = s.basin := rfl
@[simp] theorem onExecs_bist (g : List Exec → List Exec) (s : State) : (onExecs g s).bist = s.bist := rfl
@[simp] theorem onExecs_path (g : List Exec → List Exec) (s : State) : (onExecs g s).path = s.path := rfl
@[simp] theorem onExecs_refs (g : List Exec → List Exec) (s : State) : (onExecs g s).refs = s.refs := rfl
@[simp] theorem onExecs_recd (g : List Exec → List Exec) (s : State) : (onExecs g s).recd = s.recd := rfl
@[simp] theorem onExecs_wear (g : List Exec → List Exec) (s : State) : (onExecs g s).wear = s.wear := rfl
@[simp] theorem onExecs_upd (g : List Exec → List Exec) (s : State) : (onExecs g s).upd = s.upd := rfl
@[simp] theorem onExecs_sec (g : List Exec → List Exec) (s : State) : (onExecs g s).sec = s.sec := rfl
@[simp] theorem onExecs_deferred (g : List Exec → List Exec) (s : State) : (onExecs g s).deferred = s.deferred := rfl
@[simp] theorem onExecs_drawn (g : List Exec → List Exec) (s : State) : (onExecs g s).drawn = s.drawn := rfl
@[simp] theorem onExecs_pending (g : List Exec → List Exec) (s : State) : (onExecs g s).pending = s.pending := rfl

/-! `onPort` changes `sw` alone. -/

@[simp] theorem onPort_mod (p : Fin 3) (g : Port → Port) (s : State) : (onPort p g s).mod = s.mod := rfl
@[simp] theorem onPort_img (p : Fin 3) (g : Port → Port) (s : State) : (onPort p g s).img = s.img := rfl
@[simp] theorem onPort_ctl (p : Fin 3) (g : Port → Port) (s : State) : (onPort p g s).ctl = s.ctl := rfl
@[simp] theorem onPort_pair (p : Fin 3) (g : Port → Port) (s : State) : (onPort p g s).pair = s.pair := rfl
@[simp] theorem onPort_tow (p : Fin 3) (g : Port → Port) (s : State) : (onPort p g s).tow = s.tow := rfl
@[simp] theorem onPort_net (p : Fin 3) (g : Port → Port) (s : State) : (onPort p g s).net = s.net := rfl
@[simp] theorem onPort_sw (p : Fin 3) (g : Port → Port) (s : State) : (onPort p g s).sw = { s.sw with ports := vmod s.sw.ports p g } := rfl
@[simp] theorem onPort_time (p : Fin 3) (g : Port → Port) (s : State) : (onPort p g s).time = s.time := rfl
@[simp] theorem onPort_field (p : Fin 3) (g : Port → Port) (s : State) : (onPort p g s).field = s.field := rfl
@[simp] theorem onPort_can (p : Fin 3) (g : Port → Port) (s : State) : (onPort p g s).can = s.can := rfl
@[simp] theorem onPort_keeper (p : Fin 3) (g : Port → Port) (s : State) : (onPort p g s).keeper = s.keeper := rfl
@[simp] theorem onPort_settings (p : Fin 3) (g : Port → Port) (s : State) : (onPort p g s).settings = s.settings := rfl
@[simp] theorem onPort_basin (p : Fin 3) (g : Port → Port) (s : State) : (onPort p g s).basin = s.basin := rfl
@[simp] theorem onPort_bist (p : Fin 3) (g : Port → Port) (s : State) : (onPort p g s).bist = s.bist := rfl
@[simp] theorem onPort_path (p : Fin 3) (g : Port → Port) (s : State) : (onPort p g s).path = s.path := rfl
@[simp] theorem onPort_refs (p : Fin 3) (g : Port → Port) (s : State) : (onPort p g s).refs = s.refs := rfl
@[simp] theorem onPort_recd (p : Fin 3) (g : Port → Port) (s : State) : (onPort p g s).recd = s.recd := rfl
@[simp] theorem onPort_wear (p : Fin 3) (g : Port → Port) (s : State) : (onPort p g s).wear = s.wear := rfl
@[simp] theorem onPort_upd (p : Fin 3) (g : Port → Port) (s : State) : (onPort p g s).upd = s.upd := rfl
@[simp] theorem onPort_sec (p : Fin 3) (g : Port → Port) (s : State) : (onPort p g s).sec = s.sec := rfl
@[simp] theorem onPort_deferred (p : Fin 3) (g : Port → Port) (s : State) : (onPort p g s).deferred = s.deferred := rfl
@[simp] theorem onPort_drawn (p : Fin 3) (g : Port → Port) (s : State) : (onPort p g s).drawn = s.drawn := rfl
@[simp] theorem onPort_pending (p : Fin 3) (g : Port → Port) (s : State) : (onPort p g s).pending = s.pending := rfl

/-! `onMailbox` changes `keeper` alone. -/

@[simp] theorem onMailbox_mod (n : Fin 8) (g : Mailbox → Mailbox) (s : State) : (onMailbox n g s).mod = s.mod := rfl
@[simp] theorem onMailbox_img (n : Fin 8) (g : Mailbox → Mailbox) (s : State) : (onMailbox n g s).img = s.img := rfl
@[simp] theorem onMailbox_ctl (n : Fin 8) (g : Mailbox → Mailbox) (s : State) : (onMailbox n g s).ctl = s.ctl := rfl
@[simp] theorem onMailbox_pair (n : Fin 8) (g : Mailbox → Mailbox) (s : State) : (onMailbox n g s).pair = s.pair := rfl
@[simp] theorem onMailbox_tow (n : Fin 8) (g : Mailbox → Mailbox) (s : State) : (onMailbox n g s).tow = s.tow := rfl
@[simp] theorem onMailbox_net (n : Fin 8) (g : Mailbox → Mailbox) (s : State) : (onMailbox n g s).net = s.net := rfl
@[simp] theorem onMailbox_sw (n : Fin 8) (g : Mailbox → Mailbox) (s : State) : (onMailbox n g s).sw = s.sw := rfl
@[simp] theorem onMailbox_time (n : Fin 8) (g : Mailbox → Mailbox) (s : State) : (onMailbox n g s).time = s.time := rfl
@[simp] theorem onMailbox_field (n : Fin 8) (g : Mailbox → Mailbox) (s : State) : (onMailbox n g s).field = s.field := rfl
@[simp] theorem onMailbox_can (n : Fin 8) (g : Mailbox → Mailbox) (s : State) : (onMailbox n g s).can = s.can := rfl
@[simp] theorem onMailbox_keeper (n : Fin 8) (g : Mailbox → Mailbox) (s : State) : (onMailbox n g s).keeper = { s.keeper with mailboxes := vmod s.keeper.mailboxes n g } := rfl
@[simp] theorem onMailbox_settings (n : Fin 8) (g : Mailbox → Mailbox) (s : State) : (onMailbox n g s).settings = s.settings := rfl
@[simp] theorem onMailbox_basin (n : Fin 8) (g : Mailbox → Mailbox) (s : State) : (onMailbox n g s).basin = s.basin := rfl
@[simp] theorem onMailbox_bist (n : Fin 8) (g : Mailbox → Mailbox) (s : State) : (onMailbox n g s).bist = s.bist := rfl
@[simp] theorem onMailbox_path (n : Fin 8) (g : Mailbox → Mailbox) (s : State) : (onMailbox n g s).path = s.path := rfl
@[simp] theorem onMailbox_refs (n : Fin 8) (g : Mailbox → Mailbox) (s : State) : (onMailbox n g s).refs = s.refs := rfl
@[simp] theorem onMailbox_recd (n : Fin 8) (g : Mailbox → Mailbox) (s : State) : (onMailbox n g s).recd = s.recd := rfl
@[simp] theorem onMailbox_wear (n : Fin 8) (g : Mailbox → Mailbox) (s : State) : (onMailbox n g s).wear = s.wear := rfl
@[simp] theorem onMailbox_upd (n : Fin 8) (g : Mailbox → Mailbox) (s : State) : (onMailbox n g s).upd = s.upd := rfl
@[simp] theorem onMailbox_sec (n : Fin 8) (g : Mailbox → Mailbox) (s : State) : (onMailbox n g s).sec = s.sec := rfl
@[simp] theorem onMailbox_deferred (n : Fin 8) (g : Mailbox → Mailbox) (s : State) : (onMailbox n g s).deferred = s.deferred := rfl
@[simp] theorem onMailbox_drawn (n : Fin 8) (g : Mailbox → Mailbox) (s : State) : (onMailbox n g s).drawn = s.drawn := rfl
@[simp] theorem onMailbox_pending (n : Fin 8) (g : Mailbox → Mailbox) (s : State) : (onMailbox n g s).pending = s.pending := rfl

/-! `onDio` changes `field` alone. -/

@[simp] theorem onDio_mod (c : Fin 16) (g : Dio → Dio) (s : State) : (onDio c g s).mod = s.mod := rfl
@[simp] theorem onDio_img (c : Fin 16) (g : Dio → Dio) (s : State) : (onDio c g s).img = s.img := rfl
@[simp] theorem onDio_ctl (c : Fin 16) (g : Dio → Dio) (s : State) : (onDio c g s).ctl = s.ctl := rfl
@[simp] theorem onDio_pair (c : Fin 16) (g : Dio → Dio) (s : State) : (onDio c g s).pair = s.pair := rfl
@[simp] theorem onDio_tow (c : Fin 16) (g : Dio → Dio) (s : State) : (onDio c g s).tow = s.tow := rfl
@[simp] theorem onDio_net (c : Fin 16) (g : Dio → Dio) (s : State) : (onDio c g s).net = s.net := rfl
@[simp] theorem onDio_sw (c : Fin 16) (g : Dio → Dio) (s : State) : (onDio c g s).sw = s.sw := rfl
@[simp] theorem onDio_time (c : Fin 16) (g : Dio → Dio) (s : State) : (onDio c g s).time = s.time := rfl
@[simp] theorem onDio_field (c : Fin 16) (g : Dio → Dio) (s : State) : (onDio c g s).field = { s.field with dio := vmod s.field.dio c g } := rfl
@[simp] theorem onDio_can (c : Fin 16) (g : Dio → Dio) (s : State) : (onDio c g s).can = s.can := rfl
@[simp] theorem onDio_keeper (c : Fin 16) (g : Dio → Dio) (s : State) : (onDio c g s).keeper = s.keeper := rfl
@[simp] theorem onDio_settings (c : Fin 16) (g : Dio → Dio) (s : State) : (onDio c g s).settings = s.settings := rfl
@[simp] theorem onDio_basin (c : Fin 16) (g : Dio → Dio) (s : State) : (onDio c g s).basin = s.basin := rfl
@[simp] theorem onDio_bist (c : Fin 16) (g : Dio → Dio) (s : State) : (onDio c g s).bist = s.bist := rfl
@[simp] theorem onDio_path (c : Fin 16) (g : Dio → Dio) (s : State) : (onDio c g s).path = s.path := rfl
@[simp] theorem onDio_refs (c : Fin 16) (g : Dio → Dio) (s : State) : (onDio c g s).refs = s.refs := rfl
@[simp] theorem onDio_recd (c : Fin 16) (g : Dio → Dio) (s : State) : (onDio c g s).recd = s.recd := rfl
@[simp] theorem onDio_wear (c : Fin 16) (g : Dio → Dio) (s : State) : (onDio c g s).wear = s.wear := rfl
@[simp] theorem onDio_upd (c : Fin 16) (g : Dio → Dio) (s : State) : (onDio c g s).upd = s.upd := rfl
@[simp] theorem onDio_sec (c : Fin 16) (g : Dio → Dio) (s : State) : (onDio c g s).sec = s.sec := rfl
@[simp] theorem onDio_deferred (c : Fin 16) (g : Dio → Dio) (s : State) : (onDio c g s).deferred = s.deferred := rfl
@[simp] theorem onDio_drawn (c : Fin 16) (g : Dio → Dio) (s : State) : (onDio c g s).drawn = s.drawn := rfl
@[simp] theorem onDio_pending (c : Fin 16) (g : Dio → Dio) (s : State) : (onDio c g s).pending = s.pending := rfl

/-! `onAio` changes `field` alone. -/

@[simp] theorem onAio_mod (c : Fin 8) (g : Aio → Aio) (s : State) : (onAio c g s).mod = s.mod := rfl
@[simp] theorem onAio_img (c : Fin 8) (g : Aio → Aio) (s : State) : (onAio c g s).img = s.img := rfl
@[simp] theorem onAio_ctl (c : Fin 8) (g : Aio → Aio) (s : State) : (onAio c g s).ctl = s.ctl := rfl
@[simp] theorem onAio_pair (c : Fin 8) (g : Aio → Aio) (s : State) : (onAio c g s).pair = s.pair := rfl
@[simp] theorem onAio_tow (c : Fin 8) (g : Aio → Aio) (s : State) : (onAio c g s).tow = s.tow := rfl
@[simp] theorem onAio_net (c : Fin 8) (g : Aio → Aio) (s : State) : (onAio c g s).net = s.net := rfl
@[simp] theorem onAio_sw (c : Fin 8) (g : Aio → Aio) (s : State) : (onAio c g s).sw = s.sw := rfl
@[simp] theorem onAio_time (c : Fin 8) (g : Aio → Aio) (s : State) : (onAio c g s).time = s.time := rfl
@[simp] theorem onAio_field (c : Fin 8) (g : Aio → Aio) (s : State) : (onAio c g s).field = { s.field with aio := vmod s.field.aio c g } := rfl
@[simp] theorem onAio_can (c : Fin 8) (g : Aio → Aio) (s : State) : (onAio c g s).can = s.can := rfl
@[simp] theorem onAio_keeper (c : Fin 8) (g : Aio → Aio) (s : State) : (onAio c g s).keeper = s.keeper := rfl
@[simp] theorem onAio_settings (c : Fin 8) (g : Aio → Aio) (s : State) : (onAio c g s).settings = s.settings := rfl
@[simp] theorem onAio_basin (c : Fin 8) (g : Aio → Aio) (s : State) : (onAio c g s).basin = s.basin := rfl
@[simp] theorem onAio_bist (c : Fin 8) (g : Aio → Aio) (s : State) : (onAio c g s).bist = s.bist := rfl
@[simp] theorem onAio_path (c : Fin 8) (g : Aio → Aio) (s : State) : (onAio c g s).path = s.path := rfl
@[simp] theorem onAio_refs (c : Fin 8) (g : Aio → Aio) (s : State) : (onAio c g s).refs = s.refs := rfl
@[simp] theorem onAio_recd (c : Fin 8) (g : Aio → Aio) (s : State) : (onAio c g s).recd = s.recd := rfl
@[simp] theorem onAio_wear (c : Fin 8) (g : Aio → Aio) (s : State) : (onAio c g s).wear = s.wear := rfl
@[simp] theorem onAio_upd (c : Fin 8) (g : Aio → Aio) (s : State) : (onAio c g s).upd = s.upd := rfl
@[simp] theorem onAio_sec (c : Fin 8) (g : Aio → Aio) (s : State) : (onAio c g s).sec = s.sec := rfl
@[simp] theorem onAio_deferred (c : Fin 8) (g : Aio → Aio) (s : State) : (onAio c g s).deferred = s.deferred := rfl
@[simp] theorem onAio_drawn (c : Fin 8) (g : Aio → Aio) (s : State) : (onAio c g s).drawn = s.drawn := rfl
@[simp] theorem onAio_pending (c : Fin 8) (g : Aio → Aio) (s : State) : (onAio c g s).pending = s.pending := rfl

/-! `onFo` changes `field` alone. -/

@[simp] theorem onFo_mod (c : Fin 4) (g : Fo → Fo) (s : State) : (onFo c g s).mod = s.mod := rfl
@[simp] theorem onFo_img (c : Fin 4) (g : Fo → Fo) (s : State) : (onFo c g s).img = s.img := rfl
@[simp] theorem onFo_ctl (c : Fin 4) (g : Fo → Fo) (s : State) : (onFo c g s).ctl = s.ctl := rfl
@[simp] theorem onFo_pair (c : Fin 4) (g : Fo → Fo) (s : State) : (onFo c g s).pair = s.pair := rfl
@[simp] theorem onFo_tow (c : Fin 4) (g : Fo → Fo) (s : State) : (onFo c g s).tow = s.tow := rfl
@[simp] theorem onFo_net (c : Fin 4) (g : Fo → Fo) (s : State) : (onFo c g s).net = s.net := rfl
@[simp] theorem onFo_sw (c : Fin 4) (g : Fo → Fo) (s : State) : (onFo c g s).sw = s.sw := rfl
@[simp] theorem onFo_time (c : Fin 4) (g : Fo → Fo) (s : State) : (onFo c g s).time = s.time := rfl
@[simp] theorem onFo_field (c : Fin 4) (g : Fo → Fo) (s : State) : (onFo c g s).field = { s.field with fo := vmod s.field.fo c g } := rfl
@[simp] theorem onFo_can (c : Fin 4) (g : Fo → Fo) (s : State) : (onFo c g s).can = s.can := rfl
@[simp] theorem onFo_keeper (c : Fin 4) (g : Fo → Fo) (s : State) : (onFo c g s).keeper = s.keeper := rfl
@[simp] theorem onFo_settings (c : Fin 4) (g : Fo → Fo) (s : State) : (onFo c g s).settings = s.settings := rfl
@[simp] theorem onFo_basin (c : Fin 4) (g : Fo → Fo) (s : State) : (onFo c g s).basin = s.basin := rfl
@[simp] theorem onFo_bist (c : Fin 4) (g : Fo → Fo) (s : State) : (onFo c g s).bist = s.bist := rfl
@[simp] theorem onFo_path (c : Fin 4) (g : Fo → Fo) (s : State) : (onFo c g s).path = s.path := rfl
@[simp] theorem onFo_refs (c : Fin 4) (g : Fo → Fo) (s : State) : (onFo c g s).refs = s.refs := rfl
@[simp] theorem onFo_recd (c : Fin 4) (g : Fo → Fo) (s : State) : (onFo c g s).recd = s.recd := rfl
@[simp] theorem onFo_wear (c : Fin 4) (g : Fo → Fo) (s : State) : (onFo c g s).wear = s.wear := rfl
@[simp] theorem onFo_upd (c : Fin 4) (g : Fo → Fo) (s : State) : (onFo c g s).upd = s.upd := rfl
@[simp] theorem onFo_sec (c : Fin 4) (g : Fo → Fo) (s : State) : (onFo c g s).sec = s.sec := rfl
@[simp] theorem onFo_deferred (c : Fin 4) (g : Fo → Fo) (s : State) : (onFo c g s).deferred = s.deferred := rfl
@[simp] theorem onFo_drawn (c : Fin 4) (g : Fo → Fo) (s : State) : (onFo c g s).drawn = s.drawn := rfl
@[simp] theorem onFo_pending (c : Fin 4) (g : Fo → Fo) (s : State) : (onFo c g s).pending = s.pending := rfl

/-! `onFi` changes `field` alone. -/

@[simp] theorem onFi_mod (c : Fin 4) (g : Fi → Fi) (s : State) : (onFi c g s).mod = s.mod := rfl
@[simp] theorem onFi_img (c : Fin 4) (g : Fi → Fi) (s : State) : (onFi c g s).img = s.img := rfl
@[simp] theorem onFi_ctl (c : Fin 4) (g : Fi → Fi) (s : State) : (onFi c g s).ctl = s.ctl := rfl
@[simp] theorem onFi_pair (c : Fin 4) (g : Fi → Fi) (s : State) : (onFi c g s).pair = s.pair := rfl
@[simp] theorem onFi_tow (c : Fin 4) (g : Fi → Fi) (s : State) : (onFi c g s).tow = s.tow := rfl
@[simp] theorem onFi_net (c : Fin 4) (g : Fi → Fi) (s : State) : (onFi c g s).net = s.net := rfl
@[simp] theorem onFi_sw (c : Fin 4) (g : Fi → Fi) (s : State) : (onFi c g s).sw = s.sw := rfl
@[simp] theorem onFi_time (c : Fin 4) (g : Fi → Fi) (s : State) : (onFi c g s).time = s.time := rfl
@[simp] theorem onFi_field (c : Fin 4) (g : Fi → Fi) (s : State) : (onFi c g s).field = { s.field with fi := vmod s.field.fi c g } := rfl
@[simp] theorem onFi_can (c : Fin 4) (g : Fi → Fi) (s : State) : (onFi c g s).can = s.can := rfl
@[simp] theorem onFi_keeper (c : Fin 4) (g : Fi → Fi) (s : State) : (onFi c g s).keeper = s.keeper := rfl
@[simp] theorem onFi_settings (c : Fin 4) (g : Fi → Fi) (s : State) : (onFi c g s).settings = s.settings := rfl
@[simp] theorem onFi_basin (c : Fin 4) (g : Fi → Fi) (s : State) : (onFi c g s).basin = s.basin := rfl
@[simp] theorem onFi_bist (c : Fin 4) (g : Fi → Fi) (s : State) : (onFi c g s).bist = s.bist := rfl
@[simp] theorem onFi_path (c : Fin 4) (g : Fi → Fi) (s : State) : (onFi c g s).path = s.path := rfl
@[simp] theorem onFi_refs (c : Fin 4) (g : Fi → Fi) (s : State) : (onFi c g s).refs = s.refs := rfl
@[simp] theorem onFi_recd (c : Fin 4) (g : Fi → Fi) (s : State) : (onFi c g s).recd = s.recd := rfl
@[simp] theorem onFi_wear (c : Fin 4) (g : Fi → Fi) (s : State) : (onFi c g s).wear = s.wear := rfl
@[simp] theorem onFi_upd (c : Fin 4) (g : Fi → Fi) (s : State) : (onFi c g s).upd = s.upd := rfl
@[simp] theorem onFi_sec (c : Fin 4) (g : Fi → Fi) (s : State) : (onFi c g s).sec = s.sec := rfl
@[simp] theorem onFi_deferred (c : Fin 4) (g : Fi → Fi) (s : State) : (onFi c g s).deferred = s.deferred := rfl
@[simp] theorem onFi_drawn (c : Fin 4) (g : Fi → Fi) (s : State) : (onFi c g s).drawn = s.drawn := rfl
@[simp] theorem onFi_pending (c : Fin 4) (g : Fi → Fi) (s : State) : (onFi c g s).pending = s.pending := rfl

/-! `draw` changes `drawn` alone. -/

@[simp] theorem draw_mod (s : State) : (draw s).mod = s.mod := rfl
@[simp] theorem draw_img (s : State) : (draw s).img = s.img := rfl
@[simp] theorem draw_ctl (s : State) : (draw s).ctl = s.ctl := rfl
@[simp] theorem draw_pair (s : State) : (draw s).pair = s.pair := rfl
@[simp] theorem draw_tow (s : State) : (draw s).tow = s.tow := rfl
@[simp] theorem draw_net (s : State) : (draw s).net = s.net := rfl
@[simp] theorem draw_sw (s : State) : (draw s).sw = s.sw := rfl
@[simp] theorem draw_time (s : State) : (draw s).time = s.time := rfl
@[simp] theorem draw_field (s : State) : (draw s).field = s.field := rfl
@[simp] theorem draw_can (s : State) : (draw s).can = s.can := rfl
@[simp] theorem draw_keeper (s : State) : (draw s).keeper = s.keeper := rfl
@[simp] theorem draw_settings (s : State) : (draw s).settings = s.settings := rfl
@[simp] theorem draw_basin (s : State) : (draw s).basin = s.basin := rfl
@[simp] theorem draw_bist (s : State) : (draw s).bist = s.bist := rfl
@[simp] theorem draw_path (s : State) : (draw s).path = s.path := rfl
@[simp] theorem draw_refs (s : State) : (draw s).refs = s.refs := rfl
@[simp] theorem draw_recd (s : State) : (draw s).recd = s.recd := rfl
@[simp] theorem draw_wear (s : State) : (draw s).wear = s.wear := rfl
@[simp] theorem draw_upd (s : State) : (draw s).upd = s.upd := rfl
@[simp] theorem draw_sec (s : State) : (draw s).sec = s.sec := rfl
@[simp] theorem draw_deferred (s : State) : (draw s).deferred = s.deferred := rfl
@[simp] theorem draw_drawn (s : State) : (draw s).drawn = s.drawn + 1 := rfl
@[simp] theorem draw_pending (s : State) : (draw s).pending = s.pending := rfl

@[simp] theorem atTime_mod (t : Nat) (s : State) : (atTime t s).mod = s.mod := rfl
@[simp] theorem atTime_img (t : Nat) (s : State) : (atTime t s).img = s.img := rfl
@[simp] theorem atTime_ctl (t : Nat) (s : State) : (atTime t s).ctl = s.ctl := rfl
@[simp] theorem atTime_pair (t : Nat) (s : State) : (atTime t s).pair = s.pair := rfl
@[simp] theorem atTime_tow (t : Nat) (s : State) : (atTime t s).tow = s.tow := rfl
@[simp] theorem atTime_net (t : Nat) (s : State) : (atTime t s).net = s.net := rfl
@[simp] theorem atTime_sw (t : Nat) (s : State) : (atTime t s).sw = s.sw := rfl
@[simp] theorem atTime_field (t : Nat) (s : State) : (atTime t s).field = s.field := rfl
@[simp] theorem atTime_can (t : Nat) (s : State) : (atTime t s).can = s.can := rfl
@[simp] theorem atTime_keeper (t : Nat) (s : State) : (atTime t s).keeper = s.keeper := rfl
@[simp] theorem atTime_settings (t : Nat) (s : State) : (atTime t s).settings = s.settings := rfl
@[simp] theorem atTime_basin (t : Nat) (s : State) : (atTime t s).basin = s.basin := rfl
@[simp] theorem atTime_bist (t : Nat) (s : State) : (atTime t s).bist = s.bist := rfl
@[simp] theorem atTime_path (t : Nat) (s : State) : (atTime t s).path = s.path := rfl
@[simp] theorem atTime_refs (t : Nat) (s : State) : (atTime t s).refs = s.refs := rfl
@[simp] theorem atTime_recd (t : Nat) (s : State) : (atTime t s).recd = s.recd := rfl
@[simp] theorem atTime_wear (t : Nat) (s : State) : (atTime t s).wear = s.wear := rfl
@[simp] theorem atTime_upd (t : Nat) (s : State) : (atTime t s).upd = s.upd := rfl
@[simp] theorem atTime_sec (t : Nat) (s : State) : (atTime t s).sec = s.sec := rfl
@[simp] theorem atTime_deferred (t : Nat) (s : State) : (atTime t s).deferred = s.deferred := rfl
@[simp] theorem atTime_drawn (t : Nat) (s : State) : (atTime t s).drawn = s.drawn := rfl
@[simp] theorem atTime_pending (t : Nat) (s : State) : (atTime t s).pending = s.pending := rfl

@[simp] theorem withPending_mod (q : List Instr) (s : State) : (s.withPending q).mod = s.mod := rfl
@[simp] theorem withPending_img (q : List Instr) (s : State) : (s.withPending q).img = s.img := rfl
@[simp] theorem withPending_ctl (q : List Instr) (s : State) : (s.withPending q).ctl = s.ctl := rfl
@[simp] theorem withPending_pair (q : List Instr) (s : State) : (s.withPending q).pair = s.pair := rfl
@[simp] theorem withPending_tow (q : List Instr) (s : State) : (s.withPending q).tow = s.tow := rfl
@[simp] theorem withPending_net (q : List Instr) (s : State) : (s.withPending q).net = s.net := rfl
@[simp] theorem withPending_sw (q : List Instr) (s : State) : (s.withPending q).sw = s.sw := rfl
@[simp] theorem withPending_time (q : List Instr) (s : State) : (s.withPending q).time = s.time := rfl
@[simp] theorem withPending_field (q : List Instr) (s : State) : (s.withPending q).field = s.field := rfl
@[simp] theorem withPending_can (q : List Instr) (s : State) : (s.withPending q).can = s.can := rfl
@[simp] theorem withPending_keeper (q : List Instr) (s : State) : (s.withPending q).keeper = s.keeper := rfl
@[simp] theorem withPending_settings (q : List Instr) (s : State) : (s.withPending q).settings = s.settings := rfl
@[simp] theorem withPending_basin (q : List Instr) (s : State) : (s.withPending q).basin = s.basin := rfl
@[simp] theorem withPending_bist (q : List Instr) (s : State) : (s.withPending q).bist = s.bist := rfl
@[simp] theorem withPending_path (q : List Instr) (s : State) : (s.withPending q).path = s.path := rfl
@[simp] theorem withPending_refs (q : List Instr) (s : State) : (s.withPending q).refs = s.refs := rfl
@[simp] theorem withPending_recd (q : List Instr) (s : State) : (s.withPending q).recd = s.recd := rfl
@[simp] theorem withPending_wear (q : List Instr) (s : State) : (s.withPending q).wear = s.wear := rfl
@[simp] theorem withPending_upd (q : List Instr) (s : State) : (s.withPending q).upd = s.upd := rfl
@[simp] theorem withPending_sec (q : List Instr) (s : State) : (s.withPending q).sec = s.sec := rfl
@[simp] theorem withPending_deferred (q : List Instr) (s : State) : (s.withPending q).deferred = s.deferred := rfl
@[simp] theorem withPending_drawn (q : List Instr) (s : State) : (s.withPending q).drawn = s.drawn := rfl
@[simp] theorem withPending_pending (q : List Instr) (s : State) : (s.withPending q).pending = q := rfl

end Sys2Proof.Machine
end

