-- ==== Sys2Proof/Safety.lean ====
section
/-! DEFINITION. What counts as a safe step of the block, and the words in which the statements speak of a state: a lane
that issues an instruction, a request that the Keeper takes, and what a response carries. -/

namespace Sys2Proof.Machine

open Sys2Proof

/-! ### Steps -/

/-- `Inv` holds of `s'` whenever a step leads from a state with `Inv` to `s'`. -/
def KeptByStep (Inv : State → Prop) : Prop := ∀ s s', Inv s → step s = .next s' → Inv s'

/-- The command completes with a state that has the property. -/
def Leads (i : Instr) (s : State) (post : State → Prop) : Prop := ∃ s', exec i s = .next s' ∧ post s'

/-! ### A lane that issues an instruction -/

/-- Nothing keeps lane l from issuing the word f: the lane runs the execution e at place i with the context c, is neither
gated nor held by a debug session, the word can be read (R98), is valid (R61) and lies inside the code, and the delay FIFO has room
(R122). -/
abbrev Issues (s : State) (l : LaneId) (f : WordFields) (i : Nat) (e : Exec) (c : LaneCtx) : Prop :=
  s.ctl.weave.lanes[l].gated = false ∧ s.ctl.weave.lanes[l].debugHalt = false ∧ placeFor s l = some i ∧
    s.ctl.execs[i]? = some e ∧ e.lanes.find? (canIssue l) = some c ∧ unreadable s l e.task c.pc = false ∧ wordOk f = true ∧
    c.pc < e.codeLen ∧ fifoRoom s l (postsOf f) = true

/-- No codeword of the Basin is poisoned. -/
abbrev Unpoisoned (s : State) : Prop := s.basin.poison = []

/-- What the lane reads from: image, records of the STATE half, execution and its own context. -/
def laneView (s : State) (e : Exec) (c : LaneCtx) : LaneIn :=
  { tags := s.img.tags, insts := s.ctl.insts, e := e, c := c, free := freeWord s }

/-- The context after issue: the next index, the cycles of R95 spent, and no wait for the delay FIFO. -/
def issued (c : LaneCtx) (n : Nat) : LaneCtx := { c with fullSince := none, pc := c.pc + 1, cycles := c.cycles + n }

/-- Cycles of a bit operand (R95): 4 for a read of TAG or TAGBIT, else 1. -/
def bitCost (m : BitVec 4) : Nat := if m.toNat < 2 then 4 else 1

/-- Cycles of a form with Basin operands: 4 more in form T. -/
def formCost (fm : Form) (n : Nat) : Nat := if fm = .t then n + 4 else n

/-- Writes entries to the lane's stream, oldest first. -/
def posts (c : LaneCtx) (ts : List (Nat × W64)) : LaneCtx := ts.foldl (fun c p => postTag c p.1 p.2) c

/-- A free value was drawn where the operand is one that the manual leaves open. -/
def drawnIf (b : Bool) (s : State) : State := if b then draw s else s

/-! ### The tow line and take-overs -/

/-- A tow frame other than a heartbeat that the module accepts: the next in sequence of a partner it is paired with, and the last
one of its record (R144). -/
abbrev NextFrame (fr : TowHdr) (s : State) : Prop :=
  s.tow.up = true ∧ fr.more = false ∧ fr.crcOk = true ∧ fr.owner = ownerId s ∧ s.pair.paired = true ∧ fr.sequence = s.tow.seqIn + 1

/-- Nothing keeps the module from raising its claim above c: the Keeper decides, the module is not in NAP, and a higher claim is
left (R164, R172). -/
abbrev CanRise (c : Nat) (s : State) : Prop :=
  keeperDecides s = true ∧ s.mod.power ≠ .nap ∧ max s.pair.highestClaim c < 0xFFFFFFFF

/-- The module is ACTIVE under a claim above every claim it has seen, c among them (R164). -/
abbrev Raised (c : Nat) (s s' : State) : Prop :=
  s'.mod.state = .active ∧ s'.pair.claim = max s.pair.highestClaim c + 1 ∧ s'.pair.highestClaim = s'.pair.claim

/-! ### Requests and their answers -/

/-- The request passes the checks of R321 and no stored response answers it: the Keeper serves, the module is not dormant, the
session is current, access, lifecycle, state, length, flags and arguments are accepted. -/
abbrev Admitted (i : Request) (h : ReqHdr) (code len : Nat) (flaws : List Finding) (s : State) : Prop :=
  keeperServes s = true ∧ s.mod.power ≠ .dormant ∧ mailboxBusy s i h = false ∧ connBusy s h = false ∧
    repeated h (arrived h s) = none ∧ found h code (arrived h s) = none ∧ len ≤ 4064 ∧
    sessionOf (arrived h s) h.src = some h.session ∧ stateRefusal (arrived h s) h code = none ∧
    flagFindings (arrived h s) h code = [] ∧ flaws = []

/-- Sequence, CRC and response of the last request answered on a transport. -/
def lastAnswer (s : State) (src : Source) : Option (Nat × W32 × Response) :=
  match src with
  | .mailbox n => s.keeper.mailboxes[n].stored
  | .net id => (connOf s id).bind fun c => c.stored

/-- The request is answered with this status, journal ID, epoch and payload, by the module in the state of s. -/
abbrev AnsweredAs (h : ReqHdr) (code status journal epoch : Nat) (payload : List Byte) (s s' : State) : Prop :=
  lastAnswer s' h.src = some (h.sequence, h.crc, mkResponse s h code status journal epoch payload)

/-- An immediate answer, with the last mirrored epoch. -/
abbrev Answered (h : ReqHdr) (code status : Nat) (payload : List Byte) (s s' : State) : Prop :=
  AnsweredAs h code status 0 (lastMirrored s) payload s s'

/-- Answered with a status, and nothing beside the Keeper's own part and the drawn values changed. -/
abbrev OnlyAnswersWith (h : ReqHdr) (code status : Nat) (payload : List Byte) (s s' : State) : Prop :=
  Answered h code status payload s s' ∧ s' = { s with keeper := s'.keeper, drawn := s'.drawn }

/-- Answered OK, and nothing beside the Keeper's own part and the drawn values changed. -/
abbrev OnlyAnswers (h : ReqHdr) (code : Nat) (payload : List Byte) (s s' : State) : Prop := OnlyAnswersWith h code stOk payload s s'

/-- A payload holds these bytes at an offset. -/
abbrev Field (p : List Byte) (offset : Nat) (bs : List Byte) : Prop := (p.drop offset).take bs.length = bs

/-- Held responses are for journal IDs already given out, and the journal holds at most 256 entries (R340). -/
abbrev FreshIds (s : State) : Prop :=
  (∀ r ∈ s.keeper.held, r.journal ≤ s.keeper.lastJournal) ∧ s.keeper.journal.length ≤ 256

/-- A class E command is accepted: an entry is made under the next ID and the response waits for the entry's end (R324). -/
abbrev HeldFor (h : ReqHdr) (code : Nat) (s s' : State) : Prop :=
  s'.keeper.lastJournal = s.keeper.lastJournal + 1 ∧
    (∃ r ∈ s'.keeper.held, r.journal = s.keeper.lastJournal + 1 ∧ r.hdr = h ∧ r.command = code) ∧
    ∃ e, jget s' (s.keeper.lastJournal + 1) = some e ∧ e.command = code ∧ e.state = .queued ∧ e.session = h.session ∧ e.sequence = h.sequence

/-- A class L command is accepted: an entry is made under the next ID and ACCEPTED answered at once, with that ID (R324). -/
abbrev Accepted (h : ReqHdr) (code : Nat) (s s' : State) : Prop :=
  s'.keeper.lastJournal = s.keeper.lastJournal + 1 ∧
    AnsweredAs h code stAccepted (s.keeper.lastJournal + 1) (lastMirrored s) [] s s'

/-- The entry of that ID ended so. -/
abbrev EntryEnds (id : Nat) (st : JnlState) (status : Nat) (s' : State) : Prop :=
  ∃ e, jget s' id = some e ∧ e.state = st ∧ e.lastStatus = status

/-! ### Starts -/

/-- The slot that the boot record names passes secure boot, no image is on trial, and no wipe is left to do (R447, R453). -/
abbrev Boots (s : State) : Prop :=
  s.sec.wipeFailed = false ∧ (s.sec.wipePending = false ∨ s.sec.lifecycle = .returned) ∧ s.upd.fallback = none ∧
    s.upd.slots[s.upd.bootSlot].state ≠ .damaged ∧ slotPasses s s.upd.bootSlot = true

/-- No request waits for the Keeper. -/
abbrev NothingWaits (s : State) : Prop := s.deferred = [] ∧ ∀ n : Fin 8, s.keeper.mailboxes[n].dbReq = false

/-- The epoch at which a start resumes: the smallest multiple of 1,048,576 above the stored one (R21). -/
def resumeEpoch (s : State) : Nat := (s.img.stored / 1048576 + 1) * 1048576

/-! ### What holds of every state -/

/-- Every memory of the module is in its canonical form: the unstructured Basin and both halves of each mailbox. -/
def Canonical (s : State) : Prop :=
  Memory.wf dropsZero s.basin.mem = true ∧
    ∀ n : Fin 8, Memory.wf (fun _ => true) s.keeper.mailboxes[n].req = true ∧ Memory.wf (fun _ => true) s.keeper.mailboxes[n].rsp = true

/-- Events at which the epoch may change: epoch steps (R18), what a standby takes from the active (R141, R148, R155), take-overs, which
resume at the last mirrored epoch, starts (R21), and the loss of power. -/
def movesEpoch : Instr → Bool
  | .epochStep .. | .taskEnd .. | .mirrorReceive .. | .catchupReceive .. | .handoverReceive .. | .heartbeatReceive ..
  | .outputBargeReceive .. | .checkWindowExpiry .. | .coldTakeoverReady .. | .proofCheckTimeout .. | .restart .. | .bistGo .. | .refRecovered ..
  | .powerUp .. | .holdupExhausted .. => true
  | _ => false

end Sys2Proof.Machine
end

