-- ==== Sys2Proof/Certificates/Slice0/Obligations.lean ====
section
/-! DEFINITION. The statements for the provers. Each docstring names the rules of the manual it rests on. A value that the
manual leaves open is some value in them, and `drawn` counts the values drawn (notes/assumptions/1.md). -/

open Sys2Proof Sys2Proof.Machine

/-- A step takes the command at the front of the queue and runs it with the queue's rest; on an
empty queue the block idles: the model's own rule, notes/assumptions/4.md. -/
def Obligations.StepTakesTheFrontCommand : Prop :=
  (∀ (c : Instr) (rest : List Instr) (s : State), s.pending = c :: rest → step s = exec c { s with pending := rest }) ∧
    ∀ s : State, s.pending = [] → step s = .next s

/-- R121, R143, R163, R218, R252, R264, R288, R312. The values that the manual gives the module as it leaves the factory, before power. -/
def Obligations.ResetValues : Prop :=
  let s := State.reset
  stateCode s.mod.state = 0x01 ∧ s.keeper.intStat = 0x10 ∧ s.keeper.intMask = 0 ∧ s.keeper.hostBeat = 0 ∧ s.keeper.beatCount = 0 ∧
    s.keeper.sluiceOvf = 0 ∧ (∀ n : Fin 8, s.keeper.mailboxes[n].dbReq = false ∧ s.keeper.mailboxes[n].dbRsp = false) ∧
    (∀ l : LaneId, s.ctl.weave.lanes[l].role = if l = 3 then .spare else .active) ∧
    (∀ sl : Fin 3, s.tow.lanes[sl] = if sl = 2 then .spare else .carrying) ∧ s.pair.claim = 0 ∧ (∀ p : Fin 3, s.sw.ports[p].gates = 0xFF) ∧
    (∀ c : Fin 16, s.field.dio[c].safeApplied = true ∧ s.field.dio[c].yielded = true) ∧
    (∀ c : Fin 8, s.field.aio[c].safeApplied = true ∧ s.field.aio[c].yielded = true) ∧
    (∀ c : Fin 4, s.field.fi[c].level = true ∧ s.field.fo[c].safeApplied = true) ∧ s.settings.committed = [] ∧ s.pending = []

/-- Reset has every memory in its canonical form. -/
def Obligations.ResetMemoryCanonical : Prop :=
  Canonical State.reset

/-- From every state whose memories are canonical, a step leads to such a state. -/
def Obligations.StepsKeepMemoryCanonical : Prop :=
  KeptByStep Canonical

/-- R163, R164, R364. No step lowers the highest claim that the module has seen: neither an event on the network or the tow line, nor a
request, a restart or a loss of power. -/
def Obligations.HighestClaimNeverFalls : Prop :=
  ∀ s s' : State, step s = .next s' → s.pair.highestClaim ≤ s'.pair.highestClaim

/-- R12. Every command completes, in every state: it answers a next state, and leaves the queue of waiting commands as it is. Only the two
accesses of the debug port to words behind the Basin's last one stop (`DebugMemory` says how). The manual gives every command its
effect and never says that one is not taken; that a command without an effect in a state leaves the rest as it is, is the
model's choice (log 63). -/
def Obligations.EveryCommandCompletes : Prop :=
  ∀ (c : Instr) (s : State), (∀ t a n, c = .memRead t .basin a n → a + n ≤ basinSize) →
    (∀ t a bs, c = .memWrite t .basin a bs → a + bs.length ≤ basinSize) → ∃ s', exec c s = .next s' ∧ s'.pending = s.pending

/-- R18, R21. Only the events named in movesEpoch change the epoch: no host request, no lane instruction and no event of a channel, a port or
a clock does. -/
def Obligations.EpochKeptOutsideSteps : Prop :=
  ∀ (c : Instr) (s s' : State), movesEpoch c = false → exec c s = .next s' → s'.img.epoch = s.img.epoch

/-- R59, R60, R61, R94. Every valid word of every lane instruction decodes to that instruction, on the lane that fetched it and with every
field at every value; and what is decoded encodes to the word it came from. -/
def Obligations.LaneWordsRoundTrip : Prop :=
  (∀ (i : Instr) (l : LaneId) (f : WordFields), fieldsOf i = some (l, f) → wordOk f = true →
    encode i = some (packWord f) ∧ decodeWord (instantOf i) l (packWord f) = some i) ∧
  (∀ (t : Nat) (l : LaneId) (w : W64) (i : Instr), decodeWord t l w = some i → encode i = some w ∧ (fieldsOf i).map (·.1) = some l)

/-- R59, R60, R61, R94. Words that the manual writes out in its encoded fragments decode to the instructions they stand for; a word
of zeros is never an instruction, and a field that the layout marks zero must be zero. -/
def Obligations.WordsOfTheManual : Prop :=
  ∀ l : LaneId,
    decodeWord 0 l 0x10001A4000000000 = some (.ld l 0 0x1A40 0) ∧ decodeWord 0 l 0x2000000000000000 = some (.andOpen l 0 0 0) ∧
    decodeWord 0 l 0x14001A4100000000 = some (.or l 0 0x1A41 0) ∧ decodeWord 0 l 0x2300000000000000 = some (.closeBracket l 0 0 0) ∧
    decodeWord 0 l 0x3000009600000412 = some (.ton l 0 150 0x412) ∧ decodeWord 0 l 0x18001A6000000000 = some (.st l 0 0x1A60 0) ∧
    decodeWord 0 l 0x2800000000000413 = some (.ep l 0 0 0x413) ∧ decodeWord 0 l 0x3807A12000000414 = some (.ctu l 0 500000 0x414) ∧
    decodeWord 0 l 0x5390000440800000 = some (.ldw l .i 9 4 0x40800000) ∧ decodeWord 0 l 0x5090320710000000 = some (.ldw l .t 9 0x3207 0x10000000) ∧
    decodeWord 0 l 0xC290000410000000 = some (.scale l 9 4 0x10000000) ∧ decodeWord 0 l 0xBE90000610000000 = some (.limit l 9 6 0x10000000) ∧
    decodeWord 0 l 0x5490320810000000 = some (.stw l .t 9 0x3208 0x10000000) ∧ decodeWord 0 l 0 = none ∧
    decodeWord 0 l 0x2000000000000001 = none ∧ decodeWord 0 l 0xE500000000000000 = some (.tend l 0 0 0)

/-- R7, R319. A response begins with the 32-byte header, little-endian: sequence, command, status, payload length, journal ID, epoch, module
state, zero and the CRC-32C over header and payload with its own field taken as zero; the payload follows. -/
def Obligations.ResponseLayout : Prop :=
  ∀ (s : State) (h : ReqHdr) (code status journal epoch : Nat) (payload : List Byte),
    let r := mkResponse s h code status journal epoch payload
    r.length = 32 + payload.length ∧ r.drop 32 = payload ∧ Field r 0 (le4 h.sequence) ∧ Field r 4 (le2 code) ∧ Field r 6 (le2 status) ∧
      Field r 8 (le4 payload.length) ∧ Field r 12 (le4 journal) ∧ Field r 16 (le8 epoch) ∧ Field r 24 (le2 (stateCode s.mod.state)) ∧
      Field r 26 (le2 0) ∧ Field r 28 (le4 (crc32c (r.take 28 ++ le4 0 ++ payload)).toNat) ∧
      le4 0x11223344 = [0x44#8, 0x33#8, 0x22#8, 0x11#8]

/-- R67, R62, R95. A loading or combining instruction takes its operand x into ACC, or combines it where FC is 0; FC becomes 0. Where
the manual leaves the operand open (a tag that is not declared, a local word outside the frame), x is some value.
R68, R62, R95. ST, STN, SET and RST write their bit to the operand, leave ACC and set FC; SET and RST with ACC = 0 write nothing
and send nothing through the Weave. A TAG is written in the BOOL encoding; of a TAGBIT one bit changes, and the value written
meets the encoding of the tag's type. A local word outside the frame is not written (the model's choice, notes/assumptions/71.md).
R67, R69, R94, R98. NOT negates ACC; NOP does nothing; an opening bracket pushes ACC, FC and its operation and sets FC; the
closing one pops the entry and combines unless the bracket was the first check of its string. A 33rd entry, or a pop of the
empty stack, stops the lane on the instruction. -/
def Obligations.BitLogic : Prop :=
  (∀ r ∈ ([(0x10, .ld, fun _ _ x => x), (0x11, .ldn, fun _ _ x => !x),
          (0x12, .and, fun fc a x => if fc then x else a && x), (0x13, .andn, fun fc a x => if fc then !x else a && !x),
          (0x14, .or, fun fc a x => if fc then x else a || x), (0x15, .orn, fun fc a x => if fc then !x else a || !x),
          (0x16, .xor, fun fc a x => if fc then x else a != x), (0x17, .xorn, fun fc a x => if fc then !x else a != !x)] :
        List (BitVec 8 × (LaneId → BitVec 4 → BitVec 20 → W32 → Instr) × (Bool → Bool → Bool → Bool))),
  ∀ (s : State) (l : LaneId) (m : BitVec 4) (o : BitVec 20) (im : W32) (i : Nat) (e : Exec) (c : LaneCtx),
    Issues s l ⟨r.1, m, o, im⟩ i e c → Unpoisoned s →
    ∃ x, (∀ w, bitOperand (laneView s e c) ⟨r.1, m, o, im⟩ = some w → x = w) ∧
      exec (r.2.1 l m o im) s = .next (putLaneCtx i l { issued c (bitCost m) with acc := r.2.2 c.fc c.acc x, fc := false }
        (drawnIf (bitOperand (laneView s e c) ⟨r.1, m, o, im⟩).isNone s))) ∧
   (∀ r ∈ ([(0x18, .st, fun a => some a), (0x19, .stn, fun a => some (!a)), (0x1A, .set, fun a => if a then some true else none),
          (0x1B, .rst, fun a => if a then some false else none)] :
        List (BitVec 8 × (LaneId → BitVec 4 → BitVec 20 → W32 → Instr) × (Bool → Option Bool))),
  ∀ (s : State) (l : LaneId) (m : BitVec 4) (o : BitVec 20) (im : W32) (i : Nat) (e : Exec) (c : LaneCtx),
    Issues s l ⟨r.1, m, o, im⟩ i e c → Unpoisoned s →
    let done (n : Nat) (c' : LaneCtx) (s' : State) : Prop :=
      exec (r.2.1 l m o im) s = .next (putLaneCtx i l { c' with fullSince := none, pc := c.pc + 1, cycles := c.cycles + n, fc := true } s')
    let old := laneTag (laneView s e c) o.toNat
    (r.2.2 c.acc = none → done 1 c (drawnIf (m.toNat == 1 && old.isNone) s)) ∧
    (∀ b, r.2.2 c.acc = some b → m = 0 → done 1 (posts c [(o.toNat, if b then 1 else 0)]) s) ∧
    (∀ b, r.2.2 c.acc = some b → m = 1 → ∃ v, (∀ w, old = some w → v = w) ∧
      done 4 (posts c [(o.toNat, encodeVal (tagType (laneView s e c) o.toNat) (setBit v (im.toNat % 64) b))]) (drawnIf old.isNone s)) ∧
    (∀ b v, r.2.2 c.acc = some b → m = 2 → laneLocal (laneView s e c) (o.toNat / 64) = some v →
      done 1 (setLocal c (o.toNat / 64) (setBit v (o.toNat % 64) b)) s) ∧
    (m = 2 → laneLocal (laneView s e c) (o.toNat / 64) = none → done 1 c s) ∧
    (∀ b, r.2.2 c.acc = some b → m = 4 →
      done 1 (setReg c (o.toNat % 16) (setBit (regOf c (o.toNat % 16)) (im.toNat % 64) b)) s)) ∧
   (∀ (s : State) (l : LaneId) (m : BitVec 4) (o : BitVec 20) (im : W32) (i : Nat) (e : Exec) (c : LaneCtx), Unpoisoned s →
    let stops (k : Instr) : Prop := exec k s = .next (putLaneCtx i l { issued c 1 with pc := c.pc, stalled := true } s)
    (Issues s l ⟨0x01, m, o, im⟩ i e c → exec (.nop l m o im) s = .next (putLaneCtx i l (issued c 1) s)) ∧
    (Issues s l ⟨0x1C, m, o, im⟩ i e c → exec (.not l m o im) s = .next (putLaneCtx i l { issued c 1 with acc := !c.acc } s)) ∧
    (∀ r ∈ ([(0x20, .andOpen, .and), (0x21, .orOpen, .or), (0x22, .xorOpen, .xor)] :
          List (BitVec 8 × (LaneId → BitVec 4 → BitVec 20 → W32 → Instr) × NestOp)), Issues s l ⟨r.1, m, o, im⟩ i e c →
      (c.nest.length < 32 → exec (r.2.1 l m o im) s =
        .next (putLaneCtx i l { issued c 1 with nest := { acc := c.acc, fc := c.fc, op := r.2.2 } :: c.nest, fc := true } s)) ∧
      (32 ≤ c.nest.length → stops (r.2.1 l m o im))) ∧
    (Issues s l ⟨0x23, m, o, im⟩ i e c →
      (c.nest = [] → stops (.closeBracket l m o im)) ∧
      (∀ n rest, c.nest = n :: rest → exec (.closeBracket l m o im) s =
        .next (putLaneCtx i l { issued c 1 with nest := rest, fc := false, acc := (match n.fc, n.op with
          | true, _ => c.acc
          | false, .and => n.acc && c.acc
          | false, .or => n.acc || c.acc
          | false, .xor => n.acc != c.acc) } s))))

/-- R73, R75, R76. EP gives i ∧ ¬PREV and EN gives ¬i ∧ PREV for the input i in ACC; in the first execution PREV is primed from i,
so neither sees an edge. FC becomes 0, PREV takes i, NEW and RESUME clear, and a changed record is written through the Weave.
R79, R80. LDI copies an instance's VALUE into Wd; BLD, BAND, BOR and BXOR combine Wd with bit 0 of the 64 BOOL tags from the
operand on; BST posts 64 tag writes in ascending order. ACC and FC stay. -/
def Obligations.EdgesAndBlocks : Prop :=
  (∀ (s : State) (l : LaneId) (m : BitVec 4) (o : BitVec 20) (im : W32) (i : Nat) (e : Exec) (c : LaneCtx), Unpoisoned s →
    let first (r : Inst) : Bool := r.isNew || r.lastT == BitVec.ofNat 64 e.tick
    let after (r : Inst) : Inst :=
      { r with isNew := false, resume := false, prev := c.acc, lastT := if r.isNew then BitVec.ofNat 64 e.tick else r.lastT }
    (Issues s l ⟨0x28, m, o, im⟩ i e c →
      let r := laneInst (laneView s e c) im.toNat .ep
      exec (.ep l m o im) s = .next (putLaneCtx i l
        (putInst { issued c 6 with acc := !first r && c.acc && !r.prev, fc := false } im.toNat r (after r)) s)) ∧
    (Issues s l ⟨0x29, m, o, im⟩ i e c →
      let r := laneInst (laneView s e c) im.toNat .en
      exec (.en l m o im) s = .next (putLaneCtx i l
        (putInst { issued c 6 with acc := !first r && !c.acc && r.prev, fc := false } im.toNat r (after r)) s))) ∧
   (∀ (s : State) (l : LaneId) (m : BitVec 4) (o : BitVec 20) (im : W32) (i : Nat) (e : Exec) (c : LaneCtx), Unpoisoned s →
    (Issues s l ⟨0x3F, m, o, im⟩ i e c → exec (.ldi l m o im) s =
      .next (putLaneCtx i l (setReg (issued c 5) (o.toNat % 16) (laneInst (laneView s e c) im.toNat .ep).value) s)) ∧
    (∀ r ∈ ([(0x40, .bld, fun _ p => p), (0x42, .band, fun w p => w && p), (0x43, .bor, fun w p => w || p),
             (0x44, .bxor, fun w p => w != p)] :
          List (BitVec 8 × (LaneId → BitVec 4 → BitVec 20 → W32 → Instr) × (Bool → Bool → Bool))), Issues s l ⟨r.1, m, o, im⟩ i e c →
      ∃ v : W64, (∀ (k : Nat) (t : W64), k < 64 → laneTag (laneView s e c) (o.toNat + k) = some t →
          v.getLsbD k = r.2.2 ((regOf c (im.toNat / 2 ^ 28)).getLsbD k) (t.getLsbD 0)) ∧
        exec (r.2.1 l m o im) s = .next (putLaneCtx i l (setReg (issued c 264) (im.toNat / 2 ^ 28) v)
          (drawnIf ((List.range 64).any fun k => (laneTag (laneView s e c) (o.toNat + k)).isNone) s))) ∧
    (Issues s l ⟨0x41, m, o, im⟩ i e c → exec (.bst l m o im) s =
      .next (putLaneCtx i l (posts (issued c 66) ((List.range 64).map fun k =>
        (o.toNat + k, if (regOf c (im.toNat / 2 ^ 28)).getLsbD k then 1 else 0))) s)))

/-- R74, R77. A timer with preset PT and Δ evaluates its state from the input in ACC; Q goes to ACC, FC becomes 0, and the record
takes the snapshot time, PT and the input, and loses NEW and RESUME.
R73, R78. A counter instruction presents ACC to the input that MOD [3:2] selects: a count on a rising input, saturating at
the ends of INT64, a reset to 0 or a load of PV at once. In the first execution the previous input is primed. ACC takes the
output that MOD [0] selects, FC becomes 0, and the record keeps CV, PV and the previous input. -/
def Obligations.TimersAndCounters : Prop :=
  (∀ (s : State) (l : LaneId) (m : BitVec 4) (o : BitVec 20) (im : W32) (i : Nat) (e : Exec) (c : LaneCtx), Unpoisoned s →
    let x := laneView s e c
    let count := if m.getLsbD 2 then (regOf c (o.toNat % 16)).toNat else o.toNat
    let pt := min (count * if m.getLsbD 3 then 1000 else 1000000) 0x7FFFFFFFFFFFFFFF
    let gives (k : Instr) (r : Inst) (ts : TState) (el : Nat) (q : Bool) : Prop :=
      exec k s = .next (putLaneCtx i l (putInst { issued c 10 with acc := q, fc := false } im.toNat r
        { r with value := BitVec.ofNat 64 el, lastT := BitVec.ofNat 64 e.tick, preset := BitVec.ofNat 64 pt, isNew := false,
                 resume := false, ts := ts, q := q, prev2 := false, prev := c.acc }) s)
    let grown (r : Inst) : Nat := min (r.value.toNat + if r.isNew || r.resume then 0 else e.tick - r.lastT.toNat) pt
    (Issues s l ⟨0x30, m, o, im⟩ i e c →
      let r := laneInst x im.toNat .ton
      let k := Instr.ton l m o im
      (c.acc = false → gives k r .idle 0 false) ∧
      (c.acc = true → r.ts = .idle → gives k r (if pt = 0 then .done else .running) 0 (pt == 0)) ∧
      (c.acc = true → r.ts ≠ .idle → gives k r (if pt ≤ grown r then .done else r.ts) (grown r) (decide (pt ≤ grown r)))) ∧
    (Issues s l ⟨0x31, m, o, im⟩ i e c →
      let r := laneInst x im.toNat .tof
      let k := Instr.tof l m o im
      (c.acc = true → gives k r .idle 0 true) ∧
      (c.acc = false → r.ts = .idle → r.q = true → gives k r (if pt = 0 then .done else .running) 0 (pt != 0)) ∧
      (c.acc = false → r.ts = .idle → r.q = false → gives k r .idle r.value.toNat false) ∧
      (c.acc = false → r.ts = .running → gives k r (if pt ≤ grown r then .done else .running) (grown r) (decide (grown r < pt))) ∧
      (c.acc = false → r.ts = .done → gives k r .done r.value.toNat false)) ∧
    (Issues s l ⟨0x32, m, o, im⟩ i e c →
      let r := laneInst x im.toNat .tp
      let k := Instr.tp l m o im
      (c.acc = true → r.ts = .idle → r.prev = false → r.isNew = false → gives k r (if pt = 0 then .done else .running) 0 (pt != 0)) ∧
      (r.ts = .idle → (c.acc = false ∨ r.prev = true ∨ r.isNew = true) → gives k r .idle r.value.toNat false) ∧
      (r.ts = .running → grown r < pt → gives k r .running (grown r) true) ∧
      (c.acc = true → r.ts = .running → pt ≤ grown r → gives k r .done (grown r) false) ∧
      (c.acc = false → r.ts = .running → pt ≤ grown r → gives k r .idle 0 false) ∧
      (c.acc = true → r.ts = .done → gives k r .done r.value.toNat false) ∧
      (c.acc = false → r.ts = .done → gives k r .idle 0 false))) ∧
   (∀ r ∈ ([(0x38, .ctu, .ctu), (0x39, .ctd, .ctd), (0x3A, .ctud, .ctud)] :
        List (BitVec 8 × (LaneId → BitVec 4 → BitVec 20 → W32 → Instr) × InstKind)),
  ∀ (s : State) (l : LaneId) (m : BitVec 4) (o : BitVec 20) (im : W32) (i : Nat) (e : Exec) (c : LaneCtx),
    Issues s l ⟨r.1, m, o, im⟩ i e c → Unpoisoned s →
    let n := laneInst (laneView s e c) im.toNat r.2.2
    let first := n.isNew || n.lastT == BitVec.ofNat 64 e.tick
    let pv : Int := if m.getLsbD 1 then (regOf c (o.toNat % 16)).toInt else o.toNat
    let cv := n.value.toInt
    let down := max (cv - 1) (-(2 ^ 63))
    let up := min (cv + 1) (2 ^ 63 - 1)
    let gives (cv' : Int) (p p2 : Bool) : Prop :=
      exec (r.2.1 l m o im) s = .next (putLaneCtx i l (putInst
        { issued c 8 with acc := if r.2.2 = .ctd ∨ m.getLsbD 0 = true then decide (cv' ≤ 0) else decide (pv ≤ cv'), fc := false }
        im.toNat n
        { n with value := BitVec.ofInt 64 cv', preset := BitVec.ofInt 64 pv, isNew := false, resume := false, prev := p, prev2 := p2,
                 lastT := if n.isNew then BitVec.ofNat 64 e.tick else n.lastT }) s)
    (m.toNat / 4 = 0 → c.acc = true → first = false → n.prev = false → gives (if r.2.2 = .ctd then down else up) true n.prev2) ∧
    (m.toNat / 4 = 0 → c.acc = false ∨ first = true ∨ n.prev = true → gives cv c.acc n.prev2) ∧
    (m.toNat / 4 = 1 → c.acc = true → first = false → n.prev2 = false → gives down n.prev true) ∧
    (m.toNat / 4 = 1 → c.acc = false ∨ first = true ∨ n.prev2 = true → gives cv n.prev c.acc) ∧
    (m.toNat / 4 = 2 → gives (if c.acc then 0 else cv) n.prev n.prev2) ∧
    (m.toNat / 4 = 3 → gives (if c.acc then pv else cv) n.prev n.prev2))

/-- R82, R95. LDW loads a tag, a local word or the immediate, extended by type; STW writes Wd in its type's encoding to a tag,
through the Weave, or to a local word (outside the frame nothing is written: the model's choice, notes/assumptions/71.md); MOVW copies a register; LDWH replaces the high half. ACC and FC stay.
R83, R95. Integer instructions compute in exact arithmetic on the low bits of their operands, and Wd takes the result wrapped
to the type. DIV truncates toward zero, MOD has the sign of the dividend, and division by zero gives 0 for both. Nothing traps,
and ACC and FC stay. -/
def Obligations.WordMovesAndIntegers : Prop :=
  (∀ (s : State) (l : LaneId) (fm : Form) (m : BitVec 4) (o : BitVec 20) (im : W32) (i : Nat) (e : Exec) (c : LaneCtx), Unpoisoned s →
    let x := laneView s e c
    let ld : WordFields := ⟨formOp 0x50 fm, m, o, im⟩
    let st : WordFields := ⟨formOp 0x54 fm, m, o, im⟩
    (Issues s l ld i e c → ∃ v, (∀ w, wordOperand x fm (modType ld) ld = some w → v = w) ∧
      exec (.ldw l fm m o im) s = .next (putLaneCtx i l (setReg (issued c (formCost fm 1)) (destOf fm ld) v)
        (drawnIf (wordOperand x fm (modType ld) ld).isNone s))) ∧
    (Issues s l st i e c → fm = .t → exec (.stw l fm m o im) s =
      .next (putLaneCtx i l (posts (issued c 1) [(o.toNat, encodeVal (modType st) (regOf c (im.toNat / 2 ^ 28)))]) s)) ∧
    (Issues s l st i e c → fm = .l → (laneLocal x o.toNat).isSome = true → exec (.stw l fm m o im) s =
      .next (putLaneCtx i l (setLocal (issued c 1) o.toNat (encodeVal (modType st) (regOf c (im.toNat / 2 ^ 28)))) s)) ∧
    (Issues s l st i e c → fm = .l → laneLocal x o.toNat = none → exec (.stw l fm m o im) s = .next (putLaneCtx i l (issued c 1) s)) ∧
    (Issues s l ⟨0x5A, m, o, im⟩ i e c → exec (.movw l m o im) s =
      .next (putLaneCtx i l (setReg (issued c 1) (im.toNat / 2 ^ 28) (regOf c (o.toNat % 16))) s)) ∧
    (Issues s l ⟨0x5F, m, o, im⟩ i e c → exec (.ldwh l m o im) s =
      .next (putLaneCtx i l (setReg (issued c 1) (o.toNat % 16) (im ++ (regOf c (o.toNat % 16)).setWidth 32)) s))) ∧
   ((∀ r ∈ ([(0x60, .add, 1, fun a b => a + b), (0x64, .sub, 1, fun a b => a - b), (0x68, .mul, 3, fun a b => a * b),
           (0x6C, .div, 20, fun a b => if b = 0 then 0 else a.tdiv b), (0x70, .mod, 20, fun a b => if b = 0 then 0 else a.tmod b)] :
         List (Nat × (LaneId → Form → BitVec 4 → BitVec 20 → W32 → Instr) × Nat × (Int → Int → Int))),
   ∀ (s : State) (l : LaneId) (fm : Form) (m : BitVec 4) (o : BitVec 20) (im : W32) (i : Nat) (e : Exec) (c : LaneCtx),
     let f : WordFields := ⟨formOp r.1 fm, m, o, im⟩
     Issues s l f i e c → Unpoisoned s →
     ∃ v, (∀ w, wordOperand (laneView s e c) fm (modType f) f = some w → v = w) ∧
       exec (r.2.1 l fm m o im) s = .next (putLaneCtx i l
         (setReg (issued c (formCost fm r.2.2.1)) (destOf fm f)
           (encodeInt (modType f) (r.2.2.2 (intOf (modType f) (regOf c (destOf fm f))) (intOf (modType f) v))))
         (drawnIf (wordOperand (laneView s e c) fm (modType f) f).isNone s))) ∧
  (∀ (s : State) (l : LaneId) (m : BitVec 4) (o : BitVec 20) (im : W32) (i : Nat) (e : Exec) (c : LaneCtx), Unpoisoned s →
    let ty := (typeOf m.toNat).getD .uint64
    let a := intOf ty (regOf c (o.toNat % 16))
    (Issues s l ⟨0x76, m, o, im⟩ i e c → exec (.neg l m o im) s =
      .next (putLaneCtx i l (setReg (issued c 1) (im.toNat / 2 ^ 28) (encodeInt ty (-a))) s)) ∧
    (Issues s l ⟨0x7A, m, o, im⟩ i e c → exec (.abs l m o im) s =
      .next (putLaneCtx i l (setReg (issued c 1) (im.toNat / 2 ^ 28) (encodeInt ty (if a < 0 then -a else a))) s))))

/-- R84, R95. Real instructions apply the operation of the format of MOD to the low bits of their operands and write Wd; ACC and FC
stay and nothing traps.
R85, R95. A comparison combines its truth into ACC as an AND does, opening a string where FC is 1; FC becomes 0. Every comparison
with a NaN but CMPNE is false.
R86, R87. CVT converts Ws to the type of MOD, an integer source saturating at the range of an integer target; LIMIT takes the
upper bound where the bounds are crossed and else clamps; SCALE gives y1 where x2 equals x1. -/
def Obligations.RealsComparisonsConversions : Prop :=
  ((∀ r ∈ ([(0x80, .fadd, 4, fadd), (0x84, .fsub, 4, fsub), (0x88, .fmul, 4, fmul), (0x8C, .fdiv, 16, fdiv)] :
         List (Nat × (LaneId → Form → BitVec 4 → BitVec 20 → W32 → Instr) × Nat × (Fmt → Nat → Nat → Nat))),
   ∀ (s : State) (l : LaneId) (fm : Form) (m : BitVec 4) (o : BitVec 20) (im : W32) (i : Nat) (e : Exec) (c : LaneCtx),
     let f : WordFields := ⟨formOp r.1 fm, m, o, im⟩
     let w := typeWidth (modType f)
     Issues s l f i e c → Unpoisoned s →
     ∃ v, (∀ u, wordOperand (laneView s e c) fm (modType f) f = some u → v = u) ∧
       exec (r.2.1 l fm m o im) s = .next (putLaneCtx i l
         (setReg (issued c (formCost fm r.2.2.1)) (destOf fm f)
           (BitVec.ofNat 64 (r.2.2.2 (fmtOf (modType f)) ((regOf c (destOf fm f)).toNat % 2 ^ w) (v.toNat % 2 ^ w))))
         (drawnIf (wordOperand (laneView s e c) fm (modType f) f).isNone s))) ∧
  (∀ (s : State) (l : LaneId) (m : BitVec 4) (o : BitVec 20) (im : W32) (i : Nat) (e : Exec) (c : LaneCtx),
    let ty := (typeOf m.toNat).getD .uint64
    Issues s l ⟨0x92, m, o, im⟩ i e c → Unpoisoned s → exec (.fsqrt l m o im) s =
      .next (putLaneCtx i l (setReg (issued c 20) (im.toNat / 2 ^ 28)
        (BitVec.ofNat 64 (fsqrt (fmtOf ty) ((regOf c (o.toNat % 16)).toNat % 2 ^ typeWidth ty)))) s))) ∧
   (∀ r ∈ ([(0xA0, .cmpeq, fun q => q == some .eq), (0xA4, .cmpne, fun q => q != some .eq), (0xA8, .cmplt, fun q => q == some .lt),
          (0xAC, .cmple, fun q => q == some .lt || q == some .eq), (0xB0, .cmpgt, fun q => q == some .gt),
          (0xB4, .cmpge, fun q => q == some .gt || q == some .eq)] :
        List (Nat × (LaneId → Form → BitVec 4 → BitVec 20 → W32 → Instr) × (Option Ordering → Bool))),
  ∀ (s : State) (l : LaneId) (fm : Form) (m : BitVec 4) (o : BitVec 20) (im : W32) (i : Nat) (e : Exec) (c : LaneCtx),
    let f : WordFields := ⟨formOp r.1 fm, m, o, im⟩
    Issues s l f i e c → Unpoisoned s →
    ∃ v, (∀ w, wordOperand (laneView s e c) fm (modType f) f = some w → v = w) ∧
      (let q := r.2.2 (compareVals (modType f) (regOf c (destOf fm f)) v)
       exec (r.2.1 l fm m o im) s = .next (putLaneCtx i l
        { issued c (formCost fm 2) with acc := if c.fc then q else c.acc && q, fc := false }
        (drawnIf (wordOperand (laneView s e c) fm (modType f) f).isNone s)))) ∧
   (∀ (s : State) (l : LaneId) (m : BitVec 4) (o : BitVec 20) (im : W32) (i : Nat) (e : Exec) (c : LaneCtx), Unpoisoned s →
    let ty := (typeOf m.toNat).getD .uint64
    let src := (typeOf (im.toNat / 2 ^ 24 % 16)).getD .uint64
    let d := im.toNat / 2 ^ 28
    let a := o.toNat % 16
    (Issues s l ⟨0xBA, m, o, im⟩ i e c → exec (.cvt l m o im) s =
        .next (putLaneCtx i l (setReg (issued c 3) d (convert src ty (regOf c a))) s) ∧
      (isRealType src = false → isRealType ty = false → ty ≠ .bool →
        convert src ty (regOf c a) = encodeInt ty (max (minOf ty) (min (maxOf ty) (intOf src (regOf c a)))))) ∧
    (Issues s l ⟨0xBE, m, o, im⟩ i e c → ∃ v,
      exec (.limit l m o im) s = .next (putLaneCtx i l (setReg (issued c 2) d (encodeVal ty v))
        (drawnIf (limitVal ty (regOf c d) (regOf c a) (regOf c (a + 1))).isNone s)) ∧
      (isRealType ty = true → (realOf ty (regOf c d)).isNan = true → v = regOf c a) ∧
      (∀ dl dh lh, compareVals ty (regOf c d) (regOf c a) = some dl → compareVals ty (regOf c d) (regOf c (a + 1)) = some dh →
        compareVals ty (regOf c a) (regOf c (a + 1)) = some lh →
        v = (if lh = .gt then regOf c (a + 1) else if dl = .lt then regOf c a else if dh = .gt then regOf c (a + 1)
          else regOf c d))) ∧
    (Issues s l ⟨0xC2, m, o, im⟩ i e c → ∃ v,
      exec (.scale l m o im) s = .next (putLaneCtx i l (setReg (issued c 16) d v) s) ∧
      (compareVals ty (regOf c (a + 1)) (regOf c a) = some .eq → v = encodeVal ty (regOf c (a + 2))) ∧
      (compareVals ty (regOf c (a + 1)) (regOf c a) ≠ some .eq →
        v = realOp fadd ty (regOf c (a + 2)) (realOp fdiv ty
          (realOp fmul ty (realOp fsub ty (regOf c d) (regOf c a)) (realOp fsub ty (regOf c (a + 3)) (regOf c (a + 2))))
          (realOp fsub ty (regOf c (a + 1)) (regOf c a))))))

/-- R88, R98. A jump inside the routine goes to its target, JMPC where ACC is 1 and JMPCN where it is 0, both setting FC to 1; CALL
pushes the next index and goes to a routine entry, and RET pops it. A target outside, a 17th call and an empty return stack stop
the lane on the instruction.
R89, R90, R92, R93. TEND posts the lane's end mark and ends the execution on the lane, discarding both stacks; TNOW writes the
snapshot time to Wd; AGREE posts a sample of its source and waits, or on a standby waits without one, and the execution keeps
the instant of its first sample. -/
def Obligations.ControlFlowAndAgreement : Prop :=
  (∀ (s : State) (l : LaneId) (m : BitVec 4) (o : BitVec 20) (im : W32) (i : Nat) (e : Exec) (c : LaneCtx), Unpoisoned s →
    let t := im.toNat
    let inside := t < e.codeLen ∧ routineOf e t = routineOf e c.pc
    let entry := t < e.codeLen ∧ (t = 0 ∨ t ∈ e.routines)
    let gives (k : Instr) (c' : LaneCtx) : Prop := exec k s = .next (putLaneCtx i l c' s)
    let stops (k : Instr) (n : Nat) : Prop := gives k { issued c n with pc := c.pc, stalled := true }
    (Issues s l ⟨0xE0, m, o, im⟩ i e c →
      (inside → gives (.jmp l m o im) { issued c 2 with pc := t }) ∧ (¬ inside → stops (.jmp l m o im) 2)) ∧
    (∀ r ∈ ([(0xE1, .jmpc, true), (0xE2, .jmpcn, false)] :
          List (BitVec 8 × (LaneId → BitVec 4 → BitVec 20 → W32 → Instr) × Bool)), Issues s l ⟨r.1, m, o, im⟩ i e c →
      (c.acc = r.2.2 → inside → gives (r.2.1 l m o im) { issued c 2 with pc := t, fc := true }) ∧
      (c.acc = r.2.2 → ¬ inside → stops (r.2.1 l m o im) 1) ∧
      (c.acc ≠ r.2.2 → gives (r.2.1 l m o im) { issued c 1 with fc := true })) ∧
    (Issues s l ⟨0xE3, m, o, im⟩ i e c →
      (entry → c.ret.length < 16 → gives (.call l m o im) { issued c 3 with pc := t, ret := (c.pc + 1) :: c.ret }) ∧
      (¬ entry ∨ 16 ≤ c.ret.length → stops (.call l m o im) 3)) ∧
    (Issues s l ⟨0xE4, m, o, im⟩ i e c →
      (∀ b rest, c.ret = b :: rest → gives (.ret l m o im) { issued c 3 with pc := b, ret := rest }) ∧
      (c.ret = [] → stops (.ret l m o im) 3))) ∧
   (∀ (t : Nat) (s : State) (l : LaneId) (m : BitVec 4) (o : BitVec 20) (im : W32) (i : Nat) (e : Exec) (c : LaneCtx), Unpoisoned s →
    (Issues s l ⟨0xE5, m, o, im⟩ i e c → exec (.tend l m o im) s = .next (putLaneCtx i l
      { postEntry (issued c 1) .endMark .endMark 0 none with ended := true, nest := [], ret := [] } s)) ∧
    (Issues s l ⟨0xF0, m, o, im⟩ i e c → exec (.tnow l m o im) s =
      .next (putLaneCtx i l (setReg (issued c 1) (im.toNat / 2 ^ 28) (BitVec.ofNat 64 e.tick)) s)) ∧
    (Issues s l ⟨0xF1, m, o, im⟩ i e c → ∃ v, (∀ w, liveSource (atTime t s) ⟨0xF1, m, o, im⟩ = some w → v = w) ∧
      (let asks := !e.shadow || e.held
       let c' := if asks then postEntry (issued c 1) .sample (.source o.toNat) v none else issued c 1
       exec (.agree t l m o im) s = .next (noteSample t l (putLaneCtx i l
        { c' with waiting := some (o.toNat, m, ⟨im.toNat / 2 ^ 28 % 16, Nat.mod_lt _ (by decide)⟩), agrees := c.agrees + 1 }
        (drawnIf (asks && (liveSource (atTime t s) ⟨0xF1, m, o, im⟩).isNone) (atTime t s)))))))

/-- R98, R122. A word that cannot be read, that is not valid or that lies past the end of the code stops the lane where it stands; a
lane whose delay FIFO has no room for the entries of its instruction waits, and keeps since when and for how many.
R30, R48, R63, R75. Whatever a lane executes, it changes nothing but its own context and the mark of a first agreement sample:
no tag, no table, no other lane, no setting, no byte of memory. What it writes waits in its stream for the Weave. -/
def Obligations.LaneStopsAndFrame : Prop :=
  (∀ (s : State) (k : Instr) (l : LaneId) (f : WordFields) (i : Nat) (e : Exec) (c : LaneCtx),
    fieldsOf k = some (l, f) → f.op ≠ 0xF1 → s.ctl.weave.lanes[l].gated = false → s.ctl.weave.lanes[l].debugHalt = false →
    placeFor s l = some i → s.ctl.execs[i]? = some e → e.lanes.find? (canIssue l) = some c →
    (unreadable s l e.task c.pc = true ∨ wordOk f = false ∨ e.codeLen ≤ c.pc →
      exec k s = .next (putLaneCtx i l { c with stalled := true } s)) ∧
    (unreadable s l e.task c.pc = false → wordOk f = true → c.pc < e.codeLen → fifoRoom s l (postsOf f) = false →
      exec k s = .next (putLaneCtx i l { c with fullSince := some ((c.fullSince.map fun x => x.1).getD (nowOf s), postsOf f) } s))) ∧
   (∀ (s s' : State) (k : Instr) (l : LaneId) (f : WordFields), fieldsOf k = some (l, f) → Unpoisoned s → exec k s = .next s' →
    (∃ (u : TimeUnit) (n : Nat) (xs : List Exec), s' = { s with ctl := { s.ctl with execs := xs }, time := u, drawn := n }) ∧
    (∀ (j : Nat) (e : Exec) (e' : Exec), s.ctl.execs[j]? = some e → s'.ctl.execs[j]? = some e' →
      e' = { e with lanes := e'.lanes, agreeSince := e'.agreeSince } ∧
      ∀ (q : Nat) (c c' : LaneCtx), e.lanes[q]? = some c → e'.lanes[q]? = some c' → c.lane ≠ l → c' = c) ∧
    s'.ctl.execs.length = s.ctl.execs.length)

/-- R32, R39. A tick of a task that runs latches one execution: its tick, its base epoch, the landed barge of every node it reads; the
executions already there stay, and nothing outside the execution list, the task's own record and the time changes.
R38, R42, R64, R65, R130, R135. The commit of a latched execution begins with the running program's version, lanes that are
JOINING become ACTIVE and the injection test moves to the next bit of 93; a failed injection test is a fault of the comparators. A
commit or step of a task of higher priority that waits goes first.
When the commit is done the lanes begin at the task's first instruction with ACC 0, FC 1, empty stacks and zero registers,
unless another execution holds them. -/
def Obligations.TicksAndSnapshots : Prop :=
  (∀ (t : Nat) (k : TaskId) (s : State), tickDue (atTime t s) k t = true →
    Leads (.taskTick t k) s fun s' => (∃ e, s'.ctl.execs = s.ctl.execs ++ [e] ∧ e.task = k ∧ e.tick = t ∧ e.phase = .latched ∧
        e.baseEpoch = s.img.epoch ∧ e.lanes = [] ∧ e.landed = [] ∧
        ∀ n x b, n ∈ nodesRead s k → tget n s.net.nodes = some x → x.landing.getLast? = some b → (n, b) ∈ e.slots) ∧
      s'.ctl.tasks[k].lastTick = some t ∧ (∀ j : TaskId, j ≠ k → s'.ctl.tasks[j] = s.ctl.tasks[j]) ∧
      s' = { s with ctl := { s.ctl with execs := s'.ctl.execs, tasks := s'.ctl.tasks }, time := s'.time }) ∧
   ((∀ (t i : Nat) (k : TaskId) (s : State) (e : Exec) (c : TaskCode) (p : Program), commitPlace (atTime t s) k = some i →
    s.ctl.execs[i]? = some e → codeOf s k = some c → s.ctl.running = some p → committing s = false →
    s.ctl.weave.uncompared = false → (∀ l, roleOf s l ≠ .halted) →
    (higherDue t k (atTime t s) = true → exec (.snapshotCommitStart t k true) s = .next (atTime t s)) ∧
    (higherDue t k (atTime t s) = false →
      Leads (.snapshotCommitStart t k true) s fun s' => s'.img = s.img ∧
      s'.ctl.execs[i]? =
        some { e with phase := .committing, version := p.version, codeLen := c.words.length, routines := c.routines, frame := c.frame } ∧
      (∀ l, roleOf s' l = if roleOf s l = .joining then .active else roleOf s l) ∧
      s'.ctl.weave.injectBit = (s.ctl.weave.injectBit + 1) % 93) ∧
    (higherDue t k (atTime t s) = false →
      Leads (.snapshotCommitStart t k false) s fun s' => s'.ctl.weave.comparatorFault = true)) ∧
  (∀ (t i : Nat) (k : TaskId) (s : State) (e : Exec), placeWhere s (fun e => e.task == k && e.phase == .committing) = some i →
    s.ctl.execs[i]? = some e → commitPoisoned (atTime t s) e = false →
    Leads (.snapshotCommitDone t k) s fun s' => s'.ctl.tasks[k].executions = sat32 (s.ctl.tasks[k].executions + 1) ∧
      ∃ e', s'.ctl.execs[i]? = some e' ∧ e'.tick = e.tick ∧ e'.view = (buildView (atTime t s) e).1 ∧
        e'.phase = (if lanesBusy s then .preempted else .running) ∧ e'.lanes.map (fun c => c.lane) = partLanes s ∧
        ∀ c ∈ e'.lanes, c.pc = 0 ∧ c.acc = false ∧ c.fc = true ∧ c.nest = [] ∧ c.ret = [] ∧ c.posted = [] ∧ (∀ r : Fin 16, c.w[r] = 0)))

/-- R49, R50. A task of higher priority takes the lanes from the one that runs, whose execution waits with its lanes' contexts kept,
and is counted once. An execution whose END has been voted ends at that instant, and where another waits the lanes go on
with one.
R382. In DOZE the lanes wake 2 µs before a tick at which a task is due, and an idle lane is gated again while none is due.
In another power state neither event does anything. -/
def Obligations.PreemptionTaskEndAndGating : Prop :=
  ((∀ (t i j : Nat) (k : TaskId) (s : State) (low high : Exec), placeWhere s (fun e => e.phase == .running) = some i →
    placeWhere s (fun e => e.task == k && e.phase == .preempted) = some j → s.ctl.execs[i]? = some low → s.ctl.execs[j]? = some high →
    priorityOf s k < priorityOf s low.task → (low.lanes.any fun c => c.halted.isNone && c.waiting.isSome) = false →
    Leads (.taskPreempt t k) s fun s' =>
      s'.ctl.execs[i]? = some { low with phase := .preempted, preemptions := low.preemptions + 1 } ∧
      s'.ctl.execs[j]? = some { high with phase := .running } ∧
      s'.ctl.tasks[low.task].preemptions = sat32 (s.ctl.tasks[low.task].preemptions + 1) ∧ s'.img = s.img) ∧
  (∀ (t i : Nat) (k : TaskId) (s : State) (e : Exec), placeWhere s (fun e => e.task == k && e.phase == .running && endVoted e) = some i →
    s.ctl.execs[i]? = some e → e.shadow = false → (∀ c ∈ takingPart e, c.stalled = false) →
    Leads (.taskEnd t k) s fun s' => s'.img = s.img ∧ s'.ctl.execs.length = s.ctl.execs.length ∧
      (∃ e', s'.ctl.execs[i]? = some e' ∧ e'.phase = .ended ∧ e'.endAt = some t ∧ e'.landed = e.landed) ∧
      ((s.ctl.execs.any fun x => x.phase == .preempted) = true → lanesBusy s' = true))) ∧
   (∀ (t : Nat) (l : LaneId) (s : State),
    (s.mod.power = .doze → dueSoon s t = true → Leads (.lanePreWake t) s fun s' => (∀ k : LaneId, s'.ctl.weave.lanes[k].gated = false) ∧
      s' = { s with ctl := { s.ctl with weave := { s.ctl.weave with lanes := s'.ctl.weave.lanes } }, time := s'.time }) ∧
    (s.mod.power = .doze → laneIdle s l = true → dueSoon s t = false → Leads (.laneIdleGate t l) s fun s' =>
      s'.ctl.weave.lanes[l].gated = true ∧ (∀ k : LaneId, k ≠ l → s'.ctl.weave.lanes[k] = s.ctl.weave.lanes[k]) ∧ s'.img = s.img) ∧
    (s.mod.power ≠ .doze → exec (.lanePreWake t) s = .next (atTime t s) ∧ exec (.laneIdleGate t l) s = .next (atTime t s)))

/-- R18, R19, R49, R54, R56. The step of an ended execution whose deadline has not passed produces the next epoch and notes its scan
time, and with no host change and no migration waiting it leaves every tag alone that the task neither wrote nor takes as an
input. A commit or step of a task of higher priority that waits goes first. The step of a host change, taken while no task executes, produces the next epoch too. Without an execution to step
nothing happens. -/
def Obligations.EpochStepTaken : Prop :=
  (∀ (t p : Nat) (k : TaskId) (s : State) (e : Exec), s.mod.state = .active → s.tow.handoverSent = none → committing s = false →
    stepPlace t k (atTime t s) = some p → s.ctl.execs[p]? = some e →
    (higherDue t k (atTime t s) = true → exec (.epochStep t (some k)) s = .next (atTime t s)) ∧
    (higherDue t k (atTime t s) = false → Leads (.epochStep t (some k)) s fun s' => s'.img.epoch = s.img.epoch + 1 ∧
      (s.keeper.changes = [] → s.basin.migration = none → s.basin.poison = [] →
        s'.ctl.tasks[k].lastScan = t - e.tick ∧
        ∀ i tag, tget i s.img.tags = some tag → tget i (writtenTags e) = none → (∀ q ∈ inputTags s k, q.1 ≠ i) →
          tget i s'.img.tags = some tag))) ∧
  (∀ (t : Nat) (s : State), stepsAlone s = true → lanesFree s = true → changeWaits s = true →
    Leads (.epochStep t none) s fun s' => s'.img.epoch = s.img.epoch + 1) ∧
  (∀ (t : Nat) (k : TaskId) (s : State), s.mod.state = .active → stepPlace t k (atTime t s) = none →
    exec (.epochStep t (some k)) s = .next (atTime t s))

/-- R56, R57, R159, R201. A deadline miss produces no epoch. An active without a partner in STANDBY stops in STOPPED_FAULT with the
fault TASK_OVERRUN, its executions end, its stages take their safe states and the SAFE broadcast goes out, to be repeated
twice; with such a partner it hands over as well; a standby stops.
R104, R105, R201. A SAFE broadcast is repeated no sooner than 10 µs after the one before it, with the next sequence number. A staging copy that completes
makes the queued exchange STAGED with every carried instance at hand; where the window passes before an exchange point the
exchange ends, and the staged version, the running program and every task stay. -/
def Obligations.DeadlineMissAndSafe : Prop :=
  (∀ (t i : Nat) (k : TaskId) (s : State), missPlace t k s = some i →
    (s.mod.state = .active → s.tow.handoverSent = none → Leads (.deadlineMiss t k) s fun s' => s'.img.epoch = s.img.epoch ∧
      s'.mod.state = .stoppedFault ∧ s'.mod.fault = .taskOverrun ∧ s'.ctl.execs = [] ∧ s'.field.safeToSend = true ∧
      s'.net.safeRepeats = 2 ∧ s'.net.broadcastSeq = s.net.broadcastSeq + 1 ∧
      (partnerStandby s = true → s'.tow.handoverSent = some (nowOf (atTime t s), .selfDeclared))) ∧
    (s.mod.state = .standby → Leads (.deadlineMiss t k) s fun s' => s'.img.epoch = s.img.epoch ∧
      s'.mod.state = .stoppedFault ∧ s'.mod.fault = .taskOverrun ∧ s'.ctl.execs = [] ∧ s'.net = s.net)) ∧
   ((∀ (t : Nat) (s : State), s.net.safeRepeats ≠ 0 → s.tow.switch = none →
    (t < s.net.safeSentAt + 10000 → exec (.safeBargeRepeat t) s = .next (atTime t s)) ∧
    (s.net.safeSentAt + 10000 ≤ t → Leads (.safeBargeRepeat t) s fun s' => s'.net.safeRepeats = s.net.safeRepeats - 1 ∧ s'.net.broadcastSeq = s.net.broadcastSeq + 1 ∧
      s'.pair = s.pair ∧ s'.img = s.img ∧ s'.ctl = s.ctl)) ∧
  (∀ (t : Nat) (s : State) (x : Exchange) (g : Staged), s.ctl.exchange = some x → s.ctl.staged = some g → x.phase = .queued →
    Leads (.stagingCopyComplete t) s fun s' =>
      s'.ctl = { s.ctl with exchange := some { x with phase := .staged, staging := stagingOf s.ctl.insts g.prog, stagedAt := t } } ∧
      s'.img = s.img) ∧
  (∀ (t : Nat) (s : State) (x : Exchange), s.ctl.exchange = some x → x.phase = .staged →
    x.stagedAt + msToNs x.window ≤ t →
    Leads (.exchangeWindowExpiry t) s fun s' => s'.ctl = { s.ctl with exchange := none } ∧ s'.img = s.img ∧
      ∀ c, c ∈ s'.keeper.changes ↔ c ∈ s.keeper.changes ∧ c.journal ≠ x.journal))

/-- R119, R123, R124, R134. What two of three lanes post alike lands, and the third lane, where it differs, goes to HALTED; where no
two lanes agree the module has a lane disagreement. An uncorrectable error of the comparators lands nothing of the vote.
R85, R92, R126, R128. A lane that trails too long behind two others goes to HALTED as late. The lanes leave an AGREE together with
one value: of two samples the lower, of three the one between, NaN above every number; a bit sample goes to ACC, a word to
the register.
R120, R129, R130, R131, R132. A restored lane and a loaded spare become JOINING with the lane's memory built anew, where CODE can be
read; a lane whose restoration takes too long is replaced by a spare, which is loaded, and without a spare is restored again and
stays due. -/
def Obligations.WeaveVotes : Prop :=
  (∀ (t : Nat) (k : TaskId) (s : State) (e : Exec) (a b c : LaneCtx) (x y z : Entry), s.ctl.execs = [e] → e.task = k →
    e.phase = .running → e.uncompared = false → e.lanes = [a, b, c] → a.lane ≠ b.lane → a.lane ≠ c.lane → b.lane ≠ c.lane →
    (∀ q ∈ e.lanes, q.halted = none ∧ q.stalled = false ∧ q.posted.take e.landed.length = e.landed) →
    a.posted[e.landed.length]? = some x → b.posted[e.landed.length]? = some y → c.posted[e.landed.length]? = some z →
    (entriesAgree x y = true → Leads (.weaveVote t k e.landed.length .none) s fun s' => ∃ e', s'.ctl.execs = [e'] ∧
      e'.landed = e.landed ++ [x] ∧ (entriesAgree z x = true → e'.lanes = e.lanes ∧ s'.ctl.weave = s.ctl.weave) ∧
      (entriesAgree z x = false → roleOf s' c.lane = .halted ∧ roleOf s' a.lane = roleOf s a.lane ∧
        roleOf s' b.lane = roleOf s b.lane ∧ e'.lanes.map (fun q => q.halted) = [none, none, some .mismatch])) ∧
    (entriesAgree x y = false → entriesAgree x z = false → entriesAgree y z = false → s.mod.state = .active →
      s.tow.handoverSent = none → partnerStandby s = false →
      Leads (.weaveVote t k e.landed.length .none) s fun s' => s'.mod.state = .stoppedFault ∧ s'.mod.fault = .laneDisagreement ∧
        s'.img.epoch = s.img.epoch) ∧
    Leads (.weaveVote t k e.landed.length .uncorrectable) s fun s' => s'.ctl.weave.comparatorFault = true ∧
      s'.ctl.weave.uncorrectable = true) ∧
   ((∀ (t : Nat) (k : TaskId) (l : LaneId) (s : State) (e : Exec), s.ctl.execs = [e] → e.task = k → e.phase = .running →
    (e.lanes.map fun c => c.lane).Nodup → 3 ≤ (takingPart e).length → trailing s t l e = true →
    Leads (.laneTrailTimeout t k l) s fun s' => roleOf s' l = .halted ∧ s'.ctl.weave.lanes[l].haltCause = some .late ∧
      s'.wear.lanes[l].lates = sat32 (s.wear.lanes[l].lates + 1) ∧ s'.img = s.img) ∧
  (∀ (t : Nat) (k : TaskId) (s : State) (e : Exec) (c : LaneCtx) (rest : List LaneCtx) (source : Nat) (m : BitVec 4) (d : Fin 16),
    s.ctl.execs = [e] → e.task = k → lanesRun e.phase = true → agreeReady e = true → takingPart e = c :: rest →
    c.waiting = some (source, m, d) → e.shadow = false →
    Leads (.agreeValueFormed t k) s fun s' => s'.img = s.img ∧
      (let v := agreeOf ((typeOf m.toNat).getD .bool) (samplesOf e e.agreed.length)
       ∃ e', s'.ctl.execs = [e'] ∧ e'.agreed = e.agreed ++ [(source, v)] ∧ e'.lanes.length = e.lanes.length ∧
        ∀ (j : Nat) (q q' : LaneCtx), e.lanes[j]? = some q → e'.lanes[j]? = some q' → ∀ src d',
          (q.waiting = some (src, 1, d') → q' = { q with waiting := none, acc := v.getLsbD 0, fc := false }) ∧
          (∀ n, n ≠ 1 → q.waiting = some (src, n, d') → q' = { q with waiting := none, w := q.w.set d' v }))) ∧
  (∀ (ty : ValType) (x y z : W64), agreeOf ty [x] = x ∧
    (isRealType ty = false → agreeOf ty [x, y] = (if intOf ty x ≤ intOf ty y then x else y) ∧
      intOf ty (agreeOf ty [x, y, z]) = max (min (intOf ty x) (intOf ty y)) (min (max (intOf ty x) (intOf ty y)) (intOf ty z))) ∧
    (isRealType ty = true → (realOf ty y).isNan = true → (realOf ty x).isNan = false → agreeOf ty [x, y] = x ∧ agreeOf ty [y, x] = x))) ∧
   (∀ (t : Nat) (l : LaneId) (s : State),
    (roleOf s l = .resync → wrongBlocks s l = [] → Leads (.resyncComplete t l) s fun s' => roleOf s' l = .joining ∧ s'.sec.laneMem[l] = [] ∧
      (∀ k : LaneId, k ≠ l → s'.ctl.weave.lanes[k] = s.ctl.weave.lanes[k]) ∧ s'.img = s.img) ∧
    (roleOf s l = .loading → poisonedCode s = [] → Leads (.spareLoadComplete t l) s fun s' => roleOf s' l = .joining ∧ s'.sec.laneMem[l] = [] ∧
      (∀ k : LaneId, k ≠ l → s'.ctl.weave.lanes[k] = s.ctl.weave.lanes[k]) ∧ s'.img = s.img) ∧
    (∀ p, roleOf s l = .resync → wrongBlocks s l ≠ [] → spareLane s = some p → Leads (.resyncComplete t l) s fun s' =>
      roleOf s' l = .spareTest ∧ roleOf s' p = .loading ∧ s'.img = s.img) ∧
    (∀ p, roleOf s l = .resync → spareLane s = some p → Leads (.resyncTimeout t l) s fun s' => roleOf s' l = .spareTest ∧
      roleOf s' p = .loading ∧ s'.ctl.weave.lanes[p].replaces = some l ∧ s'.img = s.img) ∧
    (roleOf s l = .resync → spareLane s = none → Leads (.resyncTimeout t l) s fun s' => roleOf s' l = .resync ∧
      s'.ctl.weave.lanes[l].due = true ∧ s'.img = s.img))

/-- R138, R144, R145, R147, R160. A heartbeat goes out with the sequence of the latest other frame; a module that must not join a
pair reports HELD (the model's choice, log 81). One that is received under the owner's ID makes its sender the partner, ends the
silence and never lowers the highest claim seen; one of another owner, or with a failed CRC, is not taken.
R144, R147. A frame that is not the next in sequence changes nothing but the time where it is an old one, and asks for the missing
ones where it leaves a gap; of a HANDOVER behind the gap its claim, its last completed epoch and its arrival are noted. The copy
that the active begins anew is taken across the gap by a standby, which leaves its role for it. -/
def Obligations.HeartbeatsAndTowFrames : Prop :=
  (∀ (t : Nat) (fr : TowHdr) (hb : Heartbeat) (s : State), s.tow.up = true →
    (Leads (.heartbeatSend t) s fun s' => s' = { s with tow := { s.tow with sent := s'.tow.sent }, time := s'.time } ∧
      ∃ h, s'.tow.sent = s.tow.sent ++ [towFrame (ownerId s) (mirrorFormat s) s.tow.seqOut (.heartbeat h)] ∧
        h.state = (if joinBarred s then 3 else stateCode s.mod.state) ∧ h.suspect = s.pair.suspect ∧ h.claim = s.pair.claim ∧ h.completed = s.img.epoch ∧ h.mirrored = s.img.mirrored) ∧
    (fr.crcOk = true → fr.owner = ownerId s → Leads (.heartbeatReceive t fr hb) s fun s' => s'.pair.partner = some hb ∧
      s'.pair.lastHeartbeat = some t ∧ s'.pair.silence = false ∧ max s.pair.highestClaim (max hb.claim hb.highestClaim) ≤ s'.pair.highestClaim) ∧
    (fr.crcOk = true → fr.owner ≠ ownerId s → Leads (.heartbeatReceive t fr hb) s fun s' => s'.pair.partner = s.pair.partner ∧
      s'.pair.ownerMismatch = true ∧ s'.pair.lastHeartbeat = s.pair.lastHeartbeat ∧ s'.mod = s.mod ∧ s'.img = s.img) ∧
    (fr.crcOk = false → Leads (.heartbeatReceive t fr hb) s fun s' =>
      s' = { s with tow := { s.tow with crcErrors := sat32 (s.tow.crcErrors + 1) }, time := s'.time })) ∧
   (∀ (t : Nat) (fr : TowHdr) (s : State) (k : Instr), s.tow.up = true → fr.crcOk = true → fr.owner = ownerId s → s.pair.paired = true →
    ((∃ m, k = .manifestReceive t fr m) ∨ (∃ a, k = .agreementReceive t fr a) ∨ (∃ r, k = .mirrorReceive t fr r) ∨
      (∃ n, k = .nackReceive t fr n) ∨ (∃ h, k = .handoverReceive t fr h) ∨ (∃ a, k = .handoverAckReceive t fr a) ∨
      (∃ e c, k = .catchupReceive t fr e c)) →
    (fr.sequence ≤ s.tow.seqIn → exec k s = .next (atTime t s)) ∧
    (s.tow.seqIn + 1 < fr.sequence → (s.mod.state = .standby → ∀ e c, k = .catchupReceive t fr e c → beginsCopy c = false) →
      Leads k s fun s' => s'.tow.seqIn = s.tow.seqIn ∧ s'.img = { s.img with observed := s'.img.observed } ∧ s'.ctl = s.ctl ∧
        s'.mod = s.mod ∧ s'.tow.sent = s.tow.sent ++
          [towFrame (ownerId s) (mirrorFormat s) (s.tow.seqOut + 1) (.nack (.resend (s.tow.seqIn + 1)))]) ∧
    (s.tow.seqIn + 1 < fr.sequence → s.mod.state = .standby → ∀ e data ps, k = .catchupReceive t fr e (.code 0 data ps) →
      Leads k s fun s' => s'.tow.seqIn = fr.sequence ∧ s'.mod.state = .ready ∧ s'.ctl.execs = [] ∧
        s'.tow.catchup = some { chunks := [(e, .code 0 data ps)], queued := [] }))

/-- R42, R93, R147, R148, R151, R152. A manifest reaches the shadow execution that has latched its tick, with the active's base epoch;
agreed values join those of their execution; without a manifest in time the execution is held, and without a named barge
it goes on UNMATCHED and the task's full form is asked for. A NACK sends the frames again, or the next record in full form; where
the active no longer holds a frame that is asked for, it sends a new copy.
R141, R150, R154, R155. A standby applies a record whose task it runs no execution of: its epoch becomes the record's, and mirrored.
A module that catches up queues the record; an invalid one is refused. The chunks of a catch-up are kept until END, which
takes the module to STANDBY at the base epoch where their count and CRC are as END names them, or else begins the copy anew. -/
def Obligations.MirrorStream : Prop :=
  (∀ (t : Nat) (fr : TowHdr) (s : State),
    (∀ (m : Manifest) (i : Nat) (e : Exec), NextFrame fr s → s.mod.state = .standby → manifestPlace s m = some i → s.ctl.execs[i]? = some e →
      s.ctl.tasks[m.task].running = true → s.ctl.tasks[m.task].lastTick = some m.tick →
      Leads (.manifestReceive t fr m) s fun s' => s'.ctl.execs[i]? = some { e with manifest := some m, manifestAt := some t, baseEpoch := m.baseEpoch, slots := manifestSlots s m e.slots } ∧
        s'.img = s.img ∧ s'.tow.seqIn = fr.sequence) ∧
    (∀ (a : Agreement) (i : Nat) (e : Exec), NextFrame fr s → s.mod.state = .standby →
      placeWhere s (fun e => e.task == a.task && e.tick == a.tick && e.shadow) = some i → s.ctl.execs[i]? = some e →
      Leads (.agreementReceive t fr a) s fun s' => s'.ctl.execs[i]? = some { e with agreements := e.agreements ++ a.entries } ∧
        s'.img = s.img ∧ s'.tow.seqIn = fr.sequence) ∧
    (∀ (k : TaskId) (e : Exec), s.ctl.execs = [e] → e.task = k → e.phase = .latched → e.shadow = true → e.held = false → e.manifest = none →
      (e.tick + 10000 ≤ t → Leads (.manifestTimeout t k) s fun s' => s'.ctl.execs = [{ e with held := true }] ∧ s'.img = s.img) ∧
      (t < e.tick + 10000 → exec (.manifestTimeout t k) s = .next (atTime t s))) ∧
    (∀ (k : TaskId) (e : Exec) (m : Manifest) (a : Nat), s.ctl.execs = [e] → e.task = k → e.phase = .latched → e.shadow = true →
      e.unmatched = false → e.manifest = some m → e.manifestAt = some a → manifestMatched e m = false → a + 20000 ≤ t →
      Leads (.bargeFetchTimeout t k) s fun s' => s'.ctl.execs = [{ e with unmatched := true }] ∧ s'.ctl.tasks[k].wantFull = true) ∧
    (∀ (k : TaskId), NextFrame fr s → Leads (.nackReceive t fr (.fullForm k)) s fun s' => s'.ctl.tasks[k].sendFull = true ∧ s'.img = s.img) ∧
    (∀ (n : Nat), NextFrame fr s → n ≠ 0 → (framesFrom s n).all (stillHeld s) = true → Leads (.nackReceive t fr (.resend n)) s fun s' =>
      s'.tow.sent = s.tow.sent ++ framesFrom s n ∧ s'.img = s.img) ∧
    (∀ (n : Nat), NextFrame fr s → s.mod.state = .active → n = 0 ∨ (framesFrom s n).all (stillHeld s) = false →
      Leads (.nackReceive t fr (.resend n)) s fun s' => s'.tow.serving = true ∧ s'.pair.catchingUp = true ∧ s'.img = s.img)) ∧
   (∀ (t : Nat) (fr : TowHdr) (s : State), NextFrame fr s →
    (∀ (r : MirrorRecord), fr.invalid = false → r.invalid = false → undefinedEntry r = false →
      (s.mod.state = .standby → s.tow.catchup = none → s.tow.records = [] → s.ctl.execs = [] → lacksVersion s r = false →
        Leads (.mirrorReceive t fr r) s fun s' => s'.img.epoch = r.epoch ∧ s'.img.mirrored = max s.img.mirrored r.epoch ∧
          s'.tow.records = [] ∧ s'.tow.seqIn = fr.sequence) ∧
      (∀ c, s.tow.catchup = some c → Leads (.mirrorReceive t fr r) s fun s' =>
        s'.tow.catchup = some { c with queued := c.queued ++ [r] } ∧ s'.img.epoch = s.img.epoch ∧ s'.img.tags = s.img.tags)) ∧
    (∀ (r : MirrorRecord) (k : TaskId), r.invalid = true → r.task = some k → Leads (.mirrorReceive t fr r) s fun s' =>
      s'.img.epoch = s.img.epoch ∧ s'.img.tags = s.img.tags ∧ ∃ f, s'.tow.sent = s.tow.sent ++ [f] ∧ f.payload = .nack (.fullForm k)) ∧
    (∀ (c : CatchUp) (e first : Nat) (xs : List SlotImage) (ps : List Nat), s.mod.state = .ready → s.tow.catchup = some c →
      Leads (.catchupReceive t fr e (.tagSlots first xs ps)) s fun s' =>
        s'.tow.catchup = some { c with chunks := c.chunks ++ [(e, .tagSlots first xs ps)] } ∧ s'.img = s.img) ∧
    (∀ (c : CatchUp) (e base n crc : Nat), s.mod.state = .ready → s.tow.catchup = some c →
      (n = c.chunks.length → crc = chunksCrc c.chunks → c.queued = [] → Leads (.catchupReceive t fr e (.ending base n crc)) s fun s' =>
        s'.mod.state = .standby ∧ s'.img.epoch = base ∧ s'.img.mirrored = base ∧ s'.tow.catchup = none ∧ s'.ctl.execs = []) ∧
      (n ≠ c.chunks.length ∨ crc ≠ chunksCrc c.chunks → Leads (.catchupReceive t fr e (.ending base n crc)) s fun s' =>
        s'.mod.state = .ready ∧ s'.tow.catchup = some { chunks := [], queued := [] } ∧ s'.img = s.img)))

/-- R146. A serial lane that loses its alignment is lost, traffic goes on degraded, and the trained spare takes over and ends that.
R176, R177. A proof whose checks pass after the first switch goes on, runs its dwell and switches back; passed after the second it
clears SUSPECT, PROOF_FAILED and PROOF_DUE. A check that fails after the first switch makes the partner SUSPECT and gives the role
back: the module that began the proof takes it, its partner hands over. One that fails after the second sets PROOF_FAILED. A
proof falls due by operating hours.
R156, R165, R178. A node that still reports a lower claim three ticks after a CLAIM barge is counted, and so is an active's barge that
never came to compare with. -/
def Obligations.TowLanesProofsAndLag : Prop :=
  (∀ (t : Nat) (sl : Fin 3) (n : Nat) (s : State),
    (s.tow.lanes[sl] = .carrying → Leads (.towLaneLost t sl true n) s fun s' => s'.tow.lanes[sl] = .lost ∧ s'.tow.degraded = true ∧
      s'.keeper.intStat.getLsbD intPair = true ∧ (∀ i : Fin 3, i ≠ sl → s'.tow.lanes[i] = s.tow.lanes[i]) ∧
      s'.wear.tow[sl].alignLosses = sat32 (s.wear.tow[sl].alignLosses + 1)) ∧
    (s.tow.lanes[sl] = .spare → (∃ i : Fin 3, s.tow.lanes[i] = .lost) → Leads (.towSpareLaneJoined t sl) s fun s' =>
      s'.tow.lanes[sl] = .carrying ∧ s'.tow.degraded = false ∧ s'.tow.spareInUse = true ∧
      (∀ i : Fin 3, i ≠ sl → s'.tow.lanes[i] = s.tow.lanes[i])) ∧
    (s.tow.lanes[sl] ≠ .carrying → exec (.towLaneLost t sl true n) s = .next (atTime t s)) ∧
    (s.tow.lanes[sl] ≠ .spare → exec (.towSpareLaneJoined t sl) s = .next (atTime t s))) ∧
   (∀ (t : Nat) (s : State) (p : Proof) (k : ProofChecks), s.tow.proof = some p →
    (p.step = 2 → proofResult s k = 0 → Leads (.proofCheckTimeout t k) s fun s' => s'.tow.proof = some { p with step := 3, since := t } ∧
      s'.pair = s.pair) ∧
    (p.step = 5 → proofResult s k = 0 → Leads (.proofCheckTimeout t k) s fun s' => s'.tow.proof = none ∧
      s'.tow.proofHours = s.path.hours ∧ s'.pair.suspect = false ∧ s'.pair.proofFailed = false ∧ s'.pair.proofDue = false) ∧
    (p.step = 2 → p.origin = true → proofResult s k ≠ 0 → CanRise 0 s → Leads (.proofCheckTimeout t k) s fun s' => s'.tow.proof = none ∧
      s'.pair.partnerSuspect = true ∧ s'.pair.proofFailed = true ∧ Raised 0 s s') ∧
    (p.step = 2 → p.origin = false → proofResult s k ≠ 0 → s.mod.state = .active → Leads (.proofCheckTimeout t k) s fun s' =>
      s'.tow.proof = none ∧ s'.pair.suspect = true ∧ s'.pair.proofFailed = true ∧
        (partnerStandby s = true → s'.tow.handoverSent = some (nowOf (atTime t s), .proof) ∧ s'.ctl.execs = [])) ∧
    (p.step = 5 → p.origin = true → proofResult s k ≠ 0 → Leads (.proofCheckTimeout t k) s fun s' => s'.tow.proof = none ∧
      s'.pair.proofFailed = true ∧ s'.pair.claim = s.pair.claim) ∧
    (∀ period, p.step = 3 → p.origin = false → s.mod.state = .active → fastestPeriod s = some period →
      p.since + p.dwell * period ≤ t → Leads (.proofDwellExpiry t) s fun s' => s'.tow.proof = some { p with step := 4, since := t } ∧
        ∃ w, s'.tow.switch = some w ∧ w.isProof = true ∧ w.phase = .waitPoint) ∧
    (0 < cfg s P.proofDueDays → s.tow.proofHours + 24 * cfg s P.proofDueDays ≤ s.path.hours → Leads (.proofDueExpiry t) s fun s' =>
      s'.pair.proofDue = true)) ∧
   ((∀ (t node c : Nat) (s : State) (n : Node), tget node s.net.nodes = some n → n.claimSentAt = some c →
    s.mod.state = .active → n.session.isSome = true → n.obeyedClaim < s.pair.claim → c + lagWait s ≤ t → Leads (.nodeClaimLagCheck t node) s fun s' =>
      s'.tow.nodeClaimLag = sat32 (s.tow.nodeClaimLag + 1) ∧ tget node s'.net.nodes = some { n with lag := sat32 (n.lag + 1), claimSentAt := none } ∧ s'.pair = s.pair) ∧
  (∀ (t : Nat) (k : TaskId) (node release : Nat) (b : ShadowBarge) (s : State), b ∈ s.tow.shadowBarges → b.task = k → b.node = node →
    b.release = release → release + 100000 ≤ t → Leads (.compareMissingTimeout t k node release) s fun s' =>
      s'.tow.compareMissing = sat32 (s.tow.compareMissing + 1) ∧ s'.tow.mismatches = s.tow.mismatches ∧
      ∀ x, x ∈ s'.tow.shadowBarges ↔ x ∈ s.tow.shadowBarges ∧ ¬ (x.task = k ∧ x.node = node ∧ x.release = release)))

/-- R26, R149, R155, R159, R160, R164. Nothing keeps a standby from taking over: by a HANDOVER, after silence when no barge of the active
came in the check window, or cold; it raises its claim above every claim seen and goes on from the mirrored epoch.
R149, R159, R162, R175. The answer to a HANDOVER ends the former active's role: it gives up its claim and goes to STANDBY after a
planned switch or a proof, to MAINTENANCE after a release, and to STOPPED_FAULT otherwise; without an answer in 50 µs it stops. -/
def Obligations.TakeOvers : Prop :=
  (∀ (t : Nat) (fr : TowHdr) (s : State), s.mod.state = .standby →
    (∀ (h : Handover), NextFrame fr s → CanRise h.claim s → s.tow.records = [] → h.lastCompleted ≤ s.img.epoch → s.pair.cold = none → Leads (.handoverReceive t fr h) s fun s' =>
      Raised h.claim s s' ∧ s'.img.epoch = s.img.mirrored ∧ s'.pair.lastCause = h.cause ∧ s'.tow.handoverSeen = none) ∧
    (CanRise 0 s → s.pair.checkWindow = true → s.pair.silenceStart + 70000 ≤ t → Leads (.checkWindowExpiry t) s fun s' =>
      Raised 0 s s' ∧ s'.img.epoch = s.img.mirrored ∧ s'.pair.lastCause = .towSilence) ∧
    (∀ c m nb, s.pair.cold = some (c, m, nb) → CanRise 0 s → Leads (.coldTakeoverReady t) s fun s' =>
      Raised 0 s s' ∧ s'.img.epoch = s.img.mirrored ∧ s'.pair.cold = none) ∧
    (keeperDecides s = false → s.pair.checkWindow = true → Leads (.checkWindowExpiry t) s fun s' => s'.mod = s.mod ∧ s'.pair = s.pair)) ∧
   (∀ (t t0 : Nat) (fr : TowHdr) (a : HandoverAck) (c : SwitchCause) (s : State), s.tow.handoverSent = some (t0, c) → s.tow.switch = none →
    (NextFrame fr s → Leads (.handoverAckReceive t fr a) s fun s' => s'.tow.handoverSent = none ∧ s'.pair.claim = 0 ∧
      s'.pair.highestClaim = max s.pair.highestClaim a.newClaim ∧ s'.mod.state = (match c with
        | .planned | .proof => .standby
        | .release => .maintenance
        | _ => .stoppedFault)) ∧
    (t0 + 50000 ≤ t → Leads (.handoverAckTimeout t) s fun s' => s'.tow.handoverSent = none ∧ s'.mod.state = .stoppedFault ∧
      s'.ctl.execs = [] ∧ s'.pair.claim = s.pair.claim) ∧
    (t < t0 + 50000 → exec (.handoverAckTimeout t) s = .next (atTime t s)))

/-- R160, R165, R185, R186. Thirty microseconds without a valid heartbeat are silence, counted from the last one; the pair is then no
pair, and a standby opens its check window. During silence the active sends STATUS barges, in a tie with its serial number,
a module in READY sends them in a stream of its own under claim zero, and the active refreshes its claim by broadcasts.
R34, R139, R140, R164. An offer that no partner answers takes the module to ACTIVE under a raised claim, its tasks' start waiting for
the next step, from READY and from STOPPED_FAULT; with no claim left it fails. The wait for a partner ends when nothing of one was heard. -/
def Obligations.SilenceOffersAndStatus : Prop :=
  (∀ (t : Nat) (s : State),
    (∀ l, s.pair.lastHeartbeat = some l → s.pair.silence = false → l + 30000 ≤ t → Leads (.towLineSilence t) s fun s' =>
      s'.pair.silence = true ∧ s'.pair.silenceStart = l ∧ s'.pair.paired = false ∧ (s'.pair.checkWindow = true ↔ s.mod.state = .standby) ∧
      s'.pair.claim = s.pair.claim ∧ s'.img = s.img ∧ s'.mod = s.mod) ∧
    (s.mod.state = .active → s.pair.claim ≠ 0 → s.pair.silence = true → s.tow.handoverSent = none → Leads (.statusBargeSend t) s fun s' =>
      s'.net.statusSeq = s.net.statusSeq + 1 ∧ s'.sw.ports[0].queue.length = s.sw.ports[0].queue.length + 1 ∧
      s'.sw.ports[1].queue.length = s.sw.ports[1].queue.length + 1 ∧ s'.pair = s.pair ∧ s'.img = s.img) ∧
    (s.mod.state = .ready → s.pair.towLineLost = true → logicAwake s = true → Leads (.statusBargeSend t) s fun s' =>
      s'.net.statusZeroSeq = s.net.statusZeroSeq + 1 ∧ s'.net.statusSeq = s.net.statusSeq ∧ s'.pair = s.pair ∧ s'.img = s.img) ∧
    (s.mod.state = .active → s.pair.claim ≠ 0 → s.pair.tie = true → Leads (.claimTieStatusSend t) s fun s' =>
      s'.net.statusSeq = s.net.statusSeq + 1 ∧ s'.pair = s.pair ∧ s'.img = s.img) ∧
    (s.mod.state = .active → s.pair.claim ≠ 0 → s.tow.handoverSent = none →
      (∀ c, s.net.claimSentAt = some c → c + msToNs (cfg s P.claimRefresh) ≤ t) → Leads (.claimRefresh t) s fun s' =>
      s'.net.broadcastSeq = s.net.broadcastSeq + 1 ∧ s'.net.claimSentAt = some (nowOf (atTime t s)) ∧ s'.pair = s.pair ∧ s'.img = s.img)) ∧
   (∀ (t : Nat) (s : State),
    (∀ j, s.pair.offer = some j → s.mod.state = .ready ∨ s.mod.state = .stoppedFault → s.pair.offerAt + 30000 ≤ t → keeperDecides s = true →
      (s.pair.highestClaim < 0xFFFFFFFF → Leads (.offerTimeout t) s fun s' => Raised 0 s s' ∧ s'.pair.offer = none ∧
        s'.img.epoch = s.img.epoch ∧ ∃ c, s'.keeper.changes = s.keeper.changes ++ [c] ∧ c.journal = j) ∧
      (0xFFFFFFFF ≤ s.pair.highestClaim → Leads (.offerTimeout t) s fun s' => s'.mod = s.mod ∧ s'.pair.claim = s.pair.claim ∧
        s'.pair.offer = none)) ∧
    (∀ r, s.pair.releasedAt = some r → r + msToNs (cfg s P.joinWait) ≤ t → s.pair.heardHeartbeat = false → s.pair.heardBarge = false →
      Leads (.pairJoinWaitExpiry t) s fun s' => s' = { s with pair := { s.pair with joinWaitOver := true }, time := s'.time }))

/-- R162, R175, R176. A switch waits for a point at which no task executes, then for the module's barges to leave, and then hands over;
a task that has begun in the meantime sends it back to wait, a lost partner or a second without a point ends it; only the switch
back of a proof, which no command asked for here, waits on (the model's choice, log 20). -/
def Obligations.PlannedSwitch : Prop :=
  ∀ (t : Nat) (s : State) (w : Switch), s.tow.switch = some w → s.mod.state = .active → s.tow.handoverSent = none →
    (w.phase = .waitPoint → lanesFree s = true → Leads (.switchPointReached t) s fun s' =>
      s' = { s with tow := { s.tow with switch := some { w with phase := .waitDrain } }, time := s'.time }) ∧
    (w.phase = .waitDrain → ownQueued s = false → lanesFree s = true → partnerStandby s = true →
      Leads (.switchQueueDrained t) s fun s' => s'.tow.switch = some { w with phase := .handing } ∧ s'.ctl.execs = [] ∧
        s'.tow.handoverSent = some (nowOf (atTime t s), if w.isProof then .proof else if w.isRelease then .release else .planned) ∧
        s'.mod.state = .active ∧ s'.pair.claim = s.pair.claim) ∧
    (w.phase = .waitDrain → ownQueued s = false → lanesFree s = false → Leads (.switchQueueDrained t) s fun s' =>
      s' = { s with tow := { s.tow with switch := some { w with phase := .waitPoint } }, time := s'.time }) ∧
    (w.phase = .waitDrain → ownQueued s = false → lanesFree s = true → partnerStandby s = false →
      Leads (.switchQueueDrained t) s fun s' => s'.tow.switch = none ∧ s'.tow.handoverSent = none ∧ s'.mod.state = .active) ∧
    (w.phase ≠ .handing → w.requestedAt + 1000000000 ≤ t → w.isProof = true → w.journal = 0 → Leads (.switchPointTimeout t) s fun s' =>
      s' = { s with tow := { s.tow with switch := some { w with requestedAt := t } }, time := s'.time }) ∧
    (w.phase ≠ .handing → w.requestedAt + 1000000000 ≤ t → w.isProof = false ∨ w.journal ≠ 0 → Leads (.switchPointTimeout t) s fun s' => s'.tow.switch = none ∧
      s'.mod.state = .active ∧ s'.pair.claim = s.pair.claim)

/-- R39, R188, R189, R199, R202. A barge of a node that passes every check lands as the newest of at most four buffers of that node's
slot, takes one token, and its session and sequence are the ones to beat; one that fails a check is counted by its reason and
changes nothing else, and one beyond the engine's capacity is counted at the port. Buckets are refilled one token at a time up to their size.
R160, R164, R167, R168, R188, R208. A barge of the owner's other module is remembered as the last of its stream and shows on P1 and P2
that the module exists; one that counts for claims raises the highest claim seen there, a CLAIM barge announces a key-epoch
switch, and an active that sees a higher claim than its own is superseded: it goes to READY without a claim and without
executions. The module's own barges, source address zero, change nothing. -/
def Obligations.BargesReceived : Prop :=
  ((∀ (t : Nat) (p : Fin 3) (source : Nat) (bytes : List Byte) (s : State) (b : Barge), logicAwake s = true → parseBarge bytes = .ok b →
    b.kind = .input →
    (∀ n, engineTaken (atTime t s) = false → judgeInput (atTime t s) b = none → tget b.node s.net.nodes = some n → Leads (.inputBargeReceive t p source bytes) s fun s' =>
      ∃ n', tget b.node s'.net.nodes = some n' ∧ n'.landing.getLast? = some (landed t b bytes (freeBuffer n.landing)) ∧
        n'.landing.length = min 4 (n.landing.length + 1) ∧ n'.session = some b.epochLow ∧ n'.lastSeq = b.sequence ∧
        n'.obeyedClaim = b.obeyed ∧ n'.tokens = n.tokens - 1 ∧ n'.accepted = sat32 (n.accepted + 1) ∧
        ∀ q m, q ≠ b.node → tget q s.net.nodes = some m → ∃ m', tget q s'.net.nodes = some m' ∧ m'.landing = m.landing) ∧
    (∀ d, engineTaken (atTime t s) = false → judgeInput (atTime t s) b = some d → Leads (.inputBargeReceive t p source bytes) s fun s' =>
      s'.net.counts[p] = bumpDiscard d s.net.counts[p] ∧ s'.pair = s.pair ∧ s'.img = s.img ∧
      ∀ q m, tget q s.net.nodes = some m → ∃ m', tget q s'.net.nodes = some m' ∧ m'.landing = m.landing ∧ m'.lastSeq = m.lastSeq ∧
        m'.tokens = m.tokens) ∧
    (engineTaken (atTime t s) = true → Leads (.inputBargeReceive t p source bytes) s fun s' =>
      s'.net = { s.net with engineFull := sat32 (s.net.engineFull + 1) } ∧ s'.pair = s.pair ∧ s'.img = s.img)) ∧
  (∀ (t node : Nat) (s : State) (n : Node), tget node s.net.nodes = some n → Leads (.tokenBucketRefill t node) s fun s' =>
    tget node s'.net.nodes = some { n with tokens := min (fullBucket (nodeRateOf s node)) (n.tokens + 1) } ∧ s'.pair = s.pair)) ∧
   (∀ (t : Nat) (p : Fin 3) (source : Nat) (bytes : List Byte) (s : State) (b : Barge) (k : Instr), logicAwake s = true →
    parseBarge bytes = .ok b → judgeOther (atTime t s) b = none →
    (b.kind = .output ∧ k = .outputBargeReceive t p source bytes ∨ b.kind = .safe ∧ k = .safeBargeReceive t p source bytes ∨
      b.kind = .claim ∧ k = .claimBargeReceive t p source bytes) →
    (source = 0 → exec k s = .next (atTime t s)) ∧
    (source ≠ 0 → s.mod.state = .ready → Leads k s fun s' => lastInStream s' b = b.sequence ∧ (p ≠ 2 → s'.pair.heardBarge = true) ∧
      s'.mod.state = .ready ∧
      (p ≠ 2 → countsForClaims (atTime t s) b = true → s'.pair.highestClaim = max s.pair.highestClaim b.claim) ∧
      (p = 2 ∨ countsForClaims (atTime t s) b = false → s'.pair.highestClaim = s.pair.highestClaim) ∧
      (b.kind = .claim → countsForClaims (atTime t s) b = true → s.net.auth.switchAt = 0 → s'.net.auth.switchAt = b.release)) ∧
    (source ≠ 0 → s.mod.state = .active → s.pair.claim ≠ 0 → s.pair.claim < b.claim → countsForClaims (atTime t s) b = true → Leads k s fun s' =>
      s'.mod.state = .ready ∧ s'.pair.claim = 0 ∧ s'.pair.supersededFlag = true ∧ s'.pair.lastCause = .superseded ∧
      s'.pair.highestClaim = (if p = 2 then s.pair.highestClaim else max s.pair.highestClaim b.claim) ∧ s'.ctl.execs = []))

/-- R160, R161, R208, R209. A STATUS barge is remembered in its stream, and one of the partner under claim zero that is newer than the
silence ends an active's wait for a mirror. At its instant a scheduled switch takes the pair to the next key epoch, the old one
accepted for the overlap; the last epoch is never used. -/
def Obligations.StatusBargesAndKeyEpochs : Prop :=
  ∀ (t : Nat) (s : State),
    (∀ (p : Fin 3) (source : Nat) (bytes : List Byte) (b : Barge) (h : Heartbeat), logicAwake s = true → source ≠ 0 →
      parseBarge bytes = .ok b → b.kind = .status → judgeOther (atTime t s) b = none → countsForClaims (atTime t s) b = true →
      s.mod.state = .active → s.pair.silence = true → b.claim = 0 → s.pair.claim ≠ 0 → s.pair.partner = some h → b.node = h.node →
      s.pair.silenceStart < b.release → Leads (.statusBargeReceive t p source bytes) s fun s' => lastInStream s' b = b.sequence ∧
        s'.pair.mirrorAlone = true ∧ s'.mod.state = .active ∧ s'.pair.claim = s.pair.claim) ∧
    (s.net.auth.switchAt ≠ 0 → s.net.auth.switchAt ≤ t → s.net.auth.keyEpoch + 1 < 0xFFFFFFFF → Leads (.keyEpochSwitch t) s fun s' =>
      s'.net.auth.keyEpoch = s.net.auth.keyEpoch + 1 ∧ s'.net.auth.switchAt = 0 ∧
      s'.net.auth.overlapUntil = some (s.net.auth.switchAt + msToNs (cfg s P.keyOverlap))) ∧
    (s.net.auth.switchAt ≠ 0 → s.net.auth.switchAt ≤ t → 0xFFFFFFFF ≤ s.net.auth.keyEpoch + 1 → Leads (.keyEpochSwitch t) s fun s' =>
      s'.net.auth.keyEpoch = s.net.auth.keyEpoch ∧ s'.net.auth.switchAt = 0 ∧ s'.net.auth.switchRefused = true) ∧
    (∀ u, s.net.auth.overlapUntil = some u → u ≤ t → Leads (.keyOverlapExpiry t) s fun s' => s'.net.auth.overlapUntil = none ∧
      s'.net.auth.closed = true ∧ s'.net.auth.keyEpoch = s.net.auth.keyEpoch)

/-- R212, R213, R214, R216, R217, R228, R229, R230. A good multicast frame is counted, its sender learned, and stored for every other port
that is up and not blocked by the ring; one with a failed check sum is counted and goes nowhere. A frame that starts leaves the
queue for the wire, with its correction; an event message of the module is then stamped into the port's queue of 16, and a
further stamp is lost and marks the queue. A frame that fits no open interval of its class is discarded after a whole cycle.
R211, R214, R215, R218, R220. Gates follow the entry in force; a committed list takes over at its instant and not before; an address
not seen for 300 s is forgotten and no other; a link is up only at its configured speed, and not against the optical sideband; a
ring manager blocks one ring port while the ring is closed, a client the one that the event names (the model's choice, log 87). -/
def Obligations.PortsAndGates : Prop :=
  (∀ (t : Nat) (p : Fin 3) (s : State), logicAwake s = true → s.sw.ports[p].linkUp = true →
    (∀ (f : PortFrame), f.length ≤ 9022 → 64 ≤ f.length → f.doubleTagged = false → cfgFlag s P.cutThrough = false →
      (f.fcsOk = true → f.multicast = true → ptpEnds s p f = false → s.sw.ports[p].mrpBlocked = false → s.sw.learned.length < 4096 →
        Leads (.portFrameReceive t p f) s fun s' => s'.sw.ports[p].framesIn = sat32 (s.sw.ports[p].framesIn + 1) ∧
          (f.src, vlanOf f, p, t) ∈ s'.sw.learned ∧ s'.sw.ports[p].queue = s.sw.ports[p].queue ∧
          ∀ q : Fin 3, q ≠ p → s'.sw.ports[q].queue = s.sw.ports[q].queue ++
            (if s.sw.ports[q].linkUp && !s.sw.ports[q].mrpBlocked then [queued s t p f] else [])) ∧
      (f.fcsOk = false → Leads (.portFrameReceive t p f) s fun s' => s'.sw.ports[p].fcsErrors = sat32 (s.sw.ports[p].fcsErrors + 1) ∧
        s'.sw.learned = s.sw.learned ∧ s'.sw.delivered = s.sw.delivered ∧ ∀ q : Fin 3, s'.sw.ports[q].queue = s.sw.ports[q].queue)) ∧
    (∀ (i : Nat) (q : QueuedFrame), nextFrame s t p = some i → s.sw.ports[p].queue[i]? = some q → s.sw.ports[p].busyUntil ≤ t →
      (Leads (.frameTransmitStart t p) s fun s' => s'.sw.ports[p].sent = s.sw.ports[p].sent ++ [{ q with frame := corrected s t p q }] ∧
        s'.sw.ports[p].queue = s.sw.ports[p].queue.eraseIdx i ∧ s'.sw.ports[p].framesOut = sat32 (s.sw.ports[p].framesOut + 1) ∧
        s'.sw.ports[p].busyUntil = t + sendTime s p q.frame.length ∧ ∀ o : Fin 3, o ≠ p → s'.sw.ports[o] = s.sw.ports[o]) ∧
      (∀ m, q.frame.body = .ptp m → isEvent m = true → q.ingress = none →
        (s.sw.ports[p].txts.length < 16 → Leads (.frameTransmitStart t p) s fun s' => ∃ x, s'.sw.ports[p].txts = s.sw.ports[p].txts ++ [x] ∧
          x.msgType = m.type ∧ x.sequenceId = m.sequenceId ∧ x.takenAt = t + txLatency s p ∧ x.stamp = BitVec.ofNat 32 x.takenAt) ∧
        (16 ≤ s.sw.ports[p].txts.length → Leads (.frameTransmitStart t p) s fun s' => s'.sw.ports[p].txts = s.sw.ports[p].txts ∧
          s'.sw.ports[p].txtsOvf = true))) ∧
    (∀ (i : Nat), p ≠ 2 → s.sw.ports[p].queue.findIdx? (tooLong s t p) = some i → Leads (.gateTooShortDiscard t p) s fun s' =>
      s'.sw.ports[p].queue = s.sw.ports[p].queue.eraseIdx i ∧ s'.sw.ports[p].gateTooShort = sat32 (s.sw.ports[p].gateTooShort + 1) ∧
      s'.sw.ports[p].sent = s.sw.ports[p].sent)) ∧
   (∀ (t : Nat) (p : Fin 3) (s : State),
    (logicAwake s = true → Leads (.gclEntryChange t p) s fun s' => s'.sw.ports[p].gates = (entryAt s.sw.ports[p].gcl t).2 ∧
      s'.sw.ports[p].gclIndex = (entryAt s.sw.ports[p].gcl t).1 ∧ s'.sw.ports[p].gcl = s.sw.ports[p].gcl ∧
      s'.sw.ports[p].queue = s.sw.ports[p].queue) ∧
    (∀ g a, s.sw.ports[p].nextGcl = some (g, a) → logicAwake s = true →
      (a ≤ t → Leads (.gclSwitch t p) s fun s' => s'.sw.ports[p].gcl = g ∧ s'.sw.ports[p].nextGcl = none ∧
        s'.sw.ports[p].gclSince = a ∧ s'.sw.ports[p].gates = (entryAt g t).2) ∧
      (t < a → exec (.gclSwitch t p) s = .next (atTime t s))) ∧
    (∀ a, Leads (.addressAgeing t a) s fun s' => ∀ x, x ∈ s'.sw.learned ↔ x ∈ s.sw.learned ∧ (x.1 ≠ a ∨ t < x.2.2.2 + 300000000000)) ∧
    (∀ up sideband speed, Leads (.linkStateChange t p up sideband speed) s fun s' =>
      (s'.sw.ports[p].linkUp = true ↔ up = true ∧ ¬ (sideband = true ∧ readsSideband s p = true) ∧ speed = cfg s (P.portSpeed (p.val + 1))) ∧
      ∀ o : Fin 3, o ≠ p → s'.sw.ports[o] = s.sw.ports[o]) ∧
    (∀ closed b, cfg s P.mrpRole ≠ 0 → Leads (.mrpRingEvent t closed b) s fun s' => s'.sw.ringClosed = closed ∧
      (∀ o : Fin 3, o ≠ 2 → (s'.sw.ports[o].mrpBlocked = true ↔
        if cfg s P.mrpRole = 2 then closed = true ∧ (o = 0 ↔ b = some 0) else b = some o)) ∧
      (∀ x ∈ s'.sw.learned, x ∈ s.sw.learned) ∧ ∀ x ∈ s.sw.learned, x.2.2.1 = 2 → x ∈ s'.sw.learned))

/-- R213, R221, R226, R227, R229, R236, R237. COUNT wraps into ERA. A Sync waits untagged in TC7 behind its Announce, a request for a delay
in TC7; served, a Sync's stamp sends its Follow_Up with the stamp's time; a stamp two seconds old is discarded and counted. An
edge on a capture unit is stamped by its selection. That an Announce goes with each Sync is the model's choice (log 86).
R222, R223, R225, R226. A Follow_Up of the selected master's last Sync gives the offset less the path delay, the answer to the module's
own request the mean of both ways; without a Sync for three intervals LOCKED becomes HOLDOVER, and sixty seconds later
GRANDMASTER where the module is selected. A pulse or a whole second applies a committed TAI second, which while a task of the pair
runs steps nothing (that it then waits is the model's choice, log 88). -/
def Obligations.TimeAndServo : Prop :=
  (∀ (t : Nat) (p : Fin 3) (s : State),
    (Leads .countWrap s fun s' => s' = { s with time := { s.time with count := 0, era := s.time.era + 1 } }) ∧
    (s.keeper.running = true → masterOn s p = true → t < s.sw.ports[p].busyUntil → Leads (.ptpSyncSend t p) s fun s' =>
      s'.time.ptpSeq = (s.time.ptpSeq + 1) % 65536 ∧ ∃ a q x y, s'.sw.ports[p].queue = s.sw.ports[p].queue ++ [a, q] ∧
        a.cls = 7 ∧ a.frame.vlan = none ∧ a.frame.body = .ptp x ∧ x.type = 11 ∧ x.announce = some (announced s) ∧
        q.cls = 7 ∧ q.frame.vlan = none ∧ q.frame.body = .ptp y ∧ y.type = 0 ∧ y.sequenceId = s'.time.ptpSeq) ∧
    (s.keeper.running = true → ptpOn s p = true → t < s.sw.ports[p].busyUntil → peerDelay s = true ∨ s.time.masterPort = some p →
      Leads (.ptpDelayReqSend t p) s fun s' => s'.time.ptpSeq = (s.time.ptpSeq + 1) % 65536 ∧
        ∃ q x, s'.sw.ports[p].queue = s.sw.ports[p].queue ++ [q] ∧ q.cls = 7 ∧ q.frame.vlan = none ∧ q.frame.body = .ptp x ∧
          x.type = (if peerDelay s then 2 else 1) ∧ x.sequenceId = s'.time.ptpSeq) ∧
    (∀ x, s.keeper.running = true → s.sw.ports[p].txts = [x] → t < x.waitsFrom + 2000000000 → x.msgType = 0 →
      Leads (.txtsQueueService t p) s fun s' => s'.sw.ports[p].txts = [] ∧ s'.time.tsExpired = s.time.tsExpired ∧
        ∃ q y, s'.sw.ports[p].queue = s.sw.ports[p].queue ++ [q] ∧ q.cls = 7 ∧ q.frame.body = .ptp y ∧ y.type = 8 ∧
          y.sequenceId = x.sequenceId ∧ (relaying s = false → y.stamp = extendAt x.takenAt x.stamp)) ∧
    (Leads (.timestampExpiry t p) s fun s' => (∀ x, x ∈ s'.sw.ports[p].txts ↔ x ∈ s.sw.ports[p].txts ∧ t < x.waitsFrom + 2000000000) ∧
      s'.time.tsExpired = min (s.time.tsExpired + (s.sw.ports[p].txts.length - s'.sw.ports[p].txts.length)) 0xFFFF) ∧
    (∀ (n : Fin 4) (rising : Bool), Leads (.fiCaptureEdge t n rising) s fun s' => s'.field.fi[n].level = rising ∧
      (cfg s (P.fiCaptureEdge n.val) = 0 → s'.time.captures = s.time.captures) ∧
      (cfg s (P.fiCaptureEdge n.val) = 3 → s'.time.captures[n].count = s.time.captures[n].count + 1 ∧
        s'.time.captures[n].stamp = BitVec.ofNat 32 (t - cfg s (P.fiDelay n.val)) ∧ s'.time.captures[n].rising = rising))) ∧
   (∀ (t : Nat) (p : Fin 3) (s : State),
    (∀ id rx origin c, ptpOn s p = true → s.keeper.running = true → slaveOn s p = true → s.time.syncRx = some (id, rx) →
      s.time.servo = .locked → Leads (.ptpMessageReceive t p (cfg s P.ptpDomain) (.followUp id origin c)) s fun s' =>
        s'.time.offset = (rx : Int) - origin - c - delayToMaster s p ∧ s'.time.masterToSlave = (rx : Int) - origin - c ∧
        (s'.time.servo = .acquiring ↔ 1000 < ((rx : Int) - origin - c - delayToMaster s p).natAbs)) ∧
    (∀ id tx received c, ptpOn s p = true → s.keeper.running = true → s.time.delayTx[p] = some (id, tx) →
      Leads (.ptpMessageReceive t p (cfg s P.ptpDomain) (.delayResp id received c)) s fun s' =>
        s'.time.pathDelay = (s.time.masterToSlave + ((received : Int) - tx - c)) / 2 ∧ s'.time.delayTx[p] = none ∧
        s'.time.servo = s.time.servo) ∧
    (∀ domain m, domain ≠ cfg s P.ptpDomain → exec (.ptpMessageReceive t p domain m) s = .next (atTime t s)) ∧
    (s.time.servo = .locked → (∀ x, s.time.syncRx = some x → x.2 + 3 * syncInterval s ≤ t) → Leads (.syncTimeout t) s fun s' =>
      s'.time.servo = .holdover ∧ s'.time.masterLostAt = some t ∧ s'.time.lockedSince = none) ∧
    (∀ x, s.time.masterLostAt = some x → s.time.servo = .holdover → x + 60000000000 ≤ t →
      (s.time.selfSelected = true → Leads (.holdoverGmTimeout t) s fun s' => s'.time.servo = .grandmaster ∧ s'.time.lockedSince = some t) ∧
      (s.time.selfSelected = false → exec (.holdoverGmTimeout t) s = .next (atTime t s))) ∧
    (s.time.servo = .grandmaster → cfgFlag s P.ppsInput = true →
      (s.time.pendingTai = none → Leads (.ppsEdge t) s fun s' => s'.time.lastPps = some t ∧ s'.time.ppsLost = false ∧ nowOf s' = nowOf (atTime t s)) ∧
      ∀ sec, s.time.pendingTai = some sec → sec * 1000000000 < 2 ^ 64 → Leads (.ppsEdge t) s fun s' => s'.time.ppsLost = false ∧
        (pairRuns s = false → nowOf s' = sec * 1000000000 ∧ s'.time.eraSet = true ∧ s'.time.pendingTai = none) ∧
        (pairRuns s = true → nowOf s' = nowOf (atTime t s))) ∧
    (cfgFlag s P.ppsInput = true → (∀ x, s.time.lastPps = some x → x + 1500000000 ≤ t) → Leads (.ppsLostTimeout t) s fun s' =>
      s'.time.ppsLost = true ∧ s'.time.servo = s.time.servo) ∧
    (∀ sec, s.time.pendingTai = some sec → cfgFlag s P.ppsInput = false → t % 1000000000 = 0 → sec * 1000000000 < 2 ^ 64 →
      s.time.servo = .grandmaster → pairRuns s = false → Leads (.taiSecondApply t) s fun s' =>
        nowOf s' = sec * 1000000000 ∧ s'.time.pendingTai = none))

/-- R246, R253, R254, R259, R260. A downlink frame carries the next update and a waiting SAFE command and empties both; one that fails its
check puts them back, and one with SAFE in it takes every DIO channel to its safe state. An uplink frame shows the monitor's
levels and diagnostics, those of an UNUSED channel left out, stamped 1.2 µs before it arrives. Silence of either side is told: FIELD_LOST after 100 µs, SILENT after the timeout. -/
def Obligations.IsolationLink : Prop :=
  ∀ (t : Nat) (s : State),
    (logicAwake s = true → Leads (.downlinkFrameSend t) s fun s' => (∃ d, s'.field.downlinks = s.field.downlinks ++ [d] ∧
      d.update = s.field.toSend.head? ∧ d.safe = s.field.safeToSend) ∧ s'.field.toSend = s.field.toSend.drop 1 ∧
      s'.field.safeToSend = false ∧ s'.field.dio = s.field.dio) ∧
    (∀ d r, s.field.downlinks = d :: r →
      (Leads (.downlinkFrameReceive t false) s fun s' => s'.field.downlinks = r ∧ s'.field.toSend = d.update.toList ++ s.field.toSend ∧
        (s'.field.safeToSend = true ↔ s.field.safeToSend = true ∨ d.safe = true) ∧ s'.field.dio = s.field.dio ∧
        s'.field.lastDownlink = s.field.lastDownlink) ∧
      (s.field.monitor ≠ .unpowered → d.safe = true → d.update = none → Leads (.downlinkFrameReceive t true) s fun s' =>
        s'.field.downlinks = r ∧ s'.field.lastDownlink = some t ∧ s'.field.safeInForce = true ∧ s'.field.heldUpdates = [] ∧
        ∀ c : Fin 16, s'.field.dio[c].safeApplied = true ∧ s'.field.dio[c].breakFrom = none)) ∧
    (s.field.monitor ≠ .unpowered → s.mod.power ≠ .dormant → Leads (.uplinkFrameSend t) s fun s' => ∃ u,
      s'.field.uplinks = s.field.uplinks ++ [u] ∧ (∀ c : Fin 16, u.debounced[c] = (dioModeOf s c != 0 && s.field.dio[c].debounced)) ∧
      (∀ c : Fin 16, dioIsOut s c = true → u.diags[c].overcurrent = s.field.dio[c].overcurrent ∧ u.diags[c].thermal = s.field.dio[c].thermal) ∧
      (∀ c : Fin 8, u.readings[c] = s.field.aio[c].reading) ∧ u.monitor = s.field.monitor) ∧
    (∀ u r, s.field.uplinks = u :: r → logicAwake s = true →
      (Leads (.uplinkFrameReceive t true) s fun s' => s'.field.received = u ∧ s'.field.sampleTime = t - 1200 ∧
        s'.field.lastUplink = some t ∧ s'.field.fieldLost = false ∧ s'.field.uplinks = r) ∧
      (Leads (.uplinkFrameReceive t false) s fun s' => s'.field.received = s.field.received ∧ s'.field.lastUplink = s.field.lastUplink ∧
        s'.field.uplinks = r)) ∧
    (logicAwake s = true → (∀ x, s.field.lastUplink = some x → x + 100000 ≤ t) → Leads (.fieldLostTimeout t) s fun s' =>
      s'.field.fieldLost = true ∧ s'.field.lastUplink = s.field.lastUplink) ∧
    (s.field.monitor = .run → (∀ x, s.field.lastDownlink = some x → x + msToNs (cfg s P.silenceTimeout) ≤ t) →
      Leads (.fieldSilenceTimeout t) s fun s' => s'.field.monitor = .silent ∧ s'.field.heldUpdates = [] ∧
        ∀ c : Fin 16, s'.field.dio[c].safeApplied = true) ∧
    (s.field.monitor ≠ .unpowered → Leads (.monitorWatchdogReset t) s fun s' => s'.field.monitor = .start ∧ s'.field.lastDownlink = none ∧
      (∀ c : Fin 16, s'.field.dio[c].driving = false ∧ s'.field.dio[c].commanded = false) ∧ (∀ n : Fin 4, s'.field.fo[n].level = false) ∧
      ∀ c : Fin 8, s'.field.aio[c].driven = none)

/-- R231, R233, R234, R235, R253, R254, R255. An armed unit that is due, and that no unit of a lower number precedes on its channel, fires:
it counts the firing and stays armed only where it is periodic; its action is suppressed and counted where the module does not
hold the claim. FO channels take their released values at the instant; a strobe fires only where one is due and the last lies
500 ns back, and applies and drops what is due and keeps what is not.
R231, R232, R235, R337. Arming sets a unit up with its counts at zero and answers its first instant; a target that has come fires at
once, an armed unit refuses. Cancelling answers the counts and frees the unit. -/
def Obligations.TriggersAndStrobes : Prop :=
  ((∀ (t : Nat) (u : Fin 32) (s : State) (x : TrigSetup), s.time.triggers[u].setup = some x → s.time.triggers[u].armed = true →
    s.time.triggers[u].firedAt ≠ some t → (∀ v : Fin 32, v.val < u.val → sameChannel s u v = false) →
    firingDue (atTime t s) x t = true → Leads (.triggerFire t u) s fun s' =>
      s'.time.triggers[u].firings = sat32 (s.time.triggers[u].firings + 1) ∧
      (s'.time.triggers[u].armed = true ↔ x.mode = .periodic) ∧ (∀ v : Fin 32, v ≠ u → s'.time.triggers[v] = s.time.triggers[v]) ∧
      (holdsClaim s = false → s'.time.triggers[u].suppressed = sat32 (s.time.triggers[u].suppressed + 1) ∧
        s'.field = s.field ∧ s'.sw = s.sw) ∧
      (∀ n : Fin 4, x.action = .foSet → x.channel = n.val → holdsClaim s = true → s.field.fo[n].yielded = false →
        s.field.monitor = .run → s.field.safeInForce = false → monitorDrives s = true → s'.field.fo[n].level = true)) ∧
  (∀ (t : Nat) (s : State), Leads (.strobeFire t) s fun s' =>
    (∀ r, r ∈ s'.field.foReleases ↔ r ∈ s.field.foReleases ∧ t < r.atTime) ∧
    (strobeDue s t = true → strobeFree s t = true → s'.field.lastStrobe = some t ∧
      (∀ u, u ∈ s'.field.heldUpdates ↔ u ∈ s.field.heldUpdates ∧ t < u.strobeAt) ∧
      ∀ a, a ∈ s'.field.delayedActions ↔ a ∈ s.field.delayedActions ∧ t < a.1) ∧
    (strobeDue s t = false ∨ strobeFree s t = false → s'.field.lastStrobe = s.field.lastStrobe ∧ s'.field.dio = s.field.dio ∧
      s'.field.heldUpdates = s.field.heldUpdates ∧ s'.field.delayedActions = s.field.delayedActions) ∧
    (∀ r n, s.field.foReleases = [r] → r.atTime ≤ t → s.field.delayedActions = [] → r.channel = n → s.field.fo[n].yielded = false →
      monitorDrives s = true → s'.field.fo[n].level = r.level))) ∧
   (∀ (t : Nat) (h : ReqHdr) (s u : State) (n : Fin 32), u = atTime t s →
    (∀ mode action channel compat target period argument m a x, trigModeOf mode = some m → trigActionOf action = some a →
      Admitted (.trgArm n.val mode action channel compat target period argument) h 0x0701 32 [] u →
      x = ({ mode := m, action := a, channel := channel, compatTarget := compat, target := target, period := period, argument := argument, armedAt := nowOf u } : TrigSetup) →
      trigFlaws u x = [] →
      (s.time.triggers[n].armed = false → (m ≠ .periodic → firingDue u x (nowOf u) = false) →
        Leads (.trgArm t h n.val mode action channel compat target period argument) s fun s' => Answered h 0x0701 stOk (le8 (firstFiring u x (nowOf u))) u s' ∧
          s'.time.triggers[n] = { setup := some x, armed := true, late := false, firings := 0, suppressed := 0, delayed := 0, firedAt := none } ∧
          (∀ o : Fin 32, o ≠ n → s'.time.triggers[o] = s.time.triggers[o]) ∧ s'.field = s.field ∧ s'.ctl = s.ctl ∧ s'.img = s.img) ∧
      (s.time.triggers[n].armed = false → m ≠ .periodic → firingDue u x (nowOf u) = true →
        Leads (.trgArm t h n.val mode action channel compat target period argument) s fun s' => s'.time.triggers[n].armed = false ∧
          s'.time.triggers[n].firings = 1 ∧ (s'.time.triggers[n].late = true ↔ m = .once)) ∧
      (s.time.triggers[n].armed = true → Leads (.trgArm t h n.val mode action channel compat target period argument) s fun s' =>
        ∃ p, Answered h 0x0701 stStateConflict p u s' ∧ s'.time = u.time)) ∧
    (∀ g, s.time.triggers[n] = g → Admitted (.trgCancel n.val) h 0x0702 4 [] u → Leads (.trgCancel t h n.val) s fun s' =>
      Answered h 0x0702 stOk (le4 g.firings ++ le4 g.suppressed ++ le4 g.delayed ++ le4 (if g.late then 1 else 0)) u s' ∧
      s'.time.triggers[n] = { g with setup := none, armed := false } ∧ s'.field = s.field ∧
      ∀ o : Fin 32, o ≠ n → s'.time.triggers[o] = s.time.triggers[o]))

/-- R245, R248, R250, R258, R262, R263. A comparator that has held its level for the debounce time becomes the channel's level. A switch that
trips turns off, and comes on again no earlier than 100 ms later, never where it is latched off by the fourth trip; sixty
seconds without a trip forget the count. Output conditions that pass their filters set their bits, and a yielded parallel output
breaks 100 µs later. -/
def Obligations.DigitalAndFastChannels : Prop :=
  ∀ (t : Nat) (c : Fin 16) (s : State),
    (∀ b, s.field.dio[c].comparator ≠ b → Leads (.dioComparatorChange t c (.comparator b)) s fun s' => s'.field.dio[c].comparator = b ∧
      s'.field.dio[c].comparatorSince = t ∧ s'.field.dio[c].debounced = s.field.dio[c].debounced) ∧
    ((s.field.monitor = .run ∨ s.field.monitor = .silent) → dioModeOf s c ≠ 0 →
      (s.field.dio[c].comparatorSince + 2000 * cfg s (P.dioDebounce c.val) ≤ t → Leads (.dioDebounceExpiry t c) s fun s' =>
        s'.field.dio[c].debounced = s.field.dio[c].comparator ∧ ∀ o : Fin 16, o ≠ c → s'.field.dio[o] = s.field.dio[o]) ∧
      (t < s.field.dio[c].comparatorSince + 2000 * cfg s (P.dioDebounce c.val) → exec (.dioDebounceExpiry t c) s = .next (atTime t s))) ∧
    (dioIsOut s c = true → monitorDrives s = true → s.field.dio[c].driving = true → diagEnabled s c 2 = true →
      s.field.dio[c].limiting = true → s.field.dio[c].limitingSince + 100000 ≤ t → Leads (.doDiagFilterExpiry t c .overcurrent) s fun s' =>
        s'.field.dio[c].overcurrent = true ∧ s'.field.dio[c].overcurrentSeen = true) ∧
    (s.field.dio[c].driving = true → Leads (.doThermalTrip t c) s fun s' => s'.field.dio[c].driving = false ∧
      s'.field.dio[c].trippedAt = some t ∧ s'.wear.dout[c].trips = sat32 (s.wear.dout[c].trips + 1) ∧
      s'.field.dio[c].trips = s.field.dio[c].trips + 1 ∧ (3 ≤ s.field.dio[c].trips → s'.field.dio[c].latchedOff = true)) ∧
    (∀ x, s.field.dio[c].trippedAt = some x → s.field.dio[c].latchedOff = false →
      (x + 100000000 ≤ t → Leads (.doThermalRetry t c) s fun s' => s'.field.dio[c].trippedAt = none ∧
        s'.field.dio[c].driving = wantsOn s c ∧ s'.field.dio[c].retries = s.field.dio[c].retries + (if wantsOn s c then 1 else 0)) ∧
      (t < x + 100000000 → exec (.doThermalRetry t c) s = .next (atTime t s))) ∧
    ((∀ x, s.field.dio[c].lastTrip = some x → x + 60000000000 ≤ t) → Leads (.doRetryCountReset t c) s fun s' =>
      s'.field.dio[c].retries = 0 ∧ s'.field.dio[c].trips = 0 ∧ s'.field.dio[c].latchedOff = s.field.dio[c].latchedOff) ∧
    (∀ x, s.field.dio[c].breakFrom = some x → x + 100000 ≤ t → s.field.dio[c].yielded = true → dioModeOf s c = 4 →
      Leads (.parallelDioBreak t c) s fun s' => s'.field.dio[c].breakFrom = none ∧ s'.field.dio[c].driving = false) ∧
    (∀ n : Fin 4, (Leads (.fiFailsafeTimeout t n) s fun s' => s'.field.fi[n].level = true ∧ s'.field.fi[n].failsafe = true ∧
        s'.field.fi[n].failsafeSeen = true ∧ ∀ m : Fin 4, m ≠ n → s'.field.fi[m] = s.field.fi[m]) ∧
      (Leads (.foShortTimeout t n) s fun s' => s'.field.fo[n].short = true ∧ s'.field.fo[n].shortSeen = true ∧
        s'.field.fo[n].level = s.field.fo[n].level))

/-- R272, R273, R274, R275. The loop supply stays between 8 V and 26 V, 2.5 V above the pad, rising at once and falling only after its lower
target has held for 10 ms. Five disagreeing samples in a row set MISMATCH and five that agree clear it; a headroom below 1 V for
1 ms is COMPLIANCE; a thermal trip opens the channel for at least 100 ms.
R279, R281, R282, R283, R287. A conversion of an input mode without a filter is the trimmed reading at that instant. Parallel loops open
when the monitor hears nothing for their silence time, and only those. A trim sequence ends more than sixty seconds after its
last step. -/
def Obligations.LoopChannels : Prop :=
  (∀ (t : Nat) (c : Fin 8) (s : State),
    (∀ pad, monitorDrives s = true → aioModeOf s c = 1 → aioOpen s.field.aio[c] = false →
      Leads (.loopSupplyAdjust t c pad) s fun s' => s'.field.aio[c].padMicroV = pad ∧
        (s.field.aio[c].supplyMicroV ≤ max 8000000 (min 26000000 (pad + 2500000)) →
          s'.field.aio[c].supplyMicroV = max 8000000 (min 26000000 (pad + 2500000))) ∧
        (max 8000000 (min 26000000 (pad + 2500000)) < s.field.aio[c].supplyMicroV →
          s'.field.aio[c].supplyMicroV = s.field.aio[c].supplyMicroV ∧ s'.field.aio[c].lowerTarget.isSome = true)) ∧
    (∀ x since, s.field.aio[c].lowerTarget = some (x, since) →
      (since + 10000000 ≤ t → Leads (.loopSupplyFall t c) s fun s' => s'.field.aio[c].supplyMicroV = x ∧ s'.field.aio[c].lowerTarget = none) ∧
      (t < since + 10000000 → exec (.loopSupplyFall t c) s = .next (atTime t s))) ∧
    (∀ raw, aioIsOut s c = true → monitorDrives s = true → Leads (.readbackSample t c raw) s fun s' => s'.field.aio[c].raw = raw ∧
      s'.field.aio[c].convertedAt = t ∧ s'.field.aio[c].readback = trimmed (trimOf s c) raw ∧ s'.field.aio[c].driven = s.field.aio[c].driven) ∧
    (∀ a : Aio, a.disagree = 4 → (judgeReadback true a).mismatch = true ∧ (judgeReadback true a).agree = 0) ∧
    (∀ a : Aio, a.agree = 4 → (judgeReadback false a).mismatch = false ∧ (judgeReadback false a).disagree = 0) ∧
    (aioIsOut s c = true → s.field.aio[c].headroomSince + 1000000 ≤ t →
      (s.field.aio[c].headroomOk = true → Leads (.complianceFilterExpiry t c) s fun s' => s'.field.aio[c].compliance = false) ∧
      (s.field.aio[c].headroomOk = false → aioDiagOn s c 1 = true → Leads (.complianceFilterExpiry t c) s fun s' =>
        s'.field.aio[c].compliance = true)) ∧
    (aioIsOut s c = true → aioOpen s.field.aio[c] = false → Leads (.aoThermalTrip t c) s fun s' => aioOpen s'.field.aio[c] = true ∧
      s'.field.aio[c].thermal = true ∧ s'.field.aio[c].thermalSeen = true ∧ s'.field.aio[c].trippedAt = some t) ∧
    (∀ x, s.field.aio[c].trippedAt = some x →
      (x + 100000000 ≤ t → Leads (.aoThermalRecover t c) s fun s' => s'.field.aio[c].trippedAt = none ∧ s'.field.aio[c].thermal = false ∧
        s'.field.aio[c].driven = s.field.aio[c].driven) ∧
      (t < x + 100000000 → exec (.aoThermalRecover t c) s = .next (atTime t s)))) ∧
   (∀ (t : Nat) (c : Fin 8) (s : State),
    (∀ raw, aioModeOf s c = 4 ∨ aioModeOf s c = 5 → monitorDrives s = true → cfg s (P.aioFilter c.val) = 0 →
      Leads (.aioConversion t c raw) s fun s' => s'.field.aio[c].reading = fromMillionths (trimmed (trimOf s c) raw) ∧
        s'.field.aio[c].convertedAt = t ∧ s'.field.aio[c].raw = raw ∧ (s.field.aio[c].overrangeSeen = true → s'.field.aio[c].overrangeSeen = true) ∧
        ∀ o : Fin 8, o ≠ c → s'.field.aio[o] = s.field.aio[o]) ∧
    (monitorDrives s = true → (∀ x, s.field.lastDownlink = some x → x + usToNs (cfg s P.parallelSilence) ≤ t) →
      Leads (.aioParallelSilenceExpiry t) s fun s' => ∀ o : Fin 8, (aioModeOf s o = 3 → s'.field.aio[o].driven = none ∧
        s'.field.aio[o].safeApplied = true) ∧ (aioModeOf s o ≠ 3 → s'.field.aio[o] = s.field.aio[o])) ∧
    (∀ x, trimSeq s c = some x →
      (x.stepAt + 60000000000 < t → Leads (.trimStepTimeout t c) s fun s' => (∀ y ∈ s'.field.trim, y.journal ≠ x.journal) ∧
        s'.field.aio[c].user = s.field.aio[c].user) ∧
      (t ≤ x.stepAt + 60000000000 → exec (.trimStepTimeout t c) s = .next (atTime t s))))

/-- R298, R300, R301, R302, R303, R304, R305. The frame that the controller offers goes out and is counted, the error counter falling by one; the
frame formed for a release enters arbitration at its instant and not before, replacing one that still waits, or is suppressed on
a shared bus without the claim. Bus-off ends with both counters at zero, and a batch in time. -/
def Obligations.CanTransmission : Prop :=
  ∀ (t : Nat) (ch : Fin 2) (s : State),
    (∀ o f sof, offered s.can[ch] = some (some o, f) → s.can[ch].mode = .normal → s.can[ch].confinement = .errorActive → s.can[ch].tec < 128 →
      s.can[ch].recCnt < 128 → canYielded s ch = false → Leads (.canFrameTransmitted t ch sof) s fun s' =>
        s'.can[ch].sent = s.can[ch].sent ++ [f] ∧ s'.can[ch].sentCount = sat32 (s.can[ch].sentCount + 1) ∧ s'.can[ch].tec = s.can[ch].tec - 1 ∧
        s'.can[ch].objects[o].pending = none ∧ s'.can[ch].hostQueue = s.can[ch].hostQueue) ∧
    (∀ (ob : Fin 32) (f : CanFrame) (release : Nat), s.can[ch].objects[ob].formed = some (f, release) →
      (t < release → exec (.canTxoRelease t ch ob) s = .next (atTime t s)) ∧
      (release ≤ t → canYielded s ch = false → Leads (.canTxoRelease t ch ob) s fun s' => s'.can[ch].objects[ob].formed = none ∧
        s'.can[ch].objects[ob].pending = some f ∧ (s.can[ch].objects[ob].pending.isSome = true →
          s'.can[ch].txOverwritten = sat32 (s.can[ch].txOverwritten + 1))) ∧
      (release ≤ t → canYielded s ch = true → Leads (.canTxoRelease t ch ob) s fun s' =>
        s'.can[ch].suppressed = sat32 (s.can[ch].suppressed + 1) ∧ s'.can[ch].objects[ob].pending = s.can[ch].objects[ob].pending)) ∧
    (∀ j b, (s.can[ch].batches.find? fun b => b.journal == j) = some b → b.acceptedAt + msToNs (cfg s (P.canSendTimeout ch.val)) ≤ t →
      Leads (.canSendTimeout t ch j) s fun s' => ∀ h ∈ s'.can[ch].hostQueue, h.journal ≠ j) ∧
    (s.can[ch].mode = .normal → s.can[ch].confinement = .errorActive → s.can[ch].tec < 128 →
      (s.can[ch].recCnt = 127 → Leads (.canBusError t ch false .stuff) s fun s' => s'.can[ch].recCnt = 128 ∧
        s'.can[ch].confinement = .errorPassive ∧ s'.can[ch].passiveSeen = true) ∧
      (∀ o f, offered s.can[ch] = some (o, f) → canYielded s ch = false → s.can[ch].recCnt < 128 → s.can[ch].tec < 120 → o.isSome = true →
        Leads (.canBusError t ch true .stuff) s fun s' => s'.can[ch].tec = s.can[ch].tec + 8 ∧ s'.can[ch].confinement = .errorActive)) ∧
    (s.can[ch].confinement = .busOff → s.can[ch].recovering = true → Leads (.canBusoffRecoveryComplete t ch) s fun s' =>
      s'.can[ch].confinement = .errorActive ∧ s'.can[ch].tec = 0 ∧ s'.can[ch].recCnt = 0) ∧
    ((∀ x ∈ s.can[ch].clashErrors, x.2 + 10000000000 ≤ t) → Leads (.clashClearTimeout t ch) s fun s' => s'.can[ch].clash = false ∧
      s'.can[ch].clashSeen = s.can[ch].clashSeen)

/-- R294, R295, R296, R306, R307. A received frame goes where its filter says: to a queue of 64 with the instant of its start, or to its map
slot; with the queue full it takes the shadow of a head that is held open, or is lost and the queue overflows. A search moves to the next candidate after the
dwell and gives up after four passes. A sleeping channel wakes to the mode it slept from. -/
def Obligations.CanReception : Prop :=
  ∀ (t : Nat) (ch : Fin 2) (s : State),
    (∀ sof f beat held, s.can[ch].mode = .listenOnly → f.word.getLsbD 29 = false →
      ((routeOf s ch f.word.toNat).1 = 1 → s.can[ch].rxq[(0 : Fin 2)].records.length < 64 → Leads (.canFrameReceive t ch sof f beat held) s fun s' => ∃ r,
        s'.can[ch].rxq[(0 : Fin 2)].records = s.can[ch].rxq[(0 : Fin 2)].records ++ [r] ∧ r.frame = f ∧ r.time = sof ∧
        s'.can[ch].received = sat32 (s.can[ch].received + 1) ∧ s'.can[ch].rxq[(1 : Fin 2)] = s.can[ch].rxq[(1 : Fin 2)]) ∧
      ((routeOf s ch f.word.toNat).1 = 1 → 64 ≤ s.can[ch].rxq[(0 : Fin 2)].records.length → held = true → s.can[ch].rxq[(0 : Fin 2)].shadow = none →
        Leads (.canFrameReceive t ch sof f beat held) s fun s' => s'.can[ch].rxq[(0 : Fin 2)].records = s.can[ch].rxq[(0 : Fin 2)].records ∧
          s'.can[ch].rxq[(0 : Fin 2)].overflows = s.can[ch].rxq[(0 : Fin 2)].overflows ∧ ∃ r, s'.can[ch].rxq[(0 : Fin 2)].shadow = some r ∧
          r.frame = f ∧ r.time = sof) ∧
      ((routeOf s ch f.word.toNat).1 = 1 → 64 ≤ s.can[ch].rxq[(0 : Fin 2)].records.length → held = false →
        Leads (.canFrameReceive t ch sof f beat held) s fun s' => s'.can[ch].rxq[(0 : Fin 2)].records = s.can[ch].rxq[(0 : Fin 2)].records ∧
          s'.can[ch].rxq[(0 : Fin 2)].overflows = sat32 (s.can[ch].rxq[(0 : Fin 2)].overflows + 1) ∧ s'.can[ch].rxOverflowSeen = true) ∧
      (∀ n : Fin 64, (routeOf s ch f.word.toNat).1 = 3 → (routeOf s ch f.word.toNat).2.1 = n.val → Leads (.canFrameReceive t ch sof f beat held) s fun s' =>
        ∃ r, s'.can[ch].slots[n] = some r ∧ r.frame = f ∧ r.time = sof ∧ s'.can[ch].rxq = s.can[ch].rxq)) ∧
    (s.can[ch].mode = .autobaud → s.can[ch].lastComplete + msToNs (cfg s (P.canDwell ch.val)) ≤ t →
      (s.can[ch].candidate + 1 < s.can[ch].candidates.length → s.can[ch].passes < 4 → Leads (.autobaudDwellExpiry t ch) s fun s' =>
        s'.can[ch].candidate = s.can[ch].candidate + 1 ∧ s'.can[ch].passes = s.can[ch].passes ∧ s'.can[ch].mode = .autobaud) ∧
      (s.can[ch].candidates.length ≤ s.can[ch].candidate + 1 → s.can[ch].passes = 3 → Leads (.autobaudDwellExpiry t ch) s fun s' =>
        s'.can[ch].autobaudFailed = true ∧ s'.can[ch].mode = .disabled)) ∧
    (∀ w, s.can[ch].mode = .sleep → wakeHolds s ch w = true → Leads (.canWake t ch w) s fun s' => s'.can[ch].mode = s.can[ch].beforeSleep ∧
      s'.can[ch].wakeSeen = true)

/-- R311, R312, R313, R314, R316, R398, R404. Registers take aligned words and answer by their fields; anything else is counted and reads
all ones. A ring hands the request half to the Keeper, on the mailbox's own interface and while the Keeper serves; clearing DB_RSP frees
the response half, and a response that waits is written next. Response halves ignore writes, and a burst is cut at 4 KiB. -/
def Obligations.HostRegisters : Prop :=
  ∀ (t : Nat) (s : State), portUp s = true →
    (∀ (n : Fin 8) (spi ack : Bool), bySpi s n ≠ spi → Leads (.doorbellRing t n spi ack) s fun s' =>
      s'.keeper.foreignRings = sat32 (s.keeper.foreignRings + 1) ∧ s'.keeper.mailboxes = s.keeper.mailboxes) ∧
    (∀ (n : Fin 8) (spi : Bool), bySpi s n = spi → keeperServes s = false → Leads (.doorbellRing t n spi false) s fun s' =>
      s'.keeper.mailboxes[n].dbReq = true ∧ s'.keeper.mailboxes[n].rsp = s.keeper.mailboxes[n].rsp) ∧
    (∀ (n : Fin 8) (spi : Bool) (bs : List Byte), bySpi s n = spi → keeperServes s = true → bs = getBytes s.keeper.mailboxes[n].req 0 4096 →
      mailboxBusy s (requestOf bs) (hdrOf (.mailbox n) bs) = false → exec (.doorbellRing t n spi false) s =
        .next (runRequest (hdrOf (.mailbox n) bs) (requestOf bs) (atTime t (onMailbox n (fun b => { b with dbReq := false }) s)))) ∧
    (∀ n : Fin 8, s.keeper.mailboxes[n].dbRsp = true →
      (s.keeper.mailboxes[n].waiting = [] → Leads (.responseRelease t n) s fun s' => s'.keeper.mailboxes[n].dbRsp = false) ∧
      (∀ r rest, s.keeper.mailboxes[n].waiting = r :: rest → Leads (.responseRelease t n) s fun s' => s'.keeper.mailboxes[n].dbRsp = true ∧
        s'.keeper.mailboxes[n].waiting = rest ∧ s'.keeper.mailboxes[n].rsp = putBytes 0 r s.keeper.mailboxes[n].rsp ∧
        s'.keeper.intStat.getLsbD intRsp = true)) ∧
    (∀ mask : W32, Leads (.sluiceOvfClear mask) s fun s' => s'.keeper.sluiceOvf = s.keeper.sluiceOvf &&& ~~~mask ∧
      (∀ p, p ∈ s'.keeper.sluices ↔ p ∈ s.keeper.sluices ∧ mask.getLsbD (p.1 / 256 % 16) = false) ∧ s'.keeper.intStat = s.keeper.intStat) ∧
    (∀ d : W32, (Leads (.registerWrite t 0x108 4 d) s fun s' => s'.keeper.intStat = s.keeper.intStat &&& ~~~d) ∧
      (Leads (.registerWrite t 0x10C 4 d) s fun s' => s'.keeper.intMask = d &&& 0x1FF#32 ∧ s'.keeper.intStat = s.keeper.intStat) ∧
      (Leads (.spiWrite t 0x110 (le4 d.toNat)) s fun s' => s'.keeper.hostBeat = d ∧ s'.keeper.sampledBeat = s.keeper.sampledBeat) ∧
      (∀ o w, o < 0x1000 → w ≠ 4 ∨ o % 4 ≠ 0 → Leads (.registerWrite t o w d) s fun s' =>
        s' = { s with keeper := { s.keeper with barErrors := min 0xFFFF (s.keeper.barErrors + 1) }, time := s'.time }) ∧
      (∀ (n : Fin 8) o, 0x1000 ≤ o → o + 4 ≤ 0x2000 →
        exec (.registerWrite t (0x10000 + 0x2000 * n.val + o) 4 d) s = .next (atTime t s)) ∧
      (∀ (n : Fin 8) (o : Nat) (b : Byte), o < 0x1000 → Memory.wf (fun _ => true) s.keeper.mailboxes[n].req = true →
        Leads (.registerWrite t (0x10000 + 0x2000 * n.val + o) 1 (b.setWidth 32)) s fun s' =>
        (tget o s'.keeper.mailboxes[n].req).getD 0 = b ∧ s'.keeper.mailboxes[n].rsp = s.keeper.mailboxes[n].rsp)) ∧
    (Leads (.bar0Read 0 4) s fun s' => s'.keeper.readData = [0xA5#8, 0xD1#8, 0x16#8, 0x64#8] ∧ s'.keeper.barErrors = s.keeper.barErrors) ∧
    (∀ o w, o < 0x1000 → w ≠ 4 ∨ o % 4 ≠ 0 → Leads (.bar0Read o w) s fun s' => s'.keeper.readData = le4 0xFFFFFFFF ∧
      s'.keeper.barErrors = min 0xFFFF (s.keeper.barErrors + 1)) ∧
    (Leads .spiStatus s fun s' => s'.keeper.readData = [if s.keeper.intStat &&& s.keeper.intMask = 0 then 0#8 else 0x80#8]) ∧
    (∀ a count, 0x10000 ≤ a → a < 0x20000 →
      (count ≤ 0x1000 - a % 0x1000 → Leads (.spiRead t a count) s fun s' => s'.keeper.readData.length = count ∧
        s'.keeper.spiBurstErr = s.keeper.spiBurstErr) ∧
      (0x1000 - a % 0x1000 < count → Leads (.spiRead t a count) s fun s' => s'.keeper.readData.length = 0x1000 - a % 0x1000 ∧
        s'.keeper.spiBurstErr = min 0xFFFF (s.keeper.spiBurstErr + 1)))

/-- R310, R312, R315, R317, R324, R329, R462. A reset of PCIe or SPI, a silent host and an ended connection end their sessions; a new
session ID is not zero and was not used before. What an ended session held is released. A connection opens under an accepted certificate
while fewer than 16 are open, with the class of its certificate. A class E response is `ACCEPTED` after 100 ms. -/
def Obligations.SessionsAndConnections : Prop :=
  ∀ (t : Nat) (s : State),
    (portUp s = true →
      (Leads (.spiReset t) s fun s' => s'.keeper.spiSession ≠ 0 ∧ s'.keeper.spiSession ∉ s.keeper.usedSessions ∧
        s'.keeper.spiSession ∈ s'.keeper.usedSessions ∧ s'.keeper.pcieSession = s.keeper.pcieSession ∧
        (∀ x ∈ s'.keeper.subscriptions, x.hdr.session ≠ s.keeper.spiSession) ∧
        ∀ l, s'.upd.lease = some l → l.session = s.keeper.spiSession → s.upd.applying.isSome = true) ∧
      (Leads (.pcieReset t) s fun s' => s'.keeper.pcieSession ≠ 0 ∧ s'.keeper.pcieSession ∉ s.keeper.usedSessions ∧
        s'.keeper.spiSession = s.keeper.spiSession ∧ (∀ x ∈ s'.keeper.exports, x.session ≠ s.keeper.pcieSession) ∧
        ∀ l, s'.upd.lease = some l → l.session = s.keeper.pcieSession → s.upd.applying.isSome = true)) ∧
    (s.path.powered = true → s.keeper.running = true → s.sec.keeperHalted = false → Leads .keeperBeatTick s fun s' =>
      s' = { s with keeper := { s.keeper with beatCount := s.keeper.beatCount + 1 } }) ∧
    (s.keeper.running = false → exec .keeperBeatTick s = .next s) ∧
    (keeperServes s = true →
      (s.keeper.hostBeat ≠ s.keeper.sampledBeat → Leads (.hostBeatSample t) s fun s' => s'.keeper.sampledBeat = s.keeper.hostBeat ∧
        s'.keeper.sampledAt = t ∧ s'.keeper.pcieSession = s.keeper.pcieSession ∧ s'.keeper.intStat = s.keeper.intStat) ∧
      (s.keeper.hostBeat = s.keeper.sampledBeat → cfg s P.beatTimeout ≠ 0 → s.keeper.sampledAt + msToNs (cfg s P.beatTimeout) ≤ t →
        Leads (.hostBeatSample t) s fun s' => s'.keeper.intStat.getLsbD intBeat = true ∧ s'.keeper.pcieSession ∉ s.keeper.usedSessions ∧
          s'.keeper.spiSession ∉ s.keeper.usedSessions ∧ s'.keeper.spiSession ≠ s'.keeper.pcieSession ∧ s'.keeper.conns = s.keeper.conns ∧
          s'.ctl = s.ctl ∧ s'.img = s.img ∧ s'.field = s.field)) ∧
    (∀ (port : Fin 3) (cert : ClientCert) (n : Fin 4), cert.signer = some n → listens s port = true →
      (certOk (atTime t s) cert = true → s.keeper.conns.length < 16 → withinQuota s 5 (hostUse s) (hostUse s + 4) = true →
        Leads (.netConnectionOpen t port cert) s fun s' => ∃ c, s'.keeper.conns = s.keeper.conns ++ [c] ∧ c.session ≠ 0 ∧
          c.session ∉ s.keeper.usedSessions ∧ c.port = port ∧ c.access = cert.unit.getD .read ∧ c.keySlot = n ∧ c.lastActivity = nowOf (atTime t s)) ∧
      (16 ≤ s.keeper.conns.length → exec (.netConnectionOpen t port cert) s = .next (atTime t s)) ∧
      (certOk (atTime t s) cert = false → exec (.netConnectionOpen t port cert) s = .next (atTime t s))) ∧
    (∀ (port : Fin 3) (cert : ClientCert), cert.signer = none ∨ listens s port = false →
      exec (.netConnectionOpen t port cert) s = .next (atTime t s)) ∧
    (∀ id c, connOf s id = some c →
      (Leads (.netConnectionClose t id) s fun s' => (∀ x, x ∈ s'.keeper.conns ↔ x ∈ s.keeper.conns ∧ x.session ≠ id) ∧
        (∀ x ∈ s'.keeper.subscriptions, x.hdr.session ≠ id) ∧ s'.keeper.pcieSession = s.keeper.pcieSession) ∧
      (c.lastActivity + msToNs (1000 * cfg s P.mgmtIdle) ≤ t → Leads (.netMgmtIdleExpiry t id) s fun s' =>
        ∀ x, x ∈ s'.keeper.conns ↔ x ∈ s.keeper.conns ∧ x.session ≠ id) ∧
      (t < c.lastActivity + msToNs (1000 * cfg s P.mgmtIdle) → exec (.netMgmtIdleExpiry t id) s = .next (atTime t s))) ∧
    (∀ id r, (s.keeper.held.find? fun x => x.journal == id) = some r → keeperServes s = true →
      (∀ n : Fin 8, r.hdr.src = .mailbox n → r.acceptedAt + 100000000 ≤ t → Leads (.classEResponseTimeout t id) s fun s' =>
        AnsweredAs r.hdr r.command stAccepted id (lastMirrored s) [] s s' ∧ (∀ x ∈ s'.keeper.held, x.journal ≠ id) ∧
        s'.keeper.journal = s.keeper.journal ∧ s'.keeper.changes = s.keeper.changes) ∧
      (t < r.acceptedAt + 100000000 → exec (.classEResponseTimeout t id) s = .next (atTime t s)))

/-- R58, R332, R337, R338, R339, R341, R373. A status request that passes the checks is answered OK at once with its payload and
changes nothing else, except that STATE.GET and HEALTH.GET count as reading the fault, and the clear masks take flags away that the answer
still shows. -/
def Obligations.StatusReads : Prop :=
  ∀ (t : Nat) (h : ReqHdr) (s u : State), u = atTime t s →
    (Admitted .idGet h 0x0100 0 [] u → Leads (.idGet t h) s fun s' => ∃ p, OnlyAnswers h 0x0100 p u s' ∧ p.length = 32 ∧
      Field p 0 (le2 0x6416) ∧ Field p 4 (le4 h.session) ∧ Field p 8 (le8 Config.serial.toNat) ∧
      Field p 24 [byteOf s.upd.bootSlot.val, byteOf (lifecycleCode s.sec.lifecycle)] ∧ Field p 26 (le2 (ownerId s))) ∧
    (Admitted .stateGet h 0x0101 0 [] u → Leads (.stateGet t h) s fun s' => ∃ p, Answered h 0x0101 stOk p u s' ∧ p.length = 32 ∧
      Field p 0 [byteOf (stateCode s.mod.state), byteOf (powerCode s.mod.power)] ∧ Field p 4 (le4 s.pair.claim) ∧
      Field p 8 (le8 s.img.mirrored) ∧ Field p 16 (le4 (pairFlags s)) ∧ Field p 20 (le4 (laneMap s)) ∧ Field p 28 (le2 (faultCode s.mod.fault)) ∧
      s' = { u with keeper := s'.keeper, mod := { u.mod with faultRead := true } }) ∧
    (Admitted .healthGet h 0x0102 0 [] u → Leads (.healthGet t h) s fun s' => ∃ p, Answered h 0x0102 stOk p u s' ∧ p.length = 560 ∧
      Field p 0 (le4 (laneMap s)) ∧ Field p 12 (le4 s.keeper.sluiceOvf.toNat) ∧ Field p 24 (le4 (sat32 s.ctl.weave.corrections)) ∧
      Field p 42 (le2 (min 0xFFFF s.keeper.barErrors)) ∧ s' = { u with keeper := s'.keeper, mod := { u.mod with faultRead := true } }) ∧
    (Admitted .pwrGet h 0x0E01 0 [] u → Leads (.pwrGet t h) s fun s' => ∃ p, OnlyAnswers h 0x0E01 p u s' ∧ p.length = 32 ∧
      Field p 0 [byteOf (powerCode s.mod.power)] ∧ Field p 4 (le4 (fofRat real32 s.path.feeds[(0 : Fin 4)].microV 1000000)) ∧
      s'.drawn = s.drawn + 3) ∧
    (Admitted .pairStatus h 0x0600 0 [] u → Leads (.pairStatus t h) s fun s' => ∃ p, OnlyAnswers h 0x0600 p u s' ∧ p.length = 80 ∧
      Field p 0 (le4 (pairFlags s)) ∧ Field p 4 (le4 s.pair.claim) ∧ Field p 12 (le4 s.pair.highestClaim) ∧ Field p 16 (le8 s.img.mirrored) ∧
      Field p 48 (le4 (sat32 s.tow.switches)) ∧ Field p 52 (le4 (sat32 s.tow.mismatches))) ∧
    (∀ mask : W32, Admitted (.timeStatus mask) h 0x0700 4 [] u → Leads (.timeStatus t h mask) s fun s' => ∃ p,
      Answered h 0x0700 stOk p u s' ∧ p.length = 632 ∧ Field p 0 (le4 (timeFlags u)) ∧ Field p 8 (le8 (ofSigned 64 s.time.offset)) ∧
      Field p 32 (le8 (nowOf u)) ∧ s'.time = u.time ∧ s'.img = s.img ∧ s'.ctl = s.ctl ∧
      ∀ n : Fin 3, s'.sw.ports[n].txtsOvf = true ↔ s.sw.ports[n].txtsOvf = true ∧ mask.getLsbD (23 - n.val) = false) ∧
    (∀ group first, group ≤ 4 → Admitted (.ioStatus group first) h 0x0800 4 [] u → Leads (.ioStatus t h group first) s fun s' => ∃ p,
      OnlyAnswers h 0x0800 p u s' ∧ (group = 0 → p.length = 68 ∧ Field p 0 (le4 (dioStatus s 0)) ∧ Field p 64 [byteOf (monitorCode s.field.monitor)]) ∧
      (group = 1 → p.length = 192 ∧ Field p 0 (le4 (aioStatus s 0)) ∧ Field p 24 (le4 (aioStatus s 1))) ∧
      (group = 2 → p.length = 16 ∧ Field p 12 (le4 (fastStatus s 3))) ∧
      (group = 4 → p.length = 96 ∧ Field p 36 (le4 s.sw.ports[(1 : Fin 3)].framesIn))) ∧
    (∀ (ch : Fin 2) (mask : W32), Admitted (.canStatus ch.val mask) h 0x0900 8 [] u → Leads (.canStatus t h ch.val mask) s fun s' => ∃ p,
      Answered h 0x0900 stOk p u s' ∧ p.length = 44 ∧ Field p 0 (le4 (canStatusWord u ch)) ∧ Field p 6 [byteOf s.can[ch].rxq[(0 : Fin 2)].records.length] ∧
      (s'.can[ch].busOffSeen = true ↔ s.can[ch].busOffSeen = true ∧ mask.getLsbD 5 = false) ∧
      (s'.can[ch].wakeSeen = true ↔ s.can[ch].wakeSeen = true ∧ mask.getLsbD 2 = false) ∧ s'.can[ch].mode = s.can[ch].mode ∧
      s'.can[ch].rxq = s.can[ch].rxq ∧ ∀ o : Fin 2, o ≠ ch → s'.can[o] = s.can[o]) ∧
    (Admitted .bistResult h 0x0B00 0 [] u → Leads (.bistResult t h) s fun s' => ∃ p, OnlyAnswers h 0x0B00 p u s' ∧ p.length = 456 ∧
      Field p 0 (le2 14) ∧ ∀ b : Fin 14, Field p (8 + 32 * b.val) ([byteOf b.val, byteOf (bistCode s.bist[b].result)] ++ le2 0 ++ le4 s.bist[b].hours)) ∧
    (Admitted .updStatus h 0x0C04 0 [] u → Leads (.updStatus t h) s fun s' => ∃ p, OnlyAnswers h 0x0C04 p u s' ∧ p.length = 28 ∧
      Field p 0 [if s.upd.lease.isSome then 1#8 else 0#8] ∧ Field p 8 (le4 s.upd.delta.length) ∧ Field p 24 (le2 s.upd.lastStatus))

/-- R15, R22, R23, R29, R116, R331, R335, R339, R341, R348, R356, R416, R420. Reads of records answer OK with as many as fit and change
nothing else: events, wear records, quotas, forces, journal entries and their attachments, settings and export images. IMG.READ answers
with the copies at the epoch that it names, or with the last mirrored one, `EPOCH_GONE` for an epoch that is gone, and `INTERNAL_FAULT`
with the tags where a copy is poisoned. -/
def Obligations.RecordAndImageReads : Prop :=
  ∀ (t : Nat) (h : ReqHdr) (s u : State), u = atTime t s →
    (∀ first maximum area, 1 ≤ maximum → maximum ≤ 63 → area ≤ 2 → Admitted (.evtRead first maximum area) h 0x0A00 8 [] u →
      Leads (.evtRead t h first maximum area) s fun s' => ∃ p got, OnlyAnswers h 0x0A00 p u s' ∧ got = (recordsFrom s first area).take maximum ∧
        p.length = 24 + 64 * got.length ∧ Field p 0 (le4 got.length) ∧ (got = [] → Field p 4 (le4 (s.recd.lastSeq + 1)))) ∧
    (∀ category first rs, wearRecords s category first = some rs → Admitted (.wearGet category first) h 0x0F03 4 [] u →
      Leads (.wearGet t h category first) s fun s' => OnlyAnswers h 0x0F03 (le2 rs.length ++ le2 32 ++ le4 0 ++ rs.flatten) u s') ∧
    (∀ cls, 1 ≤ cls → cls ≤ 6 → Admitted (.quoGet cls) h 0x0F02 2 [] u → Leads (.quoGet t h cls) s fun s' => ∃ p,
      OnlyAnswers h 0x0F02 p u s' ∧ p.length = 16 ∧ Field p 0 (le2 cls) ∧ Field p 4 (le4 (quotaOf s cls)) ∧ Field p 8 (le4 (classUse s cls))) ∧
    (∀ first, Admitted (.frcList first) h 0x0502 4 [] u → Leads (.frcList t h first) s fun s' => ∃ p shown, OnlyAnswers h 0x0502 p u s' ∧
      shown = (s.img.forces.drop first).take 126 ∧ p.length = 8 + 32 * shown.length ∧ Field p 0 (le4 s.img.forces.length) ∧
      Field p 4 (le4 shown.length) ∧ ∀ f, shown.head? = some f → Field p 8 (le4 f.tag) ∧ Field p 16 (le8 f.value.toNat)) ∧
    (∀ id maximum e, 1 ≤ maximum → maximum ≤ 63 → jget s id = some e → Admitted (.jnlGetEntries id maximum) h 0x0F00 12 [] u →
      Leads (.jnlGetEntries t h id maximum) s fun s' => ∃ es : List JnlEntry, OnlyAnswers h 0x0F00 (le4 es.length ++ le4 0 ++ es.flatMap jnlBytes) u s' ∧
        es.length ≤ maximum ∧ (id ≠ 0 → ∀ x ∈ es, x.id ≤ id ∧ x ∈ s.keeper.journal)) ∧
    (∀ id offset e, jget s id = some e → offset ≤ e.attachment.length → Admitted (.jnlGetAttachment id offset) h 0x0F00 12 [] u →
      Leads (.jnlGetAttachment t h id offset) s fun s' => ∃ d : List Byte, OnlyAnswers h 0x0F00 (le4 e.attachment.length ++ le4 d.length ++ d) u s' ∧
        d = (e.attachment.drop offset).take 4056) ∧
    (∀ id v, readSetting s s.settings.committed false id = some v → Admitted (.setRead 0 [id]) h 0x0200 8 [] u →
      Leads (.setRead t h 0 [id]) s fun s' => ∃ p, OnlyAnswers h 0x0200 p u s' ∧ Field p 0 (le4 id) ∧ Field p 6 (le2 v.length) ∧ Field p 8 v) ∧
    (∀ id, paramOf id = none → Admitted (.setRead 0 [id]) h 0x0200 8 [] u → Leads (.setRead t h 0 [id]) s fun s' =>
      ∃ p, Answered h 0x0200 stBadArgument p u s' ∧ s'.settings = s.settings ∧ p.length = 20 ∧ Field p 0 (le2 1) ∧ Field p 8 (le4 id)) ∧
    (∀ x offset journal, (s.keeper.exports.find? fun x => x.journal == journal && x.session == h.session) = some x → offset ≤ x.bytes.length →
      Admitted (.setExportRead offset journal) h 0x0203 12 [] u → Leads (.setExportRead t h offset journal) s fun s' => ∃ d : List Byte,
        OnlyAnswers h 0x0203 (le4 x.bytes.length ++ le4 d.length ++ d) u s' ∧ d = (x.bytes.drop offset).take 4056) ∧
    (∀ i x c, s.tow.catchup = none → tget i s.img.tags = some x → Admitted (.imgRead [(i, 1)]) h 0x0400 12 [] u →
      (h.atEpoch = true → epochGone s h.epoch = true → Leads (.imgRead t h [(i, 1)]) s fun s' =>
        Answered h 0x0400 stEpochGone [] u s' ∧ s'.img = s.img) ∧
      (copyAt x (readEpoch s h) = some c → (h.atEpoch = true → epochGone s h.epoch = false) →
        (poisonedAt s (slotAddress i (copyIsB x (readEpoch s h))) = false → Leads (.imgRead t h [(i, 1)]) s fun s' => ∃ p,
          AnsweredAs h 0x0400 stOk 0 (readEpoch s h) p u s' ∧ s'.img = s.img ∧ p.length = 40 ∧ Field p 0 (le4 1) ∧ Field p 8 (le8 c.value.toNat) ∧
          Field p 16 (le8 c.srcTs)) ∧
        (poisonedAt s (slotAddress i (copyIsB x (readEpoch s h))) = true → Leads (.imgRead t h [(i, 1)]) s fun s' =>
          AnsweredAs h 0x0400 stInternal 0 (readEpoch s h) (le4 1 ++ le4 i) u s' ∧ s'.img = s.img)))

/-- R97, R101, R324, R333, R334, R358. PRG.LOAD takes a container in order from BEGIN on; END places it as the staged version, LOADED, or ends FAILED
and leaves what was staged; ABORT discards it. PRG.VERIFY makes the staged version VERIFIED where no check finds anything, and LOADED where
one does. The running version never changes here.
R101, R105, R107, R118, R325, R333. An exchange of the verified staged version, which the quotas of the partner
take too, is accepted and queued for its step; a dry run only reports, and a force on
a tag that would go refuses it unless DROP_CONFLICTING_FORCES is given. -/
def Obligations.ProgramLoadVerifyExchange : Prop :=
  (∀ (t : Nat) (h : ReqHdr) (s u : State) (v : Nat), u = atTime t s → s.ctl.exchange = none →
    (∀ n, v ≠ 0 → pages n ≤ quotaOf s 2 → Admitted (.prgLoadBegin v n) h 0x0300 16 [] u → Leads (.prgLoadBegin t h v n) s fun s' =>
      Answered h 0x0300 stOk (le4 0) u s' ∧ s'.ctl = { s.ctl with load := some { version := v, length := n, bytes := [], journal := 0 } }) ∧
    (∀ l off data, s.ctl.load = some l → l.version = v → Admitted (.prgLoadData v off data) h 0x0300 (16 + data.length) [] u →
      (off = l.bytes.length → off + data.length ≤ l.length → Leads (.prgLoadData t h v off data) s fun s' =>
        Answered h 0x0300 stOk (le4 (off + data.length)) u s' ∧ s'.ctl = { s.ctl with load := some { l with bytes := l.bytes ++ data } }) ∧
      (off ≠ l.bytes.length → Leads (.prgLoadData t h v off data) s fun s' => ∃ p, Answered h 0x0300 stBadArgument p u s' ∧
        Field p 8 (le4 8) ∧ s'.ctl = s.ctl)) ∧
    (∀ l, s.ctl.load = some l → l.version = v → Admitted (.prgLoadEnd v) h 0x0300 16 [] u → journalFull u = false → FreshIds u →
      (∀ p, loadFindings l = [] → parseProgram l.bytes = some p → placeFits s p = true → Leads (.prgLoadEnd t h v) s fun s' =>
        Accepted h 0x0300 u s' ∧ EntryEnds (s.keeper.lastJournal + 1) .done stOk s' ∧
        s'.ctl.load = none ∧ s'.ctl.staged = some { prog := p, state := .loaded, onPartner := false } ∧ s'.ctl.running = s.ctl.running ∧
        s'.ctl.tasks = s.ctl.tasks ∧ s'.ctl.execs = s.ctl.execs) ∧
      (loadFindings l ≠ [] → Leads (.prgLoadEnd t h v) s fun s' => Accepted h 0x0300 u s' ∧
        EntryEnds (s.keeper.lastJournal + 1) .failed stBadArgument s' ∧ s'.ctl = { s.ctl with load := none })) ∧
    (∀ l, s.ctl.load = some l → l.version = v → Admitted (.prgLoadAbort v) h 0x0300 16 [] u → Leads (.prgLoadAbort t h v) s fun s' =>
      Answered h 0x0300 stOk (le4 0) u s' ∧ s'.ctl = { s.ctl with load := none }) ∧
    (∀ g, s.ctl.staged = some g → g.prog.version = v → Admitted (.prgVerify v) h 0x0301 4 [] u → journalFull u = false → FreshIds u →
      (verifyFindings s g.prog ++ exchangeFindings s g.prog = [] → Leads (.prgVerify t h v) s fun s' => Accepted h 0x0301 u s' ∧
        EntryEnds (s.keeper.lastJournal + 1) .done stOk s' ∧ (∃ x, s'.ctl.staged = some x ∧ x.prog = g.prog ∧ x.state = .verified) ∧
        s'.ctl.running = s.ctl.running ∧ s'.img = s.img) ∧
      (verifyFindings s g.prog ++ exchangeFindings s g.prog ≠ [] → Leads (.prgVerify t h v) s fun s' => Accepted h 0x0301 u s' ∧
        EntryEnds (s.keeper.lastJournal + 1) .failed stBadArgument s' ∧ (∃ x, s'.ctl.staged = some x ∧ x.prog = g.prog ∧ x.state = .loaded) ∧
        s'.ctl.running = s.ctl.running ∧ s'.img = s.img))) ∧
   (∀ (t : Nat) (h : ReqHdr) (s u : State) (g : Staged) (v : Nat), u = atTime t s → s.ctl.exchange = none → s.ctl.staged = some g →
    g.prog.version = v → Admitted (.prgExchange v) h 0x0302 4 [] u →
    (g.state ≠ .verified → Leads (.prgExchange t h v) s fun s' => ∃ p, Answered h 0x0302 stBadArgument p u s' ∧ s'.ctl = s.ctl) ∧
    (g.state = .verified → (partnerStandby s = true → h.pairScope = true ∧ g.onPartner = true) → exchangeBindings s g.prog = [] →
      (forceConflicts s g.prog ≠ [] → h.dropForces = false → Leads (.prgExchange t h v) s fun s' => ∃ p,
        Answered h 0x0302 stForceConflict p u s' ∧ s'.ctl = s.ctl) ∧
      (forceConflicts s g.prog = [] ∨ h.dropForces = true → quotaFits s g.prog = true → (partnerFits u).1 = true →
        (h.dryRun = true → Leads (.prgExchange t h v) s fun s' => ∃ p, Answered h 0x0302 stOk p u s' ∧
          Field p 0 (le4 (oldVersion s.ctl.running)) ∧ Field p 4 (le4 v) ∧ s'.ctl = s.ctl ∧ s'.img = s.img) ∧
        (h.dryRun = false → journalFull u = false → FreshIds u → Leads (.prgExchange t h v) s fun s' => Accepted h 0x0302 u s' ∧
          (∃ x, s'.ctl.exchange = some x ∧ x.journal = s.keeper.lastJournal + 1 ∧ x.phase = .queued) ∧
          s'.ctl.running = s.ctl.running ∧ s'.img = s.img ∧ ∃ c, s'.keeper.changes = s.keeper.changes ++ [c] ∧ c.kind = .exchange ∧
            c.journal = s.keeper.lastJournal + 1))))

/-- R34, R58, R137, R139, R140, R164, R324, R330. PRG.START on a module without an owner is `ROLE_CONFLICT`. PRG.START and PRG.STOP on an active module wait for an epoch step. In `READY` with its join wait over, a
module alone goes ACTIVE at once under a raised claim; a paired one offers first; before the wait is over it refuses. From
STOPPED_FAULT no start is accepted before host software has read the fault. -/
def Obligations.StartAndStop : Prop :=
  ∀ (t : Nat) (h : ReqHdr) (s u : State) (mask : Nat), u = atTime t s → journalFull u = false → FreshIds u →
    (Admitted (.prgStart mask) h 0x0303 4 [] u → ownerId s = 0 → Leads (.prgStart t h mask) s fun s' =>
      Answered h 0x0303 stRoleConflict [] u s' ∧ s'.mod = s.mod ∧ s'.pair = s.pair) ∧
    (Admitted (.prgStart mask) h 0x0303 4 [] u → ownerId s ≠ 0 → s.sec.tainted = false → invasiveOpen s = false →
      (s.mod.state = .active → (s.pair.paired = true → h.pairScope = true) → Leads (.prgStart t h mask) s fun s' => HeldFor h 0x0303 u s' ∧
        (∃ c, s'.keeper.changes = s.keeper.changes ++ [c] ∧ c.kind = .start mask ∧ c.journal = s.keeper.lastJournal + 1) ∧
        s'.ctl = s.ctl ∧ s'.img = s.img ∧ s'.mod = s.mod) ∧
      (s.mod.state = .stoppedFault → s.mod.faultRead = false → Leads (.prgStart t h mask) s fun s' =>
        Answered h 0x0303 stStateConflict (le2 7 ++ le2 0xD0 ++ le4 0) u s' ∧ s'.mod = s.mod ∧ s'.pair = s.pair) ∧
      (s.mod.state = .ready → s.pair.paired = false → s.pair.joinWaitOver = false → Leads (.prgStart t h mask) s fun s' =>
        Answered h 0x0303 stRoleConflict [] u s' ∧ s'.mod = s.mod ∧ s'.pair = s.pair) ∧
      (s.mod.state = .ready → s.pair.paired = false → s.pair.joinWaitOver = true → s.pair.highestClaim < 0xFFFFFFFF →
        Leads (.prgStart t h mask) s fun s' => Raised 0 s s' ∧ s'.img.epoch = s.img.epoch ∧
          ∃ c, s'.keeper.changes = s.keeper.changes ++ [c] ∧ c.kind = .start mask ∧ c.journal = s.keeper.lastJournal + 1) ∧
      (s.mod.state = .ready → s.pair.paired = true → h.pairScope = true → s.pair.heardOffer = false → partnerActive s = false →
        moduleFlag s = false → s.pair.offer = none → Leads (.prgStart t h mask) s fun s' => HeldFor h 0x0303 u s' ∧
          s'.pair = { s.pair with offer := some (s.keeper.lastJournal + 1), offerAt := nowOf u } ∧ s'.mod = s.mod ∧ s'.img = s.img)) ∧
    (Admitted (.prgStop mask) h 0x0304 4 [] u → Leads (.prgStop t h mask) s fun s' => HeldFor h 0x0304 u s' ∧
      (∃ c, s'.keeper.changes = s.keeper.changes ++ [c] ∧ c.kind = .stop mask ∧ c.journal = s.keeper.lastJournal + 1) ∧ s'.ctl = s.ctl ∧
      s'.img = s.img ∧ s'.mod = s.mod)

/-- R24, R43, R112, R113, R117, R324, R325, R335. Batches of values and of forces, and the clearing of forces, are accepted whole and wait
for their epoch step; a bad entry refuses the batch, a dry run only answers, and an epoch that has passed is `EPOCH_GONE`. Nothing of the image
changes at acceptance.
R43, R335. A batch with an entry whose tag, type or value does not fit is refused whole, with a finding for each.
R336. A subscription answers with the slots at once and holds its mailbox until STOP; a change of a subscribed tag that a
mirrored epoch commits is notified no sooner than the minimum interval after the last notification. -/
def Obligations.ImageRequests : Prop :=
  (∀ (t : Nat) (h : ReqHdr) (s u : State) (k : Instr) (code : Nat) (kind : ChangeKind), u = atTime t s →
    ((∃ ws : List (Nat × Nat × W64), valueFlaws s ws = [] ∧ 1 ≤ ws.length ∧ ws.length ≤ 253 ∧
        ((k = .imgWrite t h ws ∧ code = 0x0401 ∧ kind = .imgWrite ws ∧ Admitted (.imgWrite ws) h code (4 + 16 * ws.length) [] u) ∨
         (k = .frcSet t h ws ∧ code = 0x0500 ∧ kind = .forceSet ws ∧ Admitted (.frcSet ws) h code (4 + 16 * ws.length) [] u ∧
           mostForced s h (.forceSet ws) ≤ 4096))) ∨
      (∃ (all : Bool) (tags : List Nat), missingTags s tags = [] ∧ tags.length ≤ 1015 ∧ k = .frcClear t h all tags ∧ code = 0x0501 ∧
        kind = .forceClear tags all ∧ Admitted (.frcClear all tags) h code (4 + 4 * tags.length) [] u)) →
    (passedEpoch s h = true → Leads k s fun s' => Answered h code stEpochGone [] u s' ∧ s'.img = s.img ∧ s'.keeper.changes = s.keeper.changes) ∧
    (passedEpoch s h = false → h.dryRun = true → Leads k s fun s' => OnlyAnswers h code [] u s' ∧ s'.keeper.changes = s.keeper.changes) ∧
    (passedEpoch s h = false → h.dryRun = false → journalFull u = false → FreshIds u → Leads k s fun s' => HeldFor h code u s' ∧
      s'.keeper.changes = s.keeper.changes ++
        [{ journal := s.keeper.lastJournal + 1, kind := kind, atEpoch := if h.atEpoch then some h.epoch else none }] ∧ s'.img = s.img ∧
      s'.ctl = s.ctl)) ∧
   (∀ (t : Nat) (h : ReqHdr) (s u : State) (ws : List (Nat × Nat × W64)), u = atTime t s → valueFlaws s ws ≠ [] → 1 ≤ ws.length → ws.length ≤ 253 →
    (Admitted (.imgWrite ws) h 0x0401 (4 + 16 * ws.length) [] u → Leads (.imgWrite t h ws) s fun s' => ∃ p, Answered h 0x0401 stBadArgument p u s' ∧
      p.length = 4 + 16 * (valueFlaws s ws).length ∧ s'.img = s.img ∧ s'.keeper.changes = s.keeper.changes ∧ s'.keeper.journal = s.keeper.journal) ∧
    (Admitted (.frcSet ws) h 0x0500 (4 + 16 * ws.length) [] u → Leads (.frcSet t h ws) s fun s' => ∃ p, Answered h 0x0500 stBadArgument p u s' ∧
      p.length = 4 + 16 * (valueFlaws s ws).length ∧ s'.img = s.img ∧ s'.keeper.changes = s.keeper.changes ∧ s'.keeper.journal = s.keeper.journal)) ∧
   (∀ (t : Nat) (h : ReqHdr) (s u : State), u = atTime t s →
    (∀ i x c interval, s.tow.catchup = none → tget i s.img.tags = some x → copyAt x s.img.mirrored = some c →
      poisonedAt s (slotAddress i (copyIsB x s.img.mirrored)) = false → 250 ≤ interval → interval ≤ 10000000 → s.keeper.subscriptions.length < 8 →
      withinQuota s 5 (hostUse s) (hostUse s + 4) = true → Admitted (.imgSubscribeStart interval [(i, 1)]) h 0x0402 16 [] u →
      Leads (.imgSubscribeStart t h interval [(i, 1)]) s fun s' => ∃ p, AnsweredAs h 0x0402 stOk 0 s.img.mirrored p u s' ∧ p.length = 44 ∧
        Field p 0 (le4 1) ∧ Field p 8 (le8 c.value.toNat) ∧ (∃ x ∈ s'.keeper.subscriptions, x.hdr = h ∧ x.ranges = [(i, 1)] ∧
          x.minInterval = usToNs interval ∧ x.lastEpoch = s.img.mirrored) ∧ (∀ n : Fin 8, h.src = .mailbox n → s'.keeper.mailboxes[n].subscribed = true)) ∧
    (Admitted .imgSubscribeStop h 0x0402 8 [] u → Leads (.imgSubscribeStop t h) s fun s' => Answered h 0x0402 stOk [] u s' ∧
      (∀ x ∈ s'.keeper.subscriptions, x.hdr.src ≠ h.src) ∧ (∀ n : Fin 8, h.src = .mailbox n → s'.keeper.mailboxes[n].subscribed = false)) ∧
    (∀ (src : Source) (x : Subscription), (s.keeper.subscriptions.find? fun x => x.hdr.src == src) = some x → keeperServes s = true →
      (∀ (n : Fin 8) bs, src = .mailbox n → s.keeper.mailboxes[n].dbRsp = false → readImage s s.img.mirrored (rangeTags x.ranges) = .slots bs →
        subscribedChange s x = true → x.lastNotified + x.minInterval ≤ nowOf u → Leads (.subscriptionNotify t src) s fun s' =>
          s'.keeper.mailboxes[n].dbRsp = true ∧ (∃ y ∈ s'.keeper.subscriptions, y.hdr = x.hdr ∧ y.lastNotified = nowOf u ∧ y.lastEpoch = s.img.mirrored ∧
            y.skipped = 0) ∧ s'.keeper.mailboxes[n].rsp = putBytes 0
              (mkResponse s x.hdr 0x0402 stOk 0 s.img.mirrored (le4 bs.length ++ le4 0 ++ bs.flatten ++ le4 0)) s.keeper.mailboxes[n].rsp) ∧
      (nowOf u < x.lastNotified + x.minInterval → exec (.subscriptionNotify t src) s = .next u) ∧
      (subscribedChange s x = false → exec (.subscriptionNotify t src) s = .next u)))

/-- R350, R351, R352, R356, R361, R362. SET.WRITE stages every entry or none. A commit takes the whole staged set at acceptance and waits its
turn; at its turn the checks pass it on or end it FAILED. The first copy takes the next generation with the resulting set, the second
makes both equal and ends the entry. A quota applies at once. -/
def Obligations.SettingsCommit : Prop :=
  ∀ (t : Nat) (h : ReqHdr) (s u : State), u = atTime t s →
    (∀ es set len, es ≠ [] → len = 4 + (es.map fun p => 8 + (p.2.length + 7) / 8 * 8).foldl (· + ·) 0 → Admitted (.setWrite es) h 0x0201 len [] u →
      set = es.foldl (fun m p => tput p.1 p.2 m) (stagedOf s h.session) →
      (es.filterMap (writeFinding h.pairScope) = [] → set.length ≤ 4096 → withinQuota s 5 (hostUse s) (hostUse (setStaged h.session set s)) = true →
        Leads (.setWrite t h es) s fun s' => Answered h 0x0201 stOk (le2 set.length ++ le2 0) u s' ∧ stagedOf s' h.session = set ∧
          s'.settings.committed = s.settings.committed ∧ s'.settings.commits = s.settings.commits) ∧
      (es.filterMap (writeFinding h.pairScope) ≠ [] → Leads (.setWrite t h es) s fun s' => ∃ p, Answered h 0x0201 stBadArgument p u s' ∧
        s'.settings = s.settings)) ∧
    (∀ set n, stagedOf s h.session = set → Admitted (.setCommit n) h 0x0202 4 [] u →
      (n = set.length → n ≠ 0 → passedEpoch s h = false → h.dryRun = false → journalFull u = false → FreshIds u →
        Leads (.setCommit t h n) s fun s' => HeldFor h 0x0202 u s' ∧ s'.settings.staged = tdel h.session s.settings.staged ∧
          s'.settings.committed = s.settings.committed ∧ ∃ c, s'.settings.commits = s.settings.commits ++ [c] ∧ c.entries = set ∧
            c.phase = .waiting ∧ c.journal = s.keeper.lastJournal + 1) ∧
      (n = 0 ∨ n ≠ set.length → Leads (.setCommit t h n) s fun s' => ∃ p, Answered h 0x0202 stBadArgument p u s' ∧ s'.settings = s.settings)) ∧
    (∀ c rest e, s.settings.commits = c :: rest → c.phase = .waiting → jget s c.journal = some e → ended e.state = false →
      ((commitVerdict u c.pairScope c.entries).1 = stOk → Leads (.setCommitTurnStart t c.journal) s fun s' =>
        s'.settings.commits.head? = some { c with phase := .checked } ∧ s'.settings.committed = s.settings.committed) ∧
      (∀ v, (commitVerdict u c.pairScope c.entries).1 = v → v ≠ stOk → Leads (.setCommitTurnStart t c.journal) s fun s' =>
        EntryEnds c.journal .failed v s' ∧ (∀ x ∈ s'.settings.commits, x.journal ≠ c.journal) ∧ s'.settings.committed = s.settings.committed)) ∧
    (∀ id c e, (s.settings.commits.find? fun c => c.journal == id) = some c → jget s id = some e → ended e.state = false →
      (c.phase = .checked → s.settings.copyA.valid = true → s.settings.copyB.valid = true → s.settings.unreadable = false →
        Leads (.settingsFirstCopyWritten t id) s fun s' => (∃ x, jget s' id = some x ∧ x.state = .running ∧ x.step = 1) ∧
          (copyInUse s').generation = max s.settings.copyA.generation s.settings.copyB.generation + 1 ∧
          (copyInUse s').entries = resulting s.settings.committed c.entries ∧
          (if s'.settings.usingB then s'.settings.copyA = s.settings.copyA else s'.settings.copyB = s.settings.copyB)) ∧
      (c.phase = .mirrored → Leads (.settingsSecondCopyWritten t id) s fun s' => EntryEnds id .done stOk s' ∧
        s'.settings.copyA = s'.settings.copyB ∧ s'.settings.copyA.entries = (copyInUse s).entries ∧ (∀ x ∈ s'.settings.commits, x.journal ≠ id) ∧
        s'.settings.committed = s.settings.committed)) ∧
    (hostUse s + 4 ≤ quotaOf s 5 → Admitted .setExportBuild h 0x0203 12 [] u → journalFull u = false → FreshIds u →
      Leads (.setExportBuild t h) s fun s' => Accepted h 0x0203 u s' ∧ s'.settings = s.settings ∧
        ∃ x ∈ s'.keeper.exports, x.journal = s.keeper.lastJournal + 1 ∧ x.session = h.session ∧ x.bytes.take 4 = le4 0x56534558) ∧
    (∀ cls quota, 1 ≤ cls → cls ≤ 6 → (∀ r, paramOf (P.quota cls) = some r → inRange r (P.quota cls) (le4 quota) = true) → quota < 2 ^ 32 →
      s.settings.committed.Pairwise (fun a b => a.1 < b.1) → Admitted (.quoSet cls quota) h 0x0F01 8 [] u →
      (h.dryRun = false → Leads (.quoSet t h cls quota) s fun s' => quotaOf s' cls = quota ∧
        Answered h 0x0F01 stOk (le4 (if quota < classUse s cls then 1 else 0) ++ le4 (classUse s cls)) u s' ∧ s'.ctl = s.ctl ∧ s'.img = s.img) ∧
      (h.dryRun = true → Leads (.quoSet t h cls quota) s fun s' => s'.settings = s.settings ∧
        Answered h 0x0F01 stOk (le4 (if quota < classUse s cls then 1 else 0) ++ le4 (classUse s cls)) u s'))

/-- R9, R310, R321, R322, R323, R328, R330, R387. A request that repeats the last one is answered from store and not run again; otherwise the
checks run in their order, and a refused request changes nothing but what is answered. A request rung while the Keeper does not serve waits; one that
finds the module dormant wakes it.
R293, R321, R330, R332, R368. A code that names no command is answered `UNKNOWN_COMMAND`. STATE.RELEASE takes a module from HELD to
`READY`, where the wait for a partner begins; unreadable settings keep it in HELD. -/
def Obligations.RequestChecks : Prop :=
  (∀ (t : Nat) (h : ReqHdr) (mask : Nat) (s u : State), u = atTime t s →
    (∀ n : Fin 8, h.src = .mailbox n → keeperServes s = false → s.path.powered = true → exec (.prgStop t h mask) s =
      .next { u with deferred := s.deferred ++ [(h, .prgStop mask)] }) ∧
    (∀ n : Fin 8, h.src = .mailbox n → keeperServes s = true → s.keeper.mailboxes[n].subscribed = true → exec (.prgStop t h mask) s = .next u) ∧
    (keeperServes s = true → mailboxBusy s (.prgStop mask) h = false → connBusy s h = false →
      (s.mod.power = .dormant → s.mod.waking = none → Leads (.prgStop t h mask) s fun s' => s'.mod.waking = some 4 ∧ s'.ctl = s.ctl ∧
        s'.keeper.changes = s.keeper.changes) ∧
      (s.mod.power ≠ .dormant →
        (∀ x, repeated h (arrived h u) = some x → exec (.prgStop t h mask) s = .next x) ∧
        (repeated h (arrived h u) = none → found h 0x0304 (arrived h u) = none →
          (sessionOf u h.src ≠ some h.session → sessionOf u h.src ≠ none → Leads (.prgStop t h mask) s fun s' =>
            OnlyAnswersWith h 0x0304 stBadHeader [] u s') ∧
          (sessionOf u h.src = some h.session → accessCode (accessOf u h.src) < 1 → Leads (.prgStop t h mask) s fun s' =>
            OnlyAnswersWith h 0x0304 stNotAuthorised [] u s') ∧
          (sessionOf u h.src = some h.session → 1 ≤ accessCode (accessOf u h.src) →
            (s.mod.state = .held → Leads (.prgStop t h mask) s fun s' => OnlyAnswersWith h 0x0304 stNotReleased [] u s') ∧
            (s.mod.state = .standby → Leads (.prgStop t h mask) s fun s' => OnlyAnswersWith h 0x0304 stRoleConflict [] u s') ∧
            (s.mod.state = .ready → Leads (.prgStop t h mask) s fun s' =>
              OnlyAnswersWith h 0x0304 stStateConflict (le2 4 ++ le2 0x40 ++ le4 0) u s') ∧
            (s.mod.state = .active → h.dryRun = true → Leads (.prgStop t h mask) s fun s' => ∃ p, Answered h 0x0304 stBadArgument p u s' ∧
              s'.ctl = s.ctl ∧ s'.keeper.changes = s.keeper.changes)))))) ∧
   (∀ (t : Nat) (h : ReqHdr) (s u : State), u = atTime t s →
    (∀ code, Admitted (.unknown code) (plainHdr h) code 0 [] u → Leads (.unknownCommandRequest t h code) s fun s' =>
      OnlyAnswersWith h code stUnknown [] u s') ∧
    (Admitted .stateRelease h 0x0103 0 [] u → s.mod.state = .held →
      (s.settings.unreadable = true → Leads (.stateRelease t h) s fun s' => OnlyAnswersWith h 0x0103 stSettings [] u s') ∧
      (s.settings.unreadable = false → usableLanes s < 2 → Leads (.stateRelease t h) s fun s' => ∃ p, Answered h 0x0103 stInternal p u s' ∧
        s'.mod = s.mod) ∧
      (s.settings.unreadable = false → 2 ≤ usableLanes s → Leads (.stateRelease t h) s fun s' => s'.mod.state = .ready ∧
        Answered h 0x0103 stOk [] s' s' ∧ s'.pair.releasedAt = some (nowOf u) ∧ s'.pair.joinWaitOver = false ∧ s'.img = s.img ∧
        s'.keeper.intStat.getLsbD intState = true ∧ (∀ ch : Fin 2, cfgFlag s (P.canEnable ch.val) = true → s.can[ch].mode = .disabled →
          s'.can[ch].mode = .normal))))

/-- R162, R175, R176, R324, R337. A planned switch, a proof and a release need a standby partner and no switch under way; then they are accepted and
wait for the point of the switch. A standby that releases goes to MAINTENANCE at once, and an active without a standby stops its tasks. -/
def Obligations.PairRequests : Prop :=
  ∀ (t : Nat) (h : ReqHdr) (s u : State), u = atTime t s → switching s = false → journalFull u = false → FreshIds u →
    (Admitted .pairSwitch h 0x0601 0 [] u →
      (partnerStandby s = true → partnerSuspect s = false → Leads (.pairSwitch t h) s fun s' => Accepted h 0x0601 u s' ∧ s'.mod = s.mod ∧
        s'.pair = s.pair ∧ s'.tow = { s.tow with switch := some { journal := s.keeper.lastJournal + 1, phase := .waitPoint, requestedAt := nowOf u, isProof := false, isRelease := false } }) ∧
      (partnerStandby s = false ∨ partnerSuspect s = true → Leads (.pairSwitch t h) s fun s' => OnlyAnswersWith h 0x0601 stRoleConflict [] u s')) ∧
    (Admitted .pairProof h 0x0602 0 [] u → partnerStandby s = true → partnerNap s = false → exchangeBusy s = false → updateBusy s = false →
      Leads (.pairProof t h) s fun s' => Accepted h 0x0602 u s' ∧ s'.mod = s.mod ∧ (∃ p, s'.tow.proof = some p ∧ p.step = 1 ∧ p.origin = true) ∧
        ∃ w, s'.tow.switch = some w ∧ w.isProof = true ∧ w.phase = .waitPoint) ∧
    (Admitted .pairRelease h 0x0603 0 [] u →
      (s.mod.state = .standby → Leads (.pairRelease t h) s fun s' => s'.mod.state = .maintenance ∧ s'.ctl.execs = [] ∧
        (∀ k : TaskId, s'.ctl.tasks[k].running = false) ∧ s'.tow.records = [] ∧ s'.keeper.lastJournal = s.keeper.lastJournal + 1) ∧
      (s.mod.state = .active → partnerStandby s = true → Leads (.pairRelease t h) s fun s' => Accepted h 0x0603 u s' ∧ s'.mod = s.mod ∧
        s'.ctl = s.ctl ∧ ∃ w, s'.tow.switch = some w ∧ w.isRelease = true ∧ w.phase = .waitPoint) ∧
      (s.mod.state = .active → partnerStandby s = false → Leads (.pairRelease t h) s fun s' => s'.mod.state = .active ∧ s'.ctl.execs = [] ∧
        (∀ k : TaskId, s'.ctl.tasks[k].running = false) ∧ ∃ w, s'.tow.switch = some w ∧ w.isRelease = true ∧ w.phase = .handing))

/-- R407, R408, R410, R411, R413, R417, R424. A mark waits in the queue of events and is answered with the sequence of its record. The oldest
staged event becomes the next record, in the permanent area while that has room; one that repeats the newest record only counts in the
tail; events that found the queue full are reported. An MRAM block whose program verify fails is replaced by the next spare. -/
def Obligations.EventsAndMarks : Prop :=
  ∀ (t : Nat) (h : ReqHdr) (s u : State), u = atTime t s →
    (∀ code data, 0xF000 ≤ code → code ≤ 0xFFFF → data.length = 32 → Admitted (.evtMark code data) h 0x0A01 40 [] u →
      (s.recd.staging.length < 32768 → Leads (.evtMark t h code data) s fun s' => s'.keeper.marks = s.keeper.marks ++ [some h] ∧
        ∃ e, s'.recd.staging = s.recd.staging ++ [e] ∧ e.code = code ∧ e.data = data) ∧
      (32768 ≤ s.recd.staging.length → Leads (.evtMark t h code data) s fun s' => Answered h 0x0A01 stOverQuota [] u s' ∧
        s'.recd.staging = s.recd.staging ∧ s'.recd.discarded = s.recd.discarded + 1)) ∧
    (∀ e rest, keeperServes s = true → s.recd.staging = e :: rest →
      (s.recd.discarded = 0 → validTail s = none → isRepeat s e = false →
        (Leads (.eventRecordWrite t []) s fun s' => s'.recd.staging = rest ∧ s'.recd.lastSeq = s.recd.lastSeq + 1 ∧
          s'.keeper.intStat.getLsbD intEvt = true ∧ tget (nextSlot s) s'.recd.slots = some (s.recd.lastSeq + 1, e) ∧
          (s.recd.permanentUsed < 4096 → s.sec.lifecycle ≠ .blank → tget s.recd.permanentUsed s'.recd.slots = some (s.recd.lastSeq + 1, e) ∧
            s'.recd.permanentUsed = s.recd.permanentUsed + 1)) ∧
        (∀ g r (n : Fin 8), s.keeper.marks = some g :: r → isMark e.code = true → g.src = .mailbox n → Leads (.eventRecordWrite t []) s fun s' =>
          Answered g 0x0A01 stOk (le4 (s.recd.lastSeq + 1)) u s' ∧ s'.keeper.marks = r)) ∧
      (isRepeat s e = true → s.recd.discarded = 0 → Leads (.eventRecordWrite t []) s fun s' => s'.recd.slots = s.recd.slots ∧
        s'.recd.lastSeq = s.recd.lastSeq ∧ s'.recd.staging = rest ∧ ∃ x, validTail s' = some x ∧ x.record = s.recd.lastSeq) ∧
      (s.recd.discarded ≠ 0 → rest.length < 32768 → Leads (.eventRecordWrite t []) s fun s' => s'.recd.discarded = 0 ∧
        ∃ x, s'.recd.staging = rest ++ [x] ∧ x.code = 0x0F01 ∧ x.lostBefore = true) ∧
      (∀ l, s.wear.mram.length < 16 → Leads (.eventRecordWrite t [{ mram := true, block := l, finding := .programVerify }]) s fun s' => ∃ b, s'.wear.mram = s.wear.mram ++ [b] ∧ b.logical = l ∧
        b.new = 1008 + s.wear.mram.length ∧ b.old = blockAt s.wear.mram l))

/-- R249, R252, R264, R288, R338. IO.RESET_FAULT takes the named channels' masked flags away, and lets a latched digital output go.
R282, R283, R284, R338. A trim sequence goes START, POINT1, POINT2, COMMIT; each step reads the converter and is answered with the raw
reading and the step reached. COMMIT makes both points the user set where they lie within tolerance; ABORT ends the sequence `PARTIAL`; a
step out of order conflicts. -/
def Obligations.FaultResetsAndTrim : Prop :=
  (∀ (t : Nat) (h : ReqHdr) (channels : W16) (mask : W32) (s u : State), u = atTime t s →
    (Admitted (.ioResetFault 0 channels mask) h 0x0802 8 [] u → Leads (.ioResetFault t h 0 channels mask) s fun s' =>
      Answered h 0x0802 stOk [] u s' ∧ ∀ c : Fin 16,
        (channels.getLsbD c.val = true → s'.field.dio[c].latchedOff = false ∧ s'.field.dio[c].retries = 0 ∧
          (s'.field.dio[c].overcurrentSeen = true ↔ s.field.dio[c].overcurrentSeen = true ∧ mask.getLsbD 5 = false) ∧
          (s'.field.dio[c].thermalSeen = true ↔ s.field.dio[c].thermalSeen = true ∧ mask.getLsbD 4 = false)) ∧
        (channels.getLsbD c.val = false → s'.field.dio[c] = s.field.dio[c])) ∧
    (channels.toNat < 256 → Admitted (.ioResetFault 1 channels mask) h 0x0802 8 [] u → Leads (.ioResetFault t h 1 channels mask) s fun s' =>
      Answered h 0x0802 stOk [] u s' ∧ s'.field.dio = s.field.dio ∧ ∀ c : Fin 8,
        (channels.getLsbD c.val = true → (s'.field.aio[c].mismatchSeen = true ↔ s.field.aio[c].mismatchSeen = true ∧ mask.getLsbD 7 = false) ∧
          (s'.field.aio[c].overrangeSeen = true ↔ s.field.aio[c].overrangeSeen = true ∧ mask.getLsbD 4 = false) ∧
          s'.field.aio[c].driven = s.field.aio[c].driven) ∧
        (channels.getLsbD c.val = false → s'.field.aio[c] = s.field.aio[c])) ∧
    (channels.toNat < 16 → Admitted (.ioResetFault 2 channels mask) h 0x0802 8 [] u → Leads (.ioResetFault t h 2 channels mask) s fun s' =>
      Answered h 0x0802 stOk [] u s' ∧ s'.field.aio = s.field.aio ∧ ∀ n : Fin 4, channels.getLsbD n.val = true →
        (s'.field.fi[n].failsafeSeen = true ↔ s.field.fi[n].failsafeSeen = true ∧ mask.getLsbD 1 = false) ∧
        (s'.field.fo[n].shortSeen = true ↔ s.field.fo[n].shortSeen = true ∧ mask.getLsbD 0 = false) ∧ s'.field.fo[n].level = s.field.fo[n].level)) ∧
   (∀ (t : Nat) (h : ReqHdr) (c : Fin 8) (s u : State), u = atTime t s →
    (trimAllowed u c = true → journalFull u = false → FreshIds u → Admitted (.ioTrimStart c.val) h 0x0801 12 [] u →
      Leads (.ioTrimStart t h c.val) s fun s' =>
        AnsweredAs h 0x0801 stAccepted (s.keeper.lastJournal + 1) (lastMirrored s) (trimPayload u c 1) u s' ∧
        (∃ x, s'.field.trim = s.field.trim ++ [x] ∧ x.channel = c ∧ x.step = 1 ∧ x.journal = s.keeper.lastJournal + 1) ∧
        (aioIsOut s c = true → s'.field.aio[c].driven = some (fromMillionths (nominalPoints (aioModeOf s c)).1) ∧ s'.field.aio[c].safeApplied = false)) ∧
    (trimAllowed u c = false → Admitted (.ioTrimStart c.val) h 0x0801 12 [] u → Leads (.ioTrimStart t h c.val) s fun s' =>
      ∃ p, OnlyAnswersWith h 0x0801 stStateConflict p u s') ∧
    (∀ x j, trimSeq s c = some x → x.journal = j →
      (∀ r, x.step = 1 → Admitted (.ioTrimPoint1 c.val r j) h 0x0801 12 [] u → Leads (.ioTrimPoint1 t h c.val r j) s fun s' =>
        AnsweredAs h 0x0801 stOk j (lastMirrored s) (trimPayload u c 2) u s' ∧ (∃ y ∈ s'.field.trim, y.journal = j ∧ y.step = 2 ∧
          y.raw1 = s.field.aio[c].raw ∧ y.ref1 = millionths (convert .real32 .real64 (r.setWidth 64))) ∧ s'.field.aio[c].user = s.field.aio[c].user ∧
        (aioIsOut s c = true → s'.field.aio[c].driven = some (fromMillionths (nominalPoints (aioModeOf s c)).2))) ∧
      (∀ r, x.step ≠ 1 → Admitted (.ioTrimPoint1 c.val r j) h 0x0801 12 [] u → Leads (.ioTrimPoint1 t h c.val r j) s fun s' =>
        ∃ p, OnlyAnswersWith h 0x0801 stStateConflict p u s') ∧
      (∀ r, x.step = 2 → Admitted (.ioTrimPoint2 c.val r j) h 0x0801 12 [] u → Leads (.ioTrimPoint2 t h c.val r j) s fun s' =>
        AnsweredAs h 0x0801 stOk j (lastMirrored s) (trimPayload u c 3) u s' ∧ (∃ y ∈ s'.field.trim, y.journal = j ∧ y.step = 3 ∧
          y.raw2 = s.field.aio[c].raw ∧ y.ref2 = millionths (convert .real32 .real64 (r.setWidth 64)) ∧ y.ref1 = x.ref1) ∧
        s'.field.aio = s.field.aio) ∧
      (∀ e, x.step = 3 → jget s j = some e → ended e.state = false → Admitted (.ioTrimCommit c.val j) h 0x0801 12 [] u →
        (pointsGood (aioModeOf s c) x = true → Leads (.ioTrimCommit t h c.val j) s fun s' => EntryEnds j .done stOk s' ∧
          s'.field.aio[c].user = some { ref1 := x.ref1, raw1 := x.raw1, ref2 := x.ref2, raw2 := x.raw2 } ∧ (∀ y ∈ s'.field.trim, y.journal ≠ j) ∧
          (aioIsOut s c = true → s'.field.aio[c].safeApplied = true) ∧ s'.field.aio[c].factory = s.field.aio[c].factory) ∧
        (pointsGood (aioModeOf s c) x = false → Leads (.ioTrimCommit t h c.val j) s fun s' => ∃ p, OnlyAnswersWith h 0x0801 stBadArgument p u s')) ∧
      (∀ e, jget s j = some e → ended e.state = false → x.channel = c → Admitted (.ioTrimAbort c.val j) h 0x0801 12 [] u →
        Leads (.ioTrimAbort t h c.val j) s fun s' => EntryEnds j .partly stPartial s' ∧ (∀ y ∈ s'.field.trim, y.journal ≠ j) ∧
          s'.field.aio[c].user = s.field.aio[c].user)))

/-- R293, R294, R296, R301, R302, R303, R306, R338. A batch joins the host queue where the channel is in NORMAL, drives the bus and has room for it.
Reading a queue takes the oldest records out, and the record that waited for the head follows. A mode change takes effect at once, and RESTART begins the
recovery of a channel in bus-off. -/
def Obligations.CanRequests : Prop :=
  ∀ (t : Nat) (h : ReqHdr) (ch : Fin 2) (s u : State), u = atTime t s →
    (∀ fs, frameFlaws s ch fs = [] → 1 ≤ fs.length → fs.length ≤ 64 → (fs.all fun f => f.1.data.length == frameLength f.1) = true →
      Admitted (.canSend ch.val fs) h 0x0901 (sendLength fs) [] u →
      (s.can[ch].mode = .normal → canYielded u ch = false → s.can[ch].hostQueue.length + fs.length ≤ 64 → journalFull u = false → FreshIds u →
        Leads (.canSend t h ch.val fs) s fun s' => Accepted h 0x0901 u s' ∧ s'.can[ch].hostQueue = s.can[ch].hostQueue ++
          (fs.map fun f => { frame := f.1, oneShot := f.2, journal := s.keeper.lastJournal + 1 }) ∧ ∀ o : Fin 2, o ≠ ch → s'.can[o] = s.can[o]) ∧
      (s.can[ch].mode ≠ .normal → Leads (.canSend t h ch.val fs) s fun s' => ∃ p, OnlyAnswersWith h 0x0901 stStateConflict p u s') ∧
      (s.can[ch].mode = .normal → canYielded u ch = true → Leads (.canSend t h ch.val fs) s fun s' => OnlyAnswersWith h 0x0901 stRoleConflict [] u s') ∧
      (s.can[ch].mode = .normal → canYielded u ch = false → 64 < s.can[ch].hostQueue.length + fs.length → Leads (.canSend t h ch.val fs) s fun s' =>
        OnlyAnswersWith h 0x0901 stOverQuota [] u s')) ∧
    (∀ (q : Fin 2) (n : Nat) got, 1 ≤ n → n ≤ 50 → got = s.can[ch].rxq[q].records.take n → Admitted (.canRecv ch.val q.val n) h 0x0902 4 [] u →
      Leads (.canRecv t h ch.val q.val n) s fun s' => (∃ p, Answered h 0x0902 stOk p u s' ∧ p.length = 8 + 80 * got.length ∧
          Field p 0 [byteOf got.length, byteOf s'.can[ch].rxq[q].records.length] ∧ ∀ r, got.head? = some r → Field p 8 (le8 r.time)) ∧
        (got ≠ [] → s'.can[ch].rxq[q].records = s.can[ch].rxq[q].records.drop n ++ s.can[ch].rxq[q].shadow.toList ∧
          s'.can[ch].rxq[q].shadow = none) ∧ (∀ o : Fin 2, o ≠ q → s'.can[ch].rxq[o] = s.can[ch].rxq[o])) ∧
    (∀ mode m adopt cands, canModeOf mode = some m → modeFlaws ch.val mode adopt cands = [] → (adopt = true → s.can[ch].rateFound = true) →
      Admitted (.canConfigSetMode ch.val mode adopt cands) h 0x0903 (8 + 8 * cands.length) [] u →
      Leads (.canConfigSetMode t h ch.val mode adopt cands) s fun s' => s'.can[ch].mode = m ∧ Answered h 0x0903 stOk (le4 (canStatusWord s' ch)) u s' ∧
        (m = .autobaud → s'.can[ch].candidates = cands ∧ s'.can[ch].candidate = 0 ∧ s'.can[ch].passes = 0)) ∧
    (Admitted (.canConfigRestart ch.val) h 0x0903 8 [] u →
      (s.can[ch].confinement = .busOff → s.can[ch].recovering = false → Leads (.canConfigRestart t h ch.val) s fun s' =>
        s'.can[ch] = { s.can[ch] with recovering := true } ∧ Answered h 0x0903 stOk (le4 (canStatusWord s' ch)) u s') ∧
      (s.can[ch].confinement ≠ .busOff → Leads (.canConfigRestart t h ch.val) s fun s' => ∃ p, OnlyAnswersWith h 0x0903 stStateConflict p u s'))

/-- R446, R450, R451, R459, R460, R461. A challenge gives a fresh nonce and cancels the fifth oldest. A signature over the nonce by a slot that holds
a key opens the level it names, and the nonce is spent whatever comes of it. A wrong signature is refused, the third within ten minutes
locks out. A signed lifecycle change takes effect when the fuses may be blown, and RETURNED wipes the module. -/
def Obligations.SignedUnlocks : Prop :=
  ∀ (t : Nat) (h : ReqHdr) (s u : State), u = atTime t s →
    (∀ level, level = 1 ∨ level = 2 → Admitted (.secChallenge level) h 0x0D00 4 [] u → Leads (.secChallenge t h level) s fun s' => ∃ n p,
      s'.sec.nonces = lastN 4 (s.sec.nonces ++ [n]) ∧ n.id = s.sec.nextNonce + 1 ∧ n.level = levelOfCode level ∧
      n.expires = nowOf u + msToNs (1000 * cfg s P.nonceLifetime) ∧ Answered h 0x0D00 stOk p u s' ∧ p.length = 40 ∧ Field p 0 (le4 n.id) ∧
      Field p 8 n.value ∧ s'.sec.session = s.sec.session) ∧
    (∀ id, Leads (.nonceExpiry t id) s fun s' => ∀ n, n ∈ s'.sec.nonces ↔ n ∈ s.sec.nonces ∧ (n.id ≠ id ∨ t < n.expires)) ∧
    (∀ x, s.sec.lockoutUntil = some x →
      (x ≤ t → Leads (.lockoutExpiry t) s fun s' => s'.sec.lockoutUntil = none ∧ s'.sec.session = s.sec.session) ∧
      (t < x → exec (.lockoutExpiry t) s = .next u)) ∧
    (∀ (id : Nat) (slot : Fin 4) (sig : List Byte) (n : Nonce) (level : DbgLevel), sig.length = 96 → Admitted (.secUnlock id slot.val sig) h 0x0D01 104 [] u →
      nonceOf u id = some n → level = unlockLevel u n slot.val sig →
      (unlockRefusal u (some n) slot.val level = none →
        (verifies u slot.val (signedMessage unlockPurpose (levelCode level) slot.val n.value) sig = true → Leads (.secUnlock t h id slot.val sig) s fun s' =>
          levelOf s' = level ∧ (∃ x, s'.sec.session = some x ∧ x.keySlot = some slot) ∧ (∀ m ∈ s'.sec.nonces, m.id ≠ id) ∧
          Answered h 0x0D01 stOk [byteOf (levelCode level)] s' s') ∧
        (verifies u slot.val (signedMessage unlockPurpose (levelCode level) slot.val n.value) sig = false → Leads (.secUnlock t h id slot.val sig) s fun s' =>
          Answered h 0x0D01 stNotAuthorised [] u s' ∧ s'.sec.session = s.sec.session ∧ (∀ m ∈ s'.sec.nonces, m.id ≠ id) ∧
          (s.sec.failures = [] → s'.sec.failures = [nowOf u] ∧ s'.sec.lockoutUntil = none) ∧
          (∀ a b, s.sec.failures = [a, b] → nowOf u ≤ a + 600000000000 → nowOf u ≤ b + 600000000000 →
            s'.sec.lockoutUntil = some (nowOf u + 600000000000)))) ∧
      (s.sec.lockoutUntil.isSome = true → Leads (.secUnlock t h id slot.val sig) s fun s' => Answered h 0x0D01 stNotAuthorised [] u s' ∧
        s'.sec.session = s.sec.session ∧ ∀ m ∈ s'.sec.nonces, m.id ≠ id)) ∧
    (∀ (target id : Nat) (slot : Fin 4) (sig : List Byte) (n : Nonce), sig.length = 96 → Admitted (.secLifecycle target slot.val id sig) h 0x0D02 104 [] u →
      targetLegal s target = true → nonceOf u id = some n → n.level = .invasive → (slotKey s slot.val).isSome = true → s.sec.lockoutUntil = none →
      (verifies u slot.val (signedMessage lifecyclePurpose target slot.val n.value) sig = false → Leads (.secLifecycle t h target slot.val id sig) s fun s' =>
        Answered h 0x0D02 stNotAuthorised [] u s' ∧ s'.sec.lifecycle = s.sec.lifecycle ∧ s'.sec.keys = s.sec.keys) ∧
      (verifies u slot.val (signedMessage lifecyclePurpose target slot.val n.value) sig = true → s.sec.fuses = [] → journalFull u = false → FreshIds u →
        (target = 2 → mayBlow s = true → Leads (.secLifecycle t h target slot.val id sig) s fun s' => Accepted h 0x0D02 u s' ∧
          s'.sec.lifecycle = .deployed ∧ s'.sec.session = none ∧ s'.sec.keys = s.sec.keys ∧ EntryEnds (s.keeper.lastJournal + 1) .done stOk s') ∧
        (target = 2 → mayBlow s = false → Leads (.secLifecycle t h target slot.val id sig) s fun s' => Accepted h 0x0D02 u s' ∧
          s'.sec.lifecycle = s.sec.lifecycle ∧ s'.sec.fuses = [.lifecycle (s.keeper.lastJournal + 1) 2 (byteOf slot.val)]) ∧
        (target = 3 → mayBlow s = true → Leads (.secLifecycle t h target slot.val id sig) s fun s' => s'.sec.wipePending = true ∧
          s'.mod.restarting = true ∧ s'.mod.state = .boot ∧ s'.img.tags = [] ∧ s'.basin.mem = [] ∧ s'.ctl.running = none ∧ s'.sec.deviceKey = false ∧
          s'.sec.fingerprint = [] ∧ (s'.sec.lifecycle = .returned ∨ s'.sec.wipeFailed = true))))

/-- R364, R376, R383, R384, R385, R387, R388. An allowed power state is entered at once; NAP stops the shadow executions, DORMANT takes the tow line down and
ends every session. A wake source that is enabled begins the wake, which ends in the default power state. An active with running tasks is
not restarted by command. Operating time counts while a feed is in range, and each full hour is kept. -/
def Obligations.PowerStates : Prop :=
  ∀ (t : Nat) (h : ReqHdr) (s u : State), u = atTime t s →
    (∀ code, Admitted (.pwrSetPowerState code) h 0x0E00 4 [] u →
      (code = 1 → s.mod.state ≠ .boot → s.mod.state ≠ .selftest → Leads (.pwrSetPowerState t h code) s fun s' => s'.mod.power = .doze ∧
        s'.mod.state = s.mod.state ∧ s'.ctl.execs = s.ctl.execs) ∧
      (code = 2 → s.mod.state = .standby → s.mod.power ≠ .nap → napBarred u = false → Leads (.pwrSetPowerState t h code) s fun s' =>
        s'.mod.power = .nap ∧ s'.mod.state = .standby ∧ s'.ctl.execs = []) ∧
      (code = 2 → s.mod.state = .ready → Leads (.pwrSetPowerState t h code) s fun s' => ∃ p, OnlyAnswersWith h 0x0E00 stStateConflict p u s') ∧
      (code = 2 → s.mod.state = .active → Leads (.pwrSetPowerState t h code) s fun s' => OnlyAnswersWith h 0x0E00 stRoleConflict [] u s') ∧
      (code = 3 → s.mod.state = .ready → s.pair.catchingUp = false → s.tow.catchup = none → Leads (.pwrSetPowerState t h code) s fun s' =>
        s'.mod.power = .dormant ∧ s'.tow.up = false ∧ s'.pair.paired = false ∧ s'.sec.session = none ∧ s'.keeper.conns = [])) ∧
    (Admitted .pwrSetRestart h 0x0E00 4 [] u →
      (s.mod.state = .active → runningTasks s ≠ [] → Leads (.pwrSetRestart t h) s fun s' => OnlyAnswersWith h 0x0E00 stRoleConflict [] u s') ∧
      (s.mod.state = .ready → Leads (.pwrSetRestart t h) s fun s' => s'.mod.restarting = true ∧ s'.mod.state = .boot ∧ s'.ctl.execs = [] ∧
        s'.sec.session = none ∧ s'.settings.staged = [] ∧ s'.settings.committed = s.settings.committed ∧ s'.sec.lifecycle = s.sec.lifecycle ∧
        s'.basin.mem = s.basin.mem)) ∧
    (s.mod.power = .dormant → s.mod.waking = none →
      (wakeEnabled s 3 = true → Leads (.wakePadLow t) s fun s' => s'.mod.waking = some 3 ∧ s'.mod.power = .dormant) ∧
      (∀ (port : Fin 3) vlan udp payload, vlan = cfg s P.vlan → udp = cfg s P.wakeUdpPort → wakeEnabled s 2 = true → s.sw.ports[port].linkUp = true → wakeMatches s payload = true →
        Leads (.wakeFrameReceive t port vlan udp payload) s fun s' => s'.mod.waking = some 2 ∧ s'.mod.power = .dormant) ∧
      (wakeEnabled s 3 = false → exec (.wakePadLow t) s = .next u)) ∧
    (∀ x, s.mod.power = .dormant → s.mod.waking = some x → NothingWaits s → Leads (.dormantWake t) s fun s' => s'.mod.power = defaultPower s ∧
      s'.mod.waking = none ∧ s'.tow.up = true ∧ s'.mod.state = s.mod.state ∧ s'.img = s.img) ∧
    (∀ n, s.path.powered = true → s.mod.power = .dormant → Leads (.dormantScrubWindow t n) s fun s' =>
      s' = { u with basin := { s.basin with scrubbed := s.basin.scrubbed + n } }) ∧
    (s.path.feeds[(0 : Fin 4)].inRange = true →
      (s.path.seconds < 3599 → Leads (.operatingHoursTick t) s fun s' => s' = { u with path := { s.path with seconds := s.path.seconds + 1 } }) ∧
      (3599 ≤ s.path.seconds → Leads (.operatingHoursTick t) s fun s' => s'.path.hours = sat32 (s.path.hours + 1) ∧ s'.path.seconds = 0 ∧
        s'.path.mramHours = s'.path.hours ∧ s'.path.powered = s.path.powered))

/-- R10, R21, R312, R364, R365, R366, R374, R386, R396, R438, R447, R464. A power-up, a restart, the return of a reference and the end of a hold bring a module whose boot
slot passes secure boot to `HELD`, with the epoch at the next multiple of 1,048,576 above the stored one; a module without a slot that
passes stays where it is. The Keeper's own restart leaves control as it is; its watchdog restarts the module. -/
def Obligations.StartsAndRestarts : Prop :=
  ∀ (t : Nat) (runs : List BistRun) (s u : State), u = atTime t s →
    (∀ (feed : Fin 2) (hi hold : Bool) (microF : Nat),
      (s.path.powered = true → exec (.powerUp t feed hi hold microF runs) s = .next u) ∧
      (s.path.powered = false → Boots s → (s.sec.lifecycle = .blank → hold = false) → Leads (.powerUp t feed hi hold microF runs) s fun s' =>
        s'.path.powered = true ∧ s'.mod.state = .held ∧ s'.mod.power = defaultPower s' ∧ s'.img.epoch = resumeEpoch s ∧ s'.img.mirrored = resumeEpoch s ∧
        s'.keeper.running = true ∧ s'.keeper.intStat.getLsbD intRestart = true ∧ s'.tow.up = true ∧
        s'.path.powerCycles = sat32 (max s.path.powerCycles s.path.mramCycles + 1)) ∧
      (s.path.powered = false → Boots s → s.sec.lifecycle = .blank → hold = true → Leads (.powerUp t feed hi hold microF runs) s fun s' =>
        s'.sec.bistHeld = true ∧ s'.mod.state = .selftest ∧ s'.keeper.running = true) ∧
      (s.path.powered = false → s.sec.wipeFailed = false → s.sec.lifecycle ≠ .blank → slotPasses s 0 = false → slotPasses s 1 = false →
        Leads (.powerUp t feed hi hold microF runs) s fun s' => s'.mod.state = s.mod.state ∧ s'.keeper.running = s.keeper.running ∧ s'.path.powered = true)) ∧
    (resetOver s = true → Boots s → NothingWaits s → s.upd.pairUpdate = none →
      (s.refs.latchedLost = false → Leads (.restart t runs) s fun s' => s'.mod.state = .held ∧ s'.mod.restarting = false ∧ s'.img.epoch = resumeEpoch s ∧
        s'.keeper.running = true ∧ s'.tow.up = true ∧ s'.path.powerCycles = s.path.powerCycles) ∧
      (s.refs.latchedLost = true → exec (.restart t runs) s = .next u) ∧
      (∀ r : Fin 2, s.refs.latchedLost = true → Leads (.refRecovered t r runs) s fun s' => s'.mod.state = .held ∧ s'.mod.restarting = false ∧
        s'.refs.latchedLost = false ∧ s'.refs.inUse = r ∧ s'.img.epoch = resumeEpoch s)) ∧
    (keeperUp s = true →
      (Leads (.keeperLockstepError t) s fun s' => s'.keeper.running = false ∧ s'.keeper.restartCause = 0 ∧ s'.keeper.conns = [] ∧ s'.sec.nonces = [] ∧
        s'.sec.session = none ∧ s'.ctl.execs = s.ctl.execs ∧ s'.ctl.tasks = s.ctl.tasks ∧ s'.img = s.img ∧ s'.field = s.field ∧ s'.mod = s.mod) ∧
      (Leads (.keeperWatchdog t) s fun s' => s'.mod.restarting = true ∧ s'.mod.state = .boot ∧ s'.keeper.restartCause = 1 ∧ s'.ctl.execs = [])) ∧
    (s.path.powered = true → s.keeper.running = false → s.mod.restarting = false → s.mod.state ≠ .boot → s.upd.fallback = none → NothingWaits s →
      Leads (.keeperRestartComplete t) s fun s' => s'.keeper.running = true ∧ s'.keeper.intStat.getLsbD intRestart = true ∧ s'.keeper.restartCause = 0 ∧
        s'.mod = s.mod ∧ s'.ctl = s.ctl ∧ s'.img = s.img) ∧
    (portUp s = true → s.sec.bistHeld = true → Boots s → NothingWaits s → Leads (.bistGo t runs) s fun s' => s'.mod.state = .held ∧
      s'.sec.bistHeld = false ∧ s'.img.epoch = resumeEpoch s)

/-- R391, R393, R394, R395, R396. A missing edge, or a deviation beyond the limit that the other reference does not share, switches every PLL to the other reference
and marks the failed one. With both lost the PLLs hold for a millisecond, then the die is held in reset. A failed crystal is recorded
once; the calibration of the towpath oscillator changes no state.
R12, R14, R15, R16, R420, R422, R423. The scrubber counts single and double errors by section and poisons a codeword with three or more, at
its logical address where the section serves one. A copied section of IMG, STATE or
MIRROR waits for an epoch step, any other takes over at once and the old section retires; a copy that fails its check retires the target. -/
def Obligations.ReferencesAndSections : Prop :=
  (∀ (t : Nat) (s u : State) (r : Fin 2), u = atTime t s → s.refs.inUse = r →
    (clocked s = true →
      (Leads (.refMissingEdge t) s fun s' => s'.refs.inUse = otherSlot r ∧ s'.refs.failed[r] = true ∧
        s'.refs.switchesAway[refClock r] = s.refs.switchesAway[refClock r] + 1 ∧ s'.mod = s.mod ∧ s'.ctl = s.ctl) ∧
      (∀ x y z : Int, lockedLong s t = false → s.refs.xtalFailed = false →
        (150000 < z.natAbs → y.natAbs ≤ 150000 → Leads (.refDeviationCheck t x y z) s fun s' => s'.refs.inUse = otherSlot r ∧
          s'.refs.failed[r] = true) ∧
        (150000 < z.natAbs → 150000 < y.natAbs → Leads (.refDeviationCheck t x y z) s fun s' => s'.refs.inUse = r ∧ s'.refs.failed = s.refs.failed) ∧
        (z.natAbs ≤ 150000 → Leads (.refDeviationCheck t x y z) s fun s' => s'.refs.inUse = r ∧ s'.refs.failed = s.refs.failed ∧
          s'.refs.deviationPpb[refClock r] = z)) ∧
      (∀ x y z : Int, lockedLong s t = true → 1000 * cfg s P.refLimit < x.natAbs → y.natAbs ≤ 1000 * cfg s P.refLimit →
        Leads (.refDeviationCheck t x y z) s fun s' => s'.refs.inUse = otherSlot r ∧ s'.refs.failed[r] = true) ∧
      (Leads (.refBothFail t) s fun s' => s' = { u with refs := { s.refs with holdSince := some t } })) ∧
    (clocked s = false → exec (.refMissingEdge t) s = .next u) ∧
    (∀ a, s.refs.holdSince = some a →
      (a + 1000000 ≤ t → Leads (.refHoldExpiry t) s fun s' => s'.refs.latchedLost = true ∧ s'.mod.state = .boot ∧ s'.mod.restarting = true ∧
        s'.refs.holdSince = none) ∧
      (t < a + 1000000 → exec (.refHoldExpiry t) s = .next u)) ∧
    (s.path.powered = true → s.refs.xtalFailed = false → Leads (.xtalFail t) s fun s' => s'.refs.xtalFailed = true ∧ s'.refs.inUse = r ∧
      s'.refs.failHours[(2 : Fin 3)] = s.path.hours) ∧
    exec (.rcCalibration t) s = .next u) ∧
   (∀ (t : Nat) (s u : State), u = atTime t s →
    (∀ p off w l x, s.path.powered = true → p < 512 → off < 0x20000 → logicalOf s p = some l → w = l * 0x20000 + off → x = p * 0x20000 + off →
      s.basin.poison.contains w = false →
      (Leads (.scrubCodeword t x 0) s fun s' => s' = { u with basin := { s.basin with scrubbed := s.basin.scrubbed + 1 } }) ∧
      (Leads (.scrubCodeword t x 1) s fun s' => (sectionOf s' p).singles = sat32 ((sectionOf s p).singles + 1) ∧
        (sectionOf s' p).doubles = (sectionOf s p).doubles ∧ s'.basin.poison = s.basin.poison) ∧
      (Leads (.scrubCodeword t x 2) s fun s' => (sectionOf s' p).doubles = sat32 ((sectionOf s p).doubles + 1) ∧
        s'.basin.poison = s.basin.poison) ∧
      (∀ n, 3 ≤ n → Leads (.scrubCodeword t x n) s fun s' => w ∈ s'.basin.poison ∧ s'.basin.uncorrectable = true ∧
        (sectionOf s' p).triples = min 0xFFFF ((sectionOf s p).triples + 1))) ∧
    (∀ p off x n, s.path.powered = true → p < 512 → off < 0x20000 → logicalOf s p = none → x = p * 0x20000 + off → 3 ≤ n →
      s.basin.idlePoison.contains x = false → Leads (.scrubCodeword t x n) s fun s' => x ∈ s'.basin.idlePoison ∧
        (sectionOf s' p).triples = min 0xFFFF ((sectionOf s p).triples + 1) ∧ s'.basin.poison = s.basin.poison) ∧
    (∀ m, s.basin.migration = some m → m.copied = false → s.basin.waiting = [] → m.source ≠ m.target →
      (mapsAtStep m.logical = true → Leads (.basinMigrationComplete t true) s fun s' => s'.basin.migration = some { m with copied := true } ∧
        s'.basin.map = s.basin.map ∧ s'.basin.sections = s.basin.sections) ∧
      (mapsAtStep m.logical = false → Leads (.basinMigrationComplete t true) s fun s' => s'.basin.migration = none ∧
        (sectionOf s' m.source).state = .retired ∧ (sectionOf s' m.target).state = .inUse ∧
        (m.target ≠ m.logical → physicalOf s' m.logical = m.target)) ∧
      (physicalOf s m.logical ≠ m.target → Leads (.basinMigrationComplete t false) s fun s' => (sectionOf s' m.target).state = .retired ∧
        s'.basin.map = s.basin.map)) ∧
    (s.basin.migration = none → exec (.basinMigrationComplete t true) s = .next u))

/-- R261, R451, R476, R478, R479, R480, R481. A feed in range leaves it below 16.7 V or above 33 V, and comes back above 17 V; one that returns after the flush restarts the module.
The field zone loses its monitor with the second supply only. With both feeds gone the journal, the events and the epoch are saved where the
capacitor is good and the die is held in reset; when the energy ends the module is off, and only what is not volatile is left. -/
def Obligations.FeedsAndHoldup : Prop :=
  ∀ (t : Nat) (s u : State), u = atTime t s →
    (∀ (n : Fin 2) (k : Fin 4) (v : Int), k.val = n.val → s.sec.fuses = [] → s.path.flushed = false →
      (s.path.feeds[k].inRange = true → Leads (.feedRangeChange t n v) s fun s' =>
        (s'.path.feeds[k].inRange = true ↔ 16700000 ≤ v ∧ v ≤ 33000000) ∧ s'.path.feeds[k].microV = v ∧ s'.mod = s.mod ∧
        ∀ o : Fin 4, o ≠ k → s'.path.feeds[o] = s.path.feeds[o]) ∧
      (s.path.feeds[k].inRange = false → s.path.feeds[k].microV < 32700000 → Leads (.feedRangeChange t n v) s fun s' =>
        (s'.path.feeds[k].inRange = true ↔ 17000000 < v ∧ v < 33000000) ∧ s'.mod = s.mod)) ∧
    (∀ (n : Fin 2), s.sec.fuses = [] → s.path.flushed = true → s.path.powered = true → (∀ o : Fin 4, s.path.feeds[o].inRange = false ∧ s.path.feeds[o].microV = 0) →
      Leads (.feedRangeChange t n 24000000) s fun s' => s'.path.flushed = false ∧ s'.mod.restarting = true ∧ s'.img = s.img) ∧
    (∀ (n m : Fin 2) (k o : Fin 4) (v : Int), n ≠ m → k.val = n.val + 2 → o.val = m.val + 2 → v < 16700000 → s.path.feeds[k].inRange = true →
      (s.path.feeds[o].inRange = true → Leads (.fieldSupplyChange t n v) s fun s' => s'.path.feeds[k].inRange = false ∧ s'.field = s.field) ∧
      (s.path.feeds[o].inRange = false → Leads (.fieldSupplyChange t n v) s fun s' => s'.path.feeds[k].inRange = false ∧
        s'.field.monitor = .unpowered ∧ (∀ c : Fin 16, s'.field.dio[c].driving = false ∧ s'.field.dio[c].debounced = false) ∧
        (∀ c : Fin 8, s'.field.aio[c].driven = none))) ∧
    (s.path.powered = true → feedsOut s = false → s.sec.fuses = [] → Leads (.holdupCharged t) s fun s' =>
      s' = { u with path := { s.path with charged := true } }) ∧
    (∀ c, s.path.powered = true → s.path.charged = true → Leads (.holdupMeasure t c) s fun s' => s'.path.measuredMicroF = c ∧
      (s'.path.weak = true ↔ c < 240)) ∧
    (s.path.powered = true → s.path.flushed = false → feedsOut s = true → Leads (.holdupFlush t) s fun s' => s'.path.flushed = true ∧
      s'.path.charged = false ∧ s'.keeper.running = false ∧ s'.mod.state = .boot ∧ s'.mod.restarting = false ∧ s'.ctl.execs = [] ∧
      (s.path.charged = true → s.path.weak = false → s'.img.stored = s.img.epoch ∧ s'.img.storedForces = s.img.forces.length ∧
        s'.path.savedJournal = s.keeper.journal.map (fun e => { e with attachment := [] }) ∧ s'.path.mramHours = s.path.hours)) ∧
    (s.path.powered = true → s.path.flushed = true → exec (.holdupFlush t) s = .next u) ∧
    (s.path.powered = true → feedsOut s = true → Leads .holdupExhausted s fun s' => s'.path.powered = false ∧ s'.mod = State.reset.mod ∧
      s'.img.tags = [] ∧ s'.img.stored = s.img.stored ∧ s'.basin.mem = [] ∧ s'.basin.map = s.basin.map ∧ s'.settings.copyA = s.settings.copyA ∧
      s'.settings.copyB = s.settings.copyB ∧ s'.recd.slots = s.recd.slots ∧ s'.recd.staging = [] ∧ s'.sec.lifecycle = s.sec.lifecycle ∧
      s'.sec.keys = s.sec.keys ∧ s'.sec.session = none ∧ s'.upd.slots = s.upd.slots ∧ s'.path.savedJournal = s.path.savedJournal) ∧
    (feedsOut s = false → exec .holdupExhausted s = .next s)

/-- R454, R455, R456, R464. BYPASS, IDCODE and DBG_STATUS need no level; every other instruction that lacks its level sets DENIED and does nothing else. A session opens at a level that
is available, a halt stops its target until the session closes, and what an INVASIVE instruction touches is tainted.
R12, R14, R445, R455. A debug read of the Basin shows the byte as the step stands; a write past the client regions reads back at its address and nowhere else. Beyond the Basin's
address space both stop. The key store reads as zero and keeps what it holds; a key goes into an empty slot only. -/
def Obligations.DebugAccess : Prop :=
  (∀ (t : Nat) (s u : State), u = atTime t s → portUp s = true →
    (Leads (.bypass t) s fun s' => s'.sec.denied = false ∧ s'.sec.tdo = [] ∧ s' = { u with sec := s'.sec }) ∧
    (Leads (.idcode t) s fun s' => s'.sec.denied = false ∧ s' = { u with sec := s'.sec } ∧
      s'.sec.tdo = le4 (Config.hwRev.toNat % 16 * 2 ^ 28 + 0x6416 * 2 ^ 12 + 0x7E1 * 2 + 1)) ∧
    (Leads (.dbgStatus t) s fun s' => s'.sec.denied = false ∧ s'.sec.tdo = le4 (dbgStatusWord s) ∧ s' = { u with sec := s'.sec }) ∧
    (observing s = true → (Leads (.samplePreload t) s fun s' => s'.sec.denied = false ∧ s'.sec.tdo.length = 8 ∧ s'.sec.pads = s.sec.pads) ∧
      (Leads (.trace t) s fun s' => s'.sec.tracing = true ∧ s'.sec.tainted = s.sec.tainted ∧ s'.ctl = s.ctl)) ∧
    (observing s = false → ∀ k, k = .samplePreload t ∨ k = .trace t ∨ k = .memRead t .basin 0 8 ∨ k = .memWrite t .basin 0 [0#8] ∨ k = .halt t none ∨
      k = .extest t [0#8] → Leads k s fun s' => s'.sec.denied = true ∧ s'.sec.tdo = [] ∧ s'.sec.tainted = s.sec.tainted ∧
        s' = { u with sec := s'.sec } ∧ levelOf s' = levelOf s) ∧
    (∀ level, level ≠ .closed →
      (atLeast (availableLevel s) level = true → Leads (.dbgOpen t level) s fun s' => levelOf s' = level ∧ s'.sec.denied = false ∧
        ∃ x, s'.sec.session = some x ∧ x.keySlot = none ∧ x.lastTck = nowOf u) ∧
      (atLeast (availableLevel s) level = false → Leads (.dbgOpen t level) s fun s' => s'.sec.denied = true ∧ levelOf s' = levelOf s)) ∧
    (invading s = true →
      (∀ pads, Leads (.extest t pads) s fun s' => s'.sec.pads = pads ∧ s'.sec.tainted = true) ∧
      (Leads (.halt t none) s fun s' => s'.sec.keeperHalted = true ∧ s'.sec.tainted = true ∧ s'.ctl = s.ctl) ∧
      (∀ l : LaneId, Leads (.halt t (some l)) s fun s' => s'.ctl.weave.lanes[l].debugHalt = true ∧ s'.sec.tainted = true ∧
        s'.sec.keeperHalted = s.sec.keeperHalted ∧ ∀ m : LaneId, m ≠ l → s'.ctl.weave.lanes[m] = s.ctl.weave.lanes[m])) ∧
    (∀ x, s.sec.session = some x → NothingWaits s →
      (Leads (.dbgClose t) s fun s' => s'.sec.session = none ∧ s'.sec.keeperHalted = false ∧ s'.sec.tracing = false ∧ s'.img = s.img ∧
        (∀ l : LaneId, s'.ctl.weave.lanes[l].debugHalt = false)) ∧
      (cfg s P.debugIdle ≠ 0 → x.lastTck + msToNs (60000 * cfg s P.debugIdle) ≤ t → Leads (.debugIdleExpiry t) s fun s' => s'.sec.session = none ∧
        s'.sec.keeperHalted = false ∧ (∀ l : LaneId, s'.ctl.weave.lanes[l].debugHalt = false)) ∧
      (t < x.lastTck + msToNs (60000 * cfg s P.debugIdle) → exec (.debugIdleExpiry t) s = .next u))) ∧
   (∀ (t : Nat) (s u : State), u = atTime t s → portUp s = true →
    (∀ a n, observing s = true → basinSize < a + n → exec (.memRead t .basin a n) s = .fault (.noSuchAddress (max a basinSize))) ∧
    (∀ a (bs : List Byte), invading s = true → basinSize < a + bs.length → exec (.memWrite t .basin a bs) s = .fault (.noSuchAddress (max a basinSize))) ∧
    (∀ a b, observing s = true → a < basinSize → basinByte s a = some b → Leads (.memRead t .basin a 1) s fun s' => s'.sec.tdo = [b] ∧
      s'.basin = s.basin ∧ s'.drawn = s.drawn) ∧
    (∀ a b, invading s = true → 0x11F00000 ≤ a → a < basinSize → s.basin.poison = [] → Memory.wf dropsZero s.basin.mem = true →
      Leads (.memWrite t .basin a [b]) s fun s' => basinByte s' a = some b ∧ s'.sec.tainted = true ∧ s'.img = s.img ∧
        (∀ c, c ≠ a → basinByte s' c = basinByte s c)) ∧
    (∀ (l : LaneId) a b, invading s = true → Leads (.memWrite t (.lane l) a [b]) s fun s' => tget a s'.sec.laneMem[l] = some b ∧ s'.basin = s.basin ∧
      ∀ m : LaneId, m ≠ l → s'.sec.laneMem[m] = s.sec.laneMem[m]) ∧
    (∀ n, observing s = true → Leads (.memRead t .keyStore 0 n) s fun s' => s'.sec.tdo = zeros n ∧ s'.sec.keys = s.sec.keys) ∧
    (∀ bs, invading s = true → Leads (.memWrite t .keyStore 0 bs) s fun s' => s'.sec.keys = s.sec.keys ∧ s'.basin = s.basin) ∧
    (∀ (slot : Fin 4) (key : List Byte), invading s = true →
      (keyBarred s slot key = true → Leads (.keyProgram t slot key) s fun s' => s'.sec.keys = s.sec.keys ∧ s'.sec.fuses = s.sec.fuses) ∧
      (keyBarred s slot key = false → s.sec.fuses = [] → mayBlow s = true → Leads (.keyProgram t slot key) s fun s' =>
        s'.sec.keys[slot].hash = some (sha384 key) ∧ s'.sec.keys[slot].copy1 = key ∧ s'.sec.keys[slot].copy2 = key ∧
        ∀ o : Fin 4, o ≠ slot → s'.sec.keys[o] = s.sec.keys[o]) ∧
      (keyBarred s slot key = false → s.sec.fuses = [] → mayBlow s = false → Leads (.keyProgram t slot key) s fun s' =>
        s'.sec.keys[slot].hash = none ∧ s'.sec.fuses = [.keyHash slot])))

/-- R369, R371, R372, R373, R375, R377, R379, R380. A self-test run is accepted where its part is free, in the foreground in HELD and MAINTENANCE; a foreground run of the Keeper's SRAM restarts the module. The
end of a run leaves its one result: PASS clears the block's flag, FAIL sets it; a run of BASIN_SECTIONS that can only read is INCOMPLETE. Background runs begin after their interval and, after one that was cut short, after the
retry time. -/
def Obligations.SelfTestRuns : Prop :=
  ∀ (t : Nat) (h : ReqHdr) (b : Fin 14) (s u : State), u = atTime t s →
    (Admitted (.bistRun b.val true) h 0x0B01 4 [] u → isBackground b = true →
      (s.bist[b].running = none → partFree s b = true → journalFull u = false → FreshIds u → Leads (.bistRun t h b.val true) s fun s' =>
        Accepted h 0x0B01 u s' ∧ s'.bist[b].running = some (s.keeper.lastJournal + 1, true) ∧
        (∀ l : LaneId, blockLaneOf b = some l → s'.ctl.weave.lanes[l].role = .spareTest)) ∧
      (partFree s b = false → Leads (.bistRun t h b.val true) s fun s' => ∃ p, OnlyAnswersWith h 0x0B01 stStateConflict p u s')) ∧
    (Admitted (.bistRun b.val false) h 0x0B01 4 [] u →
      (s.mod.state = .held ∨ s.mod.state = .maintenance → s.bist[b].running = none → sessionInvasive s = false → b ≠ blockKeeper →
        journalFull u = false → FreshIds u → Leads (.bistRun t h b.val false) s fun s' => Accepted h 0x0B01 u s' ∧
          s'.bist[b].running = some (s.keeper.lastJournal + 1, false) ∧ s'.mod = s.mod ∧ s'.ctl = s.ctl) ∧
      (s.mod.state = .held → s.bist[b].running = none → sessionInvasive s = false → b = blockKeeper → journalFull u = false →
        Leads (.bistRun t h b.val false) s fun s' => s'.mod.restarting = true ∧ s'.mod.state = .boot ∧ s'.keeper.restartCause = 3 ∧
          s'.bist[b].running = some (s.keeper.lastJournal + 1, false)) ∧
      (s.mod.state = .ready → Leads (.bistRun t h b.val false) s fun s' => OnlyAnswersWith h 0x0B01 stStateConflict (le2 4 ++ le2 0x108 ++ le4 0) u s')) ∧
    (∀ (r r' : BistRun) (j : Nat) (bg : Bool), r.block = b → r' = readOnlyRun (!bg) r u → s.mod.restarting = false →
      (s.bist[b].running = none → exec (.bistRunComplete t r []) s = .next u) ∧
      (s.bist[b].running = some (j, bg) → (bg = true → sessionInvasive s = false) → Leads (.bistRunComplete t r []) s fun s' =>
        s'.bist[b].running = none ∧ s'.bist[b].result = runResult r' ∧ s'.bist[b].signature = r.signature ∧ s'.bist[b].hours = s.path.hours ∧
        (runResult r' = .fail → s'.bist[b].flag = true) ∧ (runResult r' = .pass → s'.bist[b].flag = false) ∧
        (runResult r' = .incomplete → s'.bist[b].flag = s.bist[b].flag ∧ (bg = true → s'.bist[b].retryFrom = some t)) ∧
        (∀ e, jget s j = some e → ended e.state = false → EntryEnds j .done stOk s'))) ∧
    (b ≠ blockInject →
      (backgroundDue s b = true → s.bist[b].lastBackground + cfg s P.bgInterval ≤ s.path.hours → Leads (.bistBgIntervalExpiry t b) s fun s' =>
        s'.bist[b].running = some (0, true) ∧ s'.bist[b].lastBackground = s.path.hours ∧ s'.bist[b].result = s.bist[b].result) ∧
      (∀ a, backgroundDue s b = true → s.bist[b].retryFrom = some a →
        (a + msToNs (1000 * cfg s P.bgRetry) ≤ t → Leads (.bistBgRetryExpiry t b) s fun s' => s'.bist[b].running = some (0, true) ∧
          s'.bist[b].retryFrom = none) ∧
        (t < a + msToNs (1000 * cfg s P.bgRetry) → exec (.bistBgRetryExpiry t b) s = .next u))) ∧
    (backgroundDue s b = false → exec (.bistBgIntervalExpiry t b) s = .next u)

/-- R432, R433, R434, R435, R436. UPD.OPEN takes the lease and the header where no check refuses it. The holder's chunks come in order, another session's command is `LEASE_HELD`. APPLY rebuilds the
image, which becomes BUILT where its digest is the header's and empties the slot where not; ABANDON and an idle minute free the lease. -/
def Obligations.UpdateDelivery : Prop :=
  ∀ (t : Nat) (h : ReqHdr) (s u : State), u = atTime t s →
    (∀ hd : List Byte, hd.length = 256 → Admitted (.updOpen hd) h 0x0C00 256 [] u →
      (openRefusal u h hd = none → s.upd.applying = none → h.dryRun = false → Leads (.updOpen t h hd) s fun s' => Answered h 0x0C00 stOk [] u s' ∧
        s'.upd.header = hd ∧ (∃ l, s'.upd.lease = some l ∧ l.session = h.session ∧ l.lastCommand = nowOf u) ∧
        (s.upd.interrupted = none → s'.upd.delta = [] ∧ s'.upd.rebuilt = 0 ∧ s'.upd.slots = s.upd.slots)) ∧
      (openRefusal u h hd = none → s.upd.applying = none → h.dryRun = true → Leads (.updOpen t h hd) s fun s' => Answered h 0x0C00 stOk [] u s' ∧
        s'.upd.header = s.upd.header ∧ s'.upd.delta = s.upd.delta ∧ s'.upd.slots = s.upd.slots ∧ s'.img = s.img) ∧
      (∀ st p, openRefusal u h hd = some (st, p) → Leads (.updOpen t h hd) s fun s' => Answered h 0x0C00 st p u s' ∧ s'.upd.header = s.upd.header ∧
        s'.upd.delta = s.upd.delta ∧ s'.upd.slots = s.upd.slots)) ∧
    (∀ l, s.upd.lease = some l → l.session ≠ h.session → ∀ k code len i, Admitted i h code len [] u →
      ((∃ off data, k = .updChunk t h off data ∧ code = 0x0C01 ∧ len = 8 + data.length ∧ i = .updChunk off data) ∨
        (k = .updCloseApply t h ∧ code = 0x0C02 ∧ len = 4 ∧ i = .updCloseApply) ∨ (k = .updCloseAbandon t h ∧ code = 0x0C02 ∧ len = 4 ∧ i = .updCloseAbandon) ∨
        (∃ pr, k = .updActivate t h pr ∧ code = 0x0C03 ∧ len = 4 ∧ i = .updActivate pr)) →
      Leads k s fun s' => OnlyAnswersWith h code stLeaseHeld (leasePayload u l) u s') ∧
    (∀ l, s.upd.lease = some l → l.session = h.session → s.upd.applying = none →
      (∀ off data, Admitted (.updChunk off data) h 0x0C01 (8 + data.length) [] u →
        (off = s.upd.delta.length → off + data.length ≤ hdrDelta s.upd.header → Leads (.updChunk t h off data) s fun s' =>
          Answered h 0x0C01 stOk (le4 (off + data.length)) u s' ∧ s'.upd.delta = s.upd.delta ++ data ∧ s'.upd.header = s.upd.header) ∧
        (off ≠ s.upd.delta.length → Leads (.updChunk t h off data) s fun s' => ∃ p, Answered h 0x0C01 stBadArgument p u s' ∧
          s'.upd.delta = s.upd.delta)) ∧
      (Admitted .updCloseApply h 0x0C02 4 [] u → journalFull u = false → FreshIds u →
        (∀ out, rebuiltImage s = some out → Leads (.updCloseApply t h) s fun s' => Accepted h 0x0C02 u s' ∧
          s'.upd.slots[inactiveSlot s].state = .building ∧ s'.upd.applying = some (s.keeper.lastJournal + 1, 1) ∧ s'.upd.bootSlot = s.upd.bootSlot) ∧
        (rebuiltImage s = none → Leads (.updCloseApply t h) s fun s' => Accepted h 0x0C02 u s' ∧
          EntryEnds (s.keeper.lastJournal + 1) .failed stBadArgument s' ∧ s'.upd.slots = s.upd.slots ∧ s'.upd.lease = none)) ∧
      (Admitted .updCloseAbandon h 0x0C02 4 [] u → journalFull u = false → FreshIds u → Leads (.updCloseAbandon t h) s fun s' => Accepted h 0x0C02 u s' ∧
        EntryEnds (s.keeper.lastJournal + 1) .done stOk s' ∧ s'.upd.lease = none ∧ s'.upd.delta = [] ∧ s'.upd.header = [] ∧
        s'.upd.slots = s.upd.slots) ∧
      (l.lastCommand + 60000000000 ≤ t → Leads (.updateLeaseIdleExpiry t) s fun s' => s' = { u with upd := { s.upd with lease := none } }) ∧
      (t < l.lastCommand + 60000000000 → exec (.updateLeaseIdleExpiry t) s = .next u)) ∧
    (∀ j n out, s.upd.applying = some (j, n) → rebuiltImage s = some out →
      (sha384 out = hdrDigest s.upd.header → Leads (.imageRebuildComplete t []) s fun s' =>
        s'.upd.slots[inactiveSlot s] = { state := .built, header := s.upd.header, image := out } ∧ s'.upd.lease = none ∧ s'.upd.applying = none ∧
        s'.upd.lastStatus = stOk ∧ s'.upd.slots[s.upd.bootSlot] = s.upd.slots[s.upd.bootSlot]) ∧
      (sha384 out ≠ hdrDigest s.upd.header → Leads (.imageRebuildComplete t []) s fun s' =>
        s'.upd.slots[inactiveSlot s] = { state := .empty, header := [], image := [] } ∧ s'.upd.lastStatus = stBadArgument ∧
        s'.upd.slots[s.upd.bootSlot] = s.upd.slots[s.upd.bootSlot]))

/-- R437, R438, R439, R441, R443. Activation puts the inactive slot on trial with the other as fallback: the Keeper alone restarts for its own image, the module for a full one. A trial not
confirmed in time goes back. The pair procedure goes step by step and fails where a module is not where its step needs it within a minute. -/
def Obligations.UpdateActivation : Prop :=
  ∀ (t : Nat) (h : ReqHdr) (s u : State), u = atTime t s →
    (∀ x, s.upd.slots[inactiveSlot s] = x → heldByOther s h = none → Admitted (.updActivate false) h 0x0C03 4 [] u → journalFull u = false →
      (activateBarred s = true → Leads (.updActivate t h false) s fun s' => ∃ p, Answered h 0x0C03 stStateConflict p u s' ∧
        s'.upd.slots = s.upd.slots ∧ s'.upd.bootSlot = s.upd.bootSlot) ∧
      (activateBarred s = false → slotKind x = 0 → Leads (.updActivate t h false) s fun s' => s'.keeper.running = false ∧ s'.keeper.restartCause = 2 ∧
        s'.upd.bootSlot = inactiveSlot s ∧ s'.upd.fallback = some s.upd.bootSlot ∧ s'.upd.slots[inactiveSlot s].state = .trial ∧ s'.mod = s.mod ∧
        s'.img = s.img ∧ s'.ctl.execs = s.ctl.execs) ∧
      (activateBarred s = false → slotKind x ≠ 0 → s.mod.state = .active → runningTasks s ≠ [] → Leads (.updActivate t h false) s fun s' =>
        Answered h 0x0C03 stRoleConflict [] u s' ∧ s'.upd.slots = s.upd.slots ∧ s'.upd.bootSlot = s.upd.bootSlot) ∧
      (activateBarred s = false → slotKind x ≠ 0 → digestHolds x = true → s.mod.state = .held → Leads (.updActivate t h false) s fun s' => s'.mod.restarting = true ∧
        s'.mod.state = .boot ∧ s'.upd.bootSlot = inactiveSlot s ∧ s'.upd.fallback = some s.upd.bootSlot ∧
        s'.upd.slots[inactiveSlot s].state = .trial ∧ s'.keeper.restartCause = 2)) ∧
    (∀ a f, s.upd.trialSince = some a → s.upd.fallback = some f → f ≠ s.upd.bootSlot →
      (s.mod.restarting = false → s.keeper.running = false → s.path.powered = true → a + 250000000 ≤ t → Leads (.bootConfirmTimeout t) s fun s' =>
        s'.upd.bootSlot = f ∧ s'.upd.fallback = none ∧ s'.upd.trialSince = none ∧ s'.upd.slots[s.upd.bootSlot].state = .reverted ∧
        s'.upd.slots[f].state = .active) ∧
      (s.mod.restarting = false → t < a + 250000000 → exec (.bootConfirmTimeout t) s = .next u)) ∧
    (s.upd.trialSince = none → exec (.bootConfirmTimeout t) s = .next u) ∧
    (∀ p e, s.upd.pairUpdate = some p → s.mod.restarting = false → jget s p.journal = some e → ended e.state = false →
      (p.step = 1 → s.mod.state = .active →
        (partnerStandby s = true → exec (.pairUpdateStepAdvance t) s = .next u) ∧
        (partnerStandby s = false → Leads (.pairUpdateStepAdvance t) s fun s' => (∃ x, s'.upd.pairUpdate = some x ∧ x.step = 2 ∧ x.journal = p.journal) ∧
          ∃ x, jget s' p.journal = some x ∧ x.step = 2)) ∧
      (p.step = 1 → s.mod.state ≠ .active → Leads (.pairUpdateStepAdvance t) s fun s' => s'.upd.pairUpdate = none ∧
        EntryEnds p.journal .failed stInternal s') ∧
      (p.step = 3 → s.mod.state = .active → exec (.pairUpdateStepAdvance t) s = .next u) ∧
      (p.step = 4 → s.mod.state = .standby → Leads (.pairUpdateStepAdvance t) s fun s' => s'.upd.pairUpdate = none ∧ EntryEnds p.journal .done stOk s') ∧
      (p.activatedAt + 60000000000 ≤ t → Leads (.pairUpdateStepTimeout t) s fun s' => s'.upd.pairUpdate = none ∧
        EntryEnds p.journal .failed stInternal s') ∧
      (t < p.activatedAt + 60000000000 → exec (.pairUpdateStepTimeout t) s = .next u))
end

