-- ==== Sys2Proof/Laws/Memory.lean ====
section
/-! SUPPORT. Every operation on a memory keeps its canonical form: addresses strictly rising, and no zero byte where an unlisted
byte reads as zero. -/

namespace Sys2Proof.Machine
open Sys2Proof

/-- Writing a byte that is not a dropped zero keeps the canonical form. -/
theorem tput_wf (zero : Nat → Bool) (a : Nat) (b : Byte) (hb : (zero a && b == 0) = false) :
    ∀ m : Memory, Memory.wf zero m = true → Memory.wf zero (tput a b m) = true := by
  have key : ∀ (m : Memory) (k : Nat), (m.all fun p => decide (k < p.1)) = true → k < a → ((tput a b m).all fun p => decide (k < p.1)) = true := by
    intro m; induction m with
    | nil => intro k _ hk; simp [tput, hk]
    | cons p r ih =>
      intro k hk ha
      obtain ⟨x, v⟩ := p
      simp only [List.all_cons, Bool.and_eq_true, decide_eq_true_eq] at hk
      unfold tput; split
      · simp [ha, hk.1]; intro y w h; have := List.all_eq_true.1 hk.2 _ h; simpa using this
      · split
        · simp [ha]; intro y w h; have := List.all_eq_true.1 hk.2 _ h; simpa using this
        · simp only [List.all_cons, Bool.and_eq_true, decide_eq_true_eq]; exact ⟨hk.1, ih k hk.2 ha⟩
  intro m; induction m with
  | nil => intro _; unfold tput Memory.wf; rw [hb]; rfl
  | cons p r ih =>
    obtain ⟨x, v⟩ := p
    intro h
    have h' := h
    simp only [Memory.wf, Bool.and_eq_true] at h
    obtain ⟨⟨h1, h2⟩, h3⟩ := h
    unfold tput; split
    · rename_i hlt
      unfold Memory.wf
      rw [hb, h']
      simp only [List.all_cons, hlt, decide_true, Bool.true_and, Bool.not_false, Bool.and_true]
      refine List.all_eq_true.2 fun y hy => ?_
      have := List.all_eq_true.1 h2 y hy
      simp only [decide_eq_true_eq] at this ⊢; omega
    · split
      · rename_i heq; subst heq; unfold Memory.wf; rw [hb, h2, h3]; rfl
      · unfold Memory.wf; rw [ih h3, key r x h2 (by omega), h1]; rfl

/-- Removing an entry keeps a bound on the addresses. -/
theorem tdel_all {m : Memory} {k a : Nat} (h : (m.all fun p => decide (k < p.1)) = true) :
    ((tdel a m).all fun p => decide (k < p.1)) = true := by
  induction m with
  | nil => rfl
  | cons p r ih =>
    simp only [List.all_cons, Bool.and_eq_true] at h
    unfold tdel; split
    · exact h.2
    · simp only [List.all_cons, Bool.and_eq_true]; exact ⟨h.1, ih h.2⟩

/-- Removing an entry keeps the canonical form. -/
theorem tdel_wf (zero : Nat → Bool) (a : Nat) : ∀ m : Memory, Memory.wf zero m = true → Memory.wf zero (tdel a m) = true := by
  intro m; induction m with
  | nil => intro _; rfl
  | cons p r ih =>
    intro h
    simp only [Memory.wf, Bool.and_eq_true] at h
    unfold tdel; split
    · exact h.2
    · unfold Memory.wf; rw [h.1.1, tdel_all h.1.2, ih h.2]; rfl

/-- A debug write of a Basin byte keeps the canonical form. -/
theorem pokeByte_wf (a : Nat) (b : Byte) (m : Memory) (h : Memory.wf dropsZero m = true) : Memory.wf dropsZero (pokeByte a b m) = true := by
  unfold pokeByte; split
  · exact tdel_wf _ _ _ h
  · rename_i hn
    refine tput_wf _ _ _ ?_ _ h
    rw [Bool.eq_false_iff]; intro hx; apply hn; simpa using hx

/-- Bytes written into a mailbox half keep the canonical form. -/
theorem putBytes_wf (base : Nat) (bs : List Byte) (m : Memory) (h : Memory.wf (fun _ => true) m = true) :
    Memory.wf (fun _ => true) (putBytes base bs m) = true := by
  unfold putBytes
  generalize bs.zipIdx = xs
  induction xs generalizing m with
  | nil => exact h
  | cons x xs ih =>
    apply ih; dsimp only
    split
    · exact tdel_wf _ _ _ h
    · rename_i hn; exact tput_wf _ _ _ (by simpa using hn) _ h

end Sys2Proof.Machine
end

