-- ==== Sys2Proof/Laws/Kept.lean ====
section
/-! SUPPORT. What every operation of the machine keeps: the highest claim seen never falls, canonical memories stay canonical,
and, but for the operations of epoch steps, of the pair and of starts, the epoch stays. One lemma for each operation and relation,
in the order in which the operations use one another. -/

namespace Sys2Proof.Machine

set_option linter.all false

open Sys2Proof

/-- What every operation keeps: the highest claim does not fall, canonical memories stay so, and the queue of waiting commands stays. -/
structure Sound (s t : State) : Prop where
  claim : s.pair.highestClaim ≤ t.pair.highestClaim
  canonical : Canonical s → Canonical t
  queue : t.pending = s.pending

theorem Sound.refl (s : State) : Sound s s := ⟨Nat.le_refl _, id, rfl⟩
theorem Sound.trans {s t u : State} (h : Sound s t) (k : Sound t u) : Sound s u := ⟨Nat.le_trans h.claim k.claim, k.canonical ∘ h.canonical, k.queue.trans h.queue⟩

theorem Sound.of_eq {s t u : State} (h : Sound s t) (h1 : u.pair = t.pair) (h2 : u.basin = t.basin) (h3 : u.keeper = t.keeper)
    (h4 : u.pending = t.pending := by rfl) : Sound s u :=
  h.trans ⟨Nat.le_of_eq (by rw [h1]), by unfold Canonical; rw [h2, h3]; exact id, h4⟩

/-- The epoch stays. -/
def EpochStays (s t : State) : Prop := t.img.epoch = s.img.epoch

@[simp] theorem onMod_sound {s0 s : State} (g) (h : Sound s0 s) : Sound s0 (onMod g s) := h.of_eq rfl rfl rfl
@[simp] theorem onMod_epoch {s0 s : State} (g) (h : EpochStays s0 s) : EpochStays s0 (onMod g s) := h
@[simp] theorem onCtl_sound {s0 s : State} (g) (h : Sound s0 s) : Sound s0 (onCtl g s) := h.of_eq rfl rfl rfl
@[simp] theorem onCtl_epoch {s0 s : State} (g) (h : EpochStays s0 s) : EpochStays s0 (onCtl g s) := h
@[simp] theorem onTow_sound {s0 s : State} (g) (h : Sound s0 s) : Sound s0 (onTow g s) := h.of_eq rfl rfl rfl
@[simp] theorem onTow_epoch {s0 s : State} (g) (h : EpochStays s0 s) : EpochStays s0 (onTow g s) := h
@[simp] theorem onNet_sound {s0 s : State} (g) (h : Sound s0 s) : Sound s0 (onNet g s) := h.of_eq rfl rfl rfl
@[simp] theorem onNet_epoch {s0 s : State} (g) (h : EpochStays s0 s) : EpochStays s0 (onNet g s) := h
@[simp] theorem onSw_sound {s0 s : State} (g) (h : Sound s0 s) : Sound s0 (onSw g s) := h.of_eq rfl rfl rfl
@[simp] theorem onSw_epoch {s0 s : State} (g) (h : EpochStays s0 s) : EpochStays s0 (onSw g s) := h
@[simp] theorem onTime_sound {s0 s : State} (g) (h : Sound s0 s) : Sound s0 (onTime g s) := h.of_eq rfl rfl rfl
@[simp] theorem onTime_epoch {s0 s : State} (g) (h : EpochStays s0 s) : EpochStays s0 (onTime g s) := h
@[simp] theorem onField_sound {s0 s : State} (g) (h : Sound s0 s) : Sound s0 (onField g s) := h.of_eq rfl rfl rfl
@[simp] theorem onField_epoch {s0 s : State} (g) (h : EpochStays s0 s) : EpochStays s0 (onField g s) := h
@[simp] theorem onSettings_sound {s0 s : State} (g) (h : Sound s0 s) : Sound s0 (onSettings g s) := h.of_eq rfl rfl rfl
@[simp] theorem onSettings_epoch {s0 s : State} (g) (h : EpochStays s0 s) : EpochStays s0 (onSettings g s) := h
@[simp] theorem onPath_sound {s0 s : State} (g) (h : Sound s0 s) : Sound s0 (onPath g s) := h.of_eq rfl rfl rfl
@[simp] theorem onPath_epoch {s0 s : State} (g) (h : EpochStays s0 s) : EpochStays s0 (onPath g s) := h
@[simp] theorem onRefs_sound {s0 s : State} (g) (h : Sound s0 s) : Sound s0 (onRefs g s) := h.of_eq rfl rfl rfl
@[simp] theorem onRefs_epoch {s0 s : State} (g) (h : EpochStays s0 s) : EpochStays s0 (onRefs g s) := h
@[simp] theorem onRecd_sound {s0 s : State} (g) (h : Sound s0 s) : Sound s0 (onRecd g s) := h.of_eq rfl rfl rfl
@[simp] theorem onRecd_epoch {s0 s : State} (g) (h : EpochStays s0 s) : EpochStays s0 (onRecd g s) := h
@[simp] theorem onWear_sound {s0 s : State} (g) (h : Sound s0 s) : Sound s0 (onWear g s) := h.of_eq rfl rfl rfl
@[simp] theorem onWear_epoch {s0 s : State} (g) (h : EpochStays s0 s) : EpochStays s0 (onWear g s) := h
@[simp] theorem onUpd_sound {s0 s : State} (g) (h : Sound s0 s) : Sound s0 (onUpd g s) := h.of_eq rfl rfl rfl
@[simp] theorem onUpd_epoch {s0 s : State} (g) (h : EpochStays s0 s) : EpochStays s0 (onUpd g s) := h
@[simp] theorem onSec_sound {s0 s : State} (g) (h : Sound s0 s) : Sound s0 (onSec g s) := h.of_eq rfl rfl rfl
@[simp] theorem onSec_epoch {s0 s : State} (g) (h : EpochStays s0 s) : EpochStays s0 (onSec g s) := h
@[simp] theorem onImg_sound {s0 s : State} (g) (h : Sound s0 s) : Sound s0 (onImg g s) := h.of_eq rfl rfl rfl

@[simp] theorem onPair_sound {s0 s : State} (g : Pair → Pair) (hg : ∀ p : Pair, p.highestClaim ≤ (g p).highestClaim) (h : Sound s0 s) :
    Sound s0 (onPair g s) := h.trans ⟨hg _, id, rfl⟩
@[simp] theorem onKeeper_sound {s0 s : State} (g : Keeper → Keeper) (hg : ∀ k : Keeper, (g k).mailboxes = k.mailboxes) (h : Sound s0 s) :
    Sound s0 (onKeeper g s) := h.trans ⟨Nat.le_refl _, fun c => ⟨c.1, by simp only [onKeeper, hg]; exact c.2⟩, rfl⟩
@[simp] theorem onBasin_sound {s0 s : State} (g : Basin → Basin) (hg : ∀ b : Basin, (g b).mem = b.mem) (h : Sound s0 s) :
    Sound s0 (onBasin g s) := h.trans ⟨Nat.le_refl _, fun c => ⟨by simp only [onBasin, hg]; exact c.1, c.2⟩, rfl⟩
@[simp] theorem onPair_epoch {s0 s : State} (g) (h : EpochStays s0 s) : EpochStays s0 (onPair g s) := h
@[simp] theorem onKeeper_epoch {s0 s : State} (g) (h : EpochStays s0 s) : EpochStays s0 (onKeeper g s) := h
@[simp] theorem onBasin_epoch {s0 s : State} (g) (h : EpochStays s0 s) : EpochStays s0 (onBasin g s) := h
@[simp] theorem onImg_epoch {s0 s : State} (g : Image → Image) (hg : ∀ i : Image, (g i).epoch = i.epoch) (h : EpochStays s0 s) :
    EpochStays s0 (onImg g s) := (hg _).trans h
@[simp] theorem onMailbox_sound {s0 s : State} (n : Fin 8) (g : Mailbox → Mailbox)
    (hg : ∀ b : Mailbox, (Memory.wf (fun _ => true) b.req = true ∧ Memory.wf (fun _ => true) b.rsp = true) →
      (Memory.wf (fun _ => true) (g b).req = true ∧ Memory.wf (fun _ => true) (g b).rsp = true)) (h : Sound s0 s) :
    Sound s0 (onMailbox n g s) := by
  refine h.trans ⟨Nat.le_refl _, fun c => ⟨c.1, fun m => ?_⟩, rfl⟩
  simp only [onMailbox, onKeeper, vmod]
  by_cases e : n = m
  · subst e; simpa using hg _ (c.2 n)
  · have : (n : Nat) ≠ (m : Nat) := fun h => e (Fin.ext h)
    simpa [Vector.getElem_set, this] using c.2 m
@[simp] theorem onMailbox_epoch {s0 s : State} (n g) (h : EpochStays s0 s) : EpochStays s0 (onMailbox n g s) := h
@[simp] theorem ite_sound {s0 a b : State} (c : Prop) [Decidable c] (h : Sound s0 a) (k : Sound s0 b) : Sound s0 (if c then a else b) := by
  split; exact h; exact k
@[simp] theorem ite_epoch {s0 a b : State} (c : Prop) [Decidable c] (h : EpochStays s0 a) (k : EpochStays s0 b) : EpochStays s0 (if c then a else b) := by
  split; exact h; exact k
theorem foldl_sound {α : Type} {s0 : State} (f : State → α → State) (hf : ∀ s a, Sound s0 s → Sound s0 (f s a)) :
    ∀ (xs : List α) (s : State), Sound s0 s → Sound s0 (xs.foldl f s) := by
  intro xs; induction xs with
  | nil => intro s h; exact h
  | cons x xs ih => intro s h; exact ih _ (hf _ _ h)
theorem foldl_epoch {α : Type} {s0 : State} (f : State → α → State) (hf : ∀ s a, EpochStays s0 s → EpochStays s0 (f s a)) :
    ∀ (xs : List α) (s : State), EpochStays s0 s → EpochStays s0 (xs.foldl f s) := by
  intro xs; induction xs with
  | nil => intro s h; exact h
  | cons x xs ih => intro s h; exact ih _ (hf _ _ h)
@[simp] theorem Sound.self (s : State) : Sound s s := Sound.refl s
@[simp] theorem EpochStays.self (s : State) : EpochStays s s := rfl

@[simp] theorem noteStream_sound {s0 : State} : ∀ x1 s, Sound s0 s → Sound s0 (noteStream x1 s) := by
  intro x1 s h
  unfold noteStream
  try dsimp only
  repeat' split
  all_goals first | with_reducible exact h | simp +contextual (maxDischargeDepth := 50) [h, foldl_sound]

@[simp] theorem noteStream_epoch {s0 : State} : ∀ x1 s, EpochStays s0 s → EpochStays s0 (noteStream x1 s) := by
  intro x1 s h
  unfold noteStream
  try dsimp only
  repeat' split
  all_goals first | with_reducible exact h | simp +contextual (maxDischargeDepth := 50) [h, foldl_epoch]

@[simp] theorem noteArrivals_sound {s0 : State} : ∀ x1 x2 x3 s, Sound s0 s → Sound s0 (noteArrivals x1 x2 x3 s) := by
  intro x1 x2 x3 s h
  unfold noteArrivals
  try dsimp only
  repeat' split
  all_goals first | with_reducible exact h | simp +contextual (maxDischargeDepth := 50) [h, foldl_sound]

@[simp] theorem noteArrivals_epoch {s0 : State} : ∀ x1 x2 x3 s, EpochStays s0 s → EpochStays s0 (noteArrivals x1 x2 x3 s) := by
  intro x1 x2 x3 s h
  unfold noteArrivals
  try dsimp only
  repeat' split
  all_goals first | with_reducible exact h | simp +contextual (maxDischargeDepth := 50) [h, foldl_epoch]

@[simp] theorem clearPoison_sound {s0 : State} : ∀ x1 x2 s, Sound s0 s → Sound s0 (clearPoison x1 x2 s) := by
  intro x1 x2 s h
  unfold clearPoison
  try dsimp only
  repeat' split
  all_goals first | with_reducible exact h | simp +contextual (maxDischargeDepth := 50) [h, foldl_sound]

@[simp] theorem clearPoison_epoch {s0 : State} : ∀ x1 x2 s, EpochStays s0 s → EpochStays s0 (clearPoison x1 x2 s) := by
  intro x1 x2 s h
  unfold clearPoison
  try dsimp only
  repeat' split
  all_goals first | with_reducible exact h | simp +contextual (maxDischargeDepth := 50) [h, foldl_epoch]

@[simp] theorem landInput_sound {s0 : State} : ∀ x1 x2 x3 x4 s, Sound s0 s → Sound s0 (landInput x1 x2 x3 x4 s) := by
  intro x1 x2 x3 x4 s h
  unfold landInput
  try dsimp only
  repeat' split
  all_goals first | with_reducible exact h | simp +contextual (maxDischargeDepth := 50) [h, foldl_sound]

@[simp] theorem landInput_epoch {s0 : State} : ∀ x1 x2 x3 x4 s, EpochStays s0 s → EpochStays s0 (landInput x1 x2 x3 x4 s) := by
  intro x1 x2 x3 x4 s h
  unfold landInput
  try dsimp only
  repeat' split
  all_goals first | with_reducible exact h | simp +contextual (maxDischargeDepth := 50) [h, foldl_epoch]

@[simp] theorem noteUnsent_sound {s0 : State} : ∀ x1 s, Sound s0 s → Sound s0 (noteUnsent x1 s) := by
  intro x1 s h
  unfold noteUnsent
  try dsimp only
  repeat' split
  all_goals first | with_reducible exact h | simp +contextual (maxDischargeDepth := 50) [h, foldl_sound]

@[simp] theorem noteUnsent_epoch {s0 : State} : ∀ x1 s, EpochStays s0 s → EpochStays s0 (noteUnsent x1 s) := by
  intro x1 s h
  unfold noteUnsent
  try dsimp only
  repeat' split
  all_goals first | with_reducible exact h | simp +contextual (maxDischargeDepth := 50) [h, foldl_epoch]

@[simp] theorem raiseInt_sound {s0 : State} : ∀ x1 s, Sound s0 s → Sound s0 (raiseInt x1 s) := by
  intro x1 s h
  unfold raiseInt
  try dsimp only
  repeat' split
  all_goals first | with_reducible exact h | simp +contextual (maxDischargeDepth := 50) [h, foldl_sound]

@[simp] theorem raiseInt_epoch {s0 : State} : ∀ x1 s, EpochStays s0 s → EpochStays s0 (raiseInt x1 s) := by
  intro x1 s h
  unfold raiseInt
  try dsimp only
  repeat' split
  all_goals first | with_reducible exact h | simp +contextual (maxDischargeDepth := 50) [h, foldl_epoch]

@[simp] theorem jmod_sound {s0 : State} : ∀ x1 x2 s, Sound s0 s → Sound s0 (jmod x1 x2 s) := by
  intro x1 x2 s h
  unfold jmod
  try dsimp only
  repeat' split
  all_goals first | with_reducible exact h | simp +contextual (maxDischargeDepth := 50) [h, foldl_sound]

@[simp] theorem jmod_epoch {s0 : State} : ∀ x1 x2 s, EpochStays s0 s → EpochStays s0 (jmod x1 x2 s) := by
  intro x1 x2 s h
  unfold jmod
  try dsimp only
  repeat' split
  all_goals first | with_reducible exact h | simp +contextual (maxDischargeDepth := 50) [h, foldl_epoch]

@[simp] theorem deliver_sound {s0 s : State} (n : Fin 8) (r : Response) (h : Sound s0 s) : Sound s0 (deliver n r s) := by
  unfold deliver; split
  · exact onMailbox_sound _ _ (fun b k => k) h
  · exact raiseInt_sound _ _ (onMailbox_sound _ _ (fun b k => ⟨k.1, putBytes_wf _ _ _ k.2⟩) h)

@[simp] theorem deliver_epoch {s0 : State} : ∀ x1 x2 s, EpochStays s0 s → EpochStays s0 (deliver x1 x2 s) := by
  intro x1 x2 s h
  unfold deliver
  try dsimp only
  repeat' split
  all_goals first | with_reducible exact h | simp +contextual (maxDischargeDepth := 50) [h, foldl_epoch]

@[simp] theorem answer_sound {s0 : State} : ∀ x1 x2 s, Sound s0 s → Sound s0 (answer x1 x2 s) := by
  intro x1 x2 s h
  unfold answer
  try dsimp only
  repeat' split
  all_goals first | with_reducible exact h | simp +contextual (maxDischargeDepth := 50) [h, foldl_sound]

@[simp] theorem answer_epoch {s0 : State} : ∀ x1 x2 s, EpochStays s0 s → EpochStays s0 (answer x1 x2 s) := by
  intro x1 x2 s h
  unfold answer
  try dsimp only
  repeat' split
  all_goals first | with_reducible exact h | simp +contextual (maxDischargeDepth := 50) [h, foldl_epoch]

@[simp] theorem answerHeld_sound {s0 : State} : ∀ x1 s, Sound s0 s → Sound s0 (answerHeld x1 s) := by
  intro x1 s h
  unfold answerHeld
  try dsimp only
  repeat' split
  all_goals first | with_reducible exact h | simp +contextual (maxDischargeDepth := 50) [h, foldl_sound]

@[simp] theorem answerHeld_epoch {s0 : State} : ∀ x1 s, EpochStays s0 s → EpochStays s0 (answerHeld x1 s) := by
  intro x1 s h
  unfold answerHeld
  try dsimp only
  repeat' split
  all_goals first | with_reducible exact h | simp +contextual (maxDischargeDepth := 50) [h, foldl_epoch]

@[simp] theorem jend_sound {s0 : State} : ∀ x1 x2 x3 s, Sound s0 s → Sound s0 (jend x1 x2 x3 s) := by
  intro x1 x2 x3 s h
  unfold jend
  try dsimp only
  repeat' split
  all_goals first | with_reducible exact h | simp +contextual (maxDischargeDepth := 50) [h, foldl_sound]

@[simp] theorem jend_epoch {s0 : State} : ∀ x1 x2 x3 s, EpochStays s0 s → EpochStays s0 (jend x1 x2 x3 s) := by
  intro x1 x2 x3 s h
  unfold jend
  try dsimp only
  repeat' split
  all_goals first | with_reducible exact h | simp +contextual (maxDischargeDepth := 50) [h, foldl_epoch]

@[simp] theorem markMirrored_sound {s0 : State} : ∀ x1 s, Sound s0 s → Sound s0 (markMirrored x1 s) := by
  intro x1 s h
  unfold markMirrored
  try dsimp only
  repeat' split
  all_goals first | with_reducible exact h | simp +contextual (maxDischargeDepth := 50) [h, foldl_sound]

@[simp] theorem markMirrored_epoch {s0 : State} : ∀ x1 s, EpochStays s0 s → EpochStays s0 (markMirrored x1 s) := by
  intro x1 s h
  unfold markMirrored
  try dsimp only
  repeat' split
  all_goals first | with_reducible exact h | simp +contextual (maxDischargeDepth := 50) [h, foldl_epoch]

@[simp] theorem settleMirror_sound {s0 : State} : ∀ s, Sound s0 s → Sound s0 (settleMirror s) := by
  intro s h
  unfold settleMirror
  try dsimp only
  repeat' split
  all_goals first | with_reducible exact h | simp +contextual (maxDischargeDepth := 50) [h, foldl_sound]

@[simp] theorem settleMirror_epoch {s0 : State} : ∀ s, EpochStays s0 s → EpochStays s0 (settleMirror s) := by
  intro s h
  unfold settleMirror
  try dsimp only
  repeat' split
  all_goals first | with_reducible exact h | simp +contextual (maxDischargeDepth := 50) [h, foldl_epoch]

@[simp] theorem confirmAlone_sound {s0 : State} : ∀ s, Sound s0 s → Sound s0 (confirmAlone s) := by
  intro s h
  unfold confirmAlone
  try dsimp only
  repeat' split
  all_goals first | with_reducible exact h | simp +contextual (maxDischargeDepth := 50) [h, foldl_sound]

@[simp] theorem confirmAlone_epoch {s0 : State} : ∀ s, EpochStays s0 s → EpochStays s0 (confirmAlone s) := by
  intro s h
  unfold confirmAlone
  try dsimp only
  repeat' split
  all_goals first | with_reducible exact h | simp +contextual (maxDischargeDepth := 50) [h, foldl_epoch]

@[simp] theorem confirmByNodes_sound {s0 : State} : ∀ s, Sound s0 s → Sound s0 (confirmByNodes s) := by
  intro s h
  unfold confirmByNodes
  try dsimp only
  repeat' split
  all_goals first | with_reducible exact h | simp +contextual (maxDischargeDepth := 50) [h, foldl_sound]

@[simp] theorem confirmByNodes_epoch {s0 : State} : ∀ s, EpochStays s0 s → EpochStays s0 (confirmByNodes s) := by
  intro s h
  unfold confirmByNodes
  try dsimp only
  repeat' split
  all_goals first | with_reducible exact h | simp +contextual (maxDischargeDepth := 50) [h, foldl_epoch]

@[simp] theorem autoSchedule_sound {s0 s : State} (x : Nat) (h : Sound s0 s) : Sound s0 (autoSchedule x s) := by
  exact ite_sound _ (ite_sound _ (onNet_sound _ h) (onNet_sound _ h)) h

@[simp] theorem autoSchedule_epoch {s0 s : State} (x : Nat) (h : EpochStays s0 s) : EpochStays s0 (autoSchedule x s) := by
  exact ite_epoch _ (ite_epoch _ (onNet_epoch _ h) (onNet_epoch _ h)) h

@[simp] theorem engineTake_sound {s0 : State} : ∀ s, Sound s0 s → Sound s0 (engineTake s) := by
  intro s h
  unfold engineTake
  try dsimp only
  repeat' split
  all_goals first | with_reducible exact h | simp +contextual (maxDischargeDepth := 50) [h, foldl_sound]

@[simp] theorem engineTake_epoch {s0 : State} : ∀ s, EpochStays s0 s → EpochStays s0 (engineTake s) := by
  intro s h
  unfold engineTake
  try dsimp only
  repeat' split
  all_goals first | with_reducible exact h | simp +contextual (maxDischargeDepth := 50) [h, foldl_epoch]

@[simp] theorem onPort_sound {s0 : State} : ∀ x1 x2 s, Sound s0 s → Sound s0 (onPort x1 x2 s) := by
  intro x1 x2 s h
  unfold onPort
  try dsimp only
  repeat' split
  all_goals first | with_reducible exact h | simp +contextual (maxDischargeDepth := 50) [h, foldl_sound]

@[simp] theorem onPort_epoch {s0 : State} : ∀ x1 x2 s, EpochStays s0 s → EpochStays s0 (onPort x1 x2 s) := by
  intro x1 x2 s h
  unfold onPort
  try dsimp only
  repeat' split
  all_goals first | with_reducible exact h | simp +contextual (maxDischargeDepth := 50) [h, foldl_epoch]

@[simp] theorem queueOn_sound {s0 : State} : ∀ x1 x2 x3 x4 s, Sound s0 s → Sound s0 (queueOn x1 x2 x3 x4 s) := by
  intro x1 x2 x3 x4 s h
  unfold queueOn
  try dsimp only
  repeat' split
  all_goals first | with_reducible exact h | simp +contextual (maxDischargeDepth := 50) [h, foldl_sound]

@[simp] theorem queueOn_epoch {s0 : State} : ∀ x1 x2 x3 x4 s, EpochStays s0 s → EpochStays s0 (queueOn x1 x2 x3 x4 s) := by
  intro x1 x2 x3 x4 s h
  unfold queueOn
  try dsimp only
  repeat' split
  all_goals first | with_reducible exact h | simp +contextual (maxDischargeDepth := 50) [h, foldl_epoch]

@[simp] theorem sendToNode_sound {s0 : State} : ∀ x1 x2 s, Sound s0 s → Sound s0 (sendToNode x1 x2 s) := by
  intro x1 x2 s h
  unfold sendToNode
  try dsimp only
  repeat' split
  all_goals first | with_reducible exact h | simp +contextual (maxDischargeDepth := 50) [h, foldl_sound]

@[simp] theorem sendToNode_epoch {s0 : State} : ∀ x1 x2 s, EpochStays s0 s → EpochStays s0 (sendToNode x1 x2 s) := by
  intro x1 x2 s h
  unfold sendToNode
  try dsimp only
  repeat' split
  all_goals first | with_reducible exact h | simp +contextual (maxDischargeDepth := 50) [h, foldl_epoch]

@[simp] theorem sendClaimTo_sound {s0 : State} : ∀ x1 s, Sound s0 s → Sound s0 (sendClaimTo x1 s) := by
  intro x1 s h
  unfold sendClaimTo
  try dsimp only
  repeat' split
  all_goals first | with_reducible exact h | simp +contextual (maxDischargeDepth := 50) [h, foldl_sound]

@[simp] theorem sendClaimTo_epoch {s0 : State} : ∀ x1 s, EpochStays s0 s → EpochStays s0 (sendClaimTo x1 s) := by
  intro x1 s h
  unfold sendClaimTo
  try dsimp only
  repeat' split
  all_goals first | with_reducible exact h | simp +contextual (maxDischargeDepth := 50) [h, foldl_epoch]

@[simp] theorem answerLowClaim_sound {s0 : State} : ∀ x1 s, Sound s0 s → Sound s0 (answerLowClaim x1 s) := by
  intro x1 s h
  unfold answerLowClaim
  try dsimp only
  repeat' split
  all_goals first | with_reducible exact h | simp +contextual (maxDischargeDepth := 50) [h, foldl_sound]

@[simp] theorem answerLowClaim_epoch {s0 : State} : ∀ x1 s, EpochStays s0 s → EpochStays s0 (answerLowClaim x1 s) := by
  intro x1 s h
  unfold answerLowClaim
  try dsimp only
  repeat' split
  all_goals first | with_reducible exact h | simp +contextual (maxDischargeDepth := 50) [h, foldl_epoch]

@[simp] theorem stage_sound {s0 : State} : ∀ x1 x2 x3 s, Sound s0 s → Sound s0 (stage x1 x2 x3 s) := by
  intro x1 x2 x3 s h
  unfold stage
  try dsimp only
  repeat' split
  all_goals first | with_reducible exact h | simp +contextual (maxDischargeDepth := 50) [h, foldl_sound]

@[simp] theorem stage_epoch {s0 : State} : ∀ x1 x2 x3 s, EpochStays s0 s → EpochStays s0 (stage x1 x2 x3 s) := by
  intro x1 x2 x3 s h
  unfold stage
  try dsimp only
  repeat' split
  all_goals first | with_reducible exact h | simp +contextual (maxDischargeDepth := 50) [h, foldl_epoch]

@[simp] theorem onCan_sound {s0 s : State} (c) (g) (h : Sound s0 s) : Sound s0 (onCan c g s) := by
  exact h.of_eq rfl rfl rfl

@[simp] theorem onCan_epoch {s0 s : State} (c) (g) (h : EpochStays s0 s) : EpochStays s0 (onCan c g s) := by
  exact h

@[simp] theorem endBatch_sound {s0 : State} : ∀ x1 x2 s, Sound s0 s → Sound s0 (endBatch x1 x2 s) := by
  intro x1 x2 s h
  unfold endBatch
  try dsimp only
  repeat' split
  all_goals first | with_reducible exact h | simp +contextual (maxDischargeDepth := 50) [h, foldl_sound]

@[simp] theorem endBatch_epoch {s0 : State} : ∀ x1 x2 s, EpochStays s0 s → EpochStays s0 (endBatch x1 x2 s) := by
  intro x1 x2 s h
  unfold endBatch
  try dsimp only
  repeat' split
  all_goals first | with_reducible exact h | simp +contextual (maxDischargeDepth := 50) [h, foldl_epoch]

@[simp] theorem endBatches_sound {s0 : State} : ∀ x1 s, Sound s0 s → Sound s0 (endBatches x1 s) := by
  intro x1 s h
  unfold endBatches
  try dsimp only
  repeat' split
  all_goals first | with_reducible exact h | simp +contextual (maxDischargeDepth := 50) [h, foldl_sound]

@[simp] theorem endBatches_epoch {s0 : State} : ∀ x1 s, EpochStays s0 s → EpochStays s0 (endBatches x1 s) := by
  intro x1 s h
  unfold endBatches
  try dsimp only
  repeat' split
  all_goals first | with_reducible exact h | simp +contextual (maxDischargeDepth := 50) [h, foldl_epoch]

@[simp] theorem withdrawCan_sound {s0 : State} : ∀ x1 s, Sound s0 s → Sound s0 (withdrawCan x1 s) := by
  intro x1 s h
  unfold withdrawCan
  try dsimp only
  repeat' split
  all_goals first | with_reducible exact h | simp +contextual (maxDischargeDepth := 50) [h, foldl_sound]

@[simp] theorem withdrawCan_epoch {s0 : State} : ∀ x1 s, EpochStays s0 s → EpochStays s0 (withdrawCan x1 s) := by
  intro x1 s h
  unfold withdrawCan
  try dsimp only
  repeat' split
  all_goals first | with_reducible exact h | simp +contextual (maxDischargeDepth := 50) [h, foldl_epoch]

@[simp] theorem each4_sound {s0 s : State} (g : Fin 4 → State → State) (hg : ∀ c s, Sound s0 s → Sound s0 (g c s)) (h : Sound s0 s) : Sound s0 (each4 g s) := by
  unfold each4; exact foldl_sound _ (fun s c k => hg c s k) _ _ h

@[simp] theorem each4_epoch {s0 s : State} (g : Fin 4 → State → State) (hg : ∀ c s, EpochStays s0 s → EpochStays s0 (g c s)) (h : EpochStays s0 s) : EpochStays s0 (each4 g s) := by
  unfold each4; exact foldl_epoch _ (fun s c k => hg c s k) _ _ h

@[simp] theorem onFo_sound {s0 : State} : ∀ x1 x2 s, Sound s0 s → Sound s0 (onFo x1 x2 s) := by
  intro x1 x2 s h
  unfold onFo
  try dsimp only
  repeat' split
  all_goals first | with_reducible exact h | simp +contextual (maxDischargeDepth := 50) [h, foldl_sound]

@[simp] theorem onFo_epoch {s0 : State} : ∀ x1 x2 s, EpochStays s0 s → EpochStays s0 (onFo x1 x2 s) := by
  intro x1 x2 s h
  unfold onFo
  try dsimp only
  repeat' split
  all_goals first | with_reducible exact h | simp +contextual (maxDischargeDepth := 50) [h, foldl_epoch]

@[simp] theorem safeFo_sound {s0 : State} : ∀ x1 s, Sound s0 s → Sound s0 (safeFo x1 s) := by
  intro x1 s h
  unfold safeFo
  try dsimp only
  repeat' split
  all_goals first | with_reducible exact h | simp +contextual (maxDischargeDepth := 50) [h, foldl_sound]

@[simp] theorem safeFo_epoch {s0 : State} : ∀ x1 s, EpochStays s0 s → EpochStays s0 (safeFo x1 s) := by
  intro x1 s h
  unfold safeFo
  try dsimp only
  repeat' split
  all_goals first | with_reducible exact h | simp +contextual (maxDischargeDepth := 50) [h, foldl_epoch]

@[simp] theorem yieldFo_sound {s0 : State} : ∀ x1 s, Sound s0 s → Sound s0 (yieldFo x1 s) := by
  intro x1 s h
  unfold yieldFo
  try dsimp only
  repeat' split
  all_goals first | with_reducible exact h | simp +contextual (maxDischargeDepth := 50) [h, foldl_sound]

@[simp] theorem yieldFo_epoch {s0 : State} : ∀ x1 s, EpochStays s0 s → EpochStays s0 (yieldFo x1 s) := by
  intro x1 s h
  unfold yieldFo
  try dsimp only
  repeat' split
  all_goals first | with_reducible exact h | simp +contextual (maxDischargeDepth := 50) [h, foldl_epoch]

@[simp] theorem eachAio_sound {s0 s : State} (g : Fin 8 → State → State) (hg : ∀ c s, Sound s0 s → Sound s0 (g c s)) (h : Sound s0 s) : Sound s0 (eachAio g s) := by
  unfold eachAio; exact foldl_sound _ (fun s c k => hg c s k) _ _ h

@[simp] theorem eachAio_epoch {s0 s : State} (g : Fin 8 → State → State) (hg : ∀ c s, EpochStays s0 s → EpochStays s0 (g c s)) (h : EpochStays s0 s) : EpochStays s0 (eachAio g s) := by
  unfold eachAio; exact foldl_epoch _ (fun s c k => hg c s k) _ _ h

@[simp] theorem onAio_sound {s0 : State} : ∀ x1 x2 s, Sound s0 s → Sound s0 (onAio x1 x2 s) := by
  intro x1 x2 s h
  unfold onAio
  try dsimp only
  repeat' split
  all_goals first | with_reducible exact h | simp +contextual (maxDischargeDepth := 50) [h, foldl_sound]

@[simp] theorem onAio_epoch {s0 : State} : ∀ x1 x2 s, EpochStays s0 s → EpochStays s0 (onAio x1 x2 s) := by
  intro x1 x2 s h
  unfold onAio
  try dsimp only
  repeat' split
  all_goals first | with_reducible exact h | simp +contextual (maxDischargeDepth := 50) [h, foldl_epoch]

@[simp] theorem driveAio_sound {s0 : State} : ∀ x1 x2 s, Sound s0 s → Sound s0 (driveAio x1 x2 s) := by
  intro x1 x2 s h
  unfold driveAio
  try dsimp only
  repeat' split
  all_goals first | with_reducible exact h | simp +contextual (maxDischargeDepth := 50) [h, foldl_sound]

@[simp] theorem driveAio_epoch {s0 : State} : ∀ x1 x2 s, EpochStays s0 s → EpochStays s0 (driveAio x1 x2 s) := by
  intro x1 x2 s h
  unfold driveAio
  try dsimp only
  repeat' split
  all_goals first | with_reducible exact h | simp +contextual (maxDischargeDepth := 50) [h, foldl_epoch]

@[simp] theorem openAio_sound {s0 : State} : ∀ x1 s, Sound s0 s → Sound s0 (openAio x1 s) := by
  intro x1 s h
  unfold openAio
  try dsimp only
  repeat' split
  all_goals first | with_reducible exact h | simp +contextual (maxDischargeDepth := 50) [h, foldl_sound]

@[simp] theorem openAio_epoch {s0 : State} : ∀ x1 s, EpochStays s0 s → EpochStays s0 (openAio x1 s) := by
  intro x1 s h
  unfold openAio
  try dsimp only
  repeat' split
  all_goals first | with_reducible exact h | simp +contextual (maxDischargeDepth := 50) [h, foldl_epoch]

@[simp] theorem safeAio_sound {s0 : State} : ∀ x1 s, Sound s0 s → Sound s0 (safeAio x1 s) := by
  intro x1 s h
  unfold safeAio
  try dsimp only
  repeat' split
  all_goals first | with_reducible exact h | simp +contextual (maxDischargeDepth := 50) [h, foldl_sound]

@[simp] theorem safeAio_epoch {s0 : State} : ∀ x1 s, EpochStays s0 s → EpochStays s0 (safeAio x1 s) := by
  intro x1 s h
  unfold safeAio
  try dsimp only
  repeat' split
  all_goals first | with_reducible exact h | simp +contextual (maxDischargeDepth := 50) [h, foldl_epoch]

@[simp] theorem yieldAio_sound {s0 : State} : ∀ x1 x2 s, Sound s0 s → Sound s0 (yieldAio x1 x2 s) := by
  intro x1 x2 s h
  unfold yieldAio
  try dsimp only
  repeat' split
  all_goals first | with_reducible exact h | simp +contextual (maxDischargeDepth := 50) [h, foldl_sound]

@[simp] theorem yieldAio_epoch {s0 : State} : ∀ x1 x2 s, EpochStays s0 s → EpochStays s0 (yieldAio x1 x2 s) := by
  intro x1 x2 s h
  unfold yieldAio
  try dsimp only
  repeat' split
  all_goals first | with_reducible exact h | simp +contextual (maxDischargeDepth := 50) [h, foldl_epoch]

@[simp] theorem eachDio_sound {s0 s : State} (g : Fin 16 → State → State) (hg : ∀ c s, Sound s0 s → Sound s0 (g c s)) (h : Sound s0 s) : Sound s0 (eachDio g s) := by
  unfold eachDio; exact foldl_sound _ (fun s c k => hg c s k) _ _ h

@[simp] theorem eachDio_epoch {s0 s : State} (g : Fin 16 → State → State) (hg : ∀ c s, EpochStays s0 s → EpochStays s0 (g c s)) (h : EpochStays s0 s) : EpochStays s0 (eachDio g s) := by
  unfold eachDio; exact foldl_epoch _ (fun s c k => hg c s k) _ _ h

@[simp] theorem onDio_sound {s0 : State} : ∀ x1 x2 s, Sound s0 s → Sound s0 (onDio x1 x2 s) := by
  intro x1 x2 s h
  unfold onDio
  try dsimp only
  repeat' split
  all_goals first | with_reducible exact h | simp +contextual (maxDischargeDepth := 50) [h, foldl_sound]

@[simp] theorem onDio_epoch {s0 : State} : ∀ x1 x2 s, EpochStays s0 s → EpochStays s0 (onDio x1 x2 s) := by
  intro x1 x2 s h
  unfold onDio
  try dsimp only
  repeat' split
  all_goals first | with_reducible exact h | simp +contextual (maxDischargeDepth := 50) [h, foldl_epoch]

@[simp] theorem settleDio_sound {s0 : State} : ∀ x1 s, Sound s0 s → Sound s0 (settleDio x1 s) := by
  intro x1 s h
  unfold settleDio
  try dsimp only
  repeat' split
  all_goals first | with_reducible exact h | simp +contextual (maxDischargeDepth := 50) [h, foldl_sound]

@[simp] theorem settleDio_epoch {s0 : State} : ∀ x1 s, EpochStays s0 s → EpochStays s0 (settleDio x1 s) := by
  intro x1 s h
  unfold settleDio
  try dsimp only
  repeat' split
  all_goals first | with_reducible exact h | simp +contextual (maxDischargeDepth := 50) [h, foldl_epoch]

@[simp] theorem yieldDio_sound {s0 : State} : ∀ x1 s, Sound s0 s → Sound s0 (yieldDio x1 s) := by
  intro x1 s h
  unfold yieldDio
  try dsimp only
  repeat' split
  all_goals first | with_reducible exact h | simp +contextual (maxDischargeDepth := 50) [h, foldl_sound]

@[simp] theorem yieldDio_epoch {s0 : State} : ∀ x1 s, EpochStays s0 s → EpochStays s0 (yieldDio x1 s) := by
  intro x1 s h
  unfold yieldDio
  try dsimp only
  repeat' split
  all_goals first | with_reducible exact h | simp +contextual (maxDischargeDepth := 50) [h, foldl_epoch]

@[simp] theorem yieldStages_sound {s0 : State} : ∀ x1 s, Sound s0 s → Sound s0 (yieldStages x1 s) := by
  intro x1 s h
  unfold yieldStages
  try dsimp only
  repeat' split
  all_goals first | with_reducible exact h | simp +contextual (maxDischargeDepth := 50) [h, foldl_sound]

@[simp] theorem yieldStages_epoch {s0 : State} : ∀ x1 s, EpochStays s0 s → EpochStays s0 (yieldStages x1 s) := by
  intro x1 s h
  unfold yieldStages
  try dsimp only
  repeat' split
  all_goals first | with_reducible exact h | simp +contextual (maxDischargeDepth := 50) [h, foldl_epoch]

@[simp] theorem dropOwnBarges_sound {s0 : State} : ∀ s, Sound s0 s → Sound s0 (dropOwnBarges s) := by
  intro s h
  unfold dropOwnBarges
  try dsimp only
  repeat' split
  all_goals first | with_reducible exact h | simp +contextual (maxDischargeDepth := 50) [h, foldl_sound]

@[simp] theorem dropOwnBarges_epoch {s0 : State} : ∀ s, EpochStays s0 s → EpochStays s0 (dropOwnBarges s) := by
  intro s h
  unfold dropOwnBarges
  try dsimp only
  repeat' split
  all_goals first | with_reducible exact h | simp +contextual (maxDischargeDepth := 50) [h, foldl_epoch]

@[simp] theorem onExecs_sound {s0 : State} : ∀ x1 s, Sound s0 s → Sound s0 (onExecs x1 s) := by
  intro x1 s h
  unfold onExecs
  try dsimp only
  repeat' split
  all_goals first | with_reducible exact h | simp +contextual (maxDischargeDepth := 50) [h, foldl_sound]

@[simp] theorem onExecs_epoch {s0 : State} : ∀ x1 s, EpochStays s0 s → EpochStays s0 (onExecs x1 s) := by
  intro x1 s h
  unfold onExecs
  try dsimp only
  repeat' split
  all_goals first | with_reducible exact h | simp +contextual (maxDischargeDepth := 50) [h, foldl_epoch]

@[simp] theorem voidTasks_sound {s0 : State} : ∀ x1 s, Sound s0 s → Sound s0 (voidTasks x1 s) := by
  intro x1 s h
  unfold voidTasks
  try dsimp only
  repeat' split
  all_goals first | with_reducible exact h | simp +contextual (maxDischargeDepth := 50) [h, foldl_sound]

@[simp] theorem voidTasks_epoch {s0 : State} : ∀ x1 s, EpochStays s0 s → EpochStays s0 (voidTasks x1 s) := by
  intro x1 s h
  unfold voidTasks
  try dsimp only
  repeat' split
  all_goals first | with_reducible exact h | simp +contextual (maxDischargeDepth := 50) [h, foldl_epoch]

@[simp] theorem haltExecs_sound {s0 : State} : ∀ s, Sound s0 s → Sound s0 (haltExecs s) := by
  intro s h
  unfold haltExecs
  try dsimp only
  repeat' split
  all_goals first | with_reducible exact h | simp +contextual (maxDischargeDepth := 50) [h, foldl_sound]

@[simp] theorem haltExecs_epoch {s0 : State} : ∀ s, EpochStays s0 s → EpochStays s0 (haltExecs s) := by
  intro s h
  unfold haltExecs
  try dsimp only
  repeat' split
  all_goals first | with_reducible exact h | simp +contextual (maxDischargeDepth := 50) [h, foldl_epoch]

@[simp] theorem watchPair_sound {s0 s : State} (b : State) (h : Sound s0 s) : Sound s0 (watchPair b s) := by
  unfold watchPair; split; exact h; exact raiseInt_sound _ _ h

@[simp] theorem watchPair_epoch {s0 s : State} (b : State) (h : EpochStays s0 s) : EpochStays s0 (watchPair b s) := by
  unfold watchPair; split; exact h; exact raiseInt_epoch _ _ h

@[simp] theorem pairChanged_sound {s0 s : State} (g : Pair → Pair) (hg : ∀ p : Pair, p.highestClaim ≤ (g p).highestClaim) (h : Sound s0 s) : Sound s0 (pairChanged g s) := by
  exact watchPair_sound _ (onPair_sound g hg h)

@[simp] theorem pairChanged_epoch {s0 s : State} (g : Pair → Pair) (h : EpochStays s0 s) : EpochStays s0 (pairChanged g s) := by
  exact watchPair_epoch _ (onPair_epoch g h)

@[simp] theorem failProof_sound {s0 : State} : ∀ x1 x2 s, Sound s0 s → Sound s0 (failProof x1 x2 s) := by
  intro x1 x2 s h
  unfold failProof
  try dsimp only
  repeat' split
  all_goals first | with_reducible exact h | simp +contextual (maxDischargeDepth := 50) [h, foldl_sound]

@[simp] theorem failProof_epoch {s0 : State} : ∀ x1 x2 s, EpochStays s0 s → EpochStays s0 (failProof x1 x2 s) := by
  intro x1 x2 s h
  unfold failProof
  try dsimp only
  repeat' split
  all_goals first | with_reducible exact h | simp +contextual (maxDischargeDepth := 50) [h, foldl_epoch]

@[simp] theorem endProof_sound {s0 : State} : ∀ s, Sound s0 s → Sound s0 (endProof s) := by
  intro s h
  unfold endProof
  try dsimp only
  repeat' split
  all_goals first | with_reducible exact h | simp +contextual (maxDischargeDepth := 50) [h, foldl_sound]

@[simp] theorem endProof_epoch {s0 : State} : ∀ s, EpochStays s0 s → EpochStays s0 (endProof s) := by
  intro s h
  unfold endProof
  try dsimp only
  repeat' split
  all_goals first | with_reducible exact h | simp +contextual (maxDischargeDepth := 50) [h, foldl_epoch]

@[simp] theorem endSwitch_sound {s0 : State} : ∀ x1 x2 s, Sound s0 s → Sound s0 (endSwitch x1 x2 s) := by
  intro x1 x2 s h
  unfold endSwitch
  try dsimp only
  repeat' split
  all_goals first | with_reducible exact h | simp +contextual (maxDischargeDepth := 50) [h, foldl_sound]

@[simp] theorem endSwitch_epoch {s0 : State} : ∀ x1 x2 s, EpochStays s0 s → EpochStays s0 (endSwitch x1 x2 s) := by
  intro x1 x2 s h
  unfold endSwitch
  try dsimp only
  repeat' split
  all_goals first | with_reducible exact h | simp +contextual (maxDischargeDepth := 50) [h, foldl_epoch]

@[simp] theorem withReport_sound {s0 : State} : ∀ x1 x2 s, Sound s0 s → Sound s0 (withReport x1 x2 s) := by
  intro x1 x2 s h
  unfold withReport
  try dsimp only
  repeat' split
  all_goals first | with_reducible exact h | simp +contextual (maxDischargeDepth := 50) [h, foldl_sound]

@[simp] theorem withReport_epoch {s0 : State} : ∀ x1 x2 s, EpochStays s0 s → EpochStays s0 (withReport x1 x2 s) := by
  intro x1 x2 s h
  unfold withReport
  try dsimp only
  repeat' split
  all_goals first | with_reducible exact h | simp +contextual (maxDischargeDepth := 50) [h, foldl_epoch]

@[simp] theorem failureReport_sound {s0 : State} : ∀ x1 x2 s, Sound s0 s → Sound s0 (failureReport x1 x2 s) := by
  intro x1 x2 s h
  unfold failureReport
  try dsimp only
  repeat' split
  all_goals first | with_reducible exact h | simp +contextual (maxDischargeDepth := 50) [h, foldl_sound]

@[simp] theorem failureReport_epoch {s0 : State} : ∀ x1 x2 s, EpochStays s0 s → EpochStays s0 (failureReport x1 x2 s) := by
  intro x1 x2 s h
  unfold failureReport
  try dsimp only
  repeat' split
  all_goals first | with_reducible exact h | simp +contextual (maxDischargeDepth := 50) [h, foldl_epoch]

@[simp] theorem rewriteCopies_sound {s0 : State} : ∀ s, Sound s0 s → Sound s0 (rewriteCopies s) := by
  intro s h
  unfold rewriteCopies
  try dsimp only
  repeat' split
  all_goals first | with_reducible exact h | simp +contextual (maxDischargeDepth := 50) [h, foldl_sound]

@[simp] theorem rewriteCopies_epoch {s0 : State} : ∀ s, EpochStays s0 s → EpochStays s0 (rewriteCopies s) := by
  intro s h
  unfold rewriteCopies
  try dsimp only
  repeat' split
  all_goals first | with_reducible exact h | simp +contextual (maxDischargeDepth := 50) [h, foldl_epoch]

@[simp] theorem revertCommit_sound {s0 : State} : ∀ x1 s, Sound s0 s → Sound s0 (revertCommit x1 s) := by
  intro x1 s h
  unfold revertCommit
  try dsimp only
  repeat' split
  all_goals first | with_reducible exact h | simp +contextual (maxDischargeDepth := 50) [h, foldl_sound]

@[simp] theorem revertCommit_epoch {s0 : State} : ∀ x1 s, EpochStays s0 s → EpochStays s0 (revertCommit x1 s) := by
  intro x1 s h
  unfold revertCommit
  try dsimp only
  repeat' split
  all_goals first | with_reducible exact h | simp +contextual (maxDischargeDepth := 50) [h, foldl_epoch]

@[simp] theorem rollBack_sound {s0 : State} : ∀ s, Sound s0 s → Sound s0 (rollBack s) := by
  intro s h
  unfold rollBack
  try dsimp only
  repeat' split
  all_goals first | with_reducible exact h | simp +contextual (maxDischargeDepth := 50) [h, foldl_sound]

@[simp] theorem rollBack_epoch {s0 : State} : ∀ s, EpochStays s0 s → EpochStays s0 (rollBack s) := by
  intro s h
  unfold rollBack
  try dsimp only
  repeat' split
  all_goals first | with_reducible exact h | simp +contextual (maxDischargeDepth := 50) [h, foldl_epoch]

@[simp] theorem setPower_sound {s0 : State} : ∀ x1 x2 s, Sound s0 s → Sound s0 (setPower x1 x2 s) := by
  intro x1 x2 s h
  unfold setPower
  try dsimp only
  repeat' split
  all_goals first | with_reducible exact h | simp +contextual (maxDischargeDepth := 50) [h, foldl_sound]

@[simp] theorem setPower_epoch {s0 : State} : ∀ x1 x2 s, EpochStays s0 s → EpochStays s0 (setPower x1 x2 s) := by
  intro x1 x2 s h
  unfold setPower
  try dsimp only
  repeat' split
  all_goals first | with_reducible exact h | simp +contextual (maxDischargeDepth := 50) [h, foldl_epoch]

@[simp] theorem restartZeroStatus_sound {s0 : State} : ∀ s, Sound s0 s → Sound s0 (restartZeroStatus s) := by
  intro s h
  unfold restartZeroStatus
  try dsimp only
  repeat' split
  all_goals first | with_reducible exact h | simp +contextual (maxDischargeDepth := 50) [h, foldl_sound]

@[simp] theorem restartZeroStatus_epoch {s0 : State} : ∀ s, EpochStays s0 s → EpochStays s0 (restartZeroStatus s) := by
  intro s h
  unfold restartZeroStatus
  try dsimp only
  repeat' split
  all_goals first | with_reducible exact h | simp +contextual (maxDischargeDepth := 50) [h, foldl_epoch]

@[simp] theorem endTrim_sound {s0 : State} : ∀ x1 s, Sound s0 s → Sound s0 (endTrim x1 s) := by
  intro x1 s h
  unfold endTrim
  try dsimp only
  repeat' split
  all_goals first | with_reducible exact h | simp +contextual (maxDischargeDepth := 50) [h, foldl_sound]

@[simp] theorem endTrim_epoch {s0 : State} : ∀ x1 s, EpochStays s0 s → EpochStays s0 (endTrim x1 s) := by
  intro x1 s h
  unfold endTrim
  try dsimp only
  repeat' split
  all_goals first | with_reducible exact h | simp +contextual (maxDischargeDepth := 50) [h, foldl_epoch]

@[simp] theorem endTrims_sound {s0 : State} : ∀ s, Sound s0 s → Sound s0 (endTrims s) := by
  intro s h
  unfold endTrims
  try dsimp only
  repeat' split
  all_goals first | with_reducible exact h | simp +contextual (maxDischargeDepth := 50) [h, foldl_sound]

@[simp] theorem endTrims_epoch {s0 : State} : ∀ s, EpochStays s0 s → EpochStays s0 (endTrims s) := by
  intro s h
  unfold endTrims
  try dsimp only
  repeat' split
  all_goals first | with_reducible exact h | simp +contextual (maxDischargeDepth := 50) [h, foldl_epoch]

@[simp] theorem enterState_sound {s0 : State} : ∀ x1 x2 s, Sound s0 s → Sound s0 (enterState x1 x2 s) := by
  intro x1 x2 s h
  unfold enterState
  try dsimp only
  repeat' split
  all_goals first | with_reducible exact h | simp +contextual (maxDischargeDepth := 50) [h, foldl_sound]

@[simp] theorem enterState_epoch {s0 : State} : ∀ x1 x2 s, EpochStays s0 s → EpochStays s0 (enterState x1 x2 s) := by
  intro x1 x2 s h
  unfold enterState
  try dsimp only
  repeat' split
  all_goals first | with_reducible exact h | simp +contextual (maxDischargeDepth := 50) [h, foldl_epoch]

@[simp] theorem stopTasks_sound {s0 : State} : ∀ s, Sound s0 s → Sound s0 (stopTasks s) := by
  intro s h
  unfold stopTasks
  try dsimp only
  repeat' split
  all_goals first | with_reducible exact h | simp +contextual (maxDischargeDepth := 50) [h, foldl_sound]

@[simp] theorem stopTasks_epoch {s0 : State} : ∀ s, EpochStays s0 s → EpochStays s0 (stopTasks s) := by
  intro s h
  unfold stopTasks
  try dsimp only
  repeat' split
  all_goals first | with_reducible exact h | simp +contextual (maxDischargeDepth := 50) [h, foldl_epoch]

@[simp] theorem dropClaim_sound {s0 : State} : ∀ s, Sound s0 s → Sound s0 (dropClaim s) := by
  intro s h
  unfold dropClaim
  try dsimp only
  repeat' split
  all_goals first | with_reducible exact h | simp +contextual (maxDischargeDepth := 50) [h, foldl_sound]

@[simp] theorem dropClaim_epoch {s0 : State} : ∀ s, EpochStays s0 s → EpochStays s0 (dropClaim s) := by
  intro s h
  unfold dropClaim
  try dsimp only
  repeat' split
  all_goals first | with_reducible exact h | simp +contextual (maxDischargeDepth := 50) [h, foldl_epoch]

@[simp] theorem supersede_sound {s0 : State} : ∀ x1 s, Sound s0 s → Sound s0 (supersede x1 s) := by
  intro x1 s h
  unfold supersede
  try dsimp only
  repeat' split
  all_goals first | with_reducible exact h | simp +contextual (maxDischargeDepth := 50) [h, foldl_sound]

@[simp] theorem supersede_epoch {s0 : State} : ∀ x1 s, EpochStays s0 s → EpochStays s0 (supersede x1 s) := by
  intro x1 s h
  unfold supersede
  try dsimp only
  repeat' split
  all_goals first | with_reducible exact h | simp +contextual (maxDischargeDepth := 50) [h, foldl_epoch]

@[simp] theorem obeyClaim_sound {s0 : State} : ∀ x1 s, Sound s0 s → Sound s0 (obeyClaim x1 s) := by
  intro x1 s h
  unfold obeyClaim
  try dsimp only
  repeat' split
  all_goals first | with_reducible exact h | simp +contextual (maxDischargeDepth := 50) [h, foldl_sound]

@[simp] theorem obeyClaim_epoch {s0 : State} : ∀ x1 s, EpochStays s0 s → EpochStays s0 (obeyClaim x1 s) := by
  intro x1 s h
  unfold obeyClaim
  try dsimp only
  repeat' split
  all_goals first | with_reducible exact h | simp +contextual (maxDischargeDepth := 50) [h, foldl_epoch]

@[simp] theorem noteClaim_sound {s0 s : State} (c : Nat) (h : Sound s0 s) : Sound s0 (noteClaim c s) := by
  exact onPair_sound _ (fun p => Nat.le_max_left _ _) h

@[simp] theorem noteClaim_epoch {s0 : State} : ∀ x1 s, EpochStays s0 s → EpochStays s0 (noteClaim x1 s) := by
  intro x1 s h
  unfold noteClaim
  try dsimp only
  repeat' split
  all_goals first | with_reducible exact h | simp +contextual (maxDischargeDepth := 50) [h, foldl_epoch]

@[simp] theorem seeClaim_sound {s0 : State} : ∀ x1 s, Sound s0 s → Sound s0 (seeClaim x1 s) := by
  intro x1 s h
  unfold seeClaim
  try dsimp only
  repeat' split
  all_goals first | with_reducible exact h | simp +contextual (maxDischargeDepth := 50) [h, foldl_sound]

@[simp] theorem seeClaim_epoch {s0 : State} : ∀ x1 s, EpochStays s0 s → EpochStays s0 (seeClaim x1 s) := by
  intro x1 s h
  unfold seeClaim
  try dsimp only
  repeat' split
  all_goals first | with_reducible exact h | simp +contextual (maxDischargeDepth := 50) [h, foldl_epoch]

@[simp] theorem takeInput_sound {s0 : State} : ∀ x1 x2 x3 x4 s, Sound s0 s → Sound s0 (takeInput x1 x2 x3 x4 s) := by
  intro x1 x2 x3 x4 s h
  unfold takeInput
  try dsimp only
  repeat' split
  all_goals first | with_reducible exact h | simp +contextual (maxDischargeDepth := 50) [h, foldl_sound]

@[simp] theorem takeInput_epoch {s0 : State} : ∀ x1 x2 x3 x4 s, EpochStays s0 s → EpochStays s0 (takeInput x1 x2 x3 x4 s) := by
  intro x1 x2 x3 x4 s h
  unfold takeInput
  try dsimp only
  repeat' split
  all_goals first | with_reducible exact h | simp +contextual (maxDischargeDepth := 50) [h, foldl_epoch]

@[simp] theorem overrun_sound {s0 : State} : ∀ x1 s, Sound s0 s → Sound s0 (overrun x1 s) := by
  intro x1 s h
  unfold overrun
  try dsimp only
  repeat' split
  all_goals first | with_reducible exact h | simp +contextual (maxDischargeDepth := 50) [h, foldl_sound]

@[simp] theorem overrun_epoch {s0 : State} : ∀ x1 s, EpochStays s0 s → EpochStays s0 (overrun x1 s) := by
  intro x1 s h
  unfold overrun
  try dsimp only
  repeat' split
  all_goals first | with_reducible exact h | simp +contextual (maxDischargeDepth := 50) [h, foldl_epoch]

@[simp] theorem discard_sound {s0 : State} : ∀ x1 x2 x3 s, Sound s0 s → Sound s0 (discard x1 x2 x3 s) := by
  intro x1 x2 x3 s h
  unfold discard
  try dsimp only
  repeat' split
  all_goals first | with_reducible exact h | simp +contextual (maxDischargeDepth := 50) [h, foldl_sound]

@[simp] theorem discard_epoch {s0 : State} : ∀ x1 x2 x3 s, EpochStays s0 s → EpochStays s0 (discard x1 x2 x3 s) := by
  intro x1 x2 x3 s h
  unfold discard
  try dsimp only
  repeat' split
  all_goals first | with_reducible exact h | simp +contextual (maxDischargeDepth := 50) [h, foldl_epoch]

@[simp] theorem receiveBarge_sound {s0 s : State} (p k b) (judge) (take : Barge → State → State) (hb : ∀ x s, Sound s0 s → Sound s0 (take x s)) (h : Sound s0 s) : Sound s0 (receiveBarge p k b judge take s) := by
  unfold receiveBarge
  have k := engineTake_sound _ h
  dsimp only
  repeat' first | with_reducible exact h | exact hb _ _ k | split
  all_goals simp (maxDischargeDepth := 50) [h, k]

@[simp] theorem receiveBarge_epoch {s0 s : State} (p k b) (judge) (take : Barge → State → State) (hb : ∀ x s, EpochStays s0 s → EpochStays s0 (take x s)) (h : EpochStays s0 s) : EpochStays s0 (receiveBarge p k b judge take s) := by
  unfold receiveBarge
  have k := engineTake_epoch _ h
  dsimp only
  repeat' first | with_reducible exact h | exact hb _ _ k | split
  all_goals simp (maxDischargeDepth := 50) [h, k]

@[simp] theorem atTime_sound {s0 : State} : ∀ x1 s, Sound s0 s → Sound s0 (atTime x1 s) := by
  intro x1 s h
  unfold atTime
  try dsimp only
  repeat' split
  all_goals first | with_reducible exact h | simp +contextual (maxDischargeDepth := 50) [h, foldl_sound]

@[simp] theorem atTime_epoch {s0 : State} : ∀ x1 s, EpochStays s0 s → EpochStays s0 (atTime x1 s) := by
  intro x1 s h
  unfold atTime
  try dsimp only
  repeat' split
  all_goals first | with_reducible exact h | simp +contextual (maxDischargeDepth := 50) [h, foldl_epoch]

@[simp] theorem aliveSeen_sound {s0 : State} : ∀ s, Sound s0 s → Sound s0 (aliveSeen s) := by
  intro s h
  unfold aliveSeen
  try dsimp only
  repeat' split
  all_goals first | with_reducible exact h | simp +contextual (maxDischargeDepth := 50) [h, foldl_sound]

@[simp] theorem aliveSeen_epoch {s0 : State} : ∀ s, EpochStays s0 s → EpochStays s0 (aliveSeen s) := by
  intro s h
  unfold aliveSeen
  try dsimp only
  repeat' split
  all_goals first | with_reducible exact h | simp +contextual (maxDischargeDepth := 50) [h, foldl_epoch]

@[simp] theorem noteOwnerBarge_sound {s0 : State} : ∀ x1 x2 s, Sound s0 s → Sound s0 (noteOwnerBarge x1 x2 s) := by
  intro x1 x2 s h
  unfold noteOwnerBarge
  try dsimp only
  repeat' split
  all_goals first | with_reducible exact h | simp +contextual (maxDischargeDepth := 50) [h, foldl_sound]

@[simp] theorem noteOwnerBarge_epoch {s0 : State} : ∀ x1 x2 s, EpochStays s0 s → EpochStays s0 (noteOwnerBarge x1 x2 s) := by
  intro x1 x2 s h
  unfold noteOwnerBarge
  try dsimp only
  repeat' split
  all_goals first | with_reducible exact h | simp +contextual (maxDischargeDepth := 50) [h, foldl_epoch]

@[simp] theorem sendStatus_sound {s0 : State} : ∀ x1 x2 s, Sound s0 s → Sound s0 (sendStatus x1 x2 s) := by
  intro x1 x2 s h
  unfold sendStatus
  try dsimp only
  repeat' split
  all_goals first | with_reducible exact h | simp +contextual (maxDischargeDepth := 50) [h, foldl_sound]

@[simp] theorem sendStatus_epoch {s0 : State} : ∀ x1 x2 s, EpochStays s0 s → EpochStays s0 (sendStatus x1 x2 s) := by
  intro x1 x2 s h
  unfold sendStatus
  try dsimp only
  repeat' split
  all_goals first | with_reducible exact h | simp +contextual (maxDischargeDepth := 50) [h, foldl_epoch]

@[simp] theorem judgeTie_sound {s0 s : State} (b : Barge) (h : Sound s0 s) : Sound s0 (judgeTie b s) := by
  unfold judgeTie
  refine ite_sound _ h ?_
  split
  · refine ite_sound _ (by simp (maxDischargeDepth := 50) [h]) (by simp (maxDischargeDepth := 50) [h])
  · refine ite_sound _ h (by simp (maxDischargeDepth := 50) [h])

@[simp] theorem judgeTie_epoch {s0 s : State} (b : Barge) (h : EpochStays s0 s) : EpochStays s0 (judgeTie b s) := by
  unfold judgeTie
  refine ite_epoch _ h ?_
  split
  · refine ite_epoch _ (by simp (maxDischargeDepth := 50) [h]) (by simp (maxDischargeDepth := 50) [h])
  · refine ite_epoch _ h (by simp (maxDischargeDepth := 50) [h])

@[simp] theorem claimOf_sound {s0 : State} : ∀ x1 x2 s, Sound s0 s → Sound s0 (claimOf x1 x2 s) := by
  intro x1 x2 s h
  unfold claimOf
  try dsimp only
  repeat' split
  all_goals first | with_reducible exact h | simp +contextual (maxDischargeDepth := 50) [h, foldl_sound]

@[simp] theorem claimOf_epoch {s0 : State} : ∀ x1 x2 s, EpochStays s0 s → EpochStays s0 (claimOf x1 x2 s) := by
  intro x1 x2 s h
  unfold claimOf
  try dsimp only
  repeat' split
  all_goals first | with_reducible exact h | simp +contextual (maxDischargeDepth := 50) [h, foldl_epoch]

@[simp] theorem fromOther_sound {s0 s : State} (n) (take : State → State) (hb : ∀ s, Sound s0 s → Sound s0 (take s)) (h : Sound s0 s) : Sound s0 (fromOther n take s) := by
  unfold fromOther; split
  · exact h
  · exact hb _ h

@[simp] theorem fromOther_epoch {s0 s : State} (n) (take : State → State) (hb : ∀ s, EpochStays s0 s → EpochStays s0 (take s)) (h : EpochStays s0 s) : EpochStays s0 (fromOther n take s) := by
  unfold fromOther; split
  · exact h
  · exact hb _ h

@[simp] theorem onTask_sound {s0 : State} : ∀ x1 x2 s, Sound s0 s → Sound s0 (onTask x1 x2 s) := by
  intro x1 x2 s h
  unfold onTask
  try dsimp only
  repeat' split
  all_goals first | with_reducible exact h | simp +contextual (maxDischargeDepth := 50) [h, foldl_sound]

@[simp] theorem onTask_epoch {s0 : State} : ∀ x1 x2 s, EpochStays s0 s → EpochStays s0 (onTask x1 x2 s) := by
  intro x1 x2 s h
  unfold onTask
  try dsimp only
  repeat' split
  all_goals first | with_reducible exact h | simp +contextual (maxDischargeDepth := 50) [h, foldl_epoch]

@[simp] theorem matched_sound {s0 : State} : ∀ x1 x2 s, Sound s0 s → Sound s0 (matched x1 x2 s) := by
  intro x1 x2 s h
  unfold matched
  try dsimp only
  repeat' split
  all_goals first | with_reducible exact h | simp +contextual (maxDischargeDepth := 50) [h, foldl_sound]

@[simp] theorem matched_epoch {s0 : State} : ∀ x1 x2 s, EpochStays s0 s → EpochStays s0 (matched x1 x2 s) := by
  intro x1 x2 s h
  unfold matched
  try dsimp only
  repeat' split
  all_goals first | with_reducible exact h | simp +contextual (maxDischargeDepth := 50) [h, foldl_epoch]

@[simp] theorem adoptExecs_sound {s0 : State} : ∀ s, Sound s0 s → Sound s0 (adoptExecs s) := by
  intro s h
  unfold adoptExecs
  try dsimp only
  repeat' split
  all_goals first | with_reducible exact h | simp +contextual (maxDischargeDepth := 50) [h, foldl_sound]

@[simp] theorem adoptExecs_epoch {s0 : State} : ∀ s, EpochStays s0 s → EpochStays s0 (adoptExecs s) := by
  intro s h
  unfold adoptExecs
  try dsimp only
  repeat' split
  all_goals first | with_reducible exact h | simp +contextual (maxDischargeDepth := 50) [h, foldl_epoch]

@[simp] theorem resetStreams_sound {s0 : State} : ∀ s, Sound s0 s → Sound s0 (resetStreams s) := by
  intro s h
  unfold resetStreams
  try dsimp only
  repeat' split
  all_goals first | with_reducible exact h | simp +contextual (maxDischargeDepth := 50) [h, foldl_sound]

@[simp] theorem resetStreams_epoch {s0 : State} : ∀ s, EpochStays s0 s → EpochStays s0 (resetStreams s) := by
  intro s h
  unfold resetStreams
  try dsimp only
  repeat' split
  all_goals first | with_reducible exact h | simp +contextual (maxDischargeDepth := 50) [h, foldl_epoch]

@[simp] theorem raiseClaim_sound {s0 : State} : ∀ s, Sound s0 s → Sound s0 (raiseClaim s) := by
  intro s h
  unfold raiseClaim
  try dsimp only
  repeat' split
  all_goals first | with_reducible exact h | simp +contextual (maxDischargeDepth := 50) [h, foldl_sound]

@[simp] theorem raiseClaim_epoch {s0 : State} : ∀ s, EpochStays s0 s → EpochStays s0 (raiseClaim s) := by
  intro s h
  unfold raiseClaim
  try dsimp only
  repeat' split
  all_goals first | with_reducible exact h | simp +contextual (maxDischargeDepth := 50) [h, foldl_epoch]

@[simp] theorem applyFo_sound {s0 : State} : ∀ x1 x2 s, Sound s0 s → Sound s0 (applyFo x1 x2 s) := by
  intro x1 x2 s h
  unfold applyFo
  try dsimp only
  repeat' split
  all_goals first | with_reducible exact h | simp +contextual (maxDischargeDepth := 50) [h, foldl_sound]

@[simp] theorem applyFo_epoch {s0 : State} : ∀ x1 x2 s, EpochStays s0 s → EpochStays s0 (applyFo x1 x2 s) := by
  intro x1 x2 s h
  unfold applyFo
  try dsimp only
  repeat' split
  all_goals first | with_reducible exact h | simp +contextual (maxDischargeDepth := 50) [h, foldl_epoch]

@[simp] theorem preloadFo_sound {s0 : State} : ∀ x1 s, Sound s0 s → Sound s0 (preloadFo x1 s) := by
  intro x1 s h
  unfold preloadFo
  try dsimp only
  repeat' split
  all_goals first | with_reducible exact h | simp +contextual (maxDischargeDepth := 50) [h, foldl_sound]

@[simp] theorem preloadFo_epoch {s0 : State} : ∀ x1 s, EpochStays s0 s → EpochStays s0 (preloadFo x1 s) := by
  intro x1 s h
  unfold preloadFo
  try dsimp only
  repeat' split
  all_goals first | with_reducible exact h | simp +contextual (maxDischargeDepth := 50) [h, foldl_epoch]

@[simp] theorem applyAio_sound {s0 : State} : ∀ x1 x2 s, Sound s0 s → Sound s0 (applyAio x1 x2 s) := by
  intro x1 x2 s h
  unfold applyAio
  try dsimp only
  repeat' split
  all_goals first | with_reducible exact h | simp +contextual (maxDischargeDepth := 50) [h, foldl_sound]

@[simp] theorem applyAio_epoch {s0 : State} : ∀ x1 x2 s, EpochStays s0 s → EpochStays s0 (applyAio x1 x2 s) := by
  intro x1 x2 s h
  unfold applyAio
  try dsimp only
  repeat' split
  all_goals first | with_reducible exact h | simp +contextual (maxDischargeDepth := 50) [h, foldl_epoch]

@[simp] theorem preloadAio_sound {s0 : State} : ∀ x1 s, Sound s0 s → Sound s0 (preloadAio x1 s) := by
  intro x1 s h
  unfold preloadAio
  try dsimp only
  repeat' split
  all_goals first | with_reducible exact h | simp +contextual (maxDischargeDepth := 50) [h, foldl_sound]

@[simp] theorem preloadAio_epoch {s0 : State} : ∀ x1 s, EpochStays s0 s → EpochStays s0 (preloadAio x1 s) := by
  intro x1 s h
  unfold preloadAio
  try dsimp only
  repeat' split
  all_goals first | with_reducible exact h | simp +contextual (maxDischargeDepth := 50) [h, foldl_epoch]

@[simp] theorem applyDio_sound {s0 : State} : ∀ x1 x2 s, Sound s0 s → Sound s0 (applyDio x1 x2 s) := by
  intro x1 x2 s h
  unfold applyDio
  try dsimp only
  repeat' split
  all_goals first | with_reducible exact h | simp +contextual (maxDischargeDepth := 50) [h, foldl_sound]

@[simp] theorem applyDio_epoch {s0 : State} : ∀ x1 x2 s, EpochStays s0 s → EpochStays s0 (applyDio x1 x2 s) := by
  intro x1 x2 s h
  unfold applyDio
  try dsimp only
  repeat' split
  all_goals first | with_reducible exact h | simp +contextual (maxDischargeDepth := 50) [h, foldl_epoch]

@[simp] theorem preloadDio_sound {s0 : State} : ∀ x1 s, Sound s0 s → Sound s0 (preloadDio x1 s) := by
  intro x1 s h
  unfold preloadDio
  try dsimp only
  repeat' split
  all_goals first | with_reducible exact h | simp +contextual (maxDischargeDepth := 50) [h, foldl_sound]

@[simp] theorem preloadDio_epoch {s0 : State} : ∀ x1 s, EpochStays s0 s → EpochStays s0 (preloadDio x1 s) := by
  intro x1 s h
  unfold preloadDio
  try dsimp only
  repeat' split
  all_goals first | with_reducible exact h | simp +contextual (maxDischargeDepth := 50) [h, foldl_epoch]

@[simp] theorem preloadStages_sound {s0 : State} : ∀ x1 x2 s, Sound s0 s → Sound s0 (preloadStages x1 x2 s) := by
  intro x1 x2 s h
  unfold preloadStages
  try dsimp only
  repeat' split
  all_goals first | with_reducible exact h | simp +contextual (maxDischargeDepth := 50) [h, foldl_sound]

@[simp] theorem preloadStages_epoch {s0 : State} : ∀ x1 x2 s, EpochStays s0 s → EpochStays s0 (preloadStages x1 x2 s) := by
  intro x1 x2 s h
  unfold preloadStages
  try dsimp only
  repeat' split
  all_goals first | with_reducible exact h | simp +contextual (maxDischargeDepth := 50) [h, foldl_epoch]

@[simp] theorem sendBroadcast_sound {s0 : State} : ∀ x1 x2 x3 s, Sound s0 s → Sound s0 (sendBroadcast x1 x2 x3 s) := by
  intro x1 x2 x3 s h
  unfold sendBroadcast
  try dsimp only
  repeat' split
  all_goals first | with_reducible exact h | simp +contextual (maxDischargeDepth := 50) [h, foldl_sound]

@[simp] theorem sendBroadcast_epoch {s0 : State} : ∀ x1 x2 x3 s, EpochStays s0 s → EpochStays s0 (sendBroadcast x1 x2 x3 s) := by
  intro x1 x2 x3 s h
  unfold sendBroadcast
  try dsimp only
  repeat' split
  all_goals first | with_reducible exact h | simp +contextual (maxDischargeDepth := 50) [h, foldl_epoch]

@[simp] theorem sendClaimBroadcast_sound {s0 : State} : ∀ s, Sound s0 s → Sound s0 (sendClaimBroadcast s) := by
  intro s h
  unfold sendClaimBroadcast
  try dsimp only
  repeat' split
  all_goals first | with_reducible exact h | simp +contextual (maxDischargeDepth := 50) [h, foldl_sound]

@[simp] theorem sendClaimBroadcast_epoch {s0 : State} : ∀ s, EpochStays s0 s → EpochStays s0 (sendClaimBroadcast s) := by
  intro s h
  unfold sendClaimBroadcast
  try dsimp only
  repeat' split
  all_goals first | with_reducible exact h | simp +contextual (maxDischargeDepth := 50) [h, foldl_epoch]

@[simp] theorem enterActive_sound {s0 : State} : ∀ x1 x2 x3 s, Sound s0 s → Sound s0 (enterActive x1 x2 x3 s) := by
  intro x1 x2 x3 s h
  unfold enterActive
  try dsimp only
  repeat' split
  all_goals first | with_reducible exact h | simp +contextual (maxDischargeDepth := 50) [h, foldl_sound]

@[simp] theorem enterActive_epoch {s0 : State} : ∀ x1 x2 x3 s, EpochStays s0 s → EpochStays s0 (enterActive x1 x2 x3 s) := by
  intro x1 x2 x3 s h
  unfold enterActive
  try dsimp only
  repeat' split
  all_goals first | with_reducible exact h | simp +contextual (maxDischargeDepth := 50) [h, foldl_epoch]

@[simp] theorem skipJournalIds_sound {s0 : State} : ∀ s, Sound s0 s → Sound s0 (skipJournalIds s) := by
  intro s h
  unfold skipJournalIds
  try dsimp only
  repeat' split
  all_goals first | with_reducible exact h | simp +contextual (maxDischargeDepth := 50) [h, foldl_sound]

@[simp] theorem skipJournalIds_epoch {s0 : State} : ∀ s, EpochStays s0 s → EpochStays s0 (skipJournalIds s) := by
  intro s h
  unfold skipJournalIds
  try dsimp only
  repeat' split
  all_goals first | with_reducible exact h | simp +contextual (maxDischargeDepth := 50) [h, foldl_epoch]

@[simp] theorem recordLost_sound {s0 : State} : ∀ x1 x2 s, Sound s0 s → Sound s0 (recordLost x1 x2 s) := by
  intro x1 x2 s h
  unfold recordLost
  try dsimp only
  repeat' split
  all_goals first | with_reducible exact h | simp +contextual (maxDischargeDepth := 50) [h, foldl_sound]

@[simp] theorem recordLost_epoch {s0 s : State} (a b) (h : EpochStays s0 s) : EpochStays s0 (recordLost a b s) := by
  unfold recordLost; split
  · exact h
  · refine onImg_epoch _ (fun i => ?_) h
    split <;> rfl

@[simp] theorem recordGap_sound {s0 : State} : ∀ x1 s, Sound s0 s → Sound s0 (recordGap x1 s) := by
  intro x1 s h
  unfold recordGap
  try dsimp only
  repeat' split
  all_goals first | with_reducible exact h | simp +contextual (maxDischargeDepth := 50) [h, foldl_sound]

@[simp] theorem recordGap_epoch {s0 : State} : ∀ x1 s, EpochStays s0 s → EpochStays s0 (recordGap x1 s) := by
  intro x1 s h
  unfold recordGap
  try dsimp only
  repeat' split
  all_goals first | with_reducible exact h | simp +contextual (maxDischargeDepth := 50) [h, foldl_epoch]

@[simp] theorem proofAfterTakeOver_sound {s0 : State} : ∀ x1 s, Sound s0 s → Sound s0 (proofAfterTakeOver x1 s) := by
  intro x1 s h
  unfold proofAfterTakeOver
  try dsimp only
  repeat' split
  all_goals first | with_reducible exact h | simp +contextual (maxDischargeDepth := 50) [h, foldl_sound]

@[simp] theorem proofAfterTakeOver_epoch {s0 : State} : ∀ x1 s, EpochStays s0 s → EpochStays s0 (proofAfterTakeOver x1 s) := by
  intro x1 s h
  unfold proofAfterTakeOver
  try dsimp only
  repeat' split
  all_goals first | with_reducible exact h | simp +contextual (maxDischargeDepth := 50) [h, foldl_epoch]

@[simp] theorem takeOverNow_sound {s0 : State} : ∀ x1 x2 x3 s, Sound s0 s → Sound s0 (takeOverNow x1 x2 x3 s) := by
  intro x1 x2 x3 s h
  unfold takeOverNow
  try dsimp only
  repeat' split
  all_goals first | with_reducible exact h | simp +contextual (maxDischargeDepth := 50) [h, foldl_sound]

@[simp] theorem takeOver_sound {s0 : State} : ∀ x1 x2 x3 s, Sound s0 s → Sound s0 (takeOver x1 x2 x3 s) := by
  intro x1 x2 x3 s h
  unfold takeOver
  try dsimp only
  repeat' split
  all_goals first | with_reducible exact h | simp +contextual (maxDischargeDepth := 50) [h, foldl_sound]

@[simp] theorem towSend_sound {s0 : State} : ∀ x1 s, Sound s0 s → Sound s0 (towSend x1 s) := by
  intro x1 s h
  unfold towSend
  try dsimp only
  repeat' split
  all_goals first | with_reducible exact h | simp +contextual (maxDischargeDepth := 50) [h, foldl_sound]

@[simp] theorem towSend_epoch {s0 : State} : ∀ x1 s, EpochStays s0 s → EpochStays s0 (towSend x1 s) := by
  intro x1 s h
  unfold towSend
  try dsimp only
  repeat' split
  all_goals first | with_reducible exact h | simp +contextual (maxDischargeDepth := 50) [h, foldl_epoch]

@[simp] theorem persisting_sound {s0 : State} : ∀ x1 x2 x3 x4 s, Sound s0 s → Sound s0 (persisting x1 x2 x3 x4 s) := by
  intro x1 x2 x3 x4 s h
  unfold persisting
  try dsimp only
  repeat' split
  all_goals first | with_reducible exact h | simp +contextual (maxDischargeDepth := 50) [h, foldl_sound]

@[simp] theorem mismatched_sound {s0 : State} : ∀ x1 x2 x3 x4 x5 s, Sound s0 s → Sound s0 (mismatched x1 x2 x3 x4 x5 s) := by
  intro x1 x2 x3 x4 x5 s h
  unfold mismatched
  try dsimp only
  repeat' split
  all_goals first | with_reducible exact h | simp +contextual (maxDischargeDepth := 50) [h, foldl_sound]

@[simp] theorem compared_sound {s0 : State} : ∀ x1 x2 x3 s, Sound s0 s → Sound s0 (compared x1 x2 x3 s) := by
  intro x1 x2 x3 s h
  unfold compared
  try dsimp only
  repeat' split
  all_goals first | with_reducible exact h | simp +contextual (maxDischargeDepth := 50) [h, foldl_sound]

@[simp] theorem matchBarges_sound {s0 : State} : ∀ (n : Nat) (s : State), Sound s0 s → Sound s0 (matchBarges n s) := by
  intro n; induction n with
  | zero => intro s h; exact h
  | succ n ih =>
    intro s h
    unfold matchBarges
    split
    · exact h
    · split
      · exact h
      · apply ih; repeat' split
        all_goals simp (maxDischargeDepth := 50) [h]

@[simp] theorem compareAll_sound {s0 : State} : ∀ s, Sound s0 s → Sound s0 (compareAll s) := by
  intro s h
  unfold compareAll
  try dsimp only
  repeat' split
  all_goals first | with_reducible exact h | simp +contextual (maxDischargeDepth := 50) [h, foldl_sound]

@[simp] theorem compareOutput_sound {s0 : State} : ∀ x1 x2 s, Sound s0 s → Sound s0 (compareOutput x1 x2 s) := by
  intro x1 x2 s h
  unfold compareOutput
  try dsimp only
  repeat' split
  all_goals first | with_reducible exact h | simp +contextual (maxDischargeDepth := 50) [h, foldl_sound]

@[simp] theorem receiveOther_sound {s0 s : State} (p n k b) (take : Barge → State → State) (hb : ∀ x s, Sound s0 s → Sound s0 (take x s)) (h : Sound s0 s) : Sound s0 (receiveOther p n k b take s) := by
  unfold receiveOther; split
  · exact fromOther_sound _ _ (fun s k => receiveBarge_sound _ _ _ _ _ (fun x s k => hb _ _ (noteOwnerBarge_sound _ _ _ k)) k) h
  · exact h

@[simp] theorem receiveOther_epoch {s0 s : State} (p n k b) (take : Barge → State → State) (hb : ∀ x s, EpochStays s0 s → EpochStays s0 (take x s)) (h : EpochStays s0 s) : EpochStays s0 (receiveOther p n k b take s) := by
  unfold receiveOther; split
  · exact fromOther_epoch _ _ (fun s k => receiveBarge_epoch _ _ _ _ _ (fun x s k => hb _ _ (noteOwnerBarge_epoch _ _ _ k)) k) h
  · exact h

@[simp] theorem noteSwitch_sound {s0 : State} : ∀ x1 s, Sound s0 s → Sound s0 (noteSwitch x1 s) := by
  intro x1 s h
  unfold noteSwitch
  try dsimp only
  repeat' split
  all_goals first | with_reducible exact h | simp +contextual (maxDischargeDepth := 50) [h, foldl_sound]

@[simp] theorem noteSwitch_epoch {s0 : State} : ∀ x1 s, EpochStays s0 s → EpochStays s0 (noteSwitch x1 s) := by
  intro x1 s h
  unfold noteSwitch
  try dsimp only
  repeat' split
  all_goals first | with_reducible exact h | simp +contextual (maxDischargeDepth := 50) [h, foldl_epoch]

@[simp] theorem takeStatus_sound {s0 : State} : ∀ x1 s, Sound s0 s → Sound s0 (takeStatus x1 s) := by
  intro x1 s h
  unfold takeStatus
  try dsimp only
  repeat' split
  all_goals first | with_reducible exact h | simp +contextual (maxDischargeDepth := 50) [h, foldl_sound]

@[simp] theorem takeStatus_epoch {s0 : State} : ∀ x1 s, EpochStays s0 s → EpochStays s0 (takeStatus x1 s) := by
  intro x1 s h
  unfold takeStatus
  try dsimp only
  repeat' split
  all_goals first | with_reducible exact h | simp +contextual (maxDischargeDepth := 50) [h, foldl_epoch]

@[simp] theorem ownSetting_sound {s0 : State} : ∀ x1 x2 s, Sound s0 s → Sound s0 (ownSetting x1 x2 s) := by
  intro x1 x2 s h
  unfold ownSetting
  try dsimp only
  repeat' split
  all_goals first | with_reducible exact h | simp +contextual (maxDischargeDepth := 50) [h, foldl_sound]

@[simp] theorem ownSetting_epoch {s0 : State} : ∀ x1 x2 s, EpochStays s0 s → EpochStays s0 (ownSetting x1 x2 s) := by
  intro x1 x2 s h
  unfold ownSetting
  try dsimp only
  repeat' split
  all_goals first | with_reducible exact h | simp +contextual (maxDischargeDepth := 50) [h, foldl_epoch]

@[simp] theorem sendSafeOnce_sound {s0 : State} : ∀ x1 s, Sound s0 s → Sound s0 (sendSafeOnce x1 s) := by
  intro x1 s h
  unfold sendSafeOnce
  try dsimp only
  repeat' split
  all_goals first | with_reducible exact h | simp +contextual (maxDischargeDepth := 50) [h, foldl_sound]

@[simp] theorem sendSafeOnce_epoch {s0 : State} : ∀ x1 s, EpochStays s0 s → EpochStays s0 (sendSafeOnce x1 s) := by
  intro x1 s h
  unfold sendSafeOnce
  try dsimp only
  repeat' split
  all_goals first | with_reducible exact h | simp +contextual (maxDischargeDepth := 50) [h, foldl_epoch]

@[simp] theorem sendSafe_sound {s0 : State} : ∀ s, Sound s0 s → Sound s0 (sendSafe s) := by
  intro s h
  unfold sendSafe
  try dsimp only
  repeat' split
  all_goals first | with_reducible exact h | simp +contextual (maxDischargeDepth := 50) [h, foldl_sound]

@[simp] theorem sendSafe_epoch {s0 : State} : ∀ s, EpochStays s0 s → EpochStays s0 (sendSafe s) := by
  intro s h
  unfold sendSafe
  try dsimp only
  repeat' split
  all_goals first | with_reducible exact h | simp +contextual (maxDischargeDepth := 50) [h, foldl_epoch]

@[simp] theorem dropOutputBarges_sound {s0 : State} : ∀ s, Sound s0 s → Sound s0 (dropOutputBarges s) := by
  intro s h
  unfold dropOutputBarges
  try dsimp only
  repeat' split
  all_goals first | with_reducible exact h | simp +contextual (maxDischargeDepth := 50) [h, foldl_sound]

@[simp] theorem dropOutputBarges_epoch {s0 : State} : ∀ s, EpochStays s0 s → EpochStays s0 (dropOutputBarges s) := by
  intro s h
  unfold dropOutputBarges
  try dsimp only
  repeat' split
  all_goals first | with_reducible exact h | simp +contextual (maxDischargeDepth := 50) [h, foldl_epoch]

@[simp] theorem putLaneCtx_sound {s0 : State} : ∀ x1 x2 x3 s, Sound s0 s → Sound s0 (putLaneCtx x1 x2 x3 s) := by
  intro x1 x2 x3 s h
  unfold putLaneCtx
  try dsimp only
  repeat' split
  all_goals first | with_reducible exact h | simp +contextual (maxDischargeDepth := 50) [h, foldl_sound]

@[simp] theorem putLaneCtx_epoch {s0 : State} : ∀ x1 x2 x3 s, EpochStays s0 s → EpochStays s0 (putLaneCtx x1 x2 x3 s) := by
  intro x1 x2 x3 s h
  unfold putLaneCtx
  try dsimp only
  repeat' split
  all_goals first | with_reducible exact h | simp +contextual (maxDischargeDepth := 50) [h, foldl_epoch]

@[simp] theorem setFault_sound {s0 : State} : ∀ x1 s, Sound s0 s → Sound s0 (setFault x1 s) := by
  intro x1 s h
  unfold setFault
  try dsimp only
  repeat' split
  all_goals first | with_reducible exact h | simp +contextual (maxDischargeDepth := 50) [h, foldl_sound]

@[simp] theorem setFault_epoch {s0 : State} : ∀ x1 s, EpochStays s0 s → EpochStays s0 (setFault x1 s) := by
  intro x1 s h
  unfold setFault
  try dsimp only
  repeat' split
  all_goals first | with_reducible exact h | simp +contextual (maxDischargeDepth := 50) [h, foldl_epoch]

@[simp] theorem handOver_sound {s0 : State} : ∀ x1 x2 s, Sound s0 s → Sound s0 (handOver x1 x2 s) := by
  intro x1 x2 s h
  unfold handOver
  try dsimp only
  repeat' split
  all_goals first | with_reducible exact h | simp +contextual (maxDischargeDepth := 50) [h, foldl_sound]

@[simp] theorem handOver_epoch {s0 : State} : ∀ x1 x2 s, EpochStays s0 s → EpochStays s0 (handOver x1 x2 s) := by
  intro x1 x2 s h
  unfold handOver
  try dsimp only
  repeat' split
  all_goals first | with_reducible exact h | simp +contextual (maxDischargeDepth := 50) [h, foldl_epoch]

@[simp] theorem safeStages_sound {s0 : State} : ∀ s, Sound s0 s → Sound s0 (safeStages s) := by
  intro s h
  unfold safeStages
  try dsimp only
  repeat' split
  all_goals first | with_reducible exact h | simp +contextual (maxDischargeDepth := 50) [h, foldl_sound]

@[simp] theorem safeStages_epoch {s0 : State} : ∀ s, EpochStays s0 s → EpochStays s0 (safeStages s) := by
  intro s h
  unfold safeStages
  try dsimp only
  repeat' split
  all_goals first | with_reducible exact h | simp +contextual (maxDischargeDepth := 50) [h, foldl_epoch]

@[simp] theorem stopFaulted_sound {s0 : State} : ∀ s, Sound s0 s → Sound s0 (stopFaulted s) := by
  intro s h
  unfold stopFaulted
  try dsimp only
  repeat' split
  all_goals first | with_reducible exact h | simp +contextual (maxDischargeDepth := 50) [h, foldl_sound]

@[simp] theorem stopFaulted_epoch {s0 : State} : ∀ s, EpochStays s0 s → EpochStays s0 (stopFaulted s) := by
  intro s h
  unfold stopFaulted
  try dsimp only
  repeat' split
  all_goals first | with_reducible exact h | simp +contextual (maxDischargeDepth := 50) [h, foldl_epoch]

@[simp] theorem moduleFault_sound {s0 : State} : ∀ x1 s, Sound s0 s → Sound s0 (moduleFault x1 s) := by
  intro x1 s h
  unfold moduleFault
  try dsimp only
  repeat' split
  all_goals first | with_reducible exact h | simp +contextual (maxDischargeDepth := 50) [h, foldl_sound]

@[simp] theorem moduleFault_epoch {s0 : State} : ∀ x1 s, EpochStays s0 s → EpochStays s0 (moduleFault x1 s) := by
  intro x1 s h
  unfold moduleFault
  try dsimp only
  repeat' split
  all_goals first | with_reducible exact h | simp +contextual (maxDischargeDepth := 50) [h, foldl_epoch]

@[simp] theorem poisonFault_sound {s0 : State} : ∀ s, Sound s0 s → Sound s0 (poisonFault s) := by
  intro s h
  unfold poisonFault
  try dsimp only
  repeat' split
  all_goals first | with_reducible exact h | simp +contextual (maxDischargeDepth := 50) [h, foldl_sound]

@[simp] theorem poisonFault_epoch {s0 : State} : ∀ s, EpochStays s0 s → EpochStays s0 (poisonFault s) := by
  intro s h
  unfold poisonFault
  try dsimp only
  repeat' split
  all_goals first | with_reducible exact h | simp +contextual (maxDischargeDepth := 50) [h, foldl_epoch]

@[simp] theorem draw_sound {s0 s : State} (h : Sound s0 s) : Sound s0 (draw s) := by
  exact h.of_eq rfl rfl rfl

@[simp] theorem draw_epoch {s0 s : State} (h : EpochStays s0 s) : EpochStays s0 (draw s) := by
  exact h

@[simp] theorem laneStep_sound {s0 : State} : ∀ s x1 x2 x3 x4, Sound s0 s → Sound s0 (laneStep s x1 x2 x3 x4) := by
  intro s x1 x2 x3 x4 h
  unfold laneStep
  try dsimp only
  repeat' split
  all_goals first | with_reducible exact h | simp +contextual (maxDischargeDepth := 50) [h, foldl_sound]

@[simp] theorem laneStep_epoch {s0 : State} : ∀ s x1 x2 x3 x4, EpochStays s0 s → EpochStays s0 (laneStep s x1 x2 x3 x4) := by
  intro s x1 x2 x3 x4 h
  unfold laneStep
  try dsimp only
  repeat' split
  all_goals first | with_reducible exact h | simp +contextual (maxDischargeDepth := 50) [h, foldl_epoch]

@[simp] theorem onWeave_sound {s0 : State} : ∀ x1 s, Sound s0 s → Sound s0 (onWeave x1 s) := by
  intro x1 s h
  unfold onWeave
  try dsimp only
  repeat' split
  all_goals first | with_reducible exact h | simp +contextual (maxDischargeDepth := 50) [h, foldl_sound]

@[simp] theorem onWeave_epoch {s0 : State} : ∀ x1 s, EpochStays s0 s → EpochStays s0 (onWeave x1 s) := by
  intro x1 s h
  unfold onWeave
  try dsimp only
  repeat' split
  all_goals first | with_reducible exact h | simp +contextual (maxDischargeDepth := 50) [h, foldl_epoch]

@[simp] theorem closeSession_sound {s0 : State} : ∀ s, Sound s0 s → Sound s0 (closeSession s) := by
  intro s h
  unfold closeSession
  try dsimp only
  repeat' split
  all_goals first | with_reducible exact h | simp +contextual (maxDischargeDepth := 50) [h, foldl_sound]

@[simp] theorem closeSession_epoch {s0 : State} : ∀ s, EpochStays s0 s → EpochStays s0 (closeSession s) := by
  intro s h
  unfold closeSession
  try dsimp only
  repeat' split
  all_goals first | with_reducible exact h | simp +contextual (maxDischargeDepth := 50) [h, foldl_epoch]

@[simp] theorem cutJournal_sound {s0 : State} : ∀ x1 s, Sound s0 s → Sound s0 (cutJournal x1 s) := by
  intro x1 s h
  unfold cutJournal
  try dsimp only
  repeat' split
  all_goals first | with_reducible exact h | simp +contextual (maxDischargeDepth := 50) [h, foldl_sound]

@[simp] theorem cutJournal_epoch {s0 : State} : ∀ x1 s, EpochStays s0 s → EpochStays s0 (cutJournal x1 s) := by
  intro x1 s h
  unfold cutJournal
  try dsimp only
  repeat' split
  all_goals first | with_reducible exact h | simp +contextual (maxDischargeDepth := 50) [h, foldl_epoch]

@[simp] theorem cutApply_sound {s0 : State} : ∀ s, Sound s0 s → Sound s0 (cutApply s) := by
  intro s h
  unfold cutApply
  try dsimp only
  repeat' split
  all_goals first | with_reducible exact h | simp +contextual (maxDischargeDepth := 50) [h, foldl_sound]

@[simp] theorem cutApply_epoch {s0 : State} : ∀ s, EpochStays s0 s → EpochStays s0 (cutApply s) := by
  intro s h
  unfold cutApply
  try dsimp only
  repeat' split
  all_goals first | with_reducible exact h | simp +contextual (maxDischargeDepth := 50) [h, foldl_epoch]

@[simp] theorem abandonMigration_sound {s0 : State} : ∀ s, Sound s0 s → Sound s0 (abandonMigration s) := by
  intro s h
  unfold abandonMigration
  try dsimp only
  repeat' split
  all_goals first | with_reducible exact h | simp +contextual (maxDischargeDepth := 50) [h, foldl_sound]

@[simp] theorem abandonMigration_epoch {s0 : State} : ∀ s, EpochStays s0 s → EpochStays s0 (abandonMigration s) := by
  intro s h
  unfold abandonMigration
  try dsimp only
  repeat' split
  all_goals first | with_reducible exact h | simp +contextual (maxDischargeDepth := 50) [h, foldl_epoch]

@[simp] theorem safeDio_sound {s0 : State} : ∀ x1 s, Sound s0 s → Sound s0 (safeDio x1 s) := by
  intro x1 s h
  unfold safeDio
  try dsimp only
  repeat' split
  all_goals first | with_reducible exact h | simp +contextual (maxDischargeDepth := 50) [h, foldl_sound]

@[simp] theorem safeDio_epoch {s0 : State} : ∀ x1 s, EpochStays s0 s → EpochStays s0 (safeDio x1 s) := by
  intro x1 s h
  unfold safeDio
  try dsimp only
  repeat' split
  all_goals first | with_reducible exact h | simp +contextual (maxDischargeDepth := 50) [h, foldl_epoch]

@[simp] theorem applySafeStates_sound {s0 : State} : ∀ s, Sound s0 s → Sound s0 (applySafeStates s) := by
  intro s h
  unfold applySafeStates
  try dsimp only
  repeat' split
  all_goals first | with_reducible exact h | simp +contextual (maxDischargeDepth := 50) [h, foldl_sound]

@[simp] theorem applySafeStates_epoch {s0 : State} : ∀ s, EpochStays s0 s → EpochStays s0 (applySafeStates s) := by
  intro s h
  unfold applySafeStates
  try dsimp only
  repeat' split
  all_goals first | with_reducible exact h | simp +contextual (maxDischargeDepth := 50) [h, foldl_epoch]

@[simp] theorem silenceField_sound {s0 : State} : ∀ s, Sound s0 s → Sound s0 (silenceField s) := by
  intro s h
  unfold silenceField
  try dsimp only
  repeat' split
  all_goals first | with_reducible exact h | simp +contextual (maxDischargeDepth := 50) [h, foldl_sound]

@[simp] theorem silenceField_epoch {s0 : State} : ∀ s, EpochStays s0 s → EpochStays s0 (silenceField s) := by
  intro s h
  unfold silenceField
  try dsimp only
  repeat' split
  all_goals first | with_reducible exact h | simp +contextual (maxDischargeDepth := 50) [h, foldl_epoch]

@[simp] theorem clearControl_sound {s0 : State} : ∀ s, Sound s0 s → Sound s0 (clearControl s) := by
  intro s h
  unfold clearControl
  try dsimp only
  repeat' split
  all_goals first | with_reducible exact h | simp +contextual (maxDischargeDepth := 50) [h, foldl_sound]

@[simp] theorem clearControl_epoch {s0 : State} : ∀ s, EpochStays s0 s → EpochStays s0 (clearControl s) := by
  intro s h
  unfold clearControl
  try dsimp only
  repeat' split
  all_goals first | with_reducible exact h | simp +contextual (maxDischargeDepth := 50) [h, foldl_epoch]

@[simp] theorem clearLinks_sound {s0 : State} : ∀ s, Sound s0 s → Sound s0 (clearLinks s) := by
  intro s h
  unfold clearLinks
  try dsimp only
  repeat' split
  all_goals first | with_reducible exact h | simp +contextual (maxDischargeDepth := 50) [h, foldl_sound]

@[simp] theorem clearLinks_epoch {s0 : State} : ∀ s, EpochStays s0 s → EpochStays s0 (clearLinks s) := by
  intro s h
  unfold clearLinks
  try dsimp only
  repeat' split
  all_goals first | with_reducible exact h | simp +contextual (maxDischargeDepth := 50) [h, foldl_epoch]

@[simp] theorem leaveLease_sound {s0 : State} : ∀ s, Sound s0 s → Sound s0 (leaveLease s) := by
  intro s h
  unfold leaveLease
  try dsimp only
  repeat' split
  all_goals first | with_reducible exact h | simp +contextual (maxDischargeDepth := 50) [h, foldl_sound]

@[simp] theorem leaveLease_epoch {s0 : State} : ∀ s, EpochStays s0 s → EpochStays s0 (leaveLease s) := by
  intro s h
  unfold leaveLease
  try dsimp only
  repeat' split
  all_goals first | with_reducible exact h | simp +contextual (maxDischargeDepth := 50) [h, foldl_epoch]

@[simp] theorem endSession_sound {s0 s : State} (id : Nat) (h : Sound s0 s) : Sound s0 (endSession id s) := by
  unfold endSession
  refine onSettings_sound _ (onKeeper_sound _ (fun _ => rfl) (foldl_sound _ (fun s x k => ?_) _ _ ?_))
  · split <;> simp (maxDischargeDepth := 50) [k]
  · repeat' split
    all_goals simp (maxDischargeDepth := 50) [h]

@[simp] theorem endSession_epoch {s0 s : State} (id : Nat) (h : EpochStays s0 s) : EpochStays s0 (endSession id s) := by
  unfold endSession
  refine onSettings_epoch _ (onKeeper_epoch _ (foldl_epoch _ (fun s x k => ?_) _ _ ?_))
  · split <;> simp (maxDischargeDepth := 50) [k]
  · repeat' split
    all_goals simp (maxDischargeDepth := 50) [h]

@[simp] theorem endConn_sound {s0 : State} : ∀ x1 s, Sound s0 s → Sound s0 (endConn x1 s) := by
  intro x1 s h
  unfold endConn
  try dsimp only
  repeat' split
  all_goals first | with_reducible exact h | simp +contextual (maxDischargeDepth := 50) [h, foldl_sound]

@[simp] theorem endConn_epoch {s0 : State} : ∀ x1 s, EpochStays s0 s → EpochStays s0 (endConn x1 s) := by
  intro x1 s h
  unfold endConn
  try dsimp only
  repeat' split
  all_goals first | with_reducible exact h | simp +contextual (maxDischargeDepth := 50) [h, foldl_epoch]

@[simp] theorem endConns_sound {s0 : State} : ∀ s, Sound s0 s → Sound s0 (endConns s) := by
  intro s h
  unfold endConns
  try dsimp only
  repeat' split
  all_goals first | with_reducible exact h | simp +contextual (maxDischargeDepth := 50) [h, foldl_sound]

@[simp] theorem endConns_epoch {s0 : State} : ∀ s, EpochStays s0 s → EpochStays s0 (endConns s) := by
  intro s h
  unfold endConns
  try dsimp only
  repeat' split
  all_goals first | with_reducible exact h | simp +contextual (maxDischargeDepth := 50) [h, foldl_epoch]

@[simp] theorem useSession_sound {s0 : State} : ∀ s, Sound s0 s → Sound s0 (useSession s).2 := by
  intro s h
  unfold useSession
  try dsimp only
  repeat' split
  all_goals first | with_reducible exact h | simp +contextual (maxDischargeDepth := 50) [h, foldl_sound]

@[simp] theorem useSession_epoch {s0 : State} : ∀ s, EpochStays s0 s → EpochStays s0 (useSession s).2 := by
  intro s h
  unfold useSession
  try dsimp only
  repeat' split
  all_goals first | with_reducible exact h | simp +contextual (maxDischargeDepth := 50) [h, foldl_epoch]

@[simp] theorem endSpi_sound {s0 : State} : ∀ s, Sound s0 s → Sound s0 (endSpi s) := by
  intro s h
  unfold endSpi
  try dsimp only
  repeat' split
  all_goals first | with_reducible exact h | simp +contextual (maxDischargeDepth := 50) [h, foldl_sound]

@[simp] theorem endSpi_epoch {s0 : State} : ∀ s, EpochStays s0 s → EpochStays s0 (endSpi s) := by
  intro s h
  unfold endSpi
  try dsimp only
  repeat' split
  all_goals first | with_reducible exact h | simp +contextual (maxDischargeDepth := 50) [h, foldl_epoch]

@[simp] theorem endPcie_sound {s0 : State} : ∀ s, Sound s0 s → Sound s0 (endPcie s) := by
  intro s h
  unfold endPcie
  try dsimp only
  repeat' split
  all_goals first | with_reducible exact h | simp +contextual (maxDischargeDepth := 50) [h, foldl_sound]

@[simp] theorem endPcie_epoch {s0 : State} : ∀ s, EpochStays s0 s → EpochStays s0 (endPcie s) := by
  intro s h
  unfold endPcie
  try dsimp only
  repeat' split
  all_goals first | with_reducible exact h | simp +contextual (maxDischargeDepth := 50) [h, foldl_epoch]

@[simp] theorem clearKeeper_sound {s0 s : State} (h : Sound s0 s) : Sound s0 (clearKeeper s) := by
  unfold clearKeeper
  have k : Sound s0 (endConns (endSpi (endPcie s))) := by simp (maxDischargeDepth := 50) [h]
  exact k.trans ⟨Nat.le_refl _, fun c => ⟨c.1, fun n => by simp [onKeeper, Keeper.reset, Mailbox.reset, Memory.wf, Vector.getElem_replicate]⟩, rfl⟩

@[simp] theorem clearKeeper_epoch {s0 : State} : ∀ s, EpochStays s0 s → EpochStays s0 (clearKeeper s) := by
  intro s h
  unfold clearKeeper
  try dsimp only
  repeat' split
  all_goals first | with_reducible exact h | simp +contextual (maxDischargeDepth := 50) [h, foldl_epoch]

@[simp] theorem clearDebug_sound {s0 : State} : ∀ s, Sound s0 s → Sound s0 (clearDebug s) := by
  intro s h
  unfold clearDebug
  try dsimp only
  repeat' split
  all_goals first | with_reducible exact h | simp +contextual (maxDischargeDepth := 50) [h, foldl_sound]

@[simp] theorem clearDebug_epoch {s0 : State} : ∀ s, EpochStays s0 s → EpochStays s0 (clearDebug s) := by
  intro s h
  unfold clearDebug
  try dsimp only
  repeat' split
  all_goals first | with_reducible exact h | simp +contextual (maxDischargeDepth := 50) [h, foldl_epoch]

@[simp] theorem onBist_sound {s0 s : State} (c) (g) (h : Sound s0 s) : Sound s0 (onBist c g s) := by
  exact h.of_eq rfl rfl rfl

@[simp] theorem onBist_epoch {s0 s : State} (c) (g) (h : EpochStays s0 s) : EpochStays s0 (onBist c g s) := by
  exact h

@[simp] theorem abortRun_sound {s0 : State} : ∀ x1 s, Sound s0 s → Sound s0 (abortRun x1 s) := by
  intro x1 s h
  unfold abortRun
  try dsimp only
  repeat' split
  all_goals first | with_reducible exact h | simp +contextual (maxDischargeDepth := 50) [h, foldl_sound]

@[simp] theorem abortRun_epoch {s0 : State} : ∀ x1 s, EpochStays s0 s → EpochStays s0 (abortRun x1 s) := by
  intro x1 s h
  unfold abortRun
  try dsimp only
  repeat' split
  all_goals first | with_reducible exact h | simp +contextual (maxDischargeDepth := 50) [h, foldl_epoch]

@[simp] theorem abortForeground_sound {s0 s : State} (h : Sound s0 s) : Sound s0 (abortForeground s) := by
  unfold abortForeground; exact foldl_sound _ (fun s b k => abortRun_sound _ _ k) _ _ h

@[simp] theorem abortForeground_epoch {s0 s : State} (h : EpochStays s0 s) : EpochStays s0 (abortForeground s) := by
  unfold abortForeground; exact foldl_epoch _ (fun s b k => abortRun_epoch _ _ k) _ _ h

@[simp] theorem collapse_sound {s0 s : State} (h : Sound s0 s) : Sound s0 (collapse s) := by
  have key : ∀ (x : State) (c : Vector Can 2) (d : List (ReqHdr × Request)), Sound s0 x → Sound s0 { x with can := c, deferred := d } :=
    fun x c d k => k.of_eq rfl rfl rfl
  unfold collapse
  dsimp only
  refine key _ _ _ ?_
  simp +contextual (maxDischargeDepth := 60) [h]

@[simp] theorem collapse_epoch {s0 s : State} (h : EpochStays s0 s) : EpochStays s0 (collapse s) := by
  have key : ∀ (x : State) (c : Vector Can 2) (d : List (ReqHdr × Request)), EpochStays s0 x → EpochStays s0 { x with can := c, deferred := d } :=
    fun x c d k => k
  unfold collapse
  dsimp only
  refine key _ _ _ ?_
  simp +contextual (maxDischargeDepth := 60) [h]

@[simp] theorem beginRestart_sound {s0 : State} : ∀ x1 s, Sound s0 s → Sound s0 (beginRestart x1 s) := by
  intro x1 s h
  unfold beginRestart
  try dsimp only
  repeat' split
  all_goals first | with_reducible exact h | simp +contextual (maxDischargeDepth := 50) [h, foldl_sound]

@[simp] theorem beginRestart_epoch {s0 : State} : ∀ x1 s, EpochStays s0 s → EpochStays s0 (beginRestart x1 s) := by
  intro x1 s h
  unfold beginRestart
  try dsimp only
  repeat' split
  all_goals first | with_reducible exact h | simp +contextual (maxDischargeDepth := 50) [h, foldl_epoch]

@[simp] theorem repairCopy_sound {s0 : State} : ∀ x1 s, Sound s0 s → Sound s0 (repairCopy x1 s) := by
  intro x1 s h
  unfold repairCopy
  try dsimp only
  repeat' split
  all_goals first | with_reducible exact h | simp +contextual (maxDischargeDepth := 50) [h, foldl_sound]

@[simp] theorem repairCopy_epoch {s0 : State} : ∀ x1 s, EpochStays s0 s → EpochStays s0 (repairCopy x1 s) := by
  intro x1 s h
  unfold repairCopy
  try dsimp only
  repeat' split
  all_goals first | with_reducible exact h | simp +contextual (maxDischargeDepth := 50) [h, foldl_epoch]

@[simp] theorem judgeSettings_sound {s0 : State} : ∀ s, Sound s0 s → Sound s0 (judgeSettings s) := by
  intro s h
  unfold judgeSettings
  try dsimp only
  repeat' split
  all_goals first | with_reducible exact h | simp +contextual (maxDischargeDepth := 50) [h, foldl_sound]

@[simp] theorem judgeSettings_epoch {s0 : State} : ∀ s, EpochStays s0 s → EpochStays s0 (judgeSettings s) := by
  intro s h
  unfold judgeSettings
  try dsimp only
  repeat' split
  all_goals first | with_reducible exact h | simp +contextual (maxDischargeDepth := 50) [h, foldl_epoch]

@[simp] theorem enforceSettings_sound {s0 : State} : ∀ x1 s, Sound s0 s → Sound s0 (enforceSettings x1 s) := by
  intro x1 s h
  unfold enforceSettings
  try dsimp only
  repeat' split
  all_goals first | with_reducible exact h | simp +contextual (maxDischargeDepth := 50) [h, foldl_sound]

@[simp] theorem enforceSettings_epoch {s0 : State} : ∀ x1 s, EpochStays s0 s → EpochStays s0 (enforceSettings x1 s) := by
  intro x1 s h
  unfold enforceSettings
  try dsimp only
  repeat' split
  all_goals first | with_reducible exact h | simp +contextual (maxDischargeDepth := 50) [h, foldl_epoch]

@[simp] theorem onSlot_sound {s0 : State} : ∀ x1 x2 s, Sound s0 s → Sound s0 (onSlot x1 x2 s) := by
  intro x1 x2 s h
  unfold onSlot
  try dsimp only
  repeat' split
  all_goals first | with_reducible exact h | simp +contextual (maxDischargeDepth := 50) [h, foldl_sound]

@[simp] theorem onSlot_epoch {s0 : State} : ∀ x1 x2 s, EpochStays s0 s → EpochStays s0 (onSlot x1 x2 s) := by
  intro x1 x2 s h
  unfold onSlot
  try dsimp only
  repeat' split
  all_goals first | with_reducible exact h | simp +contextual (maxDischargeDepth := 50) [h, foldl_epoch]

@[simp] theorem confirmBoot_sound {s0 : State} : ∀ s, Sound s0 s → Sound s0 (confirmBoot s) := by
  intro s h
  unfold confirmBoot
  try dsimp only
  repeat' split
  all_goals first | with_reducible exact h | simp +contextual (maxDischargeDepth := 50) [h, foldl_sound]

@[simp] theorem confirmBoot_epoch {s0 : State} : ∀ s, EpochStays s0 s → EpochStays s0 (confirmBoot s) := by
  intro s h
  unfold confirmBoot
  try dsimp only
  repeat' split
  all_goals first | with_reducible exact h | simp +contextual (maxDischargeDepth := 50) [h, foldl_epoch]

@[simp] theorem endActivations_sound {s0 : State} : ∀ s, Sound s0 s → Sound s0 (endActivations s) := by
  intro s h
  unfold endActivations
  try dsimp only
  repeat' split
  all_goals first | with_reducible exact h | simp +contextual (maxDischargeDepth := 50) [h, foldl_sound]

@[simp] theorem endActivations_epoch {s0 : State} : ∀ s, EpochStays s0 s → EpochStays s0 (endActivations s) := by
  intro s h
  unfold endActivations
  try dsimp only
  repeat' split
  all_goals first | with_reducible exact h | simp +contextual (maxDischargeDepth := 50) [h, foldl_epoch]

@[simp] theorem onLane_sound {s0 : State} : ∀ x1 x2 s, Sound s0 s → Sound s0 (onLane x1 x2 s) := by
  intro x1 x2 s h
  unfold onLane
  try dsimp only
  repeat' split
  all_goals first | with_reducible exact h | simp +contextual (maxDischargeDepth := 50) [h, foldl_sound]

@[simp] theorem onLane_epoch {s0 : State} : ∀ x1 x2 s, EpochStays s0 s → EpochStays s0 (onLane x1 x2 s) := by
  intro x1 x2 s h
  unfold onLane
  try dsimp only
  repeat' split
  all_goals first | with_reducible exact h | simp +contextual (maxDischargeDepth := 50) [h, foldl_epoch]

@[simp] theorem onRole_sound {s0 : State} : ∀ x1 x2 s, Sound s0 s → Sound s0 (onRole x1 x2 s) := by
  intro x1 x2 s h
  unfold onRole
  try dsimp only
  repeat' split
  all_goals first | with_reducible exact h | simp +contextual (maxDischargeDepth := 50) [h, foldl_sound]

@[simp] theorem onRole_epoch {s0 : State} : ∀ x1 x2 s, EpochStays s0 s → EpochStays s0 (onRole x1 x2 s) := by
  intro x1 x2 s h
  unfold onRole
  try dsimp only
  repeat' split
  all_goals first | with_reducible exact h | simp +contextual (maxDischargeDepth := 50) [h, foldl_epoch]

@[simp] theorem restoreLane_sound {s0 : State} : ∀ x1 s, Sound s0 s → Sound s0 (restoreLane x1 s) := by
  intro x1 s h
  unfold restoreLane
  try dsimp only
  repeat' split
  all_goals first | with_reducible exact h | simp +contextual (maxDischargeDepth := 50) [h, foldl_sound]

@[simp] theorem restoreLane_epoch {s0 : State} : ∀ x1 s, EpochStays s0 s → EpochStays s0 (restoreLane x1 s) := by
  intro x1 s h
  unfold restoreLane
  try dsimp only
  repeat' split
  all_goals first | with_reducible exact h | simp +contextual (maxDischargeDepth := 50) [h, foldl_epoch]

@[simp] theorem exchangeLane_sound {s0 : State} : ∀ x1 s, Sound s0 s → Sound s0 (exchangeLane x1 s) := by
  intro x1 s h
  unfold exchangeLane
  try dsimp only
  repeat' split
  all_goals first | with_reducible exact h | simp +contextual (maxDischargeDepth := 50) [h, foldl_sound]

@[simp] theorem exchangeLane_epoch {s0 : State} : ∀ x1 s, EpochStays s0 s → EpochStays s0 (exchangeLane x1 s) := by
  intro x1 s h
  unfold exchangeLane
  try dsimp only
  repeat' split
  all_goals first | with_reducible exact h | simp +contextual (maxDischargeDepth := 50) [h, foldl_epoch]

@[simp] theorem endUncompared_sound {s0 : State} : ∀ x1 x2 s, Sound s0 s → Sound s0 (endUncompared x1 x2 s) := by
  intro x1 x2 s h
  unfold endUncompared
  try dsimp only
  repeat' split
  all_goals first | with_reducible exact h | simp +contextual (maxDischargeDepth := 50) [h, foldl_sound]

@[simp] theorem endUncompared_epoch {s0 : State} : ∀ x1 x2 s, EpochStays s0 s → EpochStays s0 (endUncompared x1 x2 s) := by
  intro x1 x2 s h
  unfold endUncompared
  try dsimp only
  repeat' split
  all_goals first | with_reducible exact h | simp +contextual (maxDischargeDepth := 50) [h, foldl_epoch]

@[simp] theorem restoreLanes_sound {s0 s : State} (h : Sound s0 s) : Sound s0 (restoreLanes s) := by
  unfold restoreLanes; exact onWeave_sound _ _ (foldl_sound _ (fun s b k => restoreLane_sound _ _ k) _ _ h)

@[simp] theorem restoreLanes_epoch {s0 s : State} (h : EpochStays s0 s) : EpochStays s0 (restoreLanes s) := by
  unfold restoreLanes; exact onWeave_epoch _ _ (foldl_epoch _ (fun s b k => restoreLane_epoch _ _ k) _ _ h)

@[simp] theorem checkSpares_sound {s0 : State} : ∀ s, Sound s0 s → Sound s0 (checkSpares s) := by
  intro s h
  unfold checkSpares
  try dsimp only
  repeat' split
  all_goals first | with_reducible exact h | simp +contextual (maxDischargeDepth := 50) [h, foldl_sound]

@[simp] theorem checkSpares_epoch {s0 : State} : ∀ s, EpochStays s0 s → EpochStays s0 (checkSpares s) := by
  intro s h
  unfold checkSpares
  try dsimp only
  repeat' split
  all_goals first | with_reducible exact h | simp +contextual (maxDischargeDepth := 50) [h, foldl_epoch]

@[simp] theorem exchangeLanes_sound {s0 : State} : ∀ s, Sound s0 s → Sound s0 (exchangeLanes s) := by
  intro s h
  unfold exchangeLanes
  try dsimp only
  repeat' split
  all_goals first | with_reducible exact h | simp +contextual (maxDischargeDepth := 50) [h, foldl_sound]

@[simp] theorem exchangeLanes_epoch {s0 : State} : ∀ s, EpochStays s0 s → EpochStays s0 (exchangeLanes s) := by
  intro s h
  unfold exchangeLanes
  try dsimp only
  repeat' split
  all_goals first | with_reducible exact h | simp +contextual (maxDischargeDepth := 50) [h, foldl_epoch]

@[simp] theorem startEpoch_sound {s0 : State} : ∀ s, Sound s0 s → Sound s0 (startEpoch s) := by
  intro s h
  unfold startEpoch
  try dsimp only
  repeat' split
  all_goals first | with_reducible exact h | simp +contextual (maxDischargeDepth := 50) [h, foldl_sound]

@[simp] theorem clearForces_sound {s0 : State} : ∀ s, Sound s0 s → Sound s0 (clearForces s) := by
  intro s h
  unfold clearForces
  try dsimp only
  repeat' split
  all_goals first | with_reducible exact h | simp +contextual (maxDischargeDepth := 50) [h, foldl_sound]

@[simp] theorem clearForces_epoch {s0 : State} : ∀ s, EpochStays s0 s → EpochStays s0 (clearForces s) := by
  intro s h
  unfold clearForces
  try dsimp only
  repeat' split
  all_goals first | with_reducible exact h | simp +contextual (maxDischargeDepth := 50) [h, foldl_epoch]

@[simp] theorem wipeBasin_sound {s0 s : State} (h : Sound s0 s) : Sound s0 (wipeBasin s) := by
  unfold wipeBasin
  dsimp only
  refine onKeeper_sound _ (fun _ => rfl) (onRecd_sound _ (onUpd_sound _ ?_))
  exact h.trans ⟨Nat.le_refl _, fun c => ⟨rfl, c.2⟩, rfl⟩

@[simp] theorem wipeBasin_epoch {s0 : State} : ∀ s, EpochStays s0 s → EpochStays s0 (wipeBasin s) := by
  intro s h
  unfold wipeBasin
  try dsimp only
  repeat' split
  all_goals first | with_reducible exact h | simp +contextual (maxDischargeDepth := 50) [h, foldl_epoch]

@[simp] theorem wipeSettings_sound {s0 : State} : ∀ s, Sound s0 s → Sound s0 (wipeSettings s) := by
  intro s h
  unfold wipeSettings
  try dsimp only
  repeat' split
  all_goals first | with_reducible exact h | simp +contextual (maxDischargeDepth := 50) [h, foldl_sound]

@[simp] theorem wipeSettings_epoch {s0 : State} : ∀ s, EpochStays s0 s → EpochStays s0 (wipeSettings s) := by
  intro s h
  unfold wipeSettings
  try dsimp only
  repeat' split
  all_goals first | with_reducible exact h | simp +contextual (maxDischargeDepth := 50) [h, foldl_epoch]

@[simp] theorem wipe_sound {s0 : State} : ∀ x1 s, Sound s0 s → Sound s0 (wipe x1 s) := by
  intro x1 s h
  unfold wipe
  try dsimp only
  repeat' split
  all_goals first | with_reducible exact h | simp +contextual (maxDischargeDepth := 50) [h, foldl_sound]

@[simp] theorem wipe_epoch {s0 : State} : ∀ x1 s, EpochStays s0 s → EpochStays s0 (wipe x1 s) := by
  intro x1 s h
  unfold wipe
  try dsimp only
  repeat' split
  all_goals first | with_reducible exact h | simp +contextual (maxDischargeDepth := 50) [h, foldl_epoch]

@[simp] theorem resumeWipe_sound {s0 : State} : ∀ s, Sound s0 s → Sound s0 (resumeWipe s) := by
  intro s h
  unfold resumeWipe
  try dsimp only
  repeat' split
  all_goals first | with_reducible exact h | simp +contextual (maxDischargeDepth := 50) [h, foldl_sound]

@[simp] theorem resumeWipe_epoch {s0 : State} : ∀ s, EpochStays s0 s → EpochStays s0 (resumeWipe s) := by
  intro s h
  unfold resumeWipe
  try dsimp only
  repeat' split
  all_goals first | with_reducible exact h | simp +contextual (maxDischargeDepth := 50) [h, foldl_epoch]

@[simp] theorem startKeeper_sound {s0 : State} : ∀ s, Sound s0 s → Sound s0 (startKeeper s) := by
  intro s h
  unfold startKeeper
  try dsimp only
  repeat' split
  all_goals first | with_reducible exact h | simp +contextual (maxDischargeDepth := 50) [h, foldl_sound]

@[simp] theorem startKeeper_epoch {s0 : State} : ∀ s, EpochStays s0 s → EpochStays s0 (startKeeper s) := by
  intro s h
  unfold startKeeper
  try dsimp only
  repeat' split
  all_goals first | with_reducible exact h | simp +contextual (maxDischargeDepth := 50) [h, foldl_epoch]

@[simp] theorem buildNodes_sound {s0 : State} : ∀ s, Sound s0 s → Sound s0 (buildNodes s) := by
  intro s h
  unfold buildNodes
  try dsimp only
  repeat' split
  all_goals first | with_reducible exact h | simp +contextual (maxDischargeDepth := 50) [h, foldl_sound]

@[simp] theorem buildNodes_epoch {s0 : State} : ∀ s, EpochStays s0 s → EpochStays s0 (buildNodes s) := by
  intro s h
  unfold buildNodes
  try dsimp only
  repeat' split
  all_goals first | with_reducible exact h | simp +contextual (maxDischargeDepth := 50) [h, foldl_epoch]

@[simp] theorem setServo_sound {s0 : State} : ∀ x1 x2 s, Sound s0 s → Sound s0 (setServo x1 x2 s) := by
  intro x1 x2 s h
  unfold setServo
  try dsimp only
  repeat' split
  all_goals first | with_reducible exact h | simp +contextual (maxDischargeDepth := 50) [h, foldl_sound]

@[simp] theorem setServo_epoch {s0 : State} : ∀ x1 x2 s, EpochStays s0 s → EpochStays s0 (setServo x1 x2 s) := by
  intro x1 x2 s h
  unfold setServo
  try dsimp only
  repeat' split
  all_goals first | with_reducible exact h | simp +contextual (maxDischargeDepth := 50) [h, foldl_epoch]

@[simp] theorem startServo_sound {s0 : State} : ∀ x1 s, Sound s0 s → Sound s0 (startServo x1 s) := by
  intro x1 s h
  unfold startServo
  try dsimp only
  repeat' split
  all_goals first | with_reducible exact h | simp +contextual (maxDischargeDepth := 50) [h, foldl_sound]

@[simp] theorem startServo_epoch {s0 : State} : ∀ x1 s, EpochStays s0 s → EpochStays s0 (startServo x1 s) := by
  intro x1 s h
  unfold startServo
  try dsimp only
  repeat' split
  all_goals first | with_reducible exact h | simp +contextual (maxDischargeDepth := 50) [h, foldl_epoch]

@[simp] theorem scheduleGcl_sound {s0 : State} : ∀ x1 s, Sound s0 s → Sound s0 (scheduleGcl x1 s) := by
  intro x1 s h
  unfold scheduleGcl
  try dsimp only
  repeat' split
  all_goals first | with_reducible exact h | simp +contextual (maxDischargeDepth := 50) [h, foldl_sound]

@[simp] theorem scheduleGcl_epoch {s0 : State} : ∀ x1 s, EpochStays s0 s → EpochStays s0 (scheduleGcl x1 s) := by
  intro x1 s h
  unfold scheduleGcl
  try dsimp only
  repeat' split
  all_goals first | with_reducible exact h | simp +contextual (maxDischargeDepth := 50) [h, foldl_epoch]

@[simp] theorem configure_sound {s0 : State} : ∀ x1 s, Sound s0 s → Sound s0 (configure x1 s) := by
  intro x1 s h
  unfold configure
  try dsimp only
  repeat' split
  all_goals first | with_reducible exact h | simp +contextual (maxDischargeDepth := 50) [h, foldl_sound]

@[simp] theorem chooseReference_sound {s0 : State} : ∀ s, Sound s0 s → Sound s0 (chooseReference s) := by
  intro s h
  unfold chooseReference
  try dsimp only
  repeat' split
  all_goals first | with_reducible exact h | simp +contextual (maxDischargeDepth := 50) [h, foldl_sound]

@[simp] theorem chooseReference_epoch {s0 : State} : ∀ s, EpochStays s0 s → EpochStays s0 (chooseReference s) := by
  intro s h
  unfold chooseReference
  try dsimp only
  repeat' split
  all_goals first | with_reducible exact h | simp +contextual (maxDischargeDepth := 50) [h, foldl_epoch]

@[simp] theorem reachHeld_sound {s0 : State} : ∀ s, Sound s0 s → Sound s0 (reachHeld s) := by
  intro s h
  unfold reachHeld
  try dsimp only
  repeat' split
  all_goals first | with_reducible exact h | simp +contextual (maxDischargeDepth := 50) [h, foldl_sound]

@[simp] theorem reachHeld_epoch {s0 : State} : ∀ s, EpochStays s0 s → EpochStays s0 (reachHeld s) := by
  intro s h
  unfold reachHeld
  try dsimp only
  repeat' split
  all_goals first | with_reducible exact h | simp +contextual (maxDischargeDepth := 50) [h, foldl_epoch]

@[simp] theorem restartEvent_sound {s0 : State} : ∀ s, Sound s0 s → Sound s0 (restartEvent s) := by
  intro s h
  unfold restartEvent
  try dsimp only
  repeat' split
  all_goals first | with_reducible exact h | simp +contextual (maxDischargeDepth := 50) [h, foldl_sound]

@[simp] theorem restartEvent_epoch {s0 : State} : ∀ s, EpochStays s0 s → EpochStays s0 (restartEvent s) := by
  intro s h
  unfold restartEvent
  try dsimp only
  repeat' split
  all_goals first | with_reducible exact h | simp +contextual (maxDischargeDepth := 50) [h, foldl_epoch]

@[simp] theorem revertSlot_sound {s0 : State} : ∀ x1 x2 s, Sound s0 s → Sound s0 (revertSlot x1 x2 s) := by
  intro x1 x2 s h
  unfold revertSlot
  try dsimp only
  repeat' split
  all_goals first | with_reducible exact h | simp +contextual (maxDischargeDepth := 50) [h, foldl_sound]

@[simp] theorem revertSlot_epoch {s0 : State} : ∀ x1 x2 s, EpochStays s0 s → EpochStays s0 (revertSlot x1 x2 s) := by
  intro x1 x2 s h
  unfold revertSlot
  try dsimp only
  repeat' split
  all_goals first | with_reducible exact h | simp +contextual (maxDischargeDepth := 50) [h, foldl_epoch]

theorem secureBoot_sound {s0 s s' : State} (h : Sound s0 s) (e : secureBoot s = some s') : Sound s0 s' := by
  unfold secureBoot at e
  dsimp only at e
  split at e
  · cases e; exact h
  · split at e
    · split at e
      · cases e; simp (maxDischargeDepth := 50) [h]
      · cases e
    · split at e
      · cases e; simp (maxDischargeDepth := 50) [h]
      · cases e

theorem secureBoot_epoch {s0 s s' : State} (h : EpochStays s0 s) (e : secureBoot s = some s') : EpochStays s0 s' := by
  unfold secureBoot at e
  dsimp only at e
  split at e
  · cases e; exact h
  · split at e
    · split at e
      · cases e; simp (maxDischargeDepth := 50) [h]
      · cases e
    · split at e
      · cases e; simp (maxDischargeDepth := 50) [h]
      · cases e

theorem bootFirmware_sound {s0 s s' : State} (h : Sound s0 s) (e : bootFirmware s = some s') : Sound s0 s' := by
  unfold bootFirmware at e
  split at e
  · cases e
  · rename_i k
    have m := secureBoot_sound h k
    split at e
    · exact secureBoot_sound (revertSlot_sound _ _ _ m) e
    · cases e; exact m

theorem bootFirmware_epoch {s0 s s' : State} (h : EpochStays s0 s) (e : bootFirmware s = some s') : EpochStays s0 s' := by
  unfold bootFirmware at e
  split at e
  · cases e
  · rename_i k
    have m := secureBoot_epoch h k
    split at e
    · exact secureBoot_epoch (revertSlot_epoch _ _ _ m) e
    · cases e; exact m

@[simp] theorem endRun_sound {s0 : State} : ∀ x1 x2 s, Sound s0 s → Sound s0 (endRun x1 x2 s) := by
  intro x1 x2 s h
  unfold endRun
  try dsimp only
  repeat' split
  all_goals first | with_reducible exact h | simp +contextual (maxDischargeDepth := 50) [h, foldl_sound]

@[simp] theorem endRun_epoch {s0 : State} : ∀ x1 x2 s, EpochStays s0 s → EpochStays s0 (endRun x1 x2 s) := by
  intro x1 x2 s h
  unfold endRun
  try dsimp only
  repeat' split
  all_goals first | with_reducible exact h | simp +contextual (maxDischargeDepth := 50) [h, foldl_epoch]

@[simp] theorem noteResult_sound {s0 : State} : ∀ x1 s, Sound s0 s → Sound s0 (noteResult x1 s) := by
  intro x1 s h
  unfold noteResult
  try dsimp only
  repeat' split
  all_goals first | with_reducible exact h | simp +contextual (maxDischargeDepth := 50) [h, foldl_sound]

@[simp] theorem noteResult_epoch {s0 : State} : ∀ x1 s, EpochStays s0 s → EpochStays s0 (noteResult x1 s) := by
  intro x1 s h
  unfold noteResult
  try dsimp only
  repeat' split
  all_goals first | with_reducible exact h | simp +contextual (maxDischargeDepth := 50) [h, foldl_epoch]

@[simp] theorem failEvent_sound {s0 : State} : ∀ x1 s, Sound s0 s → Sound s0 (failEvent x1 s) := by
  intro x1 s h
  unfold failEvent
  try dsimp only
  repeat' split
  all_goals first | with_reducible exact h | simp +contextual (maxDischargeDepth := 50) [h, foldl_sound]

@[simp] theorem failEvent_epoch {s0 : State} : ∀ x1 s, EpochStays s0 s → EpochStays s0 (failEvent x1 s) := by
  intro x1 s h
  unfold failEvent
  try dsimp only
  repeat' split
  all_goals first | with_reducible exact h | simp +contextual (maxDischargeDepth := 50) [h, foldl_epoch]

@[simp] theorem setRole_sound {s0 : State} : ∀ x1 x2 s, Sound s0 s → Sound s0 (setRole x1 x2 s) := by
  intro x1 x2 s h
  unfold setRole
  try dsimp only
  repeat' split
  all_goals first | with_reducible exact h | simp +contextual (maxDischargeDepth := 50) [h, foldl_sound]

@[simp] theorem setRole_epoch {s0 : State} : ∀ x1 x2 s, EpochStays s0 s → EpochStays s0 (setRole x1 x2 s) := by
  intro x1 x2 s h
  unfold setRole
  try dsimp only
  repeat' split
  all_goals first | with_reducible exact h | simp +contextual (maxDischargeDepth := 50) [h, foldl_epoch]

@[simp] theorem leaveTest_sound {s0 : State} : ∀ x1 s, Sound s0 s → Sound s0 (leaveTest x1 s) := by
  intro x1 s h
  unfold leaveTest
  try dsimp only
  repeat' split
  all_goals first | with_reducible exact h | simp +contextual (maxDischargeDepth := 50) [h, foldl_sound]

@[simp] theorem leaveTest_epoch {s0 : State} : ∀ x1 s, EpochStays s0 s → EpochStays s0 (leaveTest x1 s) := by
  intro x1 s h
  unfold leaveTest
  try dsimp only
  repeat' split
  all_goals first | with_reducible exact h | simp +contextual (maxDischargeDepth := 50) [h, foldl_epoch]

@[simp] theorem onSection_sound {s0 : State} : ∀ x1 x2 s, Sound s0 s → Sound s0 (onSection x1 x2 s) := by
  intro x1 x2 s h
  unfold onSection
  try dsimp only
  repeat' split
  all_goals first | with_reducible exact h | simp +contextual (maxDischargeDepth := 50) [h, foldl_sound]

@[simp] theorem onSection_epoch {s0 : State} : ∀ x1 x2 s, EpochStays s0 s → EpochStays s0 (onSection x1 x2 s) := by
  intro x1 x2 s h
  unfold onSection
  try dsimp only
  repeat' split
  all_goals first | with_reducible exact h | simp +contextual (maxDischargeDepth := 50) [h, foldl_epoch]

@[simp] theorem noSpareFor_sound {s0 : State} : ∀ x1 x2 x3 s, Sound s0 s → Sound s0 (noSpareFor x1 x2 x3 s) := by
  intro x1 x2 x3 s h
  unfold noSpareFor
  try dsimp only
  repeat' split
  all_goals first | with_reducible exact h | simp +contextual (maxDischargeDepth := 50) [h, foldl_sound]

@[simp] theorem noSpareFor_epoch {s0 : State} : ∀ x1 x2 x3 s, EpochStays s0 s → EpochStays s0 (noSpareFor x1 x2 x3 s) := by
  intro x1 x2 x3 s h
  unfold noSpareFor
  try dsimp only
  repeat' split
  all_goals first | with_reducible exact h | simp +contextual (maxDischargeDepth := 50) [h, foldl_epoch]

@[simp] theorem abortBackground_sound {s0 : State} : ∀ x1 s, Sound s0 s → Sound s0 (abortBackground x1 s) := by
  intro x1 s h
  unfold abortBackground
  try dsimp only
  repeat' split
  all_goals first | with_reducible exact h | simp +contextual (maxDischargeDepth := 50) [h, foldl_sound]

@[simp] theorem abortBackground_epoch {s0 : State} : ∀ x1 s, EpochStays s0 s → EpochStays s0 (abortBackground x1 s) := by
  intro x1 s h
  unfold abortBackground
  try dsimp only
  repeat' split
  all_goals first | with_reducible exact h | simp +contextual (maxDischargeDepth := 50) [h, foldl_epoch]

@[simp] theorem beginMigration_sound {s0 : State} : ∀ x1 x2 s, Sound s0 s → Sound s0 (beginMigration x1 x2 s) := by
  intro x1 x2 s h
  unfold beginMigration
  try dsimp only
  repeat' split
  all_goals first | with_reducible exact h | simp +contextual (maxDischargeDepth := 50) [h, foldl_sound]

@[simp] theorem beginMigration_epoch {s0 : State} : ∀ x1 x2 s, EpochStays s0 s → EpochStays s0 (beginMigration x1 x2 s) := by
  intro x1 x2 s h
  unfold beginMigration
  try dsimp only
  repeat' split
  all_goals first | with_reducible exact h | simp +contextual (maxDischargeDepth := 50) [h, foldl_epoch]

@[simp] theorem nextMigration_sound {s0 : State} : ∀ s, Sound s0 s → Sound s0 (nextMigration s) := by
  intro s h
  unfold nextMigration
  try dsimp only
  repeat' split
  all_goals first | with_reducible exact h | simp +contextual (maxDischargeDepth := 50) [h, foldl_sound]

@[simp] theorem nextMigration_epoch {s0 : State} : ∀ s, EpochStays s0 s → EpochStays s0 (nextMigration s) := by
  intro s h
  unfold nextMigration
  try dsimp only
  repeat' split
  all_goals first | with_reducible exact h | simp +contextual (maxDischargeDepth := 50) [h, foldl_epoch]

@[simp] theorem checkSection_sound {s0 : State} : ∀ x1 s, Sound s0 s → Sound s0 (checkSection x1 s) := by
  intro x1 s h
  unfold checkSection
  try dsimp only
  repeat' split
  all_goals first | with_reducible exact h | simp +contextual (maxDischargeDepth := 50) [h, foldl_sound]

@[simp] theorem checkSection_epoch {s0 : State} : ∀ x1 s, EpochStays s0 s → EpochStays s0 (checkSection x1 s) := by
  intro x1 s h
  unfold checkSection
  try dsimp only
  repeat' split
  all_goals first | with_reducible exact h | simp +contextual (maxDischargeDepth := 50) [h, foldl_epoch]

@[simp] theorem finishMigration_sound {s0 : State} : ∀ x1 s, Sound s0 s → Sound s0 (finishMigration x1 s) := by
  intro x1 s h
  unfold finishMigration
  try dsimp only
  repeat' split
  all_goals first | with_reducible exact h | simp +contextual (maxDischargeDepth := 50) [h, foldl_sound]

@[simp] theorem finishMigration_epoch {s0 : State} : ∀ x1 s, EpochStays s0 s → EpochStays s0 (finishMigration x1 s) := by
  intro x1 s h
  unfold finishMigration
  try dsimp only
  repeat' split
  all_goals first | with_reducible exact h | simp +contextual (maxDischargeDepth := 50) [h, foldl_epoch]

@[simp] theorem moveSection_sound {s0 : State} : ∀ x1 s, Sound s0 s → Sound s0 (moveSection x1 s) := by
  intro x1 s h
  unfold moveSection
  try dsimp only
  repeat' split
  all_goals first | with_reducible exact h | simp +contextual (maxDischargeDepth := 50) [h, foldl_sound]

@[simp] theorem moveSection_epoch {s0 : State} : ∀ x1 s, EpochStays s0 s → EpochStays s0 (moveSection x1 s) := by
  intro x1 s h
  unfold moveSection
  try dsimp only
  repeat' split
  all_goals first | with_reducible exact h | simp +contextual (maxDischargeDepth := 50) [h, foldl_epoch]

@[simp] theorem sectionResult_sound {s0 : State} : ∀ x1 x2 s, Sound s0 s → Sound s0 (sectionResult x1 x2 s) := by
  intro x1 x2 s h
  unfold sectionResult
  try dsimp only
  repeat' split
  all_goals first | with_reducible exact h | simp +contextual (maxDischargeDepth := 50) [h, foldl_sound]

@[simp] theorem sectionResult_epoch {s0 : State} : ∀ x1 x2 s, EpochStays s0 s → EpochStays s0 (sectionResult x1 x2 s) := by
  intro x1 x2 s h
  unfold sectionResult
  try dsimp only
  repeat' split
  all_goals first | with_reducible exact h | simp +contextual (maxDischargeDepth := 50) [h, foldl_epoch]

@[simp] theorem laneResult_sound {s0 : State} : ∀ x1 s, Sound s0 s → Sound s0 (laneResult x1 s) := by
  intro x1 s h
  unfold laneResult
  try dsimp only
  repeat' split
  all_goals first | with_reducible exact h | simp +contextual (maxDischargeDepth := 50) [h, foldl_sound]

@[simp] theorem laneResult_epoch {s0 : State} : ∀ x1 s, EpochStays s0 s → EpochStays s0 (laneResult x1 s) := by
  intro x1 s h
  unfold laneResult
  try dsimp only
  repeat' split
  all_goals first | with_reducible exact h | simp +contextual (maxDischargeDepth := 50) [h, foldl_epoch]

@[simp] theorem judgeRun_sound {s0 : State} : ∀ x1 x2 s, Sound s0 s → Sound s0 (judgeRun x1 x2 s) := by
  intro x1 x2 s h
  unfold judgeRun
  try dsimp only
  repeat' split
  all_goals first | with_reducible exact h | simp +contextual (maxDischargeDepth := 50) [h, foldl_sound]

@[simp] theorem judgeRun_epoch {s0 : State} : ∀ x1 x2 s, EpochStays s0 s → EpochStays s0 (judgeRun x1 x2 s) := by
  intro x1 x2 s h
  unfold judgeRun
  try dsimp only
  repeat' split
  all_goals first | with_reducible exact h | simp +contextual (maxDischargeDepth := 50) [h, foldl_epoch]

@[simp] theorem judgeAll_sound {s0 : State} : ∀ x1 x2 s, Sound s0 s → Sound s0 (judgeAll x1 x2 s) := by
  intro x1 x2 s h
  unfold judgeAll
  try dsimp only
  repeat' split
  all_goals first | with_reducible exact h | simp +contextual (maxDischargeDepth := 50) [h, foldl_sound]

@[simp] theorem judgeAll_epoch {s0 : State} : ∀ x1 x2 s, EpochStays s0 s → EpochStays s0 (judgeAll x1 x2 s) := by
  intro x1 x2 s h
  unfold judgeAll
  try dsimp only
  repeat' split
  all_goals first | with_reducible exact h | simp +contextual (maxDischargeDepth := 50) [h, foldl_epoch]

@[simp] theorem finishStart_sound {s0 : State} : ∀ x1 x2 s, Sound s0 s → Sound s0 (finishStart x1 x2 s) := by
  intro x1 x2 s h
  unfold finishStart
  try dsimp only
  repeat' split
  all_goals first | with_reducible exact h | simp +contextual (maxDischargeDepth := 50) [h, foldl_sound]

@[simp] theorem startUp_sound {s0 s : State} (p r) (h : Sound s0 s) : Sound s0 (startUp p r s) := by
  unfold startUp; split
  · exact h
  · split
    · exact h
    · rename_i e; exact finishStart_sound _ _ _ (startKeeper_sound _ (bootFirmware_sound h e))

@[simp] theorem powerOff_sound {s0 s : State} (h : Sound s0 s) : Sound s0 (powerOff s) := by
  exact h.trans ⟨Nat.le_refl _, fun _ => ⟨rfl, fun n => by simp [powerOff, Keeper.reset, Mailbox.reset, Memory.wf]⟩, rfl⟩

@[simp] theorem setCanMode_sound {s0 : State} : ∀ x1 x2 s, Sound s0 s → Sound s0 (setCanMode x1 x2 s) := by
  intro x1 x2 s h
  unfold setCanMode
  try dsimp only
  repeat' split
  all_goals first | with_reducible exact h | simp +contextual (maxDischargeDepth := 50) [h, foldl_sound]

@[simp] theorem setCanMode_epoch {s0 : State} : ∀ x1 x2 s, EpochStays s0 s → EpochStays s0 (setCanMode x1 x2 s) := by
  intro x1 x2 s h
  unfold setCanMode
  try dsimp only
  repeat' split
  all_goals first | with_reducible exact h | simp +contextual (maxDischargeDepth := 50) [h, foldl_epoch]

@[simp] theorem batchSent_sound {s0 : State} : ∀ x1 x2 s, Sound s0 s → Sound s0 (batchSent x1 x2 s) := by
  intro x1 x2 s h
  unfold batchSent
  try dsimp only
  repeat' split
  all_goals first | with_reducible exact h | simp +contextual (maxDischargeDepth := 50) [h, foldl_sound]

@[simp] theorem batchSent_epoch {s0 : State} : ∀ x1 x2 s, EpochStays s0 s → EpochStays s0 (batchSent x1 x2 s) := by
  intro x1 x2 s h
  unfold batchSent
  try dsimp only
  repeat' split
  all_goals first | with_reducible exact h | simp +contextual (maxDischargeDepth := 50) [h, foldl_epoch]

@[simp] theorem confine_sound {s0 : State} : ∀ x1 s, Sound s0 s → Sound s0 (confine x1 s) := by
  intro x1 s h
  unfold confine
  try dsimp only
  repeat' split
  all_goals first | with_reducible exact h | simp +contextual (maxDischargeDepth := 50) [h, foldl_sound]

@[simp] theorem confine_epoch {s0 : State} : ∀ x1 s, EpochStays s0 s → EpochStays s0 (confine x1 s) := by
  intro x1 s h
  unfold confine
  try dsimp only
  repeat' split
  all_goals first | with_reducible exact h | simp +contextual (maxDischargeDepth := 50) [h, foldl_epoch]

@[simp] theorem frameSent_sound {s0 : State} : ∀ x1 x2 s, Sound s0 s → Sound s0 (frameSent x1 x2 s) := by
  intro x1 x2 s h
  unfold frameSent
  try dsimp only
  repeat' split
  all_goals first | with_reducible exact h | simp +contextual (maxDischargeDepth := 50) [h, foldl_sound]

@[simp] theorem frameSent_epoch {s0 : State} : ∀ x1 x2 s, EpochStays s0 s → EpochStays s0 (frameSent x1 x2 s) := by
  intro x1 x2 s h
  unfold frameSent
  try dsimp only
  repeat' split
  all_goals first | with_reducible exact h | simp +contextual (maxDischargeDepth := 50) [h, foldl_epoch]

@[simp] theorem frameLeft_sound {s0 : State} : ∀ x1 x2 s, Sound s0 s → Sound s0 (frameLeft x1 x2 s) := by
  intro x1 x2 s h
  unfold frameLeft
  try dsimp only
  repeat' split
  all_goals first | with_reducible exact h | simp +contextual (maxDischargeDepth := 50) [h, foldl_sound]

@[simp] theorem frameLeft_epoch {s0 : State} : ∀ x1 x2 s, EpochStays s0 s → EpochStays s0 (frameLeft x1 x2 s) := by
  intro x1 x2 s h
  unfold frameLeft
  try dsimp only
  repeat' split
  all_goals first | with_reducible exact h | simp +contextual (maxDischargeDepth := 50) [h, foldl_epoch]

@[simp] theorem formObjects_sound {s0 : State} : ∀ x1 x2 s, Sound s0 s → Sound s0 (formObjects x1 x2 s) := by
  intro x1 x2 s h
  unfold formObjects
  try dsimp only
  repeat' split
  all_goals first | with_reducible exact h | simp +contextual (maxDischargeDepth := 50) [h, foldl_sound]

@[simp] theorem formObjects_epoch {s0 : State} : ∀ x1 x2 s, EpochStays s0 s → EpochStays s0 (formObjects x1 x2 s) := by
  intro x1 x2 s h
  unfold formObjects
  try dsimp only
  repeat' split
  all_goals first | with_reducible exact h | simp +contextual (maxDischargeDepth := 50) [h, foldl_epoch]

@[simp] theorem nextCandidate_sound {s0 : State} : ∀ x1 x2 s, Sound s0 s → Sound s0 (nextCandidate x1 x2 s) := by
  intro x1 x2 s h
  unfold nextCandidate
  try dsimp only
  repeat' split
  all_goals first | with_reducible exact h | simp +contextual (maxDischargeDepth := 50) [h, foldl_sound]

@[simp] theorem nextCandidate_epoch {s0 : State} : ∀ x1 x2 s, EpochStays s0 s → EpochStays s0 (nextCandidate x1 x2 s) := by
  intro x1 x2 s h
  unfold nextCandidate
  try dsimp only
  repeat' split
  all_goals first | with_reducible exact h | simp +contextual (maxDischargeDepth := 50) [h, foldl_epoch]

@[simp] theorem searchFrame_sound {s0 : State} : ∀ x1 x2 x3 s, Sound s0 s → Sound s0 (searchFrame x1 x2 x3 s) := by
  intro x1 x2 x3 s h
  unfold searchFrame
  try dsimp only
  repeat' split
  all_goals first | with_reducible exact h | simp +contextual (maxDischargeDepth := 50) [h, foldl_sound]

@[simp] theorem searchFrame_epoch {s0 : State} : ∀ x1 x2 x3 s, EpochStays s0 s → EpochStays s0 (searchFrame x1 x2 x3 s) := by
  intro x1 x2 x3 s h
  unfold searchFrame
  try dsimp only
  repeat' split
  all_goals first | with_reducible exact h | simp +contextual (maxDischargeDepth := 50) [h, foldl_epoch]

@[simp] theorem toQueue_sound {s0 : State} : ∀ x1 x2 x3 x4 s, Sound s0 s → Sound s0 (toQueue x1 x2 x3 x4 s) := by
  intro x1 x2 x3 x4 s h
  unfold toQueue
  try dsimp only
  repeat' split
  all_goals first | with_reducible exact h | simp +contextual (maxDischargeDepth := 50) [h, foldl_sound]

@[simp] theorem toQueue_epoch {s0 : State} : ∀ x1 x2 x3 x4 s, EpochStays s0 s → EpochStays s0 (toQueue x1 x2 x3 x4 s) := by
  intro x1 x2 x3 x4 s h
  unfold toQueue
  try dsimp only
  repeat' split
  all_goals first | with_reducible exact h | simp +contextual (maxDischargeDepth := 50) [h, foldl_epoch]

@[simp] theorem acceptFrame_sound {s0 : State} : ∀ x1 x2 x3 x4 s, Sound s0 s → Sound s0 (acceptFrame x1 x2 x3 x4 s) := by
  intro x1 x2 x3 x4 s h
  unfold acceptFrame
  try dsimp only
  repeat' split
  all_goals first | with_reducible exact h | simp +contextual (maxDischargeDepth := 50) [h, foldl_sound]

@[simp] theorem acceptFrame_epoch {s0 : State} : ∀ x1 x2 x3 x4 s, EpochStays s0 s → EpochStays s0 (acceptFrame x1 x2 x3 x4 s) := by
  intro x1 x2 x3 x4 s h
  unfold acceptFrame
  try dsimp only
  repeat' split
  all_goals first | with_reducible exact h | simp +contextual (maxDischargeDepth := 50) [h, foldl_epoch]

@[simp] theorem withdrawOneShot_sound {s0 : State} : ∀ x1 x2 s, Sound s0 s → Sound s0 (withdrawOneShot x1 x2 s) := by
  intro x1 x2 s h
  unfold withdrawOneShot
  try dsimp only
  repeat' split
  all_goals first | with_reducible exact h | simp +contextual (maxDischargeDepth := 50) [h, foldl_sound]

@[simp] theorem withdrawOneShot_epoch {s0 : State} : ∀ x1 x2 s, EpochStays s0 s → EpochStays s0 (withdrawOneShot x1 x2 s) := by
  intro x1 x2 s h
  unfold withdrawOneShot
  try dsimp only
  repeat' split
  all_goals first | with_reducible exact h | simp +contextual (maxDischargeDepth := 50) [h, foldl_epoch]

@[simp] theorem lostArbitration_sound {s0 : State} : ∀ x1 s, Sound s0 s → Sound s0 (lostArbitration x1 s) := by
  intro x1 s h
  unfold lostArbitration
  try dsimp only
  repeat' split
  all_goals first | with_reducible exact h | simp +contextual (maxDischargeDepth := 50) [h, foldl_sound]

@[simp] theorem lostArbitration_epoch {s0 : State} : ∀ x1 s, EpochStays s0 s → EpochStays s0 (lostArbitration x1 s) := by
  intro x1 s h
  unfold lostArbitration
  try dsimp only
  repeat' split
  all_goals first | with_reducible exact h | simp +contextual (maxDischargeDepth := 50) [h, foldl_epoch]

@[simp] theorem noteClash_sound {s0 : State} : ∀ x1 x2 x3 s, Sound s0 s → Sound s0 (noteClash x1 x2 x3 s) := by
  intro x1 x2 x3 s h
  unfold noteClash
  try dsimp only
  repeat' split
  all_goals first | with_reducible exact h | simp +contextual (maxDischargeDepth := 50) [h, foldl_sound]

@[simp] theorem noteClash_epoch {s0 : State} : ∀ x1 x2 x3 s, EpochStays s0 s → EpochStays s0 (noteClash x1 x2 x3 s) := by
  intro x1 x2 x3 s h
  unfold noteClash
  try dsimp only
  repeat' split
  all_goals first | with_reducible exact h | simp +contextual (maxDischargeDepth := 50) [h, foldl_epoch]

@[simp] theorem noteAckError_sound {s0 : State} : ∀ x1 x2 s, Sound s0 s → Sound s0 (noteAckError x1 x2 s) := by
  intro x1 x2 s h
  unfold noteAckError
  try dsimp only
  repeat' split
  all_goals first | with_reducible exact h | simp +contextual (maxDischargeDepth := 50) [h, foldl_sound]

@[simp] theorem noteAckError_epoch {s0 : State} : ∀ x1 x2 s, EpochStays s0 s → EpochStays s0 (noteAckError x1 x2 s) := by
  intro x1 x2 s h
  unfold noteAckError
  try dsimp only
  repeat' split
  all_goals first | with_reducible exact h | simp +contextual (maxDischargeDepth := 50) [h, foldl_epoch]

@[simp] theorem transmitError_sound {s0 : State} : ∀ x1 x2 x3 s, Sound s0 s → Sound s0 (transmitError x1 x2 x3 s) := by
  intro x1 x2 x3 s h
  unfold transmitError
  try dsimp only
  repeat' split
  all_goals first | with_reducible exact h | simp +contextual (maxDischargeDepth := 50) [h, foldl_sound]

@[simp] theorem transmitError_epoch {s0 : State} : ∀ x1 x2 x3 s, EpochStays s0 s → EpochStays s0 (transmitError x1 x2 x3 s) := by
  intro x1 x2 x3 s h
  unfold transmitError
  try dsimp only
  repeat' split
  all_goals first | with_reducible exact h | simp +contextual (maxDischargeDepth := 50) [h, foldl_epoch]

@[simp] theorem sleepCan_sound {s0 : State} : ∀ x1 s, Sound s0 s → Sound s0 (sleepCan x1 s) := by
  intro x1 s h
  unfold sleepCan
  try dsimp only
  repeat' split
  all_goals first | with_reducible exact h | simp +contextual (maxDischargeDepth := 50) [h, foldl_sound]

@[simp] theorem sleepCan_epoch {s0 : State} : ∀ x1 s, EpochStays s0 s → EpochStays s0 (sleepCan x1 s) := by
  intro x1 s h
  unfold sleepCan
  try dsimp only
  repeat' split
  all_goals first | with_reducible exact h | simp +contextual (maxDischargeDepth := 50) [h, foldl_epoch]

@[simp] theorem beginWake_sound {s0 : State} : ∀ x1 s, Sound s0 s → Sound s0 (beginWake x1 s) := by
  intro x1 s h
  unfold beginWake
  try dsimp only
  repeat' split
  all_goals first | with_reducible exact h | simp +contextual (maxDischargeDepth := 50) [h, foldl_sound]

@[simp] theorem beginWake_epoch {s0 : State} : ∀ x1 s, EpochStays s0 s → EpochStays s0 (beginWake x1 s) := by
  intro x1 s h
  unfold beginWake
  try dsimp only
  repeat' split
  all_goals first | with_reducible exact h | simp +contextual (maxDischargeDepth := 50) [h, foldl_epoch]

@[simp] theorem commitCan_sound {s0 : State} : ∀ x1 x2 s, Sound s0 s → Sound s0 (commitCan x1 x2 s) := by
  intro x1 x2 s h
  unfold commitCan
  try dsimp only
  repeat' split
  all_goals first | with_reducible exact h | simp +contextual (maxDischargeDepth := 50) [h, foldl_sound]

@[simp] theorem commitCan_epoch {s0 : State} : ∀ x1 x2 s, EpochStays s0 s → EpochStays s0 (commitCan x1 x2 s) := by
  intro x1 x2 s h
  unfold commitCan
  try dsimp only
  repeat' split
  all_goals first | with_reducible exact h | simp +contextual (maxDischargeDepth := 50) [h, foldl_epoch]

@[simp] theorem switchReference_sound {s0 : State} : ∀ x1 x2 s, Sound s0 s → Sound s0 (switchReference x1 x2 s) := by
  intro x1 x2 s h
  unfold switchReference
  try dsimp only
  repeat' split
  all_goals first | with_reducible exact h | simp +contextual (maxDischargeDepth := 50) [h, foldl_sound]

@[simp] theorem switchReference_epoch {s0 : State} : ∀ x1 x2 s, EpochStays s0 s → EpochStays s0 (switchReference x1 x2 s) := by
  intro x1 x2 s h
  unfold switchReference
  try dsimp only
  repeat' split
  all_goals first | with_reducible exact h | simp +contextual (maxDischargeDepth := 50) [h, foldl_epoch]

@[simp] theorem respond_sound {s0 : State} : ∀ x1 x2 x3 x4 s, Sound s0 s → Sound s0 (respond x1 x2 x3 x4 s) := by
  intro x1 x2 x3 x4 s h
  unfold respond
  try dsimp only
  repeat' split
  all_goals first | with_reducible exact h | simp +contextual (maxDischargeDepth := 50) [h, foldl_sound]

@[simp] theorem respond_epoch {s0 : State} : ∀ x1 x2 x3 x4 s, EpochStays s0 s → EpochStays s0 (respond x1 x2 x3 x4 s) := by
  intro x1 x2 x3 x4 s h
  unfold respond
  try dsimp only
  repeat' split
  all_goals first | with_reducible exact h | simp +contextual (maxDischargeDepth := 50) [h, foldl_epoch]

@[simp] theorem doBistResult_sound {s0 : State} : ∀ x1 s, Sound s0 s → Sound s0 (doBistResult x1 s) := by
  intro x1 s h
  unfold doBistResult
  try dsimp only
  repeat' split
  all_goals first | with_reducible exact h | simp +contextual (maxDischargeDepth := 50) [h, foldl_sound]

@[simp] theorem doBistResult_epoch {s0 : State} : ∀ x1 s, EpochStays s0 s → EpochStays s0 (doBistResult x1 s) := by
  intro x1 s h
  unfold doBistResult
  try dsimp only
  repeat' split
  all_goals first | with_reducible exact h | simp +contextual (maxDischargeDepth := 50) [h, foldl_epoch]

@[simp] theorem defer_sound {s0 s : State} (i : Request) (x : ReqHdr) (h : Sound s0 s) : Sound s0 (defer i x s) := by
  unfold defer; split
  · split
    · exact h.of_eq rfl rfl rfl
    · exact h
  · exact h

@[simp] theorem defer_epoch {s0 s : State} (i : Request) (x : ReqHdr) (h : EpochStays s0 s) : EpochStays s0 (defer i x s) := by
  unfold defer; split
  · split
    · exact h
    · exact h
  · exact h

@[simp] theorem arrived_sound {s0 : State} : ∀ x1 s, Sound s0 s → Sound s0 (arrived x1 s) := by
  intro x1 s h
  unfold arrived
  try dsimp only
  repeat' split
  all_goals first | with_reducible exact h | simp +contextual (maxDischargeDepth := 50) [h, foldl_sound]

@[simp] theorem arrived_epoch {s0 : State} : ∀ x1 s, EpochStays s0 s → EpochStays s0 (arrived x1 s) := by
  intro x1 s h
  unfold arrived
  try dsimp only
  repeat' split
  all_goals first | with_reducible exact h | simp +contextual (maxDischargeDepth := 50) [h, foldl_epoch]

theorem repeated_sound {s0 s s' : State} (x : ReqHdr) (h : Sound s0 s) (e : repeated x s = some s') : Sound s0 s' := by
  unfold repeated at e
  simp only at e
  split at e
  · split at e
    · cases e; split
      · exact deliver_sound _ _ h
      · simp (maxDischargeDepth := 50) [h]
    · cases e
  · cases e

theorem repeated_epoch {s0 s s' : State} (x : ReqHdr) (h : EpochStays s0 s) (e : repeated x s = some s') : EpochStays s0 s' := by
  unfold repeated at e
  simp only at e
  split at e
  · split at e
    · cases e; split
      · exact deliver_epoch _ _ _ h
      · simp (maxDischargeDepth := 50) [h]
    · cases e
  · cases e

@[simp] theorem outcomeOf_sound {s0 : State} : ∀ x1 x2 x3 s, Sound s0 s → Sound s0 (outcomeOf x1 x2 x3 s) := by
  intro x1 x2 x3 s h
  unfold outcomeOf
  try dsimp only
  repeat' split
  all_goals first | with_reducible exact h | simp +contextual (maxDischargeDepth := 50) [h, foldl_sound]

@[simp] theorem outcomeOf_epoch {s0 : State} : ∀ x1 x2 x3 s, EpochStays s0 s → EpochStays s0 (outcomeOf x1 x2 x3 s) := by
  intro x1 x2 x3 s h
  unfold outcomeOf
  try dsimp only
  repeat' split
  all_goals first | with_reducible exact h | simp +contextual (maxDischargeDepth := 50) [h, foldl_epoch]

@[simp] theorem notePeaks_sound {s0 : State} : ∀ s, Sound s0 s → Sound s0 (notePeaks s) := by
  intro s h
  unfold notePeaks
  try dsimp only
  repeat' split
  all_goals first | with_reducible exact h | simp +contextual (maxDischargeDepth := 50) [h, foldl_sound]

@[simp] theorem notePeaks_epoch {s0 : State} : ∀ s, EpochStays s0 s → EpochStays s0 (notePeaks s) := by
  intro s h
  unfold notePeaks
  try dsimp only
  repeat' split
  all_goals first | with_reducible exact h | simp +contextual (maxDischargeDepth := 50) [h, foldl_epoch]

@[simp] theorem badArgument_sound {s0 : State} : ∀ x1 x2 x3 s, Sound s0 s → Sound s0 (badArgument x1 x2 x3 s) := by
  intro x1 x2 x3 s h
  unfold badArgument
  try dsimp only
  repeat' split
  all_goals first | with_reducible exact h | simp +contextual (maxDischargeDepth := 50) [h, foldl_sound]

@[simp] theorem badArgument_epoch {s0 : State} : ∀ x1 x2 x3 s, EpochStays s0 s → EpochStays s0 (badArgument x1 x2 x3 s) := by
  intro x1 x2 x3 s h
  unfold badArgument
  try dsimp only
  repeat' split
  all_goals first | with_reducible exact h | simp +contextual (maxDischargeDepth := 50) [h, foldl_epoch]

@[simp] theorem checked_sound {s0 s : State} (x c l f fl) (body : State → State) (hb : ∀ s, Sound s0 s → Sound s0 (body s)) (h : Sound s0 s) : Sound s0 (checked x c l f fl body s) := by
  unfold checked
  repeat' first | with_reducible exact h | with_reducible exact hb _ h | split | dsimp only
  all_goals simp (maxDischargeDepth := 50) [h]

@[simp] theorem checked_epoch {s0 s : State} (x c l f fl) (body : State → State) (hb : ∀ s, EpochStays s0 s → EpochStays s0 (body s)) (h : EpochStays s0 s) : EpochStays s0 (checked x c l f fl body s) := by
  unfold checked
  repeat' first | with_reducible exact h | with_reducible exact hb _ h | split | dsimp only
  all_goals simp (maxDischargeDepth := 50) [h]

@[simp] theorem taken_sound {s0 s : State} (x c l f fl) (body : State → State) (hb : ∀ s, Sound s0 s → Sound s0 (body s)) (h : Sound s0 s) : Sound s0 (taken x c l f fl body s) := by
  unfold taken
  have k := arrived_sound x s h
  dsimp only
  split
  · exact repeated_sound _ k ‹_›
  · split
    · exact outcomeOf_sound _ _ _ _ k
    · exact notePeaks_sound _ (checked_sound _ _ _ _ _ _ hb k)

@[simp] theorem taken_epoch {s0 s : State} (x c l f fl) (body : State → State) (hb : ∀ s, EpochStays s0 s → EpochStays s0 (body s)) (h : EpochStays s0 s) : EpochStays s0 (taken x c l f fl body s) := by
  unfold taken
  have k := arrived_epoch x s h
  dsimp only
  split
  · exact repeated_epoch _ k ‹_›
  · split
    · exact outcomeOf_epoch _ _ _ _ k
    · exact notePeaks_epoch _ (checked_epoch _ _ _ _ _ _ hb k)

@[simp] theorem serve_sound {s0 s : State} (i x c l f fl) (body : State → State) (hb : ∀ s, Sound s0 s → Sound s0 (body s)) (h : Sound s0 s) : Sound s0 (serve i x c l f fl body s) := by
  unfold serve
  repeat' first | with_reducible exact h | exact taken_sound _ _ _ _ _ _ hb h | exact defer_sound _ _ h | exact defer_sound _ _ (beginWake_sound _ _ h) | split

@[simp] theorem serve_epoch {s0 s : State} (i x c l f fl) (body : State → State) (hb : ∀ s, EpochStays s0 s → EpochStays s0 (body s)) (h : EpochStays s0 s) : EpochStays s0 (serve i x c l f fl body s) := by
  unfold serve
  repeat' first | with_reducible exact h | exact taken_epoch _ _ _ _ _ _ hb h | exact defer_epoch _ _ h | exact defer_epoch _ _ (beginWake_epoch _ _ h) | split

@[simp] theorem reqBistResult_sound {s0 : State} : ∀ x1 s, Sound s0 s → Sound s0 (reqBistResult x1 s) := by
  intro x1 s h
  unfold reqBistResult
  try dsimp only
  repeat' split
  all_goals first | with_reducible exact h | simp +contextual (maxDischargeDepth := 50) [h, foldl_sound]

@[simp] theorem reqBistResult_epoch {s0 : State} : ∀ x1 s, EpochStays s0 s → EpochStays s0 (reqBistResult x1 s) := by
  intro x1 s h
  unfold reqBistResult
  try dsimp only
  repeat' split
  all_goals first | with_reducible exact h | simp +contextual (maxDischargeDepth := 50) [h, foldl_epoch]

@[simp] theorem startRun_sound {s0 : State} : ∀ x1 x2 x3 s, Sound s0 s → Sound s0 (startRun x1 x2 x3 s) := by
  intro x1 x2 x3 s h
  unfold startRun
  try dsimp only
  repeat' split
  all_goals first | with_reducible exact h | simp +contextual (maxDischargeDepth := 50) [h, foldl_sound]

@[simp] theorem startRun_epoch {s0 : State} : ∀ x1 x2 x3 s, EpochStays s0 s → EpochStays s0 (startRun x1 x2 x3 s) := by
  intro x1 x2 x3 s h
  unfold startRun
  try dsimp only
  repeat' split
  all_goals first | with_reducible exact h | simp +contextual (maxDischargeDepth := 50) [h, foldl_epoch]

@[simp] theorem foregroundConflict_sound {s0 : State} : ∀ x1 s, Sound s0 s → Sound s0 (foregroundConflict x1 s) := by
  intro x1 s h
  unfold foregroundConflict
  try dsimp only
  repeat' split
  all_goals first | with_reducible exact h | simp +contextual (maxDischargeDepth := 50) [h, foldl_sound]

@[simp] theorem foregroundConflict_epoch {s0 : State} : ∀ x1 s, EpochStays s0 s → EpochStays s0 (foregroundConflict x1 s) := by
  intro x1 s h
  unfold foregroundConflict
  try dsimp only
  repeat' split
  all_goals first | with_reducible exact h | simp +contextual (maxDischargeDepth := 50) [h, foldl_epoch]

@[simp] theorem runForeground_sound {s0 : State} : ∀ x1 x2 s, Sound s0 s → Sound s0 (runForeground x1 x2 s) := by
  intro x1 x2 s h
  unfold runForeground
  try dsimp only
  repeat' split
  all_goals first | with_reducible exact h | simp +contextual (maxDischargeDepth := 50) [h, foldl_sound]

@[simp] theorem runForeground_epoch {s0 : State} : ∀ x1 x2 s, EpochStays s0 s → EpochStays s0 (runForeground x1 x2 s) := by
  intro x1 x2 s h
  unfold runForeground
  try dsimp only
  repeat' split
  all_goals first | with_reducible exact h | simp +contextual (maxDischargeDepth := 50) [h, foldl_epoch]

@[simp] theorem conflict_sound {s0 : State} : ∀ x1 x2 s, Sound s0 s → Sound s0 (conflict x1 x2 s) := by
  intro x1 x2 s h
  unfold conflict
  try dsimp only
  repeat' split
  all_goals first | with_reducible exact h | simp +contextual (maxDischargeDepth := 50) [h, foldl_sound]

@[simp] theorem conflict_epoch {s0 : State} : ∀ x1 x2 s, EpochStays s0 s → EpochStays s0 (conflict x1 x2 s) := by
  intro x1 x2 s h
  unfold conflict
  try dsimp only
  repeat' split
  all_goals first | with_reducible exact h | simp +contextual (maxDischargeDepth := 50) [h, foldl_epoch]

@[simp] theorem jput_sound {s0 : State} : ∀ x1 s, Sound s0 s → Sound s0 (jput x1 s) := by
  intro x1 s h
  unfold jput
  try dsimp only
  repeat' split
  all_goals first | with_reducible exact h | simp +contextual (maxDischargeDepth := 50) [h, foldl_sound]

@[simp] theorem jput_epoch {s0 : State} : ∀ x1 s, EpochStays s0 s → EpochStays s0 (jput x1 s) := by
  intro x1 s h
  unfold jput
  try dsimp only
  repeat' split
  all_goals first | with_reducible exact h | simp +contextual (maxDischargeDepth := 50) [h, foldl_epoch]

@[simp] theorem makeEntry_sound {s0 s : State} (x c n) (h : Sound s0 s) : Sound s0 (makeEntry x c n s) := by
  unfold makeEntry
  have k := jput_sound { id := s.keeper.lastJournal + 1, command := c, state := .queued, mirrored := false, pairScope := x.pairScope, step := 0, steps := n, lastStatus := 0, session := x.session, sequence := x.sequence, attachment := [], accepted := if s.time.everSynced then nowOf s else 0, ended := 0, epoch := 0, detail := 0, detail2 := 0, transport := transportOf s x.src, mailbox := mailboxOf x.src } s h
  simp (maxDischargeDepth := 50) [k]

@[simp] theorem makeEntry_epoch {s0 s : State} (x c n) (h : EpochStays s0 s) : EpochStays s0 (makeEntry x c n s) := by
  unfold makeEntry
  have k := jput_epoch { id := s.keeper.lastJournal + 1, command := c, state := .queued, mirrored := false, pairScope := x.pairScope, step := 0, steps := n, lastStatus := 0, session := x.session, sequence := x.sequence, attachment := [], accepted := if s.time.everSynced then nowOf s else 0, ended := 0, epoch := 0, detail := 0, detail2 := 0, transport := transportOf s x.src, mailbox := mailboxOf x.src } s h
  simp (maxDischargeDepth := 50) [k]

@[simp] theorem acceptLong_sound {s0 s : State} (x c n) (run : Nat → State → State) (hr : ∀ i s, Sound s0 s → Sound s0 (run i s)) (h : Sound s0 s) : Sound s0 (acceptLong x c n run s) := by
  unfold acceptLong; split
  · simp (maxDischargeDepth := 50) [h]
  · exact hr _ _ (answer_sound _ _ _ (makeEntry_sound _ _ _ h))

@[simp] theorem acceptLong_epoch {s0 s : State} (x c n) (run : Nat → State → State) (hr : ∀ i s, EpochStays s0 s → EpochStays s0 (run i s)) (h : EpochStays s0 s) : EpochStays s0 (acceptLong x c n run s) := by
  unfold acceptLong; split
  · simp (maxDischargeDepth := 50) [h]
  · exact hr _ _ (answer_epoch _ _ _ (makeEntry_epoch _ _ _ h))

@[simp] theorem doBistRun_sound {s0 : State} : ∀ x1 x2 x3 s, Sound s0 s → Sound s0 (doBistRun x1 x2 x3 s) := by
  intro x1 x2 x3 s h
  unfold doBistRun
  try dsimp only
  repeat' split
  all_goals first | with_reducible exact h | simp +contextual (maxDischargeDepth := 50) [h, foldl_sound]

@[simp] theorem doBistRun_epoch {s0 : State} : ∀ x1 x2 x3 s, EpochStays s0 s → EpochStays s0 (doBistRun x1 x2 x3 s) := by
  intro x1 x2 x3 s h
  unfold doBistRun
  try dsimp only
  repeat' split
  all_goals first | with_reducible exact h | simp +contextual (maxDischargeDepth := 50) [h, foldl_epoch]

@[simp] theorem reqBistRun_sound {s0 : State} : ∀ x1 x2 x3 s, Sound s0 s → Sound s0 (reqBistRun x1 x2 x3 s) := by
  intro x1 x2 x3 s h
  unfold reqBistRun
  try dsimp only
  repeat' split
  all_goals first | with_reducible exact h | simp +contextual (maxDischargeDepth := 50) [h, foldl_sound]

@[simp] theorem reqBistRun_epoch {s0 : State} : ∀ x1 x2 x3 s, EpochStays s0 s → EpochStays s0 (reqBistRun x1 x2 x3 s) := by
  intro x1 x2 x3 s h
  unfold reqBistRun
  try dsimp only
  repeat' split
  all_goals first | with_reducible exact h | simp +contextual (maxDischargeDepth := 50) [h, foldl_epoch]

@[simp] theorem replaceBlock_sound {s0 : State} : ∀ x1 x2 x3 s, Sound s0 s → Sound s0 (replaceBlock x1 x2 x3 s) := by
  intro x1 x2 x3 s h
  unfold replaceBlock
  try dsimp only
  repeat' split
  all_goals first | with_reducible exact h | simp +contextual (maxDischargeDepth := 50) [h, foldl_sound]

@[simp] theorem replaceBlock_epoch {s0 : State} : ∀ x1 x2 x3 s, EpochStays s0 s → EpochStays s0 (replaceBlock x1 x2 x3 s) := by
  intro x1 x2 x3 s h
  unfold replaceBlock
  try dsimp only
  repeat' split
  all_goals first | with_reducible exact h | simp +contextual (maxDischargeDepth := 50) [h, foldl_epoch]

@[simp] theorem noteLost_sound {s0 : State} : ∀ x1 s, Sound s0 s → Sound s0 (noteLost x1 s) := by
  intro x1 s h
  unfold noteLost
  try dsimp only
  repeat' split
  all_goals first | with_reducible exact h | simp +contextual (maxDischargeDepth := 50) [h, foldl_sound]

@[simp] theorem noteLost_epoch {s0 : State} : ∀ x1 s, EpochStays s0 s → EpochStays s0 (noteLost x1 s) := by
  intro x1 s h
  unfold noteLost
  try dsimp only
  repeat' split
  all_goals first | with_reducible exact h | simp +contextual (maxDischargeDepth := 50) [h, foldl_epoch]

@[simp] theorem recoverBlock_sound {s0 : State} : ∀ x1 x2 s, Sound s0 s → Sound s0 (recoverBlock x1 x2 s) := by
  intro x1 x2 s h
  unfold recoverBlock
  try dsimp only
  repeat' split
  all_goals first | with_reducible exact h | simp +contextual (maxDischargeDepth := 50) [h, foldl_sound]

@[simp] theorem recoverBlock_epoch {s0 : State} : ∀ x1 x2 s, EpochStays s0 s → EpochStays s0 (recoverBlock x1 x2 s) := by
  intro x1 x2 s h
  unfold recoverBlock
  try dsimp only
  repeat' split
  all_goals first | with_reducible exact h | simp +contextual (maxDischargeDepth := 50) [h, foldl_epoch]

@[simp] theorem takeReport_sound {s0 : State} : ∀ s x1, Sound s0 s → Sound s0 (takeReport s x1) := by
  intro s x1 h
  unfold takeReport
  try dsimp only
  repeat' split
  all_goals first | with_reducible exact h | simp +contextual (maxDischargeDepth := 50) [h, foldl_sound]

@[simp] theorem takeReport_epoch {s0 : State} : ∀ s x1, EpochStays s0 s → EpochStays s0 (takeReport s x1) := by
  intro s x1 h
  unfold takeReport
  try dsimp only
  repeat' split
  all_goals first | with_reducible exact h | simp +contextual (maxDischargeDepth := 50) [h, foldl_epoch]

@[simp] theorem takeReports_sound {s0 : State} : ∀ x1 s, Sound s0 s → Sound s0 (takeReports x1 s) := by
  intro x1 s h
  unfold takeReports
  try dsimp only
  repeat' split
  all_goals first | with_reducible exact h | simp +contextual (maxDischargeDepth := 50) [h, foldl_sound]

@[simp] theorem takeReports_epoch {s0 : State} : ∀ x1 s, EpochStays s0 s → EpochStays s0 (takeReports x1 s) := by
  intro x1 s h
  unfold takeReports
  try dsimp only
  repeat' split
  all_goals first | with_reducible exact h | simp +contextual (maxDischargeDepth := 50) [h, foldl_epoch]

@[simp] theorem beginBackground_sound {s0 : State} : ∀ x1 s, Sound s0 s → Sound s0 (beginBackground x1 s) := by
  intro x1 s h
  unfold beginBackground
  try dsimp only
  repeat' split
  all_goals first | with_reducible exact h | simp +contextual (maxDischargeDepth := 50) [h, foldl_sound]

@[simp] theorem beginBackground_epoch {s0 : State} : ∀ x1 s, EpochStays s0 s → EpochStays s0 (beginBackground x1 s) := by
  intro x1 s h
  unfold beginBackground
  try dsimp only
  repeat' split
  all_goals first | with_reducible exact h | simp +contextual (maxDischargeDepth := 50) [h, foldl_epoch]

@[simp] theorem clearCan_sound {s0 : State} : ∀ x1 x2 s, Sound s0 s → Sound s0 (clearCan x1 x2 s) := by
  intro x1 x2 s h
  unfold clearCan
  try dsimp only
  repeat' split
  all_goals first | with_reducible exact h | simp +contextual (maxDischargeDepth := 50) [h, foldl_sound]

@[simp] theorem clearCan_epoch {s0 : State} : ∀ x1 x2 s, EpochStays s0 s → EpochStays s0 (clearCan x1 x2 s) := by
  intro x1 x2 s h
  unfold clearCan
  try dsimp only
  repeat' split
  all_goals first | with_reducible exact h | simp +contextual (maxDischargeDepth := 50) [h, foldl_epoch]

@[simp] theorem doCanStatus_sound {s0 : State} : ∀ x1 x2 x3 s, Sound s0 s → Sound s0 (doCanStatus x1 x2 x3 s) := by
  intro x1 x2 x3 s h
  unfold doCanStatus
  try dsimp only
  repeat' split
  all_goals first | with_reducible exact h | simp +contextual (maxDischargeDepth := 50) [h, foldl_sound]

@[simp] theorem doCanStatus_epoch {s0 : State} : ∀ x1 x2 x3 s, EpochStays s0 s → EpochStays s0 (doCanStatus x1 x2 x3 s) := by
  intro x1 x2 x3 s h
  unfold doCanStatus
  try dsimp only
  repeat' split
  all_goals first | with_reducible exact h | simp +contextual (maxDischargeDepth := 50) [h, foldl_epoch]

@[simp] theorem reqCanStatus_sound {s0 : State} : ∀ x1 x2 x3 s, Sound s0 s → Sound s0 (reqCanStatus x1 x2 x3 s) := by
  intro x1 x2 x3 s h
  unfold reqCanStatus
  try dsimp only
  repeat' split
  all_goals first | with_reducible exact h | simp +contextual (maxDischargeDepth := 50) [h, foldl_sound]

@[simp] theorem reqCanStatus_epoch {s0 : State} : ∀ x1 x2 x3 s, EpochStays s0 s → EpochStays s0 (reqCanStatus x1 x2 x3 s) := by
  intro x1 x2 x3 s h
  unfold reqCanStatus
  try dsimp only
  repeat' split
  all_goals first | with_reducible exact h | simp +contextual (maxDischargeDepth := 50) [h, foldl_epoch]

@[simp] theorem queueBatchFrames_sound {s0 : State} : ∀ x1 x2 x3 s, Sound s0 s → Sound s0 (queueBatchFrames x1 x2 x3 s) := by
  intro x1 x2 x3 s h
  unfold queueBatchFrames
  try dsimp only
  repeat' split
  all_goals first | with_reducible exact h | simp +contextual (maxDischargeDepth := 50) [h, foldl_sound]

@[simp] theorem queueBatchFrames_epoch {s0 : State} : ∀ x1 x2 x3 s, EpochStays s0 s → EpochStays s0 (queueBatchFrames x1 x2 x3 s) := by
  intro x1 x2 x3 s h
  unfold queueBatchFrames
  try dsimp only
  repeat' split
  all_goals first | with_reducible exact h | simp +contextual (maxDischargeDepth := 50) [h, foldl_epoch]

@[simp] theorem doCanSend_sound {s0 : State} : ∀ x1 x2 x3 s, Sound s0 s → Sound s0 (doCanSend x1 x2 x3 s) := by
  intro x1 x2 x3 s h
  unfold doCanSend
  try dsimp only
  repeat' split
  all_goals first | with_reducible exact h | simp +contextual (maxDischargeDepth := 50) [h, foldl_sound]

@[simp] theorem doCanSend_epoch {s0 : State} : ∀ x1 x2 x3 s, EpochStays s0 s → EpochStays s0 (doCanSend x1 x2 x3 s) := by
  intro x1 x2 x3 s h
  unfold doCanSend
  try dsimp only
  repeat' split
  all_goals first | with_reducible exact h | simp +contextual (maxDischargeDepth := 50) [h, foldl_epoch]

@[simp] theorem reqCanSend_sound {s0 : State} : ∀ x1 x2 x3 s, Sound s0 s → Sound s0 (reqCanSend x1 x2 x3 s) := by
  intro x1 x2 x3 s h
  unfold reqCanSend
  try dsimp only
  repeat' split
  all_goals first | with_reducible exact h | simp +contextual (maxDischargeDepth := 50) [h, foldl_sound]

@[simp] theorem reqCanSend_epoch {s0 : State} : ∀ x1 x2 x3 s, EpochStays s0 s → EpochStays s0 (reqCanSend x1 x2 x3 s) := by
  intro x1 x2 x3 s h
  unfold reqCanSend
  try dsimp only
  repeat' split
  all_goals first | with_reducible exact h | simp +contextual (maxDischargeDepth := 50) [h, foldl_epoch]

@[simp] theorem doCanRecv_sound {s0 : State} : ∀ x1 x2 x3 x4 s, Sound s0 s → Sound s0 (doCanRecv x1 x2 x3 x4 s) := by
  intro x1 x2 x3 x4 s h
  unfold doCanRecv
  try dsimp only
  repeat' split
  all_goals first | with_reducible exact h | simp +contextual (maxDischargeDepth := 50) [h, foldl_sound]

@[simp] theorem doCanRecv_epoch {s0 : State} : ∀ x1 x2 x3 x4 s, EpochStays s0 s → EpochStays s0 (doCanRecv x1 x2 x3 x4 s) := by
  intro x1 x2 x3 x4 s h
  unfold doCanRecv
  try dsimp only
  repeat' split
  all_goals first | with_reducible exact h | simp +contextual (maxDischargeDepth := 50) [h, foldl_epoch]

@[simp] theorem reqCanRecv_sound {s0 : State} : ∀ x1 x2 x3 x4 s, Sound s0 s → Sound s0 (reqCanRecv x1 x2 x3 x4 s) := by
  intro x1 x2 x3 x4 s h
  unfold reqCanRecv
  try dsimp only
  repeat' split
  all_goals first | with_reducible exact h | simp +contextual (maxDischargeDepth := 50) [h, foldl_sound]

@[simp] theorem reqCanRecv_epoch {s0 : State} : ∀ x1 x2 x3 x4 s, EpochStays s0 s → EpochStays s0 (reqCanRecv x1 x2 x3 x4 s) := by
  intro x1 x2 x3 x4 s h
  unfold reqCanRecv
  try dsimp only
  repeat' split
  all_goals first | with_reducible exact h | simp +contextual (maxDischargeDepth := 50) [h, foldl_epoch]

@[simp] theorem startSearch_sound {s0 : State} : ∀ x1 x2 s, Sound s0 s → Sound s0 (startSearch x1 x2 s) := by
  intro x1 x2 s h
  unfold startSearch
  try dsimp only
  repeat' split
  all_goals first | with_reducible exact h | simp +contextual (maxDischargeDepth := 50) [h, foldl_sound]

@[simp] theorem startSearch_epoch {s0 : State} : ∀ x1 x2 s, EpochStays s0 s → EpochStays s0 (startSearch x1 x2 s) := by
  intro x1 x2 s h
  unfold startSearch
  try dsimp only
  repeat' split
  all_goals first | with_reducible exact h | simp +contextual (maxDischargeDepth := 50) [h, foldl_epoch]

@[simp] theorem changeMode_sound {s0 : State} : ∀ x1 x2 x3 x4 s, Sound s0 s → Sound s0 (changeMode x1 x2 x3 x4 s) := by
  intro x1 x2 x3 x4 s h
  unfold changeMode
  try dsimp only
  repeat' split
  all_goals first | with_reducible exact h | simp +contextual (maxDischargeDepth := 50) [h, foldl_sound]

@[simp] theorem changeMode_epoch {s0 : State} : ∀ x1 x2 x3 x4 s, EpochStays s0 s → EpochStays s0 (changeMode x1 x2 x3 x4 s) := by
  intro x1 x2 x3 x4 s h
  unfold changeMode
  try dsimp only
  repeat' split
  all_goals first | with_reducible exact h | simp +contextual (maxDischargeDepth := 50) [h, foldl_epoch]

@[simp] theorem statusAnswer_sound {s0 : State} : ∀ x1 x2 s, Sound s0 s → Sound s0 (statusAnswer x1 x2 s) := by
  intro x1 x2 s h
  unfold statusAnswer
  try dsimp only
  repeat' split
  all_goals first | with_reducible exact h | simp +contextual (maxDischargeDepth := 50) [h, foldl_sound]

@[simp] theorem statusAnswer_epoch {s0 : State} : ∀ x1 x2 s, EpochStays s0 s → EpochStays s0 (statusAnswer x1 x2 s) := by
  intro x1 x2 s h
  unfold statusAnswer
  try dsimp only
  repeat' split
  all_goals first | with_reducible exact h | simp +contextual (maxDischargeDepth := 50) [h, foldl_epoch]

@[simp] theorem doSetMode_sound {s0 : State} : ∀ x1 x2 x3 x4 x5 s, Sound s0 s → Sound s0 (doSetMode x1 x2 x3 x4 x5 s) := by
  intro x1 x2 x3 x4 x5 s h
  unfold doSetMode
  try dsimp only
  repeat' split
  all_goals first | with_reducible exact h | simp +contextual (maxDischargeDepth := 50) [h, foldl_sound]

@[simp] theorem doSetMode_epoch {s0 : State} : ∀ x1 x2 x3 x4 x5 s, EpochStays s0 s → EpochStays s0 (doSetMode x1 x2 x3 x4 x5 s) := by
  intro x1 x2 x3 x4 x5 s h
  unfold doSetMode
  try dsimp only
  repeat' split
  all_goals first | with_reducible exact h | simp +contextual (maxDischargeDepth := 50) [h, foldl_epoch]

@[simp] theorem reqSetMode_sound {s0 : State} : ∀ x1 x2 x3 x4 x5 s, Sound s0 s → Sound s0 (reqSetMode x1 x2 x3 x4 x5 s) := by
  intro x1 x2 x3 x4 x5 s h
  unfold reqSetMode
  try dsimp only
  repeat' split
  all_goals first | with_reducible exact h | simp +contextual (maxDischargeDepth := 50) [h, foldl_sound]

@[simp] theorem reqSetMode_epoch {s0 : State} : ∀ x1 x2 x3 x4 x5 s, EpochStays s0 s → EpochStays s0 (reqSetMode x1 x2 x3 x4 x5 s) := by
  intro x1 x2 x3 x4 x5 s h
  unfold reqSetMode
  try dsimp only
  repeat' split
  all_goals first | with_reducible exact h | simp +contextual (maxDischargeDepth := 50) [h, foldl_epoch]

@[simp] theorem doCanRestart_sound {s0 : State} : ∀ x1 x2 s, Sound s0 s → Sound s0 (doCanRestart x1 x2 s) := by
  intro x1 x2 s h
  unfold doCanRestart
  try dsimp only
  repeat' split
  all_goals first | with_reducible exact h | simp +contextual (maxDischargeDepth := 50) [h, foldl_sound]

@[simp] theorem doCanRestart_epoch {s0 : State} : ∀ x1 x2 s, EpochStays s0 s → EpochStays s0 (doCanRestart x1 x2 s) := by
  intro x1 x2 s h
  unfold doCanRestart
  try dsimp only
  repeat' split
  all_goals first | with_reducible exact h | simp +contextual (maxDischargeDepth := 50) [h, foldl_epoch]

@[simp] theorem reqCanRestart_sound {s0 : State} : ∀ x1 x2 s, Sound s0 s → Sound s0 (reqCanRestart x1 x2 s) := by
  intro x1 x2 s h
  unfold reqCanRestart
  try dsimp only
  repeat' split
  all_goals first | with_reducible exact h | simp +contextual (maxDischargeDepth := 50) [h, foldl_sound]

@[simp] theorem reqCanRestart_epoch {s0 : State} : ∀ x1 x2 s, EpochStays s0 s → EpochStays s0 (reqCanRestart x1 x2 s) := by
  intro x1 x2 s h
  unfold reqCanRestart
  try dsimp only
  repeat' split
  all_goals first | with_reducible exact h | simp +contextual (maxDischargeDepth := 50) [h, foldl_epoch]

@[simp] theorem writeRecord_sound {s0 : State} : ∀ x1 s, Sound s0 s → Sound s0 (writeRecord x1 s) := by
  intro x1 s h
  unfold writeRecord
  try dsimp only
  repeat' split
  all_goals first | with_reducible exact h | simp +contextual (maxDischargeDepth := 50) [h, foldl_sound]

@[simp] theorem writeRecord_epoch {s0 : State} : ∀ x1 s, EpochStays s0 s → EpochStays s0 (writeRecord x1 s) := by
  intro x1 s h
  unfold writeRecord
  try dsimp only
  repeat' split
  all_goals first | with_reducible exact h | simp +contextual (maxDischargeDepth := 50) [h, foldl_epoch]

@[simp] theorem noteRepeat_sound {s0 : State} : ∀ x1 s, Sound s0 s → Sound s0 (noteRepeat x1 s) := by
  intro x1 s h
  unfold noteRepeat
  try dsimp only
  repeat' split
  all_goals first | with_reducible exact h | simp +contextual (maxDischargeDepth := 50) [h, foldl_sound]

@[simp] theorem noteRepeat_epoch {s0 : State} : ∀ x1 s, EpochStays s0 s → EpochStays s0 (noteRepeat x1 s) := by
  intro x1 s h
  unfold noteRepeat
  try dsimp only
  repeat' split
  all_goals first | with_reducible exact h | simp +contextual (maxDischargeDepth := 50) [h, foldl_epoch]

@[simp] theorem closeTail_sound {s0 : State} : ∀ s, Sound s0 s → Sound s0 (closeTail s) := by
  intro s h
  unfold closeTail
  try dsimp only
  repeat' split
  all_goals first | with_reducible exact h | simp +contextual (maxDischargeDepth := 50) [h, foldl_sound]

@[simp] theorem closeTail_epoch {s0 : State} : ∀ s, EpochStays s0 s → EpochStays s0 (closeTail s) := by
  intro s h
  unfold closeTail
  try dsimp only
  repeat' split
  all_goals first | with_reducible exact h | simp +contextual (maxDischargeDepth := 50) [h, foldl_epoch]

@[simp] theorem answerMark_sound {s0 : State} : ∀ x1 s, Sound s0 s → Sound s0 (answerMark x1 s) := by
  intro x1 s h
  unfold answerMark
  try dsimp only
  repeat' split
  all_goals first | with_reducible exact h | simp +contextual (maxDischargeDepth := 50) [h, foldl_sound]

@[simp] theorem answerMark_epoch {s0 : State} : ∀ x1 s, EpochStays s0 s → EpochStays s0 (answerMark x1 s) := by
  intro x1 s h
  unfold answerMark
  try dsimp only
  repeat' split
  all_goals first | with_reducible exact h | simp +contextual (maxDischargeDepth := 50) [h, foldl_epoch]

@[simp] theorem writeEvent_sound {s0 : State} : ∀ x1 s, Sound s0 s → Sound s0 (writeEvent x1 s) := by
  intro x1 s h
  unfold writeEvent
  try dsimp only
  repeat' split
  all_goals first | with_reducible exact h | simp +contextual (maxDischargeDepth := 50) [h, foldl_sound]

@[simp] theorem writeEvent_epoch {s0 : State} : ∀ x1 s, EpochStays s0 s → EpochStays s0 (writeEvent x1 s) := by
  intro x1 s h
  unfold writeEvent
  try dsimp only
  repeat' split
  all_goals first | with_reducible exact h | simp +contextual (maxDischargeDepth := 50) [h, foldl_epoch]

@[simp] theorem stageLost_sound {s0 : State} : ∀ s, Sound s0 s → Sound s0 (stageLost s) := by
  intro s h
  unfold stageLost
  try dsimp only
  repeat' split
  all_goals first | with_reducible exact h | simp +contextual (maxDischargeDepth := 50) [h, foldl_sound]

@[simp] theorem stageLost_epoch {s0 : State} : ∀ s, EpochStays s0 s → EpochStays s0 (stageLost s) := by
  intro s h
  unfold stageLost
  try dsimp only
  repeat' split
  all_goals first | with_reducible exact h | simp +contextual (maxDischargeDepth := 50) [h, foldl_epoch]

@[simp] theorem doEvtRead_sound {s0 : State} : ∀ x1 x2 x3 x4 s, Sound s0 s → Sound s0 (doEvtRead x1 x2 x3 x4 s) := by
  intro x1 x2 x3 x4 s h
  unfold doEvtRead
  try dsimp only
  repeat' split
  all_goals first | with_reducible exact h | simp +contextual (maxDischargeDepth := 50) [h, foldl_sound]

@[simp] theorem doEvtRead_epoch {s0 : State} : ∀ x1 x2 x3 x4 s, EpochStays s0 s → EpochStays s0 (doEvtRead x1 x2 x3 x4 s) := by
  intro x1 x2 x3 x4 s h
  unfold doEvtRead
  try dsimp only
  repeat' split
  all_goals first | with_reducible exact h | simp +contextual (maxDischargeDepth := 50) [h, foldl_epoch]

@[simp] theorem reqEvtRead_sound {s0 : State} : ∀ x1 x2 x3 x4 s, Sound s0 s → Sound s0 (reqEvtRead x1 x2 x3 x4 s) := by
  intro x1 x2 x3 x4 s h
  unfold reqEvtRead
  try dsimp only
  repeat' split
  all_goals first | with_reducible exact h | simp +contextual (maxDischargeDepth := 50) [h, foldl_sound]

@[simp] theorem reqEvtRead_epoch {s0 : State} : ∀ x1 x2 x3 x4 s, EpochStays s0 s → EpochStays s0 (reqEvtRead x1 x2 x3 x4 s) := by
  intro x1 x2 x3 x4 s h
  unfold reqEvtRead
  try dsimp only
  repeat' split
  all_goals first | with_reducible exact h | simp +contextual (maxDischargeDepth := 50) [h, foldl_epoch]

@[simp] theorem doEvtMark_sound {s0 : State} : ∀ x1 x2 x3 s, Sound s0 s → Sound s0 (doEvtMark x1 x2 x3 s) := by
  intro x1 x2 x3 s h
  unfold doEvtMark
  try dsimp only
  repeat' split
  all_goals first | with_reducible exact h | simp +contextual (maxDischargeDepth := 50) [h, foldl_sound]

@[simp] theorem doEvtMark_epoch {s0 : State} : ∀ x1 x2 x3 s, EpochStays s0 s → EpochStays s0 (doEvtMark x1 x2 x3 s) := by
  intro x1 x2 x3 s h
  unfold doEvtMark
  try dsimp only
  repeat' split
  all_goals first | with_reducible exact h | simp +contextual (maxDischargeDepth := 50) [h, foldl_epoch]

@[simp] theorem reqEvtMark_sound {s0 : State} : ∀ x1 x2 x3 s, Sound s0 s → Sound s0 (reqEvtMark x1 x2 x3 s) := by
  intro x1 x2 x3 s h
  unfold reqEvtMark
  try dsimp only
  repeat' split
  all_goals first | with_reducible exact h | simp +contextual (maxDischargeDepth := 50) [h, foldl_sound]

@[simp] theorem reqEvtMark_epoch {s0 : State} : ∀ x1 x2 x3 s, EpochStays s0 s → EpochStays s0 (reqEvtMark x1 x2 x3 s) := by
  intro x1 x2 x3 s h
  unfold reqEvtMark
  try dsimp only
  repeat' split
  all_goals first | with_reducible exact h | simp +contextual (maxDischargeDepth := 50) [h, foldl_epoch]

@[simp] theorem doWearGet_sound {s0 : State} : ∀ x1 x2 x3 s, Sound s0 s → Sound s0 (doWearGet x1 x2 x3 s) := by
  intro x1 x2 x3 s h
  unfold doWearGet
  try dsimp only
  repeat' split
  all_goals first | with_reducible exact h | simp +contextual (maxDischargeDepth := 50) [h, foldl_sound]

@[simp] theorem doWearGet_epoch {s0 : State} : ∀ x1 x2 x3 s, EpochStays s0 s → EpochStays s0 (doWearGet x1 x2 x3 s) := by
  intro x1 x2 x3 s h
  unfold doWearGet
  try dsimp only
  repeat' split
  all_goals first | with_reducible exact h | simp +contextual (maxDischargeDepth := 50) [h, foldl_epoch]

@[simp] theorem reqWearGet_sound {s0 : State} : ∀ x1 x2 x3 s, Sound s0 s → Sound s0 (reqWearGet x1 x2 x3 s) := by
  intro x1 x2 x3 s h
  unfold reqWearGet
  try dsimp only
  repeat' split
  all_goals first | with_reducible exact h | simp +contextual (maxDischargeDepth := 50) [h, foldl_sound]

@[simp] theorem reqWearGet_epoch {s0 : State} : ∀ x1 x2 x3 s, EpochStays s0 s → EpochStays s0 (reqWearGet x1 x2 x3 s) := by
  intro x1 x2 x3 s h
  unfold reqWearGet
  try dsimp only
  repeat' split
  all_goals first | with_reducible exact h | simp +contextual (maxDischargeDepth := 50) [h, foldl_epoch]

@[simp] theorem respondEpoch_sound {s0 : State} : ∀ x1 x2 x3 x4 x5 s, Sound s0 s → Sound s0 (respondEpoch x1 x2 x3 x4 x5 s) := by
  intro x1 x2 x3 x4 x5 s h
  unfold respondEpoch
  try dsimp only
  repeat' split
  all_goals first | with_reducible exact h | simp +contextual (maxDischargeDepth := 50) [h, foldl_sound]

@[simp] theorem respondEpoch_epoch {s0 : State} : ∀ x1 x2 x3 x4 x5 s, EpochStays s0 s → EpochStays s0 (respondEpoch x1 x2 x3 x4 x5 s) := by
  intro x1 x2 x3 x4 x5 s h
  unfold respondEpoch
  try dsimp only
  repeat' split
  all_goals first | with_reducible exact h | simp +contextual (maxDischargeDepth := 50) [h, foldl_epoch]

@[simp] theorem answerRead_sound {s0 s : State} (x c e t ex) (good : State → State) (hb : ∀ s, Sound s0 s → Sound s0 (good s)) (h : Sound s0 s) : Sound s0 (answerRead x c e t ex good s) := by
  unfold answerRead; split
  · simp (maxDischargeDepth := 50) [h]
  · simp (maxDischargeDepth := 50) [h]
  · exact hb _ (respondEpoch_sound _ _ _ _ _ _ h)

@[simp] theorem answerRead_epoch {s0 s : State} (x c e t ex) (good : State → State) (hb : ∀ s, EpochStays s0 s → EpochStays s0 (good s)) (h : EpochStays s0 s) : EpochStays s0 (answerRead x c e t ex good s) := by
  unfold answerRead; split
  · simp (maxDischargeDepth := 50) [h]
  · simp (maxDischargeDepth := 50) [h]
  · exact hb _ (respondEpoch_epoch _ _ _ _ _ _ h)

@[simp] theorem doImgRead_sound {s0 : State} : ∀ x1 x2 s, Sound s0 s → Sound s0 (doImgRead x1 x2 s) := by
  intro x1 x2 s h
  unfold doImgRead
  try dsimp only
  repeat' split
  all_goals first | with_reducible exact h | simp +contextual (maxDischargeDepth := 50) [h, foldl_sound]

@[simp] theorem doImgRead_epoch {s0 : State} : ∀ x1 x2 s, EpochStays s0 s → EpochStays s0 (doImgRead x1 x2 s) := by
  intro x1 x2 s h
  unfold doImgRead
  try dsimp only
  repeat' split
  all_goals first | with_reducible exact h | simp +contextual (maxDischargeDepth := 50) [h, foldl_epoch]

@[simp] theorem reqImgRead_sound {s0 : State} : ∀ x1 x2 s, Sound s0 s → Sound s0 (reqImgRead x1 x2 s) := by
  intro x1 x2 s h
  unfold reqImgRead
  try dsimp only
  repeat' split
  all_goals first | with_reducible exact h | simp +contextual (maxDischargeDepth := 50) [h, foldl_sound]

@[simp] theorem reqImgRead_epoch {s0 : State} : ∀ x1 x2 s, EpochStays s0 s → EpochStays s0 (reqImgRead x1 x2 s) := by
  intro x1 x2 s h
  unfold reqImgRead
  try dsimp only
  repeat' split
  all_goals first | with_reducible exact h | simp +contextual (maxDischargeDepth := 50) [h, foldl_epoch]

@[simp] theorem acceptEpoch_sound {s0 s : State} (x c n p) (run : Nat → State → State) (hr : ∀ i s, Sound s0 s → Sound s0 (run i s)) (h : Sound s0 s) : Sound s0 (acceptEpoch x c n p run s) := by
  unfold acceptEpoch; split
  · simp (maxDischargeDepth := 50) [h]
  · exact hr _ _ (onKeeper_sound _ (fun _ => rfl) (makeEntry_sound _ _ _ h))

@[simp] theorem acceptEpoch_epoch {s0 s : State} (x c n p) (run : Nat → State → State) (hr : ∀ i s, EpochStays s0 s → EpochStays s0 (run i s)) (h : EpochStays s0 s) : EpochStays s0 (acceptEpoch x c n p run s) := by
  unfold acceptEpoch; split
  · simp (maxDischargeDepth := 50) [h]
  · exact hr _ _ (onKeeper_epoch _ (makeEntry_epoch _ _ _ h))

@[simp] theorem queueChange_sound {s0 : State} : ∀ x1 x2 x3 s, Sound s0 s → Sound s0 (queueChange x1 x2 x3 s) := by
  intro x1 x2 x3 s h
  unfold queueChange
  try dsimp only
  repeat' split
  all_goals first | with_reducible exact h | simp +contextual (maxDischargeDepth := 50) [h, foldl_sound]

@[simp] theorem queueChange_epoch {s0 : State} : ∀ x1 x2 x3 s, EpochStays s0 s → EpochStays s0 (queueChange x1 x2 x3 s) := by
  intro x1 x2 x3 s h
  unfold queueChange
  try dsimp only
  repeat' split
  all_goals first | with_reducible exact h | simp +contextual (maxDischargeDepth := 50) [h, foldl_epoch]

@[simp] theorem queueBatch_sound {s0 : State} : ∀ x1 x2 x3 s, Sound s0 s → Sound s0 (queueBatch x1 x2 x3 s) := by
  intro x1 x2 x3 s h
  unfold queueBatch
  try dsimp only
  repeat' split
  all_goals first | with_reducible exact h | simp +contextual (maxDischargeDepth := 50) [h, foldl_sound]

@[simp] theorem queueBatch_epoch {s0 : State} : ∀ x1 x2 x3 s, EpochStays s0 s → EpochStays s0 (queueBatch x1 x2 x3 s) := by
  intro x1 x2 x3 s h
  unfold queueBatch
  try dsimp only
  repeat' split
  all_goals first | with_reducible exact h | simp +contextual (maxDischargeDepth := 50) [h, foldl_epoch]

@[simp] theorem doImgWrite_sound {s0 : State} : ∀ x1 x2 s, Sound s0 s → Sound s0 (doImgWrite x1 x2 s) := by
  intro x1 x2 s h
  unfold doImgWrite
  try dsimp only
  repeat' split
  all_goals first | with_reducible exact h | simp +contextual (maxDischargeDepth := 50) [h, foldl_sound]

@[simp] theorem doImgWrite_epoch {s0 : State} : ∀ x1 x2 s, EpochStays s0 s → EpochStays s0 (doImgWrite x1 x2 s) := by
  intro x1 x2 s h
  unfold doImgWrite
  try dsimp only
  repeat' split
  all_goals first | with_reducible exact h | simp +contextual (maxDischargeDepth := 50) [h, foldl_epoch]

@[simp] theorem reqImgWrite_sound {s0 : State} : ∀ x1 x2 s, Sound s0 s → Sound s0 (reqImgWrite x1 x2 s) := by
  intro x1 x2 s h
  unfold reqImgWrite
  try dsimp only
  repeat' split
  all_goals first | with_reducible exact h | simp +contextual (maxDischargeDepth := 50) [h, foldl_sound]

@[simp] theorem reqImgWrite_epoch {s0 : State} : ∀ x1 x2 s, EpochStays s0 s → EpochStays s0 (reqImgWrite x1 x2 s) := by
  intro x1 x2 s h
  unfold reqImgWrite
  try dsimp only
  repeat' split
  all_goals first | with_reducible exact h | simp +contextual (maxDischargeDepth := 50) [h, foldl_epoch]

@[simp] theorem doFrcSet_sound {s0 : State} : ∀ x1 x2 s, Sound s0 s → Sound s0 (doFrcSet x1 x2 s) := by
  intro x1 x2 s h
  unfold doFrcSet
  try dsimp only
  repeat' split
  all_goals first | with_reducible exact h | simp +contextual (maxDischargeDepth := 50) [h, foldl_sound]

@[simp] theorem doFrcSet_epoch {s0 : State} : ∀ x1 x2 s, EpochStays s0 s → EpochStays s0 (doFrcSet x1 x2 s) := by
  intro x1 x2 s h
  unfold doFrcSet
  try dsimp only
  repeat' split
  all_goals first | with_reducible exact h | simp +contextual (maxDischargeDepth := 50) [h, foldl_epoch]

@[simp] theorem reqFrcSet_sound {s0 : State} : ∀ x1 x2 s, Sound s0 s → Sound s0 (reqFrcSet x1 x2 s) := by
  intro x1 x2 s h
  unfold reqFrcSet
  try dsimp only
  repeat' split
  all_goals first | with_reducible exact h | simp +contextual (maxDischargeDepth := 50) [h, foldl_sound]

@[simp] theorem reqFrcSet_epoch {s0 : State} : ∀ x1 x2 s, EpochStays s0 s → EpochStays s0 (reqFrcSet x1 x2 s) := by
  intro x1 x2 s h
  unfold reqFrcSet
  try dsimp only
  repeat' split
  all_goals first | with_reducible exact h | simp +contextual (maxDischargeDepth := 50) [h, foldl_epoch]

@[simp] theorem doFrcClear_sound {s0 : State} : ∀ x1 x2 x3 s, Sound s0 s → Sound s0 (doFrcClear x1 x2 x3 s) := by
  intro x1 x2 x3 s h
  unfold doFrcClear
  try dsimp only
  repeat' split
  all_goals first | with_reducible exact h | simp +contextual (maxDischargeDepth := 50) [h, foldl_sound]

@[simp] theorem doFrcClear_epoch {s0 : State} : ∀ x1 x2 x3 s, EpochStays s0 s → EpochStays s0 (doFrcClear x1 x2 x3 s) := by
  intro x1 x2 x3 s h
  unfold doFrcClear
  try dsimp only
  repeat' split
  all_goals first | with_reducible exact h | simp +contextual (maxDischargeDepth := 50) [h, foldl_epoch]

@[simp] theorem reqFrcClear_sound {s0 : State} : ∀ x1 x2 x3 s, Sound s0 s → Sound s0 (reqFrcClear x1 x2 x3 s) := by
  intro x1 x2 x3 s h
  unfold reqFrcClear
  try dsimp only
  repeat' split
  all_goals first | with_reducible exact h | simp +contextual (maxDischargeDepth := 50) [h, foldl_sound]

@[simp] theorem reqFrcClear_epoch {s0 : State} : ∀ x1 x2 x3 s, EpochStays s0 s → EpochStays s0 (reqFrcClear x1 x2 x3 s) := by
  intro x1 x2 x3 s h
  unfold reqFrcClear
  try dsimp only
  repeat' split
  all_goals first | with_reducible exact h | simp +contextual (maxDischargeDepth := 50) [h, foldl_epoch]

@[simp] theorem doFrcList_sound {s0 : State} : ∀ x1 x2 s, Sound s0 s → Sound s0 (doFrcList x1 x2 s) := by
  intro x1 x2 s h
  unfold doFrcList
  try dsimp only
  repeat' split
  all_goals first | with_reducible exact h | simp +contextual (maxDischargeDepth := 50) [h, foldl_sound]

@[simp] theorem doFrcList_epoch {s0 : State} : ∀ x1 x2 s, EpochStays s0 s → EpochStays s0 (doFrcList x1 x2 s) := by
  intro x1 x2 s h
  unfold doFrcList
  try dsimp only
  repeat' split
  all_goals first | with_reducible exact h | simp +contextual (maxDischargeDepth := 50) [h, foldl_epoch]

@[simp] theorem reqFrcList_sound {s0 : State} : ∀ x1 x2 s, Sound s0 s → Sound s0 (reqFrcList x1 x2 s) := by
  intro x1 x2 s h
  unfold reqFrcList
  try dsimp only
  repeat' split
  all_goals first | with_reducible exact h | simp +contextual (maxDischargeDepth := 50) [h, foldl_sound]

@[simp] theorem reqFrcList_epoch {s0 : State} : ∀ x1 x2 s, EpochStays s0 s → EpochStays s0 (reqFrcList x1 x2 s) := by
  intro x1 x2 s h
  unfold reqFrcList
  try dsimp only
  repeat' split
  all_goals first | with_reducible exact h | simp +contextual (maxDischargeDepth := 50) [h, foldl_epoch]

@[simp] theorem startSubscription_sound {s0 : State} : ∀ x1 x2 x3 s, Sound s0 s → Sound s0 (startSubscription x1 x2 x3 s) := by
  intro x1 x2 x3 s h
  unfold startSubscription
  try dsimp only
  repeat' split
  all_goals first | with_reducible exact h | simp +contextual (maxDischargeDepth := 50) [h, foldl_sound]

@[simp] theorem startSubscription_epoch {s0 : State} : ∀ x1 x2 x3 s, EpochStays s0 s → EpochStays s0 (startSubscription x1 x2 x3 s) := by
  intro x1 x2 x3 s h
  unfold startSubscription
  try dsimp only
  repeat' split
  all_goals first | with_reducible exact h | simp +contextual (maxDischargeDepth := 50) [h, foldl_epoch]

@[simp] theorem doSubscribe_sound {s0 : State} : ∀ x1 x2 x3 s, Sound s0 s → Sound s0 (doSubscribe x1 x2 x3 s) := by
  intro x1 x2 x3 s h
  unfold doSubscribe
  try dsimp only
  repeat' split
  all_goals first | with_reducible exact h | simp +contextual (maxDischargeDepth := 50) [h, foldl_sound]

@[simp] theorem doSubscribe_epoch {s0 : State} : ∀ x1 x2 x3 s, EpochStays s0 s → EpochStays s0 (doSubscribe x1 x2 x3 s) := by
  intro x1 x2 x3 s h
  unfold doSubscribe
  try dsimp only
  repeat' split
  all_goals first | with_reducible exact h | simp +contextual (maxDischargeDepth := 50) [h, foldl_epoch]

@[simp] theorem reqSubscribeStart_sound {s0 : State} : ∀ x1 x2 x3 s, Sound s0 s → Sound s0 (reqSubscribeStart x1 x2 x3 s) := by
  intro x1 x2 x3 s h
  unfold reqSubscribeStart
  try dsimp only
  repeat' split
  all_goals first | with_reducible exact h | simp +contextual (maxDischargeDepth := 50) [h, foldl_sound]

@[simp] theorem reqSubscribeStart_epoch {s0 : State} : ∀ x1 x2 x3 s, EpochStays s0 s → EpochStays s0 (reqSubscribeStart x1 x2 x3 s) := by
  intro x1 x2 x3 s h
  unfold reqSubscribeStart
  try dsimp only
  repeat' split
  all_goals first | with_reducible exact h | simp +contextual (maxDischargeDepth := 50) [h, foldl_epoch]

@[simp] theorem doSubscribeStop_sound {s0 : State} : ∀ x1 s, Sound s0 s → Sound s0 (doSubscribeStop x1 s) := by
  intro x1 s h
  unfold doSubscribeStop
  try dsimp only
  repeat' split
  all_goals first | with_reducible exact h | simp +contextual (maxDischargeDepth := 50) [h, foldl_sound]

@[simp] theorem doSubscribeStop_epoch {s0 : State} : ∀ x1 s, EpochStays s0 s → EpochStays s0 (doSubscribeStop x1 s) := by
  intro x1 s h
  unfold doSubscribeStop
  try dsimp only
  repeat' split
  all_goals first | with_reducible exact h | simp +contextual (maxDischargeDepth := 50) [h, foldl_epoch]

@[simp] theorem reqSubscribeStop_sound {s0 : State} : ∀ x1 s, Sound s0 s → Sound s0 (reqSubscribeStop x1 s) := by
  intro x1 s h
  unfold reqSubscribeStop
  try dsimp only
  repeat' split
  all_goals first | with_reducible exact h | simp +contextual (maxDischargeDepth := 50) [h, foldl_sound]

@[simp] theorem reqSubscribeStop_epoch {s0 : State} : ∀ x1 s, EpochStays s0 s → EpochStays s0 (reqSubscribeStop x1 s) := by
  intro x1 s h
  unfold reqSubscribeStop
  try dsimp only
  repeat' split
  all_goals first | with_reducible exact h | simp +contextual (maxDischargeDepth := 50) [h, foldl_epoch]

@[simp] theorem putNotification_sound {s0 : State} : ∀ x1 x2 s, Sound s0 s → Sound s0 (putNotification x1 x2 s) := by
  intro x1 x2 s h
  unfold putNotification
  try dsimp only
  repeat' split
  all_goals first | with_reducible exact h | simp +contextual (maxDischargeDepth := 50) [h, foldl_sound]

@[simp] theorem putNotification_epoch {s0 : State} : ∀ x1 x2 s, EpochStays s0 s → EpochStays s0 (putNotification x1 x2 s) := by
  intro x1 x2 s h
  unfold putNotification
  try dsimp only
  repeat' split
  all_goals first | with_reducible exact h | simp +contextual (maxDischargeDepth := 50) [h, foldl_epoch]

@[simp] theorem notify_sound {s0 : State} : ∀ x1 s, Sound s0 s → Sound s0 (notify x1 s) := by
  intro x1 s h
  unfold notify
  try dsimp only
  repeat' split
  all_goals first | with_reducible exact h | simp +contextual (maxDischargeDepth := 50) [h, foldl_sound]

@[simp] theorem notify_epoch {s0 : State} : ∀ x1 s, EpochStays s0 s → EpochStays s0 (notify x1 s) := by
  intro x1 s h
  unfold notify
  try dsimp only
  repeat' split
  all_goals first | with_reducible exact h | simp +contextual (maxDischargeDepth := 50) [h, foldl_epoch]

@[simp] theorem doIdGet_sound {s0 : State} : ∀ x1 s, Sound s0 s → Sound s0 (doIdGet x1 s) := by
  intro x1 s h
  unfold doIdGet
  try dsimp only
  repeat' split
  all_goals first | with_reducible exact h | simp +contextual (maxDischargeDepth := 50) [h, foldl_sound]

@[simp] theorem doIdGet_epoch {s0 : State} : ∀ x1 s, EpochStays s0 s → EpochStays s0 (doIdGet x1 s) := by
  intro x1 s h
  unfold doIdGet
  try dsimp only
  repeat' split
  all_goals first | with_reducible exact h | simp +contextual (maxDischargeDepth := 50) [h, foldl_epoch]

@[simp] theorem reqIdGet_sound {s0 : State} : ∀ x1 s, Sound s0 s → Sound s0 (reqIdGet x1 s) := by
  intro x1 s h
  unfold reqIdGet
  try dsimp only
  repeat' split
  all_goals first | with_reducible exact h | simp +contextual (maxDischargeDepth := 50) [h, foldl_sound]

@[simp] theorem reqIdGet_epoch {s0 : State} : ∀ x1 s, EpochStays s0 s → EpochStays s0 (reqIdGet x1 s) := by
  intro x1 s h
  unfold reqIdGet
  try dsimp only
  repeat' split
  all_goals first | with_reducible exact h | simp +contextual (maxDischargeDepth := 50) [h, foldl_epoch]

@[simp] theorem readFault_sound {s0 : State} : ∀ s, Sound s0 s → Sound s0 (readFault s) := by
  intro s h
  unfold readFault
  try dsimp only
  repeat' split
  all_goals first | with_reducible exact h | simp +contextual (maxDischargeDepth := 50) [h, foldl_sound]

@[simp] theorem readFault_epoch {s0 : State} : ∀ s, EpochStays s0 s → EpochStays s0 (readFault s) := by
  intro s h
  unfold readFault
  try dsimp only
  repeat' split
  all_goals first | with_reducible exact h | simp +contextual (maxDischargeDepth := 50) [h, foldl_epoch]

@[simp] theorem doStateGet_sound {s0 : State} : ∀ x1 s, Sound s0 s → Sound s0 (doStateGet x1 s) := by
  intro x1 s h
  unfold doStateGet
  try dsimp only
  repeat' split
  all_goals first | with_reducible exact h | simp +contextual (maxDischargeDepth := 50) [h, foldl_sound]

@[simp] theorem doStateGet_epoch {s0 : State} : ∀ x1 s, EpochStays s0 s → EpochStays s0 (doStateGet x1 s) := by
  intro x1 s h
  unfold doStateGet
  try dsimp only
  repeat' split
  all_goals first | with_reducible exact h | simp +contextual (maxDischargeDepth := 50) [h, foldl_epoch]

@[simp] theorem reqStateGet_sound {s0 : State} : ∀ x1 s, Sound s0 s → Sound s0 (reqStateGet x1 s) := by
  intro x1 s h
  unfold reqStateGet
  try dsimp only
  repeat' split
  all_goals first | with_reducible exact h | simp +contextual (maxDischargeDepth := 50) [h, foldl_sound]

@[simp] theorem reqStateGet_epoch {s0 : State} : ∀ x1 s, EpochStays s0 s → EpochStays s0 (reqStateGet x1 s) := by
  intro x1 s h
  unfold reqStateGet
  try dsimp only
  repeat' split
  all_goals first | with_reducible exact h | simp +contextual (maxDischargeDepth := 50) [h, foldl_epoch]

@[simp] theorem doHealthGet_sound {s0 : State} : ∀ x1 s, Sound s0 s → Sound s0 (doHealthGet x1 s) := by
  intro x1 s h
  unfold doHealthGet
  try dsimp only
  repeat' split
  all_goals first | with_reducible exact h | simp +contextual (maxDischargeDepth := 50) [h, foldl_sound]

@[simp] theorem doHealthGet_epoch {s0 : State} : ∀ x1 s, EpochStays s0 s → EpochStays s0 (doHealthGet x1 s) := by
  intro x1 s h
  unfold doHealthGet
  try dsimp only
  repeat' split
  all_goals first | with_reducible exact h | simp +contextual (maxDischargeDepth := 50) [h, foldl_epoch]

@[simp] theorem reqHealthGet_sound {s0 : State} : ∀ x1 s, Sound s0 s → Sound s0 (reqHealthGet x1 s) := by
  intro x1 s h
  unfold reqHealthGet
  try dsimp only
  repeat' split
  all_goals first | with_reducible exact h | simp +contextual (maxDischargeDepth := 50) [h, foldl_sound]

@[simp] theorem reqHealthGet_epoch {s0 : State} : ∀ x1 s, EpochStays s0 s → EpochStays s0 (reqHealthGet x1 s) := by
  intro x1 s h
  unfold reqHealthGet
  try dsimp only
  repeat' split
  all_goals first | with_reducible exact h | simp +contextual (maxDischargeDepth := 50) [h, foldl_epoch]

@[simp] theorem startCan_sound {s0 : State} : ∀ x1 s, Sound s0 s → Sound s0 (startCan x1 s) := by
  intro x1 s h
  unfold startCan
  try dsimp only
  repeat' split
  all_goals first | with_reducible exact h | simp +contextual (maxDischargeDepth := 50) [h, foldl_sound]

@[simp] theorem startCan_epoch {s0 : State} : ∀ x1 s, EpochStays s0 s → EpochStays s0 (startCan x1 s) := by
  intro x1 s h
  unfold startCan
  try dsimp only
  repeat' split
  all_goals first | with_reducible exact h | simp +contextual (maxDischargeDepth := 50) [h, foldl_epoch]

@[simp] theorem release_sound {s0 : State} : ∀ s, Sound s0 s → Sound s0 (release s) := by
  intro s h
  unfold release
  try dsimp only
  repeat' split
  all_goals first | with_reducible exact h | simp +contextual (maxDischargeDepth := 50) [h, foldl_sound]

@[simp] theorem release_epoch {s0 : State} : ∀ s, EpochStays s0 s → EpochStays s0 (release s) := by
  intro s h
  unfold release
  try dsimp only
  repeat' split
  all_goals first | with_reducible exact h | simp +contextual (maxDischargeDepth := 50) [h, foldl_epoch]

@[simp] theorem doStateRelease_sound {s0 : State} : ∀ x1 s, Sound s0 s → Sound s0 (doStateRelease x1 s) := by
  intro x1 s h
  unfold doStateRelease
  try dsimp only
  repeat' split
  all_goals first | with_reducible exact h | simp +contextual (maxDischargeDepth := 50) [h, foldl_sound]

@[simp] theorem doStateRelease_epoch {s0 : State} : ∀ x1 s, EpochStays s0 s → EpochStays s0 (doStateRelease x1 s) := by
  intro x1 s h
  unfold doStateRelease
  try dsimp only
  repeat' split
  all_goals first | with_reducible exact h | simp +contextual (maxDischargeDepth := 50) [h, foldl_epoch]

@[simp] theorem reqStateRelease_sound {s0 : State} : ∀ x1 s, Sound s0 s → Sound s0 (reqStateRelease x1 s) := by
  intro x1 s h
  unfold reqStateRelease
  try dsimp only
  repeat' split
  all_goals first | with_reducible exact h | simp +contextual (maxDischargeDepth := 50) [h, foldl_sound]

@[simp] theorem reqStateRelease_epoch {s0 : State} : ∀ x1 s, EpochStays s0 s → EpochStays s0 (reqStateRelease x1 s) := by
  intro x1 s h
  unfold reqStateRelease
  try dsimp only
  repeat' split
  all_goals first | with_reducible exact h | simp +contextual (maxDischargeDepth := 50) [h, foldl_epoch]

@[simp] theorem doJnlEntries_sound {s0 : State} : ∀ x1 x2 x3 s, Sound s0 s → Sound s0 (doJnlEntries x1 x2 x3 s) := by
  intro x1 x2 x3 s h
  unfold doJnlEntries
  try dsimp only
  repeat' split
  all_goals first | with_reducible exact h | simp +contextual (maxDischargeDepth := 50) [h, foldl_sound]

@[simp] theorem doJnlEntries_epoch {s0 : State} : ∀ x1 x2 x3 s, EpochStays s0 s → EpochStays s0 (doJnlEntries x1 x2 x3 s) := by
  intro x1 x2 x3 s h
  unfold doJnlEntries
  try dsimp only
  repeat' split
  all_goals first | with_reducible exact h | simp +contextual (maxDischargeDepth := 50) [h, foldl_epoch]

@[simp] theorem reqJnlEntries_sound {s0 : State} : ∀ x1 x2 x3 s, Sound s0 s → Sound s0 (reqJnlEntries x1 x2 x3 s) := by
  intro x1 x2 x3 s h
  unfold reqJnlEntries
  try dsimp only
  repeat' split
  all_goals first | with_reducible exact h | simp +contextual (maxDischargeDepth := 50) [h, foldl_sound]

@[simp] theorem reqJnlEntries_epoch {s0 : State} : ∀ x1 x2 x3 s, EpochStays s0 s → EpochStays s0 (reqJnlEntries x1 x2 x3 s) := by
  intro x1 x2 x3 s h
  unfold reqJnlEntries
  try dsimp only
  repeat' split
  all_goals first | with_reducible exact h | simp +contextual (maxDischargeDepth := 50) [h, foldl_epoch]

@[simp] theorem doJnlAttachment_sound {s0 : State} : ∀ x1 x2 x3 s, Sound s0 s → Sound s0 (doJnlAttachment x1 x2 x3 s) := by
  intro x1 x2 x3 s h
  unfold doJnlAttachment
  try dsimp only
  repeat' split
  all_goals first | with_reducible exact h | simp +contextual (maxDischargeDepth := 50) [h, foldl_sound]

@[simp] theorem doJnlAttachment_epoch {s0 : State} : ∀ x1 x2 x3 s, EpochStays s0 s → EpochStays s0 (doJnlAttachment x1 x2 x3 s) := by
  intro x1 x2 x3 s h
  unfold doJnlAttachment
  try dsimp only
  repeat' split
  all_goals first | with_reducible exact h | simp +contextual (maxDischargeDepth := 50) [h, foldl_epoch]

@[simp] theorem reqJnlAttachment_sound {s0 : State} : ∀ x1 x2 x3 s, Sound s0 s → Sound s0 (reqJnlAttachment x1 x2 x3 s) := by
  intro x1 x2 x3 s h
  unfold reqJnlAttachment
  try dsimp only
  repeat' split
  all_goals first | with_reducible exact h | simp +contextual (maxDischargeDepth := 50) [h, foldl_sound]

@[simp] theorem reqJnlAttachment_epoch {s0 : State} : ∀ x1 x2 x3 s, EpochStays s0 s → EpochStays s0 (reqJnlAttachment x1 x2 x3 s) := by
  intro x1 x2 x3 s h
  unfold reqJnlAttachment
  try dsimp only
  repeat' split
  all_goals first | with_reducible exact h | simp +contextual (maxDischargeDepth := 50) [h, foldl_epoch]

@[simp] theorem doPwrGet_sound {s0 : State} : ∀ x1 s, Sound s0 s → Sound s0 (doPwrGet x1 s) := by
  intro x1 s h
  unfold doPwrGet
  try dsimp only
  repeat' split
  all_goals first | with_reducible exact h | simp +contextual (maxDischargeDepth := 50) [h, foldl_sound]

@[simp] theorem doPwrGet_epoch {s0 : State} : ∀ x1 s, EpochStays s0 s → EpochStays s0 (doPwrGet x1 s) := by
  intro x1 s h
  unfold doPwrGet
  try dsimp only
  repeat' split
  all_goals first | with_reducible exact h | simp +contextual (maxDischargeDepth := 50) [h, foldl_epoch]

@[simp] theorem reqPwrGet_sound {s0 : State} : ∀ x1 s, Sound s0 s → Sound s0 (reqPwrGet x1 s) := by
  intro x1 s h
  unfold reqPwrGet
  try dsimp only
  repeat' split
  all_goals first | with_reducible exact h | simp +contextual (maxDischargeDepth := 50) [h, foldl_sound]

@[simp] theorem reqPwrGet_epoch {s0 : State} : ∀ x1 s, EpochStays s0 s → EpochStays s0 (reqPwrGet x1 s) := by
  intro x1 s h
  unfold reqPwrGet
  try dsimp only
  repeat' split
  all_goals first | with_reducible exact h | simp +contextual (maxDischargeDepth := 50) [h, foldl_epoch]

@[simp] theorem doIoStatus_sound {s0 : State} : ∀ x1 x2 x3 s, Sound s0 s → Sound s0 (doIoStatus x1 x2 x3 s) := by
  intro x1 x2 x3 s h
  unfold doIoStatus
  try dsimp only
  repeat' split
  all_goals first | with_reducible exact h | simp +contextual (maxDischargeDepth := 50) [h, foldl_sound]

@[simp] theorem doIoStatus_epoch {s0 : State} : ∀ x1 x2 x3 s, EpochStays s0 s → EpochStays s0 (doIoStatus x1 x2 x3 s) := by
  intro x1 x2 x3 s h
  unfold doIoStatus
  try dsimp only
  repeat' split
  all_goals first | with_reducible exact h | simp +contextual (maxDischargeDepth := 50) [h, foldl_epoch]

@[simp] theorem reqIoStatus_sound {s0 : State} : ∀ x1 x2 x3 s, Sound s0 s → Sound s0 (reqIoStatus x1 x2 x3 s) := by
  intro x1 x2 x3 s h
  unfold reqIoStatus
  try dsimp only
  repeat' split
  all_goals first | with_reducible exact h | simp +contextual (maxDischargeDepth := 50) [h, foldl_sound]

@[simp] theorem reqIoStatus_epoch {s0 : State} : ∀ x1 x2 x3 s, EpochStays s0 s → EpochStays s0 (reqIoStatus x1 x2 x3 s) := by
  intro x1 x2 x3 s h
  unfold reqIoStatus
  try dsimp only
  repeat' split
  all_goals first | with_reducible exact h | simp +contextual (maxDischargeDepth := 50) [h, foldl_epoch]

@[simp] theorem resetDio_sound {s0 : State} : ∀ x1 x2 s, Sound s0 s → Sound s0 (resetDio x1 x2 s) := by
  intro x1 x2 s h
  unfold resetDio
  try dsimp only
  repeat' split
  all_goals first | with_reducible exact h | simp +contextual (maxDischargeDepth := 50) [h, foldl_sound]

@[simp] theorem resetDio_epoch {s0 : State} : ∀ x1 x2 s, EpochStays s0 s → EpochStays s0 (resetDio x1 x2 s) := by
  intro x1 x2 s h
  unfold resetDio
  try dsimp only
  repeat' split
  all_goals first | with_reducible exact h | simp +contextual (maxDischargeDepth := 50) [h, foldl_epoch]

@[simp] theorem resetAio_sound {s0 : State} : ∀ x1 x2 s, Sound s0 s → Sound s0 (resetAio x1 x2 s) := by
  intro x1 x2 s h
  unfold resetAio
  try dsimp only
  repeat' split
  all_goals first | with_reducible exact h | simp +contextual (maxDischargeDepth := 50) [h, foldl_sound]

@[simp] theorem resetAio_epoch {s0 : State} : ∀ x1 x2 s, EpochStays s0 s → EpochStays s0 (resetAio x1 x2 s) := by
  intro x1 x2 s h
  unfold resetAio
  try dsimp only
  repeat' split
  all_goals first | with_reducible exact h | simp +contextual (maxDischargeDepth := 50) [h, foldl_epoch]

@[simp] theorem onFi_sound {s0 : State} : ∀ x1 x2 s, Sound s0 s → Sound s0 (onFi x1 x2 s) := by
  intro x1 x2 s h
  unfold onFi
  try dsimp only
  repeat' split
  all_goals first | with_reducible exact h | simp +contextual (maxDischargeDepth := 50) [h, foldl_sound]

@[simp] theorem onFi_epoch {s0 : State} : ∀ x1 x2 s, EpochStays s0 s → EpochStays s0 (onFi x1 x2 s) := by
  intro x1 x2 s h
  unfold onFi
  try dsimp only
  repeat' split
  all_goals first | with_reducible exact h | simp +contextual (maxDischargeDepth := 50) [h, foldl_epoch]

@[simp] theorem resetFast_sound {s0 : State} : ∀ x1 x2 s, Sound s0 s → Sound s0 (resetFast x1 x2 s) := by
  intro x1 x2 s h
  unfold resetFast
  try dsimp only
  repeat' split
  all_goals first | with_reducible exact h | simp +contextual (maxDischargeDepth := 50) [h, foldl_sound]

@[simp] theorem resetFast_epoch {s0 : State} : ∀ x1 x2 s, EpochStays s0 s → EpochStays s0 (resetFast x1 x2 s) := by
  intro x1 x2 s h
  unfold resetFast
  try dsimp only
  repeat' split
  all_goals first | with_reducible exact h | simp +contextual (maxDischargeDepth := 50) [h, foldl_epoch]

@[simp] theorem resetGroup_sound {s0 s : State} (g c m) (h : Sound s0 s) : Sound s0 (resetGroup g c m s) := by
  unfold resetGroup; split
  · exact eachDio_sound _ (fun c s k => ite_sound _ (resetDio_sound _ _ _ k) k) h
  · exact eachAio_sound _ (fun c s k => ite_sound _ (resetAio_sound _ _ _ k) k) h
  · exact each4_sound _ (fun c s k => ite_sound _ (resetFast_sound _ _ _ k) k) h

@[simp] theorem resetGroup_epoch {s0 s : State} (g c m) (h : EpochStays s0 s) : EpochStays s0 (resetGroup g c m s) := by
  unfold resetGroup; split
  · exact eachDio_epoch _ (fun c s k => ite_epoch _ (resetDio_epoch _ _ _ k) k) h
  · exact eachAio_epoch _ (fun c s k => ite_epoch _ (resetAio_epoch _ _ _ k) k) h
  · exact each4_epoch _ (fun c s k => ite_epoch _ (resetFast_epoch _ _ _ k) k) h

@[simp] theorem doResetFault_sound {s0 : State} : ∀ x1 x2 x3 x4 s, Sound s0 s → Sound s0 (doResetFault x1 x2 x3 x4 s) := by
  intro x1 x2 x3 x4 s h
  unfold doResetFault
  try dsimp only
  repeat' split
  all_goals first | with_reducible exact h | simp +contextual (maxDischargeDepth := 50) [h, foldl_sound]

@[simp] theorem doResetFault_epoch {s0 : State} : ∀ x1 x2 x3 x4 s, EpochStays s0 s → EpochStays s0 (doResetFault x1 x2 x3 x4 s) := by
  intro x1 x2 x3 x4 s h
  unfold doResetFault
  try dsimp only
  repeat' split
  all_goals first | with_reducible exact h | simp +contextual (maxDischargeDepth := 50) [h, foldl_epoch]

@[simp] theorem reqResetFault_sound {s0 : State} : ∀ x1 x2 x3 x4 s, Sound s0 s → Sound s0 (reqResetFault x1 x2 x3 x4 s) := by
  intro x1 x2 x3 x4 s h
  unfold reqResetFault
  try dsimp only
  repeat' split
  all_goals first | with_reducible exact h | simp +contextual (maxDischargeDepth := 50) [h, foldl_sound]

@[simp] theorem reqResetFault_epoch {s0 : State} : ∀ x1 x2 x3 x4 s, EpochStays s0 s → EpochStays s0 (reqResetFault x1 x2 x3 x4 s) := by
  intro x1 x2 x3 x4 s h
  unfold reqResetFault
  try dsimp only
  repeat' split
  all_goals first | with_reducible exact h | simp +contextual (maxDischargeDepth := 50) [h, foldl_epoch]

@[simp] theorem trimDrive_sound {s0 : State} : ∀ x1 x2 s, Sound s0 s → Sound s0 (trimDrive x1 x2 s) := by
  intro x1 x2 s h
  unfold trimDrive
  try dsimp only
  repeat' split
  all_goals first | with_reducible exact h | simp +contextual (maxDischargeDepth := 50) [h, foldl_sound]

@[simp] theorem trimDrive_epoch {s0 : State} : ∀ x1 x2 s, EpochStays s0 s → EpochStays s0 (trimDrive x1 x2 s) := by
  intro x1 x2 s h
  unfold trimDrive
  try dsimp only
  repeat' split
  all_goals first | with_reducible exact h | simp +contextual (maxDischargeDepth := 50) [h, foldl_epoch]

@[simp] theorem trimAnswer_sound {s0 : State} : ∀ x1 x2 x3 x4 s, Sound s0 s → Sound s0 (trimAnswer x1 x2 x3 x4 s) := by
  intro x1 x2 x3 x4 s h
  unfold trimAnswer
  try dsimp only
  repeat' split
  all_goals first | with_reducible exact h | simp +contextual (maxDischargeDepth := 50) [h, foldl_sound]

@[simp] theorem trimAnswer_epoch {s0 : State} : ∀ x1 x2 x3 x4 s, EpochStays s0 s → EpochStays s0 (trimAnswer x1 x2 x3 x4 s) := by
  intro x1 x2 x3 x4 s h
  unfold trimAnswer
  try dsimp only
  repeat' split
  all_goals first | with_reducible exact h | simp +contextual (maxDischargeDepth := 50) [h, foldl_epoch]

@[simp] theorem putTrim_sound {s0 : State} : ∀ x1 s, Sound s0 s → Sound s0 (putTrim x1 s) := by
  intro x1 s h
  unfold putTrim
  try dsimp only
  repeat' split
  all_goals first | with_reducible exact h | simp +contextual (maxDischargeDepth := 50) [h, foldl_sound]

@[simp] theorem putTrim_epoch {s0 : State} : ∀ x1 s, EpochStays s0 s → EpochStays s0 (putTrim x1 s) := by
  intro x1 s h
  unfold putTrim
  try dsimp only
  repeat' split
  all_goals first | with_reducible exact h | simp +contextual (maxDischargeDepth := 50) [h, foldl_epoch]

@[simp] theorem doTrimStart_sound {s0 : State} : ∀ x1 x2 s, Sound s0 s → Sound s0 (doTrimStart x1 x2 s) := by
  intro x1 x2 s h
  unfold doTrimStart
  try dsimp only
  repeat' split
  all_goals first | with_reducible exact h | simp +contextual (maxDischargeDepth := 50) [h, foldl_sound]

@[simp] theorem doTrimStart_epoch {s0 : State} : ∀ x1 x2 s, EpochStays s0 s → EpochStays s0 (doTrimStart x1 x2 s) := by
  intro x1 x2 s h
  unfold doTrimStart
  try dsimp only
  repeat' split
  all_goals first | with_reducible exact h | simp +contextual (maxDischargeDepth := 50) [h, foldl_epoch]

@[simp] theorem reqTrimStart_sound {s0 : State} : ∀ x1 x2 s, Sound s0 s → Sound s0 (reqTrimStart x1 x2 s) := by
  intro x1 x2 s h
  unfold reqTrimStart
  try dsimp only
  repeat' split
  all_goals first | with_reducible exact h | simp +contextual (maxDischargeDepth := 50) [h, foldl_sound]

@[simp] theorem reqTrimStart_epoch {s0 : State} : ∀ x1 x2 s, EpochStays s0 s → EpochStays s0 (reqTrimStart x1 x2 s) := by
  intro x1 x2 s h
  unfold reqTrimStart
  try dsimp only
  repeat' split
  all_goals first | with_reducible exact h | simp +contextual (maxDischargeDepth := 50) [h, foldl_epoch]

@[simp] theorem withTrim_sound {s0 s : State} (x c j a) (body : TrimSeq → State → State) (hb : ∀ q s, Sound s0 s → Sound s0 (body q s)) (h : Sound s0 s) : Sound s0 (withTrim x c j a body s) := by
  unfold withTrim
  repeat' first | exact hb _ _ h | split
  all_goals simp (maxDischargeDepth := 50) [h]

@[simp] theorem withTrim_epoch {s0 s : State} (x c j a) (body : TrimSeq → State → State) (hb : ∀ q s, EpochStays s0 s → EpochStays s0 (body q s)) (h : EpochStays s0 s) : EpochStays s0 (withTrim x c j a body s) := by
  unfold withTrim
  repeat' first | exact hb _ _ h | split
  all_goals simp (maxDischargeDepth := 50) [h]

@[simp] theorem doPoint1_sound {s0 : State} : ∀ x1 x2 x3 x4 s, Sound s0 s → Sound s0 (doPoint1 x1 x2 x3 x4 s) := by
  intro x1 x2 x3 x4 s h
  unfold doPoint1
  try dsimp only
  repeat' split
  all_goals first | with_reducible exact h | simp +contextual (maxDischargeDepth := 50) [h, foldl_sound]

@[simp] theorem doPoint1_epoch {s0 : State} : ∀ x1 x2 x3 x4 s, EpochStays s0 s → EpochStays s0 (doPoint1 x1 x2 x3 x4 s) := by
  intro x1 x2 x3 x4 s h
  unfold doPoint1
  try dsimp only
  repeat' split
  all_goals first | with_reducible exact h | simp +contextual (maxDischargeDepth := 50) [h, foldl_epoch]

@[simp] theorem reqTrimPoint1_sound {s0 : State} : ∀ x1 x2 x3 x4 s, Sound s0 s → Sound s0 (reqTrimPoint1 x1 x2 x3 x4 s) := by
  intro x1 x2 x3 x4 s h
  unfold reqTrimPoint1
  try dsimp only
  repeat' split
  all_goals first | with_reducible exact h | simp +contextual (maxDischargeDepth := 50) [h, foldl_sound]

@[simp] theorem reqTrimPoint1_epoch {s0 : State} : ∀ x1 x2 x3 x4 s, EpochStays s0 s → EpochStays s0 (reqTrimPoint1 x1 x2 x3 x4 s) := by
  intro x1 x2 x3 x4 s h
  unfold reqTrimPoint1
  try dsimp only
  repeat' split
  all_goals first | with_reducible exact h | simp +contextual (maxDischargeDepth := 50) [h, foldl_epoch]

@[simp] theorem doPoint2_sound {s0 : State} : ∀ x1 x2 x3 x4 s, Sound s0 s → Sound s0 (doPoint2 x1 x2 x3 x4 s) := by
  intro x1 x2 x3 x4 s h
  unfold doPoint2
  try dsimp only
  repeat' split
  all_goals first | with_reducible exact h | simp +contextual (maxDischargeDepth := 50) [h, foldl_sound]

@[simp] theorem doPoint2_epoch {s0 : State} : ∀ x1 x2 x3 x4 s, EpochStays s0 s → EpochStays s0 (doPoint2 x1 x2 x3 x4 s) := by
  intro x1 x2 x3 x4 s h
  unfold doPoint2
  try dsimp only
  repeat' split
  all_goals first | with_reducible exact h | simp +contextual (maxDischargeDepth := 50) [h, foldl_epoch]

@[simp] theorem reqTrimPoint2_sound {s0 : State} : ∀ x1 x2 x3 x4 s, Sound s0 s → Sound s0 (reqTrimPoint2 x1 x2 x3 x4 s) := by
  intro x1 x2 x3 x4 s h
  unfold reqTrimPoint2
  try dsimp only
  repeat' split
  all_goals first | with_reducible exact h | simp +contextual (maxDischargeDepth := 50) [h, foldl_sound]

@[simp] theorem reqTrimPoint2_epoch {s0 : State} : ∀ x1 x2 x3 x4 s, EpochStays s0 s → EpochStays s0 (reqTrimPoint2 x1 x2 x3 x4 s) := by
  intro x1 x2 x3 x4 s h
  unfold reqTrimPoint2
  try dsimp only
  repeat' split
  all_goals first | with_reducible exact h | simp +contextual (maxDischargeDepth := 50) [h, foldl_epoch]

@[simp] theorem noteTrim_sound {s0 : State} : ∀ x1 x2 s, Sound s0 s → Sound s0 (noteTrim x1 x2 s) := by
  intro x1 x2 s h
  unfold noteTrim
  try dsimp only
  repeat' split
  all_goals first | with_reducible exact h | simp +contextual (maxDischargeDepth := 50) [h, foldl_sound]

@[simp] theorem noteTrim_epoch {s0 : State} : ∀ x1 x2 s, EpochStays s0 s → EpochStays s0 (noteTrim x1 x2 s) := by
  intro x1 x2 s h
  unfold noteTrim
  try dsimp only
  repeat' split
  all_goals first | with_reducible exact h | simp +contextual (maxDischargeDepth := 50) [h, foldl_epoch]

@[simp] theorem doTrimCommit_sound {s0 : State} : ∀ x1 x2 x3 s, Sound s0 s → Sound s0 (doTrimCommit x1 x2 x3 s) := by
  intro x1 x2 x3 s h
  unfold doTrimCommit
  try dsimp only
  repeat' split
  all_goals first | with_reducible exact h | simp +contextual (maxDischargeDepth := 50) [h, foldl_sound]

@[simp] theorem doTrimCommit_epoch {s0 : State} : ∀ x1 x2 x3 s, EpochStays s0 s → EpochStays s0 (doTrimCommit x1 x2 x3 s) := by
  intro x1 x2 x3 s h
  unfold doTrimCommit
  try dsimp only
  repeat' split
  all_goals first | with_reducible exact h | simp +contextual (maxDischargeDepth := 50) [h, foldl_epoch]

@[simp] theorem reqTrimCommit_sound {s0 : State} : ∀ x1 x2 x3 s, Sound s0 s → Sound s0 (reqTrimCommit x1 x2 x3 s) := by
  intro x1 x2 x3 s h
  unfold reqTrimCommit
  try dsimp only
  repeat' split
  all_goals first | with_reducible exact h | simp +contextual (maxDischargeDepth := 50) [h, foldl_sound]

@[simp] theorem reqTrimCommit_epoch {s0 : State} : ∀ x1 x2 x3 s, EpochStays s0 s → EpochStays s0 (reqTrimCommit x1 x2 x3 s) := by
  intro x1 x2 x3 s h
  unfold reqTrimCommit
  try dsimp only
  repeat' split
  all_goals first | with_reducible exact h | simp +contextual (maxDischargeDepth := 50) [h, foldl_epoch]

@[simp] theorem doTrimAbort_sound {s0 : State} : ∀ x1 x2 x3 s, Sound s0 s → Sound s0 (doTrimAbort x1 x2 x3 s) := by
  intro x1 x2 x3 s h
  unfold doTrimAbort
  try dsimp only
  repeat' split
  all_goals first | with_reducible exact h | simp +contextual (maxDischargeDepth := 50) [h, foldl_sound]

@[simp] theorem doTrimAbort_epoch {s0 : State} : ∀ x1 x2 x3 s, EpochStays s0 s → EpochStays s0 (doTrimAbort x1 x2 x3 s) := by
  intro x1 x2 x3 s h
  unfold doTrimAbort
  try dsimp only
  repeat' split
  all_goals first | with_reducible exact h | simp +contextual (maxDischargeDepth := 50) [h, foldl_epoch]

@[simp] theorem reqTrimAbort_sound {s0 : State} : ∀ x1 x2 x3 s, Sound s0 s → Sound s0 (reqTrimAbort x1 x2 x3 s) := by
  intro x1 x2 x3 s h
  unfold reqTrimAbort
  try dsimp only
  repeat' split
  all_goals first | with_reducible exact h | simp +contextual (maxDischargeDepth := 50) [h, foldl_sound]

@[simp] theorem reqTrimAbort_epoch {s0 : State} : ∀ x1 x2 x3 s, EpochStays s0 s → EpochStays s0 (reqTrimAbort x1 x2 x3 s) := by
  intro x1 x2 x3 s h
  unfold reqTrimAbort
  try dsimp only
  repeat' split
  all_goals first | with_reducible exact h | simp +contextual (maxDischargeDepth := 50) [h, foldl_epoch]

@[simp] theorem doPairStatus_sound {s0 : State} : ∀ x1 s, Sound s0 s → Sound s0 (doPairStatus x1 s) := by
  intro x1 s h
  unfold doPairStatus
  try dsimp only
  repeat' split
  all_goals first | with_reducible exact h | simp +contextual (maxDischargeDepth := 50) [h, foldl_sound]

@[simp] theorem doPairStatus_epoch {s0 : State} : ∀ x1 s, EpochStays s0 s → EpochStays s0 (doPairStatus x1 s) := by
  intro x1 s h
  unfold doPairStatus
  try dsimp only
  repeat' split
  all_goals first | with_reducible exact h | simp +contextual (maxDischargeDepth := 50) [h, foldl_epoch]

@[simp] theorem reqPairStatus_sound {s0 : State} : ∀ x1 s, Sound s0 s → Sound s0 (reqPairStatus x1 s) := by
  intro x1 s h
  unfold reqPairStatus
  try dsimp only
  repeat' split
  all_goals first | with_reducible exact h | simp +contextual (maxDischargeDepth := 50) [h, foldl_sound]

@[simp] theorem reqPairStatus_epoch {s0 : State} : ∀ x1 s, EpochStays s0 s → EpochStays s0 (reqPairStatus x1 s) := by
  intro x1 s h
  unfold reqPairStatus
  try dsimp only
  repeat' split
  all_goals first | with_reducible exact h | simp +contextual (maxDischargeDepth := 50) [h, foldl_epoch]

@[simp] theorem beginSwitch_sound {s0 : State} : ∀ x1 x2 x3 s, Sound s0 s → Sound s0 (beginSwitch x1 x2 x3 s) := by
  intro x1 x2 x3 s h
  unfold beginSwitch
  try dsimp only
  repeat' split
  all_goals first | with_reducible exact h | simp +contextual (maxDischargeDepth := 50) [h, foldl_sound]

@[simp] theorem beginSwitch_epoch {s0 : State} : ∀ x1 x2 x3 s, EpochStays s0 s → EpochStays s0 (beginSwitch x1 x2 x3 s) := by
  intro x1 x2 x3 s h
  unfold beginSwitch
  try dsimp only
  repeat' split
  all_goals first | with_reducible exact h | simp +contextual (maxDischargeDepth := 50) [h, foldl_epoch]

@[simp] theorem doPairSwitch_sound {s0 : State} : ∀ x1 s, Sound s0 s → Sound s0 (doPairSwitch x1 s) := by
  intro x1 s h
  unfold doPairSwitch
  try dsimp only
  repeat' split
  all_goals first | with_reducible exact h | simp +contextual (maxDischargeDepth := 50) [h, foldl_sound]

@[simp] theorem doPairSwitch_epoch {s0 : State} : ∀ x1 s, EpochStays s0 s → EpochStays s0 (doPairSwitch x1 s) := by
  intro x1 s h
  unfold doPairSwitch
  try dsimp only
  repeat' split
  all_goals first | with_reducible exact h | simp +contextual (maxDischargeDepth := 50) [h, foldl_epoch]

@[simp] theorem reqPairSwitch_sound {s0 : State} : ∀ x1 s, Sound s0 s → Sound s0 (reqPairSwitch x1 s) := by
  intro x1 s h
  unfold reqPairSwitch
  try dsimp only
  repeat' split
  all_goals first | with_reducible exact h | simp +contextual (maxDischargeDepth := 50) [h, foldl_sound]

@[simp] theorem reqPairSwitch_epoch {s0 : State} : ∀ x1 s, EpochStays s0 s → EpochStays s0 (reqPairSwitch x1 s) := by
  intro x1 s h
  unfold reqPairSwitch
  try dsimp only
  repeat' split
  all_goals first | with_reducible exact h | simp +contextual (maxDischargeDepth := 50) [h, foldl_epoch]

@[simp] theorem doPairProof_sound {s0 : State} : ∀ x1 s, Sound s0 s → Sound s0 (doPairProof x1 s) := by
  intro x1 s h
  unfold doPairProof
  try dsimp only
  repeat' split
  all_goals first | with_reducible exact h | simp +contextual (maxDischargeDepth := 50) [h, foldl_sound]

@[simp] theorem doPairProof_epoch {s0 : State} : ∀ x1 s, EpochStays s0 s → EpochStays s0 (doPairProof x1 s) := by
  intro x1 s h
  unfold doPairProof
  try dsimp only
  repeat' split
  all_goals first | with_reducible exact h | simp +contextual (maxDischargeDepth := 50) [h, foldl_epoch]

@[simp] theorem reqPairProof_sound {s0 : State} : ∀ x1 s, Sound s0 s → Sound s0 (reqPairProof x1 s) := by
  intro x1 s h
  unfold reqPairProof
  try dsimp only
  repeat' split
  all_goals first | with_reducible exact h | simp +contextual (maxDischargeDepth := 50) [h, foldl_sound]

@[simp] theorem reqPairProof_epoch {s0 : State} : ∀ x1 s, EpochStays s0 s → EpochStays s0 (reqPairProof x1 s) := by
  intro x1 s h
  unfold reqPairProof
  try dsimp only
  repeat' split
  all_goals first | with_reducible exact h | simp +contextual (maxDischargeDepth := 50) [h, foldl_epoch]

@[simp] theorem releaseAlone_sound {s0 : State} : ∀ x1 s, Sound s0 s → Sound s0 (releaseAlone x1 s) := by
  intro x1 s h
  unfold releaseAlone
  try dsimp only
  repeat' split
  all_goals first | with_reducible exact h | simp +contextual (maxDischargeDepth := 50) [h, foldl_sound]

@[simp] theorem releaseAlone_epoch {s0 : State} : ∀ x1 s, EpochStays s0 s → EpochStays s0 (releaseAlone x1 s) := by
  intro x1 s h
  unfold releaseAlone
  try dsimp only
  repeat' split
  all_goals first | with_reducible exact h | simp +contextual (maxDischargeDepth := 50) [h, foldl_epoch]

@[simp] theorem releaseStandby_sound {s0 : State} : ∀ x1 s, Sound s0 s → Sound s0 (releaseStandby x1 s) := by
  intro x1 s h
  unfold releaseStandby
  try dsimp only
  repeat' split
  all_goals first | with_reducible exact h | simp +contextual (maxDischargeDepth := 50) [h, foldl_sound]

@[simp] theorem releaseStandby_epoch {s0 : State} : ∀ x1 s, EpochStays s0 s → EpochStays s0 (releaseStandby x1 s) := by
  intro x1 s h
  unfold releaseStandby
  try dsimp only
  repeat' split
  all_goals first | with_reducible exact h | simp +contextual (maxDischargeDepth := 50) [h, foldl_epoch]

@[simp] theorem doPairRelease_sound {s0 : State} : ∀ x1 s, Sound s0 s → Sound s0 (doPairRelease x1 s) := by
  intro x1 s h
  unfold doPairRelease
  try dsimp only
  repeat' split
  all_goals first | with_reducible exact h | simp +contextual (maxDischargeDepth := 50) [h, foldl_sound]

@[simp] theorem doPairRelease_epoch {s0 : State} : ∀ x1 s, EpochStays s0 s → EpochStays s0 (doPairRelease x1 s) := by
  intro x1 s h
  unfold doPairRelease
  try dsimp only
  repeat' split
  all_goals first | with_reducible exact h | simp +contextual (maxDischargeDepth := 50) [h, foldl_epoch]

@[simp] theorem reqPairRelease_sound {s0 : State} : ∀ x1 s, Sound s0 s → Sound s0 (reqPairRelease x1 s) := by
  intro x1 s h
  unfold reqPairRelease
  try dsimp only
  repeat' split
  all_goals first | with_reducible exact h | simp +contextual (maxDischargeDepth := 50) [h, foldl_sound]

@[simp] theorem reqPairRelease_epoch {s0 : State} : ∀ x1 s, EpochStays s0 s → EpochStays s0 (reqPairRelease x1 s) := by
  intro x1 s h
  unfold reqPairRelease
  try dsimp only
  repeat' split
  all_goals first | with_reducible exact h | simp +contextual (maxDischargeDepth := 50) [h, foldl_epoch]

@[simp] theorem enterNap_sound {s0 : State} : ∀ s, Sound s0 s → Sound s0 (enterNap s) := by
  intro s h
  unfold enterNap
  try dsimp only
  repeat' split
  all_goals first | with_reducible exact h | simp +contextual (maxDischargeDepth := 50) [h, foldl_sound]

@[simp] theorem enterNap_epoch {s0 : State} : ∀ s, EpochStays s0 s → EpochStays s0 (enterNap s) := by
  intro s h
  unfold enterNap
  try dsimp only
  repeat' split
  all_goals first | with_reducible exact h | simp +contextual (maxDischargeDepth := 50) [h, foldl_epoch]

@[simp] theorem enterDormant_sound {s0 : State} : ∀ s, Sound s0 s → Sound s0 (enterDormant s) := by
  intro s h
  unfold enterDormant
  try dsimp only
  repeat' split
  all_goals first | with_reducible exact h | simp +contextual (maxDischargeDepth := 50) [h, foldl_sound]

@[simp] theorem enterDormant_epoch {s0 : State} : ∀ s, EpochStays s0 s → EpochStays s0 (enterDormant s) := by
  intro s h
  unfold enterDormant
  try dsimp only
  repeat' split
  all_goals first | with_reducible exact h | simp +contextual (maxDischargeDepth := 50) [h, foldl_epoch]

@[simp] theorem abortAllBackground_sound {s0 s : State} (h : Sound s0 s) : Sound s0 (abortAllBackground s) := by
  unfold abortAllBackground; exact foldl_sound _ (fun s b k => abortBackground_sound _ _ k) _ _ h

@[simp] theorem abortAllBackground_epoch {s0 s : State} (h : EpochStays s0 s) : EpochStays s0 (abortAllBackground s) := by
  unfold abortAllBackground; exact foldl_epoch _ (fun s b k => abortBackground_epoch _ _ k) _ _ h

@[simp] theorem changePower_sound {s0 : State} : ∀ x1 s, Sound s0 s → Sound s0 (changePower x1 s) := by
  intro x1 s h
  unfold changePower
  try dsimp only
  repeat' split
  all_goals first | with_reducible exact h | simp +contextual (maxDischargeDepth := 50) [h, foldl_sound]

@[simp] theorem changePower_epoch {s0 : State} : ∀ x1 s, EpochStays s0 s → EpochStays s0 (changePower x1 s) := by
  intro x1 s h
  unfold changePower
  try dsimp only
  repeat' split
  all_goals first | with_reducible exact h | simp +contextual (maxDischargeDepth := 50) [h, foldl_epoch]

@[simp] theorem refusePower_sound {s0 : State} : ∀ x1 s, Sound s0 s → Sound s0 (refusePower x1 s) := by
  intro x1 s h
  unfold refusePower
  try dsimp only
  repeat' split
  all_goals first | with_reducible exact h | simp +contextual (maxDischargeDepth := 50) [h, foldl_sound]

@[simp] theorem refusePower_epoch {s0 : State} : ∀ x1 s, EpochStays s0 s → EpochStays s0 (refusePower x1 s) := by
  intro x1 s h
  unfold refusePower
  try dsimp only
  repeat' split
  all_goals first | with_reducible exact h | simp +contextual (maxDischargeDepth := 50) [h, foldl_epoch]

@[simp] theorem doPowerState_sound {s0 : State} : ∀ x1 x2 s, Sound s0 s → Sound s0 (doPowerState x1 x2 s) := by
  intro x1 x2 s h
  unfold doPowerState
  try dsimp only
  repeat' split
  all_goals first | with_reducible exact h | simp +contextual (maxDischargeDepth := 50) [h, foldl_sound]

@[simp] theorem doPowerState_epoch {s0 : State} : ∀ x1 x2 s, EpochStays s0 s → EpochStays s0 (doPowerState x1 x2 s) := by
  intro x1 x2 s h
  unfold doPowerState
  try dsimp only
  repeat' split
  all_goals first | with_reducible exact h | simp +contextual (maxDischargeDepth := 50) [h, foldl_epoch]

@[simp] theorem reqPwrSetPowerState_sound {s0 : State} : ∀ x1 x2 s, Sound s0 s → Sound s0 (reqPwrSetPowerState x1 x2 s) := by
  intro x1 x2 s h
  unfold reqPwrSetPowerState
  try dsimp only
  repeat' split
  all_goals first | with_reducible exact h | simp +contextual (maxDischargeDepth := 50) [h, foldl_sound]

@[simp] theorem reqPwrSetPowerState_epoch {s0 : State} : ∀ x1 x2 s, EpochStays s0 s → EpochStays s0 (reqPwrSetPowerState x1 x2 s) := by
  intro x1 x2 s h
  unfold reqPwrSetPowerState
  try dsimp only
  repeat' split
  all_goals first | with_reducible exact h | simp +contextual (maxDischargeDepth := 50) [h, foldl_epoch]

@[simp] theorem doRestart_sound {s0 : State} : ∀ x1 s, Sound s0 s → Sound s0 (doRestart x1 s) := by
  intro x1 s h
  unfold doRestart
  try dsimp only
  repeat' split
  all_goals first | with_reducible exact h | simp +contextual (maxDischargeDepth := 50) [h, foldl_sound]

@[simp] theorem doRestart_epoch {s0 : State} : ∀ x1 s, EpochStays s0 s → EpochStays s0 (doRestart x1 s) := by
  intro x1 s h
  unfold doRestart
  try dsimp only
  repeat' split
  all_goals first | with_reducible exact h | simp +contextual (maxDischargeDepth := 50) [h, foldl_epoch]

@[simp] theorem reqPwrSetRestart_sound {s0 : State} : ∀ x1 s, Sound s0 s → Sound s0 (reqPwrSetRestart x1 s) := by
  intro x1 s h
  unfold reqPwrSetRestart
  try dsimp only
  repeat' split
  all_goals first | with_reducible exact h | simp +contextual (maxDischargeDepth := 50) [h, foldl_sound]

@[simp] theorem reqPwrSetRestart_epoch {s0 : State} : ∀ x1 s, EpochStays s0 s → EpochStays s0 (reqPwrSetRestart x1 s) := by
  intro x1 s h
  unfold reqPwrSetRestart
  try dsimp only
  repeat' split
  all_goals first | with_reducible exact h | simp +contextual (maxDischargeDepth := 50) [h, foldl_epoch]

@[simp] theorem enterRun_sound {s0 : State} : ∀ s, Sound s0 s → Sound s0 (enterRun s) := by
  intro s h
  unfold enterRun
  try dsimp only
  repeat' split
  all_goals first | with_reducible exact h | simp +contextual (maxDischargeDepth := 50) [h, foldl_sound]

@[simp] theorem enterRun_epoch {s0 : State} : ∀ s, EpochStays s0 s → EpochStays s0 (enterRun s) := by
  intro s h
  unfold enterRun
  try dsimp only
  repeat' split
  all_goals first | with_reducible exact h | simp +contextual (maxDischargeDepth := 50) [h, foldl_epoch]

@[simp] theorem wakeUp_sound {s0 : State} : ∀ x1 s, Sound s0 s → Sound s0 (wakeUp x1 s) := by
  intro x1 s h
  unfold wakeUp
  try dsimp only
  repeat' split
  all_goals first | with_reducible exact h | simp +contextual (maxDischargeDepth := 50) [h, foldl_sound]

@[simp] theorem wakeUp_epoch {s0 : State} : ∀ x1 s, EpochStays s0 s → EpochStays s0 (wakeUp x1 s) := by
  intro x1 s h
  unfold wakeUp
  try dsimp only
  repeat' split
  all_goals first | with_reducible exact h | simp +contextual (maxDischargeDepth := 50) [h, foldl_epoch]

@[simp] theorem saveCounters_sound {s0 : State} : ∀ s, Sound s0 s → Sound s0 (saveCounters s) := by
  intro s h
  unfold saveCounters
  try dsimp only
  repeat' split
  all_goals first | with_reducible exact h | simp +contextual (maxDischargeDepth := 50) [h, foldl_sound]

@[simp] theorem saveCounters_epoch {s0 : State} : ∀ s, EpochStays s0 s → EpochStays s0 (saveCounters s) := by
  intro s h
  unfold saveCounters
  try dsimp only
  repeat' split
  all_goals first | with_reducible exact h | simp +contextual (maxDischargeDepth := 50) [h, foldl_epoch]

@[simp] theorem loadBytes_sound {s0 : State} : ∀ x1 x2 s, Sound s0 s → Sound s0 (loadBytes x1 x2 s) := by
  intro x1 x2 s h
  unfold loadBytes
  try dsimp only
  repeat' split
  all_goals first | with_reducible exact h | simp +contextual (maxDischargeDepth := 50) [h, foldl_sound]

@[simp] theorem loadBytes_epoch {s0 : State} : ∀ x1 x2 s, EpochStays s0 s → EpochStays s0 (loadBytes x1 x2 s) := by
  intro x1 x2 s h
  unfold loadBytes
  try dsimp only
  repeat' split
  all_goals first | with_reducible exact h | simp +contextual (maxDischargeDepth := 50) [h, foldl_epoch]

@[simp] theorem doLoadBegin_sound {s0 : State} : ∀ x1 x2 x3 s, Sound s0 s → Sound s0 (doLoadBegin x1 x2 x3 s) := by
  intro x1 x2 x3 s h
  unfold doLoadBegin
  try dsimp only
  repeat' split
  all_goals first | with_reducible exact h | simp +contextual (maxDischargeDepth := 50) [h, foldl_sound]

@[simp] theorem doLoadBegin_epoch {s0 : State} : ∀ x1 x2 x3 s, EpochStays s0 s → EpochStays s0 (doLoadBegin x1 x2 x3 s) := by
  intro x1 x2 x3 s h
  unfold doLoadBegin
  try dsimp only
  repeat' split
  all_goals first | with_reducible exact h | simp +contextual (maxDischargeDepth := 50) [h, foldl_epoch]

@[simp] theorem reqLoadBegin_sound {s0 : State} : ∀ x1 x2 x3 s, Sound s0 s → Sound s0 (reqLoadBegin x1 x2 x3 s) := by
  intro x1 x2 x3 s h
  unfold reqLoadBegin
  try dsimp only
  repeat' split
  all_goals first | with_reducible exact h | simp +contextual (maxDischargeDepth := 50) [h, foldl_sound]

@[simp] theorem reqLoadBegin_epoch {s0 : State} : ∀ x1 x2 x3 s, EpochStays s0 s → EpochStays s0 (reqLoadBegin x1 x2 x3 s) := by
  intro x1 x2 x3 s h
  unfold reqLoadBegin
  try dsimp only
  repeat' split
  all_goals first | with_reducible exact h | simp +contextual (maxDischargeDepth := 50) [h, foldl_epoch]

@[simp] theorem doLoadData_sound {s0 : State} : ∀ x1 x2 x3 x4 s, Sound s0 s → Sound s0 (doLoadData x1 x2 x3 x4 s) := by
  intro x1 x2 x3 x4 s h
  unfold doLoadData
  try dsimp only
  repeat' split
  all_goals first | with_reducible exact h | simp +contextual (maxDischargeDepth := 50) [h, foldl_sound]

@[simp] theorem doLoadData_epoch {s0 : State} : ∀ x1 x2 x3 x4 s, EpochStays s0 s → EpochStays s0 (doLoadData x1 x2 x3 x4 s) := by
  intro x1 x2 x3 x4 s h
  unfold doLoadData
  try dsimp only
  repeat' split
  all_goals first | with_reducible exact h | simp +contextual (maxDischargeDepth := 50) [h, foldl_epoch]

@[simp] theorem reqLoadData_sound {s0 : State} : ∀ x1 x2 x3 x4 s, Sound s0 s → Sound s0 (reqLoadData x1 x2 x3 x4 s) := by
  intro x1 x2 x3 x4 s h
  unfold reqLoadData
  try dsimp only
  repeat' split
  all_goals first | with_reducible exact h | simp +contextual (maxDischargeDepth := 50) [h, foldl_sound]

@[simp] theorem reqLoadData_epoch {s0 : State} : ∀ x1 x2 x3 x4 s, EpochStays s0 s → EpochStays s0 (reqLoadData x1 x2 x3 x4 s) := by
  intro x1 x2 x3 x4 s h
  unfold reqLoadData
  try dsimp only
  repeat' split
  all_goals first | with_reducible exact h | simp +contextual (maxDischargeDepth := 50) [h, foldl_epoch]

@[simp] theorem failWith_sound {s0 : State} : ∀ x1 x2 x3 s, Sound s0 s → Sound s0 (failWith x1 x2 x3 s) := by
  intro x1 x2 x3 s h
  unfold failWith
  try dsimp only
  repeat' split
  all_goals first | with_reducible exact h | simp +contextual (maxDischargeDepth := 50) [h, foldl_sound]

@[simp] theorem failWith_epoch {s0 : State} : ∀ x1 x2 x3 s, EpochStays s0 s → EpochStays s0 (failWith x1 x2 x3 s) := by
  intro x1 x2 x3 s h
  unfold failWith
  try dsimp only
  repeat' split
  all_goals first | with_reducible exact h | simp +contextual (maxDischargeDepth := 50) [h, foldl_epoch]

@[simp] theorem writeCode_sound {s0 : State} : ∀ x1 x2 s, Sound s0 s → Sound s0 (writeCode x1 x2 s) := by
  intro x1 x2 s h
  unfold writeCode
  try dsimp only
  repeat' split
  all_goals first | with_reducible exact h | simp +contextual (maxDischargeDepth := 50) [h, foldl_sound]

@[simp] theorem writeCode_epoch {s0 : State} : ∀ x1 x2 s, EpochStays s0 s → EpochStays s0 (writeCode x1 x2 s) := by
  intro x1 x2 s h
  unfold writeCode
  try dsimp only
  repeat' split
  all_goals first | with_reducible exact h | simp +contextual (maxDischargeDepth := 50) [h, foldl_epoch]

@[simp] theorem endLoad_sound {s0 : State} : ∀ x1 x2 s, Sound s0 s → Sound s0 (endLoad x1 x2 s) := by
  intro x1 x2 s h
  unfold endLoad
  try dsimp only
  repeat' split
  all_goals first | with_reducible exact h | simp +contextual (maxDischargeDepth := 50) [h, foldl_sound]

@[simp] theorem endLoad_epoch {s0 : State} : ∀ x1 x2 s, EpochStays s0 s → EpochStays s0 (endLoad x1 x2 s) := by
  intro x1 x2 s h
  unfold endLoad
  try dsimp only
  repeat' split
  all_goals first | with_reducible exact h | simp +contextual (maxDischargeDepth := 50) [h, foldl_epoch]

@[simp] theorem doLoadEnd_sound {s0 : State} : ∀ x1 x2 s, Sound s0 s → Sound s0 (doLoadEnd x1 x2 s) := by
  intro x1 x2 s h
  unfold doLoadEnd
  try dsimp only
  repeat' split
  all_goals first | with_reducible exact h | simp +contextual (maxDischargeDepth := 50) [h, foldl_sound]

@[simp] theorem doLoadEnd_epoch {s0 : State} : ∀ x1 x2 s, EpochStays s0 s → EpochStays s0 (doLoadEnd x1 x2 s) := by
  intro x1 x2 s h
  unfold doLoadEnd
  try dsimp only
  repeat' split
  all_goals first | with_reducible exact h | simp +contextual (maxDischargeDepth := 50) [h, foldl_epoch]

@[simp] theorem reqLoadEnd_sound {s0 : State} : ∀ x1 x2 s, Sound s0 s → Sound s0 (reqLoadEnd x1 x2 s) := by
  intro x1 x2 s h
  unfold reqLoadEnd
  try dsimp only
  repeat' split
  all_goals first | with_reducible exact h | simp +contextual (maxDischargeDepth := 50) [h, foldl_sound]

@[simp] theorem reqLoadEnd_epoch {s0 : State} : ∀ x1 x2 s, EpochStays s0 s → EpochStays s0 (reqLoadEnd x1 x2 s) := by
  intro x1 x2 s h
  unfold reqLoadEnd
  try dsimp only
  repeat' split
  all_goals first | with_reducible exact h | simp +contextual (maxDischargeDepth := 50) [h, foldl_epoch]

@[simp] theorem doLoadAbort_sound {s0 : State} : ∀ x1 x2 s, Sound s0 s → Sound s0 (doLoadAbort x1 x2 s) := by
  intro x1 x2 s h
  unfold doLoadAbort
  try dsimp only
  repeat' split
  all_goals first | with_reducible exact h | simp +contextual (maxDischargeDepth := 50) [h, foldl_sound]

@[simp] theorem doLoadAbort_epoch {s0 : State} : ∀ x1 x2 s, EpochStays s0 s → EpochStays s0 (doLoadAbort x1 x2 s) := by
  intro x1 x2 s h
  unfold doLoadAbort
  try dsimp only
  repeat' split
  all_goals first | with_reducible exact h | simp +contextual (maxDischargeDepth := 50) [h, foldl_epoch]

@[simp] theorem reqLoadAbort_sound {s0 : State} : ∀ x1 x2 s, Sound s0 s → Sound s0 (reqLoadAbort x1 x2 s) := by
  intro x1 x2 s h
  unfold reqLoadAbort
  try dsimp only
  repeat' split
  all_goals first | with_reducible exact h | simp +contextual (maxDischargeDepth := 50) [h, foldl_sound]

@[simp] theorem reqLoadAbort_epoch {s0 : State} : ∀ x1 x2 s, EpochStays s0 s → EpochStays s0 (reqLoadAbort x1 x2 s) := by
  intro x1 x2 s h
  unfold reqLoadAbort
  try dsimp only
  repeat' split
  all_goals first | with_reducible exact h | simp +contextual (maxDischargeDepth := 50) [h, foldl_epoch]

@[simp] theorem partnerVerified_sound {s0 : State} : ∀ x1 s, Sound s0 s → Sound s0 (partnerVerified x1 s).2 := by
  intro x1 s h
  unfold partnerVerified
  try dsimp only
  repeat' split
  all_goals first | with_reducible exact h | simp +contextual (maxDischargeDepth := 50) [h, foldl_sound]

@[simp] theorem partnerVerified_epoch {s0 : State} : ∀ x1 s, EpochStays s0 s → EpochStays s0 (partnerVerified x1 s).2 := by
  intro x1 s h
  unfold partnerVerified
  try dsimp only
  repeat' split
  all_goals first | with_reducible exact h | simp +contextual (maxDischargeDepth := 50) [h, foldl_epoch]

@[simp] theorem runVerify_sound {s0 : State} : ∀ x1 x2 x3 s, Sound s0 s → Sound s0 (runVerify x1 x2 x3 s) := by
  intro x1 x2 x3 s h
  unfold runVerify
  try dsimp only
  repeat' split
  all_goals first | with_reducible exact h | simp +contextual (maxDischargeDepth := 50) [h, foldl_sound]

@[simp] theorem runVerify_epoch {s0 : State} : ∀ x1 x2 x3 s, EpochStays s0 s → EpochStays s0 (runVerify x1 x2 x3 s) := by
  intro x1 x2 x3 s h
  unfold runVerify
  try dsimp only
  repeat' split
  all_goals first | with_reducible exact h | simp +contextual (maxDischargeDepth := 50) [h, foldl_epoch]

@[simp] theorem doVerify_sound {s0 : State} : ∀ x1 x2 s, Sound s0 s → Sound s0 (doVerify x1 x2 s) := by
  intro x1 x2 s h
  unfold doVerify
  try dsimp only
  repeat' split
  all_goals first | with_reducible exact h | simp +contextual (maxDischargeDepth := 50) [h, foldl_sound]

@[simp] theorem doVerify_epoch {s0 : State} : ∀ x1 x2 s, EpochStays s0 s → EpochStays s0 (doVerify x1 x2 s) := by
  intro x1 x2 s h
  unfold doVerify
  try dsimp only
  repeat' split
  all_goals first | with_reducible exact h | simp +contextual (maxDischargeDepth := 50) [h, foldl_epoch]

@[simp] theorem reqVerify_sound {s0 : State} : ∀ x1 x2 s, Sound s0 s → Sound s0 (reqVerify x1 x2 s) := by
  intro x1 x2 s h
  unfold reqVerify
  try dsimp only
  repeat' split
  all_goals first | with_reducible exact h | simp +contextual (maxDischargeDepth := 50) [h, foldl_sound]

@[simp] theorem reqVerify_epoch {s0 : State} : ∀ x1 x2 s, EpochStays s0 s → EpochStays s0 (reqVerify x1 x2 s) := by
  intro x1 x2 s h
  unfold reqVerify
  try dsimp only
  repeat' split
  all_goals first | with_reducible exact h | simp +contextual (maxDischargeDepth := 50) [h, foldl_epoch]

@[simp] theorem heldByPartner_sound {s0 : State} : ∀ x1 x2 s, Sound s0 s → Sound s0 (heldByPartner x1 x2 s).2 := by
  intro x1 x2 s h
  unfold heldByPartner
  try dsimp only
  repeat' split
  all_goals first | with_reducible exact h | simp +contextual (maxDischargeDepth := 50) [h, foldl_sound]

@[simp] theorem heldByPartner_epoch {s0 : State} : ∀ x1 x2 s, EpochStays s0 s → EpochStays s0 (heldByPartner x1 x2 s).2 := by
  intro x1 x2 s h
  unfold heldByPartner
  try dsimp only
  repeat' split
  all_goals first | with_reducible exact h | simp +contextual (maxDischargeDepth := 50) [h, foldl_epoch]

@[simp] theorem partnerFits_sound {s0 : State} : ∀ s, Sound s0 s → Sound s0 (partnerFits s).2 := by
  intro s h
  unfold partnerFits
  try dsimp only
  repeat' split
  all_goals first | with_reducible exact h | simp +contextual (maxDischargeDepth := 50) [h, foldl_sound]

@[simp] theorem partnerFits_epoch {s0 : State} : ∀ s, EpochStays s0 s → EpochStays s0 (partnerFits s).2 := by
  intro s h
  unfold partnerFits
  try dsimp only
  repeat' split
  all_goals first | with_reducible exact h | simp +contextual (maxDischargeDepth := 50) [h, foldl_epoch]

@[simp] theorem refuseExchange_sound {s0 : State} : ∀ x1 x2 x3 x4 s, Sound s0 s → Sound s0 (refuseExchange x1 x2 x3 x4 s) := by
  intro x1 x2 x3 x4 s h
  unfold refuseExchange
  try dsimp only
  repeat' split
  all_goals first | with_reducible exact h | simp +contextual (maxDischargeDepth := 50) [h, foldl_sound]

@[simp] theorem refuseExchange_epoch {s0 : State} : ∀ x1 x2 x3 x4 s, EpochStays s0 s → EpochStays s0 (refuseExchange x1 x2 x3 x4 s) := by
  intro x1 x2 x3 x4 s h
  unfold refuseExchange
  try dsimp only
  repeat' split
  all_goals first | with_reducible exact h | simp +contextual (maxDischargeDepth := 50) [h, foldl_epoch]

@[simp] theorem acceptExchange_sound {s0 : State} : ∀ x1 s, Sound s0 s → Sound s0 (acceptExchange x1 s) := by
  intro x1 s h
  unfold acceptExchange
  try dsimp only
  repeat' split
  all_goals first | with_reducible exact h | simp +contextual (maxDischargeDepth := 50) [h, foldl_sound]

@[simp] theorem acceptExchange_epoch {s0 : State} : ∀ x1 s, EpochStays s0 s → EpochStays s0 (acceptExchange x1 s) := by
  intro x1 s h
  unfold acceptExchange
  try dsimp only
  repeat' split
  all_goals first | with_reducible exact h | simp +contextual (maxDischargeDepth := 50) [h, foldl_epoch]

@[simp] theorem doExchange_sound {s0 : State} : ∀ x1 x2 s, Sound s0 s → Sound s0 (doExchange x1 x2 s) := by
  intro x1 x2 s h
  unfold doExchange
  try dsimp only
  repeat' split
  all_goals first | with_reducible exact h | simp +contextual (maxDischargeDepth := 50) [h, foldl_sound]

@[simp] theorem doExchange_epoch {s0 : State} : ∀ x1 x2 s, EpochStays s0 s → EpochStays s0 (doExchange x1 x2 s) := by
  intro x1 x2 s h
  unfold doExchange
  try dsimp only
  repeat' split
  all_goals first | with_reducible exact h | simp +contextual (maxDischargeDepth := 50) [h, foldl_epoch]

@[simp] theorem reqExchange_sound {s0 : State} : ∀ x1 x2 s, Sound s0 s → Sound s0 (reqExchange x1 x2 s) := by
  intro x1 x2 s h
  unfold reqExchange
  try dsimp only
  repeat' split
  all_goals first | with_reducible exact h | simp +contextual (maxDischargeDepth := 50) [h, foldl_sound]

@[simp] theorem reqExchange_epoch {s0 : State} : ∀ x1 x2 s, EpochStays s0 s → EpochStays s0 (reqExchange x1 x2 s) := by
  intro x1 x2 s h
  unfold reqExchange
  try dsimp only
  repeat' split
  all_goals first | with_reducible exact h | simp +contextual (maxDischargeDepth := 50) [h, foldl_epoch]

@[simp] theorem acceptStart_sound {s0 s : State} (x m) (run : Nat → State → State) (hr : ∀ i s, Sound s0 s → Sound s0 (run i s)) (h : Sound s0 s) : Sound s0 (acceptStart x m run s) := by
  exact acceptEpoch_sound _ _ _ _ _ (fun i s k => hr _ _ (jmod_sound _ _ _ k)) h

@[simp] theorem acceptStart_epoch {s0 s : State} (x m) (run : Nat → State → State) (hr : ∀ i s, EpochStays s0 s → EpochStays s0 (run i s)) (h : EpochStays s0 s) : EpochStays s0 (acceptStart x m run s) := by
  exact acceptEpoch_epoch _ _ _ _ _ (fun i s k => hr _ _ (jmod_epoch _ _ _ k)) h

@[simp] theorem startActive_sound {s0 : State} : ∀ x1 x2 s, Sound s0 s → Sound s0 (startActive x1 x2 s) := by
  intro x1 x2 s h
  unfold startActive
  try dsimp only
  repeat' split
  all_goals first | with_reducible exact h | simp +contextual (maxDischargeDepth := 50) [h, foldl_sound]

@[simp] theorem startActive_epoch {s0 : State} : ∀ x1 x2 s, EpochStays s0 s → EpochStays s0 (startActive x1 x2 s) := by
  intro x1 x2 s h
  unfold startActive
  try dsimp only
  repeat' split
  all_goals first | with_reducible exact h | simp +contextual (maxDischargeDepth := 50) [h, foldl_epoch]

@[simp] theorem startAlone_sound {s0 : State} : ∀ x1 x2 s, Sound s0 s → Sound s0 (startAlone x1 x2 s) := by
  intro x1 x2 s h
  unfold startAlone
  try dsimp only
  repeat' split
  all_goals first | with_reducible exact h | simp +contextual (maxDischargeDepth := 50) [h, foldl_sound]

@[simp] theorem startAlone_epoch {s0 : State} : ∀ x1 x2 s, EpochStays s0 s → EpochStays s0 (startAlone x1 x2 s) := by
  intro x1 x2 s h
  unfold startAlone
  try dsimp only
  repeat' split
  all_goals first | with_reducible exact h | simp +contextual (maxDischargeDepth := 50) [h, foldl_epoch]

@[simp] theorem startUnpaired_sound {s0 : State} : ∀ x1 x2 s, Sound s0 s → Sound s0 (startUnpaired x1 x2 s) := by
  intro x1 x2 s h
  unfold startUnpaired
  try dsimp only
  repeat' split
  all_goals first | with_reducible exact h | simp +contextual (maxDischargeDepth := 50) [h, foldl_sound]

@[simp] theorem startUnpaired_epoch {s0 : State} : ∀ x1 x2 s, EpochStays s0 s → EpochStays s0 (startUnpaired x1 x2 s) := by
  intro x1 x2 s h
  unfold startUnpaired
  try dsimp only
  repeat' split
  all_goals first | with_reducible exact h | simp +contextual (maxDischargeDepth := 50) [h, foldl_epoch]

@[simp] theorem offerRole_sound {s0 : State} : ∀ x1 x2 s, Sound s0 s → Sound s0 (offerRole x1 x2 s) := by
  intro x1 x2 s h
  unfold offerRole
  try dsimp only
  repeat' split
  all_goals first | with_reducible exact h | simp +contextual (maxDischargeDepth := 50) [h, foldl_sound]

@[simp] theorem offerRole_epoch {s0 : State} : ∀ x1 x2 s, EpochStays s0 s → EpochStays s0 (offerRole x1 x2 s) := by
  intro x1 x2 s h
  unfold offerRole
  try dsimp only
  repeat' split
  all_goals first | with_reducible exact h | simp +contextual (maxDischargeDepth := 50) [h, foldl_epoch]

@[simp] theorem doStart_sound {s0 : State} : ∀ x1 x2 s, Sound s0 s → Sound s0 (doStart x1 x2 s) := by
  intro x1 x2 s h
  unfold doStart
  try dsimp only
  repeat' split
  all_goals first | with_reducible exact h | simp +contextual (maxDischargeDepth := 50) [h, foldl_sound]

@[simp] theorem doStart_epoch {s0 : State} : ∀ x1 x2 s, EpochStays s0 s → EpochStays s0 (doStart x1 x2 s) := by
  intro x1 x2 s h
  unfold doStart
  try dsimp only
  repeat' split
  all_goals first | with_reducible exact h | simp +contextual (maxDischargeDepth := 50) [h, foldl_epoch]

@[simp] theorem reqStart_sound {s0 : State} : ∀ x1 x2 s, Sound s0 s → Sound s0 (reqStart x1 x2 s) := by
  intro x1 x2 s h
  unfold reqStart
  try dsimp only
  repeat' split
  all_goals first | with_reducible exact h | simp +contextual (maxDischargeDepth := 50) [h, foldl_sound]

@[simp] theorem reqStart_epoch {s0 : State} : ∀ x1 x2 s, EpochStays s0 s → EpochStays s0 (reqStart x1 x2 s) := by
  intro x1 x2 s h
  unfold reqStart
  try dsimp only
  repeat' split
  all_goals first | with_reducible exact h | simp +contextual (maxDischargeDepth := 50) [h, foldl_epoch]

@[simp] theorem doStop_sound {s0 : State} : ∀ x1 x2 s, Sound s0 s → Sound s0 (doStop x1 x2 s) := by
  intro x1 x2 s h
  unfold doStop
  try dsimp only
  repeat' split
  all_goals first | with_reducible exact h | simp +contextual (maxDischargeDepth := 50) [h, foldl_sound]

@[simp] theorem doStop_epoch {s0 : State} : ∀ x1 x2 s, EpochStays s0 s → EpochStays s0 (doStop x1 x2 s) := by
  intro x1 x2 s h
  unfold doStop
  try dsimp only
  repeat' split
  all_goals first | with_reducible exact h | simp +contextual (maxDischargeDepth := 50) [h, foldl_epoch]

@[simp] theorem reqStop_sound {s0 : State} : ∀ x1 x2 s, Sound s0 s → Sound s0 (reqStop x1 x2 s) := by
  intro x1 x2 s h
  unfold reqStop
  try dsimp only
  repeat' split
  all_goals first | with_reducible exact h | simp +contextual (maxDischargeDepth := 50) [h, foldl_sound]

@[simp] theorem reqStop_epoch {s0 : State} : ∀ x1 x2 s, EpochStays s0 s → EpochStays s0 (reqStop x1 x2 s) := by
  intro x1 x2 s h
  unfold reqStop
  try dsimp only
  repeat' split
  all_goals first | with_reducible exact h | simp +contextual (maxDischargeDepth := 50) [h, foldl_epoch]

@[simp] theorem suspendJoin_sound {s0 : State} : ∀ s, Sound s0 s → Sound s0 (suspendJoin s) := by
  intro s h
  unfold suspendJoin
  try dsimp only
  repeat' split
  all_goals first | with_reducible exact h | simp +contextual (maxDischargeDepth := 50) [h, foldl_sound]

@[simp] theorem suspendJoin_epoch {s0 : State} : ∀ s, EpochStays s0 s → EpochStays s0 (suspendJoin s) := by
  intro s h
  unfold suspendJoin
  try dsimp only
  repeat' split
  all_goals first | with_reducible exact h | simp +contextual (maxDischargeDepth := 50) [h, foldl_epoch]

@[simp] theorem openSession_sound {s0 : State} : ∀ x1 x2 s, Sound s0 s → Sound s0 (openSession x1 x2 s) := by
  intro x1 x2 s h
  unfold openSession
  try dsimp only
  repeat' split
  all_goals first | with_reducible exact h | simp +contextual (maxDischargeDepth := 50) [h, foldl_sound]

@[simp] theorem openSession_epoch {s0 : State} : ∀ x1 x2 s, EpochStays s0 s → EpochStays s0 (openSession x1 x2 s) := by
  intro x1 x2 s h
  unfold openSession
  try dsimp only
  repeat' split
  all_goals first | with_reducible exact h | simp +contextual (maxDischargeDepth := 50) [h, foldl_epoch]

@[simp] theorem giveNonce_sound {s0 : State} : ∀ x1 s, Sound s0 s → Sound s0 (giveNonce x1 s) := by
  intro x1 s h
  unfold giveNonce
  try dsimp only
  repeat' split
  all_goals first | with_reducible exact h | simp +contextual (maxDischargeDepth := 50) [h, foldl_sound]

@[simp] theorem giveNonce_epoch {s0 : State} : ∀ x1 s, EpochStays s0 s → EpochStays s0 (giveNonce x1 s) := by
  intro x1 s h
  unfold giveNonce
  try dsimp only
  repeat' split
  all_goals first | with_reducible exact h | simp +contextual (maxDischargeDepth := 50) [h, foldl_epoch]

@[simp] theorem doChallenge_sound {s0 : State} : ∀ x1 x2 s, Sound s0 s → Sound s0 (doChallenge x1 x2 s) := by
  intro x1 x2 s h
  unfold doChallenge
  try dsimp only
  repeat' split
  all_goals first | with_reducible exact h | simp +contextual (maxDischargeDepth := 50) [h, foldl_sound]

@[simp] theorem doChallenge_epoch {s0 : State} : ∀ x1 x2 s, EpochStays s0 s → EpochStays s0 (doChallenge x1 x2 s) := by
  intro x1 x2 s h
  unfold doChallenge
  try dsimp only
  repeat' split
  all_goals first | with_reducible exact h | simp +contextual (maxDischargeDepth := 50) [h, foldl_epoch]

@[simp] theorem reqSecChallenge_sound {s0 : State} : ∀ x1 x2 s, Sound s0 s → Sound s0 (reqSecChallenge x1 x2 s) := by
  intro x1 x2 s h
  unfold reqSecChallenge
  try dsimp only
  repeat' split
  all_goals first | with_reducible exact h | simp +contextual (maxDischargeDepth := 50) [h, foldl_sound]

@[simp] theorem reqSecChallenge_epoch {s0 : State} : ∀ x1 x2 s, EpochStays s0 s → EpochStays s0 (reqSecChallenge x1 x2 s) := by
  intro x1 x2 s h
  unfold reqSecChallenge
  try dsimp only
  repeat' split
  all_goals first | with_reducible exact h | simp +contextual (maxDischargeDepth := 50) [h, foldl_epoch]

@[simp] theorem consumeNonce_sound {s0 : State} : ∀ x1 s, Sound s0 s → Sound s0 (consumeNonce x1 s) := by
  intro x1 s h
  unfold consumeNonce
  try dsimp only
  repeat' split
  all_goals first | with_reducible exact h | simp +contextual (maxDischargeDepth := 50) [h, foldl_sound]

@[simp] theorem consumeNonce_epoch {s0 : State} : ∀ x1 s, EpochStays s0 s → EpochStays s0 (consumeNonce x1 s) := by
  intro x1 s h
  unfold consumeNonce
  try dsimp only
  repeat' split
  all_goals first | with_reducible exact h | simp +contextual (maxDischargeDepth := 50) [h, foldl_epoch]

@[simp] theorem noteFailure_sound {s0 : State} : ∀ x1 x2 s, Sound s0 s → Sound s0 (noteFailure x1 x2 s) := by
  intro x1 x2 s h
  unfold noteFailure
  try dsimp only
  repeat' split
  all_goals first | with_reducible exact h | simp +contextual (maxDischargeDepth := 50) [h, foldl_sound]

@[simp] theorem noteFailure_epoch {s0 : State} : ∀ x1 x2 s, EpochStays s0 s → EpochStays s0 (noteFailure x1 x2 s) := by
  intro x1 x2 s h
  unfold noteFailure
  try dsimp only
  repeat' split
  all_goals first | with_reducible exact h | simp +contextual (maxDischargeDepth := 50) [h, foldl_epoch]

@[simp] theorem doUnlock_sound {s0 : State} : ∀ x1 x2 x3 x4 s, Sound s0 s → Sound s0 (doUnlock x1 x2 x3 x4 s) := by
  intro x1 x2 x3 x4 s h
  unfold doUnlock
  try dsimp only
  repeat' split
  all_goals first | with_reducible exact h | simp +contextual (maxDischargeDepth := 50) [h, foldl_sound]

@[simp] theorem doUnlock_epoch {s0 : State} : ∀ x1 x2 x3 x4 s, EpochStays s0 s → EpochStays s0 (doUnlock x1 x2 x3 x4 s) := by
  intro x1 x2 x3 x4 s h
  unfold doUnlock
  try dsimp only
  repeat' split
  all_goals first | with_reducible exact h | simp +contextual (maxDischargeDepth := 50) [h, foldl_epoch]

@[simp] theorem reqSecUnlock_sound {s0 : State} : ∀ x1 x2 x3 x4 s, Sound s0 s → Sound s0 (reqSecUnlock x1 x2 x3 x4 s) := by
  intro x1 x2 x3 x4 s h
  unfold reqSecUnlock
  try dsimp only
  repeat' split
  all_goals first | with_reducible exact h | simp +contextual (maxDischargeDepth := 50) [h, foldl_sound]

@[simp] theorem reqSecUnlock_epoch {s0 : State} : ∀ x1 x2 x3 x4 s, EpochStays s0 s → EpochStays s0 (reqSecUnlock x1 x2 x3 x4 s) := by
  intro x1 x2 x3 x4 s h
  unfold reqSecUnlock
  try dsimp only
  repeat' split
  all_goals first | with_reducible exact h | simp +contextual (maxDischargeDepth := 50) [h, foldl_epoch]

@[simp] theorem onKeySlot_sound {s0 : State} : ∀ x1 x2 s, Sound s0 s → Sound s0 (onKeySlot x1 x2 s) := by
  intro x1 x2 s h
  unfold onKeySlot
  try dsimp only
  repeat' split
  all_goals first | with_reducible exact h | simp +contextual (maxDischargeDepth := 50) [h, foldl_sound]

@[simp] theorem onKeySlot_epoch {s0 : State} : ∀ x1 x2 s, EpochStays s0 s → EpochStays s0 (onKeySlot x1 x2 s) := by
  intro x1 x2 s h
  unfold onKeySlot
  try dsimp only
  repeat' split
  all_goals first | with_reducible exact h | simp +contextual (maxDischargeDepth := 50) [h, foldl_epoch]

@[simp] theorem endSlotConns_sound {s0 : State} : ∀ x1 s, Sound s0 s → Sound s0 (endSlotConns x1 s) := by
  intro x1 s h
  unfold endSlotConns
  try dsimp only
  repeat' split
  all_goals first | with_reducible exact h | simp +contextual (maxDischargeDepth := 50) [h, foldl_sound]

@[simp] theorem endSlotConns_epoch {s0 : State} : ∀ x1 s, EpochStays s0 s → EpochStays s0 (endSlotConns x1 s) := by
  intro x1 s h
  unfold endSlotConns
  try dsimp only
  repeat' split
  all_goals first | with_reducible exact h | simp +contextual (maxDischargeDepth := 50) [h, foldl_epoch]

@[simp] theorem endLifecycle_sound {s0 : State} : ∀ x1 x2 x3 s, Sound s0 s → Sound s0 (endLifecycle x1 x2 x3 s) := by
  intro x1 x2 x3 s h
  unfold endLifecycle
  try dsimp only
  repeat' split
  all_goals first | with_reducible exact h | simp +contextual (maxDischargeDepth := 50) [h, foldl_sound]

@[simp] theorem endLifecycle_epoch {s0 : State} : ∀ x1 x2 x3 s, EpochStays s0 s → EpochStays s0 (endLifecycle x1 x2 x3 s) := by
  intro x1 x2 x3 s h
  unfold endLifecycle
  try dsimp only
  repeat' split
  all_goals first | with_reducible exact h | simp +contextual (maxDischargeDepth := 50) [h, foldl_epoch]

@[simp] theorem makeDeviceKey_sound {s0 : State} : ∀ s, Sound s0 s → Sound s0 (makeDeviceKey s) := by
  intro s h
  unfold makeDeviceKey
  try dsimp only
  repeat' split
  all_goals first | with_reducible exact h | simp +contextual (maxDischargeDepth := 50) [h, foldl_sound]

@[simp] theorem makeDeviceKey_epoch {s0 : State} : ∀ s, EpochStays s0 s → EpochStays s0 (makeDeviceKey s) := by
  intro s h
  unfold makeDeviceKey
  try dsimp only
  repeat' split
  all_goals first | with_reducible exact h | simp +contextual (maxDischargeDepth := 50) [h, foldl_epoch]

@[simp] theorem setLifecycle_sound {s0 : State} : ∀ x1 s, Sound s0 s → Sound s0 (setLifecycle x1 s) := by
  intro x1 s h
  unfold setLifecycle
  try dsimp only
  repeat' split
  all_goals first | with_reducible exact h | simp +contextual (maxDischargeDepth := 50) [h, foldl_sound]

@[simp] theorem setLifecycle_epoch {s0 : State} : ∀ x1 s, EpochStays s0 s → EpochStays s0 (setLifecycle x1 s) := by
  intro x1 s h
  unfold setLifecycle
  try dsimp only
  repeat' split
  all_goals first | with_reducible exact h | simp +contextual (maxDischargeDepth := 50) [h, foldl_epoch]

@[simp] theorem changeLifecycle_sound {s0 : State} : ∀ x1 x2 x3 s, Sound s0 s → Sound s0 (changeLifecycle x1 x2 x3 s) := by
  intro x1 x2 x3 s h
  unfold changeLifecycle
  try dsimp only
  repeat' split
  all_goals first | with_reducible exact h | simp +contextual (maxDischargeDepth := 50) [h, foldl_sound]

@[simp] theorem changeLifecycle_epoch {s0 : State} : ∀ x1 x2 x3 s, EpochStays s0 s → EpochStays s0 (changeLifecycle x1 x2 x3 s) := by
  intro x1 x2 x3 s h
  unfold changeLifecycle
  try dsimp only
  repeat' split
  all_goals first | with_reducible exact h | simp +contextual (maxDischargeDepth := 50) [h, foldl_epoch]

@[simp] theorem blowFuse_sound {s0 : State} : ∀ x1 s, Sound s0 s → Sound s0 (blowFuse x1 s) := by
  intro x1 s h
  unfold blowFuse
  try dsimp only
  repeat' split
  all_goals first | with_reducible exact h | simp +contextual (maxDischargeDepth := 50) [h, foldl_sound]

@[simp] theorem blowFuse_epoch {s0 : State} : ∀ x1 s, EpochStays s0 s → EpochStays s0 (blowFuse x1 s) := by
  intro x1 s h
  unfold blowFuse
  try dsimp only
  repeat' split
  all_goals first | with_reducible exact h | simp +contextual (maxDischargeDepth := 50) [h, foldl_epoch]

@[simp] theorem blowFuses_sound {s0 : State} : ∀ s, Sound s0 s → Sound s0 (blowFuses s) := by
  intro s h
  unfold blowFuses
  try dsimp only
  repeat' split
  all_goals first | with_reducible exact h | simp +contextual (maxDischargeDepth := 50) [h, foldl_sound]

@[simp] theorem blowFuses_epoch {s0 : State} : ∀ s, EpochStays s0 s → EpochStays s0 (blowFuses s) := by
  intro s h
  unfold blowFuses
  try dsimp only
  repeat' split
  all_goals first | with_reducible exact h | simp +contextual (maxDischargeDepth := 50) [h, foldl_epoch]

@[simp] theorem requestFuse_sound {s0 : State} : ∀ x1 s, Sound s0 s → Sound s0 (requestFuse x1 s) := by
  intro x1 s h
  unfold requestFuse
  try dsimp only
  repeat' split
  all_goals first | with_reducible exact h | simp +contextual (maxDischargeDepth := 50) [h, foldl_sound]

@[simp] theorem requestFuse_epoch {s0 : State} : ∀ x1 s, EpochStays s0 s → EpochStays s0 (requestFuse x1 s) := by
  intro x1 s h
  unfold requestFuse
  try dsimp only
  repeat' split
  all_goals first | with_reducible exact h | simp +contextual (maxDischargeDepth := 50) [h, foldl_epoch]

@[simp] theorem doLifecycle_sound {s0 : State} : ∀ x1 x2 x3 x4 x5 s, Sound s0 s → Sound s0 (doLifecycle x1 x2 x3 x4 x5 s) := by
  intro x1 x2 x3 x4 x5 s h
  unfold doLifecycle
  try dsimp only
  repeat' split
  all_goals first | with_reducible exact h | simp +contextual (maxDischargeDepth := 50) [h, foldl_sound]

@[simp] theorem doLifecycle_epoch {s0 : State} : ∀ x1 x2 x3 x4 x5 s, EpochStays s0 s → EpochStays s0 (doLifecycle x1 x2 x3 x4 x5 s) := by
  intro x1 x2 x3 x4 x5 s h
  unfold doLifecycle
  try dsimp only
  repeat' split
  all_goals first | with_reducible exact h | simp +contextual (maxDischargeDepth := 50) [h, foldl_epoch]

@[simp] theorem reqSecLifecycle_sound {s0 : State} : ∀ x1 x2 x3 x4 x5 s, Sound s0 s → Sound s0 (reqSecLifecycle x1 x2 x3 x4 x5 s) := by
  intro x1 x2 x3 x4 x5 s h
  unfold reqSecLifecycle
  try dsimp only
  repeat' split
  all_goals first | with_reducible exact h | simp +contextual (maxDischargeDepth := 50) [h, foldl_sound]

@[simp] theorem reqSecLifecycle_epoch {s0 : State} : ∀ x1 x2 x3 x4 x5 s, EpochStays s0 s → EpochStays s0 (reqSecLifecycle x1 x2 x3 x4 x5 s) := by
  intro x1 x2 x3 x4 x5 s h
  unfold reqSecLifecycle
  try dsimp only
  repeat' split
  all_goals first | with_reducible exact h | simp +contextual (maxDischargeDepth := 50) [h, foldl_epoch]

@[simp] theorem setStaged_sound {s0 : State} : ∀ x1 x2 s, Sound s0 s → Sound s0 (setStaged x1 x2 s) := by
  intro x1 x2 s h
  unfold setStaged
  try dsimp only
  repeat' split
  all_goals first | with_reducible exact h | simp +contextual (maxDischargeDepth := 50) [h, foldl_sound]

@[simp] theorem setStaged_epoch {s0 : State} : ∀ x1 x2 s, EpochStays s0 s → EpochStays s0 (setStaged x1 x2 s) := by
  intro x1 x2 s h
  unfold setStaged
  try dsimp only
  repeat' split
  all_goals first | with_reducible exact h | simp +contextual (maxDischargeDepth := 50) [h, foldl_epoch]

@[simp] theorem doSetRead_sound {s0 : State} : ∀ x1 x2 x3 s, Sound s0 s → Sound s0 (doSetRead x1 x2 x3 s) := by
  intro x1 x2 x3 s h
  unfold doSetRead
  try dsimp only
  repeat' split
  all_goals first | with_reducible exact h | simp +contextual (maxDischargeDepth := 50) [h, foldl_sound]

@[simp] theorem doSetRead_epoch {s0 : State} : ∀ x1 x2 x3 s, EpochStays s0 s → EpochStays s0 (doSetRead x1 x2 x3 s) := by
  intro x1 x2 x3 s h
  unfold doSetRead
  try dsimp only
  repeat' split
  all_goals first | with_reducible exact h | simp +contextual (maxDischargeDepth := 50) [h, foldl_epoch]

@[simp] theorem reqSetRead_sound {s0 : State} : ∀ x1 x2 x3 s, Sound s0 s → Sound s0 (reqSetRead x1 x2 x3 s) := by
  intro x1 x2 x3 s h
  unfold reqSetRead
  try dsimp only
  repeat' split
  all_goals first | with_reducible exact h | simp +contextual (maxDischargeDepth := 50) [h, foldl_sound]

@[simp] theorem reqSetRead_epoch {s0 : State} : ∀ x1 x2 x3 s, EpochStays s0 s → EpochStays s0 (reqSetRead x1 x2 x3 s) := by
  intro x1 x2 x3 s h
  unfold reqSetRead
  try dsimp only
  repeat' split
  all_goals first | with_reducible exact h | simp +contextual (maxDischargeDepth := 50) [h, foldl_epoch]

@[simp] theorem doSetWrite_sound {s0 : State} : ∀ x1 x2 s, Sound s0 s → Sound s0 (doSetWrite x1 x2 s) := by
  intro x1 x2 s h
  unfold doSetWrite
  try dsimp only
  repeat' split
  all_goals first | with_reducible exact h | simp +contextual (maxDischargeDepth := 50) [h, foldl_sound]

@[simp] theorem doSetWrite_epoch {s0 : State} : ∀ x1 x2 s, EpochStays s0 s → EpochStays s0 (doSetWrite x1 x2 s) := by
  intro x1 x2 s h
  unfold doSetWrite
  try dsimp only
  repeat' split
  all_goals first | with_reducible exact h | simp +contextual (maxDischargeDepth := 50) [h, foldl_epoch]

@[simp] theorem reqSetWrite_sound {s0 : State} : ∀ x1 x2 s, Sound s0 s → Sound s0 (reqSetWrite x1 x2 s) := by
  intro x1 x2 s h
  unfold reqSetWrite
  try dsimp only
  repeat' split
  all_goals first | with_reducible exact h | simp +contextual (maxDischargeDepth := 50) [h, foldl_sound]

@[simp] theorem reqSetWrite_epoch {s0 : State} : ∀ x1 x2 s, EpochStays s0 s → EpochStays s0 (reqSetWrite x1 x2 s) := by
  intro x1 x2 s h
  unfold reqSetWrite
  try dsimp only
  repeat' split
  all_goals first | with_reducible exact h | simp +contextual (maxDischargeDepth := 50) [h, foldl_epoch]

@[simp] theorem withSet_sound {s0 : State} : ∀ x1 s, Sound s0 s → Sound s0 (withSet x1 s) := by
  intro x1 s h
  unfold withSet
  try dsimp only
  repeat' split
  all_goals first | with_reducible exact h | simp +contextual (maxDischargeDepth := 50) [h, foldl_sound]

@[simp] theorem withSet_epoch {s0 : State} : ∀ x1 s, EpochStays s0 s → EpochStays s0 (withSet x1 s) := by
  intro x1 s h
  unfold withSet
  try dsimp only
  repeat' split
  all_goals first | with_reducible exact h | simp +contextual (maxDischargeDepth := 50) [h, foldl_epoch]

@[simp] theorem acceptCommit_sound {s0 : State} : ∀ x1 x2 s, Sound s0 s → Sound s0 (acceptCommit x1 x2 s) := by
  intro x1 x2 s h
  unfold acceptCommit
  try dsimp only
  repeat' split
  all_goals first | with_reducible exact h | simp +contextual (maxDischargeDepth := 50) [h, foldl_sound]

@[simp] theorem acceptCommit_epoch {s0 : State} : ∀ x1 x2 s, EpochStays s0 s → EpochStays s0 (acceptCommit x1 x2 s) := by
  intro x1 x2 s h
  unfold acceptCommit
  try dsimp only
  repeat' split
  all_goals first | with_reducible exact h | simp +contextual (maxDischargeDepth := 50) [h, foldl_epoch]

@[simp] theorem doSetCommit_sound {s0 : State} : ∀ x1 x2 s, Sound s0 s → Sound s0 (doSetCommit x1 x2 s) := by
  intro x1 x2 s h
  unfold doSetCommit
  try dsimp only
  repeat' split
  all_goals first | with_reducible exact h | simp +contextual (maxDischargeDepth := 50) [h, foldl_sound]

@[simp] theorem doSetCommit_epoch {s0 : State} : ∀ x1 x2 s, EpochStays s0 s → EpochStays s0 (doSetCommit x1 x2 s) := by
  intro x1 x2 s h
  unfold doSetCommit
  try dsimp only
  repeat' split
  all_goals first | with_reducible exact h | simp +contextual (maxDischargeDepth := 50) [h, foldl_epoch]

@[simp] theorem reqSetCommit_sound {s0 : State} : ∀ x1 x2 s, Sound s0 s → Sound s0 (reqSetCommit x1 x2 s) := by
  intro x1 x2 s h
  unfold reqSetCommit
  try dsimp only
  repeat' split
  all_goals first | with_reducible exact h | simp +contextual (maxDischargeDepth := 50) [h, foldl_sound]

@[simp] theorem reqSetCommit_epoch {s0 : State} : ∀ x1 x2 s, EpochStays s0 s → EpochStays s0 (reqSetCommit x1 x2 s) := by
  intro x1 x2 s h
  unfold reqSetCommit
  try dsimp only
  repeat' split
  all_goals first | with_reducible exact h | simp +contextual (maxDischargeDepth := 50) [h, foldl_epoch]

@[simp] theorem onCommit_sound {s0 : State} : ∀ x1 x2 s, Sound s0 s → Sound s0 (onCommit x1 x2 s) := by
  intro x1 x2 s h
  unfold onCommit
  try dsimp only
  repeat' split
  all_goals first | with_reducible exact h | simp +contextual (maxDischargeDepth := 50) [h, foldl_sound]

@[simp] theorem onCommit_epoch {s0 : State} : ∀ x1 x2 s, EpochStays s0 s → EpochStays s0 (onCommit x1 x2 s) := by
  intro x1 x2 s h
  unfold onCommit
  try dsimp only
  repeat' split
  all_goals first | with_reducible exact h | simp +contextual (maxDischargeDepth := 50) [h, foldl_epoch]

@[simp] theorem dropCommit_sound {s0 : State} : ∀ x1 s, Sound s0 s → Sound s0 (dropCommit x1 s) := by
  intro x1 s h
  unfold dropCommit
  try dsimp only
  repeat' split
  all_goals first | with_reducible exact h | simp +contextual (maxDischargeDepth := 50) [h, foldl_sound]

@[simp] theorem dropCommit_epoch {s0 : State} : ∀ x1 s, EpochStays s0 s → EpochStays s0 (dropCommit x1 s) := by
  intro x1 s h
  unfold dropCommit
  try dsimp only
  repeat' split
  all_goals first | with_reducible exact h | simp +contextual (maxDischargeDepth := 50) [h, foldl_epoch]

@[simp] theorem failCommit_sound {s0 : State} : ∀ x1 x2 x3 s, Sound s0 s → Sound s0 (failCommit x1 x2 x3 s) := by
  intro x1 x2 x3 s h
  unfold failCommit
  try dsimp only
  repeat' split
  all_goals first | with_reducible exact h | simp +contextual (maxDischargeDepth := 50) [h, foldl_sound]

@[simp] theorem failCommit_epoch {s0 : State} : ∀ x1 x2 x3 s, EpochStays s0 s → EpochStays s0 (failCommit x1 x2 x3 s) := by
  intro x1 x2 x3 s h
  unfold failCommit
  try dsimp only
  repeat' split
  all_goals first | with_reducible exact h | simp +contextual (maxDischargeDepth := 50) [h, foldl_epoch]

@[simp] theorem takeEntries_sound {s0 : State} : ∀ x1 x2 s, Sound s0 s → Sound s0 (takeEntries x1 x2 s) := by
  intro x1 x2 s h
  unfold takeEntries
  try dsimp only
  repeat' split
  all_goals first | with_reducible exact h | simp +contextual (maxDischargeDepth := 50) [h, foldl_sound]

@[simp] theorem takeEntries_epoch {s0 : State} : ∀ x1 x2 s, EpochStays s0 s → EpochStays s0 (takeEntries x1 x2 s) := by
  intro x1 x2 s h
  unfold takeEntries
  try dsimp only
  repeat' split
  all_goals first | with_reducible exact h | simp +contextual (maxDischargeDepth := 50) [h, foldl_epoch]

@[simp] theorem applyImmediate_sound {s0 : State} : ∀ x1 s, Sound s0 s → Sound s0 (applyImmediate x1 s) := by
  intro x1 s h
  unfold applyImmediate
  try dsimp only
  repeat' split
  all_goals first | with_reducible exact h | simp +contextual (maxDischargeDepth := 50) [h, foldl_sound]

@[simp] theorem applyImmediate_epoch {s0 : State} : ∀ x1 s, EpochStays s0 s → EpochStays s0 (applyImmediate x1 s) := by
  intro x1 s h
  unfold applyImmediate
  try dsimp only
  repeat' split
  all_goals first | with_reducible exact h | simp +contextual (maxDischargeDepth := 50) [h, foldl_epoch]

@[simp] theorem writeFirstCopy_sound {s0 : State} : ∀ x1 s, Sound s0 s → Sound s0 (writeFirstCopy x1 s) := by
  intro x1 s h
  unfold writeFirstCopy
  try dsimp only
  repeat' split
  all_goals first | with_reducible exact h | simp +contextual (maxDischargeDepth := 50) [h, foldl_sound]

@[simp] theorem writeFirstCopy_epoch {s0 : State} : ∀ x1 s, EpochStays s0 s → EpochStays s0 (writeFirstCopy x1 s) := by
  intro x1 s h
  unfold writeFirstCopy
  try dsimp only
  repeat' split
  all_goals first | with_reducible exact h | simp +contextual (maxDischargeDepth := 50) [h, foldl_epoch]

@[simp] theorem writeSecondCopy_sound {s0 : State} : ∀ x1 s, Sound s0 s → Sound s0 (writeSecondCopy x1 s) := by
  intro x1 s h
  unfold writeSecondCopy
  try dsimp only
  repeat' split
  all_goals first | with_reducible exact h | simp +contextual (maxDischargeDepth := 50) [h, foldl_sound]

@[simp] theorem writeSecondCopy_epoch {s0 : State} : ∀ x1 s, EpochStays s0 s → EpochStays s0 (writeSecondCopy x1 s) := by
  intro x1 s h
  unfold writeSecondCopy
  try dsimp only
  repeat' split
  all_goals first | with_reducible exact h | simp +contextual (maxDischargeDepth := 50) [h, foldl_epoch]

@[simp] theorem buildExport_sound {s0 : State} : ∀ x1 x2 s, Sound s0 s → Sound s0 (buildExport x1 x2 s) := by
  intro x1 x2 s h
  unfold buildExport
  try dsimp only
  repeat' split
  all_goals first | with_reducible exact h | simp +contextual (maxDischargeDepth := 50) [h, foldl_sound]

@[simp] theorem buildExport_epoch {s0 : State} : ∀ x1 x2 s, EpochStays s0 s → EpochStays s0 (buildExport x1 x2 s) := by
  intro x1 x2 s h
  unfold buildExport
  try dsimp only
  repeat' split
  all_goals first | with_reducible exact h | simp +contextual (maxDischargeDepth := 50) [h, foldl_epoch]

@[simp] theorem doExportBuild_sound {s0 : State} : ∀ x1 s, Sound s0 s → Sound s0 (doExportBuild x1 s) := by
  intro x1 s h
  unfold doExportBuild
  try dsimp only
  repeat' split
  all_goals first | with_reducible exact h | simp +contextual (maxDischargeDepth := 50) [h, foldl_sound]

@[simp] theorem doExportBuild_epoch {s0 : State} : ∀ x1 s, EpochStays s0 s → EpochStays s0 (doExportBuild x1 s) := by
  intro x1 s h
  unfold doExportBuild
  try dsimp only
  repeat' split
  all_goals first | with_reducible exact h | simp +contextual (maxDischargeDepth := 50) [h, foldl_epoch]

@[simp] theorem reqExportBuild_sound {s0 : State} : ∀ x1 s, Sound s0 s → Sound s0 (reqExportBuild x1 s) := by
  intro x1 s h
  unfold reqExportBuild
  try dsimp only
  repeat' split
  all_goals first | with_reducible exact h | simp +contextual (maxDischargeDepth := 50) [h, foldl_sound]

@[simp] theorem reqExportBuild_epoch {s0 : State} : ∀ x1 s, EpochStays s0 s → EpochStays s0 (reqExportBuild x1 s) := by
  intro x1 s h
  unfold reqExportBuild
  try dsimp only
  repeat' split
  all_goals first | with_reducible exact h | simp +contextual (maxDischargeDepth := 50) [h, foldl_epoch]

@[simp] theorem doExportRead_sound {s0 : State} : ∀ x1 x2 x3 s, Sound s0 s → Sound s0 (doExportRead x1 x2 x3 s) := by
  intro x1 x2 x3 s h
  unfold doExportRead
  try dsimp only
  repeat' split
  all_goals first | with_reducible exact h | simp +contextual (maxDischargeDepth := 50) [h, foldl_sound]

@[simp] theorem doExportRead_epoch {s0 : State} : ∀ x1 x2 x3 s, EpochStays s0 s → EpochStays s0 (doExportRead x1 x2 x3 s) := by
  intro x1 x2 x3 s h
  unfold doExportRead
  try dsimp only
  repeat' split
  all_goals first | with_reducible exact h | simp +contextual (maxDischargeDepth := 50) [h, foldl_epoch]

@[simp] theorem reqExportRead_sound {s0 : State} : ∀ x1 x2 x3 s, Sound s0 s → Sound s0 (reqExportRead x1 x2 x3 s) := by
  intro x1 x2 x3 s h
  unfold reqExportRead
  try dsimp only
  repeat' split
  all_goals first | with_reducible exact h | simp +contextual (maxDischargeDepth := 50) [h, foldl_sound]

@[simp] theorem reqExportRead_epoch {s0 : State} : ∀ x1 x2 x3 s, EpochStays s0 s → EpochStays s0 (reqExportRead x1 x2 x3 s) := by
  intro x1 x2 x3 s h
  unfold reqExportRead
  try dsimp only
  repeat' split
  all_goals first | with_reducible exact h | simp +contextual (maxDischargeDepth := 50) [h, foldl_epoch]

@[simp] theorem doQuoSet_sound {s0 : State} : ∀ x1 x2 x3 s, Sound s0 s → Sound s0 (doQuoSet x1 x2 x3 s) := by
  intro x1 x2 x3 s h
  unfold doQuoSet
  try dsimp only
  repeat' split
  all_goals first | with_reducible exact h | simp +contextual (maxDischargeDepth := 50) [h, foldl_sound]

@[simp] theorem doQuoSet_epoch {s0 : State} : ∀ x1 x2 x3 s, EpochStays s0 s → EpochStays s0 (doQuoSet x1 x2 x3 s) := by
  intro x1 x2 x3 s h
  unfold doQuoSet
  try dsimp only
  repeat' split
  all_goals first | with_reducible exact h | simp +contextual (maxDischargeDepth := 50) [h, foldl_epoch]

@[simp] theorem reqQuoSet_sound {s0 : State} : ∀ x1 x2 x3 s, Sound s0 s → Sound s0 (reqQuoSet x1 x2 x3 s) := by
  intro x1 x2 x3 s h
  unfold reqQuoSet
  try dsimp only
  repeat' split
  all_goals first | with_reducible exact h | simp +contextual (maxDischargeDepth := 50) [h, foldl_sound]

@[simp] theorem reqQuoSet_epoch {s0 : State} : ∀ x1 x2 x3 s, EpochStays s0 s → EpochStays s0 (reqQuoSet x1 x2 x3 s) := by
  intro x1 x2 x3 s h
  unfold reqQuoSet
  try dsimp only
  repeat' split
  all_goals first | with_reducible exact h | simp +contextual (maxDischargeDepth := 50) [h, foldl_epoch]

@[simp] theorem doQuoGet_sound {s0 : State} : ∀ x1 x2 s, Sound s0 s → Sound s0 (doQuoGet x1 x2 s) := by
  intro x1 x2 s h
  unfold doQuoGet
  try dsimp only
  repeat' split
  all_goals first | with_reducible exact h | simp +contextual (maxDischargeDepth := 50) [h, foldl_sound]

@[simp] theorem doQuoGet_epoch {s0 : State} : ∀ x1 x2 s, EpochStays s0 s → EpochStays s0 (doQuoGet x1 x2 s) := by
  intro x1 x2 s h
  unfold doQuoGet
  try dsimp only
  repeat' split
  all_goals first | with_reducible exact h | simp +contextual (maxDischargeDepth := 50) [h, foldl_epoch]

@[simp] theorem reqQuoGet_sound {s0 : State} : ∀ x1 x2 s, Sound s0 s → Sound s0 (reqQuoGet x1 x2 s) := by
  intro x1 x2 s h
  unfold reqQuoGet
  try dsimp only
  repeat' split
  all_goals first | with_reducible exact h | simp +contextual (maxDischargeDepth := 50) [h, foldl_sound]

@[simp] theorem reqQuoGet_epoch {s0 : State} : ∀ x1 x2 s, EpochStays s0 s → EpochStays s0 (reqQuoGet x1 x2 s) := by
  intro x1 x2 s h
  unfold reqQuoGet
  try dsimp only
  repeat' split
  all_goals first | with_reducible exact h | simp +contextual (maxDischargeDepth := 50) [h, foldl_epoch]

@[simp] theorem clearTxts_sound {s0 : State} : ∀ x1 s, Sound s0 s → Sound s0 (clearTxts x1 s) := by
  intro x1 s h
  unfold clearTxts
  try dsimp only
  repeat' split
  all_goals first | with_reducible exact h | simp +contextual (maxDischargeDepth := 50) [h, foldl_sound]

@[simp] theorem clearTxts_epoch {s0 : State} : ∀ x1 s, EpochStays s0 s → EpochStays s0 (clearTxts x1 s) := by
  intro x1 s h
  unfold clearTxts
  try dsimp only
  repeat' split
  all_goals first | with_reducible exact h | simp +contextual (maxDischargeDepth := 50) [h, foldl_epoch]

@[simp] theorem doTimeStatus_sound {s0 : State} : ∀ x1 x2 s, Sound s0 s → Sound s0 (doTimeStatus x1 x2 s) := by
  intro x1 x2 s h
  unfold doTimeStatus
  try dsimp only
  repeat' split
  all_goals first | with_reducible exact h | simp +contextual (maxDischargeDepth := 50) [h, foldl_sound]

@[simp] theorem doTimeStatus_epoch {s0 : State} : ∀ x1 x2 s, EpochStays s0 s → EpochStays s0 (doTimeStatus x1 x2 s) := by
  intro x1 x2 s h
  unfold doTimeStatus
  try dsimp only
  repeat' split
  all_goals first | with_reducible exact h | simp +contextual (maxDischargeDepth := 50) [h, foldl_epoch]

@[simp] theorem reqTimeStatus_sound {s0 : State} : ∀ x1 x2 s, Sound s0 s → Sound s0 (reqTimeStatus x1 x2 s) := by
  intro x1 x2 s h
  unfold reqTimeStatus
  try dsimp only
  repeat' split
  all_goals first | with_reducible exact h | simp +contextual (maxDischargeDepth := 50) [h, foldl_sound]

@[simp] theorem reqTimeStatus_epoch {s0 : State} : ∀ x1 x2 s, EpochStays s0 s → EpochStays s0 (reqTimeStatus x1 x2 s) := by
  intro x1 x2 s h
  unfold reqTimeStatus
  try dsimp only
  repeat' split
  all_goals first | with_reducible exact h | simp +contextual (maxDischargeDepth := 50) [h, foldl_epoch]

@[simp] theorem onTrigger_sound {s0 : State} : ∀ x1 x2 s, Sound s0 s → Sound s0 (onTrigger x1 x2 s) := by
  intro x1 x2 s h
  unfold onTrigger
  try dsimp only
  repeat' split
  all_goals first | with_reducible exact h | simp +contextual (maxDischargeDepth := 50) [h, foldl_sound]

@[simp] theorem onTrigger_epoch {s0 : State} : ∀ x1 x2 s, EpochStays s0 s → EpochStays s0 (onTrigger x1 x2 s) := by
  intro x1 x2 s h
  unfold onTrigger
  try dsimp only
  repeat' split
  all_goals first | with_reducible exact h | simp +contextual (maxDischargeDepth := 50) [h, foldl_epoch]

@[simp] theorem releaseBarges_sound {s0 : State} : ∀ x1 x2 s, Sound s0 s → Sound s0 (releaseBarges x1 x2 s) := by
  intro x1 x2 s h
  unfold releaseBarges
  try dsimp only
  repeat' split
  all_goals first | with_reducible exact h | simp +contextual (maxDischargeDepth := 50) [h, foldl_sound]

@[simp] theorem releaseBarges_epoch {s0 : State} : ∀ x1 x2 s, EpochStays s0 s → EpochStays s0 (releaseBarges x1 x2 s) := by
  intro x1 x2 s h
  unfold releaseBarges
  try dsimp only
  repeat' split
  all_goals first | with_reducible exact h | simp +contextual (maxDischargeDepth := 50) [h, foldl_epoch]

@[simp] theorem performAction_sound {s0 : State} : ∀ x1 x2 s, Sound s0 s → Sound s0 (performAction x1 x2 s) := by
  intro x1 x2 s h
  unfold performAction
  try dsimp only
  repeat' split
  all_goals first | with_reducible exact h | simp +contextual (maxDischargeDepth := 50) [h, foldl_sound]

@[simp] theorem performAction_epoch {s0 : State} : ∀ x1 x2 s, EpochStays s0 s → EpochStays s0 (performAction x1 x2 s) := by
  intro x1 x2 s h
  unfold performAction
  try dsimp only
  repeat' split
  all_goals first | with_reducible exact h | simp +contextual (maxDischargeDepth := 50) [h, foldl_epoch]

@[simp] theorem fireAction_sound {s0 : State} : ∀ x1 x2 x3 s, Sound s0 s → Sound s0 (fireAction x1 x2 x3 s) := by
  intro x1 x2 x3 s h
  unfold fireAction
  try dsimp only
  repeat' split
  all_goals first | with_reducible exact h | simp +contextual (maxDischargeDepth := 50) [h, foldl_sound]

@[simp] theorem fireAction_epoch {s0 : State} : ∀ x1 x2 x3 s, EpochStays s0 s → EpochStays s0 (fireAction x1 x2 x3 s) := by
  intro x1 x2 x3 s h
  unfold fireAction
  try dsimp only
  repeat' split
  all_goals first | with_reducible exact h | simp +contextual (maxDischargeDepth := 50) [h, foldl_epoch]

@[simp] theorem armUnit_sound {s0 : State} : ∀ x1 x2 s, Sound s0 s → Sound s0 (armUnit x1 x2 s) := by
  intro x1 x2 s h
  unfold armUnit
  try dsimp only
  repeat' split
  all_goals first | with_reducible exact h | simp +contextual (maxDischargeDepth := 50) [h, foldl_sound]

@[simp] theorem armUnit_epoch {s0 : State} : ∀ x1 x2 s, EpochStays s0 s → EpochStays s0 (armUnit x1 x2 s) := by
  intro x1 x2 s h
  unfold armUnit
  try dsimp only
  repeat' split
  all_goals first | with_reducible exact h | simp +contextual (maxDischargeDepth := 50) [h, foldl_epoch]

@[simp] theorem doArm_sound {s0 : State} : ∀ x1 x2 x3 s, Sound s0 s → Sound s0 (doArm x1 x2 x3 s) := by
  intro x1 x2 x3 s h
  unfold doArm
  try dsimp only
  repeat' split
  all_goals first | with_reducible exact h | simp +contextual (maxDischargeDepth := 50) [h, foldl_sound]

@[simp] theorem doArm_epoch {s0 : State} : ∀ x1 x2 x3 s, EpochStays s0 s → EpochStays s0 (doArm x1 x2 x3 s) := by
  intro x1 x2 x3 s h
  unfold doArm
  try dsimp only
  repeat' split
  all_goals first | with_reducible exact h | simp +contextual (maxDischargeDepth := 50) [h, foldl_epoch]

@[simp] theorem reqArm_sound {s0 : State} : ∀ x1 x2 x3 x4 x5 x6 x7 x8 x9 s, Sound s0 s → Sound s0 (reqArm x1 x2 x3 x4 x5 x6 x7 x8 x9 s) := by
  intro x1 x2 x3 x4 x5 x6 x7 x8 x9 s h
  unfold reqArm
  try dsimp only
  repeat' split
  all_goals first | with_reducible exact h | simp +contextual (maxDischargeDepth := 50) [h, foldl_sound]

@[simp] theorem reqArm_epoch {s0 : State} : ∀ x1 x2 x3 x4 x5 x6 x7 x8 x9 s, EpochStays s0 s → EpochStays s0 (reqArm x1 x2 x3 x4 x5 x6 x7 x8 x9 s) := by
  intro x1 x2 x3 x4 x5 x6 x7 x8 x9 s h
  unfold reqArm
  try dsimp only
  repeat' split
  all_goals first | with_reducible exact h | simp +contextual (maxDischargeDepth := 50) [h, foldl_epoch]

@[simp] theorem freeHeld_sound {s0 : State} : ∀ x1 s, Sound s0 s → Sound s0 (freeHeld x1 s) := by
  intro x1 s h
  unfold freeHeld
  try dsimp only
  repeat' split
  all_goals first | with_reducible exact h | simp +contextual (maxDischargeDepth := 50) [h, foldl_sound]

@[simp] theorem freeHeld_epoch {s0 : State} : ∀ x1 s, EpochStays s0 s → EpochStays s0 (freeHeld x1 s) := by
  intro x1 s h
  unfold freeHeld
  try dsimp only
  repeat' split
  all_goals first | with_reducible exact h | simp +contextual (maxDischargeDepth := 50) [h, foldl_epoch]

@[simp] theorem doCancel_sound {s0 : State} : ∀ x1 x2 s, Sound s0 s → Sound s0 (doCancel x1 x2 s) := by
  intro x1 x2 s h
  unfold doCancel
  try dsimp only
  repeat' split
  all_goals first | with_reducible exact h | simp +contextual (maxDischargeDepth := 50) [h, foldl_sound]

@[simp] theorem doCancel_epoch {s0 : State} : ∀ x1 x2 s, EpochStays s0 s → EpochStays s0 (doCancel x1 x2 s) := by
  intro x1 x2 s h
  unfold doCancel
  try dsimp only
  repeat' split
  all_goals first | with_reducible exact h | simp +contextual (maxDischargeDepth := 50) [h, foldl_epoch]

@[simp] theorem reqCancel_sound {s0 : State} : ∀ x1 x2 s, Sound s0 s → Sound s0 (reqCancel x1 x2 s) := by
  intro x1 x2 s h
  unfold reqCancel
  try dsimp only
  repeat' split
  all_goals first | with_reducible exact h | simp +contextual (maxDischargeDepth := 50) [h, foldl_sound]

@[simp] theorem reqCancel_epoch {s0 : State} : ∀ x1 x2 s, EpochStays s0 s → EpochStays s0 (reqCancel x1 x2 s) := by
  intro x1 x2 s h
  unfold reqCancel
  try dsimp only
  repeat' split
  all_goals first | with_reducible exact h | simp +contextual (maxDischargeDepth := 50) [h, foldl_epoch]

@[simp] theorem touchLease_sound {s0 : State} : ∀ x1 s, Sound s0 s → Sound s0 (touchLease x1 s) := by
  intro x1 s h
  unfold touchLease
  try dsimp only
  repeat' split
  all_goals first | with_reducible exact h | simp +contextual (maxDischargeDepth := 50) [h, foldl_sound]

@[simp] theorem touchLease_epoch {s0 : State} : ∀ x1 s, EpochStays s0 s → EpochStays s0 (touchLease x1 s) := by
  intro x1 s h
  unfold touchLease
  try dsimp only
  repeat' split
  all_goals first | with_reducible exact h | simp +contextual (maxDischargeDepth := 50) [h, foldl_epoch]

@[simp] theorem leased_sound {s0 s : State} (x c) (body : State → State) (hb : ∀ s, Sound s0 s → Sound s0 (body s)) (h : Sound s0 s) : Sound s0 (leased x c body s) := by
  unfold leased; split
  · simp (maxDischargeDepth := 50) [h]
  · exact hb _ (by simp (maxDischargeDepth := 50) [h])

@[simp] theorem leased_epoch {s0 s : State} (x c) (body : State → State) (hb : ∀ s, EpochStays s0 s → EpochStays s0 (body s)) (h : EpochStays s0 s) : EpochStays s0 (leased x c body s) := by
  unfold leased; split
  · simp (maxDischargeDepth := 50) [h]
  · exact hb _ (by simp (maxDischargeDepth := 50) [h])

@[simp] theorem takeHeader_sound {s0 : State} : ∀ x1 x2 s, Sound s0 s → Sound s0 (takeHeader x1 x2 s) := by
  intro x1 x2 s h
  unfold takeHeader
  try dsimp only
  repeat' split
  all_goals first | with_reducible exact h | simp +contextual (maxDischargeDepth := 50) [h, foldl_sound]

@[simp] theorem takeHeader_epoch {s0 : State} : ∀ x1 x2 s, EpochStays s0 s → EpochStays s0 (takeHeader x1 x2 s) := by
  intro x1 x2 s h
  unfold takeHeader
  try dsimp only
  repeat' split
  all_goals first | with_reducible exact h | simp +contextual (maxDischargeDepth := 50) [h, foldl_epoch]

@[simp] theorem doUpdOpen_sound {s0 : State} : ∀ x1 x2 s, Sound s0 s → Sound s0 (doUpdOpen x1 x2 s) := by
  intro x1 x2 s h
  unfold doUpdOpen
  try dsimp only
  repeat' split
  all_goals first | with_reducible exact h | simp +contextual (maxDischargeDepth := 50) [h, foldl_sound]

@[simp] theorem doUpdOpen_epoch {s0 : State} : ∀ x1 x2 s, EpochStays s0 s → EpochStays s0 (doUpdOpen x1 x2 s) := by
  intro x1 x2 s h
  unfold doUpdOpen
  try dsimp only
  repeat' split
  all_goals first | with_reducible exact h | simp +contextual (maxDischargeDepth := 50) [h, foldl_epoch]

@[simp] theorem reqUpdOpen_sound {s0 : State} : ∀ x1 x2 s, Sound s0 s → Sound s0 (reqUpdOpen x1 x2 s) := by
  intro x1 x2 s h
  unfold reqUpdOpen
  try dsimp only
  repeat' split
  all_goals first | with_reducible exact h | simp +contextual (maxDischargeDepth := 50) [h, foldl_sound]

@[simp] theorem reqUpdOpen_epoch {s0 : State} : ∀ x1 x2 s, EpochStays s0 s → EpochStays s0 (reqUpdOpen x1 x2 s) := by
  intro x1 x2 s h
  unfold reqUpdOpen
  try dsimp only
  repeat' split
  all_goals first | with_reducible exact h | simp +contextual (maxDischargeDepth := 50) [h, foldl_epoch]

@[simp] theorem doUpdChunk_sound {s0 : State} : ∀ x1 x2 x3 s, Sound s0 s → Sound s0 (doUpdChunk x1 x2 x3 s) := by
  intro x1 x2 x3 s h
  unfold doUpdChunk
  try dsimp only
  repeat' split
  all_goals first | with_reducible exact h | simp +contextual (maxDischargeDepth := 50) [h, foldl_sound]

@[simp] theorem doUpdChunk_epoch {s0 : State} : ∀ x1 x2 x3 s, EpochStays s0 s → EpochStays s0 (doUpdChunk x1 x2 x3 s) := by
  intro x1 x2 x3 s h
  unfold doUpdChunk
  try dsimp only
  repeat' split
  all_goals first | with_reducible exact h | simp +contextual (maxDischargeDepth := 50) [h, foldl_epoch]

@[simp] theorem reqUpdChunk_sound {s0 : State} : ∀ x1 x2 x3 s, Sound s0 s → Sound s0 (reqUpdChunk x1 x2 x3 s) := by
  intro x1 x2 x3 s h
  unfold reqUpdChunk
  try dsimp only
  repeat' split
  all_goals first | with_reducible exact h | simp +contextual (maxDischargeDepth := 50) [h, foldl_sound]

@[simp] theorem reqUpdChunk_epoch {s0 : State} : ∀ x1 x2 x3 s, EpochStays s0 s → EpochStays s0 (reqUpdChunk x1 x2 x3 s) := by
  intro x1 x2 x3 s h
  unfold reqUpdChunk
  try dsimp only
  repeat' split
  all_goals first | with_reducible exact h | simp +contextual (maxDischargeDepth := 50) [h, foldl_epoch]

@[simp] theorem endUpdate_sound {s0 : State} : ∀ x1 s, Sound s0 s → Sound s0 (endUpdate x1 s) := by
  intro x1 s h
  unfold endUpdate
  try dsimp only
  repeat' split
  all_goals first | with_reducible exact h | simp +contextual (maxDischargeDepth := 50) [h, foldl_sound]

@[simp] theorem endUpdate_epoch {s0 : State} : ∀ x1 s, EpochStays s0 s → EpochStays s0 (endUpdate x1 s) := by
  intro x1 s h
  unfold endUpdate
  try dsimp only
  repeat' split
  all_goals first | with_reducible exact h | simp +contextual (maxDischargeDepth := 50) [h, foldl_epoch]

@[simp] theorem beginApply_sound {s0 : State} : ∀ x1 s, Sound s0 s → Sound s0 (beginApply x1 s) := by
  intro x1 s h
  unfold beginApply
  try dsimp only
  repeat' split
  all_goals first | with_reducible exact h | simp +contextual (maxDischargeDepth := 50) [h, foldl_sound]

@[simp] theorem beginApply_epoch {s0 : State} : ∀ x1 s, EpochStays s0 s → EpochStays s0 (beginApply x1 s) := by
  intro x1 s h
  unfold beginApply
  try dsimp only
  repeat' split
  all_goals first | with_reducible exact h | simp +contextual (maxDischargeDepth := 50) [h, foldl_epoch]

@[simp] theorem doApply_sound {s0 : State} : ∀ x1 s, Sound s0 s → Sound s0 (doApply x1 s) := by
  intro x1 s h
  unfold doApply
  try dsimp only
  repeat' split
  all_goals first | with_reducible exact h | simp +contextual (maxDischargeDepth := 50) [h, foldl_sound]

@[simp] theorem doApply_epoch {s0 : State} : ∀ x1 s, EpochStays s0 s → EpochStays s0 (doApply x1 s) := by
  intro x1 s h
  unfold doApply
  try dsimp only
  repeat' split
  all_goals first | with_reducible exact h | simp +contextual (maxDischargeDepth := 50) [h, foldl_epoch]

@[simp] theorem reqUpdCloseApply_sound {s0 : State} : ∀ x1 s, Sound s0 s → Sound s0 (reqUpdCloseApply x1 s) := by
  intro x1 s h
  unfold reqUpdCloseApply
  try dsimp only
  repeat' split
  all_goals first | with_reducible exact h | simp +contextual (maxDischargeDepth := 50) [h, foldl_sound]

@[simp] theorem reqUpdCloseApply_epoch {s0 : State} : ∀ x1 s, EpochStays s0 s → EpochStays s0 (reqUpdCloseApply x1 s) := by
  intro x1 s h
  unfold reqUpdCloseApply
  try dsimp only
  repeat' split
  all_goals first | with_reducible exact h | simp +contextual (maxDischargeDepth := 50) [h, foldl_epoch]

@[simp] theorem abandonUpdate_sound {s0 : State} : ∀ x1 s, Sound s0 s → Sound s0 (abandonUpdate x1 s) := by
  intro x1 s h
  unfold abandonUpdate
  try dsimp only
  repeat' split
  all_goals first | with_reducible exact h | simp +contextual (maxDischargeDepth := 50) [h, foldl_sound]

@[simp] theorem abandonUpdate_epoch {s0 : State} : ∀ x1 s, EpochStays s0 s → EpochStays s0 (abandonUpdate x1 s) := by
  intro x1 s h
  unfold abandonUpdate
  try dsimp only
  repeat' split
  all_goals first | with_reducible exact h | simp +contextual (maxDischargeDepth := 50) [h, foldl_epoch]

@[simp] theorem doAbandon_sound {s0 : State} : ∀ x1 s, Sound s0 s → Sound s0 (doAbandon x1 s) := by
  intro x1 s h
  unfold doAbandon
  try dsimp only
  repeat' split
  all_goals first | with_reducible exact h | simp +contextual (maxDischargeDepth := 50) [h, foldl_sound]

@[simp] theorem doAbandon_epoch {s0 : State} : ∀ x1 s, EpochStays s0 s → EpochStays s0 (doAbandon x1 s) := by
  intro x1 s h
  unfold doAbandon
  try dsimp only
  repeat' split
  all_goals first | with_reducible exact h | simp +contextual (maxDischargeDepth := 50) [h, foldl_epoch]

@[simp] theorem reqUpdCloseAbandon_sound {s0 : State} : ∀ x1 s, Sound s0 s → Sound s0 (reqUpdCloseAbandon x1 s) := by
  intro x1 s h
  unfold reqUpdCloseAbandon
  try dsimp only
  repeat' split
  all_goals first | with_reducible exact h | simp +contextual (maxDischargeDepth := 50) [h, foldl_sound]

@[simp] theorem reqUpdCloseAbandon_epoch {s0 : State} : ∀ x1 s, EpochStays s0 s → EpochStays s0 (reqUpdCloseAbandon x1 s) := by
  intro x1 s h
  unfold reqUpdCloseAbandon
  try dsimp only
  repeat' split
  all_goals first | with_reducible exact h | simp +contextual (maxDischargeDepth := 50) [h, foldl_epoch]

@[simp] theorem doUpdStatus_sound {s0 : State} : ∀ x1 s, Sound s0 s → Sound s0 (doUpdStatus x1 s) := by
  intro x1 s h
  unfold doUpdStatus
  try dsimp only
  repeat' split
  all_goals first | with_reducible exact h | simp +contextual (maxDischargeDepth := 50) [h, foldl_sound]

@[simp] theorem doUpdStatus_epoch {s0 : State} : ∀ x1 s, EpochStays s0 s → EpochStays s0 (doUpdStatus x1 s) := by
  intro x1 s h
  unfold doUpdStatus
  try dsimp only
  repeat' split
  all_goals first | with_reducible exact h | simp +contextual (maxDischargeDepth := 50) [h, foldl_epoch]

@[simp] theorem reqUpdStatus_sound {s0 : State} : ∀ x1 s, Sound s0 s → Sound s0 (reqUpdStatus x1 s) := by
  intro x1 s h
  unfold reqUpdStatus
  try dsimp only
  repeat' split
  all_goals first | with_reducible exact h | simp +contextual (maxDischargeDepth := 50) [h, foldl_sound]

@[simp] theorem reqUpdStatus_epoch {s0 : State} : ∀ x1 s, EpochStays s0 s → EpochStays s0 (reqUpdStatus x1 s) := by
  intro x1 s h
  unfold reqUpdStatus
  try dsimp only
  repeat' split
  all_goals first | with_reducible exact h | simp +contextual (maxDischargeDepth := 50) [h, foldl_epoch]

@[simp] theorem pauseKeeper_sound {s0 : State} : ∀ x1 s, Sound s0 s → Sound s0 (pauseKeeper x1 s) := by
  intro x1 s h
  unfold pauseKeeper
  try dsimp only
  repeat' split
  all_goals first | with_reducible exact h | simp +contextual (maxDischargeDepth := 50) [h, foldl_sound]

@[simp] theorem pauseKeeper_epoch {s0 : State} : ∀ x1 s, EpochStays s0 s → EpochStays s0 (pauseKeeper x1 s) := by
  intro x1 s h
  unfold pauseKeeper
  try dsimp only
  repeat' split
  all_goals first | with_reducible exact h | simp +contextual (maxDischargeDepth := 50) [h, foldl_epoch]

@[simp] theorem writeBootRecord_sound {s0 : State} : ∀ s, Sound s0 s → Sound s0 (writeBootRecord s) := by
  intro s h
  unfold writeBootRecord
  try dsimp only
  repeat' split
  all_goals first | with_reducible exact h | simp +contextual (maxDischargeDepth := 50) [h, foldl_sound]

@[simp] theorem writeBootRecord_epoch {s0 : State} : ∀ s, EpochStays s0 s → EpochStays s0 (writeBootRecord s) := by
  intro s h
  unfold writeBootRecord
  try dsimp only
  repeat' split
  all_goals first | with_reducible exact h | simp +contextual (maxDischargeDepth := 50) [h, foldl_epoch]

@[simp] theorem activate_sound {s0 : State} : ∀ s, Sound s0 s → Sound s0 (activate s) := by
  intro s h
  unfold activate
  try dsimp only
  repeat' split
  all_goals first | with_reducible exact h | simp +contextual (maxDischargeDepth := 50) [h, foldl_sound]

@[simp] theorem activate_epoch {s0 : State} : ∀ s, EpochStays s0 s → EpochStays s0 (activate s) := by
  intro s h
  unfold activate
  try dsimp only
  repeat' split
  all_goals first | with_reducible exact h | simp +contextual (maxDischargeDepth := 50) [h, foldl_epoch]

@[simp] theorem beginPairUpdate_sound {s0 : State} : ∀ x1 s, Sound s0 s → Sound s0 (beginPairUpdate x1 s) := by
  intro x1 s h
  unfold beginPairUpdate
  try dsimp only
  repeat' split
  all_goals first | with_reducible exact h | simp +contextual (maxDischargeDepth := 50) [h, foldl_sound]

@[simp] theorem beginPairUpdate_epoch {s0 : State} : ∀ x1 s, EpochStays s0 s → EpochStays s0 (beginPairUpdate x1 s) := by
  intro x1 s h
  unfold beginPairUpdate
  try dsimp only
  repeat' split
  all_goals first | with_reducible exact h | simp +contextual (maxDischargeDepth := 50) [h, foldl_epoch]

@[simp] theorem beginActivation_sound {s0 : State} : ∀ x1 s, Sound s0 s → Sound s0 (beginActivation x1 s) := by
  intro x1 s h
  unfold beginActivation
  try dsimp only
  repeat' split
  all_goals first | with_reducible exact h | simp +contextual (maxDischargeDepth := 50) [h, foldl_sound]

@[simp] theorem beginActivation_epoch {s0 : State} : ∀ x1 s, EpochStays s0 s → EpochStays s0 (beginActivation x1 s) := by
  intro x1 s h
  unfold beginActivation
  try dsimp only
  repeat' split
  all_goals first | with_reducible exact h | simp +contextual (maxDischargeDepth := 50) [h, foldl_epoch]

@[simp] theorem doActivate_sound {s0 : State} : ∀ x1 x2 s, Sound s0 s → Sound s0 (doActivate x1 x2 s) := by
  intro x1 x2 s h
  unfold doActivate
  try dsimp only
  repeat' split
  all_goals first | with_reducible exact h | simp +contextual (maxDischargeDepth := 50) [h, foldl_sound]

@[simp] theorem doActivate_epoch {s0 : State} : ∀ x1 x2 s, EpochStays s0 s → EpochStays s0 (doActivate x1 x2 s) := by
  intro x1 x2 s h
  unfold doActivate
  try dsimp only
  repeat' split
  all_goals first | with_reducible exact h | simp +contextual (maxDischargeDepth := 50) [h, foldl_epoch]

@[simp] theorem reqUpdActivate_sound {s0 : State} : ∀ x1 x2 s, Sound s0 s → Sound s0 (reqUpdActivate x1 x2 s) := by
  intro x1 x2 s h
  unfold reqUpdActivate
  try dsimp only
  repeat' split
  all_goals first | with_reducible exact h | simp +contextual (maxDischargeDepth := 50) [h, foldl_sound]

@[simp] theorem reqUpdActivate_epoch {s0 : State} : ∀ x1 x2 s, EpochStays s0 s → EpochStays s0 (reqUpdActivate x1 x2 s) := by
  intro x1 x2 s h
  unfold reqUpdActivate
  try dsimp only
  repeat' split
  all_goals first | with_reducible exact h | simp +contextual (maxDischargeDepth := 50) [h, foldl_epoch]

@[simp] theorem failPairUpdate_sound {s0 : State} : ∀ x1 s, Sound s0 s → Sound s0 (failPairUpdate x1 s) := by
  intro x1 s h
  unfold failPairUpdate
  try dsimp only
  repeat' split
  all_goals first | with_reducible exact h | simp +contextual (maxDischargeDepth := 50) [h, foldl_sound]

@[simp] theorem failPairUpdate_epoch {s0 : State} : ∀ x1 s, EpochStays s0 s → EpochStays s0 (failPairUpdate x1 s) := by
  intro x1 s h
  unfold failPairUpdate
  try dsimp only
  repeat' split
  all_goals first | with_reducible exact h | simp +contextual (maxDischargeDepth := 50) [h, foldl_epoch]

@[simp] theorem stepPairUpdate_sound {s0 : State} : ∀ x1 x2 s, Sound s0 s → Sound s0 (stepPairUpdate x1 x2 s) := by
  intro x1 x2 s h
  unfold stepPairUpdate
  try dsimp only
  repeat' split
  all_goals first | with_reducible exact h | simp +contextual (maxDischargeDepth := 50) [h, foldl_sound]

@[simp] theorem stepPairUpdate_epoch {s0 : State} : ∀ x1 x2 s, EpochStays s0 s → EpochStays s0 (stepPairUpdate x1 x2 s) := by
  intro x1 x2 s h
  unfold stepPairUpdate
  try dsimp only
  repeat' split
  all_goals first | with_reducible exact h | simp +contextual (maxDischargeDepth := 50) [h, foldl_epoch]

@[simp] theorem advancePairUpdate_sound {s0 : State} : ∀ x1 s, Sound s0 s → Sound s0 (advancePairUpdate x1 s) := by
  intro x1 s h
  unfold advancePairUpdate
  try dsimp only
  repeat' split
  all_goals first | with_reducible exact h | simp +contextual (maxDischargeDepth := 50) [h, foldl_sound]

@[simp] theorem advancePairUpdate_epoch {s0 : State} : ∀ x1 s, EpochStays s0 s → EpochStays s0 (advancePairUpdate x1 s) := by
  intro x1 s h
  unfold advancePairUpdate
  try dsimp only
  repeat' split
  all_goals first | with_reducible exact h | simp +contextual (maxDischargeDepth := 50) [h, foldl_epoch]

@[simp] theorem releaseAfterUpdate_sound {s0 : State} : ∀ s, Sound s0 s → Sound s0 (releaseAfterUpdate s) := by
  intro s h
  unfold releaseAfterUpdate
  try dsimp only
  repeat' split
  all_goals first | with_reducible exact h | simp +contextual (maxDischargeDepth := 50) [h, foldl_sound]

@[simp] theorem releaseAfterUpdate_epoch {s0 : State} : ∀ s, EpochStays s0 s → EpochStays s0 (releaseAfterUpdate s) := by
  intro s h
  unfold releaseAfterUpdate
  try dsimp only
  repeat' split
  all_goals first | with_reducible exact h | simp +contextual (maxDischargeDepth := 50) [h, foldl_epoch]

@[simp] theorem noteScan_sound {s0 : State} : ∀ x1 x2 s, Sound s0 s → Sound s0 (noteScan x1 x2 s) := by
  intro x1 x2 s h
  unfold noteScan
  try dsimp only
  repeat' split
  all_goals first | with_reducible exact h | simp +contextual (maxDischargeDepth := 50) [h, foldl_sound]

@[simp] theorem noteScan_epoch {s0 : State} : ∀ x1 x2 s, EpochStays s0 s → EpochStays s0 (noteScan x1 x2 s) := by
  intro x1 x2 s h
  unfold noteScan
  try dsimp only
  repeat' split
  all_goals first | with_reducible exact h | simp +contextual (maxDischargeDepth := 50) [h, foldl_epoch]

@[simp] theorem shadowEnded_sound {s0 : State} : ∀ x1 s, Sound s0 s → Sound s0 (shadowEnded x1 s) := by
  intro x1 s h
  unfold shadowEnded
  try dsimp only
  repeat' split
  all_goals first | with_reducible exact h | simp +contextual (maxDischargeDepth := 50) [h, foldl_sound]

@[simp] theorem noteSample_sound {s0 : State} : ∀ x1 x2 s, Sound s0 s → Sound s0 (noteSample x1 x2 s) := by
  intro x1 x2 s h
  unfold noteSample
  try dsimp only
  repeat' split
  all_goals first | with_reducible exact h | simp +contextual (maxDischargeDepth := 50) [h, foldl_sound]

@[simp] theorem noteSample_epoch {s0 : State} : ∀ x1 x2 s, EpochStays s0 s → EpochStays s0 (noteSample x1 x2 s) := by
  intro x1 x2 s h
  unfold noteSample
  try dsimp only
  repeat' split
  all_goals first | with_reducible exact h | simp +contextual (maxDischargeDepth := 50) [h, foldl_epoch]

@[simp] theorem jtag_sound {s0 s : State} (al) (body : State → State) (t) (hb : ∀ s, Sound s0 s → Sound s0 (body s)) (h : Sound s0 s) : Sound s0 (jtag al body t s) := by
  unfold jtag; dsimp only
  repeat' split
  · simp (maxDischargeDepth := 50) [h]
  · exact hb _ (by simp (maxDischargeDepth := 50) [h])
  · simp (maxDischargeDepth := 50) [h]

@[simp] theorem jtag_epoch {s0 s : State} (al) (body : State → State) (t) (hb : ∀ s, EpochStays s0 s → EpochStays s0 (body s)) (h : EpochStays s0 s) : EpochStays s0 (jtag al body t s) := by
  unfold jtag; dsimp only
  repeat' split
  · simp (maxDischargeDepth := 50) [h]
  · exact hb _ (by simp (maxDischargeDepth := 50) [h])
  · simp (maxDischargeDepth := 50) [h]

@[simp] theorem shiftOut_sound {s0 : State} : ∀ x1 s, Sound s0 s → Sound s0 (shiftOut x1 s) := by
  intro x1 s h
  unfold shiftOut
  try dsimp only
  repeat' split
  all_goals first | with_reducible exact h | simp +contextual (maxDischargeDepth := 50) [h, foldl_sound]

@[simp] theorem shiftOut_epoch {s0 : State} : ∀ x1 s, EpochStays s0 s → EpochStays s0 (shiftOut x1 s) := by
  intro x1 s h
  unfold shiftOut
  try dsimp only
  repeat' split
  all_goals first | with_reducible exact h | simp +contextual (maxDischargeDepth := 50) [h, foldl_epoch]

@[simp] theorem shiftFree_sound {s0 : State} : ∀ s, Sound s0 s → Sound s0 (shiftFree s) := by
  intro s h
  unfold shiftFree
  try dsimp only
  repeat' split
  all_goals first | with_reducible exact h | simp +contextual (maxDischargeDepth := 50) [h, foldl_sound]

@[simp] theorem shiftFree_epoch {s0 : State} : ∀ s, EpochStays s0 s → EpochStays s0 (shiftFree s) := by
  intro s h
  unfold shiftFree
  try dsimp only
  repeat' split
  all_goals first | with_reducible exact h | simp +contextual (maxDischargeDepth := 50) [h, foldl_epoch]

@[simp] theorem taint_sound {s0 : State} : ∀ s, Sound s0 s → Sound s0 (taint s) := by
  intro s h
  unfold taint
  try dsimp only
  repeat' split
  all_goals first | with_reducible exact h | simp +contextual (maxDischargeDepth := 50) [h, foldl_sound]

@[simp] theorem taint_epoch {s0 : State} : ∀ s, EpochStays s0 s → EpochStays s0 (taint s) := by
  intro s h
  unfold taint
  try dsimp only
  repeat' split
  all_goals first | with_reducible exact h | simp +contextual (maxDischargeDepth := 50) [h, foldl_epoch]

@[simp] theorem haltTarget_sound {s0 : State} : ∀ x1 s, Sound s0 s → Sound s0 (haltTarget x1 s) := by
  intro x1 s h
  unfold haltTarget
  try dsimp only
  repeat' split
  all_goals first | with_reducible exact h | simp +contextual (maxDischargeDepth := 50) [h, foldl_sound]

@[simp] theorem haltTarget_epoch {s0 : State} : ∀ x1 s, EpochStays s0 s → EpochStays s0 (haltTarget x1 s) := by
  intro x1 s h
  unfold haltTarget
  try dsimp only
  repeat' split
  all_goals first | with_reducible exact h | simp +contextual (maxDischargeDepth := 50) [h, foldl_epoch]

@[simp] theorem installKey_sound {s0 : State} : ∀ x1 x2 s, Sound s0 s → Sound s0 (installKey x1 x2 s) := by
  intro x1 x2 s h
  unfold installKey
  try dsimp only
  repeat' split
  all_goals first | with_reducible exact h | simp +contextual (maxDischargeDepth := 50) [h, foldl_sound]

@[simp] theorem installKey_epoch {s0 : State} : ∀ x1 x2 s, EpochStays s0 s → EpochStays s0 (installKey x1 x2 s) := by
  intro x1 x2 s h
  unfold installKey
  try dsimp only
  repeat' split
  all_goals first | with_reducible exact h | simp +contextual (maxDischargeDepth := 50) [h, foldl_epoch]

@[simp] theorem shiftBytes_sound {s0 s : State} (bs) (h : Sound s0 s) : Sound s0 (shiftBytes bs s) := by
  unfold shiftBytes
  refine shiftOut_sound _ _ ?_
  suffices k : ∀ (bs : List (Option Byte)) (p : List Byte × State), Sound s0 p.2 → Sound s0 (bs.foldl (fun (p : List Byte × State) (b : Option Byte) =>
    match b with
    | some x => (x :: p.1, p.2)
    | none => ((freeWord p.2).setWidth 8 :: p.1, draw p.2)) p).2 from k bs ([], s) h
  intro bs; induction bs with
  | nil => intro p h; exact h
  | cons b bs ih => intro p h; apply ih; cases b <;> simp (maxDischargeDepth := 50) [h]

@[simp] theorem shiftBytes_epoch {s0 s : State} (bs) (h : EpochStays s0 s) : EpochStays s0 (shiftBytes bs s) := by
  unfold shiftBytes
  refine shiftOut_epoch _ _ ?_
  suffices k : ∀ (bs : List (Option Byte)) (p : List Byte × State), EpochStays s0 p.2 → EpochStays s0 (bs.foldl (fun (p : List Byte × State) (b : Option Byte) =>
    match b with
    | some x => (x :: p.1, p.2)
    | none => ((freeWord p.2).setWidth 8 :: p.1, draw p.2)) p).2 from k bs ([], s) h
  intro bs; induction bs with
  | nil => intro p h; exact h
  | cons b bs ih => intro p h; apply ih; cases b <;> simp (maxDischargeDepth := 50) [h]

@[simp] theorem pokeBasin_sound {s0 s : State} (a b) (h : Sound s0 s) : Sound s0 (pokeBasin a b s) := by
  unfold pokeBasin; split
  · exact h.trans ⟨Nat.le_refl _, fun c => ⟨pokeByte_wf _ _ _ c.1, c.2⟩, rfl⟩
  · repeat' split
    all_goals simp (maxDischargeDepth := 50) [h]

@[simp] theorem pokeBasin_epoch {s0 : State} : ∀ x1 x2 s, EpochStays s0 s → EpochStays s0 (pokeBasin x1 x2 s) := by
  intro x1 x2 s h
  unfold pokeBasin
  try dsimp only
  repeat' split
  all_goals first | with_reducible exact h | simp +contextual (maxDischargeDepth := 50) [h, foldl_epoch]

@[simp] theorem pokeBytes_sound {s0 : State} : ∀ x1 x2 s, Sound s0 s → Sound s0 (pokeBytes x1 x2 s) := by
  intro x1 x2 s h
  unfold pokeBytes
  try dsimp only
  repeat' split
  all_goals first | with_reducible exact h | simp +contextual (maxDischargeDepth := 50) [h, foldl_sound]

@[simp] theorem pokeBytes_epoch {s0 : State} : ∀ x1 x2 s, EpochStays s0 s → EpochStays s0 (pokeBytes x1 x2 s) := by
  intro x1 x2 s h
  unfold pokeBytes
  try dsimp only
  repeat' split
  all_goals first | with_reducible exact h | simp +contextual (maxDischargeDepth := 50) [h, foldl_epoch]

@[simp] theorem readSpace_sound {s0 : State} : ∀ x1 x2 x3 s, Sound s0 s → Sound s0 (readSpace x1 x2 x3 s) := by
  intro x1 x2 x3 s h
  unfold readSpace
  try dsimp only
  repeat' split
  all_goals first | with_reducible exact h | simp +contextual (maxDischargeDepth := 50) [h, foldl_sound]

@[simp] theorem readSpace_epoch {s0 : State} : ∀ x1 x2 x3 s, EpochStays s0 s → EpochStays s0 (readSpace x1 x2 x3 s) := by
  intro x1 x2 x3 s h
  unfold readSpace
  try dsimp only
  repeat' split
  all_goals first | with_reducible exact h | simp +contextual (maxDischargeDepth := 50) [h, foldl_epoch]

@[simp] theorem writeSpace_sound {s0 : State} : ∀ x1 x2 x3 s, Sound s0 s → Sound s0 (writeSpace x1 x2 x3 s) := by
  intro x1 x2 x3 s h
  unfold writeSpace
  try dsimp only
  repeat' split
  all_goals first | with_reducible exact h | simp +contextual (maxDischargeDepth := 50) [h, foldl_sound]

@[simp] theorem writeSpace_epoch {s0 : State} : ∀ x1 x2 x3 s, EpochStays s0 s → EpochStays s0 (writeSpace x1 x2 x3 s) := by
  intro x1 x2 x3 s h
  unfold writeSpace
  try dsimp only
  repeat' split
  all_goals first | with_reducible exact h | simp +contextual (maxDischargeDepth := 50) [h, foldl_epoch]

@[simp] theorem measureHoldup_sound {s0 : State} : ∀ x1 s, Sound s0 s → Sound s0 (measureHoldup x1 s) := by
  intro x1 s h
  unfold measureHoldup
  try dsimp only
  repeat' split
  all_goals first | with_reducible exact h | simp +contextual (maxDischargeDepth := 50) [h, foldl_sound]

@[simp] theorem measureHoldup_epoch {s0 : State} : ∀ x1 s, EpochStays s0 s → EpochStays s0 (measureHoldup x1 s) := by
  intro x1 s h
  unfold measureHoldup
  try dsimp only
  repeat' split
  all_goals first | with_reducible exact h | simp +contextual (maxDischargeDepth := 50) [h, foldl_epoch]

@[simp] theorem takePower_sound {s0 : State} : ∀ x1 x2 x3 s, Sound s0 s → Sound s0 (takePower x1 x2 x3 s) := by
  intro x1 x2 x3 s h
  unfold takePower
  try dsimp only
  repeat' split
  all_goals first | with_reducible exact h | simp +contextual (maxDischargeDepth := 50) [h, foldl_sound]

@[simp] theorem takePower_epoch {s0 : State} : ∀ x1 x2 x3 s, EpochStays s0 s → EpochStays s0 (takePower x1 x2 x3 s) := by
  intro x1 x2 x3 s h
  unfold takePower
  try dsimp only
  repeat' split
  all_goals first | with_reducible exact h | simp +contextual (maxDischargeDepth := 50) [h, foldl_epoch]

@[simp] theorem resetMonitor_sound {s0 : State} : ∀ x1 s, Sound s0 s → Sound s0 (resetMonitor x1 s) := by
  intro x1 s h
  unfold resetMonitor
  try dsimp only
  repeat' split
  all_goals first | with_reducible exact h | simp +contextual (maxDischargeDepth := 50) [h, foldl_sound]

@[simp] theorem resetMonitor_epoch {s0 : State} : ∀ x1 s, EpochStays s0 s → EpochStays s0 (resetMonitor x1 s) := by
  intro x1 s h
  unfold resetMonitor
  try dsimp only
  repeat' split
  all_goals first | with_reducible exact h | simp +contextual (maxDischargeDepth := 50) [h, foldl_epoch]

@[simp] theorem startMonitor_sound {s0 : State} : ∀ s, Sound s0 s → Sound s0 (startMonitor s) := by
  intro s h
  unfold startMonitor
  try dsimp only
  repeat' split
  all_goals first | with_reducible exact h | simp +contextual (maxDischargeDepth := 50) [h, foldl_sound]

@[simp] theorem startMonitor_epoch {s0 : State} : ∀ s, EpochStays s0 s → EpochStays s0 (startMonitor s) := by
  intro s h
  unfold startMonitor
  try dsimp only
  repeat' split
  all_goals first | with_reducible exact h | simp +contextual (maxDischargeDepth := 50) [h, foldl_epoch]

@[simp] theorem reportLost_sound {s0 : State} : ∀ s, Sound s0 s → Sound s0 (reportLost s) := by
  intro s h
  unfold reportLost
  try dsimp only
  repeat' split
  all_goals first | with_reducible exact h | simp +contextual (maxDischargeDepth := 50) [h, foldl_sound]

@[simp] theorem reportLost_epoch {s0 : State} : ∀ s, EpochStays s0 s → EpochStays s0 (reportLost s) := by
  intro s h
  unfold reportLost
  try dsimp only
  repeat' split
  all_goals first | with_reducible exact h | simp +contextual (maxDischargeDepth := 50) [h, foldl_epoch]

@[simp] theorem restoreJournal_sound {s0 : State} : ∀ s, Sound s0 s → Sound s0 (restoreJournal s) := by
  intro s h
  unfold restoreJournal
  try dsimp only
  repeat' split
  all_goals first | with_reducible exact h | simp +contextual (maxDischargeDepth := 50) [h, foldl_sound]

@[simp] theorem restoreJournal_epoch {s0 : State} : ∀ s, EpochStays s0 s → EpochStays s0 (restoreJournal s) := by
  intro s h
  unfold restoreJournal
  try dsimp only
  repeat' split
  all_goals first | with_reducible exact h | simp +contextual (maxDischargeDepth := 50) [h, foldl_epoch]

@[simp] theorem holdForDebug_sound {s0 s : State} (h : Sound s0 s) : Sound s0 (holdForDebug s) := by
  unfold holdForDebug; split
  · exact h
  · rename_i e; exact onSec_sound _ (startKeeper_sound _ (bootFirmware_sound h e))

@[simp] theorem holdForDebug_epoch {s0 s : State} (h : EpochStays s0 s) : EpochStays s0 (holdForDebug s) := by
  unfold holdForDebug; split
  · exact h
  · rename_i e; exact onSec_epoch _ (startKeeper_epoch _ (bootFirmware_epoch h e))

@[simp] theorem reqUnknown_sound {s0 : State} : ∀ x1 x2 s, Sound s0 s → Sound s0 (reqUnknown x1 x2 s) := by
  intro x1 x2 s h
  unfold reqUnknown
  try dsimp only
  repeat' split
  all_goals first | with_reducible exact h | simp +contextual (maxDischargeDepth := 50) [h, foldl_sound]

@[simp] theorem reqUnknown_epoch {s0 : State} : ∀ x1 x2 s, EpochStays s0 s → EpochStays s0 (reqUnknown x1 x2 s) := by
  intro x1 x2 s h
  unfold reqUnknown
  try dsimp only
  repeat' split
  all_goals first | with_reducible exact h | simp +contextual (maxDischargeDepth := 50) [h, foldl_epoch]

@[simp] theorem reqMalformed_sound {s0 : State} : ∀ x1 x2 x3 x4 s, Sound s0 s → Sound s0 (reqMalformed x1 x2 x3 x4 s) := by
  intro x1 x2 x3 x4 s h
  unfold reqMalformed
  try dsimp only
  repeat' split
  all_goals first | with_reducible exact h | simp +contextual (maxDischargeDepth := 50) [h, foldl_sound]

@[simp] theorem reqMalformed_epoch {s0 : State} : ∀ x1 x2 x3 x4 s, EpochStays s0 s → EpochStays s0 (reqMalformed x1 x2 x3 x4 s) := by
  intro x1 x2 x3 x4 s h
  unfold reqMalformed
  try dsimp only
  repeat' split
  all_goals first | with_reducible exact h | simp +contextual (maxDischargeDepth := 50) [h, foldl_epoch]

@[simp] theorem reqBroken_sound {s0 : State} : ∀ x1 x2 x3 s, Sound s0 s → Sound s0 (reqBroken x1 x2 x3 s) := by
  intro x1 x2 x3 s h
  unfold reqBroken
  try dsimp only
  repeat' split
  all_goals first | with_reducible exact h | simp +contextual (maxDischargeDepth := 50) [h, foldl_sound]

@[simp] theorem reqBroken_epoch {s0 : State} : ∀ x1 x2 x3 s, EpochStays s0 s → EpochStays s0 (reqBroken x1 x2 x3 s) := by
  intro x1 x2 x3 s h
  unfold reqBroken
  try dsimp only
  repeat' split
  all_goals first | with_reducible exact h | simp +contextual (maxDischargeDepth := 50) [h, foldl_epoch]

@[simp] theorem runRequest_sound {s0 : State} : ∀ x1 x2 s, Sound s0 s → Sound s0 (runRequest x1 x2 s) := by
  intro x1 x2 s h
  unfold runRequest
  try dsimp only
  repeat' split
  all_goals first | with_reducible exact h | simp +contextual (maxDischargeDepth := 50) [h, foldl_sound]

@[simp] theorem runRequest_epoch {s0 : State} : ∀ x1 x2 s, EpochStays s0 s → EpochStays s0 (runRequest x1 x2 s) := by
  intro x1 x2 s h
  unfold runRequest
  try dsimp only
  repeat' split
  all_goals first | with_reducible exact h | simp +contextual (maxDischargeDepth := 50) [h, foldl_epoch]

@[simp] theorem takeMailbox_sound {s0 : State} : ∀ x1 s, Sound s0 s → Sound s0 (takeMailbox x1 s) := by
  intro x1 s h
  unfold takeMailbox
  try dsimp only
  repeat' split
  all_goals first | with_reducible exact h | simp +contextual (maxDischargeDepth := 50) [h, foldl_sound]

@[simp] theorem takeMailbox_epoch {s0 : State} : ∀ x1 s, EpochStays s0 s → EpochStays s0 (takeMailbox x1 s) := by
  intro x1 s h
  unfold takeMailbox
  try dsimp only
  repeat' split
  all_goals first | with_reducible exact h | simp +contextual (maxDischargeDepth := 50) [h, foldl_epoch]

@[simp] theorem serveDeferred_sound {s0 s : State} (h : Sound s0 s) : Sound s0 (serveDeferred s) := by
  exact foldl_sound _ (fun s p k => runRequest_sound _ _ _ k) _ _ ((h).of_eq rfl rfl rfl)

@[simp] theorem serveDeferred_epoch {s0 s : State} (h : EpochStays s0 s) : EpochStays s0 (serveDeferred s) := by
  exact foldl_epoch _ (fun s p k => runRequest_epoch _ _ _ k) _ _ (h)

@[simp] theorem servePending_sound {s0 : State} : ∀ s, Sound s0 s → Sound s0 (servePending s) := by
  intro s h
  unfold servePending
  try dsimp only
  repeat' split
  all_goals first | with_reducible exact h | simp +contextual (maxDischargeDepth := 50) [h, foldl_sound]

@[simp] theorem servePending_epoch {s0 : State} : ∀ s, EpochStays s0 s → EpochStays s0 (servePending s) := by
  intro s h
  unfold servePending
  try dsimp only
  repeat' split
  all_goals first | with_reducible exact h | simp +contextual (maxDischargeDepth := 50) [h, foldl_epoch]

@[simp] theorem runRestart_sound {s0 : State} : ∀ x1 s, Sound s0 s → Sound s0 (runRestart x1 s) := by
  intro x1 s h
  unfold runRestart
  try dsimp only
  repeat' split
  all_goals first | with_reducible exact h | simp +contextual (maxDischargeDepth := 50) [h, foldl_sound]

@[simp] theorem gateLanes_sound {s0 : State} : ∀ x1 s, Sound s0 s → Sound s0 (gateLanes x1 s) := by
  intro x1 s h
  unfold gateLanes
  try dsimp only
  repeat' split
  all_goals first | with_reducible exact h | simp +contextual (maxDischargeDepth := 50) [h, foldl_sound]

@[simp] theorem gateLanes_epoch {s0 : State} : ∀ x1 s, EpochStays s0 s → EpochStays s0 (gateLanes x1 s) := by
  intro x1 s h
  unfold gateLanes
  try dsimp only
  repeat' split
  all_goals first | with_reducible exact h | simp +contextual (maxDischargeDepth := 50) [h, foldl_epoch]

@[simp] theorem joinLanes_sound {s0 : State} : ∀ s, Sound s0 s → Sound s0 (joinLanes s) := by
  intro s h
  unfold joinLanes
  try dsimp only
  repeat' split
  all_goals first | with_reducible exact h | simp +contextual (maxDischargeDepth := 50) [h, foldl_sound]

@[simp] theorem joinLanes_epoch {s0 : State} : ∀ s, EpochStays s0 s → EpochStays s0 (joinLanes s) := by
  intro s h
  unfold joinLanes
  try dsimp only
  repeat' split
  all_goals first | with_reducible exact h | simp +contextual (maxDischargeDepth := 50) [h, foldl_epoch]

@[simp] theorem replaceLane_sound {s0 : State} : ∀ x1 x2 s, Sound s0 s → Sound s0 (replaceLane x1 x2 s) := by
  intro x1 x2 s h
  unfold replaceLane
  try dsimp only
  repeat' split
  all_goals first | with_reducible exact h | simp +contextual (maxDischargeDepth := 50) [h, foldl_sound]

@[simp] theorem replaceLane_epoch {s0 : State} : ∀ x1 x2 s, EpochStays s0 s → EpochStays s0 (replaceLane x1 x2 s) := by
  intro x1 x2 s h
  unfold replaceLane
  try dsimp only
  repeat' split
  all_goals first | with_reducible exact h | simp +contextual (maxDischargeDepth := 50) [h, foldl_epoch]

@[simp] theorem beginResync_sound {s0 : State} : ∀ x1 s, Sound s0 s → Sound s0 (beginResync x1 s) := by
  intro x1 s h
  unfold beginResync
  try dsimp only
  repeat' split
  all_goals first | with_reducible exact h | simp +contextual (maxDischargeDepth := 50) [h, foldl_sound]

@[simp] theorem beginResync_epoch {s0 : State} : ∀ x1 s, EpochStays s0 s → EpochStays s0 (beginResync x1 s) := by
  intro x1 s h
  unfold beginResync
  try dsimp only
  repeat' split
  all_goals first | with_reducible exact h | simp +contextual (maxDischargeDepth := 50) [h, foldl_epoch]

@[simp] theorem replaceDue_sound {s0 : State} : ∀ x1 s, Sound s0 s → Sound s0 (replaceDue x1 s) := by
  intro x1 s h
  unfold replaceDue
  try dsimp only
  repeat' split
  all_goals first | with_reducible exact h | simp +contextual (maxDischargeDepth := 50) [h, foldl_sound]

@[simp] theorem replaceDue_epoch {s0 : State} : ∀ x1 s, EpochStays s0 s → EpochStays s0 (replaceDue x1 s) := by
  intro x1 s h
  unfold replaceDue
  try dsimp only
  repeat' split
  all_goals first | with_reducible exact h | simp +contextual (maxDischargeDepth := 50) [h, foldl_epoch]

@[simp] theorem returnLane_sound {s0 : State} : ∀ x1 s, Sound s0 s → Sound s0 (returnLane x1 s) := by
  intro x1 s h
  unfold returnLane
  try dsimp only
  repeat' split
  all_goals first | with_reducible exact h | simp +contextual (maxDischargeDepth := 50) [h, foldl_sound]

@[simp] theorem returnLane_epoch {s0 : State} : ∀ x1 s, EpochStays s0 s → EpochStays s0 (returnLane x1 s) := by
  intro x1 s h
  unfold returnLane
  try dsimp only
  repeat' split
  all_goals first | with_reducible exact h | simp +contextual (maxDischargeDepth := 50) [h, foldl_epoch]

@[simp] theorem returnLanes_sound {s0 : State} : ∀ s, Sound s0 s → Sound s0 (returnLanes s) := by
  intro s h
  unfold returnLanes
  try dsimp only
  repeat' split
  all_goals first | with_reducible exact h | simp +contextual (maxDischargeDepth := 50) [h, foldl_sound]

@[simp] theorem returnLanes_epoch {s0 : State} : ∀ s, EpochStays s0 s → EpochStays s0 (returnLanes s) := by
  intro s h
  unfold returnLanes
  try dsimp only
  repeat' split
  all_goals first | with_reducible exact h | simp +contextual (maxDischargeDepth := 50) [h, foldl_epoch]

@[simp] theorem rotateInjection_sound {s0 : State} : ∀ s, Sound s0 s → Sound s0 (rotateInjection s) := by
  intro s h
  unfold rotateInjection
  try dsimp only
  repeat' split
  all_goals first | with_reducible exact h | simp +contextual (maxDischargeDepth := 50) [h, foldl_sound]

@[simp] theorem rotateInjection_epoch {s0 : State} : ∀ s, EpochStays s0 s → EpochStays s0 (rotateInjection s) := by
  intro s h
  unfold rotateInjection
  try dsimp only
  repeat' split
  all_goals first | with_reducible exact h | simp +contextual (maxDischargeDepth := 50) [h, foldl_epoch]

@[simp] theorem uncountRestore_sound {s0 : State} : ∀ x1 s, Sound s0 s → Sound s0 (uncountRestore x1 s) := by
  intro x1 s h
  unfold uncountRestore
  try dsimp only
  repeat' split
  all_goals first | with_reducible exact h | simp +contextual (maxDischargeDepth := 50) [h, foldl_sound]

@[simp] theorem uncountRestore_epoch {s0 : State} : ∀ x1 s, EpochStays s0 s → EpochStays s0 (uncountRestore x1 s) := by
  intro x1 s h
  unfold uncountRestore
  try dsimp only
  repeat' split
  all_goals first | with_reducible exact h | simp +contextual (maxDischargeDepth := 50) [h, foldl_epoch]

@[simp] theorem uncomparedRun_sound {s0 : State} : ∀ s, Sound s0 s → Sound s0 (uncomparedRun s) := by
  intro s h
  unfold uncomparedRun
  try dsimp only
  repeat' split
  all_goals first | with_reducible exact h | simp +contextual (maxDischargeDepth := 50) [h, foldl_sound]

@[simp] theorem uncomparedRun_epoch {s0 : State} : ∀ s, EpochStays s0 s → EpochStays s0 (uncomparedRun s) := by
  intro s h
  unfold uncomparedRun
  try dsimp only
  repeat' split
  all_goals first | with_reducible exact h | simp +contextual (maxDischargeDepth := 50) [h, foldl_epoch]

@[simp] theorem weaveFault_sound {s0 : State} : ∀ x1 x2 x3 s, Sound s0 s → Sound s0 (weaveFault x1 x2 x3 s) := by
  intro x1 x2 x3 s h
  unfold weaveFault
  try dsimp only
  repeat' split
  all_goals first | with_reducible exact h | simp +contextual (maxDischargeDepth := 50) [h, foldl_sound]

@[simp] theorem weaveFault_epoch {s0 : State} : ∀ x1 x2 x3 s, EpochStays s0 s → EpochStays s0 (weaveFault x1 x2 x3 s) := by
  intro x1 x2 x3 s h
  unfold weaveFault
  try dsimp only
  repeat' split
  all_goals first | with_reducible exact h | simp +contextual (maxDischargeDepth := 50) [h, foldl_epoch]

@[simp] theorem onTag_sound {s0 : State} : ∀ x1 x2 s, Sound s0 s → Sound s0 (onTag x1 x2 s) := by
  intro x1 x2 s h
  unfold onTag
  try dsimp only
  repeat' split
  all_goals first | with_reducible exact h | simp +contextual (maxDischargeDepth := 50) [h, foldl_sound]

@[simp] theorem onTag_epoch {s0 : State} : ∀ x1 x2 s, EpochStays s0 s → EpochStays s0 (onTag x1 x2 s) := by
  intro x1 x2 s h
  unfold onTag
  try dsimp only
  repeat' split
  all_goals first | with_reducible exact h | simp +contextual (maxDischargeDepth := 50) [h, foldl_epoch]

@[simp] theorem clearView_sound {s0 s : State} (x v) (h : Sound s0 s) : Sound s0 (clearView x v s) := by
  unfold clearView
  refine ite_sound _ h (foldl_sound _ (fun s p k => ?_) _ _ h)
  split <;> simp (maxDischargeDepth := 50) [k]

@[simp] theorem clearView_epoch {s0 s : State} (x v) (h : EpochStays s0 s) : EpochStays s0 (clearView x v s) := by
  unfold clearView
  refine ite_epoch _ h (foldl_epoch _ (fun s p k => ?_) _ _ h)
  split <;> simp (maxDischargeDepth := 50) [k]

@[simp] theorem markCommitted_sound {s0 : State} : ∀ s x1, Sound s0 s → Sound s0 (markCommitted s x1) := by
  intro s x1 h
  unfold markCommitted
  try dsimp only
  repeat' split
  all_goals first | with_reducible exact h | simp +contextual (maxDischargeDepth := 50) [h, foldl_sound]

@[simp] theorem markCommitted_epoch {s0 : State} : ∀ s x1, EpochStays s0 s → EpochStays s0 (markCommitted s x1) := by
  intro s x1 h
  unfold markCommitted
  try dsimp only
  repeat' split
  all_goals first | with_reducible exact h | simp +contextual (maxDischargeDepth := 50) [h, foldl_epoch]

@[simp] theorem haltLane_sound {s0 : State} : ∀ x1 x2 x3 x4 s, Sound s0 s → Sound s0 (haltLane x1 x2 x3 x4 s) := by
  intro x1 x2 x3 x4 s h
  unfold haltLane
  try dsimp only
  repeat' split
  all_goals first | with_reducible exact h | simp +contextual (maxDischargeDepth := 50) [h, foldl_sound]

@[simp] theorem haltLane_epoch {s0 : State} : ∀ x1 x2 x3 x4 s, EpochStays s0 s → EpochStays s0 (haltLane x1 x2 x3 x4 s) := by
  intro x1 x2 x3 x4 s h
  unfold haltLane
  try dsimp only
  repeat' split
  all_goals first | with_reducible exact h | simp +contextual (maxDischargeDepth := 50) [h, foldl_epoch]

@[simp] theorem haltStalled_sound {s0 : State} : ∀ x1 s, Sound s0 s → Sound s0 (haltStalled x1 s) := by
  intro x1 s h
  unfold haltStalled
  try dsimp only
  repeat' split
  all_goals first | with_reducible exact h | simp +contextual (maxDischargeDepth := 50) [h, foldl_sound]

@[simp] theorem haltStalled_epoch {s0 : State} : ∀ x1 s, EpochStays s0 s → EpochStays s0 (haltStalled x1 s) := by
  intro x1 s h
  unfold haltStalled
  try dsimp only
  repeat' split
  all_goals first | with_reducible exact h | simp +contextual (maxDischargeDepth := 50) [h, foldl_epoch]

@[simp] theorem resumeNext_sound {s0 : State} : ∀ s, Sound s0 s → Sound s0 (resumeNext s) := by
  intro s h
  unfold resumeNext
  try dsimp only
  repeat' split
  all_goals first | with_reducible exact h | simp +contextual (maxDischargeDepth := 50) [h, foldl_sound]

@[simp] theorem resumeNext_epoch {s0 : State} : ∀ s, EpochStays s0 s → EpochStays s0 (resumeNext s) := by
  intro s h
  unfold resumeNext
  try dsimp only
  repeat' split
  all_goals first | with_reducible exact h | simp +contextual (maxDischargeDepth := 50) [h, foldl_epoch]

@[simp] theorem dropOlderShadow_sound {s0 : State} : ∀ x1 x2 s, Sound s0 s → Sound s0 (dropOlderShadow x1 x2 s) := by
  intro x1 x2 s h
  unfold dropOlderShadow
  try dsimp only
  repeat' split
  all_goals first | with_reducible exact h | simp +contextual (maxDischargeDepth := 50) [h, foldl_sound]

@[simp] theorem dropOlderShadow_epoch {s0 : State} : ∀ x1 x2 s, EpochStays s0 s → EpochStays s0 (dropOlderShadow x1 x2 s) := by
  intro x1 x2 s h
  unfold dropOlderShadow
  try dsimp only
  repeat' split
  all_goals first | with_reducible exact h | simp +contextual (maxDischargeDepth := 50) [h, foldl_epoch]

@[simp] theorem noteRunning_sound {s0 : State} : ∀ x1 s, Sound s0 s → Sound s0 (noteRunning x1 s) := by
  intro x1 s h
  unfold noteRunning
  try dsimp only
  repeat' split
  all_goals first | with_reducible exact h | simp +contextual (maxDischargeDepth := 50) [h, foldl_sound]

@[simp] theorem noteRunning_epoch {s0 : State} : ∀ x1 s, EpochStays s0 s → EpochStays s0 (noteRunning x1 s) := by
  intro x1 s h
  unfold noteRunning
  try dsimp only
  repeat' split
  all_goals first | with_reducible exact h | simp +contextual (maxDischargeDepth := 50) [h, foldl_epoch]

@[simp] theorem retireExec_sound {s0 : State} : ∀ x1 s, Sound s0 s → Sound s0 (retireExec x1 s) := by
  intro x1 s h
  unfold retireExec
  try dsimp only
  repeat' split
  all_goals first | with_reducible exact h | simp +contextual (maxDischargeDepth := 50) [h, foldl_sound]

@[simp] theorem retireExec_epoch {s0 : State} : ∀ x1 s, EpochStays s0 s → EpochStays s0 (retireExec x1 s) := by
  intro x1 s h
  unfold retireExec
  try dsimp only
  repeat' split
  all_goals first | with_reducible exact h | simp +contextual (maxDischargeDepth := 50) [h, foldl_epoch]

@[simp] theorem setWouldBe_sound {s0 : State} : ∀ x1 x2 s, Sound s0 s → Sound s0 (setWouldBe x1 x2 s) := by
  intro x1 x2 s h
  unfold setWouldBe
  try dsimp only
  repeat' split
  all_goals first | with_reducible exact h | simp +contextual (maxDischargeDepth := 50) [h, foldl_sound]

@[simp] theorem setWouldBe_epoch {s0 : State} : ∀ x1 x2 s, EpochStays s0 s → EpochStays s0 (setWouldBe x1 x2 s) := by
  intro x1 x2 s h
  unfold setWouldBe
  try dsimp only
  repeat' split
  all_goals first | with_reducible exact h | simp +contextual (maxDischargeDepth := 50) [h, foldl_epoch]

@[simp] theorem commitView_sound {s0 : State} : ∀ x1 x2 x3 s, Sound s0 s → Sound s0 (commitView x1 x2 x3 s) := by
  intro x1 x2 x3 s h
  unfold commitView
  try dsimp only
  repeat' split
  all_goals first | with_reducible exact h | simp +contextual (maxDischargeDepth := 50) [h, foldl_sound]

@[simp] theorem commitView_epoch {s0 : State} : ∀ x1 x2 x3 s, EpochStays s0 s → EpochStays s0 (commitView x1 x2 x3 s) := by
  intro x1 x2 x3 s h
  unfold commitView
  try dsimp only
  repeat' split
  all_goals first | with_reducible exact h | simp +contextual (maxDischargeDepth := 50) [h, foldl_epoch]

@[simp] theorem commitCopy_sound {s0 : State} : ∀ x1 x2 x3 s, Sound s0 s → Sound s0 (commitCopy x1 x2 x3 s) := by
  intro x1 x2 x3 s h
  unfold commitCopy
  try dsimp only
  repeat' split
  all_goals first | with_reducible exact h | simp +contextual (maxDischargeDepth := 50) [h, foldl_sound]

@[simp] theorem commitCopy_epoch {s0 : State} : ∀ x1 x2 x3 s, EpochStays s0 s → EpochStays s0 (commitCopy x1 x2 x3 s) := by
  intro x1 x2 x3 s h
  unfold commitCopy
  try dsimp only
  repeat' split
  all_goals first | with_reducible exact h | simp +contextual (maxDischargeDepth := 50) [h, foldl_epoch]

@[simp] theorem commitComputed_sound {s0 : State} : ∀ x1 x2 x3 x4 s, Sound s0 s → Sound s0 (commitComputed x1 x2 x3 x4 s) := by
  intro x1 x2 x3 x4 s h
  unfold commitComputed
  try dsimp only
  repeat' split
  all_goals first | with_reducible exact h | simp +contextual (maxDischargeDepth := 50) [h, foldl_sound]

@[simp] theorem commitComputed_epoch {s0 : State} : ∀ x1 x2 x3 x4 s, EpochStays s0 s → EpochStays s0 (commitComputed x1 x2 x3 x4 s) := by
  intro x1 x2 x3 x4 s h
  unfold commitComputed
  try dsimp only
  repeat' split
  all_goals first | with_reducible exact h | simp +contextual (maxDischargeDepth := 50) [h, foldl_epoch]

@[simp] theorem commitInst_sound {s0 : State} : ∀ x1 x2 s, Sound s0 s → Sound s0 (commitInst x1 x2 s) := by
  intro x1 x2 s h
  unfold commitInst
  try dsimp only
  repeat' split
  all_goals first | with_reducible exact h | simp +contextual (maxDischargeDepth := 50) [h, foldl_sound]

@[simp] theorem commitInst_epoch {s0 : State} : ∀ x1 x2 s, EpochStays s0 s → EpochStays s0 (commitInst x1 x2 s) := by
  intro x1 x2 s h
  unfold commitInst
  try dsimp only
  repeat' split
  all_goals first | with_reducible exact h | simp +contextual (maxDischargeDepth := 50) [h, foldl_epoch]

@[simp] theorem commitExec_sound {s0 : State} : ∀ x1 x2 s, Sound s0 s → Sound s0 (commitExec x1 x2 s) := by
  intro x1 x2 s h
  unfold commitExec
  try dsimp only
  repeat' split
  all_goals first | with_reducible exact h | simp +contextual (maxDischargeDepth := 50) [h, foldl_sound]

@[simp] theorem commitExec_epoch {s0 : State} : ∀ x1 x2 s, EpochStays s0 s → EpochStays s0 (commitExec x1 x2 s) := by
  intro x1 x2 s h
  unfold commitExec
  try dsimp only
  repeat' split
  all_goals first | with_reducible exact h | simp +contextual (maxDischargeDepth := 50) [h, foldl_epoch]

@[simp] theorem requestFullForm_sound {s0 : State} : ∀ x1 s, Sound s0 s → Sound s0 (requestFullForm x1 s) := by
  intro x1 s h
  unfold requestFullForm
  try dsimp only
  repeat' split
  all_goals first | with_reducible exact h | simp +contextual (maxDischargeDepth := 50) [h, foldl_sound]

@[simp] theorem requestFullForm_epoch {s0 : State} : ∀ x1 s, EpochStays s0 s → EpochStays s0 (requestFullForm x1 s) := by
  intro x1 s h
  unfold requestFullForm
  try dsimp only
  repeat' split
  all_goals first | with_reducible exact h | simp +contextual (maxDischargeDepth := 50) [h, foldl_epoch]

@[simp] theorem shadowStep_sound {s0 : State} : ∀ x1 s, Sound s0 s → Sound s0 (shadowStep x1 s) := by
  intro x1 s h
  unfold shadowStep
  try dsimp only
  repeat' split
  all_goals first | with_reducible exact h | simp +contextual (maxDischargeDepth := 50) [h, foldl_sound]

@[simp] theorem takeSlot_sound {s0 : State} : ∀ x1 x2 s, Sound s0 s → Sound s0 (takeSlot x1 x2 s) := by
  intro x1 x2 s h
  unfold takeSlot
  try dsimp only
  repeat' split
  all_goals first | with_reducible exact h | simp +contextual (maxDischargeDepth := 50) [h, foldl_sound]

@[simp] theorem takeSlot_epoch {s0 : State} : ∀ x1 x2 s, EpochStays s0 s → EpochStays s0 (takeSlot x1 x2 s) := by
  intro x1 x2 s h
  unfold takeSlot
  try dsimp only
  repeat' split
  all_goals first | with_reducible exact h | simp +contextual (maxDischargeDepth := 50) [h, foldl_epoch]

@[simp] theorem putForce_sound {s0 : State} : ∀ x1 s, Sound s0 s → Sound s0 (putForce x1 s) := by
  intro x1 s h
  unfold putForce
  try dsimp only
  repeat' split
  all_goals first | with_reducible exact h | simp +contextual (maxDischargeDepth := 50) [h, foldl_sound]

@[simp] theorem putForce_epoch {s0 : State} : ∀ x1 s, EpochStays s0 s → EpochStays s0 (putForce x1 s) := by
  intro x1 s h
  unfold putForce
  try dsimp only
  repeat' split
  all_goals first | with_reducible exact h | simp +contextual (maxDischargeDepth := 50) [h, foldl_epoch]

@[simp] theorem dropForce_sound {s0 : State} : ∀ x1 s, Sound s0 s → Sound s0 (dropForce x1 s) := by
  intro x1 s h
  unfold dropForce
  try dsimp only
  repeat' split
  all_goals first | with_reducible exact h | simp +contextual (maxDischargeDepth := 50) [h, foldl_sound]

@[simp] theorem dropForce_epoch {s0 : State} : ∀ x1 s, EpochStays s0 s → EpochStays s0 (dropForce x1 s) := by
  intro x1 s h
  unfold dropForce
  try dsimp only
  repeat' split
  all_goals first | with_reducible exact h | simp +contextual (maxDischargeDepth := 50) [h, foldl_epoch]

@[simp] theorem startTask_sound {s0 : State} : ∀ x1 s, Sound s0 s → Sound s0 (startTask x1 s) := by
  intro x1 s h
  unfold startTask
  try dsimp only
  repeat' split
  all_goals first | with_reducible exact h | simp +contextual (maxDischargeDepth := 50) [h, foldl_sound]

@[simp] theorem startTask_epoch {s0 : State} : ∀ x1 s, EpochStays s0 s → EpochStays s0 (startTask x1 s) := by
  intro x1 s h
  unfold startTask
  try dsimp only
  repeat' split
  all_goals first | with_reducible exact h | simp +contextual (maxDischargeDepth := 50) [h, foldl_epoch]

@[simp] theorem stopTask_sound {s0 : State} : ∀ x1 s, Sound s0 s → Sound s0 (stopTask x1 s) := by
  intro x1 s h
  unfold stopTask
  try dsimp only
  repeat' split
  all_goals first | with_reducible exact h | simp +contextual (maxDischargeDepth := 50) [h, foldl_sound]

@[simp] theorem stopTask_epoch {s0 : State} : ∀ x1 s, EpochStays s0 s → EpochStays s0 (stopTask x1 s) := by
  intro x1 s h
  unfold stopTask
  try dsimp only
  repeat' split
  all_goals first | with_reducible exact h | simp +contextual (maxDischargeDepth := 50) [h, foldl_epoch]

@[simp] theorem journalTasks_sound {s0 : State} : ∀ x1 x2 s, Sound s0 s → Sound s0 (journalTasks x1 x2 s) := by
  intro x1 x2 s h
  unfold journalTasks
  try dsimp only
  repeat' split
  all_goals first | with_reducible exact h | simp +contextual (maxDischargeDepth := 50) [h, foldl_sound]

@[simp] theorem journalTasks_epoch {s0 : State} : ∀ x1 x2 s, EpochStays s0 s → EpochStays s0 (journalTasks x1 x2 s) := by
  intro x1 x2 s h
  unfold journalTasks
  try dsimp only
  repeat' split
  all_goals first | with_reducible exact h | simp +contextual (maxDischargeDepth := 50) [h, foldl_epoch]

@[simp] theorem freeAio_sound {s0 s : State} (o) (h : Sound s0 s) : Sound s0 (freeAio o s) := by
  unfold freeAio
  exact eachAio_sound _ (fun c s k => ite_sound _ (safeAio_sound _ _ k) k) h

@[simp] theorem freeAio_epoch {s0 s : State} (o) (h : EpochStays s0 s) : EpochStays s0 (freeAio o s) := by
  unfold freeAio
  exact eachAio_epoch _ (fun c s k => ite_epoch _ (safeAio_epoch _ _ k) k) h

@[simp] theorem holdCheck_sound {s0 : State} : ∀ s, Sound s0 s → Sound s0 (holdCheck s) := by
  intro s h
  unfold holdCheck
  try dsimp only
  repeat' split
  all_goals first | with_reducible exact h | simp +contextual (maxDischargeDepth := 50) [h, foldl_sound]

@[simp] theorem holdCheck_epoch {s0 : State} : ∀ s, EpochStays s0 s → EpochStays s0 (holdCheck s) := by
  intro s h
  unfold holdCheck
  try dsimp only
  repeat' split
  all_goals first | with_reducible exact h | simp +contextual (maxDischargeDepth := 50) [h, foldl_epoch]

@[simp] theorem installProgram_sound {s0 : State} : ∀ x1 x2 x3 s, Sound s0 s → Sound s0 (installProgram x1 x2 x3 s) := by
  intro x1 x2 x3 s h
  unfold installProgram
  try dsimp only
  repeat' split
  all_goals first | with_reducible exact h | simp +contextual (maxDischargeDepth := 50) [h, foldl_sound]

@[simp] theorem installProgram_epoch {s0 : State} : ∀ x1 x2 x3 s, EpochStays s0 s → EpochStays s0 (installProgram x1 x2 x3 s) := by
  intro x1 x2 x3 s h
  unfold installProgram
  try dsimp only
  repeat' split
  all_goals first | with_reducible exact h | simp +contextual (maxDischargeDepth := 50) [h, foldl_epoch]

@[simp] theorem applyEntry_sound {s0 : State} : ∀ x1 x2 s, Sound s0 s → Sound s0 (applyEntry x1 x2 s) := by
  intro x1 x2 s h
  unfold applyEntry
  try dsimp only
  repeat' split
  all_goals first | with_reducible exact h | simp +contextual (maxDischargeDepth := 50) [h, foldl_sound]

@[simp] theorem applyEntry_epoch {s0 : State} : ∀ x1 x2 s, EpochStays s0 s → EpochStays s0 (applyEntry x1 x2 s) := by
  intro x1 x2 s h
  unfold applyEntry
  try dsimp only
  repeat' split
  all_goals first | with_reducible exact h | simp +contextual (maxDischargeDepth := 50) [h, foldl_epoch]

@[simp] theorem hostWrite_sound {s0 : State} : ∀ x1 x2 x3 s, Sound s0 s → Sound s0 (hostWrite x1 x2 x3 s) := by
  intro x1 x2 x3 s h
  unfold hostWrite
  try dsimp only
  repeat' split
  all_goals first | with_reducible exact h | simp +contextual (maxDischargeDepth := 50) [h, foldl_sound]

@[simp] theorem hostWrite_epoch {s0 : State} : ∀ x1 x2 x3 s, EpochStays s0 s → EpochStays s0 (hostWrite x1 x2 x3 s) := by
  intro x1 x2 x3 s h
  unfold hostWrite
  try dsimp only
  repeat' split
  all_goals first | with_reducible exact h | simp +contextual (maxDischargeDepth := 50) [h, foldl_epoch]

@[simp] theorem jrun_sound {s0 : State} : ∀ x1 x2 x3 s, Sound s0 s → Sound s0 (jrun x1 x2 x3 s) := by
  intro x1 x2 x3 s h
  unfold jrun
  try dsimp only
  repeat' split
  all_goals first | with_reducible exact h | simp +contextual (maxDischargeDepth := 50) [h, foldl_sound]

@[simp] theorem jrun_epoch {s0 : State} : ∀ x1 x2 x3 s, EpochStays s0 s → EpochStays s0 (jrun x1 x2 x3 s) := by
  intro x1 x2 x3 s h
  unfold jrun
  try dsimp only
  repeat' split
  all_goals first | with_reducible exact h | simp +contextual (maxDischargeDepth := 50) [h, foldl_epoch]

@[simp] theorem applyForce_sound {s0 : State} : ∀ x1 x2 x3 s, Sound s0 s → Sound s0 (applyForce x1 x2 x3 s) := by
  intro x1 x2 x3 s h
  unfold applyForce
  try dsimp only
  repeat' split
  all_goals first | with_reducible exact h | simp +contextual (maxDischargeDepth := 50) [h, foldl_sound]

@[simp] theorem applyForce_epoch {s0 : State} : ∀ x1 x2 x3 s, EpochStays s0 s → EpochStays s0 (applyForce x1 x2 x3 s) := by
  intro x1 x2 x3 s h
  unfold applyForce
  try dsimp only
  repeat' split
  all_goals first | with_reducible exact h | simp +contextual (maxDischargeDepth := 50) [h, foldl_epoch]

@[simp] theorem clearForce_sound {s0 : State} : ∀ x1 x2 s, Sound s0 s → Sound s0 (clearForce x1 x2 s) := by
  intro x1 x2 s h
  unfold clearForce
  try dsimp only
  repeat' split
  all_goals first | with_reducible exact h | simp +contextual (maxDischargeDepth := 50) [h, foldl_sound]

@[simp] theorem clearForce_epoch {s0 : State} : ∀ x1 x2 s, EpochStays s0 s → EpochStays s0 (clearForce x1 x2 s) := by
  intro x1 x2 s h
  unfold clearForce
  try dsimp only
  repeat' split
  all_goals first | with_reducible exact h | simp +contextual (maxDischargeDepth := 50) [h, foldl_epoch]

@[simp] theorem settleTai_sound {s0 : State} : ∀ x1 s, Sound s0 s → Sound s0 (settleTai x1 s) := by
  intro x1 s h
  unfold settleTai
  try dsimp only
  repeat' split
  all_goals first | with_reducible exact h | simp +contextual (maxDischargeDepth := 50) [h, foldl_sound]

@[simp] theorem settleTai_epoch {s0 : State} : ∀ x1 s, EpochStays s0 s → EpochStays s0 (settleTai x1 s) := by
  intro x1 s h
  unfold settleTai
  try dsimp only
  repeat' split
  all_goals first | with_reducible exact h | simp +contextual (maxDischargeDepth := 50) [h, foldl_epoch]

@[simp] theorem settleKeys_sound {s0 : State} : ∀ x1 s, Sound s0 s → Sound s0 (settleKeys x1 s) := by
  intro x1 s h
  unfold settleKeys
  try dsimp only
  repeat' split
  all_goals first | with_reducible exact h | simp +contextual (maxDischargeDepth := 50) [h, foldl_sound]

@[simp] theorem settleKeys_epoch {s0 : State} : ∀ x1 s, EpochStays s0 s → EpochStays s0 (settleKeys x1 s) := by
  intro x1 s h
  unfold settleKeys
  try dsimp only
  repeat' split
  all_goals first | with_reducible exact h | simp +contextual (maxDischargeDepth := 50) [h, foldl_epoch]

@[simp] theorem settleGates_sound {s0 : State} : ∀ x1 x2 s, Sound s0 s → Sound s0 (settleGates x1 x2 s) := by
  intro x1 x2 s h
  unfold settleGates
  try dsimp only
  repeat' split
  all_goals first | with_reducible exact h | simp +contextual (maxDischargeDepth := 50) [h, foldl_sound]

@[simp] theorem settleGates_epoch {s0 : State} : ∀ x1 x2 s, EpochStays s0 s → EpochStays s0 (settleGates x1 x2 s) := by
  intro x1 x2 s h
  unfold settleGates
  try dsimp only
  repeat' split
  all_goals first | with_reducible exact h | simp +contextual (maxDischargeDepth := 50) [h, foldl_epoch]

@[simp] theorem settleCan_sound {s0 : State} : ∀ x1 x2 s, Sound s0 s → Sound s0 (settleCan x1 x2 s) := by
  intro x1 x2 s h
  unfold settleCan
  try dsimp only
  repeat' split
  all_goals first | with_reducible exact h | simp +contextual (maxDischargeDepth := 50) [h, foldl_sound]

@[simp] theorem settleCan_epoch {s0 : State} : ∀ x1 x2 s, EpochStays s0 s → EpochStays s0 (settleCan x1 x2 s) := by
  intro x1 x2 s h
  unfold settleCan
  try dsimp only
  repeat' split
  all_goals first | with_reducible exact h | simp +contextual (maxDischargeDepth := 50) [h, foldl_epoch]

@[simp] theorem settleFo_sound {s0 : State} : ∀ x1 x2 s, Sound s0 s → Sound s0 (settleFo x1 x2 s) := by
  intro x1 x2 s h
  unfold settleFo
  try dsimp only
  repeat' split
  all_goals first | with_reducible exact h | simp +contextual (maxDischargeDepth := 50) [h, foldl_sound]

@[simp] theorem settleFo_epoch {s0 : State} : ∀ x1 x2 s, EpochStays s0 s → EpochStays s0 (settleFo x1 x2 s) := by
  intro x1 x2 s h
  unfold settleFo
  try dsimp only
  repeat' split
  all_goals first | with_reducible exact h | simp +contextual (maxDischargeDepth := 50) [h, foldl_epoch]

@[simp] theorem settleAioMode_sound {s0 : State} : ∀ x1 x2 s, Sound s0 s → Sound s0 (settleAioMode x1 x2 s) := by
  intro x1 x2 s h
  unfold settleAioMode
  try dsimp only
  repeat' split
  all_goals first | with_reducible exact h | simp +contextual (maxDischargeDepth := 50) [h, foldl_sound]

@[simp] theorem settleAioMode_epoch {s0 : State} : ∀ x1 x2 s, EpochStays s0 s → EpochStays s0 (settleAioMode x1 x2 s) := by
  intro x1 x2 s h
  unfold settleAioMode
  try dsimp only
  repeat' split
  all_goals first | with_reducible exact h | simp +contextual (maxDischargeDepth := 50) [h, foldl_epoch]

@[simp] theorem settleDioMode_sound {s0 : State} : ∀ x1 x2 s, Sound s0 s → Sound s0 (settleDioMode x1 x2 s) := by
  intro x1 x2 s h
  unfold settleDioMode
  try dsimp only
  repeat' split
  all_goals first | with_reducible exact h | simp +contextual (maxDischargeDepth := 50) [h, foldl_sound]

@[simp] theorem settleDioMode_epoch {s0 : State} : ∀ x1 x2 s, EpochStays s0 s → EpochStays s0 (settleDioMode x1 x2 s) := by
  intro x1 x2 s h
  unfold settleDioMode
  try dsimp only
  repeat' split
  all_goals first | with_reducible exact h | simp +contextual (maxDischargeDepth := 50) [h, foldl_epoch]

@[simp] theorem settlePower_sound {s0 : State} : ∀ x1 s, Sound s0 s → Sound s0 (settlePower x1 s) := by
  intro x1 s h
  unfold settlePower
  try dsimp only
  repeat' split
  all_goals first | with_reducible exact h | simp +contextual (maxDischargeDepth := 50) [h, foldl_sound]

@[simp] theorem settlePower_epoch {s0 : State} : ∀ x1 s, EpochStays s0 s → EpochStays s0 (settlePower x1 s) := by
  intro x1 s h
  unfold settlePower
  try dsimp only
  repeat' split
  all_goals first | with_reducible exact h | simp +contextual (maxDischargeDepth := 50) [h, foldl_epoch]

@[simp] theorem applyAtCommit_sound {s0 : State} : ∀ x1 s, Sound s0 s → Sound s0 (applyAtCommit x1 s) := by
  intro x1 s h
  unfold applyAtCommit
  try dsimp only
  repeat' split
  all_goals first | with_reducible exact h | simp +contextual (maxDischargeDepth := 50) [h, foldl_sound]

@[simp] theorem applyAtCommit_epoch {s0 : State} : ∀ x1 s, EpochStays s0 s → EpochStays s0 (applyAtCommit x1 s) := by
  intro x1 s h
  unfold applyAtCommit
  try dsimp only
  repeat' split
  all_goals first | with_reducible exact h | simp +contextual (maxDischargeDepth := 50) [h, foldl_epoch]

@[simp] theorem takeCommit_sound {s0 : State} : ∀ x1 x2 s, Sound s0 s → Sound s0 (takeCommit x1 x2 s).1 := by
  intro x1 x2 s h
  unfold takeCommit
  try dsimp only
  repeat' split
  all_goals first | with_reducible exact h | simp +contextual (maxDischargeDepth := 50) [h, foldl_sound]

@[simp] theorem takeCommit_epoch {s0 : State} : ∀ x1 x2 s, EpochStays s0 s → EpochStays s0 (takeCommit x1 x2 s).1 := by
  intro x1 x2 s h
  unfold takeCommit
  try dsimp only
  repeat' split
  all_goals first | with_reducible exact h | simp +contextual (maxDischargeDepth := 50) [h, foldl_epoch]

@[simp] theorem failExchange_sound {s0 : State} : ∀ x1 x2 x3 s, Sound s0 s → Sound s0 (failExchange x1 x2 x3 s) := by
  intro x1 x2 x3 s h
  unfold failExchange
  try dsimp only
  repeat' split
  all_goals first | with_reducible exact h | simp +contextual (maxDischargeDepth := 50) [h, foldl_sound]

@[simp] theorem failExchange_epoch {s0 : State} : ∀ x1 x2 x3 s, EpochStays s0 s → EpochStays s0 (failExchange x1 x2 x3 s) := by
  intro x1 x2 x3 s h
  unfold failExchange
  try dsimp only
  repeat' split
  all_goals first | with_reducible exact h | simp +contextual (maxDischargeDepth := 50) [h, foldl_epoch]

@[simp] theorem takeExchange_sound {s0 : State} : ∀ x1 x2 s, Sound s0 s → Sound s0 (takeExchange x1 x2 s).1 := by
  intro x1 x2 s h
  unfold takeExchange
  try dsimp only
  repeat' split
  all_goals first | with_reducible exact h | simp +contextual (maxDischargeDepth := 50) [h, foldl_sound]

@[simp] theorem takeExchange_epoch {s0 : State} : ∀ x1 x2 s, EpochStays s0 s → EpochStays s0 (takeExchange x1 x2 s).1 := by
  intro x1 x2 s h
  unfold takeExchange
  try dsimp only
  repeat' split
  all_goals first | with_reducible exact h | simp +contextual (maxDischargeDepth := 50) [h, foldl_epoch]

@[simp] theorem applyChange_sound {s0 : State} : ∀ x1 x2 s, Sound s0 s → Sound s0 (applyChange x1 x2 s).1 := by
  intro x1 x2 s h
  unfold applyChange
  try dsimp only
  repeat' split
  all_goals first | with_reducible exact h | simp +contextual (maxDischargeDepth := 50) [h, foldl_sound]

@[simp] theorem applyChange_epoch {s0 : State} : ∀ x1 x2 s, EpochStays s0 s → EpochStays s0 (applyChange x1 x2 s).1 := by
  intro x1 x2 s h
  unfold applyChange
  try dsimp only
  repeat' split
  all_goals first | with_reducible exact h | simp +contextual (maxDischargeDepth := 50) [h, foldl_epoch]

@[simp] theorem applyList_sound {s0 : State} : ∀ (e : Nat) (cs : List HostChange) (r : State × List MirrorEntry), Sound s0 r.1 → Sound s0 (applyList e cs r).1 := by
  intro e cs; induction cs with
  | nil => intro r h; exact h
  | cons c cs ih => intro r h; exact ih _ (applyChange_sound _ _ _ h)

@[simp] theorem applyList_epoch {s0 : State} : ∀ (e : Nat) (cs : List HostChange) (r : State × List MirrorEntry), EpochStays s0 r.1 → EpochStays s0 (applyList e cs r).1 := by
  intro e cs; induction cs with
  | nil => intro r h; exact h
  | cons c cs ih => intro r h; exact ih _ (applyChange_epoch _ _ _ h)

@[simp] theorem applyChanges_sound {s0 : State} : ∀ x1 x2 s, Sound s0 s → Sound s0 (applyChanges x1 x2 s).1 := by
  intro x1 x2 s h
  unfold applyChanges
  try dsimp only
  repeat' split
  all_goals first | with_reducible exact h | simp +contextual (maxDischargeDepth := 50) [h, foldl_sound]

@[simp] theorem applyChanges_epoch {s0 : State} : ∀ x1 x2 s, EpochStays s0 s → EpochStays s0 (applyChanges x1 x2 s).1 := by
  intro x1 x2 s h
  unfold applyChanges
  try dsimp only
  repeat' split
  all_goals first | with_reducible exact h | simp +contextual (maxDischargeDepth := 50) [h, foldl_epoch]

@[simp] theorem standbyChanges_sound {s0 : State} : ∀ x1 s, Sound s0 s → Sound s0 (standbyChanges x1 s) := by
  intro x1 s h
  unfold standbyChanges
  try dsimp only
  repeat' split
  all_goals first | with_reducible exact h | simp +contextual (maxDischargeDepth := 50) [h, foldl_sound]

@[simp] theorem standbyChanges_epoch {s0 : State} : ∀ x1 s, EpochStays s0 s → EpochStays s0 (standbyChanges x1 s) := by
  intro x1 s h
  unfold standbyChanges
  try dsimp only
  repeat' split
  all_goals first | with_reducible exact h | simp +contextual (maxDischargeDepth := 50) [h, foldl_epoch]

@[simp] theorem applySettings_sound {s0 : State} : ∀ x1 s, Sound s0 s → Sound s0 (applySettings x1 s) := by
  intro x1 s h
  unfold applySettings
  try dsimp only
  repeat' split
  all_goals first | with_reducible exact h | simp +contextual (maxDischargeDepth := 50) [h, foldl_sound]

@[simp] theorem applySettings_epoch {s0 : State} : ∀ x1 s, EpochStays s0 s → EpochStays s0 (applySettings x1 s) := by
  intro x1 s h
  unfold applySettings
  try dsimp only
  repeat' split
  all_goals first | with_reducible exact h | simp +contextual (maxDischargeDepth := 50) [h, foldl_epoch]

@[simp] theorem migrateAtStep_sound {s0 : State} : ∀ x1 s, Sound s0 s → Sound s0 (migrateAtStep x1 s) := by
  intro x1 s h
  unfold migrateAtStep
  try dsimp only
  repeat' split
  all_goals first | with_reducible exact h | simp +contextual (maxDischargeDepth := 50) [h, foldl_sound]

@[simp] theorem migrateAtStep_epoch {s0 : State} : ∀ x1 s, EpochStays s0 s → EpochStays s0 (migrateAtStep x1 s) := by
  intro x1 s h
  unfold migrateAtStep
  try dsimp only
  repeat' split
  all_goals first | with_reducible exact h | simp +contextual (maxDischargeDepth := 50) [h, foldl_epoch]

@[simp] theorem noteUnacked_sound {s0 : State} : ∀ x1 x2 x3 s, Sound s0 s → Sound s0 (noteUnacked x1 x2 x3 s) := by
  intro x1 x2 x3 s h
  unfold noteUnacked
  try dsimp only
  repeat' split
  all_goals first | with_reducible exact h | simp +contextual (maxDischargeDepth := 50) [h, foldl_sound]

@[simp] theorem noteUnacked_epoch {s0 : State} : ∀ x1 x2 x3 s, EpochStays s0 s → EpochStays s0 (noteUnacked x1 x2 x3 s) := by
  intro x1 x2 x3 s h
  unfold noteUnacked
  try dsimp only
  repeat' split
  all_goals first | with_reducible exact h | simp +contextual (maxDischargeDepth := 50) [h, foldl_epoch]

@[simp] theorem notePublished_sound {s0 : State} : ∀ x1 s, Sound s0 s → Sound s0 (notePublished x1 s) := by
  intro x1 s h
  unfold notePublished
  try dsimp only
  repeat' split
  all_goals first | with_reducible exact h | simp +contextual (maxDischargeDepth := 50) [h, foldl_sound]

@[simp] theorem notePublished_epoch {s0 : State} : ∀ x1 s, EpochStays s0 s → EpochStays s0 (notePublished x1 s) := by
  intro x1 s h
  unfold notePublished
  try dsimp only
  repeat' split
  all_goals first | with_reducible exact h | simp +contextual (maxDischargeDepth := 50) [h, foldl_epoch]

@[simp] theorem noteFullForm_sound {s0 : State} : ∀ x1 s, Sound s0 s → Sound s0 (noteFullForm x1 s) := by
  intro x1 s h
  unfold noteFullForm
  try dsimp only
  repeat' split
  all_goals first | with_reducible exact h | simp +contextual (maxDischargeDepth := 50) [h, foldl_sound]

@[simp] theorem noteFullForm_epoch {s0 : State} : ∀ x1 s, EpochStays s0 s → EpochStays s0 (noteFullForm x1 s) := by
  intro x1 s h
  unfold noteFullForm
  try dsimp only
  repeat' split
  all_goals first | with_reducible exact h | simp +contextual (maxDischargeDepth := 50) [h, foldl_epoch]

@[simp] theorem applyRecord_sound {s0 : State} : ∀ x1 s, Sound s0 s → Sound s0 (applyRecord x1 s) := by
  intro x1 s h
  unfold applyRecord
  try dsimp only
  repeat' split
  all_goals first | with_reducible exact h | simp +contextual (maxDischargeDepth := 50) [h, foldl_sound]

@[simp] theorem rejoin_sound {s0 : State} : ∀ s, Sound s0 s → Sound s0 (rejoin s) := by
  intro s h
  unfold rejoin
  try dsimp only
  repeat' split
  all_goals first | with_reducible exact h | simp +contextual (maxDischargeDepth := 50) [h, foldl_sound]

@[simp] theorem rejoin_epoch {s0 : State} : ∀ s, EpochStays s0 s → EpochStays s0 (rejoin s) := by
  intro s h
  unfold rejoin
  try dsimp only
  repeat' split
  all_goals first | with_reducible exact h | simp +contextual (maxDischargeDepth := 50) [h, foldl_epoch]

@[simp] theorem settleRecords_sound {s0 : State} : ∀ (n : Nat) (s : State), Sound s0 s → Sound s0 (settleRecords n s) := by
  intro n; induction n with
  | zero => intro s h; exact h
  | succ n ih =>
    intro s h
    unfold settleRecords
    split
    · exact h
    · dsimp only
      repeat' split
      · exact h
      · simp (maxDischargeDepth := 50) [h]
      · apply ih; simp (maxDischargeDepth := 50) [h]

@[simp] theorem applyWaiting_sound {s0 : State} : ∀ s, Sound s0 s → Sound s0 (applyWaiting s) := by
  intro s h
  unfold applyWaiting
  try dsimp only
  repeat' split
  all_goals first | with_reducible exact h | simp +contextual (maxDischargeDepth := 50) [h, foldl_sound]

@[simp] theorem answerHandover_sound {s0 : State} : ∀ x1 s, Sound s0 s → Sound s0 (answerHandover x1 s) := by
  intro x1 s h
  unfold answerHandover
  try dsimp only
  repeat' split
  all_goals first | with_reducible exact h | simp +contextual (maxDischargeDepth := 50) [h, foldl_sound]

@[simp] theorem answerHandover_epoch {s0 : State} : ∀ x1 s, EpochStays s0 s → EpochStays s0 (answerHandover x1 s) := by
  intro x1 s h
  unfold answerHandover
  try dsimp only
  repeat' split
  all_goals first | with_reducible exact h | simp +contextual (maxDischargeDepth := 50) [h, foldl_epoch]

@[simp] theorem finishHandover_sound {s0 : State} : ∀ x1 s, Sound s0 s → Sound s0 (finishHandover x1 s) := by
  intro x1 s h
  unfold finishHandover
  try dsimp only
  repeat' split
  all_goals first | with_reducible exact h | simp +contextual (maxDischargeDepth := 50) [h, foldl_sound]

@[simp] theorem standbyStep_sound {s0 : State} : ∀ s, Sound s0 s → Sound s0 (standbyStep s) := by
  intro s h
  unfold standbyStep
  try dsimp only
  repeat' split
  all_goals first | with_reducible exact h | simp +contextual (maxDischargeDepth := 50) [h, foldl_sound]

@[simp] theorem storeEpoch_sound {s0 : State} : ∀ s, Sound s0 s → Sound s0 (storeEpoch s) := by
  intro s h
  unfold storeEpoch
  try dsimp only
  repeat' split
  all_goals first | with_reducible exact h | simp +contextual (maxDischargeDepth := 50) [h, foldl_sound]

@[simp] theorem storeEpoch_epoch {s0 : State} : ∀ s, EpochStays s0 s → EpochStays s0 (storeEpoch s) := by
  intro s h
  unfold storeEpoch
  try dsimp only
  repeat' split
  all_goals first | with_reducible exact h | simp +contextual (maxDischargeDepth := 50) [h, foldl_epoch]

@[simp] theorem dropMissed_sound {s0 : State} : ∀ s, Sound s0 s → Sound s0 (dropMissed s) := by
  intro s h
  unfold dropMissed
  try dsimp only
  repeat' split
  all_goals first | with_reducible exact h | simp +contextual (maxDischargeDepth := 50) [h, foldl_sound]

@[simp] theorem dropMissed_epoch {s0 : State} : ∀ s, EpochStays s0 s → EpochStays s0 (dropMissed s) := by
  intro s h
  unfold dropMissed
  try dsimp only
  repeat' split
  all_goals first | with_reducible exact h | simp +contextual (maxDischargeDepth := 50) [h, foldl_epoch]

@[simp] theorem noteSlack_sound {s0 : State} : ∀ x1 x2 s, Sound s0 s → Sound s0 (noteSlack x1 x2 s) := by
  intro x1 x2 s h
  unfold noteSlack
  try dsimp only
  repeat' split
  all_goals first | with_reducible exact h | simp +contextual (maxDischargeDepth := 50) [h, foldl_sound]

@[simp] theorem noteSlack_epoch {s0 : State} : ∀ x1 x2 s, EpochStays s0 s → EpochStays s0 (noteSlack x1 x2 s) := by
  intro x1 x2 s h
  unfold noteSlack
  try dsimp only
  repeat' split
  all_goals first | with_reducible exact h | simp +contextual (maxDischargeDepth := 50) [h, foldl_epoch]

@[simp] theorem releaseStages_sound {s0 : State} : ∀ x1 x2 s, Sound s0 s → Sound s0 (releaseStages x1 x2 s) := by
  intro x1 x2 s h
  unfold releaseStages
  try dsimp only
  repeat' split
  all_goals first | with_reducible exact h | simp +contextual (maxDischargeDepth := 50) [h, foldl_sound]

@[simp] theorem releaseStages_epoch {s0 : State} : ∀ x1 x2 s, EpochStays s0 s → EpochStays s0 (releaseStages x1 x2 s) := by
  intro x1 x2 s h
  unfold releaseStages
  try dsimp only
  repeat' split
  all_goals first | with_reducible exact h | simp +contextual (maxDischargeDepth := 50) [h, foldl_epoch]

@[simp] theorem publishNodes_sound {s0 : State} : ∀ x1 x2 s, Sound s0 s → Sound s0 (publishNodes x1 x2 s) := by
  intro x1 x2 s h
  unfold publishNodes
  try dsimp only
  repeat' split
  all_goals first | with_reducible exact h | simp +contextual (maxDischargeDepth := 50) [h, foldl_sound]

@[simp] theorem publishNodes_epoch {s0 : State} : ∀ x1 x2 s, EpochStays s0 s → EpochStays s0 (publishNodes x1 x2 s) := by
  intro x1 x2 s h
  unfold publishNodes
  try dsimp only
  repeat' split
  all_goals first | with_reducible exact h | simp +contextual (maxDischargeDepth := 50) [h, foldl_epoch]

@[simp] theorem publishStep_sound {s0 : State} : ∀ x1 x2 s, Sound s0 s → Sound s0 (publishStep x1 x2 s) := by
  intro x1 x2 s h
  unfold publishStep
  try dsimp only
  repeat' split
  all_goals first | with_reducible exact h | simp +contextual (maxDischargeDepth := 50) [h, foldl_sound]

@[simp] theorem publishStep_epoch {s0 : State} : ∀ x1 x2 s, EpochStays s0 s → EpochStays s0 (publishStep x1 x2 s) := by
  intro x1 x2 s h
  unfold publishStep
  try dsimp only
  repeat' split
  all_goals first | with_reducible exact h | simp +contextual (maxDischargeDepth := 50) [h, foldl_epoch]

@[simp] theorem noteSent_sound {s0 : State} : ∀ s, Sound s0 s → Sound s0 (noteSent s) := by
  intro s h
  unfold noteSent
  try dsimp only
  repeat' split
  all_goals first | with_reducible exact h | simp +contextual (maxDischargeDepth := 50) [h, foldl_sound]

@[simp] theorem noteSent_epoch {s0 : State} : ∀ s, EpochStays s0 s → EpochStays s0 (noteSent s) := by
  intro s h
  unfold noteSent
  try dsimp only
  repeat' split
  all_goals first | with_reducible exact h | simp +contextual (maxDischargeDepth := 50) [h, foldl_epoch]

@[simp] theorem mirrorStep_sound {s0 : State} : ∀ x1 x2 x3 x4 x5 s, Sound s0 s → Sound s0 (mirrorStep x1 x2 x3 x4 x5 s) := by
  intro x1 x2 x3 x4 x5 s h
  unfold mirrorStep
  try dsimp only
  repeat' split
  all_goals first | with_reducible exact h | simp +contextual (maxDischargeDepth := 50) [h, foldl_sound]

@[simp] theorem mirrorStep_epoch {s0 : State} : ∀ x1 x2 x3 x4 x5 s, EpochStays s0 s → EpochStays s0 (mirrorStep x1 x2 x3 x4 x5 s) := by
  intro x1 x2 x3 x4 x5 s h
  unfold mirrorStep
  try dsimp only
  repeat' split
  all_goals first | with_reducible exact h | simp +contextual (maxDischargeDepth := 50) [h, foldl_epoch]

@[simp] theorem stepExec_sound {s0 : State} : ∀ x1 x2 x3 s, Sound s0 s → Sound s0 (stepExec x1 x2 x3 s) := by
  intro x1 x2 x3 s h
  unfold stepExec
  try dsimp only
  repeat' split
  all_goals first | with_reducible exact h | simp +contextual (maxDischargeDepth := 50) [h, foldl_sound]

@[simp] theorem stepChange_sound {s0 : State} : ∀ s, Sound s0 s → Sound s0 (stepChange s) := by
  intro s h
  unfold stepChange
  try dsimp only
  repeat' split
  all_goals first | with_reducible exact h | simp +contextual (maxDischargeDepth := 50) [h, foldl_sound]

@[simp] theorem missActive_sound {s0 : State} : ∀ s, Sound s0 s → Sound s0 (missActive s) := by
  intro s h
  unfold missActive
  try dsimp only
  repeat' split
  all_goals first | with_reducible exact h | simp +contextual (maxDischargeDepth := 50) [h, foldl_sound]

@[simp] theorem missActive_epoch {s0 : State} : ∀ s, EpochStays s0 s → EpochStays s0 (missActive s) := by
  intro s h
  unfold missActive
  try dsimp only
  repeat' split
  all_goals first | with_reducible exact h | simp +contextual (maxDischargeDepth := 50) [h, foldl_epoch]

@[simp] theorem finishRelease_sound {s0 : State} : ∀ s, Sound s0 s → Sound s0 (finishRelease s) := by
  intro s h
  unfold finishRelease
  try dsimp only
  repeat' split
  all_goals first | with_reducible exact h | simp +contextual (maxDischargeDepth := 50) [h, foldl_sound]

@[simp] theorem finishRelease_epoch {s0 : State} : ∀ s, EpochStays s0 s → EpochStays s0 (finishRelease s) := by
  intro s h
  unfold finishRelease
  try dsimp only
  repeat' split
  all_goals first | with_reducible exact h | simp +contextual (maxDischargeDepth := 50) [h, foldl_epoch]

@[simp] theorem settleTrailing_sound {s0 : State} : ∀ x1 x2 s, Sound s0 s → Sound s0 (settleTrailing x1 x2 s) := by
  intro x1 x2 s h
  unfold settleTrailing
  try dsimp only
  repeat' split
  all_goals first | with_reducible exact h | simp +contextual (maxDischargeDepth := 50) [h, foldl_sound]

@[simp] theorem settleTrailing_epoch {s0 : State} : ∀ x1 x2 s, EpochStays s0 s → EpochStays s0 (settleTrailing x1 x2 s) := by
  intro x1 x2 s h
  unfold settleTrailing
  try dsimp only
  repeat' split
  all_goals first | with_reducible exact h | simp +contextual (maxDischargeDepth := 50) [h, foldl_epoch]

@[simp] theorem disagreement_sound {s0 : State} : ∀ x1 s, Sound s0 s → Sound s0 (disagreement x1 s) := by
  intro x1 s h
  unfold disagreement
  try dsimp only
  repeat' split
  all_goals first | with_reducible exact h | simp +contextual (maxDischargeDepth := 50) [h, foldl_sound]

@[simp] theorem disagreement_epoch {s0 : State} : ∀ x1 s, EpochStays s0 s → EpochStays s0 (disagreement x1 s) := by
  intro x1 s h
  unfold disagreement
  try dsimp only
  repeat' split
  all_goals first | with_reducible exact h | simp +contextual (maxDischargeDepth := 50) [h, foldl_epoch]

@[simp] theorem checkLanes_sound {s0 : State} : ∀ s, Sound s0 s → Sound s0 (checkLanes s) := by
  intro s h
  unfold checkLanes
  try dsimp only
  repeat' split
  all_goals first | with_reducible exact h | simp +contextual (maxDischargeDepth := 50) [h, foldl_sound]

@[simp] theorem checkLanes_epoch {s0 : State} : ∀ s, EpochStays s0 s → EpochStays s0 (checkLanes s) := by
  intro s h
  unfold checkLanes
  try dsimp only
  repeat' split
  all_goals first | with_reducible exact h | simp +contextual (maxDischargeDepth := 50) [h, foldl_epoch]

@[simp] theorem noteCompared_sound {s0 : State} : ∀ x1 x2 s, Sound s0 s → Sound s0 (noteCompared x1 x2 s) := by
  intro x1 x2 s h
  unfold noteCompared
  try dsimp only
  repeat' split
  all_goals first | with_reducible exact h | simp +contextual (maxDischargeDepth := 50) [h, foldl_sound]

@[simp] theorem noteCompared_epoch {s0 : State} : ∀ x1 x2 s, EpochStays s0 s → EpochStays s0 (noteCompared x1 x2 s) := by
  intro x1 x2 s h
  unfold noteCompared
  try dsimp only
  repeat' split
  all_goals first | with_reducible exact h | simp +contextual (maxDischargeDepth := 50) [h, foldl_epoch]

@[simp] theorem haltMismatch_sound {s0 s : State} (i p) (h : Sound s0 s) : Sound s0 (haltMismatch i p s) := by
  unfold haltMismatch; split
  · exact h
  · refine ite_sound _ h (foldl_sound _ (fun s c k => ?_) _ _ h)
    split
    · simp (maxDischargeDepth := 50) [k]
    · exact k

@[simp] theorem haltMismatch_epoch {s0 s : State} (i p) (h : EpochStays s0 s) : EpochStays s0 (haltMismatch i p s) := by
  unfold haltMismatch; split
  · exact h
  · refine ite_epoch _ h (foldl_epoch _ (fun s c k => ?_) _ _ h)
    split
    · simp (maxDischargeDepth := 50) [k]
    · exact k

@[simp] theorem landPending_sound {s0 : State} : ∀ x1 x2 x3 s, Sound s0 s → Sound s0 (landPending x1 x2 x3 s) := by
  intro x1 x2 x3 s h
  unfold landPending
  try dsimp only
  repeat' split
  all_goals first | with_reducible exact h | simp +contextual (maxDischargeDepth := 50) [h, foldl_sound]

@[simp] theorem landPending_epoch {s0 : State} : ∀ x1 x2 x3 s, EpochStays s0 s → EpochStays s0 (landPending x1 x2 x3 s) := by
  intro x1 x2 x3 s h
  unfold landPending
  try dsimp only
  repeat' split
  all_goals first | with_reducible exact h | simp +contextual (maxDischargeDepth := 50) [h, foldl_epoch]

@[simp] theorem landEntry_sound {s0 : State} : ∀ x1 x2 x3 s, Sound s0 s → Sound s0 (landEntry x1 x2 x3 s) := by
  intro x1 x2 x3 s h
  unfold landEntry
  try dsimp only
  repeat' split
  all_goals first | with_reducible exact h | simp +contextual (maxDischargeDepth := 50) [h, foldl_sound]

@[simp] theorem landEntry_epoch {s0 : State} : ∀ x1 x2 x3 s, EpochStays s0 s → EpochStays s0 (landEntry x1 x2 x3 s) := by
  intro x1 x2 x3 s h
  unfold landEntry
  try dsimp only
  repeat' split
  all_goals first | with_reducible exact h | simp +contextual (maxDischargeDepth := 50) [h, foldl_epoch]

@[simp] theorem voteNext_sound {s0 : State} : ∀ x1 x2 s, Sound s0 s → Sound s0 (voteNext x1 x2 s) := by
  intro x1 x2 s h
  unfold voteNext
  try dsimp only
  repeat' split
  all_goals first | with_reducible exact h | simp +contextual (maxDischargeDepth := 50) [h, foldl_sound]

@[simp] theorem voteNext_epoch {s0 : State} : ∀ x1 x2 s, EpochStays s0 s → EpochStays s0 (voteNext x1 x2 s) := by
  intro x1 x2 s h
  unfold voteNext
  try dsimp only
  repeat' split
  all_goals first | with_reducible exact h | simp +contextual (maxDischargeDepth := 50) [h, foldl_epoch]

@[simp] theorem voteAt_sound {s0 : State} : ∀ x1 x2 s, Sound s0 s → Sound s0 (voteAt x1 x2 s) := by
  intro x1 x2 s h
  unfold voteAt
  try dsimp only
  repeat' split
  all_goals first | with_reducible exact h | simp +contextual (maxDischargeDepth := 50) [h, foldl_sound]

@[simp] theorem voteAt_epoch {s0 : State} : ∀ x1 x2 s, EpochStays s0 s → EpochStays s0 (voteAt x1 x2 s) := by
  intro x1 x2 s h
  unfold voteAt
  try dsimp only
  repeat' split
  all_goals first | with_reducible exact h | simp +contextual (maxDischargeDepth := 50) [h, foldl_epoch]

@[simp] theorem voteFault_sound {s0 : State} : ∀ x1 s, Sound s0 s → Sound s0 (voteFault x1 s) := by
  intro x1 s h
  unfold voteFault
  try dsimp only
  repeat' split
  all_goals first | with_reducible exact h | simp +contextual (maxDischargeDepth := 50) [h, foldl_sound]

@[simp] theorem voteFault_epoch {s0 : State} : ∀ x1 s, EpochStays s0 s → EpochStays s0 (voteFault x1 s) := by
  intro x1 s h
  unfold voteFault
  try dsimp only
  repeat' split
  all_goals first | with_reducible exact h | simp +contextual (maxDischargeDepth := 50) [h, foldl_epoch]

@[simp] theorem giveAgreed_sound {s0 : State} : ∀ x1 x2 x3 s, Sound s0 s → Sound s0 (giveAgreed x1 x2 x3 s) := by
  intro x1 x2 x3 s h
  unfold giveAgreed
  try dsimp only
  repeat' split
  all_goals first | with_reducible exact h | simp +contextual (maxDischargeDepth := 50) [h, foldl_sound]

@[simp] theorem giveAgreed_epoch {s0 : State} : ∀ x1 x2 x3 s, EpochStays s0 s → EpochStays s0 (giveAgreed x1 x2 x3 s) := by
  intro x1 x2 x3 s h
  unfold giveAgreed
  try dsimp only
  repeat' split
  all_goals first | with_reducible exact h | simp +contextual (maxDischargeDepth := 50) [h, foldl_epoch]

@[simp] theorem divergeAgree_sound {s0 : State} : ∀ x1 s, Sound s0 s → Sound s0 (divergeAgree x1 s) := by
  intro x1 s h
  unfold divergeAgree
  try dsimp only
  repeat' split
  all_goals first | with_reducible exact h | simp +contextual (maxDischargeDepth := 50) [h, foldl_sound]

@[simp] theorem divergeAgree_epoch {s0 : State} : ∀ x1 s, EpochStays s0 s → EpochStays s0 (divergeAgree x1 s) := by
  intro x1 s h
  unfold divergeAgree
  try dsimp only
  repeat' split
  all_goals first | with_reducible exact h | simp +contextual (maxDischargeDepth := 50) [h, foldl_epoch]

@[simp] theorem rebuildLane_sound {s0 : State} : ∀ x1 s, Sound s0 s → Sound s0 (rebuildLane x1 s) := by
  intro x1 s h
  unfold rebuildLane
  try dsimp only
  repeat' split
  all_goals first | with_reducible exact h | simp +contextual (maxDischargeDepth := 50) [h, foldl_sound]

@[simp] theorem rebuildLane_epoch {s0 : State} : ∀ x1 s, EpochStays s0 s → EpochStays s0 (rebuildLane x1 s) := by
  intro x1 s h
  unfold rebuildLane
  try dsimp only
  repeat' split
  all_goals first | with_reducible exact h | simp +contextual (maxDischargeDepth := 50) [h, foldl_epoch]

@[simp] theorem resyncFailed_sound {s0 : State} : ∀ x1 s, Sound s0 s → Sound s0 (resyncFailed x1 s) := by
  intro x1 s h
  unfold resyncFailed
  try dsimp only
  repeat' split
  all_goals first | with_reducible exact h | simp +contextual (maxDischargeDepth := 50) [h, foldl_sound]

@[simp] theorem resyncFailed_epoch {s0 : State} : ∀ x1 s, EpochStays s0 s → EpochStays s0 (resyncFailed x1 s) := by
  intro x1 s h
  unfold resyncFailed
  try dsimp only
  repeat' split
  all_goals first | with_reducible exact h | simp +contextual (maxDischargeDepth := 50) [h, foldl_epoch]

@[simp] theorem nackResend_sound {s0 : State} : ∀ x1 s, Sound s0 s → Sound s0 (nackResend x1 s) := by
  intro x1 s h
  unfold nackResend
  try dsimp only
  repeat' split
  all_goals first | with_reducible exact h | simp +contextual (maxDischargeDepth := 50) [h, foldl_sound]

@[simp] theorem nackResend_epoch {s0 : State} : ∀ x1 s, EpochStays s0 s → EpochStays s0 (nackResend x1 s) := by
  intro x1 s h
  unfold nackResend
  try dsimp only
  repeat' split
  all_goals first | with_reducible exact h | simp +contextual (maxDischargeDepth := 50) [h, foldl_epoch]

@[simp] theorem followStream_sound {s0 : State} : ∀ x1 s, Sound s0 s → Sound s0 (followStream x1 s) := by
  intro x1 s h
  unfold followStream
  try dsimp only
  repeat' split
  all_goals first | with_reducible exact h | simp +contextual (maxDischargeDepth := 50) [h, foldl_sound]

@[simp] theorem followStream_epoch {s0 : State} : ∀ x1 s, EpochStays s0 s → EpochStays s0 (followStream x1 s) := by
  intro x1 s h
  unfold followStream
  try dsimp only
  repeat' split
  all_goals first | with_reducible exact h | simp +contextual (maxDischargeDepth := 50) [h, foldl_epoch]

@[simp] theorem forgetZeroStatus_sound {s0 : State} : ∀ s, Sound s0 s → Sound s0 (forgetZeroStatus s) := by
  intro s h
  unfold forgetZeroStatus
  try dsimp only
  repeat' split
  all_goals first | with_reducible exact h | simp +contextual (maxDischargeDepth := 50) [h, foldl_sound]

@[simp] theorem forgetZeroStatus_epoch {s0 : State} : ∀ s, EpochStays s0 s → EpochStays s0 (forgetZeroStatus s) := by
  intro s h
  unfold forgetZeroStatus
  try dsimp only
  repeat' split
  all_goals first | with_reducible exact h | simp +contextual (maxDischargeDepth := 50) [h, foldl_epoch]

@[simp] theorem releaseRetained_sound {s0 : State} : ∀ x1 s, Sound s0 s → Sound s0 (releaseRetained x1 s) := by
  intro x1 s h
  unfold releaseRetained
  try dsimp only
  repeat' split
  all_goals first | with_reducible exact h | simp +contextual (maxDischargeDepth := 50) [h, foldl_sound]

@[simp] theorem releaseRetained_epoch {s0 : State} : ∀ x1 s, EpochStays s0 s → EpochStays s0 (releaseRetained x1 s) := by
  intro x1 s h
  unfold releaseRetained
  try dsimp only
  repeat' split
  all_goals first | with_reducible exact h | simp +contextual (maxDischargeDepth := 50) [h, foldl_epoch]

@[simp] theorem serveCatchup_sound {s0 : State} : ∀ s, Sound s0 s → Sound s0 (serveCatchup s) := by
  intro s h
  unfold serveCatchup
  try dsimp only
  repeat' split
  all_goals first | with_reducible exact h | simp +contextual (maxDischargeDepth := 50) [h, foldl_sound]

@[simp] theorem serveCatchup_epoch {s0 : State} : ∀ s, EpochStays s0 s → EpochStays s0 (serveCatchup s) := by
  intro s h
  unfold serveCatchup
  try dsimp only
  repeat' split
  all_goals first | with_reducible exact h | simp +contextual (maxDischargeDepth := 50) [h, foldl_epoch]

@[simp] theorem heartbeatActive_sound {s0 : State} : ∀ x1 x2 s, Sound s0 s → Sound s0 (heartbeatActive x1 x2 s) := by
  intro x1 x2 s h
  unfold heartbeatActive
  try dsimp only
  repeat' split
  all_goals first | with_reducible exact h | simp +contextual (maxDischargeDepth := 50) [h, foldl_sound]

@[simp] theorem heartbeatActive_epoch {s0 : State} : ∀ x1 x2 s, EpochStays s0 s → EpochStays s0 (heartbeatActive x1 x2 s) := by
  intro x1 x2 s h
  unfold heartbeatActive
  try dsimp only
  repeat' split
  all_goals first | with_reducible exact h | simp +contextual (maxDischargeDepth := 50) [h, foldl_epoch]

@[simp] theorem dropHeld_sound {s0 : State} : ∀ s, Sound s0 s → Sound s0 (dropHeld s) := by
  intro s h
  unfold dropHeld
  try dsimp only
  repeat' split
  all_goals first | with_reducible exact h | simp +contextual (maxDischargeDepth := 50) [h, foldl_sound]

@[simp] theorem dropHeld_epoch {s0 : State} : ∀ s, EpochStays s0 s → EpochStays s0 (dropHeld s) := by
  intro s h
  unfold dropHeld
  try dsimp only
  repeat' split
  all_goals first | with_reducible exact h | simp +contextual (maxDischargeDepth := 50) [h, foldl_epoch]

@[simp] theorem heartbeatStandby_sound {s0 : State} : ∀ x1 s, Sound s0 s → Sound s0 (heartbeatStandby x1 s) := by
  intro x1 s h
  unfold heartbeatStandby
  try dsimp only
  repeat' split
  all_goals first | with_reducible exact h | simp +contextual (maxDischargeDepth := 50) [h, foldl_sound]

@[simp] theorem dropOffer_sound {s0 : State} : ∀ s, Sound s0 s → Sound s0 (dropOffer s) := by
  intro s h
  unfold dropOffer
  try dsimp only
  repeat' split
  all_goals first | with_reducible exact h | simp +contextual (maxDischargeDepth := 50) [h, foldl_sound]

@[simp] theorem dropOffer_epoch {s0 : State} : ∀ s, EpochStays s0 s → EpochStays s0 (dropOffer s) := by
  intro s h
  unfold dropOffer
  try dsimp only
  repeat' split
  all_goals first | with_reducible exact h | simp +contextual (maxDischargeDepth := 50) [h, foldl_epoch]

@[simp] theorem settleOffer_sound {s0 : State} : ∀ x1 s, Sound s0 s → Sound s0 (settleOffer x1 s) := by
  intro x1 s h
  unfold settleOffer
  try dsimp only
  repeat' split
  all_goals first | with_reducible exact h | simp +contextual (maxDischargeDepth := 50) [h, foldl_sound]

@[simp] theorem settleOffer_epoch {s0 : State} : ∀ x1 s, EpochStays s0 s → EpochStays s0 (settleOffer x1 s) := by
  intro x1 s h
  unfold settleOffer
  try dsimp only
  repeat' split
  all_goals first | with_reducible exact h | simp +contextual (maxDischargeDepth := 50) [h, foldl_epoch]

@[simp] theorem heartbeatReady_sound {s0 : State} : ∀ x1 s, Sound s0 s → Sound s0 (heartbeatReady x1 s) := by
  intro x1 s h
  unfold heartbeatReady
  try dsimp only
  repeat' split
  all_goals first | with_reducible exact h | simp +contextual (maxDischargeDepth := 50) [h, foldl_sound]

@[simp] theorem heartbeatReady_epoch {s0 : State} : ∀ x1 s, EpochStays s0 s → EpochStays s0 (heartbeatReady x1 s) := by
  intro x1 s h
  unfold heartbeatReady
  try dsimp only
  repeat' split
  all_goals first | with_reducible exact h | simp +contextual (maxDischargeDepth := 50) [h, foldl_epoch]

@[simp] theorem validHeartbeat_sound {s0 : State} : ∀ x1 x2 x3 s, Sound s0 s → Sound s0 (validHeartbeat x1 x2 x3 s) := by
  intro x1 x2 x3 s h
  unfold validHeartbeat
  try dsimp only
  repeat' split
  all_goals first | with_reducible exact h | simp +contextual (maxDischargeDepth := 50) [h, foldl_sound]

theorem acceptTow_sound {s0 : State} (fr : TowHdr) (a : Bool) (s : State) (h : Sound s0 s) :
    (∀ s', (acceptTow fr a s).1 = some s' → Sound s0 s') ∧ Sound s0 (acceptTow fr a s).2 := by
  unfold acceptTow
  dsimp only
  repeat' split
  all_goals simp (maxDischargeDepth := 50) [h]

theorem acceptTow_epoch {s0 : State} (fr : TowHdr) (a : Bool) (s : State) (h : EpochStays s0 s) :
    (∀ s', (acceptTow fr a s).1 = some s' → EpochStays s0 s') ∧ EpochStays s0 (acceptTow fr a s).2 := by
  unfold acceptTow
  dsimp only
  repeat' split
  all_goals simp (maxDischargeDepth := 50) [h]

@[simp] theorem withFrame_sound {s0 s : State} (fr a) (g : State → State) (hb : ∀ s, Sound s0 s → Sound s0 (g s)) (h : Sound s0 s) : Sound s0 (withFrame fr a g s) := by
  unfold withFrame
  have k := acceptTow_sound fr a s h
  split <;> rename_i e <;> rw [e] at k
  · exact ite_sound _ (k.1 _ rfl) (hb _ (k.1 _ rfl))
  · exact k.2

@[simp] theorem withFrame_epoch {s0 s : State} (fr a) (g : State → State) (hb : ∀ s, EpochStays s0 s → EpochStays s0 (g s)) (h : EpochStays s0 s) : EpochStays s0 (withFrame fr a g s) := by
  unfold withFrame
  have k := acceptTow_epoch fr a s h
  split <;> rename_i e <;> rw [e] at k
  · exact ite_epoch _ (k.1 _ rfl) (hb _ (k.1 _ rfl))
  · exact k.2

@[simp] theorem lateLatch_sound {s0 : State} : ∀ x1 s, Sound s0 s → Sound s0 (lateLatch x1 s) := by
  intro x1 s h
  unfold lateLatch
  try dsimp only
  repeat' split
  all_goals first | with_reducible exact h | simp +contextual (maxDischargeDepth := 50) [h, foldl_sound]

@[simp] theorem lateLatch_epoch {s0 : State} : ∀ x1 s, EpochStays s0 s → EpochStays s0 (lateLatch x1 s) := by
  intro x1 s h
  unfold lateLatch
  try dsimp only
  repeat' split
  all_goals first | with_reducible exact h | simp +contextual (maxDischargeDepth := 50) [h, foldl_epoch]

@[simp] theorem takeManifest_sound {s0 : State} : ∀ x1 x2 s, Sound s0 s → Sound s0 (takeManifest x1 x2 s) := by
  intro x1 x2 s h
  unfold takeManifest
  try dsimp only
  repeat' split
  all_goals first | with_reducible exact h | simp +contextual (maxDischargeDepth := 50) [h, foldl_sound]

@[simp] theorem takeManifest_epoch {s0 : State} : ∀ x1 x2 s, EpochStays s0 s → EpochStays s0 (takeManifest x1 x2 s) := by
  intro x1 x2 s h
  unfold takeManifest
  try dsimp only
  repeat' split
  all_goals first | with_reducible exact h | simp +contextual (maxDischargeDepth := 50) [h, foldl_epoch]

@[simp] theorem copyAgain_sound {s0 : State} : ∀ s, Sound s0 s → Sound s0 (copyAgain s) := by
  intro s h
  unfold copyAgain
  try dsimp only
  repeat' split
  all_goals first | with_reducible exact h | simp +contextual (maxDischargeDepth := 50) [h, foldl_sound]

@[simp] theorem copyAgain_epoch {s0 : State} : ∀ s, EpochStays s0 s → EpochStays s0 (copyAgain s) := by
  intro s h
  unfold copyAgain
  try dsimp only
  repeat' split
  all_goals first | with_reducible exact h | simp +contextual (maxDischargeDepth := 50) [h, foldl_epoch]

@[simp] theorem refuseRecord_sound {s0 : State} : ∀ x1 s, Sound s0 s → Sound s0 (refuseRecord x1 s) := by
  intro x1 s h
  unfold refuseRecord
  try dsimp only
  repeat' split
  all_goals first | with_reducible exact h | simp +contextual (maxDischargeDepth := 50) [h, foldl_sound]

@[simp] theorem refuseRecord_epoch {s0 : State} : ∀ x1 s, EpochStays s0 s → EpochStays s0 (refuseRecord x1 s) := by
  intro x1 s h
  unfold refuseRecord
  try dsimp only
  repeat' split
  all_goals first | with_reducible exact h | simp +contextual (maxDischargeDepth := 50) [h, foldl_epoch]

@[simp] theorem takeRecord_sound {s0 : State} : ∀ x1 x2 s, Sound s0 s → Sound s0 (takeRecord x1 x2 s) := by
  intro x1 x2 s h
  unfold takeRecord
  try dsimp only
  repeat' split
  all_goals first | with_reducible exact h | simp +contextual (maxDischargeDepth := 50) [h, foldl_sound]

@[simp] theorem takeNack_sound {s0 : State} : ∀ x1 s, Sound s0 s → Sound s0 (takeNack x1 s) := by
  intro x1 s h
  unfold takeNack
  try dsimp only
  repeat' split
  all_goals first | with_reducible exact h | simp +contextual (maxDischargeDepth := 50) [h, foldl_sound]

@[simp] theorem takeNack_epoch {s0 : State} : ∀ x1 s, EpochStays s0 s → EpochStays s0 (takeNack x1 s) := by
  intro x1 s h
  unfold takeNack
  try dsimp only
  repeat' split
  all_goals first | with_reducible exact h | simp +contextual (maxDischargeDepth := 50) [h, foldl_epoch]

@[simp] theorem noteHandover_sound {s0 : State} : ∀ x1 s, Sound s0 s → Sound s0 (noteHandover x1 s) := by
  intro x1 s h
  unfold noteHandover
  try dsimp only
  repeat' split
  all_goals first | with_reducible exact h | simp +contextual (maxDischargeDepth := 50) [h, foldl_sound]

@[simp] theorem noteHandover_epoch {s0 : State} : ∀ x1 s, EpochStays s0 s → EpochStays s0 (noteHandover x1 s) := by
  intro x1 s h
  unfold noteHandover
  try dsimp only
  repeat' split
  all_goals first | with_reducible exact h | simp +contextual (maxDischargeDepth := 50) [h, foldl_epoch]

@[simp] theorem takeHandover_sound {s0 : State} : ∀ x1 s, Sound s0 s → Sound s0 (takeHandover x1 s) := by
  intro x1 s h
  unfold takeHandover
  try dsimp only
  repeat' split
  all_goals first | with_reducible exact h | simp +contextual (maxDischargeDepth := 50) [h, foldl_sound]

@[simp] theorem settleSwitch_sound {s0 : State} : ∀ s, Sound s0 s → Sound s0 (settleSwitch s) := by
  intro s h
  unfold settleSwitch
  try dsimp only
  repeat' split
  all_goals first | with_reducible exact h | simp +contextual (maxDischargeDepth := 50) [h, foldl_sound]

@[simp] theorem settleSwitch_epoch {s0 : State} : ∀ s, EpochStays s0 s → EpochStays s0 (settleSwitch s) := by
  intro s h
  unfold settleSwitch
  try dsimp only
  repeat' split
  all_goals first | with_reducible exact h | simp +contextual (maxDischargeDepth := 50) [h, foldl_epoch]

@[simp] theorem afterHandover_sound {s0 : State} : ∀ x1 x2 s, Sound s0 s → Sound s0 (afterHandover x1 x2 s) := by
  intro x1 x2 s h
  unfold afterHandover
  try dsimp only
  repeat' split
  all_goals first | with_reducible exact h | simp +contextual (maxDischargeDepth := 50) [h, foldl_sound]

@[simp] theorem afterHandover_epoch {s0 : State} : ∀ x1 x2 s, EpochStays s0 s → EpochStays s0 (afterHandover x1 x2 s) := by
  intro x1 x2 s h
  unfold afterHandover
  try dsimp only
  repeat' split
  all_goals first | with_reducible exact h | simp +contextual (maxDischargeDepth := 50) [h, foldl_epoch]

@[simp] theorem takeAck_sound {s0 : State} : ∀ x1 s, Sound s0 s → Sound s0 (takeAck x1 s) := by
  intro x1 s h
  unfold takeAck
  try dsimp only
  repeat' split
  all_goals first | with_reducible exact h | simp +contextual (maxDischargeDepth := 50) [h, foldl_sound]

@[simp] theorem takeAck_epoch {s0 : State} : ∀ x1 s, EpochStays s0 s → EpochStays s0 (takeAck x1 s) := by
  intro x1 s h
  unfold takeAck
  try dsimp only
  repeat' split
  all_goals first | with_reducible exact h | simp +contextual (maxDischargeDepth := 50) [h, foldl_epoch]

@[simp] theorem fetchedBarge_sound {s0 : State} : ∀ x1 x2 x3 x4 s, Sound s0 s → Sound s0 (fetchedBarge x1 x2 x3 x4 s) := by
  intro x1 x2 x3 x4 s h
  unfold fetchedBarge
  try dsimp only
  repeat' split
  all_goals first | with_reducible exact h | simp +contextual (maxDischargeDepth := 50) [h, foldl_sound]

@[simp] theorem fetchedBarge_epoch {s0 : State} : ∀ x1 x2 x3 x4 s, EpochStays s0 s → EpochStays s0 (fetchedBarge x1 x2 x3 x4 s) := by
  intro x1 x2 x3 x4 s h
  unfold fetchedBarge
  try dsimp only
  repeat' split
  all_goals first | with_reducible exact h | simp +contextual (maxDischargeDepth := 50) [h, foldl_epoch]

@[simp] theorem installCode_sound {s0 : State} : ∀ x1 x2 s, Sound s0 s → Sound s0 (installCode x1 x2 s) := by
  intro x1 x2 s h
  unfold installCode
  try dsimp only
  repeat' split
  all_goals first | with_reducible exact h | simp +contextual (maxDischargeDepth := 50) [h, foldl_sound]

@[simp] theorem installCode_epoch {s0 : State} : ∀ x1 x2 s, EpochStays s0 s → EpochStays s0 (installCode x1 x2 s) := by
  intro x1 x2 s h
  unfold installCode
  try dsimp only
  repeat' split
  all_goals first | with_reducible exact h | simp +contextual (maxDischargeDepth := 50) [h, foldl_epoch]

@[simp] theorem installPrograms_sound {s0 : State} : ∀ x1 x2 s, Sound s0 s → Sound s0 (installPrograms x1 x2 s) := by
  intro x1 x2 s h
  unfold installPrograms
  try dsimp only
  repeat' split
  all_goals first | with_reducible exact h | simp +contextual (maxDischargeDepth := 50) [h, foldl_sound]

@[simp] theorem installPrograms_epoch {s0 : State} : ∀ x1 x2 s, EpochStays s0 s → EpochStays s0 (installPrograms x1 x2 s) := by
  intro x1 x2 s h
  unfold installPrograms
  try dsimp only
  repeat' split
  all_goals first | with_reducible exact h | simp +contextual (maxDischargeDepth := 50) [h, foldl_epoch]

@[simp] theorem installSettings_sound {s0 : State} : ∀ x1 s, Sound s0 s → Sound s0 (installSettings x1 s) := by
  intro x1 s h
  unfold installSettings
  try dsimp only
  repeat' split
  all_goals first | with_reducible exact h | simp +contextual (maxDischargeDepth := 50) [h, foldl_sound]

@[simp] theorem installSettings_epoch {s0 : State} : ∀ x1 s, EpochStays s0 s → EpochStays s0 (installSettings x1 s) := by
  intro x1 s h
  unfold installSettings
  try dsimp only
  repeat' split
  all_goals first | with_reducible exact h | simp +contextual (maxDischargeDepth := 50) [h, foldl_epoch]

@[simp] theorem installSlot_sound {s0 : State} : ∀ x1 x2 s, Sound s0 s → Sound s0 (installSlot x1 x2 s) := by
  intro x1 x2 s h
  unfold installSlot
  try dsimp only
  repeat' split
  all_goals first | with_reducible exact h | simp +contextual (maxDischargeDepth := 50) [h, foldl_sound]

@[simp] theorem installSlot_epoch {s0 : State} : ∀ x1 x2 s, EpochStays s0 s → EpochStays s0 (installSlot x1 x2 s) := by
  intro x1 x2 s h
  unfold installSlot
  try dsimp only
  repeat' split
  all_goals first | with_reducible exact h | simp +contextual (maxDischargeDepth := 50) [h, foldl_epoch]

@[simp] theorem markPoison_sound {s0 : State} : ∀ x1 x2 s, Sound s0 s → Sound s0 (markPoison x1 x2 s) := by
  intro x1 x2 s h
  unfold markPoison
  try dsimp only
  repeat' split
  all_goals first | with_reducible exact h | simp +contextual (maxDischargeDepth := 50) [h, foldl_sound]

@[simp] theorem markPoison_epoch {s0 : State} : ∀ x1 x2 s, EpochStays s0 s → EpochStays s0 (markPoison x1 x2 s) := by
  intro x1 x2 s h
  unfold markPoison
  try dsimp only
  repeat' split
  all_goals first | with_reducible exact h | simp +contextual (maxDischargeDepth := 50) [h, foldl_epoch]

@[simp] theorem installChunk_sound {s0 s : State} (r c) (h : Sound s0 s) : Sound s0 (installChunk r c s) := by
  unfold installChunk; split
  · exact h
  · simp (maxDischargeDepth := 50) [h]
  · refine foldl_sound _ (fun s w k => ?_) _ _ (foldl_sound _ (fun s x k => installSlot_sound _ _ _ k) _ _ h)
    split <;> simp (maxDischargeDepth := 50) [k]
  · refine foldl_sound _ (fun s w k => ?_) _ _ (onCtl_sound _ h)
    split <;> simp (maxDischargeDepth := 50) [k]
  · simp (maxDischargeDepth := 50) [h]
  · exact foldl_sound _ (fun s e k => jput_sound _ _ k) _ _ h
  all_goals simp (maxDischargeDepth := 50) [h]

@[simp] theorem installChunk_epoch {s0 s : State} (r c) (h : EpochStays s0 s) : EpochStays s0 (installChunk r c s) := by
  unfold installChunk; split
  · exact h
  · simp (maxDischargeDepth := 50) [h]
  · refine foldl_epoch _ (fun s w k => ?_) _ _ (foldl_epoch _ (fun s x k => installSlot_epoch _ _ _ k) _ _ h)
    split <;> simp (maxDischargeDepth := 50) [k]
  · refine foldl_epoch _ (fun s w k => ?_) _ _ (onCtl_epoch _ h)
    split <;> simp (maxDischargeDepth := 50) [k]
  · simp (maxDischargeDepth := 50) [h]
  · exact foldl_epoch _ (fun s e k => jput_epoch _ _ k) _ _ h
  all_goals simp (maxDischargeDepth := 50) [h]

@[simp] theorem installRecord_sound {s0 : State} : ∀ x1 x2 s, Sound s0 s → Sound s0 (installRecord x1 x2 s) := by
  intro x1 x2 s h
  unfold installRecord
  try dsimp only
  repeat' split
  all_goals first | with_reducible exact h | simp +contextual (maxDischargeDepth := 50) [h, foldl_sound]

@[simp] theorem finishCatchup_sound {s0 : State} : ∀ x1 x2 s, Sound s0 s → Sound s0 (finishCatchup x1 x2 s) := by
  intro x1 x2 s h
  unfold finishCatchup
  try dsimp only
  repeat' split
  all_goals first | with_reducible exact h | simp +contextual (maxDischargeDepth := 50) [h, foldl_sound]

@[simp] theorem takeChunk_sound {s0 : State} : ∀ x1 x2 x3 s, Sound s0 s → Sound s0 (takeChunk x1 x2 x3 s) := by
  intro x1 x2 x3 s h
  unfold takeChunk
  try dsimp only
  repeat' split
  all_goals first | with_reducible exact h | simp +contextual (maxDischargeDepth := 50) [h, foldl_sound]

@[simp] theorem takeBack_sound {s0 : State} : ∀ x1 x2 s, Sound s0 s → Sound s0 (takeBack x1 x2 s) := by
  intro x1 x2 s h
  unfold takeBack
  try dsimp only
  repeat' split
  all_goals first | with_reducible exact h | simp +contextual (maxDischargeDepth := 50) [h, foldl_sound]

@[simp] theorem handBack_sound {s0 : State} : ∀ s, Sound s0 s → Sound s0 (handBack s) := by
  intro s h
  unfold handBack
  try dsimp only
  repeat' split
  all_goals first | with_reducible exact h | simp +contextual (maxDischargeDepth := 50) [h, foldl_sound]

@[simp] theorem handBack_epoch {s0 : State} : ∀ s, EpochStays s0 s → EpochStays s0 (handBack s) := by
  intro s h
  unfold handBack
  try dsimp only
  repeat' split
  all_goals first | with_reducible exact h | simp +contextual (maxDischargeDepth := 50) [h, foldl_epoch]

@[simp] theorem passProof_sound {s0 : State} : ∀ x1 s, Sound s0 s → Sound s0 (passProof x1 s) := by
  intro x1 s h
  unfold passProof
  try dsimp only
  repeat' split
  all_goals first | with_reducible exact h | simp +contextual (maxDischargeDepth := 50) [h, foldl_sound]

@[simp] theorem passProof_epoch {s0 : State} : ∀ x1 s, EpochStays s0 s → EpochStays s0 (passProof x1 s) := by
  intro x1 s h
  unfold passProof
  try dsimp only
  repeat' split
  all_goals first | with_reducible exact h | simp +contextual (maxDischargeDepth := 50) [h, foldl_epoch]

@[simp] theorem failBack_sound {s0 : State} : ∀ x1 x2 s, Sound s0 s → Sound s0 (failBack x1 x2 s) := by
  intro x1 x2 s h
  unfold failBack
  try dsimp only
  repeat' split
  all_goals first | with_reducible exact h | simp +contextual (maxDischargeDepth := 50) [h, foldl_sound]

@[simp] theorem failBack_epoch {s0 : State} : ∀ x1 x2 s, EpochStays s0 s → EpochStays s0 (failBack x1 x2 s) := by
  intro x1 x2 s h
  unfold failBack
  try dsimp only
  repeat' split
  all_goals first | with_reducible exact h | simp +contextual (maxDischargeDepth := 50) [h, foldl_epoch]

@[simp] theorem countOversize_sound {s0 : State} : ∀ x1 s, Sound s0 s → Sound s0 (countOversize x1 s) := by
  intro x1 s h
  unfold countOversize
  try dsimp only
  repeat' split
  all_goals first | with_reducible exact h | simp +contextual (maxDischargeDepth := 50) [h, foldl_sound]

@[simp] theorem countOversize_epoch {s0 : State} : ∀ x1 s, EpochStays s0 s → EpochStays s0 (countOversize x1 s) := by
  intro x1 s h
  unfold countOversize
  try dsimp only
  repeat' split
  all_goals first | with_reducible exact h | simp +contextual (maxDischargeDepth := 50) [h, foldl_epoch]

@[simp] theorem countFcs_sound {s0 : State} : ∀ x1 s, Sound s0 s → Sound s0 (countFcs x1 s) := by
  intro x1 s h
  unfold countFcs
  try dsimp only
  repeat' split
  all_goals first | with_reducible exact h | simp +contextual (maxDischargeDepth := 50) [h, foldl_sound]

@[simp] theorem countFcs_epoch {s0 : State} : ∀ x1 s, EpochStays s0 s → EpochStays s0 (countFcs x1 s) := by
  intro x1 s h
  unfold countFcs
  try dsimp only
  repeat' split
  all_goals first | with_reducible exact h | simp +contextual (maxDischargeDepth := 50) [h, foldl_epoch]

@[simp] theorem forwardDormant_sound {s0 : State} : ∀ x1 x2 x3 s, Sound s0 s → Sound s0 (forwardDormant x1 x2 x3 s) := by
  intro x1 x2 x3 s h
  unfold forwardDormant
  try dsimp only
  repeat' split
  all_goals first | with_reducible exact h | simp +contextual (maxDischargeDepth := 50) [h, foldl_sound]

@[simp] theorem forwardDormant_epoch {s0 : State} : ∀ x1 x2 x3 s, EpochStays s0 s → EpochStays s0 (forwardDormant x1 x2 x3 s) := by
  intro x1 x2 x3 s h
  unfold forwardDormant
  try dsimp only
  repeat' split
  all_goals first | with_reducible exact h | simp +contextual (maxDischargeDepth := 50) [h, foldl_epoch]

@[simp] theorem loseLock_sound {s0 : State} : ∀ x1 s, Sound s0 s → Sound s0 (loseLock x1 s) := by
  intro x1 s h
  unfold loseLock
  try dsimp only
  repeat' split
  all_goals first | with_reducible exact h | simp +contextual (maxDischargeDepth := 50) [h, foldl_sound]

@[simp] theorem loseLock_epoch {s0 : State} : ∀ x1 s, EpochStays s0 s → EpochStays s0 (loseLock x1 s) := by
  intro x1 s h
  unfold loseLock
  try dsimp only
  repeat' split
  all_goals first | with_reducible exact h | simp +contextual (maxDischargeDepth := 50) [h, foldl_epoch]

@[simp] theorem txStamp_sound {s0 : State} : ∀ x1 x2 x3 x4 s, Sound s0 s → Sound s0 (txStamp x1 x2 x3 x4 s) := by
  intro x1 x2 x3 x4 s h
  unfold txStamp
  try dsimp only
  repeat' split
  all_goals first | with_reducible exact h | simp +contextual (maxDischargeDepth := 50) [h, foldl_sound]

@[simp] theorem txStamp_epoch {s0 : State} : ∀ x1 x2 x3 x4 s, EpochStays s0 s → EpochStays s0 (txStamp x1 x2 x3 x4 s) := by
  intro x1 x2 x3 x4 s h
  unfold txStamp
  try dsimp only
  repeat' split
  all_goals first | with_reducible exact h | simp +contextual (maxDischargeDepth := 50) [h, foldl_epoch]

@[simp] theorem startFrame_sound {s0 : State} : ∀ x1 x2 x3 s, Sound s0 s → Sound s0 (startFrame x1 x2 x3 s) := by
  intro x1 x2 x3 s h
  unfold startFrame
  try dsimp only
  repeat' split
  all_goals first | with_reducible exact h | simp +contextual (maxDischargeDepth := 50) [h, foldl_sound]

@[simp] theorem startFrame_epoch {s0 : State} : ∀ x1 x2 x3 s, EpochStays s0 s → EpochStays s0 (startFrame x1 x2 x3 s) := by
  intro x1 x2 x3 s h
  unfold startFrame
  try dsimp only
  repeat' split
  all_goals first | with_reducible exact h | simp +contextual (maxDischargeDepth := 50) [h, foldl_epoch]

@[simp] theorem forward_sound {s0 : State} : ∀ x1 x2 x3 s, Sound s0 s → Sound s0 (forward x1 x2 x3 s) := by
  intro x1 x2 x3 s h
  unfold forward
  try dsimp only
  repeat' split
  all_goals first | with_reducible exact h | simp +contextual (maxDischargeDepth := 50) [h, foldl_sound]

@[simp] theorem forward_epoch {s0 : State} : ∀ x1 x2 x3 s, EpochStays s0 s → EpochStays s0 (forward x1 x2 x3 s) := by
  intro x1 x2 x3 s h
  unfold forward
  try dsimp only
  repeat' split
  all_goals first | with_reducible exact h | simp +contextual (maxDischargeDepth := 50) [h, foldl_epoch]

@[simp] theorem learn_sound {s0 : State} : ∀ x1 x2 x3 s, Sound s0 s → Sound s0 (learn x1 x2 x3 s) := by
  intro x1 x2 x3 s h
  unfold learn
  try dsimp only
  repeat' split
  all_goals first | with_reducible exact h | simp +contextual (maxDischargeDepth := 50) [h, foldl_sound]

@[simp] theorem learn_epoch {s0 : State} : ∀ x1 x2 x3 s, EpochStays s0 s → EpochStays s0 (learn x1 x2 x3 s) := by
  intro x1 x2 x3 s h
  unfold learn
  try dsimp only
  repeat' split
  all_goals first | with_reducible exact h | simp +contextual (maxDischargeDepth := 50) [h, foldl_epoch]

@[simp] theorem deliverCopy_sound {s0 : State} : ∀ x1 x2 s, Sound s0 s → Sound s0 (deliverCopy x1 x2 s) := by
  intro x1 x2 s h
  unfold deliverCopy
  try dsimp only
  repeat' split
  all_goals first | with_reducible exact h | simp +contextual (maxDischargeDepth := 50) [h, foldl_sound]

@[simp] theorem deliverCopy_epoch {s0 : State} : ∀ x1 x2 s, EpochStays s0 s → EpochStays s0 (deliverCopy x1 x2 s) := by
  intro x1 x2 s h
  unfold deliverCopy
  try dsimp only
  repeat' split
  all_goals first | with_reducible exact h | simp +contextual (maxDischargeDepth := 50) [h, foldl_epoch]

@[simp] theorem startQueued_sound {s0 : State} : ∀ x1 x2 x3 s, Sound s0 s → Sound s0 (startQueued x1 x2 x3 s) := by
  intro x1 x2 x3 s h
  unfold startQueued
  try dsimp only
  repeat' split
  all_goals first | with_reducible exact h | simp +contextual (maxDischargeDepth := 50) [h, foldl_sound]

@[simp] theorem startQueued_epoch {s0 : State} : ∀ x1 x2 x3 s, EpochStays s0 s → EpochStays s0 (startQueued x1 x2 x3 s) := by
  intro x1 x2 x3 s h
  unfold startQueued
  try dsimp only
  repeat' split
  all_goals first | with_reducible exact h | simp +contextual (maxDischargeDepth := 50) [h, foldl_epoch]

@[simp] theorem sendPtp_sound {s0 : State} : ∀ x1 x2 x3 x4 x5 x6 x7 s, Sound s0 s → Sound s0 (sendPtp x1 x2 x3 x4 x5 x6 x7 s) := by
  intro x1 x2 x3 x4 x5 x6 x7 s h
  unfold sendPtp
  try dsimp only
  repeat' split
  all_goals first | with_reducible exact h | simp +contextual (maxDischargeDepth := 50) [h, foldl_sound]

@[simp] theorem sendPtp_epoch {s0 : State} : ∀ x1 x2 x3 x4 x5 x6 x7 s, EpochStays s0 s → EpochStays s0 (sendPtp x1 x2 x3 x4 x5 x6 x7 s) := by
  intro x1 x2 x3 x4 x5 x6 x7 s h
  unfold sendPtp
  try dsimp only
  repeat' split
  all_goals first | with_reducible exact h | simp +contextual (maxDischargeDepth := 50) [h, foldl_epoch]

@[simp] theorem sendEvent_sound {s0 : State} : ∀ x1 x2 x3 x4 x5 s, Sound s0 s → Sound s0 (sendEvent x1 x2 x3 x4 x5 s) := by
  intro x1 x2 x3 x4 x5 s h
  unfold sendEvent
  try dsimp only
  repeat' split
  all_goals first | with_reducible exact h | simp +contextual (maxDischargeDepth := 50) [h, foldl_sound]

@[simp] theorem sendEvent_epoch {s0 : State} : ∀ x1 x2 x3 x4 x5 s, EpochStays s0 s → EpochStays s0 (sendEvent x1 x2 x3 x4 x5 s) := by
  intro x1 x2 x3 x4 x5 s h
  unfold sendEvent
  try dsimp only
  repeat' split
  all_goals first | with_reducible exact h | simp +contextual (maxDischargeDepth := 50) [h, foldl_epoch]

@[simp] theorem selectSelf_sound {s0 : State} : ∀ x1 s, Sound s0 s → Sound s0 (selectSelf x1 s) := by
  intro x1 s h
  unfold selectSelf
  try dsimp only
  repeat' split
  all_goals first | with_reducible exact h | simp +contextual (maxDischargeDepth := 50) [h, foldl_sound]

@[simp] theorem selectSelf_epoch {s0 : State} : ∀ x1 s, EpochStays s0 s → EpochStays s0 (selectSelf x1 s) := by
  intro x1 s h
  unfold selectSelf
  try dsimp only
  repeat' split
  all_goals first | with_reducible exact h | simp +contextual (maxDischargeDepth := 50) [h, foldl_epoch]

@[simp] theorem selectMaster_sound {s0 : State} : ∀ x1 x2 x3 s, Sound s0 s → Sound s0 (selectMaster x1 x2 x3 s) := by
  intro x1 x2 x3 s h
  unfold selectMaster
  try dsimp only
  repeat' split
  all_goals first | with_reducible exact h | simp +contextual (maxDischargeDepth := 50) [h, foldl_sound]

@[simp] theorem selectMaster_epoch {s0 : State} : ∀ x1 x2 x3 s, EpochStays s0 s → EpochStays s0 (selectMaster x1 x2 x3 s) := by
  intro x1 x2 x3 s h
  unfold selectMaster
  try dsimp only
  repeat' split
  all_goals first | with_reducible exact h | simp +contextual (maxDischargeDepth := 50) [h, foldl_epoch]

@[simp] theorem judgeAnnounce_sound {s0 : State} : ∀ x1 x2 x3 s, Sound s0 s → Sound s0 (judgeAnnounce x1 x2 x3 s) := by
  intro x1 x2 x3 s h
  unfold judgeAnnounce
  try dsimp only
  repeat' split
  all_goals first | with_reducible exact h | simp +contextual (maxDischargeDepth := 50) [h, foldl_sound]

@[simp] theorem judgeAnnounce_epoch {s0 : State} : ∀ x1 x2 x3 s, EpochStays s0 s → EpochStays s0 (judgeAnnounce x1 x2 x3 s) := by
  intro x1 x2 x3 s h
  unfold judgeAnnounce
  try dsimp only
  repeat' split
  all_goals first | with_reducible exact h | simp +contextual (maxDischargeDepth := 50) [h, foldl_epoch]

@[simp] theorem syncArrives_sound {s0 : State} : ∀ x1 x2 x3 s, Sound s0 s → Sound s0 (syncArrives x1 x2 x3 s) := by
  intro x1 x2 x3 s h
  unfold syncArrives
  try dsimp only
  repeat' split
  all_goals first | with_reducible exact h | simp +contextual (maxDischargeDepth := 50) [h, foldl_sound]

@[simp] theorem syncArrives_epoch {s0 : State} : ∀ x1 x2 x3 s, EpochStays s0 s → EpochStays s0 (syncArrives x1 x2 x3 s) := by
  intro x1 x2 x3 s h
  unfold syncArrives
  try dsimp only
  repeat' split
  all_goals first | with_reducible exact h | simp +contextual (maxDischargeDepth := 50) [h, foldl_epoch]

@[simp] theorem judgeOffset_sound {s0 : State} : ∀ x1 s, Sound s0 s → Sound s0 (judgeOffset x1 s) := by
  intro x1 s h
  unfold judgeOffset
  try dsimp only
  repeat' split
  all_goals first | with_reducible exact h | simp +contextual (maxDischargeDepth := 50) [h, foldl_sound]

@[simp] theorem judgeOffset_epoch {s0 : State} : ∀ x1 s, EpochStays s0 s → EpochStays s0 (judgeOffset x1 s) := by
  intro x1 s h
  unfold judgeOffset
  try dsimp only
  repeat' split
  all_goals first | with_reducible exact h | simp +contextual (maxDischargeDepth := 50) [h, foldl_epoch]

@[simp] theorem writeTime_sound {s0 : State} : ∀ x1 s, Sound s0 s → Sound s0 (writeTime x1 s) := by
  intro x1 s h
  unfold writeTime
  try dsimp only
  repeat' split
  all_goals first | with_reducible exact h | simp +contextual (maxDischargeDepth := 50) [h, foldl_sound]

@[simp] theorem writeTime_epoch {s0 : State} : ∀ x1 s, EpochStays s0 s → EpochStays s0 (writeTime x1 s) := by
  intro x1 s h
  unfold writeTime
  try dsimp only
  repeat' split
  all_goals first | with_reducible exact h | simp +contextual (maxDischargeDepth := 50) [h, foldl_epoch]

@[simp] theorem slew_sound {s0 : State} : ∀ x1 s, Sound s0 s → Sound s0 (slew x1 s) := by
  intro x1 s h
  unfold slew
  try dsimp only
  repeat' split
  all_goals first | with_reducible exact h | simp +contextual (maxDischargeDepth := 50) [h, foldl_sound]

@[simp] theorem slew_epoch {s0 : State} : ∀ x1 s, EpochStays s0 s → EpochStays s0 (slew x1 s) := by
  intro x1 s h
  unfold slew
  try dsimp only
  repeat' split
  all_goals first | with_reducible exact h | simp +contextual (maxDischargeDepth := 50) [h, foldl_epoch]

@[simp] theorem measured_sound {s0 : State} : ∀ x1 x2 s, Sound s0 s → Sound s0 (measured x1 x2 s) := by
  intro x1 x2 s h
  unfold measured
  try dsimp only
  repeat' split
  all_goals first | with_reducible exact h | simp +contextual (maxDischargeDepth := 50) [h, foldl_sound]

@[simp] theorem measured_epoch {s0 : State} : ∀ x1 x2 s, EpochStays s0 s → EpochStays s0 (measured x1 x2 s) := by
  intro x1 x2 s h
  unfold measured
  try dsimp only
  repeat' split
  all_goals first | with_reducible exact h | simp +contextual (maxDischargeDepth := 50) [h, foldl_epoch]

@[simp] theorem takeSync_sound {s0 : State} : ∀ x1 x2 x3 x4 x5 s, Sound s0 s → Sound s0 (takeSync x1 x2 x3 x4 x5 s) := by
  intro x1 x2 x3 x4 x5 s h
  unfold takeSync
  try dsimp only
  repeat' split
  all_goals first | with_reducible exact h | simp +contextual (maxDischargeDepth := 50) [h, foldl_sound]

@[simp] theorem takeSync_epoch {s0 : State} : ∀ x1 x2 x3 x4 x5 s, EpochStays s0 s → EpochStays s0 (takeSync x1 x2 x3 x4 x5 s) := by
  intro x1 x2 x3 x4 x5 s h
  unfold takeSync
  try dsimp only
  repeat' split
  all_goals first | with_reducible exact h | simp +contextual (maxDischargeDepth := 50) [h, foldl_epoch]

@[simp] theorem handlePtp_sound {s0 : State} : ∀ x1 x2 x3 s, Sound s0 s → Sound s0 (handlePtp x1 x2 x3 s) := by
  intro x1 x2 x3 s h
  unfold handlePtp
  try dsimp only
  repeat' split
  all_goals first | with_reducible exact h | simp +contextual (maxDischargeDepth := 50) [h, foldl_sound]

@[simp] theorem handlePtp_epoch {s0 : State} : ∀ x1 x2 x3 s, EpochStays s0 s → EpochStays s0 (handlePtp x1 x2 x3 s) := by
  intro x1 x2 x3 s h
  unfold handlePtp
  try dsimp only
  repeat' split
  all_goals first | with_reducible exact h | simp +contextual (maxDischargeDepth := 50) [h, foldl_epoch]

@[simp] theorem takeStamp_sound {s0 : State} : ∀ x1 x2 x3 s, Sound s0 s → Sound s0 (takeStamp x1 x2 x3 s) := by
  intro x1 x2 x3 s h
  unfold takeStamp
  try dsimp only
  repeat' split
  all_goals first | with_reducible exact h | simp +contextual (maxDischargeDepth := 50) [h, foldl_sound]

@[simp] theorem takeStamp_epoch {s0 : State} : ∀ x1 x2 x3 s, EpochStays s0 s → EpochStays s0 (takeStamp x1 x2 x3 s) := by
  intro x1 x2 x3 s h
  unfold takeStamp
  try dsimp only
  repeat' split
  all_goals first | with_reducible exact h | simp +contextual (maxDischargeDepth := 50) [h, foldl_epoch]

@[simp] theorem applySecond_sound {s0 : State} : ∀ x1 s, Sound s0 s → Sound s0 (applySecond x1 s) := by
  intro x1 s h
  unfold applySecond
  try dsimp only
  repeat' split
  all_goals first | with_reducible exact h | simp +contextual (maxDischargeDepth := 50) [h, foldl_sound]

@[simp] theorem applySecond_epoch {s0 : State} : ∀ x1 s, EpochStays s0 s → EpochStays s0 (applySecond x1 s) := by
  intro x1 s h
  unfold applySecond
  try dsimp only
  repeat' split
  all_goals first | with_reducible exact h | simp +contextual (maxDischargeDepth := 50) [h, foldl_epoch]

@[simp] theorem fireUnit_sound {s0 : State} : ∀ x1 x2 s, Sound s0 s → Sound s0 (fireUnit x1 x2 s) := by
  intro x1 x2 s h
  unfold fireUnit
  try dsimp only
  repeat' split
  all_goals first | with_reducible exact h | simp +contextual (maxDischargeDepth := 50) [h, foldl_sound]

@[simp] theorem fireUnit_epoch {s0 : State} : ∀ x1 x2 s, EpochStays s0 s → EpochStays s0 (fireUnit x1 x2 s) := by
  intro x1 x2 s h
  unfold fireUnit
  try dsimp only
  repeat' split
  all_goals first | with_reducible exact h | simp +contextual (maxDischargeDepth := 50) [h, foldl_epoch]

@[simp] theorem stillCrossing_sound {s0 : State} : ∀ x1 x2 x3 s, Sound s0 s → Sound s0 (stillCrossing x1 x2 x3 s).2 := by
  intro x1 x2 x3 s h
  unfold stillCrossing
  try dsimp only
  repeat' split
  all_goals first | with_reducible exact h | simp +contextual (maxDischargeDepth := 50) [h, foldl_sound]

@[simp] theorem stillCrossing_epoch {s0 : State} : ∀ x1 x2 x3 s, EpochStays s0 s → EpochStays s0 (stillCrossing x1 x2 x3 s).2 := by
  intro x1 x2 x3 s h
  unfold stillCrossing
  try dsimp only
  repeat' split
  all_goals first | with_reducible exact h | simp +contextual (maxDischargeDepth := 50) [h, foldl_epoch]

@[simp] theorem crossValue_sound {s0 : State} : ∀ x1 x2 x3 x4 s, Sound s0 s → Sound s0 (crossValue x1 x2 x3 x4 s) := by
  intro x1 x2 x3 x4 s h
  unfold crossValue
  try dsimp only
  repeat' split
  all_goals first | with_reducible exact h | simp +contextual (maxDischargeDepth := 50) [h, foldl_sound]

@[simp] theorem crossValue_epoch {s0 : State} : ∀ x1 x2 x3 x4 s, EpochStays s0 s → EpochStays s0 (crossValue x1 x2 x3 x4 s) := by
  intro x1 x2 x3 x4 s h
  unfold crossValue
  try dsimp only
  repeat' split
  all_goals first | with_reducible exact h | simp +contextual (maxDischargeDepth := 50) [h, foldl_epoch]

@[simp] theorem crossCapture_sound {s0 : State} : ∀ x1 x2 s, Sound s0 s → Sound s0 (crossCapture x1 x2 s) := by
  intro x1 x2 s h
  unfold crossCapture
  try dsimp only
  repeat' split
  all_goals first | with_reducible exact h | simp +contextual (maxDischargeDepth := 50) [h, foldl_sound]

@[simp] theorem crossCapture_epoch {s0 : State} : ∀ x1 x2 s, EpochStays s0 s → EpochStays s0 (crossCapture x1 x2 s) := by
  intro x1 x2 s h
  unfold crossCapture
  try dsimp only
  repeat' split
  all_goals first | with_reducible exact h | simp +contextual (maxDischargeDepth := 50) [h, foldl_epoch]

@[simp] theorem applyRelease_sound {s0 : State} : ∀ x1 s, Sound s0 s → Sound s0 (applyRelease x1 s) := by
  intro x1 s h
  unfold applyRelease
  try dsimp only
  repeat' split
  all_goals first | with_reducible exact h | simp +contextual (maxDischargeDepth := 50) [h, foldl_sound]

@[simp] theorem applyRelease_epoch {s0 : State} : ∀ x1 s, EpochStays s0 s → EpochStays s0 (applyRelease x1 s) := by
  intro x1 s h
  unfold applyRelease
  try dsimp only
  repeat' split
  all_goals first | with_reducible exact h | simp +contextual (maxDischargeDepth := 50) [h, foldl_epoch]

@[simp] theorem releaseFo_sound {s0 : State} : ∀ x1 s, Sound s0 s → Sound s0 (releaseFo x1 s) := by
  intro x1 s h
  unfold releaseFo
  try dsimp only
  repeat' split
  all_goals first | with_reducible exact h | simp +contextual (maxDischargeDepth := 50) [h, foldl_sound]

@[simp] theorem releaseFo_epoch {s0 : State} : ∀ x1 s, EpochStays s0 s → EpochStays s0 (releaseFo x1 s) := by
  intro x1 s h
  unfold releaseFo
  try dsimp only
  repeat' split
  all_goals first | with_reducible exact h | simp +contextual (maxDischargeDepth := 50) [h, foldl_epoch]

@[simp] theorem applyUpdate_sound {s0 s : State} (l u) (h : Sound s0 s) : Sound s0 (applyUpdate l u s) := by
  unfold applyUpdate
  refine foldl_sound _ (fun s p k => ?_) _ _ (foldl_sound _ (fun s p k => ?_) _ _ (onField_sound _ h))
  · dsimp only; split <;> simp (maxDischargeDepth := 50) [k]
  · simp (maxDischargeDepth := 50) [k]

@[simp] theorem applyUpdate_epoch {s0 s : State} (l u) (h : EpochStays s0 s) : EpochStays s0 (applyUpdate l u s) := by
  unfold applyUpdate
  refine foldl_epoch _ (fun s p k => ?_) _ _ (foldl_epoch _ (fun s p k => ?_) _ _ (onField_epoch _ h))
  · dsimp only; split <;> simp (maxDischargeDepth := 50) [k]
  · simp (maxDischargeDepth := 50) [k]

@[simp] theorem fireStrobe_sound {s0 s : State} (t) (h : Sound s0 s) : Sound s0 (fireStrobe t s) := by
  unfold fireStrobe
  refine eachAio_sound _ (fun c s k => ?_) (foldl_sound _ (fun s p k => performAction_sound _ _ _ k) _ _ (foldl_sound _ (fun s u k => ite_sound _ (applyUpdate_sound _ _ k) k) _ _ (onField_sound _ h)))
  split
  · exact ite_sound _ (openAio_sound _ _ k) k
  · exact k

@[simp] theorem fireStrobe_epoch {s0 s : State} (t) (h : EpochStays s0 s) : EpochStays s0 (fireStrobe t s) := by
  unfold fireStrobe
  refine eachAio_epoch _ (fun c s k => ?_) (foldl_epoch _ (fun s p k => performAction_epoch _ _ _ k) _ _ (foldl_epoch _ (fun s u k => ite_epoch _ (applyUpdate_epoch _ _ k) k) _ _ (onField_epoch _ h)))
  split
  · exact ite_epoch _ (openAio_epoch _ _ k) k
  · exact k

@[simp] theorem raiseSupply_sound {s0 : State} : ∀ x1 x2 s, Sound s0 s → Sound s0 (raiseSupply x1 x2 s) := by
  intro x1 x2 s h
  unfold raiseSupply
  try dsimp only
  repeat' split
  all_goals first | with_reducible exact h | simp +contextual (maxDischargeDepth := 50) [h, foldl_sound]

@[simp] theorem raiseSupply_epoch {s0 : State} : ∀ x1 x2 s, EpochStays s0 s → EpochStays s0 (raiseSupply x1 x2 s) := by
  intro x1 x2 s h
  unfold raiseSupply
  try dsimp only
  repeat' split
  all_goals first | with_reducible exact h | simp +contextual (maxDischargeDepth := 50) [h, foldl_epoch]

@[simp] theorem takeUpdate_sound {s0 : State} : ∀ x1 x2 s, Sound s0 s → Sound s0 (takeUpdate x1 x2 s) := by
  intro x1 x2 s h
  unfold takeUpdate
  try dsimp only
  repeat' split
  all_goals first | with_reducible exact h | simp +contextual (maxDischargeDepth := 50) [h, foldl_sound]

@[simp] theorem takeUpdate_epoch {s0 : State} : ∀ x1 x2 s, EpochStays s0 s → EpochStays s0 (takeUpdate x1 x2 s) := by
  intro x1 x2 s h
  unfold takeUpdate
  try dsimp only
  repeat' split
  all_goals first | with_reducible exact h | simp +contextual (maxDischargeDepth := 50) [h, foldl_epoch]

@[simp] theorem takeDownlink_sound {s0 : State} : ∀ x1 x2 s, Sound s0 s → Sound s0 (takeDownlink x1 x2 s) := by
  intro x1 x2 s h
  unfold takeDownlink
  try dsimp only
  repeat' split
  all_goals first | with_reducible exact h | simp +contextual (maxDischargeDepth := 50) [h, foldl_sound]

@[simp] theorem takeDownlink_epoch {s0 : State} : ∀ x1 x2 s, EpochStays s0 s → EpochStays s0 (takeDownlink x1 x2 s) := by
  intro x1 x2 s h
  unfold takeDownlink
  try dsimp only
  repeat' split
  all_goals first | with_reducible exact h | simp +contextual (maxDischargeDepth := 50) [h, foldl_epoch]

@[simp] theorem diagEvent_sound {s0 : State} : ∀ x1 x2 x3 x4 s, Sound s0 s → Sound s0 (diagEvent x1 x2 x3 x4 s) := by
  intro x1 x2 x3 x4 s h
  unfold diagEvent
  try dsimp only
  repeat' split
  all_goals first | with_reducible exact h | simp +contextual (maxDischargeDepth := 50) [h, foldl_sound]

@[simp] theorem diagEvent_epoch {s0 : State} : ∀ x1 x2 x3 x4 s, EpochStays s0 s → EpochStays s0 (diagEvent x1 x2 x3 x4 s) := by
  intro x1 x2 x3 x4 s h
  unfold diagEvent
  try dsimp only
  repeat' split
  all_goals first | with_reducible exact h | simp +contextual (maxDischargeDepth := 50) [h, foldl_epoch]

@[simp] theorem judgePad_sound {s0 : State} : ∀ x1 x2 s, Sound s0 s → Sound s0 (judgePad x1 x2 s) := by
  intro x1 x2 s h
  unfold judgePad
  try dsimp only
  repeat' split
  all_goals first | with_reducible exact h | simp +contextual (maxDischargeDepth := 50) [h, foldl_sound]

@[simp] theorem judgePad_epoch {s0 : State} : ∀ x1 x2 s, EpochStays s0 s → EpochStays s0 (judgePad x1 x2 s) := by
  intro x1 x2 s h
  unfold judgePad
  try dsimp only
  repeat' split
  all_goals first | with_reducible exact h | simp +contextual (maxDischargeDepth := 50) [h, foldl_epoch]

@[simp] theorem judgeCurrent_sound {s0 : State} : ∀ x1 x2 s, Sound s0 s → Sound s0 (judgeCurrent x1 x2 s) := by
  intro x1 x2 s h
  unfold judgeCurrent
  try dsimp only
  repeat' split
  all_goals first | with_reducible exact h | simp +contextual (maxDischargeDepth := 50) [h, foldl_sound]

@[simp] theorem judgeCurrent_epoch {s0 : State} : ∀ x1 x2 s, EpochStays s0 s → EpochStays s0 (judgeCurrent x1 x2 s) := by
  intro x1 x2 s h
  unfold judgeCurrent
  try dsimp only
  repeat' split
  all_goals first | with_reducible exact h | simp +contextual (maxDischargeDepth := 50) [h, foldl_epoch]

@[simp] theorem judgeLimit_sound {s0 : State} : ∀ x1 x2 s, Sound s0 s → Sound s0 (judgeLimit x1 x2 s) := by
  intro x1 x2 s h
  unfold judgeLimit
  try dsimp only
  repeat' split
  all_goals first | with_reducible exact h | simp +contextual (maxDischargeDepth := 50) [h, foldl_sound]

@[simp] theorem judgeLimit_epoch {s0 : State} : ∀ x1 x2 s, EpochStays s0 s → EpochStays s0 (judgeLimit x1 x2 s) := by
  intro x1 x2 s h
  unfold judgeLimit
  try dsimp only
  repeat' split
  all_goals first | with_reducible exact h | simp +contextual (maxDischargeDepth := 50) [h, foldl_epoch]

@[simp] theorem setFeed_sound {s0 : State} : ∀ x1 x2 s, Sound s0 s → Sound s0 (setFeed x1 x2 s) := by
  intro x1 x2 s h
  unfold setFeed
  try dsimp only
  repeat' split
  all_goals first | with_reducible exact h | simp +contextual (maxDischargeDepth := 50) [h, foldl_sound]

@[simp] theorem setFeed_epoch {s0 : State} : ∀ x1 x2 s, EpochStays s0 s → EpochStays s0 (setFeed x1 x2 s) := by
  intro x1 x2 s h
  unfold setFeed
  try dsimp only
  repeat' split
  all_goals first | with_reducible exact h | simp +contextual (maxDischargeDepth := 50) [h, foldl_epoch]

@[simp] theorem feedEvent_sound {s0 : State} : ∀ x1 x2 s, Sound s0 s → Sound s0 (feedEvent x1 x2 s) := by
  intro x1 x2 s h
  unfold feedEvent
  try dsimp only
  repeat' split
  all_goals first | with_reducible exact h | simp +contextual (maxDischargeDepth := 50) [h, foldl_sound]

@[simp] theorem feedEvent_epoch {s0 : State} : ∀ x1 x2 s, EpochStays s0 s → EpochStays s0 (feedEvent x1 x2 s) := by
  intro x1 x2 s h
  unfold feedEvent
  try dsimp only
  repeat' split
  all_goals first | with_reducible exact h | simp +contextual (maxDischargeDepth := 50) [h, foldl_epoch]

@[simp] theorem changeFeed_sound {s0 : State} : ∀ x1 x2 s, Sound s0 s → Sound s0 (changeFeed x1 x2 s) := by
  intro x1 x2 s h
  unfold changeFeed
  try dsimp only
  repeat' split
  all_goals first | with_reducible exact h | simp +contextual (maxDischargeDepth := 50) [h, foldl_sound]

@[simp] theorem changeFeed_epoch {s0 : State} : ∀ x1 x2 s, EpochStays s0 s → EpochStays s0 (changeFeed x1 x2 s) := by
  intro x1 x2 s h
  unfold changeFeed
  try dsimp only
  repeat' split
  all_goals first | with_reducible exact h | simp +contextual (maxDischargeDepth := 50) [h, foldl_epoch]

@[simp] theorem deadInputs_sound {s0 : State} : ∀ s, Sound s0 s → Sound s0 (deadInputs s) := by
  intro s h
  unfold deadInputs
  try dsimp only
  repeat' split
  all_goals first | with_reducible exact h | simp +contextual (maxDischargeDepth := 50) [h, foldl_sound]

@[simp] theorem deadInputs_epoch {s0 : State} : ∀ s, EpochStays s0 s → EpochStays s0 (deadInputs s) := by
  intro s h
  unfold deadInputs
  try dsimp only
  repeat' split
  all_goals first | with_reducible exact h | simp +contextual (maxDischargeDepth := 50) [h, foldl_epoch]

@[simp] theorem ring_sound {s0 : State} : ∀ x1 x2 x3 s, Sound s0 s → Sound s0 (ring x1 x2 x3 s) := by
  intro x1 x2 x3 s h
  unfold ring
  try dsimp only
  repeat' split
  all_goals first | with_reducible exact h | simp +contextual (maxDischargeDepth := 50) [h, foldl_sound]

@[simp] theorem ring_epoch {s0 : State} : ∀ x1 x2 x3 s, EpochStays s0 s → EpochStays s0 (ring x1 x2 x3 s) := by
  intro x1 x2 x3 s h
  unfold ring
  try dsimp only
  repeat' split
  all_goals first | with_reducible exact h | simp +contextual (maxDischargeDepth := 50) [h, foldl_epoch]

@[simp] theorem releaseResponse_sound {s0 : State} : ∀ x1 s, Sound s0 s → Sound s0 (releaseResponse x1 s) := by
  intro x1 s h
  unfold releaseResponse
  try dsimp only
  repeat' split
  all_goals first | with_reducible exact h | simp +contextual (maxDischargeDepth := 50) [h, foldl_sound]

@[simp] theorem releaseResponse_epoch {s0 : State} : ∀ x1 s, EpochStays s0 s → EpochStays s0 (releaseResponse x1 s) := by
  intro x1 s h
  unfold releaseResponse
  try dsimp only
  repeat' split
  all_goals first | with_reducible exact h | simp +contextual (maxDischargeDepth := 50) [h, foldl_epoch]

@[simp] theorem clearOverruns_sound {s0 : State} : ∀ x1 s, Sound s0 s → Sound s0 (clearOverruns x1 s) := by
  intro x1 s h
  unfold clearOverruns
  try dsimp only
  repeat' split
  all_goals first | with_reducible exact h | simp +contextual (maxDischargeDepth := 50) [h, foldl_sound]

@[simp] theorem clearOverruns_epoch {s0 : State} : ∀ x1 s, EpochStays s0 s → EpochStays s0 (clearOverruns x1 s) := by
  intro x1 s h
  unfold clearOverruns
  try dsimp only
  repeat' split
  all_goals first | with_reducible exact h | simp +contextual (maxDischargeDepth := 50) [h, foldl_epoch]

@[simp] theorem writeHalf_sound {s0 s : State} (o b) (h : Sound s0 s) : Sound s0 (writeHalf o b s) := by
  unfold writeHalf; split
  · split
    · exact onMailbox_sound _ _ (fun b k => ⟨putBytes_wf _ _ _ k.1, k.2⟩) h
    · exact h
  · exact h

@[simp] theorem writeHalf_epoch {s0 : State} : ∀ x1 x2 s, EpochStays s0 s → EpochStays s0 (writeHalf x1 x2 s) := by
  intro x1 x2 s h
  unfold writeHalf
  try dsimp only
  repeat' split
  all_goals first | with_reducible exact h | simp +contextual (maxDischargeDepth := 50) [h, foldl_epoch]

@[simp] theorem writeHalves_sound {s0 : State} : ∀ x1 x2 s, Sound s0 s → Sound s0 (writeHalves x1 x2 s) := by
  intro x1 x2 s h
  unfold writeHalves
  try dsimp only
  repeat' split
  all_goals first | with_reducible exact h | simp +contextual (maxDischargeDepth := 50) [h, foldl_sound]

@[simp] theorem writeHalves_epoch {s0 : State} : ∀ x1 x2 s, EpochStays s0 s → EpochStays s0 (writeHalves x1 x2 s) := by
  intro x1 x2 s h
  unfold writeHalves
  try dsimp only
  repeat' split
  all_goals first | with_reducible exact h | simp +contextual (maxDischargeDepth := 50) [h, foldl_epoch]

@[simp] theorem writeBeat_sound {s0 : State} : ∀ x1 s, Sound s0 s → Sound s0 (writeBeat x1 s) := by
  intro x1 s h
  unfold writeBeat
  try dsimp only
  repeat' split
  all_goals first | with_reducible exact h | simp +contextual (maxDischargeDepth := 50) [h, foldl_sound]

@[simp] theorem writeBeat_epoch {s0 : State} : ∀ x1 s, EpochStays s0 s → EpochStays s0 (writeBeat x1 s) := by
  intro x1 s h
  unfold writeBeat
  try dsimp only
  repeat' split
  all_goals first | with_reducible exact h | simp +contextual (maxDischargeDepth := 50) [h, foldl_epoch]

@[simp] theorem writeRegister_sound {s0 : State} : ∀ x1 x2 x3 s, Sound s0 s → Sound s0 (writeRegister x1 x2 x3 s) := by
  intro x1 x2 x3 s h
  unfold writeRegister
  try dsimp only
  repeat' split
  all_goals first | with_reducible exact h | simp +contextual (maxDischargeDepth := 50) [h, foldl_sound]

@[simp] theorem writeRegister_epoch {s0 : State} : ∀ x1 x2 x3 s, EpochStays s0 s → EpochStays s0 (writeRegister x1 x2 x3 s) := by
  intro x1 x2 x3 s h
  unfold writeRegister
  try dsimp only
  repeat' split
  all_goals first | with_reducible exact h | simp +contextual (maxDischargeDepth := 50) [h, foldl_epoch]

@[simp] theorem countBarError_sound {s0 : State} : ∀ s, Sound s0 s → Sound s0 (countBarError s) := by
  intro s h
  unfold countBarError
  try dsimp only
  repeat' split
  all_goals first | with_reducible exact h | simp +contextual (maxDischargeDepth := 50) [h, foldl_sound]

@[simp] theorem countBarError_epoch {s0 : State} : ∀ s, EpochStays s0 s → EpochStays s0 (countBarError s) := by
  intro s h
  unfold countBarError
  try dsimp only
  repeat' split
  all_goals first | with_reducible exact h | simp +contextual (maxDischargeDepth := 50) [h, foldl_epoch]

@[simp] theorem cutBurst_sound {s0 : State} : ∀ x1 x2 s, Sound s0 s → Sound s0 (cutBurst x1 x2 s).2 := by
  intro x1 x2 s h
  unfold cutBurst
  try dsimp only
  repeat' split
  all_goals first | with_reducible exact h | simp +contextual (maxDischargeDepth := 50) [h, foldl_sound]

@[simp] theorem cutBurst_epoch {s0 : State} : ∀ x1 x2 s, EpochStays s0 s → EpochStays s0 (cutBurst x1 x2 s).2 := by
  intro x1 x2 s h
  unfold cutBurst
  try dsimp only
  repeat' split
  all_goals first | with_reducible exact h | simp +contextual (maxDischargeDepth := 50) [h, foldl_epoch]

@[simp] theorem spiWriteBytes_sound {s0 : State} : ∀ x1 x2 s, Sound s0 s → Sound s0 (spiWriteBytes x1 x2 s) := by
  intro x1 x2 s h
  unfold spiWriteBytes
  try dsimp only
  repeat' split
  all_goals first | with_reducible exact h | simp +contextual (maxDischargeDepth := 50) [h, foldl_sound]

@[simp] theorem spiWriteBytes_epoch {s0 : State} : ∀ x1 x2 s, EpochStays s0 s → EpochStays s0 (spiWriteBytes x1 x2 s) := by
  intro x1 x2 s h
  unfold spiWriteBytes
  try dsimp only
  repeat' split
  all_goals first | with_reducible exact h | simp +contextual (maxDischargeDepth := 50) [h, foldl_epoch]

@[simp] theorem refuseConn_sound {s0 : State} : ∀ s, Sound s0 s → Sound s0 (refuseConn s) := by
  intro s h
  unfold refuseConn
  try dsimp only
  repeat' split
  all_goals first | with_reducible exact h | simp +contextual (maxDischargeDepth := 50) [h, foldl_sound]

@[simp] theorem refuseConn_epoch {s0 : State} : ∀ s, EpochStays s0 s → EpochStays s0 (refuseConn s) := by
  intro s h
  unfold refuseConn
  try dsimp only
  repeat' split
  all_goals first | with_reducible exact h | simp +contextual (maxDischargeDepth := 50) [h, foldl_epoch]

@[simp] theorem openConn_sound {s0 : State} : ∀ x1 x2 x3 s, Sound s0 s → Sound s0 (openConn x1 x2 x3 s) := by
  intro x1 x2 x3 s h
  unfold openConn
  try dsimp only
  repeat' split
  all_goals first | with_reducible exact h | simp +contextual (maxDischargeDepth := 50) [h, foldl_sound]

@[simp] theorem openConn_epoch {s0 : State} : ∀ x1 x2 x3 s, EpochStays s0 s → EpochStays s0 (openConn x1 x2 x3 s) := by
  intro x1 x2 x3 s h
  unfold openConn
  try dsimp only
  repeat' split
  all_goals first | with_reducible exact h | simp +contextual (maxDischargeDepth := 50) [h, foldl_epoch]

@[simp] theorem loseBeat_sound {s0 : State} : ∀ s, Sound s0 s → Sound s0 (loseBeat s) := by
  intro s h
  unfold loseBeat
  try dsimp only
  repeat' split
  all_goals first | with_reducible exact h | simp +contextual (maxDischargeDepth := 50) [h, foldl_sound]

@[simp] theorem loseBeat_epoch {s0 : State} : ∀ s, EpochStays s0 s → EpochStays s0 (loseBeat s) := by
  intro s h
  unfold loseBeat
  try dsimp only
  repeat' split
  all_goals first | with_reducible exact h | simp +contextual (maxDischargeDepth := 50) [h, foldl_epoch]

@[simp] theorem countErrors_sound {s0 : State} : ∀ x1 x2 s, Sound s0 s → Sound s0 (countErrors x1 x2 s) := by
  intro x1 x2 s h
  unfold countErrors
  try dsimp only
  repeat' split
  all_goals first | with_reducible exact h | simp +contextual (maxDischargeDepth := 50) [h, foldl_sound]

@[simp] theorem countErrors_epoch {s0 : State} : ∀ x1 x2 s, EpochStays s0 s → EpochStays s0 (countErrors x1 x2 s) := by
  intro x1 x2 s h
  unfold countErrors
  try dsimp only
  repeat' split
  all_goals first | with_reducible exact h | simp +contextual (maxDischargeDepth := 50) [h, foldl_epoch]

@[simp] theorem poisonWord_sound {s0 : State} : ∀ x1 x2 s, Sound s0 s → Sound s0 (poisonWord x1 x2 s) := by
  intro x1 x2 s h
  unfold poisonWord
  try dsimp only
  repeat' split
  all_goals first | with_reducible exact h | simp +contextual (maxDischargeDepth := 50) [h, foldl_sound]

@[simp] theorem poisonWord_epoch {s0 : State} : ∀ x1 x2 s, EpochStays s0 s → EpochStays s0 (poisonWord x1 x2 s) := by
  intro x1 x2 s h
  unfold poisonWord
  try dsimp only
  repeat' split
  all_goals first | with_reducible exact h | simp +contextual (maxDischargeDepth := 50) [h, foldl_epoch]

@[simp] theorem poisonIdle_sound {s0 : State} : ∀ x1 x2 s, Sound s0 s → Sound s0 (poisonIdle x1 x2 s) := by
  intro x1 x2 s h
  unfold poisonIdle
  try dsimp only
  repeat' split
  all_goals first | with_reducible exact h | simp +contextual (maxDischargeDepth := 50) [h, foldl_sound]

@[simp] theorem poisonIdle_epoch {s0 : State} : ∀ x1 x2 s, EpochStays s0 s → EpochStays s0 (poisonIdle x1 x2 s) := by
  intro x1 x2 s h
  unfold poisonIdle
  try dsimp only
  repeat' split
  all_goals first | with_reducible exact h | simp +contextual (maxDischargeDepth := 50) [h, foldl_epoch]

@[simp] theorem scrubWord_sound {s0 : State} : ∀ x1 x2 s, Sound s0 s → Sound s0 (scrubWord x1 x2 s) := by
  intro x1 x2 s h
  unfold scrubWord
  try dsimp only
  repeat' split
  all_goals first | with_reducible exact h | simp +contextual (maxDischargeDepth := 50) [h, foldl_sound]

@[simp] theorem scrubWord_epoch {s0 : State} : ∀ x1 x2 s, EpochStays s0 s → EpochStays s0 (scrubWord x1 x2 s) := by
  intro x1 x2 s h
  unfold scrubWord
  try dsimp only
  repeat' split
  all_goals first | with_reducible exact h | simp +contextual (maxDischargeDepth := 50) [h, foldl_epoch]

@[simp] theorem goOn_sound {s0 : State} : ∀ x1 s, Sound s0 s → Sound s0 (goOn x1 s) := by
  intro x1 s h
  unfold goOn
  try dsimp only
  repeat' split
  all_goals first | with_reducible exact h | simp +contextual (maxDischargeDepth := 50) [h, foldl_sound]

@[simp] theorem saveJournal_sound {s0 : State} : ∀ s, Sound s0 s → Sound s0 (saveJournal s) := by
  intro s h
  unfold saveJournal
  try dsimp only
  repeat' split
  all_goals first | with_reducible exact h | simp +contextual (maxDischargeDepth := 50) [h, foldl_sound]

@[simp] theorem saveJournal_epoch {s0 : State} : ∀ s, EpochStays s0 s → EpochStays s0 (saveJournal s) := by
  intro s h
  unfold saveJournal
  try dsimp only
  repeat' split
  all_goals first | with_reducible exact h | simp +contextual (maxDischargeDepth := 50) [h, foldl_epoch]

@[simp] theorem saveEvents_sound {s0 : State} : ∀ x1 s, Sound s0 s → Sound s0 (saveEvents x1 s) := by
  intro x1 s h
  unfold saveEvents
  try dsimp only
  repeat' split
  all_goals first | with_reducible exact h | simp +contextual (maxDischargeDepth := 50) [h, foldl_sound]

@[simp] theorem saveEvents_epoch {s0 : State} : ∀ x1 s, EpochStays s0 s → EpochStays s0 (saveEvents x1 s) := by
  intro x1 s h
  unfold saveEvents
  try dsimp only
  repeat' split
  all_goals first | with_reducible exact h | simp +contextual (maxDischargeDepth := 50) [h, foldl_epoch]

@[simp] theorem recordFlush_sound {s0 : State} : ∀ x1 x2 s, Sound s0 s → Sound s0 (recordFlush x1 x2 s) := by
  intro x1 x2 s h
  unfold recordFlush
  try dsimp only
  repeat' split
  all_goals first | with_reducible exact h | simp +contextual (maxDischargeDepth := 50) [h, foldl_sound]

@[simp] theorem recordFlush_epoch {s0 : State} : ∀ x1 x2 s, EpochStays s0 s → EpochStays s0 (recordFlush x1 x2 s) := by
  intro x1 x2 s h
  unfold recordFlush
  try dsimp only
  repeat' split
  all_goals first | with_reducible exact h | simp +contextual (maxDischargeDepth := 50) [h, foldl_epoch]

@[simp] theorem saveEpoch_sound {s0 : State} : ∀ s, Sound s0 s → Sound s0 (saveEpoch s) := by
  intro s h
  unfold saveEpoch
  try dsimp only
  repeat' split
  all_goals first | with_reducible exact h | simp +contextual (maxDischargeDepth := 50) [h, foldl_sound]

@[simp] theorem saveEpoch_epoch {s0 : State} : ∀ s, EpochStays s0 s → EpochStays s0 (saveEpoch s) := by
  intro s h
  unfold saveEpoch
  try dsimp only
  repeat' split
  all_goals first | with_reducible exact h | simp +contextual (maxDischargeDepth := 50) [h, foldl_epoch]

@[simp] theorem flush_sound {s0 : State} : ∀ s, Sound s0 s → Sound s0 (flush s) := by
  intro s h
  unfold flush
  try dsimp only
  repeat' split
  all_goals first | with_reducible exact h | simp +contextual (maxDischargeDepth := 50) [h, foldl_sound]

@[simp] theorem flush_epoch {s0 : State} : ∀ s, EpochStays s0 s → EpochStays s0 (flush s) := by
  intro s h
  unfold flush
  try dsimp only
  repeat' split
  all_goals first | with_reducible exact h | simp +contextual (maxDischargeDepth := 50) [h, foldl_epoch]

@[simp] theorem resumeKeeper_sound {s0 : State} : ∀ s, Sound s0 s → Sound s0 (resumeKeeper s) := by
  intro s h
  unfold resumeKeeper
  try dsimp only
  repeat' split
  all_goals first | with_reducible exact h | simp +contextual (maxDischargeDepth := 50) [h, foldl_sound]

@[simp] theorem resumeKeeper_epoch {s0 : State} : ∀ s, EpochStays s0 s → EpochStays s0 (resumeKeeper s) := by
  intro s h
  unfold resumeKeeper
  try dsimp only
  repeat' split
  all_goals first | with_reducible exact h | simp +contextual (maxDischargeDepth := 50) [h, foldl_epoch]

/-- Canonical memories stay so when the queue changes. -/
@[simp] theorem State_withPending_canonical (q : List Instr) (s : State) : Canonical (s.withPending q) = Canonical s := rfl

@[simp] theorem State_withPending_epoch {s0 s : State} (q : List Instr) (h : EpochStays s0 s) : EpochStays s0 (s.withPending q) := by
  exact h

@[simp] theorem drawnIf_sound {s0 : State} : ∀ x1 s, Sound s0 s → Sound s0 (drawnIf x1 s) := by
  intro x1 s h
  unfold drawnIf
  try dsimp only
  repeat' split
  all_goals first | with_reducible exact h | simp +contextual (maxDischargeDepth := 50) [h, foldl_sound]

@[simp] theorem drawnIf_epoch {s0 : State} : ∀ x1 s, EpochStays s0 s → EpochStays s0 (drawnIf x1 s) := by
  intro x1 s h
  unfold drawnIf
  try dsimp only
  repeat' split
  all_goals first | with_reducible exact h | simp +contextual (maxDischargeDepth := 50) [h, foldl_epoch]

end Sys2Proof.Machine
end

