-- ==== Sys2Proof/Laws/Lane.lean ====
section
/-! SUPPORT. What a lane instruction does once the lane issues it: the one law that the instruction statements go through. -/

namespace Sys2Proof.Machine
open Sys2Proof
/-- A lane that issues an instruction without poison takes the body's context. -/
theorem laneStep_issues {s : State} {l : LaneId} {f : WordFields} {i : Nat} {e : Exec} {c : LaneCtx} {r : OpRow}
    (body : LaneIn → LaneCtx) (opens : LaneIn → Bool) (hi : Issues s l f i e c) (hp : Unpoisoned s) (hr : rowOf f = some r) :
    laneStep s l f body opens =
      putLaneCtx i l (body (laneView s e (issued c (r.cycles + 4 * r.basin))))
        (drawnIf (opens (laneView s e (issued c (r.cycles + 4 * r.basin)))) s) := by
  obtain ⟨h1, h2, h3, h4, h5, h0, h6, h7, h8⟩ := hi
  simp only [laneStep, h1, h2, h3, h4, h5, h0, h6, h8, hr, Option.getD]
  have h9 : ¬ e.codeLen ≤ c.pc := by omega
  simp only [Bool.false_or, Bool.not_true, decide_eq_false h9, readsPoison, hp, List.isEmpty_nil]
  simp only [laneView, issued, drawnIf, Nat.add_assoc]
  rfl
end Sys2Proof.Machine
end

