-- ==== Sys2Proof/WellFormed.lean ====
section
/-! DEFINITION. Well-formed commands: every operand inside the field or the range that carries it, and a lane word
valid under R61. A command that is not well-formed stands for nothing that the hardware can be handed. -/

namespace Sys2Proof

/-- A number that fits a field of `bits` bits. -/
def fits (bits n : Nat) : Bool := n < 2 ^ bits

/-- A signed quantity of `bits` bits. -/
def fitsInt (bits : Nat) (x : Int) : Bool := decide (-(2 ^ (bits - 1) : Int) ≤ x) && decide (x < (2 ^ (bits - 1) : Int))

/-- A list of at most `most` elements. -/
def sized {α : Type} (most : Nat) (xs : List α) : Bool := xs.length ≤ most

/-- Request header, R318: session, sequence and epoch in their fields; an epoch only with AT_EPOCH. -/
def hdrOk (h : ReqHdr) : Bool :=
  fits 32 h.session && fits 32 h.sequence && fits 64 h.epoch && (h.atEpoch || h.epoch == 0) &&
    (match h.src with
     | .mailbox _ => true
     | .net s => fits 32 s && s == h.session)

/-- Tow-line frame header, R144. -/
def towHdrOk (fr : TowHdr) : Bool := fits 32 fr.owner && fits 8 fr.format && fits 32 fr.sequence

/-- A CAN frame of R295 and R296: at most 64 data bytes, as the DLC says. -/
def canFrameOk (f : CanFrame) : Bool := f.dlc < 16 && sized 64 f.data

/-- A frame of an Ethernet port (R211 to R216): 48-bit addresses, a VLAN tag in its field, a bounded length. -/
def portFrameOk (f : PortFrame) : Bool :=
  fits 48 f.dst && fits 48 f.src && fits 16 f.length &&
    (match f.vlan with
     | some (vid, pcp) => vid < 4096 && pcp < 8
     | none => true) &&
    (match f.body with
     | .barge dest port source payload => fits 128 dest && fits 16 port && fits 128 source && sized 1472 payload
     | _ => true)

/-- HEARTBEAT fields in their widths, R145. -/
def heartbeatOk (h : Heartbeat) : Bool :=
  fits 8 h.state && fits 8 h.power && fits 32 h.claim && fits 32 h.highestClaim && fits 16 h.node &&
    fits 64 h.completed && fits 64 h.mirrored

/-- Findings name usable blocks, R424. -/
def blocksOk (found : List BlockReport) : Bool := found.all fun r => decide (r.block < 1008)

/-- Every operand is inside the field or the range that carries it, and a lane word is valid under R61. -/
def Instr.wf : Instr → Bool
  | .powerUp t _ _ _ microF runs => fits 64 t && fits 32 microF && sized 14 runs
  | .restart t runs => fits 64 t && sized 14 runs
  | .keeperLockstepError t => fits 64 t
  | .keeperWatchdog t => fits 64 t
  | .taskTick t _ => fits 64 t
  | .lanePreWake t => fits 64 t
  | .laneIdleGate t _ => fits 64 t
  | .snapshotCommitStart t _ _ => fits 64 t
  | .snapshotCommitDone t _ => fits 64 t
  | .taskPreempt t _ => fits 64 t
  | .taskEnd t _ => fits 64 t
  | .epochStep t _ => fits 64 t
  | .deadlineMiss t _ => fits 64 t
  | .safeBargeRepeat t => fits 64 t
  | .weaveVote t _ position _ => fits 64 t && fits 32 position
  | .laneTrailTimeout t _ _ => fits 64 t
  | .agreeValueFormed t _ => fits 64 t
  | .resyncComplete t _ => fits 64 t
  | .resyncTimeout t _ => fits 64 t
  | .spareLoadComplete t _ => fits 64 t
  | .nop _ m o im => wordOk ⟨0x01, m, o, im⟩
  | .ld _ m o im => wordOk ⟨0x10, m, o, im⟩
  | .ldn _ m o im => wordOk ⟨0x11, m, o, im⟩
  | .and _ m o im => wordOk ⟨0x12, m, o, im⟩
  | .andn _ m o im => wordOk ⟨0x13, m, o, im⟩
  | .or _ m o im => wordOk ⟨0x14, m, o, im⟩
  | .orn _ m o im => wordOk ⟨0x15, m, o, im⟩
  | .xor _ m o im => wordOk ⟨0x16, m, o, im⟩
  | .xorn _ m o im => wordOk ⟨0x17, m, o, im⟩
  | .not _ m o im => wordOk ⟨0x1C, m, o, im⟩
  | .st _ m o im => wordOk ⟨0x18, m, o, im⟩
  | .stn _ m o im => wordOk ⟨0x19, m, o, im⟩
  | .set _ m o im => wordOk ⟨0x1A, m, o, im⟩
  | .rst _ m o im => wordOk ⟨0x1B, m, o, im⟩
  | .andOpen _ m o im => wordOk ⟨0x20, m, o, im⟩
  | .orOpen _ m o im => wordOk ⟨0x21, m, o, im⟩
  | .xorOpen _ m o im => wordOk ⟨0x22, m, o, im⟩
  | .closeBracket _ m o im => wordOk ⟨0x23, m, o, im⟩
  | .ep _ m o im => wordOk ⟨0x28, m, o, im⟩
  | .en _ m o im => wordOk ⟨0x29, m, o, im⟩
  | .ton _ m o im => wordOk ⟨0x30, m, o, im⟩
  | .tof _ m o im => wordOk ⟨0x31, m, o, im⟩
  | .tp _ m o im => wordOk ⟨0x32, m, o, im⟩
  | .ctu _ m o im => wordOk ⟨0x38, m, o, im⟩
  | .ctd _ m o im => wordOk ⟨0x39, m, o, im⟩
  | .ctud _ m o im => wordOk ⟨0x3A, m, o, im⟩
  | .ldi _ m o im => wordOk ⟨0x3F, m, o, im⟩
  | .bld _ m o im => wordOk ⟨0x40, m, o, im⟩
  | .bst _ m o im => wordOk ⟨0x41, m, o, im⟩
  | .band _ m o im => wordOk ⟨0x42, m, o, im⟩
  | .bor _ m o im => wordOk ⟨0x43, m, o, im⟩
  | .bxor _ m o im => wordOk ⟨0x44, m, o, im⟩
  | .ldw _ .t m o im => wordOk ⟨0x50, m, o, im⟩
  | .ldw _ .l m o im => wordOk ⟨0x51, m, o, im⟩
  | .ldw _ .i m o im => wordOk ⟨0x53, m, o, im⟩
  | .ldw _ _ _ _ _ => false
  | .stw _ .t m o im => wordOk ⟨0x54, m, o, im⟩
  | .stw _ .l m o im => wordOk ⟨0x55, m, o, im⟩
  | .stw _ _ _ _ _ => false
  | .movw _ m o im => wordOk ⟨0x5A, m, o, im⟩
  | .ldwh _ m o im => wordOk ⟨0x5F, m, o, im⟩
  | .add _ .t m o im => wordOk ⟨0x60, m, o, im⟩
  | .add _ .l m o im => wordOk ⟨0x61, m, o, im⟩
  | .add _ .g m o im => wordOk ⟨0x62, m, o, im⟩
  | .add _ .i m o im => wordOk ⟨0x63, m, o, im⟩
  | .sub _ .t m o im => wordOk ⟨0x64, m, o, im⟩
  | .sub _ .l m o im => wordOk ⟨0x65, m, o, im⟩
  | .sub _ .g m o im => wordOk ⟨0x66, m, o, im⟩
  | .sub _ .i m o im => wordOk ⟨0x67, m, o, im⟩
  | .mul _ .t m o im => wordOk ⟨0x68, m, o, im⟩
  | .mul _ .l m o im => wordOk ⟨0x69, m, o, im⟩
  | .mul _ .g m o im => wordOk ⟨0x6A, m, o, im⟩
  | .mul _ .i m o im => wordOk ⟨0x6B, m, o, im⟩
  | .div _ .t m o im => wordOk ⟨0x6C, m, o, im⟩
  | .div _ .l m o im => wordOk ⟨0x6D, m, o, im⟩
  | .div _ .g m o im => wordOk ⟨0x6E, m, o, im⟩
  | .div _ .i m o im => wordOk ⟨0x6F, m, o, im⟩
  | .mod _ .t m o im => wordOk ⟨0x70, m, o, im⟩
  | .mod _ .l m o im => wordOk ⟨0x71, m, o, im⟩
  | .mod _ .g m o im => wordOk ⟨0x72, m, o, im⟩
  | .mod _ .i m o im => wordOk ⟨0x73, m, o, im⟩
  | .neg _ m o im => wordOk ⟨0x76, m, o, im⟩
  | .abs _ m o im => wordOk ⟨0x7A, m, o, im⟩
  | .fadd _ .t m o im => wordOk ⟨0x80, m, o, im⟩
  | .fadd _ .l m o im => wordOk ⟨0x81, m, o, im⟩
  | .fadd _ .g m o im => wordOk ⟨0x82, m, o, im⟩
  | .fadd _ .i m o im => wordOk ⟨0x83, m, o, im⟩
  | .fsub _ .t m o im => wordOk ⟨0x84, m, o, im⟩
  | .fsub _ .l m o im => wordOk ⟨0x85, m, o, im⟩
  | .fsub _ .g m o im => wordOk ⟨0x86, m, o, im⟩
  | .fsub _ .i m o im => wordOk ⟨0x87, m, o, im⟩
  | .fmul _ .t m o im => wordOk ⟨0x88, m, o, im⟩
  | .fmul _ .l m o im => wordOk ⟨0x89, m, o, im⟩
  | .fmul _ .g m o im => wordOk ⟨0x8A, m, o, im⟩
  | .fmul _ .i m o im => wordOk ⟨0x8B, m, o, im⟩
  | .fdiv _ .t m o im => wordOk ⟨0x8C, m, o, im⟩
  | .fdiv _ .l m o im => wordOk ⟨0x8D, m, o, im⟩
  | .fdiv _ .g m o im => wordOk ⟨0x8E, m, o, im⟩
  | .fdiv _ .i m o im => wordOk ⟨0x8F, m, o, im⟩
  | .fsqrt _ m o im => wordOk ⟨0x92, m, o, im⟩
  | .cmpeq _ .t m o im => wordOk ⟨0xA0, m, o, im⟩
  | .cmpeq _ .l m o im => wordOk ⟨0xA1, m, o, im⟩
  | .cmpeq _ .g m o im => wordOk ⟨0xA2, m, o, im⟩
  | .cmpeq _ .i m o im => wordOk ⟨0xA3, m, o, im⟩
  | .cmpne _ .t m o im => wordOk ⟨0xA4, m, o, im⟩
  | .cmpne _ .l m o im => wordOk ⟨0xA5, m, o, im⟩
  | .cmpne _ .g m o im => wordOk ⟨0xA6, m, o, im⟩
  | .cmpne _ .i m o im => wordOk ⟨0xA7, m, o, im⟩
  | .cmplt _ .t m o im => wordOk ⟨0xA8, m, o, im⟩
  | .cmplt _ .l m o im => wordOk ⟨0xA9, m, o, im⟩
  | .cmplt _ .g m o im => wordOk ⟨0xAA, m, o, im⟩
  | .cmplt _ .i m o im => wordOk ⟨0xAB, m, o, im⟩
  | .cmple _ .t m o im => wordOk ⟨0xAC, m, o, im⟩
  | .cmple _ .l m o im => wordOk ⟨0xAD, m, o, im⟩
  | .cmple _ .g m o im => wordOk ⟨0xAE, m, o, im⟩
  | .cmple _ .i m o im => wordOk ⟨0xAF, m, o, im⟩
  | .cmpgt _ .t m o im => wordOk ⟨0xB0, m, o, im⟩
  | .cmpgt _ .l m o im => wordOk ⟨0xB1, m, o, im⟩
  | .cmpgt _ .g m o im => wordOk ⟨0xB2, m, o, im⟩
  | .cmpgt _ .i m o im => wordOk ⟨0xB3, m, o, im⟩
  | .cmpge _ .t m o im => wordOk ⟨0xB4, m, o, im⟩
  | .cmpge _ .l m o im => wordOk ⟨0xB5, m, o, im⟩
  | .cmpge _ .g m o im => wordOk ⟨0xB6, m, o, im⟩
  | .cmpge _ .i m o im => wordOk ⟨0xB7, m, o, im⟩
  | .cvt _ m o im => wordOk ⟨0xBA, m, o, im⟩
  | .limit _ m o im => wordOk ⟨0xBE, m, o, im⟩
  | .scale _ m o im => wordOk ⟨0xC2, m, o, im⟩
  | .jmp _ m o im => wordOk ⟨0xE0, m, o, im⟩
  | .jmpc _ m o im => wordOk ⟨0xE1, m, o, im⟩
  | .jmpcn _ m o im => wordOk ⟨0xE2, m, o, im⟩
  | .call _ m o im => wordOk ⟨0xE3, m, o, im⟩
  | .ret _ m o im => wordOk ⟨0xE4, m, o, im⟩
  | .tend _ m o im => wordOk ⟨0xE5, m, o, im⟩
  | .tnow _ m o im => wordOk ⟨0xF0, m, o, im⟩
  | .agree t _ m o im => fits 64 t && wordOk ⟨0xF1, m, o, im⟩
  | .stagingCopyComplete t => fits 64 t
  | .exchangeWindowExpiry t => fits 64 t
  | .heartbeatSend t => fits 64 t
  | .heartbeatReceive t fr hb => fits 64 t && towHdrOk fr && heartbeatOk hb
  | .manifestReceive t fr _ => fits 64 t && towHdrOk fr
  | .agreementReceive t fr _ => fits 64 t && towHdrOk fr
  | .mirrorReceive t fr _ => fits 64 t && towHdrOk fr
  | .nackReceive t fr _ => fits 64 t && towHdrOk fr
  | .handoverReceive t fr _ => fits 64 t && towHdrOk fr
  | .handoverAckReceive t fr _ => fits 64 t && towHdrOk fr
  | .handoverAckTimeout t => fits 64 t
  | .catchupReceive t fr readEpoch _ => fits 64 t && towHdrOk fr && fits 64 readEpoch
  | .towLaneLost t _ _ crcErrors => fits 64 t && fits 64 crcErrors
  | .towSpareLaneJoined t _ => fits 64 t
  | .towLineSilence t => fits 64 t
  | .checkWindowExpiry t => fits 64 t
  | .statusBargeSend t => fits 64 t
  | .claimTieStatusSend t => fits 64 t
  | .offerTimeout t => fits 64 t
  | .pairJoinWaitExpiry t => fits 64 t
  | .manifestTimeout t _ => fits 64 t
  | .bargeFetchTimeout t _ => fits 64 t
  | .compareMissingTimeout t _ node release => fits 64 t && fits 32 node && fits 64 release
  | .coldTakeoverReady t => fits 64 t
  | .switchPointReached t => fits 64 t
  | .switchQueueDrained t => fits 64 t
  | .switchPointTimeout t => fits 64 t
  | .proofDwellExpiry t => fits 64 t
  | .proofCheckTimeout t _ => fits 64 t
  | .proofDueExpiry t => fits 64 t
  | .claimRefresh t => fits 64 t
  | .nodeClaimLagCheck t node => fits 64 t && fits 32 node
  | .inputBargeReceive t _ source bytes => fits 64 t && fits 32 source && sized 1472 bytes
  | .outputBargeReceive t _ source bytes => fits 64 t && fits 32 source && sized 1472 bytes
  | .safeBargeReceive t _ source bytes => fits 64 t && fits 32 source && sized 1472 bytes
  | .claimBargeReceive t _ source bytes => fits 64 t && fits 32 source && sized 1472 bytes
  | .statusBargeReceive t _ source bytes => fits 64 t && fits 32 source && sized 1472 bytes
  | .tokenBucketRefill t node => fits 64 t && fits 32 node
  | .keyEpochSwitch t => fits 64 t
  | .keyOverlapExpiry t => fits 64 t
  | .portFrameReceive t _ frame => fits 64 t && portFrameOk frame
  | .linkStateChange t _ _ _ speed => fits 64 t && fits 32 speed
  | .frameTransmitStart t _ => fits 64 t
  | .gateTooShortDiscard t _ => fits 64 t
  | .gclEntryChange t _ => fits 64 t
  | .gclSwitch t _ => fits 64 t
  | .addressAgeing t address => fits 64 t && fits 48 address
  | .mrpRingEvent t _ _ => fits 64 t
  | .ptpSyncSend t _ => fits 64 t
  | .ptpDelayReqSend t _ => fits 64 t
  | .ptpMessageReceive t _ domain _ => fits 64 t && fits 8 domain
  | .txtsQueueService t _ => fits 64 t
  | .syncTimeout t => fits 64 t
  | .holdoverGmTimeout t => fits 64 t
  | .countWrap => true
  | .timestampExpiry t _ => fits 64 t
  | .ppsEdge t => fits 64 t
  | .ppsLostTimeout t => fits 64 t
  | .triggerFire t _ => fits 64 t
  | .fiCaptureEdge t _ _ => fits 64 t
  | .strobeFire t => fits 64 t
  | .downlinkFrameSend t => fits 64 t
  | .downlinkFrameReceive t _ => fits 64 t
  | .uplinkFrameSend t => fits 64 t
  | .uplinkFrameReceive t _ => fits 64 t
  | .dioDebounceExpiry t _ => fits 64 t
  | .fieldSilenceTimeout t => fits 64 t
  | .fieldLostTimeout t => fits 64 t
  | .monitorWatchdogReset t => fits 64 t
  | .doDiagFilterExpiry t _ _ => fits 64 t
  | .doThermalTrip t _ => fits 64 t
  | .doThermalRetry t _ => fits 64 t
  | .doRetryCountReset t _ => fits 64 t
  | .parallelDioBreak t _ => fits 64 t
  | .fiFailsafeTimeout t _ => fits 64 t
  | .foShortTimeout t _ => fits 64 t
  | .fieldSupplyChange t _ microV => fits 64 t && fitsInt 32 microV
  | .loopSupplyAdjust t _ padMicroV => fits 64 t && fitsInt 32 padMicroV
  | .loopSupplyFall t _ => fits 64 t
  | .readbackSample t _ rawNanoA => fits 64 t && fitsInt 32 rawNanoA
  | .complianceFilterExpiry t _ => fits 64 t
  | .aoThermalTrip t _ => fits 64 t
  | .aoThermalRecover t _ => fits 64 t
  | .aioConversion t _ raw => fits 64 t && fitsInt 32 raw
  | .aioParallelSilenceExpiry t => fits 64 t
  | .trimStepTimeout t _ => fits 64 t
  | .canFrameReceive t _ sof frame _ _ => fits 64 t && fits 64 sof && canFrameOk frame
  | .canTxoRelease t _ _ => fits 64 t
  | .canFrameTransmitted t _ sof => fits 64 t && fits 64 sof
  | .canBusError t _ _ _ => fits 64 t
  | .canBusoffRecoveryComplete t _ => fits 64 t
  | .autobaudDwellExpiry t _ => fits 64 t
  | .clashClearTimeout t _ => fits 64 t
  | .canSendTimeout t _ journal => fits 64 t && fits 64 journal
  | .canWake t _ _ => fits 64 t
  | .doorbellRing t _ _ _ => fits 64 t
  | .responseRelease t _ => fits 64 t
  | .sluiceOvfClear _ => true
  | .registerWrite t offset width _ => fits 64 t && fits 32 offset && (width == 1 || width == 2 || width == 4)
  | .spiWrite t address data => fits 64 t && fits 24 address && sized 4096 data
  | .spiRead t address count => fits 64 t && fits 24 address && fits 32 count
  | .spiStatus => true
  | .spiReset t => fits 64 t
  | .pcieReset t => fits 64 t
  | .netConnectionOpen t _ _ => fits 64 t
  | .netConnectionClose t session => fits 64 t && fits 32 session
  | .netMgmtIdleExpiry t session => fits 64 t && fits 32 session
  | .hostBeatSample t => fits 64 t
  | .keeperBeatTick => true
  | .classEResponseTimeout t journal => fits 64 t && fits 64 journal
  | .subscriptionNotify t _ => fits 64 t
  | .unknownCommandRequest t h code => fits 64 t && hdrOk h && fits 32 code
  | .idGet t h => fits 64 t && hdrOk h
  | .stateGet t h => fits 64 t && hdrOk h
  | .healthGet t h => fits 64 t && hdrOk h
  | .stateRelease t h => fits 64 t && hdrOk h
  | .setRead t h source ids => fits 64 t && hdrOk h && fits 8 source && sized 4064 ids && ids.all (fits 32)
  | .setWrite t h entries => fits 64 t && hdrOk h && (sized 4064 entries && entries.all fun p => fits 32 p.1 && sized 256 p.2)
  | .setCommit t h expected => fits 64 t && hdrOk h && fits 32 expected
  | .setCommitTurnStart t journal => fits 64 t && fits 64 journal
  | .settingsFirstCopyWritten t journal => fits 64 t && fits 64 journal
  | .settingsSecondCopyWritten t journal => fits 64 t && fits 64 journal
  | .setExportBuild t h => fits 64 t && hdrOk h
  | .setExportRead t h offset journal => fits 64 t && hdrOk h && fits 32 offset && fits 64 journal
  | .prgLoadBegin t h version length => fits 64 t && hdrOk h && fits 32 version && fits 32 length
  | .prgLoadData t h version offset data => fits 64 t && hdrOk h && fits 32 version && fits 32 offset && sized 4064 data
  | .prgLoadEnd t h version => fits 64 t && hdrOk h && fits 32 version
  | .prgLoadAbort t h version => fits 64 t && hdrOk h && fits 32 version
  | .prgVerify t h version => fits 64 t && hdrOk h && fits 32 version
  | .prgExchange t h version => fits 64 t && hdrOk h && fits 32 version
  | .prgStart t h mask => fits 64 t && hdrOk h && fits 16 mask
  | .prgStop t h mask => fits 64 t && hdrOk h && fits 16 mask
  | .imgRead t h ranges => fits 64 t && hdrOk h && (sized 4064 ranges && ranges.all fun p => fits 32 p.1 && fits 32 p.2)
  | .imgWrite t h writes => fits 64 t && hdrOk h && (sized 4064 writes && writes.all fun p => fits 32 p.1 && fits 8 p.2.1)
  | .imgSubscribeStart t h interval ranges => fits 64 t && hdrOk h && fits 32 interval && (sized 4064 ranges && ranges.all fun p => fits 32 p.1 && fits 32 p.2)
  | .imgSubscribeStop t h => fits 64 t && hdrOk h
  | .frcSet t h writes => fits 64 t && hdrOk h && (sized 4064 writes && writes.all fun p => fits 32 p.1 && fits 8 p.2.1)
  | .frcClear t h _ tags => fits 64 t && hdrOk h && sized 4064 tags && tags.all (fits 32)
  | .frcList t h first => fits 64 t && hdrOk h && fits 32 first
  | .pairStatus t h => fits 64 t && hdrOk h
  | .pairSwitch t h => fits 64 t && hdrOk h
  | .pairProof t h => fits 64 t && hdrOk h
  | .pairRelease t h => fits 64 t && hdrOk h
  | .timeStatus t h _ => fits 64 t && hdrOk h
  | .trgArm t h u mode action channel _ target period _ => fits 64 t && hdrOk h && fits 32 u && fits 32 mode && fits 32 action && fits 32 channel && fits 64 target && fits 64 period
  | .trgCancel t h u => fits 64 t && hdrOk h && fits 32 u
  | .ioStatus t h group first => fits 64 t && hdrOk h && fits 32 group && fits 32 first
  | .ioTrimStart t h channel => fits 64 t && hdrOk h && fits 32 channel
  | .ioTrimPoint1 t h channel _ journal => fits 64 t && hdrOk h && fits 32 channel && fits 64 journal
  | .ioTrimPoint2 t h channel _ journal => fits 64 t && hdrOk h && fits 32 channel && fits 64 journal
  | .ioTrimCommit t h channel journal => fits 64 t && hdrOk h && fits 32 channel && fits 64 journal
  | .ioTrimAbort t h channel journal => fits 64 t && hdrOk h && fits 32 channel && fits 64 journal
  | .ioResetFault t h group _ _ => fits 64 t && hdrOk h && fits 32 group
  | .canStatus t h channel _ => fits 64 t && hdrOk h && fits 32 channel
  | .canSend t h channel frames => fits 64 t && hdrOk h && fits 32 channel && (sized 64 frames && frames.all fun p => canFrameOk p.1)
  | .canRecv t h channel queue maximum => fits 64 t && hdrOk h && fits 32 channel && fits 32 queue && fits 32 maximum
  | .canConfigSetMode t h channel mode _ candidates => fits 64 t && hdrOk h && fits 32 channel && fits 32 mode && sized 16 candidates
  | .canConfigRestart t h channel => fits 64 t && hdrOk h && fits 32 channel
  | .evtRead t h first maximum area => fits 64 t && hdrOk h && fits 32 first && fits 32 maximum && fits 32 area
  | .evtMark t h code data => fits 64 t && hdrOk h && fits 32 code && sized 4064 data
  | .bistResult t h => fits 64 t && hdrOk h
  | .bistRun t h block _ => fits 64 t && hdrOk h && fits 32 block
  | .bistRunComplete t _ found => fits 64 t && blocksOk found
  | .bistBgIntervalExpiry t _ => fits 64 t
  | .bistBgRetryExpiry t _ => fits 64 t
  | .updOpen t h header => fits 64 t && hdrOk h && sized 256 header
  | .updChunk t h offset data => fits 64 t && hdrOk h && fits 32 offset && sized 4064 data
  | .updCloseApply t h => fits 64 t && hdrOk h
  | .updCloseAbandon t h => fits 64 t && hdrOk h
  | .updActivate t h _ => fits 64 t && hdrOk h
  | .updStatus t h => fits 64 t && hdrOk h
  | .updateLeaseIdleExpiry t => fits 64 t
  | .bootConfirmTimeout t => fits 64 t
  | .pairUpdateStepAdvance t => fits 64 t
  | .pairUpdateStepTimeout t => fits 64 t
  | .secChallenge t h level => fits 64 t && hdrOk h && fits 32 level
  | .secUnlock t h nonce slot signature => fits 64 t && hdrOk h && fits 32 nonce && fits 32 slot && sized 96 signature
  | .secLifecycle t h target slot nonce signature => fits 64 t && hdrOk h && fits 64 target && fits 32 slot && fits 32 nonce && sized 96 signature
  | .nonceExpiry t nonce => fits 64 t && fits 32 nonce
  | .lockoutExpiry t => fits 64 t
  | .pwrSetPowerState t h code => fits 64 t && hdrOk h && fits 32 code
  | .pwrSetRestart t h => fits 64 t && hdrOk h
  | .pwrGet t h => fits 64 t && hdrOk h
  | .jnlGetEntries t h id maximum => fits 64 t && hdrOk h && fits 64 id && fits 32 maximum
  | .jnlGetAttachment t h id offset => fits 64 t && hdrOk h && fits 64 id && fits 32 offset
  | .quoSet t h cls quota => fits 64 t && hdrOk h && fits 32 cls && fits 32 quota
  | .quoGet t h cls => fits 64 t && hdrOk h && fits 32 cls
  | .wearGet t h category first => fits 64 t && hdrOk h && fits 32 category && fits 32 first
  | .wakePadLow t => fits 64 t
  | .wakeFrameReceive t _ vlan udpPort payload => fits 64 t && fits 12 vlan && fits 16 udpPort && sized 1472 payload
  | .dormantWake t => fits 64 t
  | .dormantScrubWindow t codewords => fits 64 t && fits 32 codewords
  | .operatingHoursTick t => fits 64 t
  | .scrubCodeword t codeword errors => fits 64 t && fits 32 codeword && fits 32 errors
  | .basinMigrationComplete t _ => fits 64 t
  | .eventRecordWrite t found => fits 64 t && blocksOk found
  | .refMissingEdge t => fits 64 t
  | .refDeviationCheck t thisPpb otherPpb xtalPpb => fits 64 t && fitsInt 32 thisPpb && fitsInt 32 otherPpb && fitsInt 32 xtalPpb
  | .refBothFail t => fits 64 t
  | .refHoldExpiry t => fits 64 t
  | .refRecovered t _ runs => fits 64 t && sized 14 runs
  | .xtalFail t => fits 64 t
  | .rcCalibration t => fits 64 t
  | .bypass t => fits 64 t
  | .idcode t => fits 64 t
  | .samplePreload t => fits 64 t
  | .extest t pads => fits 64 t && sized 512 pads
  | .dbgStatus t => fits 64 t
  | .dbgOpen t _ => fits 64 t
  | .dbgClose t => fits 64 t
  | .trace t => fits 64 t
  | .memRead t _ address count => fits 64 t && fits 32 address && fits 32 count
  | .memWrite t _ address data => fits 64 t && fits 32 address && sized 4064 data
  | .halt t _ => fits 64 t
  | .keyProgram t _ key => fits 64 t && sized 97 key
  | .bistGo t runs => fits 64 t && sized 14 runs
  | .debugIdleExpiry t => fits 64 t
  | .feedRangeChange t _ microV => fits 64 t && fitsInt 32 microV
  | .holdupFlush t => fits 64 t
  | .holdupExhausted => true
  | .holdupCharged t => fits 64 t
  | .holdupMeasure t microF => fits 64 t && fits 32 microF
  | .keeperRestartComplete t => fits 64 t
  | .imageRebuildComplete t found => fits 64 t && blocksOk found
  | .bar0Read offset width => fits 32 offset && (width == 1 || width == 2 || width == 4 || width == 8)
  | .dioComparatorChange t _ _ => fits 64 t
  | .taiSecondApply t => fits 64 t

end Sys2Proof
end

