-- ==== Sys2Proof/Tests/Slice0.lean ====
section
/-! SUPPORT. The model's own tests: words of the manual, terms that are not well-formed, and for each statement of
Certificates/Slice0/Obligations.lean states that meet its hypotheses, clause by clause. -/

set_option Elab.async false

namespace Sys2Proof.Tests

open Sys2Proof Sys2Proof.Machine

/-! ### States in which a lane runs -/

/-- A lane's context as the lane begins an execution, changed by g. -/
def ctx (g : LaneCtx → LaneCtx) : LaneCtx :=
  g { lane := 0, pc := 0, acc := false, fc := true, nest := [], ret := [], w := Vector.replicate 16 0, frame := [], posted := [],
      cycles := 0, agrees := 0, waiting := none, ended := false, halted := none, stalled := false, fullSince := none }

/-- An execution of task 0 with these lanes, changed by g. -/
def exc (ls : List LaneCtx) (g : Exec → Exec) : Exec :=
  g { task := 0, tick := 1000, phase := .running, baseEpoch := 0, version := 1, codeLen := 8, routines := [4], frame := 16,
      deadline := 500000, offset := 0, staleLimit := 0, margin := 0, trailLimit := 1000, slots := [], samples := [], arrivals := [], compared := 0, view := [],
      lanes := ls, landed := [], agreeSince := none, agreed := [], endAt := none, shadow := false, held := false, unmatched := false,
      manifest := none, manifestAt := none, agreements := [], uncompared := false, preemptions := 0 }

/-- A tag of task 0. -/
def decl (o : Origin) : TagDecl :=
  { type := .int32, writer := some 0, origin := o, published := true, substIsLast := false, node := 2, point := 3, initial := 1 }

/-- A program with one task, whose words lie at 0x50 of its container. -/
def prog : Program :=
  { version := 7, instanceCount := 1, tags := [(5, decl .computed), (6, decl .remote)],
    codes := [{ task := 0, frame := 16, words := [0xE500000000000000], routines := [], view := [6] }], places := [(0, 0x50)], image := [1, 2, 3] }

/-- Reset with other tasks' and lanes' state. -/
def withCtl (g : Control → Control) : State := { State.reset with ctl := g State.reset.ctl }

/-- Reset with these executions. -/
def running (es : List Exec) : State := withCtl fun c => { c with execs := es }

/-- Lane 0 alone runs that context, and issues the word. -/
abbrev Fetches (g : LaneCtx → LaneCtx) (f : WordFields) : Prop :=
  Issues (running [exc [ctx g] id]) 0 f 0 (exc [ctx g] id) (ctx g) ∧ Unpoisoned (running [exc [ctx g] id])

/-- A record of instance 5 as the STATE half holds it. -/
def inst (g : Inst → Inst) : Inst :=
  g { kind := .ton, task := 0, value := 0, lastT := 0, preset := 0, isNew := false, resume := false, ts := .idle, q := false, prev2 := false, prev := false }

/-- Lane 0 finds this record for the instance 5 that the word names. -/
abbrev Finds (k : InstKind) (i : Inst) (p : Inst → Prop) : Prop :=
  laneInst (laneView (withCtl fun c => { c with execs := [exc [ctx id] id], insts := [(5, i)] }) (exc [ctx id] id) (ctx id)) 5 k = i ∧ p i

/-! ### Hypotheses of the statements on lane instructions -/

theorem test_hyps_BitLogic_loads :
    ∀ op ∈ ([0x10, 0x11, 0x12, 0x13, 0x14, 0x15, 0x16, 0x17] : List (BitVec 8)), Fetches id ⟨op, 4, 0, 63⟩ ∧ Fetches id ⟨op, 0, 0xFFFFF, 0⟩ := by
  decide +kernel

theorem test_hyps_BitLogic_stores :
    ∀ op ∈ ([0x18, 0x19, 0x1A, 0x1B] : List (BitVec 8)), ∀ a ∈ [true, false],
      Fetches (fun c => { c with acc := a }) ⟨op, 0, 0xFFFFF, 0⟩ ∧ Fetches (fun c => { c with acc := a }) ⟨op, 1, 7, 63⟩ ∧
      Fetches (fun c => { c with acc := a }) ⟨op, 2, 127, 0⟩ ∧ Fetches (fun c => { c with acc := a }) ⟨op, 4, 15, 63⟩ := by decide +kernel

theorem test_hyps_BitLogic_local : laneLocal (laneView State.reset (exc [ctx id] id) (ctx id)) 1 = some 0 := rfl

theorem test_hyps_BitLogic_brackets :
    ∀ op ∈ ([0x01, 0x1C, 0x20, 0x21, 0x22, 0x23] : List (BitVec 8)), Fetches id ⟨op, 0, 0, 0⟩ ∧
      Fetches (fun c => { c with nest := List.replicate 31 ⟨true, false, .or⟩ }) ⟨op, 0, 0, 0⟩ ∧
      Fetches (fun c => { c with nest := List.replicate 32 ⟨true, false, .or⟩ }) ⟨op, 0, 0, 0⟩ := by decide +kernel

theorem test_hyps_EdgesAndBlocks :
    ∀ op ∈ ([0x28, 0x29, 0x3F, 0x40, 0x41, 0x42, 0x43, 0x44] : List (BitVec 8)),
      Fetches id ⟨op, 0, if op.toNat = 0x3F then 15 else 0, if op.toNat < 0x40 then 5 else 0xF0000000⟩ := by decide +kernel

theorem test_hyps_TimersAndCounters :
    (∀ op ∈ ([0x30, 0x31, 0x32] : List (BitVec 8)), Fetches id ⟨op, 0, 0, 5⟩ ∧ Fetches (fun c => { c with acc := true }) ⟨op, 0xC, 15, 5⟩) ∧
    (∀ k ∈ ([.ton, .tof, .tp] : List InstKind), ∀ ts ∈ ([.idle, .running, .done] : List TState), ∀ q ∈ [true, false],
      Finds k (inst fun i => { i with kind := k, ts := ts, q := q, prev := q, isNew := q }) fun i => i.ts = ts ∧ i.q = q ∧ i.prev = q ∧ i.isNew = q) ∧
    (∀ op ∈ ([0x38, 0x39, 0x3A] : List (BitVec 8)), ∀ m ∈ ([0, 4, 8, 12] : List (BitVec 4)), ∀ a ∈ [true, false], wordOk ⟨op, m, 15, 5⟩ = true →
      Fetches (fun c => { c with acc := a }) ⟨op, m, 15, 5⟩) ∧
    wordOk ⟨0x38, 0, 15, 5⟩ = true ∧ wordOk ⟨0x39, 12, 15, 5⟩ = true ∧ wordOk ⟨0x3A, 4, 15, 5⟩ = true := by refine ⟨?_, ?_, ?_, ?_, ?_, ?_⟩ <;> decide +kernel

theorem test_hyps_WordMovesAndIntegers :
    (∀ op ∈ ([0x50, 0x54, 0x60, 0x64, 0x68, 0x6C, 0x70] : List (BitVec 8)), ∀ k ∈ ([0, 1, 2, 3] : List (BitVec 8)),
      wordOk ⟨op + k, 7, 15, 0⟩ = true → Fetches id ⟨op + k, 7, 15, 0⟩) ∧
    (∀ op ∈ ([0x50, 0x51, 0x53, 0x54, 0x55, 0x5A, 0x60, 0x61, 0x62, 0x63, 0x66, 0x6A, 0x6E, 0x72, 0x73, 0x76, 0x7A] : List (BitVec 8)),
      wordOk ⟨op, 7, 15, 0xF0000000⟩ = true) ∧ Fetches id ⟨0x5A, 10, 15, 0xF0000000⟩ ∧
    Fetches id ⟨0x5F, 0, 15, 0xFFFFFFFF⟩ ∧ Fetches id ⟨0x76, 2, 15, 0xF0000000⟩ ∧ Fetches id ⟨0x7A, 6, 0, 0⟩ ∧
    (laneLocal (laneView State.reset (exc [ctx id] id) (ctx id)) 1).isSome = true := by
  refine ⟨?_, ?_, ?_, ?_, ?_, ?_, ?_⟩ <;> decide +kernel

theorem test_hyps_RealsComparisonsConversions :
    (∀ op ∈ ([0x80, 0x84, 0x88, 0x8C, 0x83, 0x86, 0x8F, 0x92] : List (BitVec 8)), Fetches id ⟨op, 9, 15, 0xF0000000⟩) ∧
    (∀ op ∈ ([0xA0, 0xA5, 0xAA, 0xAF, 0xB0, 0xB5] : List (BitVec 8)), Fetches id ⟨op, 1, 15, 0xF0000000⟩) ∧
    Fetches id ⟨0xBA, 10, 15, 0xFA000000⟩ ∧ Fetches id ⟨0xBE, 8, 15, 0xF0000000⟩ ∧ Fetches id ⟨0xC2, 8, 0, 0⟩ ∧
    isRealType .real32 = true ∧ (realOf .real32 0x7FC00000).isNan = true ∧ isRealType .int16 = false ∧
    compareVals .int16 1 0 = some .gt ∧ compareVals .int16 0 0 = some .eq ∧ compareVals .real32 0x7FC00000 0 = none := by
  refine ⟨?_, ?_, ?_, ?_, ?_, ?_, ?_, ?_, ?_, ?_, ?_⟩ <;> decide +kernel

set_option maxRecDepth 8000 in
theorem test_hyps_ControlFlowAndAgreement :
    (∀ op ∈ ([0xE0, 0xE1, 0xE2, 0xE3] : List (BitVec 8)), Fetches id ⟨op, 0, 0, 3⟩ ∧ Fetches id ⟨op, 0, 0, 8⟩ ∧
      Fetches (fun c => { c with acc := true }) ⟨op, 0, 0, 4⟩) ∧
    routineOf (exc [] id) 3 = routineOf (exc [] id) 0 ∧ routineOf (exc [] id) 4 ≠ routineOf (exc [] id) 0 ∧
    Fetches (fun c => { c with ret := List.replicate 15 1 }) ⟨0xE3, 0, 0, 4⟩ ∧
      Fetches (fun c => { c with ret := List.replicate 16 1 }) ⟨0xE3, 0, 0, 4⟩ ∧
    Fetches (fun c => { c with ret := [7] }) ⟨0xE4, 0, 0, 0⟩ ∧ Fetches id ⟨0xE4, 0, 0, 0⟩ ∧ Fetches id ⟨0xE5, 0, 0, 0⟩ ∧
    Fetches id ⟨0xF0, 7, 0, 0xF0000000⟩ ∧ Fetches id ⟨0xF1, 1, 0xF, 0xF0000000⟩ ∧
    (liveSource State.reset ⟨0xF1, 1, 0xF, 0⟩).isSome = true ∧ liveSource State.reset ⟨0xF1, 1, 0x10, 0⟩ = none := by
  refine ⟨?_, ?_, ?_, ?_, ?_, ?_, ?_, ?_, ?_, ?_, ?_, ?_⟩ <;> decide +kernel

/-- A delay FIFO with no room: 1024 entries posted and none landed. -/
def full : List Entry := List.replicate 1024 ⟨.endMark, 0, .endMark, 0, 0, none⟩

/-- A state in which the words of CODE cannot be read by any lane. -/
def badWords : State := withCtl fun c =>
  { c with execs := [exc [ctx id] id], weave := { c.weave with lanes := c.weave.lanes.map fun x => { x with badCode := [0x06000050 / 8] } },
           running := some prog }

set_option maxRecDepth 8000 in
theorem test_hyps_LaneStopsAndFrame :
    (fieldsOf (.nop 0 1 0 0) = some (0, ⟨0x01, 1, 0, 0⟩) ∧ wordOk ⟨0x01, 1, 0, 0⟩ = false) ∧
    unreadable badWords 0 0 0 = true ∧ placeFor badWords 0 = some 0 ∧
    (running [exc [ctx fun c => { c with pc := 8 }] id]).ctl.execs[0]? = some (exc [ctx fun c => { c with pc := 8 }] id) ∧
    placeFor (running [exc [ctx fun c => { c with pc := 8 }] id]) 0 = some 0 ∧
    placeFor (running [exc [ctx fun c => { c with posted := full }] id]) 0 = some 0 ∧
    (running [exc [ctx fun c => { c with posted := full }] id]).ctl.weave.lanes[(0 : LaneId)].gated = false ∧
    fifoRoom (running [exc [ctx fun c => { c with posted := full }] id]) 0 (postsOf ⟨0x54, 7, 0, 0⟩) = false ∧
    (∃ s', exec (.nop 0 0 0 0) (running [exc [ctx id] id]) = .next s') := by
  refine ⟨⟨rfl, by decide⟩, by decide +kernel, by decide, rfl, by decide, by decide, by decide, by decide +kernel, ⟨_, rfl⟩⟩

/-! ### Commands that are not well-formed -/

/-- A request header on mailbox 0, changed by g. -/
def hdr (g : ReqHdr → ReqHdr) : ReqHdr :=
  g { src := .mailbox 0, session := 9, sequence := 4, atEpoch := false, dryRun := false, pairScope := false, dropForces := false,
      epoch := 0, crc := 0 }

/-- A tow-line frame, changed by g. -/
def tow (g : TowHdr → TowHdr) : TowHdr := g { owner := 0, format := 1, sequence := 1, invalid := false, crcOk := true, more := false }

/-- A heartbeat of a module in a state, changed by g. -/
def beat (g : Heartbeat → Heartbeat) : Heartbeat :=
  g { state := 5, power := 1, offer := false, unmatched := false, suspect := false, bist := false, weaveClean := true, claim := 4,
      highestClaim := 9, node := 2, completed := 0, mirrored := 0, serial := 0 }

def canFrame : CanFrame := { word := 0x12, dlc := 8, brs := false, esi := false, data := List.replicate 8 0 }

def frame (g : PortFrame → PortFrame) : PortFrame :=
  g { dst := 5, src := 6, multicast := false, vlan := some (1, 6), doubleTagged := false, fragment := false, length := 64, fcsOk := true,
      body := .other }

/-- Every check of Instr.wf takes a well-formed command and refuses an ill-formed one. -/
theorem test_wf_refuses :
    (Instr.wf (.taskTick (2 ^ 64 - 1) 0) = true ∧ Instr.wf (.taskTick (2 ^ 64) 0) = false) ∧
    (Instr.wf (.nop 0 0 0 0) = true ∧ Instr.wf (.nop 0 1 0 0) = false) ∧
    (Instr.wf (.idGet 0 (hdr id)) = true ∧ Instr.wf (.idGet 0 (hdr fun h => { h with session := 2 ^ 32 })) = false ∧
      Instr.wf (.idGet 0 (hdr fun h => { h with epoch := 1 })) = false ∧ Instr.wf (.idGet 0 (hdr fun h => { h with src := .net 8 })) = false) ∧
    (Instr.wf (.setRead 0 (hdr id) 0 [1]) = true ∧ Instr.wf (.setRead 0 (hdr id) 0 [2 ^ 32]) = false) ∧
    (Instr.wf (.heartbeatReceive 0 (tow id) (beat id)) = true ∧
      Instr.wf (.heartbeatReceive 0 (tow fun f => { f with format := 256 }) (beat id)) = false ∧
      Instr.wf (.heartbeatReceive 0 (tow id) (beat fun h => { h with node := 65536 })) = false) ∧
    (Instr.wf (.canFrameReceive 0 0 0 canFrame false false) = true ∧
      Instr.wf (.canFrameReceive 0 0 0 { canFrame with dlc := 16 } false false) = false ∧
      Instr.wf (.canFrameReceive 0 0 0 { canFrame with data := List.replicate 65 0 } false false) = false) ∧
    (Instr.wf (.portFrameReceive 0 0 (frame id)) = true ∧ Instr.wf (.portFrameReceive 0 0 (frame fun f => { f with dst := 2 ^ 48 })) = false ∧
      Instr.wf (.portFrameReceive 0 0 (frame fun f => { f with vlan := some (4096, 0) })) = false) ∧
    (Instr.wf (.feedRangeChange 0 0 17000001) = true ∧ Instr.wf (.feedRangeChange 0 0 (2 ^ 31)) = false) ∧
    (Instr.wf (.eventRecordWrite 0 [⟨true, 1007, .programVerify⟩]) = true ∧
      Instr.wf (.eventRecordWrite 0 [⟨true, 1008, .programVerify⟩]) = false) := by
  refine ⟨⟨?_, ?_⟩, ⟨?_, ?_⟩, ⟨?_, ?_, ?_, ?_⟩, ⟨?_, ?_⟩, ⟨?_, ?_, ?_⟩, ⟨?_, ?_, ?_⟩, ⟨?_, ?_, ?_⟩, ⟨?_, ?_⟩, ?_, ?_⟩ <;> decide +kernel

/-! ### Hypotheses of the statements on the block as a whole -/

theorem test_hyps_StepTakesTheFrontCommand :
    (∃ (c : Instr) (rest : List Instr) (s : State), s.pending = c :: rest) ∧ State.reset.pending = [] :=
  ⟨⟨.nop 0 0 0 0, [], State.reset.withPending [.nop 0 0 0 0], rfl⟩, rfl⟩

theorem test_hyps_StepsKeepMemoryCanonical : Canonical State.reset ∧ ∃ s', step State.reset = .next s' := ⟨⟨rfl, by decide +kernel⟩, _, rfl⟩

theorem test_hyps_HighestClaimNeverFalls : ∃ s', step (State.reset.withPending [.towLaneLost 5 0 true 0]) = .next s' := ⟨_, rfl⟩

theorem test_hyps_EpochKeptOutsideSteps : movesEpoch (.taskTick 5 0) = false ∧ ∃ s', exec (.taskTick 5 0) State.reset = .next s' :=
  ⟨rfl, _, rfl⟩

theorem test_hyps_EveryCommandCompletes :
    (∀ t a n, Instr.memRead 5 .basin (basinSize - 1) 1 = .memRead t .basin a n → a + n ≤ basinSize) ∧
    ∀ t a bs, Instr.memWrite 5 .basin (basinSize - 2) [1, 2] = .memWrite t .basin a bs → a + bs.length ≤ basinSize := by
  constructor <;> (intro t a n h; injection h with h1 h2 h3 h4; subst h3; subst h4; decide)

theorem test_hyps_LaneWordsRoundTrip :
    fieldsOf (.add 2 .i 7 3 0xFFFFFFFF) = some (2, ⟨0x63, 7, 3, 0xFFFFFFFF⟩) ∧ wordOk ⟨0x63, 7, 3, 0xFFFFFFFF⟩ = true ∧
    decodeWord 5 2 0x18001A6000000000 = some (.st 2 0 0x1A60 0) := by
  refine ⟨?_, ?_, ?_⟩ <;> decide +kernel

/-! ### Hypotheses of the statements on ticks, commits, steps and the Weave -/

/-- A state of R33, changed by g. -/
def inState (m : ModState) (g : State → State) : State := g { State.reset with mod := { State.reset.mod with state := m } }

/-- Settings with these values, committed and in force. -/
def withParams (ps : List (Nat × Nat)) (s : State) : State :=
  let put (m : Tbl (List Byte)) (p : Nat × Nat) : Tbl (List Byte) :=
    putSetting p.1 (leBytes (match paramOf p.1 with
      | some r => setTypeLen r.type
      | none => 0) p.2) m
  { s with settings := { s.settings with committed := ps.foldl put s.settings.committed, inForce := ps.foldl put s.settings.inForce } }

/-- Tasks 0 and 1 run a program, task 0 above task 1, with these executions. -/
def runs (es : List Exec) (s : State) : State :=
  withParams [(P.taskEnable 0, 1), (P.taskEnable 1, 1), (P.taskPriority 0, 1), (P.taskPriority 1, 4)]
    { s with ctl := { s.ctl with
      execs := es, tasks := s.ctl.tasks.map fun t => { t with running := true },
      running := some { prog with codes := prog.codes ++ [{ task := 1, frame := 8, words := [0xE500000000000000], routines := [], view := [] }] } } }

/-- An execution of a task in a phase, without lanes. -/
def phase (k : TaskId) (p : ExecPhase) : Exec := exc [] fun e => { e with task := k, phase := p }

/-- An execution of a task that has ended. -/
def ended_ (k : TaskId) : Exec := exc [] fun e => { e with task := k, phase := .ended, endAt := some 5 }

def three (g : LaneCtx → LaneCtx) : List LaneCtx := [g (ctx id), g (ctx fun c => { c with lane := 1 }), g (ctx fun c => { c with lane := 2 })]

set_option maxRecDepth 8000 in
theorem test_hyps_TicksAndSnapshots :
    tickDue (atTime 200000000 (inState .active (runs []))) 0 200000000 = true ∧
    (commitPlace (atTime 9 (inState .active (runs [phase 0 .latched, phase 1 .latched]))) 0 = some 0 ∧
      higherDue 9 0 (atTime 9 (inState .active (runs [phase 0 .latched, phase 1 .latched]))) = false ∧
      commitPlace (atTime 9 (inState .active (runs [phase 0 .latched, phase 1 .latched]))) 1 = some 1 ∧
      higherDue 9 1 (atTime 9 (inState .active (runs [phase 0 .latched, phase 1 .latched]))) = true ∧
      (codeOf (inState .active (runs [])) 0).isSome = true ∧ committing (inState .active (runs [phase 0 .latched])) = false ∧
      ∀ l ∈ ([0, 1, 2, 3] : List LaneId), roleOf (inState .active (runs [])) l ≠ .halted) ∧
    (placeWhere (inState .active (runs [phase 0 .committing])) (fun e => e.task == 0 && e.phase == .committing) = some 0 ∧
      commitPoisoned (atTime 9 (inState .active (runs [phase 0 .committing]))) (phase 0 .committing) = false) := by
  refine ⟨?_, ⟨?_, ?_, ?_, ?_, ?_, ?_, ?_⟩, ?_, ?_⟩ <;> decide +kernel

/-- The end mark of an execution. -/
def mark : Entry := ⟨.endMark, 1, .endMark, 0xFF, 0, none⟩

set_option maxRecDepth 8000 in
theorem test_hyps_PreemptionTaskEndAndGating :
    (placeWhere (inState .active (runs [exc (three id) fun e => { e with task := 1 }, phase 0 .preempted])) (fun e => e.phase == .running) = some 0 ∧
      placeWhere (inState .active (runs [exc (three id) fun e => { e with task := 1 }, phase 0 .preempted]))
        (fun e => e.task == 0 && e.phase == .preempted) = some 1 ∧
      priorityOf (inState .active (runs [])) 0 < priorityOf (inState .active (runs [])) 1 ∧
      ((exc (three id) id).lanes.any fun c => c.halted.isNone && c.waiting.isSome) = false) ∧
    (placeWhere (inState .active (runs [exc (three id) fun e => { e with landed := [mark] }, phase 1 .preempted]))
        (fun e => e.task == 0 && e.phase == .running && endVoted e) = some 0 ∧
      ∀ c ∈ takingPart (exc (three id) fun e => { e with landed := [mark] }), c.stalled = false) ∧
    (dueSoon (inState .active (runs [])) 998001 = false ∧ dueSoon (inState .active (runs [])) 199999999 = true ∧
      laneIdle (inState .active (runs [])) 0 = true) := by
  refine ⟨⟨?_, ?_, ?_, ?_⟩, ⟨?_, ?_⟩, ?_, ?_, ?_⟩ <;> decide +kernel

set_option maxRecDepth 8000 in
theorem test_hyps_EpochStepTaken :
    (stepPlace 9 0 (atTime 9 (inState .active (runs [ended_ 0, ended_ 1]))) = some 0 ∧
      higherDue 9 0 (atTime 9 (inState .active (runs [ended_ 0, ended_ 1]))) = false ∧
      stepPlace 9 1 (atTime 9 (inState .active (runs [ended_ 0, ended_ 1]))) = some 1 ∧
      higherDue 9 1 (atTime 9 (inState .active (runs [ended_ 0, ended_ 1]))) = true ∧
      stepPlace 501001 0 (atTime 501001 (inState .active (runs [ended_ 0]))) = none ∧
      committing (inState .active (runs [ended_ 0, ended_ 1])) = false) ∧
    (stepsAlone (inState .ready id) = true ∧ lanesFree (inState .ready id) = true ∧
      changeWaits (inState .ready fun s => { s with keeper := { s.keeper with changes := [⟨1, .stop 1, none⟩] } }) = true) := by
  refine ⟨⟨?_, ?_, ?_, ?_, ?_, ?_⟩, ?_, ?_, ?_⟩ <;> decide +kernel

/-- An exchange in a phase, of a verified version. -/
def exchanging (p : ExchangePhase) (s : State) : State :=
  { s with ctl := { s.ctl with staged := some ⟨{ prog with version := 8 }, .verified, false⟩, exchange := some ⟨2, p, false, [], 4, 100⟩ } }

set_option maxRecDepth 8000 in
theorem test_hyps_DeadlineMissAndSafe :
    missPlace 501001 0 (inState .active (runs [phase 0 .latched])) = some 0 ∧
    (inState .active fun s => { s with net := { s.net with safeRepeats := 1, safeSentAt := 4 } }).net.safeSentAt + 10000 ≤ 10004 ∧
    ((exchanging .queued State.reset).ctl.exchange.map fun x => x.phase) = some .queued ∧
    ((exchanging .staged State.reset).ctl.exchange.map fun x => decide (x.stagedAt + msToNs x.window ≤ 100000004)) = some true := by
  refine ⟨?_, ?_, ?_, ?_⟩ <;> decide +kernel

def entry (v : W64) : Entry := ⟨.write, 0, .tag 5, 0xFF, v, none⟩

/-- Lanes 0 to 2 have posted one entry each. -/
def votes (x y z : W64) : Exec :=
  exc [ctx fun c => { c with posted := [entry x] }, ctx fun c => { c with lane := 1, posted := [entry y] },
       ctx fun c => { c with lane := 2, posted := [entry z] }] id

/-- Lanes 0 and 1 are stalled since 5 on full delay FIFOs, which lane 2 has not filled. -/
def stall : Exec :=
  exc [ctx fun c => { c with posted := full, fullSince := some (5, 1) }, ctx fun c => { c with lane := 1, posted := full, fullSince := some (5, 1) },
       ctx fun c => { c with lane := 2 }] id

/-- Lanes 0 to 2 wait in an AGREE of source 3. -/
def agrees (m : BitVec 4) (x y z : W64) : Exec :=
  let at_ (l : LaneId) (v : W64) : LaneCtx :=
    ctx fun c => { c with lane := l, waiting := some (3, m, 5), posted := [⟨.sample, 0, .source 3, 0xFF, v, none⟩] }
  exc [at_ 0 x, at_ 1 y, at_ 2 z] id

/-- Lane 1 in a role, lane 3 in another. -/
def roles (r q : LaneRole) : State := setRole 3 q (setRole 1 r (inState .active id))

set_option maxRecDepth 8000 in
theorem test_hyps_WeaveVotes :
    ((∀ q ∈ (votes 1 1 2).lanes, q.halted = none ∧ q.stalled = false ∧ q.posted.take 0 = []) ∧
      entriesAgree (entry 1) (entry 1) = true ∧ entriesAgree (entry 2) (entry 1) = false ∧ entriesAgree (entry 3) (entry 1) = false ∧
      entriesAgree (entry 2) (entry 3) = false) ∧
    (trailing (inState .active (runs [stall])) 1000005 2 stall = true ∧ 3 ≤ (takingPart stall).length ∧ (stall.lanes.map fun c => c.lane).Nodup) ∧
    (agreeReady (agrees 7 5 6 7) = true ∧ lanesRun (agrees 7 5 6 7).phase = true ∧ (takingPart (agrees 1 1 0 1)).length = 3) ∧
    ((realOf .real32 0x7FC00000).isNan = true ∧ (realOf .real32 0).isNan = false) ∧
    (wrongBlocks (roles .resync .spare) 1 = [] ∧ spareLane (roles .resync .spare) = some 3 ∧ spareLane (roles .resync .active) = none ∧
      poisonedCode (roles .loading .spare) = [] ∧ roleOf (roles .loading .active) 1 = .loading ∧
      wrongBlocks { badWords with basin := { badWords.basin with poison := [0x06000050 / 8] } } 1 ≠ []) := by
  refine ⟨⟨?_, ?_, ?_, ?_, ?_⟩, ⟨?_, ?_, ?_⟩, ⟨?_, ?_, ?_⟩, ⟨?_, ?_⟩, ?_, ?_, ?_, ?_, ?_, ?_⟩ <;> decide +kernel

/-! ### Hypotheses of the statements on the pair -/

/-- A module in a state of R33 with its partner on the tow line, changed by g. -/
def paired (m : ModState) (g : State → State) : State :=
  inState m fun s => g { s with tow := { s.tow with up := true }, pair := { s.pair with paired := true } }

/-- The next tow frame of the partner. -/
def next : TowHdr := tow id

def manifest : Manifest := { task := 0, noBargeAny := false, version := 1, tick := 1000, baseEpoch := 3, nodes := [], values := [] }

/-- A shadow execution that waits for its manifest, changed by g. -/
def shadow (g : Exec → Exec) : Exec := exc [] fun e => g { e with phase := .latched, shadow := true }

/-- A standby whose task 0 runs this shadow execution. -/
def shadows (e : Exec) : State :=
  paired .standby fun s => { s with ctl := { s.ctl with execs := [e], tasks := s.ctl.tasks.set 0 { s.ctl.tasks[0] with running := true, lastTick := some 1000 } } }

def record (g : MirrorRecord → MirrorRecord) : MirrorRecord :=
  g { epoch := 8, tick := 1000, lastComplete := 7, claim := 4, task := none, fullForm := false, version := 0, digest := 0, entries := [],
      hostChanges := false, invalid := false }

def onTow_ (g : Tow → Tow) (s : State) : State := { s with tow := g s.tow }
def onPair_ (g : Pair → Pair) (s : State) : State := { s with pair := g s.pair }
def keeperOn (s : State) : State := { s with keeper := { s.keeper with running := true }, path := { s.path with powered := true } }

set_option maxRecDepth 8000 in
theorem test_hyps_HeartbeatsAndTowFrames :
    ((paired .standby id).tow.up = true ∧ next.crcOk = true ∧ next.owner = ownerId (paired .standby id) ∧
      (tow fun f => { f with owner := 77 }).owner ≠ ownerId (paired .standby id) ∧ (tow fun f => { f with crcOk := false }).crcOk = false) ∧
    ((tow fun f => { f with sequence := 0 }).sequence ≤ (paired .standby id).tow.seqIn ∧
      (paired .standby id).tow.seqIn + 1 < (tow fun f => { f with sequence := 2 }).sequence ∧
      beginsCopy (.ending 7 0 0) = false ∧ (paired .standby id).pair.paired = true) := by
  refine ⟨⟨?_, ?_, ?_, ?_, ?_⟩, ?_, ?_, ?_, ?_⟩ <;> decide +kernel

set_option maxRecDepth 8000 in
theorem test_hyps_MirrorStream :
    (NextFrame next (shadows (shadow id)) ∧ manifestPlace (shadows (shadow id)) manifest = some 0 ∧
      placeWhere (shadows (shadow id)) (fun e => e.task == 0 && e.tick == 1000 && e.shadow) = some 0 ∧
      (shadow id).manifest = none ∧ (shadow id).tick + 10000 ≤ 11000 ∧
      manifestMatched (shadow fun e => { e with manifest := some { manifest with nodes := [(2, 5)] }, manifestAt := some 3 })
        { manifest with nodes := [(2, 5)] } = false) ∧
    (NextFrame next (paired .active id) ∧ framesFrom (paired .active id) 1 = [] ∧
      (framesFrom (paired .active id) 1).all (stillHeld (paired .active id)) = true) ∧
    ((record id).invalid = false ∧ undefinedEntry (record id) = false ∧ lacksVersion (paired .standby id) (record id) = false ∧
      (paired .standby id).tow.records = [] ∧ (paired .standby id).ctl.execs = [] ∧ (record fun r => { r with task := some 0 }).task = some 0) ∧
    (NextFrame next (paired .ready (onTow_ fun w => { w with catchup := some ⟨[], []⟩ })) ∧ chunksCrc [] = 0) := by
  refine ⟨⟨?_, ?_, ?_, ?_, ?_, ?_⟩, ⟨?_, ?_, ?_⟩, ⟨?_, ?_, ?_, ?_, ?_, ?_⟩, ?_, ?_⟩ <;> decide +kernel

set_option maxRecDepth 8000 in
theorem test_hyps_TakeOvers :
    (CanRise 4 (keeperOn (paired .standby id)) ∧ NextFrame next (keeperOn (paired .standby id)) ∧
      (keeperOn (paired .standby id)).pair.cold = none ∧ (keeperOn (paired .standby id)).tow.records = []) ∧
    (CanRise 0 (keeperOn (paired .standby (onPair_ fun p => { p with checkWindow := true }))) ∧
      (paired .standby id).pair.silenceStart + 70000 ≤ 70000) ∧
    CanRise 0 (keeperOn (paired .standby (onPair_ fun p => { p with cold := some (.towSilence, false, 0) }))) ∧
    keeperDecides (paired .standby (onPair_ fun p => { p with checkWindow := true })) = false ∧
    (NextFrame next (paired .active (onTow_ fun w => { w with handoverSent := some (0, .release) })) ∧
      (paired .active id).tow.switch = none ∧ 0 + 50000 ≤ 50000 ∧ 49999 < 0 + 50000) := by
  refine ⟨⟨?_, ?_, ?_, ?_⟩, ⟨?_, ?_⟩, ?_, ?_, ?_, ?_, ?_, ?_⟩ <;> decide +kernel

set_option maxRecDepth 8000 in
theorem test_hyps_SilenceOffersAndStatus :
    ((paired .standby (onPair_ fun p => { p with lastHeartbeat := some 1 })).pair.silence = false ∧ 1 + 30000 ≤ 30001) ∧
    ((paired .active (onPair_ fun p => { p with claim := 5, silence := true, tie := true })).tow.handoverSent = none ∧
      (paired .active id).net.claimSentAt = none) ∧
    logicAwake (keeperOn (paired .ready (onPair_ fun p => { p with towLineLost := true }))) = true ∧
    (keeperDecides (keeperOn (paired .stoppedFault (onPair_ fun p => { p with offer := some 3 }))) = true ∧
      (paired .ready (onPair_ fun p => { p with offer := some 3, highestClaim := 0xFFFFFFFE })).pair.highestClaim < 0xFFFFFFFF ∧
      0xFFFFFFFF ≤ (paired .ready (onPair_ fun p => { p with offer := some 3, highestClaim := 0xFFFFFFFF })).pair.highestClaim) ∧
    (0 + msToNs (cfg State.reset P.joinWait) ≤ 30000000000 ∧ State.reset.pair.heardHeartbeat = false ∧ State.reset.pair.heardBarge = false) := by
  refine ⟨⟨?_, ?_⟩, ⟨?_, ?_⟩, ?_, ⟨?_, ?_, ?_⟩, ?_, ?_, ?_⟩ <;> decide +kernel

/-- An active on its way through a switch, with a partner in STANDBY. -/
def switching (p : SwitchPhase) (isProof : Bool) (es : List Exec) : State :=
  paired .active fun s => { s with tow := { s.tow with switch := some ⟨if isProof then 0 else 4, p, 0, isProof, false⟩ }, ctl := { s.ctl with execs := es },
                                   pair := { s.pair with partner := some (beat id), lastHeartbeat := some 1 } }

set_option maxRecDepth 8000 in
theorem test_hyps_PlannedSwitch :
    lanesFree (switching .waitPoint false []) = true ∧ ownQueued (switching .waitDrain false []) = false ∧
    partnerStandby (switching .waitDrain false []) = true ∧ lanesFree (switching .waitDrain false [exc (three id) id]) = false ∧
    partnerStandby { switching .waitDrain false [] with pair := State.reset.pair } = false ∧
    (switching .waitPoint true []).tow.handoverSent = none ∧ 0 + 1000000000 ≤ 1000000000 := by
  refine ⟨?_, ?_, ?_, ?_, ?_, ?_, ?_⟩ <;> decide +kernel

def checksOk : ProofChecks := { stagesEnabled := true, readbackOk := true, parallelOk := true }

/-- A module in step n of a proof. -/
def proving (n : Nat) (origin : Bool) (m : ModState) : State :=
  keeperOn (paired m fun s => runs [] { s with tow := { s.tow with proof := some ⟨4, n, origin, 0, 5⟩ } })

/-- A node that reports claim 3. -/
def lagging : Node := { freshNode 10 with session := some 1, obeyedClaim := 3, claimSentAt := some 4 }

set_option maxRecDepth 8000 in
theorem test_hyps_TowLanesProofsAndLag :
    (State.reset.tow.lanes[(0 : Fin 3)] = .carrying ∧ State.reset.tow.lanes[(2 : Fin 3)] = .spare ∧
      ∃ i : Fin 3, (State.reset.tow.lanes.set 0 .lost)[i] = .lost) ∧
    (proofResult (proving 2 true .active) checksOk = 0 ∧ proofResult (proving 5 true .active) { checksOk with readbackOk := false } ≠ 0 ∧
      CanRise 0 (proving 2 true .standby) ∧ (proving 2 false .active).mod.state = .active) ∧
    (fastestPeriod (proving 3 false .active) = some 10000000 ∧ 0 + 5 * 10000000 ≤ 50000000) ∧
    (0 < cfg State.reset P.proofDueDays ∧
      State.reset.tow.proofHours + 24 * cfg State.reset P.proofDueDays ≤ ({ State.reset with path := { State.reset.path with hours := 24000 } } : State).path.hours) ∧
    (lagging.session.isSome = true ∧ lagging.obeyedClaim < 5 ∧ 4 + lagWait (inState .active (runs [])) ≤ 30000004) ∧
    (({ task := 0, tick := 1, node := 2, release := 3, sections := [], unmatched := false, duplex := false } : ShadowBarge).release + 100000 ≤ 100003) := by
  refine ⟨⟨?_, ?_, ?_⟩, ⟨?_, ?_, ?_, ?_⟩, ⟨?_, ?_⟩, ⟨?_, ?_⟩, ⟨?_, ?_, ?_⟩, ?_⟩ <;> decide +kernel

/-! ### Hypotheses of the statements on barges, ports and time -/

/-- A powered module in a state of R33 whose Keeper runs, with node 2 in its table. -/
def awake (m : ModState) (g : State → State) : State :=
  inState m fun s => g { keeperOn s with net := { s.net with nodes := [(2, { freshNode 10 with session := some 1, lastSeq := 3 })] } }

/-- A barge of a kind, from node 2, in stream 1. -/
def barge (k : BargeKind) (claim sequence : Nat) : Barge :=
  { kind := k, task := 0, broadcast := false, auth := false, keySlot := 0, unsynced := false, restarted := false, safeActive := false,
    owner := ownerId State.reset, node := 2, claim := claim, epochLow := 1, release := 5, sequence := sequence, obeyed := 3, sections := [], tag := [] }

/-- The bytes of the barge parse, and the barge read holds this. -/
def parsed (b : Barge) (p : Barge → Bool) : Bool :=
  match parseBarge (encodeBarge b) with
  | .ok x => p x
  | .error _ => false

/-- A barge of the owner's other module that passes every check, under a claim. -/
def otherOk (k : BargeKind) (claim : Nat) (s : State) : Bool :=
  parsed (barge k claim 4) fun b => b.kind == k && judgeOther (atTime 9 s) b == none && countsForClaims (atTime 9 s) b && b.claim == claim

set_option maxRecDepth 8000 in
theorem test_hyps_BargesReceived :
    logicAwake (awake .active id) = true ∧ engineTaken (atTime 9 (awake .active id)) = false ∧
    engineTaken (atTime 9 (awake .active fun s => { s with net := { s.net with engineCount := 2500000 } })) = true ∧
    parsed (barge .input 0 4) (fun b => b.kind == .input && judgeInput (atTime 9 (awake .active id)) b == none &&
      (tget b.node (awake .active id).net.nodes).isSome) = true ∧
    parsed (barge .input 0 3) (fun b => judgeInput (atTime 9 (awake .active id)) b == some .replay) = true ∧
    otherOk .output 7 (awake .ready id) = true ∧ otherOk .safe 7 (awake .ready id) = true ∧ otherOk .claim 7 (awake .ready id) = true ∧
    otherOk .output 7 (awake .active (onPair_ fun p => { p with claim := 6, highestClaim := 6 })) = true := by
  refine ⟨?_, ?_, ?_, ?_, ?_, ?_, ?_, ?_, ?_⟩ <;> decide +kernel

set_option maxRecDepth 8000 in
theorem test_hyps_StatusBargesAndKeyEpochs :
    otherOk .status 0 (awake .active (onPair_ fun p => { p with claim := 6, silence := true, silenceStart := 4, partner := some (beat id) })) = true ∧
    (beat id).node = (barge .status 0 4).node ∧ 4 < (barge .status 0 4).release ∧
    State.reset.net.auth.keyEpoch + 1 < 0xFFFFFFFF ∧ 0xFFFFFFFF ≤ 0xFFFFFFFE + 1 ∧
    ({ State.reset.net.auth with switchAt := 5, overlapUntil := some 6 } : Auth).switchAt ≤ 9 := by
  refine ⟨?_, ?_, ?_, ?_, ?_, ?_⟩ <;> decide +kernel

/-- A PTP frame of the module's own. -/
def ptpFrameOf (type : Nat) : PtpFrame :=
  { type := type, domain := 0, sequenceId := 1, correction := 0, stamp := 0, carrier := .ethernet, announce := none }

/-- A frame of a class that waits at an egress port since 1. -/
def waiting (cls : Nat) (b : FrameBody) : QueuedFrame :=
  { cls := cls, frame := frame fun f => { f with body := b }, queuedAt := 1, ingressAt := none, ingress := none, heldFor := none, own := true }

/-- A module with links on all ports, of which port 0 holds these frames, changed by g. -/
def linked (qs : List QueuedFrame) (g : Port → Port) : State :=
  awake .ready fun s => { s with sw := { s.sw with ports := (s.sw.ports.map fun x => { x with linkUp := true }).set 0 (g { s.sw.ports[0] with linkUp := true, queue := qs }) } }

/-- A gate list that opens every class for 50 ns of its cycle only. -/
def narrow : GateList := { length := 2, cycle := 1000000, base := 0, entries := [0xFF000032, 999950] }

set_option maxRecDepth 8000 in
theorem test_hyps_PortsAndGates :
    (cfgFlag (linked [] id) P.cutThrough = false ∨ cfgFlag (withParams [(P.cutThrough, 0)] (linked [] id)) P.cutThrough = false) ∧
    ptpEnds (linked [] id) 0 (frame fun f => { f with multicast := true }) = false ∧
    nextFrame (linked [waiting 6 .other, waiting 7 (.ptp (ptpFrameOf 0))] id) 9 0 = some 1 ∧ isEvent (ptpFrameOf 0) = true ∧
    (linked [] id).sw.ports[(0 : Fin 3)].busyUntil ≤ 9 ∧
    (linked [waiting 6 .other] fun p => { p with gcl := narrow }).sw.ports[(0 : Fin 3)].queue.findIdx?
      (tooLong (linked [waiting 6 .other] fun p => { p with gcl := narrow }) 1000001 0) = some 0 ∧
    cfg (withParams [(P.mrpRole, 2)] State.reset) P.mrpRole ≠ 0 := by
  refine ⟨?_, ?_, ?_, ?_, ?_, ?_, ?_⟩ <;> decide +kernel

/-- A powered module with a PTP role, all of whose ports speak PTP, changed by g. -/
def ptp (role : Nat) (g : TimeUnit → TimeUnit) : State :=
  withParams [(P.ptpProfile, 1), (P.portPtpEnable 1, 1), (P.ptpRole, role)] (awake .ready fun s => { s with time := g s.time })

set_option maxRecDepth 8000 in
theorem test_hyps_TimeAndServo :
    masterOn (ptp 3 id) 0 = true ∧ (ptp 3 id).keeper.running = true ∧ ptpOn (ptp 0 fun u => { u with masterPort := some 0 }) 0 = true ∧
    slaveOn (ptp 0 fun u => { u with masterSelected := true, masterPort := some 0, syncRx := some (3, 4), servo := .locked }) 0 = true ∧
    cfg (withParams [(P.fiCaptureEdge 0, 3)] State.reset) (P.fiCaptureEdge 0) = 3 ∧
      cfg (withParams [(P.fiCaptureEdge 0, 0)] State.reset) (P.fiCaptureEdge 0) = 0 ∧
    4 + 3 * syncInterval (ptp 0 id) ≤ 60000000000 ∧ cfgFlag (withParams [(P.ppsInput, 1)] State.reset) P.ppsInput = true ∧
    cfgFlag State.reset P.ppsInput = false ∧ pairRuns (ptp 0 id) = false ∧ pairRuns (inState .active (runs [])) = true ∧
    (5 * 1000000000 < 2 ^ 64 ∧ 3000000000 % 1000000000 = 0) := by
  refine ⟨?_, ?_, ?_, ?_, ?_, ?_, ?_, ?_, ?_, ?_, ?_, ?_⟩ <;> decide +kernel

/-! ### Hypotheses of the statements on the field zone and CAN -/

/-- A module in READY that is awake, changed in its field zone. -/
def fieldOn (g : FieldZone → FieldZone) : State := awake .ready fun s => { s with field := g { s.field with monitor := .run } }

set_option maxRecDepth 8000 in
theorem test_hyps_IsolationLink :
    logicAwake (fieldOn id) = true ∧ (fieldOn fun f => { f with downlinks := [⟨none, true, false⟩] }).field.downlinks = [⟨none, true, false⟩] ∧
    (fieldOn id).field.monitor ≠ .unpowered ∧ (fieldOn id).mod.power ≠ .dormant ∧
    dioIsOut (withParams [(P.dioMode 15, 3)] State.reset) 15 = true ∧ (fieldOn fun f => { f with uplinks := [f.received] }).field.uplinks.length = 1 ∧
    1 + 100000 ≤ 100001 ∧ 1 + msToNs (cfg State.reset P.silenceTimeout) ≤ 60000000001 := by
  refine ⟨?_, ?_, ?_, ?_, ?_, ?_, ?_, ?_⟩ <;> decide +kernel

def setup (m : TrigMode) (a : TrigAction) (u : Fin 4) : TrigSetup :=
  { mode := m, action := a, channel := u.val, compatTarget := 0, target := 5, period := 4, argument := 0, armedAt := 1 }

/-- Unit 3 is armed so, on an active that holds the claim. -/
def armed (x : TrigSetup) : State :=
  awake .active fun s =>
    { s with pair := { s.pair with claim := 5, highestClaim := 5 },
             field := { s.field with monitor := .run, fo := s.field.fo.map fun f => { f with yielded := false } },
             time := { s.time with triggers := s.time.triggers.set 3 { s.time.triggers[3] with setup := some x, armed := true } } }

set_option maxRecDepth 8000 in
theorem test_hyps_TriggersAndStrobes :
    firingDue (atTime 9 (armed (setup .once .foSet 3))) (setup .once .foSet 3) 9 = true ∧
    firingDue (atTime 9 (armed (setup .periodic .foSet 3))) (setup .periodic .foSet 3) 9 = true ∧
    firingDue (atTime 9 (armed (setup .compat .foSet 3))) (setup .compat .foSet 3) 9 = true ∧
    (armed (setup .once .foSet 3)).time.triggers[(3 : Fin 32)].firedAt ≠ some 9 ∧
    (∀ v ∈ ([0, 1, 2] : List (Fin 32)), sameChannel (armed (setup .once .foSet 3)) 3 v = false) ∧
    holdsClaim (armed (setup .once .foSet 3)) = true ∧ holdsClaim (awake .ready id) = false ∧
    monitorDrives (armed (setup .once .foSet 3)) = true ∧
    (strobeDue (fieldOn fun f => { f with delayedActions := [(9, 3, setup .once .dioSet 3)] }) 9 = true ∧
      strobeFree (fieldOn id) 9 = true ∧ strobeDue (fieldOn id) 9 = false ∧
      strobeFree (fieldOn fun f => { f with lastStrobe := some 1 }) 9 = false) := by
  refine ⟨?_, ?_, ?_, ?_, ?_, ?_, ?_, ?_, ?_, ?_, ?_, ?_⟩ <;> decide +kernel

/-- Channel 15 is a digital output of a mode, changed by g. -/
def dio (m : Nat) (g : Dio → Dio) : State :=
  withParams [(P.dioMode 15, m), (P.dioDiag 15, 0xFF)] (fieldOn fun f => { f with dio := f.dio.set 15 (g { f.dio[15] with driving := true }) })

set_option maxRecDepth 8000 in
theorem test_hyps_DigitalAndFastChannels :
    (dio 1 id).field.dio[(15 : Fin 16)].comparator ≠ true ∧ dioModeOf (dio 1 id) 15 ≠ 0 ∧
    (dio 1 id).field.dio[(15 : Fin 16)].comparatorSince + 2000 * cfg (dio 1 id) (P.dioDebounce 15) ≤ 100000000 ∧
    1 < (dio 1 fun d => { d with comparatorSince := 2 }).field.dio[(15 : Fin 16)].comparatorSince + 2000 * cfg (dio 1 id) (P.dioDebounce 15) ∧
    dioIsOut (dio 3 id) 15 = true ∧ monitorDrives (dio 3 id) = true ∧ diagEnabled (dio 3 id) 15 2 = true ∧
    (dio 3 fun d => { d with limiting := true, limitingSince := 1 }).field.dio[(15 : Fin 16)].limitingSince + 100000 ≤ 100001 ∧
    3 ≤ (dio 3 fun d => { d with trips := 3 }).field.dio[(15 : Fin 16)].trips ∧
    (dio 3 fun d => { d with trippedAt := some 1 }).field.dio[(15 : Fin 16)].latchedOff = false ∧
    (dio 4 fun d => { d with breakFrom := some 1, yielded := true }).field.dio[(15 : Fin 16)].yielded = true ∧ dioModeOf (dio 4 id) 15 = 4 := by
  refine ⟨?_, ?_, ?_, ?_, ?_, ?_, ?_, ?_, ?_, ?_, ?_, ?_⟩ <;> decide +kernel

/-- Channel 7 is a loop of a mode, changed by g. -/
def aio (m : Nat) (g : Aio → Aio) : State :=
  withParams [(P.aioMode 7, m), (P.aioDiag 7, 0xFF), (P.aioFilter 7, 0)] (fieldOn fun f => { f with aio := f.aio.set 7 (g { f.aio[7] with driven := some 12000000 }) })

set_option maxRecDepth 8000 in
theorem test_hyps_LoopChannels :
    aioModeOf (aio 1 id) 7 = 1 ∧ aioOpen (aio 1 id).field.aio[(7 : Fin 8)] = false ∧ aioIsOut (aio 1 id) 7 = true ∧ monitorDrives (aio 1 id) = true ∧
    max 8000000 (min 26000000 ((23500000 : Int) + 2500000)) = 26000000 ∧
    (aio 1 fun a => { a with lowerTarget := some (9000000, 1) }).field.aio[(7 : Fin 8)].lowerTarget = some (9000000, 1) ∧
    ({ Aio.reset with disagree := 4, agree := 4 } : Aio).disagree = 4 ∧ aioDiagOn (aio 1 id) 7 1 = true ∧
    (aio 1 fun a => { a with headroomOk := false, headroomSince := 1 }).field.aio[(7 : Fin 8)].headroomSince + 1000000 ≤ 1000001 ∧
    (aio 1 fun a => { a with trippedAt := some 1 }).field.aio[(7 : Fin 8)].trippedAt = some 1 ∧
    (aioModeOf (aio 4 id) 7 = 4 ∧ cfg (aio 4 id) (P.aioFilter 7) = 0 ∧ aioModeOf (aio 3 id) 7 = 3) ∧
    1 + usToNs (cfg State.reset P.parallelSilence) ≤ 60000000001 ∧
    (trimSeq (fieldOn fun f => { f with trim := [⟨7, 3, 1, 4, 0, 0, 0, 0⟩] }) 7).isSome = true := by
  refine ⟨?_, ?_, ?_, ?_, ?_, ?_, ?_, ?_, ?_, ?_, ⟨?_, ?_, ?_⟩, ?_, ?_⟩ <;> decide +kernel

/-- CAN channel 1 in a mode, changed by g. -/
def can (m : CanMode) (g : Can → Can) : State := awake .ready fun s => { s with can := s.can.set 1 (g { s.can[1] with mode := m, confinement := .errorActive }) }

/-- Transmit object 31 has a pending frame. -/
def offering (c : Can) : Can := { c with objects := c.objects.set 31 { formed := some (canFrame, 9), pending := some canFrame } }

set_option maxRecDepth 8000 in
theorem test_hyps_CanTransmission :
    offered (can .normal offering).can[(1 : Fin 2)] = some (some 31, canFrame) ∧ (can .normal id).can[(1 : Fin 2)].tec < 128 ∧
    canYielded (withParams [(P.canBusShared 1, 0)] (can .normal id)) 1 = false ∧ canYielded (can .normal id) 1 = true ∧
    (can .normal offering).can[(1 : Fin 2)].objects[(31 : Fin 32)].formed = some (canFrame, 9) ∧
    ((can .normal fun c => { c with batches := [⟨6, 1, 0⟩] }).can[(1 : Fin 2)].batches.find? fun b => b.journal == 6) = some ⟨6, 1, 0⟩ ∧
    1 + msToNs (cfg State.reset (P.canSendTimeout 1)) ≤ 3600000000001 ∧
      (can .normal fun c => { c with recCnt := 127 }).can[(1 : Fin 2)].recCnt = 127 ∧
    (can .normal fun c => { c with confinement := .busOff, recovering := true }).can[(1 : Fin 2)].recovering = true ∧
    ∀ x ∈ (can .normal fun c => { c with clashErrors := [(5, 1)] }).can[(1 : Fin 2)].clashErrors, x.2 + 10000000000 ≤ 10000000001 := by
  refine ⟨?_, ?_, ?_, ?_, ?_, ?_, ?_, ?_, ?_, ?_⟩ <;> decide +kernel

set_option maxRecDepth 8000 in
theorem test_hyps_CanReception :
    canFrame.word.getLsbD 29 = false ∧ (routeOf (withParams [(P.canDefaultRoute 1, 1)] (can .listenOnly id)) 1 canFrame.word.toNat).1 = 1 ∧
    (can .listenOnly id).can[(1 : Fin 2)].rxq[(0 : Fin 2)].records.length < 64 ∧
      (can .listenOnly id).can[(1 : Fin 2)].rxq[(0 : Fin 2)].shadow = none ∧
    (routeOf (withParams [(P.filterMatch 1 0, 0x12), (P.filterMask 1 0, 0xFFFFFFFF), (P.filterAction 1 0, 255)] (can .listenOnly id)) 1
      canFrame.word.toNat).1 = 3 ∧
    (can .autobaud fun c => { c with candidates := [(1, 2), (3, 4)] }).can[(1 : Fin 2)].candidate + 1 <
      (can .autobaud fun c => { c with candidates := [(1, 2), (3, 4)] }).can[(1 : Fin 2)].candidates.length ∧
    (can .autobaud fun c => { c with passes := 3 }).can[(1 : Fin 2)].candidates.length ≤ 0 + 1 ∧
    0 + msToNs (cfg State.reset (P.canDwell 1)) ≤ 60000000000 ∧
    wakeHolds (can .sleep fun c => { c with wake := { c.wake with mode := 1 } }) 1 .dominant = true := by
  refine ⟨?_, ?_, ?_, ?_, ?_, ?_, ?_, ?_, ?_⟩ <;> decide +kernel

/-! ### Hypotheses of the statements on the host interface and on reads -/

/-- A module in READY with an ADMIN session 9 over PCIe, changed by g. -/
def hosted (g : State → State) : State :=
  awake .ready fun s => g { s with keeper := { s.keeper with pcieSession := 9, pcieAccess := .admin, usedSessions := [9] } }

def onKeeper_ (g : Keeper → Keeper) (s : State) : State := { s with keeper := g s.keeper }

def box (n : Fin 8) (g : Mailbox → Mailbox) (s : State) : State :=
  onKeeper_ (fun k => { k with mailboxes := k.mailboxes.set n (g k.mailboxes[n]) }) s

set_option maxRecDepth 8000 in
theorem test_hyps_HostRegisters :
    portUp (hosted id) = true ∧ bySpi (hosted id) 0 = false ∧ bySpi (hosted id) 7 = true ∧ keeperServes (hosted id) = true ∧
      keeperServes (hosted (onKeeper_ fun k => { k with running := false })) = false ∧
    mailboxBusy (hosted id) (.idGet) (hdr id) = false ∧
    (hosted (box 7 fun b => { b with dbRsp := true, waiting := [[1, 2]] })).keeper.mailboxes[(7 : Fin 8)].dbRsp = true ∧
    (0x1000 + 4 ≤ 0x2000 ∧ 0x1FFC + 4 ≤ 0x2000) ∧ Memory.wf (fun _ => true) (hosted id).keeper.mailboxes[(7 : Fin 8)].req = true ∧
    (0x1000 ≤ 0x1000 - 0x10000 % 0x1000 ∧ 0x1000 - 0x1FFFF % 0x1000 < 2) := by
  refine ⟨?_, ?_, ?_, ?_, ?_, ?_, ?_, ?_, ?_, ?_⟩ <;> decide +kernel

/-- A certificate of slot 2 that is not revoked. -/
def cert (g : ClientCert → ClientCert) : ClientCert := g ⟨true, true, some 2, 2, 0, 0xFFFFFFFFFFFFFFFF, some .operate⟩

/-- A module with key slot 2 and management on P2, changed by g. -/
def managed (g : Keeper → Keeper) : State :=
  withParams [(P.mgmtPorts, 7)] (hosted fun s =>
    onKeeper_ g { s with sec := { s.sec with lifecycle := .deployed, keys := s.sec.keys.map fun k => { k with hash := some (sha384 (zeros 97)), copy1 := zeros 97 } } })

def conn (id : Nat) : NetConn := { session := id, port := 1, access := .operate, keySlot := 2, lastActivity := 7, stored := none, sent := [] }

set_option maxRecDepth 8000 in
theorem test_hyps_SessionsAndConnections :
    (hosted id).keeper.hostBeat = (hosted id).keeper.sampledBeat ∧
      (hosted (onKeeper_ fun k => { k with hostBeat := 5 })).keeper.hostBeat ≠ (hosted id).keeper.sampledBeat ∧
    cfg (withParams [(P.beatTimeout, 10)] State.reset) P.beatTimeout ≠ 0 ∧ listens (managed id) 1 = true ∧
      certOk (atTime 9 (managed id)) (cert id) = true ∧
    certOk (atTime 9 (managed id)) (cert fun c => { c with handshakeOk := false }) = false ∧
    (managed id).keeper.conns.length < 16 ∧ 16 ≤ (managed fun k => { k with conns := List.replicate 16 (conn 20) }).keeper.conns.length ∧
    withinQuota (managed id) 5 (hostUse (managed id)) (hostUse (managed id) + 4) = true ∧ listens (hosted id) 1 = false ∧
    connOf (managed fun k => { k with conns := [conn 20] }) 20 = some (conn 20) ∧
    ((hosted (onKeeper_ fun k => { k with held := [⟨3, hdr id, 0x0401, 0, []⟩] })).keeper.held.find? fun x => x.journal == 3) = some ⟨3, hdr id, 0x0401, 0, []⟩ := by
  refine ⟨?_, ?_, ?_, ?_, ?_, ?_, ?_, ?_, ?_, ?_, ?_, ?_⟩ <;> decide +kernel

set_option maxRecDepth 8000 in
theorem test_hyps_StatusReads :
    Admitted .idGet (hdr id) 0x0100 0 [] (atTime 9 (hosted id)) ∧ Admitted .stateGet (hdr id) 0x0101 0 [] (atTime 9 (hosted id)) ∧
    Admitted .healthGet (hdr id) 0x0102 0 [] (atTime 9 (hosted id)) ∧ Admitted .pwrGet (hdr id) 0x0E01 0 [] (atTime 9 (hosted id)) ∧
    Admitted .pairStatus (hdr id) 0x0600 0 [] (atTime 9 (hosted id)) ∧ Admitted (.timeStatus 0xFFFFFFFF) (hdr id) 0x0700 4 [] (atTime 9 (hosted id)) ∧
    Admitted (.ioStatus 4 0) (hdr id) 0x0800 4 [] (atTime 9 (hosted id)) ∧ Admitted (.canStatus 1 0x24) (hdr id) 0x0900 8 [] (atTime 9 (hosted id)) ∧
    Admitted .bistResult (hdr id) 0x0B00 0 [] (atTime 9 (hosted id)) ∧ Admitted .updStatus (hdr id) 0x0C04 0 [] (atTime 9 (hosted id)) := by
  refine ⟨?_, ?_, ?_, ?_, ?_, ?_, ?_, ?_, ?_, ?_⟩ <;> decide +kernel

/-- A tag whose copies hold 1. -/
def tagOf (d : TagDecl) : Tag :=
  let c : SlotCopy := { value := 1, srcTs := 0, quality := 0, flags := 0, age := 0, epoch := 0, mark := .committed }
  { decl := d, a := c, b := c, staleCommits := 0, lastArrival := none, lastTaken := none, firstCommit := none }

def withTags (s : State) : State := { s with img := { s.img with tags := [(5, tagOf (decl .computed))] } }

/-- An entry of the journal. -/
def jnl (id cmd : Nat) (st : JnlState) : JnlEntry :=
  { id := id, command := cmd, state := st, mirrored := false, pairScope := false, step := 1, steps := 3, lastStatus := 0, session := 9, sequence := 3,
    attachment := [1, 2], accepted := 0, ended := 0, epoch := 0, detail := 0, detail2 := 0, transport := 0, mailbox := 0 }

/-- The journal holds this entry. -/
def withEntry (id cmd : Nat) (st : JnlState) (s : State) : State :=
  onKeeper_ (fun k => { k with journal := k.journal ++ [jnl id cmd st], lastJournal := max k.lastJournal id }) s

set_option maxRecDepth 8000 in
theorem test_hyps_RecordAndImageReads :
    Admitted (.evtRead 1 63 2) (hdr id) 0x0A00 8 [] (atTime 9 (hosted id)) ∧
    (Admitted (.wearGet 0 0) (hdr id) 0x0F03 4 [] (atTime 9 (hosted id)) ∧ (wearRecords (hosted id) 0 0).isSome = true) ∧
    Admitted (.quoGet 6) (hdr id) 0x0F02 2 [] (atTime 9 (hosted id)) ∧ Admitted (.frcList 4095) (hdr id) 0x0502 4 [] (atTime 9 (hosted id)) ∧
    (Admitted (.jnlGetEntries 7 63) (hdr id) 0x0F00 12 [] (atTime 9 (hosted (withEntry 7 0x0401 .done))) ∧
      (jget (hosted (withEntry 7 0x0401 .done)) 7).isSome = true ∧
      Admitted (.jnlGetAttachment 7 2) (hdr id) 0x0F00 12 [] (atTime 9 (hosted (withEntry 7 0x0401 .done)))) ∧
    (Admitted (.setRead 0 [P.ownerId]) (hdr id) 0x0200 8 [] (atTime 9 (hosted id)) ∧
      (readSetting (hosted id) (hosted id).settings.committed false P.ownerId).isSome = true ∧ paramOf 0xFFFFFFFF = none) ∧
    ((((hosted (onKeeper_ fun k => { k with exports := [⟨1, 9, [1, 2, 3]⟩] })).keeper.exports.find? fun x => x.journal == 1 && x.session == 9).map
        fun x => x.bytes) = some [1, 2, 3] ∧
      Admitted (.setExportRead 3 1) (hdr id) 0x0203 12 [] (atTime 9 (hosted (onKeeper_ fun k => { k with exports := [⟨1, 9, [1, 2, 3]⟩] })))) ∧
    (Admitted (.imgRead [(5, 1)]) (hdr id) 0x0400 12 [] (atTime 9 (hosted withTags)) ∧ (hosted withTags).tow.catchup = none ∧
      (copyAt (tagOf (decl .computed)) (readEpoch (hosted withTags) (hdr id))).isSome = true ∧
      poisonedAt (hosted withTags) (slotAddress 5 false) = false ∧
      epochGone (hosted withTags) 5 = true ∧ epochGone (hosted fun s => { s with img := { s.img with epoch := 7, mirrored := 7 } }) 7 = false) := by
  refine ⟨?_, ⟨?_, ?_⟩, ?_, ?_, ⟨?_, ?_, ?_⟩, ⟨?_, ?_, ?_⟩, ⟨?_, ?_⟩, ?_, ?_, ?_, ?_, ?_, ?_⟩ <;> decide +kernel

/-! ### Hypotheses of the statements on programs and the image -/

def onCtl (g : Control → Control) (s : State) : State := { s with ctl := g s.ctl }

/-- Host request code, length and operation find this module ready and the entry of a journal fits. -/
def takesEntry (q : Request) (h : ReqHdr) (code len : Nat) (s : State) : Prop :=
  Admitted q h code len [] (atTime 9 s) ∧ journalFull (atTime 9 s) = false ∧ FreshIds (atTime 9 s)

/-- A container of 32 bytes, version 8, without its CRC. -/
def bare : List Byte := le4 0x564C4331 ++ le2 1 ++ le2 0 ++ le4 8 ++ le4 32 ++ le4 0 ++ zeros 12

/-- The container with its CRC. -/
def container : List Byte := bare.take 24 ++ le4 (containerCrc bare).toNat ++ zeros 4

def loading (bs : List Byte) : State := hosted (onCtl fun c => { c with load := some ⟨8, 32, bs, 0⟩ })

def empty8 : Program := (parseProgram container).getD prog

def stagedAs (p : Program) (st : StageState) (g : State → State) : State :=
  hosted fun s => g (onCtl (fun c => { c with staged := some ⟨p, st, true⟩ }) s)

/-- A program whose task runs into an invalid word. -/
def badProg : Program := { prog with codes := [{ task := 0, frame := 16, words := [0], routines := [], view := [6] }] }

/-- Forces tag 5. -/
def forced5 (s : State) : State :=
  { s with img := { s.img with tags := [(5, tagOf (decl .computed))], forces := [⟨5, .int32, 3, some 4, 5⟩] }, ctl := { s.ctl with running := some prog } }

set_option maxRecDepth 20000 in
theorem test_hyps_ProgramLoadVerifyExchange :
    ((hosted id).ctl.exchange = none ∧ pages 32 ≤ quotaOf (hosted id) 2 ∧ Admitted (.prgLoadBegin 8 32) (hdr id) 0x0300 16 [] (atTime 9 (hosted id)) ∧
      Admitted (.prgLoadData 8 8 (zeros 24)) (hdr id) 0x0300 (16 + 24) [] (atTime 9 (loading (container.take 8))) ∧
      Admitted (.prgLoadData 8 0 []) (hdr id) 0x0300 16 [] (atTime 9 (loading (container.take 8))) ∧
      Admitted (.prgLoadAbort 8) (hdr id) 0x0300 16 [] (atTime 9 (loading []))) ∧
    (takesEntry (.prgLoadEnd 8) (hdr id) 0x0300 16 (loading container) ∧ loadFindings ⟨8, 32, container, 0⟩ = [] ∧
      parseProgram container = some empty8 ∧ placeFits (loading container) empty8 = true ∧
      takesEntry (.prgLoadEnd 8) (hdr id) 0x0300 16 (loading bare) ∧ loadFindings ⟨8, 32, bare, 0⟩ ≠ []) ∧
    (takesEntry (.prgVerify 8) (hdr id) 0x0301 4 (stagedAs empty8 .loaded id) ∧
      verifyFindings (stagedAs empty8 .loaded id) empty8 ++ exchangeFindings (stagedAs empty8 .loaded id) empty8 = [] ∧
      takesEntry (.prgVerify 7) (hdr id) 0x0301 4 (stagedAs badProg .loaded id) ∧
      verifyFindings (stagedAs badProg .loaded id) badProg ++ exchangeFindings (stagedAs badProg .loaded id) badProg ≠ []) ∧
    (Admitted (.prgExchange 8) (hdr id) 0x0302 4 [] (atTime 9 (stagedAs empty8 .loaded id)) ∧
      takesEntry (.prgExchange 8) (hdr id) 0x0302 4 (stagedAs empty8 .verified id) ∧
      Admitted (.prgExchange 8) (hdr fun h => { h with dryRun := true }) 0x0302 4 [] (atTime 9 (stagedAs empty8 .verified id)) ∧
      partnerStandby (stagedAs empty8 .verified id) = false ∧ exchangeBindings (stagedAs empty8 .verified id) empty8 = [] ∧
      forceConflicts (stagedAs empty8 .verified id) empty8 = [] ∧ quotaFits (stagedAs empty8 .verified id) empty8 = true ∧
      (partnerFits (atTime 9 (stagedAs empty8 .verified id))).1 = true) ∧
    (Admitted (.prgExchange 8) (hdr id) 0x0302 4 [] (atTime 9 (stagedAs empty8 .verified forced5)) ∧
      forceConflicts (stagedAs empty8 .verified forced5) empty8 ≠ [] ∧ exchangeBindings (stagedAs empty8 .verified forced5) empty8 = [] ∧
      takesEntry (.prgExchange 8) (hdr fun h => { h with dropForces := true }) 0x0302 4 (stagedAs empty8 .verified forced5)) := by
  refine ⟨⟨?_, ?_, ?_, ?_, ?_, ?_⟩, ⟨?_, ?_, ?_, ?_, ?_, ?_⟩, ⟨?_, ?_, ?_, ?_⟩, ⟨?_, ?_, ?_, ?_, ?_, ?_, ?_, ?_⟩, ?_, ?_, ?_, ?_⟩ <;> first | decide +kernel | (refine ⟨?_, ?_, ?_⟩ <;> decide +kernel)

/-- A module that serves a host in another state, with a host session. -/
def hostedIn (m : ModState) (g : State → State) : State :=
  let s := hosted fun s => withParams [(P.ownerId, 5)] (g s)
  { s with mod := { s.mod with state := m } }

set_option maxRecDepth 20000 in
theorem test_hyps_StartAndStop :
    (takesEntry (.prgStart 3) (hdr id) 0x0303 4 (hosted id) ∧ ownerId (hosted id) = 0) ∧
    (takesEntry (.prgStart 3) (hdr id) 0x0303 4 (hostedIn .active id) ∧ ownerId (hostedIn .active id) ≠ 0 ∧
      (hostedIn .active id).sec.tainted = false ∧
      invasiveOpen (hostedIn .active id) = false ∧ (hostedIn .active id).pair.paired = false) ∧
    (takesEntry (.prgStart 3) (hdr id) 0x0303 4 (hostedIn .stoppedFault id) ∧ (hostedIn .stoppedFault id).mod.faultRead = false) ∧
    (takesEntry (.prgStart 3) (hdr id) 0x0303 4 (hostedIn .ready id) ∧ (hostedIn .ready id).pair.joinWaitOver = false) ∧
    (takesEntry (.prgStart 3) (hdr id) 0x0303 4 (hostedIn .ready (onPair_ fun p => { p with joinWaitOver := true, highestClaim := 0xFFFFFFFE }))) ∧
    (takesEntry (.prgStart 3) (hdr fun h => { h with pairScope := true }) 0x0303 4 (hostedIn .ready (onPair_ fun p => { p with paired := true })) ∧
      (hostedIn .ready (onPair_ fun p => { p with paired := true })).pair.heardOffer = false ∧
      partnerActive (hostedIn .ready (onPair_ fun p => { p with paired := true })) = false ∧
      moduleFlag (hostedIn .ready (onPair_ fun p => { p with paired := true })) = false ∧
      (hostedIn .ready (onPair_ fun p => { p with paired := true })).pair.offer = none) ∧
    takesEntry (.prgStop 3) (hdr id) 0x0304 4 (hostedIn .active id) := by
  refine ⟨⟨?_, ?_⟩, ⟨?_, ?_, ?_, ?_, ?_⟩, ⟨?_, ?_⟩, ⟨?_, ?_⟩, ?_, ⟨?_, ?_, ?_, ?_, ?_⟩, ?_⟩ <;> first | decide +kernel | (refine ⟨?_, ?_, ?_⟩ <;> decide +kernel)

/-- A module with tag 5 whose epoch 10 is mirrored. -/
def imaged (g : State → State) : State := hosted fun s => g { withTags s with img := { (withTags s).img with epoch := 12, mirrored := 10 } }

def sub5 (src : Source) : Subscription :=
  { hdr := hdr fun h => { h with src := src }, ranges := [(5, 1)], minInterval := 4, lastNotified := 2, lastEpoch := 3, skipped := 2 }

def subscribed5 (g : Subscription → Subscription) (e : Nat) : State :=
  imaged fun s => onKeeper_ (fun k => { k with subscriptions := [g (sub5 (.mailbox 3))] })
    { s with img := { s.img with tags := s.img.tags.map fun p => (p.1, { p.2 with a := { p.2.a with epoch := e } }) } }

set_option maxRecDepth 20000 in
theorem test_hyps_ImageRequests :
    (valueFlaws (imaged id) [(5, typeCode .int32, 9)] = [] ∧ takesEntry (.imgWrite [(5, typeCode .int32, 9)]) (hdr id) 0x0401 20 (imaged id) ∧
      takesEntry (.frcSet [(5, typeCode .int32, 9)]) (hdr id) 0x0500 20 (imaged id) ∧
      mostForced (imaged id) (hdr id) (.forceSet [(5, typeCode .int32, 9)]) ≤ 4096 ∧
      missingTags (imaged id) [5] = [] ∧ takesEntry (.frcClear false [5]) (hdr id) 0x0501 8 (imaged id) ∧
      takesEntry (.frcClear true []) (hdr id) 0x0501 4 (imaged id) ∧
      passedEpoch (imaged id) (hdr id) = false ∧ passedEpoch (imaged id) (hdr fun h => { h with atEpoch := true, epoch := 12 }) = true ∧
      Admitted (.frcClear true []) (hdr fun h => { h with dryRun := true, atEpoch := true, epoch := 100 }) 0x0501 4 [] (atTime 9 (imaged id))) ∧
    (valueFlaws (imaged id) [(5, 99, 3)] ≠ [] ∧ Admitted (.imgWrite [(5, 99, 3)]) (hdr id) 0x0401 20 [] (atTime 9 (imaged id)) ∧
      valueFlaws (imaged id) [(900, typeCode .int32, 3)] ≠ [] ∧
      Admitted (.frcSet [(900, typeCode .int32, 3)]) (hdr id) 0x0500 20 [] (atTime 9 (imaged id))) ∧
    ((imaged id).tow.catchup = none ∧ (copyAt (tagOf (decl .computed)) 10).isSome = true ∧
      poisonedAt (imaged id) (slotAddress 5 (copyIsB (tagOf (decl .computed)) 10)) = false ∧
      withinQuota (imaged id) 5 (hostUse (imaged id)) (hostUse (imaged id) + 4) = true ∧
      Admitted (.imgSubscribeStart 250 [(5, 1)]) (hdr id) 0x0402 16 [] (atTime 9 (imaged id)) ∧
      Admitted (.imgSubscribeStart 10000000 [(5, 1)]) (hdr id) 0x0402 16 [] (atTime 9 (imaged id)) ∧
      Admitted .imgSubscribeStop (hdr id) 0x0402 8 [] (atTime 9 (imaged id))) ∧
    (((subscribed5 id 9).keeper.subscriptions.find? fun x => x.hdr.src == .mailbox 3) = some (sub5 (.mailbox 3)) ∧
      keeperServes (subscribed5 id 9) = true ∧
      subscribedChange (subscribed5 id 9) (sub5 (.mailbox 3)) = true ∧ 2 + 4 ≤ nowOf (atTime 6 (subscribed5 id 9)) ∧
      (match readImage (subscribed5 id 9) 10 (rangeTags [(5, 1)]) with
        | .slots bs => bs.length == 1
        | _ => false) = true ∧
      nowOf (atTime 5 (subscribed5 id 9)) < 2 + 4 ∧ subscribedChange (subscribed5 id 3) (sub5 (.mailbox 3)) = false) := by
  refine ⟨⟨?_, ?_, ?_, ?_, ?_, ?_, ?_, ?_, ?_, ?_⟩, ⟨?_, ?_, ?_, ?_⟩, ⟨?_, ?_, ?_, ?_, ?_, ?_, ?_⟩, ?_, ?_, ?_, ?_, ?_, ?_, ?_⟩ <;>
    first | decide +kernel | (refine ⟨?_, ?_, ?_⟩ <;> decide +kernel)

/-! ### Hypotheses of the statements on settings, the checks of a request, the pair on request and events -/

def onSet (g : Settings → Settings) (s : State) : State := { s with settings := g s.settings }

/-- One setting staged by session 9. -/
def oneStaged : State := hosted (setStaged 9 [(P.udpPort, le2 9)])

/-- A commit of some entries in a phase, with both stored copies readable. -/
def commits (es : Tbl (List Byte)) (p : CommitPhase) : State :=
  hosted fun s => withEntry 1 0x0202 .queued (onSet (fun t => { t with
    commits := [{ journal := 1, session := 9, entries := es, phase := p, pairScope := false, atEpoch := none, acceptedAt := 3, before := [], copyEpoch := 4 }],
    copyA := { t.copyA with valid := true }, copyB := { t.copyB with valid := true }, unreadable := false }) s)

set_option maxRecDepth 20000 in
theorem test_hyps_SettingsCommit :
    (Admitted (.setWrite [(P.udpPort, le2 0x5643)]) (hdr id) 0x0201 20 [] (atTime 9 oneStaged) ∧
      [(P.udpPort, le2 0x5643)].filterMap (writeFinding false) = [] ∧
      withinQuota oneStaged 5 (hostUse oneStaged) (hostUse (setStaged 9 (tput P.udpPort (le2 0x5643) (stagedOf oneStaged 9)) oneStaged)) = true ∧
      Admitted (.setWrite [(P.udpPort, le4 0x5643)]) (hdr id) 0x0201 20 [] (atTime 9 oneStaged) ∧
      [(P.udpPort, le4 0x5643)].filterMap (writeFinding false) ≠ []) ∧
    (stagedOf oneStaged 9 = [(P.udpPort, le2 9)] ∧ takesEntry (.setCommit 1) (hdr id) 0x0202 4 oneStaged ∧ passedEpoch oneStaged (hdr id) = false ∧
      Admitted (.setCommit 0) (hdr id) 0x0202 4 [] (atTime 9 oneStaged) ∧ Admitted (.setCommit 2) (hdr id) 0x0202 4 [] (atTime 9 oneStaged)) ∧
    (((jget (commits [(P.udpPort, le2 9)] .waiting) 1).map fun e => ended e.state) = some false ∧
      (commitVerdict (atTime 9 (commits [(P.udpPort, le2 9)] .waiting)) false [(P.udpPort, le2 9)]).1 = stOk ∧
      (commitVerdict (atTime 9 (commits [(P.keySwitchAt, le8 3)] .waiting)) false [(P.keySwitchAt, le8 3)]).1 ≠ stOk) ∧
    (((commits [(P.udpPort, le2 9)] .checked).settings.commits.find? fun c => c.journal == 1).isSome = true ∧
      (commits [(P.udpPort, le2 9)] .checked).settings.unreadable = false ∧
      ((commits [] .mirrored).settings.commits.map fun c => c.phase) = [.mirrored]) ∧
    (hostUse (hosted id) + 4 ≤ quotaOf (hosted id) 5 ∧ takesEntry .setExportBuild (hdr id) 0x0203 12 (hosted id)) ∧
    (((paramOf (P.quota 6)).map fun r => inRange r (P.quota 6) (le4 8192)) = some true ∧
      Admitted (.quoSet 6 8192) (hdr id) 0x0F01 8 [] (atTime 9 (hosted id)) ∧
      Admitted (.quoSet 1 16384) (hdr fun h => { h with dryRun := true }) 0x0F01 8 [] (atTime 9 (hosted id)) ∧
      ((paramOf (P.quota 1)).map fun r => inRange r (P.quota 1) (le4 16384)) = some true) := by
  refine ⟨⟨?_, ?_, ?_, ?_, ?_⟩, ⟨?_, ?_, ?_, ?_, ?_⟩, ⟨?_, ?_, ?_⟩, ⟨?_, ?_, ?_⟩, ⟨?_, ?_⟩, ?_, ?_, ?_, ?_⟩ <;>
    first | decide +kernel | (refine ⟨?_, ?_, ?_⟩ <;> decide +kernel)

/-- A PRG.STOP with this header meets a module, and no stored answer or finding ends it before the checks. -/
def reachesChecks (h : ReqHdr) (s : State) : Bool :=
  keeperServes s && !mailboxBusy s (.prgStop 3) h && !connBusy s h && s.mod.power != .dormant && (repeated h (arrived h (atTime 9 s))).isNone &&
    (found h 0x0304 (arrived h (atTime 9 s))).isNone

set_option maxRecDepth 20000 in
theorem test_hyps_RequestChecks :
    (keeperServes (hosted (onKeeper_ fun k => { k with running := false })) = false ∧
      (hosted (onKeeper_ fun k => { k with running := false })).path.powered = true ∧
      keeperServes (hosted (box 0 fun b => { b with subscribed := true })) = true) ∧
    ((hosted fun s => { s with mod := { s.mod with power := .dormant } }).mod.waking = none ∧
      mailboxBusy (hosted fun s => { s with mod := { s.mod with power := .dormant } }) (.prgStop 3) (hdr id) = false) ∧
    ((repeated (hdr id) (arrived (hdr id) (atTime 9 (hosted (box 0 fun b => { b with stored := some (4, 0, [5]) }))))).isSome = true) ∧
    (reachesChecks (hdr fun h => { h with session := 10 }) (hosted id) = true ∧ sessionOf (atTime 9 (hosted id)) (.mailbox 0) = some 9 ∧
      sessionOf (atTime 9 (hosted id)) (.mailbox 0) ≠ some 10) ∧
    (reachesChecks (hdr id) (hosted (onKeeper_ fun k => { k with pcieAccess := .read })) = true ∧
      accessCode (accessOf (atTime 9 (hosted (onKeeper_ fun k => { k with pcieAccess := .read }))) (.mailbox 0)) < 1) ∧
    (1 ≤ accessCode (accessOf (atTime 9 (hosted id)) (.mailbox 0)) ∧ reachesChecks (hdr id) (hostedIn .held id) = true ∧
      reachesChecks (hdr id) (hostedIn .standby id) = true ∧ reachesChecks (hdr id) (hostedIn .ready id) = true ∧
      reachesChecks (hdr fun h => { h with dryRun := true }) (hostedIn .active id) = true) := by
  refine ⟨⟨?_, ?_, ?_⟩, ⟨?_, ?_⟩, ?_, ⟨?_, ?_, ?_⟩, ⟨?_, ?_⟩, ?_, ?_, ?_, ?_, ?_⟩ <;> decide +kernel

def noLanes (s : State) : State := onCtl (fun c => { c with weave := { c.weave with lanes := c.weave.lanes.map fun l => { l with role := .retired } } }) s

set_option maxRecDepth 20000 in
theorem test_hyps_RequestChecks_release :
    Admitted (.unknown 0x7777) (plainHdr (hdr id)) 0x7777 0 [] (atTime 9 (hosted id)) ∧
    (Admitted .stateRelease (hdr id) 0x0103 0 [] (atTime 9 (hostedIn .held id)) ∧ (hostedIn .held id).settings.unreadable = false ∧
      2 ≤ usableLanes (hostedIn .held id)) ∧
    (Admitted .stateRelease (hdr id) 0x0103 0 [] (atTime 9 (hostedIn .held noLanes)) ∧ usableLanes (hostedIn .held noLanes) < 2) ∧
    Admitted .stateRelease (hdr id) 0x0103 0 [] (atTime 9 (hostedIn .held (onSet fun t => { t with unreadable := true }))) := by
  refine ⟨?_, ⟨?_, ?_, ?_⟩, ⟨?_, ?_⟩, ?_⟩ <;> decide +kernel

/-- A module in a state, paired with a standby. -/
def hostedPair (m : ModState) (suspect : Bool) : State :=
  hostedIn m fun s => { s with
    tow := { s.tow with up := true },
    pair := { s.pair with paired := true, partner := some { beat id with state := 5, suspect := suspect }, lastHeartbeat := some 1 } }

set_option maxRecDepth 20000 in
theorem test_hyps_PairRequests :
    (Machine.switching (hostedPair .active false) = false ∧ takesEntry .pairSwitch (hdr id) 0x0601 0 (hostedPair .active false) ∧
      partnerStandby (hostedPair .active false) = true ∧ partnerSuspect (hostedPair .active false) = false ∧
      takesEntry .pairSwitch (hdr id) 0x0601 0 (hostedPair .active true) ∧ partnerSuspect (hostedPair .active true) = true ∧
      takesEntry .pairSwitch (hdr id) 0x0601 0 (hostedIn .active id) ∧ partnerStandby (hostedIn .active id) = false) ∧
    (takesEntry .pairProof (hdr id) 0x0602 0 (hostedPair .active false) ∧ partnerNap (hostedPair .active false) = false ∧
      exchangeBusy (hostedPair .active false) = false ∧ updateBusy (hostedPair .active false) = false) ∧
    (takesEntry .pairRelease (hdr id) 0x0603 0 (hostedIn .standby id) ∧ Machine.switching (hostedIn .standby id) = false ∧
      takesEntry .pairRelease (hdr id) 0x0603 0 (hostedPair .active false) ∧ takesEntry .pairRelease (hdr id) 0x0603 0 (hostedIn .active id)) := by
  refine ⟨⟨?_, ?_, ?_, ?_, ?_, ?_, ?_, ?_⟩, ⟨?_, ?_, ?_, ?_⟩, ?_, ?_, ?_, ?_⟩ <;> first | decide +kernel | (refine ⟨?_, ?_, ?_⟩ <;> decide +kernel)

/-- A set-up that sets fast output 0 at an instant. -/
def foAt (mode : TrigMode) (t period : Nat) : TrigSetup :=
  { mode := mode, action := .foSet, channel := 0, compatTarget := 5000, target := t, period := period, argument := 0, armedAt := nowOf (atTime 9 (hosted id)) }

/-- A unit that is armed and has fired. -/
def firedUnit : Trigger :=
  { setup := some (foAt .once 5 0), armed := true, late := false, firings := 7, suppressed := 0, delayed := 2, firedAt := none }

def armed3 : State := hosted fun s => { s with time := { s.time with triggers := s.time.triggers.set 3 firedUnit } }

set_option maxRecDepth 20000 in
theorem test_hyps_TriggersAndStrobes_requests :
    (Admitted (.trgArm 31 1 2 0 5000 100000 0 0) (hdr id) 0x0701 32 [] (atTime 9 (hosted id)) ∧ trigModeOf 1 = some .once ∧
      trigActionOf 2 = some .foSet ∧
      trigFlaws (atTime 9 (hosted id)) (foAt .once 100000 0) = [] ∧ (hosted id).time.triggers[(31 : Fin 32)].armed = false ∧
      firingDue (atTime 9 (hosted id)) (foAt .once 100000 0) (nowOf (atTime 9 (hosted id))) = false) ∧
    (Admitted (.trgArm 31 1 2 0 5000 5 0 0) (hdr id) 0x0701 32 [] (atTime 9 (hosted id)) ∧ trigFlaws (atTime 9 (hosted id)) (foAt .once 5 0) = [] ∧
      firingDue (atTime 9 (hosted id)) (foAt .once 5 0) (nowOf (atTime 9 (hosted id))) = true) ∧
    (Admitted (.trgArm 3 1 2 0 5000 5 0 0) (hdr id) 0x0701 32 [] (atTime 9 armed3) ∧ (armed3.time.triggers[(3 : Fin 32)]).armed = true ∧
      trigFlaws (atTime 9 armed3) (foAt .once 5 0) = [] ∧ Admitted (.trgCancel 3) (hdr id) 0x0702 4 [] (atTime 9 armed3)) := by
  refine ⟨⟨?_, ?_, ?_, ?_, ?_, ?_⟩, ⟨?_, ?_, ?_⟩, ?_, ?_, ?_, ?_⟩ <;> decide +kernel

def event (code : Nat) : Event := ⟨1, 2, 3, code, 5, 0, 2, 3, false, false, zeros 32⟩

/-- A record with these staged events, whose newest event lies in slot 20000. -/
def recordOf (es : List Event) (discarded : Nat) (r : Recorder) : Recorder :=
  { r with
    staging := es, discarded := discarded, slots := [(20000, 3, event 0x0202)], lastSeq := 3, newestSlot := some 20000, newestSinceRestart := true }

/-- A module with this record and these marks. -/
def events (es : List Event) (discarded : Nat) (marks : List (Option ReqHdr)) : State :=
  hosted fun s => onKeeper_ (fun k => { k with marks := marks }) { s with recd := recordOf es discarded s.recd }

set_option maxRecDepth 20000 in
theorem test_hyps_EventsAndMarks :
    (Admitted (.evtMark 0xF000 (zeros 32)) (hdr id) 0x0A01 40 [] (atTime 9 (events [] 0 [])) ∧
      Admitted (.evtMark 0xFFFF (zeros 32)) (hdr id) 0x0A01 40 [] (atTime 9 (events [] 0 [])) ∧
      32768 ≤ (events (List.replicate 32768 (event 1)) 0 []).recd.staging.length) ∧
    (keeperServes (events [event 0x0505] 0 []) = true ∧ validTail (events [event 0x0505] 0 []) = none ∧
      isRepeat (events [event 0x0505] 0 []) (event 0x0505) = false ∧
      (events [event 0x0505] 0 []).recd.permanentUsed < 4096 ∧ isMark 0xF000 = true ∧
      (events [event 0xF000] 0 [some (hdr id)]).keeper.marks = [some (hdr id)] ∧
      isRepeat (events [event 0xF000] 0 [some (hdr id)]) (event 0xF000) = false) ∧
    isRepeat (events [event 0x0202] 0 []) (event 0x0202) = true ∧ (events [event 0x0505] 6 []).recd.discarded ≠ 0 ∧
    (events [event 0x0505] 0 []).wear.mram.length < 16 := by
  refine ⟨⟨?_, ?_, ?_⟩, ⟨?_, ?_, ?_, ?_, ?_, ?_, ?_⟩, ?_, ?_, ?_⟩ <;> decide +kernel

/-! ### Hypotheses of the statements on channels, CAN and security on request -/

/-- Channel AIO 7 is a loop output, or an input at rest. -/
def loopAt (mode : Nat) (g : State → State) : State :=
  withParams [(P.aioMode 7, mode)] (hosted fun s => g { s with field := { s.field with fieldLost := false, monitor := .run } })

set_option maxRecDepth 20000 in
theorem test_hyps_FaultResetsAndTrim_faults :
    Admitted (.ioResetFault 0 0xFFFF 0) (hdr id) 0x0802 8 [] (atTime 9 (hosted id)) ∧
      Admitted (.ioResetFault 0 0 0xFFFFFFFF) (hdr id) 0x0802 8 [] (atTime 9 (hosted id)) ∧
    Admitted (.ioResetFault 1 0xFF 0x90) (hdr id) 0x0802 8 [] (atTime 9 (hosted id)) ∧
      Admitted (.ioResetFault 2 0xF 3) (hdr id) 0x0802 8 [] (atTime 9 (hosted id)) := by
  refine ⟨?_, ?_, ?_, ?_⟩ <;> decide +kernel

/-- A sequence on channel 7 with journal entry 1, at a step. -/
def trimming (step : Nat) (ref2 : Int) : State :=
  loopAt 3 fun s => withEntry 1 0x0801 .running { s with field := { s.field with trim := [⟨7, 1, step, 3, 4000005, 44, ref2, 55⟩] } }

def seq (step : Nat) (ref2 : Int) : TrimSeq := ⟨7, 1, step, 3, 4000005, 44, ref2, 55⟩

set_option maxRecDepth 20000 in
theorem test_hyps_FaultResetsAndTrim_trim :
    (trimAllowed (atTime 9 (loopAt 3 id)) 7 = true ∧ takesEntry (.ioTrimStart 7) (hdr id) 0x0801 12 (loopAt 3 id) ∧ aioIsOut (loopAt 3 id) 7 = true ∧
      trimAllowed (atTime 9 (loopAt 0 id)) 7 = false ∧ Admitted (.ioTrimStart 7) (hdr id) 0x0801 12 [] (atTime 9 (loopAt 0 id))) ∧
    (trimSeq (trimming 1 0) 7 = some (seq 1 0) ∧ Admitted (.ioTrimPoint1 7 0x40800000 1) (hdr id) 0x0801 12 [] (atTime 9 (trimming 1 0)) ∧
      trimSeq (trimming 2 0) 7 = some (seq 2 0) ∧ Admitted (.ioTrimPoint1 7 0x40800000 1) (hdr id) 0x0801 12 [] (atTime 9 (trimming 2 0)) ∧
      Admitted (.ioTrimPoint2 7 0x41A00000 1) (hdr id) 0x0801 12 [] (atTime 9 (trimming 2 0))) ∧
    (trimSeq (trimming 3 20000000) 7 = some (seq 3 20000000) ∧ Admitted (.ioTrimCommit 7 1) (hdr id) 0x0801 12 [] (atTime 9 (trimming 3 20000000)) ∧
      ((jget (trimming 3 20000000) 1).map fun e => ended e.state) = some false ∧ pointsGood 3 (seq 3 20000000) = true ∧
      pointsGood 3 (seq 3 9) = false ∧
      aioModeOf (trimming 3 9) 7 = 3 ∧ Admitted (.ioTrimCommit 7 1) (hdr id) 0x0801 12 [] (atTime 9 (trimming 3 9)) ∧
      Admitted (.ioTrimAbort 7 1) (hdr id) 0x0801 12 [] (atTime 9 (trimming 3 9))) := by
  refine ⟨⟨?_, ?_, ?_, ?_, ?_⟩, ⟨?_, ?_, ?_, ?_, ?_⟩, ?_, ?_, ?_, ?_, ?_, ?_, ?_, ?_⟩ <;> first | decide +kernel | (refine ⟨?_, ?_, ?_⟩ <;> decide +kernel)

/-- A module whose channel 0 on CAN is changed. -/
def canHost (shared : Nat) (g : Can → Can) : State :=
  withParams [(P.canBusShared 0, shared)] (hosted fun s => { s with can := s.can.set 0 (g s.can[0]) })

def normal (c : Can) : Can := { c with mode := .normal }

def received (t : Nat) : CanRecord := ⟨t, canFrame, false, 0⟩

/-- One classic frame in a batch. -/
def oneFrame : List (CanFrame × Bool) := [(canFrame, false)]

set_option maxRecDepth 20000 in
theorem test_hyps_CanRequests :
    (frameFlaws (canHost 0 normal) 0 oneFrame = [] ∧ (oneFrame.all fun f => f.1.data.length == frameLength f.1) = true ∧
      takesEntry (.canSend 0 oneFrame) (hdr id) 0x0901 (sendLength oneFrame) (canHost 0 normal) ∧ canYielded (atTime 9 (canHost 0 normal)) 0 = false ∧
      (canHost 0 id).can[(0 : Fin 2)].mode ≠ .normal ∧ frameFlaws (canHost 0 id) 0 oneFrame = [] ∧ canYielded (atTime 9 (canHost 1 normal)) 0 = true ∧
      frameFlaws (canHost 1 normal) 0 oneFrame = [] ∧
      64 < (canHost 0 fun c => { normal c with hostQueue := List.replicate 64 ⟨canFrame, false, 3⟩ }).can[(0 : Fin 2)].hostQueue.length + oneFrame.length) ∧
    (Admitted (.canRecv 0 1 50) (hdr id) 0x0902 4 [] (atTime 9 (canHost 0 normal)) ∧
      (canHost 0 fun c => { c with rxq := c.rxq.set 1 { c.rxq[1] with records := [received 1, received 2], shadow := some (received 3) } }).can[(0 : Fin 2)].rxq[(1 : Fin 2)].records.take 1 = [received 1] ∧
      Admitted (.canRecv 0 1 1) (hdr id) 0x0902 4 [] (atTime 9 (canHost 0 fun c => { c with rxq := c.rxq.set 1 { c.rxq[1] with records := [received 1, received 2], shadow := some (received 3) } }))) ∧
    (canModeOf 0 = some .disabled ∧ modeFlaws 0 0 false [] = [] ∧
      Admitted (.canConfigSetMode 0 0 false []) (hdr id) 0x0903 8 [] (atTime 9 (canHost 0 normal)) ∧
      modeFlaws 0 3 false [(BitVec.ofNat 32 (cfg (canHost 0 id) (P.canNominal 0)), 0)] = [] ∧ canModeOf 3 = some .autobaud ∧
      Admitted (.canConfigSetMode 0 3 false [(BitVec.ofNat 32 (cfg (canHost 0 id) (P.canNominal 0)), 0)]) (hdr id) 0x0903 16 [] (atTime 9 (canHost 0 id)) ∧
      modeFlaws 0 1 true [] = [] ∧
      Admitted (.canConfigSetMode 0 1 true []) (hdr id) 0x0903 8 [] (atTime 9 (canHost 0 fun c => { c with rateFound := true }))) ∧
    (Admitted (.canConfigRestart 0) (hdr id) 0x0903 8 [] (atTime 9 (canHost 0 fun c => { normal c with confinement := .busOff })) ∧
      (canHost 0 normal).can[(0 : Fin 2)].recovering = false ∧ (canHost 0 normal).can[(0 : Fin 2)].confinement ≠ .busOff ∧
      Admitted (.canConfigRestart 0) (hdr id) 0x0903 8 [] (atTime 9 (canHost 0 normal))) := by
  refine ⟨⟨?_, ?_, ?_, ?_, ?_, ?_, ?_, ?_, ?_⟩, ⟨?_, ?_, ?_⟩, ⟨?_, ?_, ?_, ?_, ?_, ?_, ?_, ?_⟩, ?_, ?_, ?_, ?_⟩ <;>
    first | decide +kernel | (refine ⟨?_, ?_, ?_⟩ <;> decide +kernel)

/-- The three public keys of slots 0 to 2 below, and the r and s (equal) of the one signature that the tests verify under each. -/
def keyAt (x y : Nat) : List Byte := 4 :: (beBytes 48 x ++ beBytes 48 y)

def key0 : List Byte :=
  keyAt 0x68632ef3fc2bbfa5f7b83488c9ced5ef38cd83c7d91e89b5b2cf423909597912cd1320e24a779301497571c2905867df
    0x6d8903241e4da272cfe96ba4a7485a3d99d82ef79a51d6ccc04b32cdd2e1f7eee85217d2312b9c7f84f2c7b94800cb5a

def key1 : List Byte :=
  keyAt 0x548a43dbd67f0ed3ea96de05245592fad705dfab30d5284bde5614d13d8a21c49b414c524a7e7ce0849fa6ba104a0b2b
    0xc7202fc21795014dccf43dd386cea0724edf4cab84cb518647d6c5849f546b6ee06cf6bbbbfd92d0cccab486aec210ce

def key2 : List Byte :=
  keyAt 0x7dc1fd93e736db9b1d1333155a9c035e56fb73dc2f814fc0d021be0e65ae362ffd6878823d14cc61564a644414197d12
    0x8d3d6c8ed500ac01a390fb84afa68d0a4f4c273285abb84c162971bf03c18a33b82c449ca400c8386d9c69636f4217ef

def signed (z : Nat) : List Byte := beBytes 48 z ++ beBytes 48 z

def sig0 : List Byte := signed 0xd7fc43f0e76043251b1a534e38692a1e89a7ed0ff5727956e2f0e2c9c4fb20e49faa8b15bcca751989c958d1be9b9c42
def sig1 : List Byte := signed 0xb53b6b388258efbc922a1b6d16a58d1484d95768e73571663fbc40b9c01c0c2a24467838cf5bd7286b2bf7d833a2d63d
def sig2 : List Byte := signed 0xd55e72b219d98d2360ac4922afaa8544faf1e3964c73142ce653d35205a98095009791a78f84a48769b7f8b1977395ef

/-- A module in HELD that holds the three keys and these nonces, in lifecycle PROVISIONED. -/
def secured (ns : List Nonce) (g : Security → Security) : State :=
  hostedIn .held fun s => { s with
    sec := g { s.sec with
      lifecycle := .provisioned, nonces := ns, keys := ((s.sec.keys.set 0 ⟨some (sha384 key0), false, key0, []⟩).set 1 ⟨some (sha384 key1), false, key1, []⟩).set 2
        ⟨some (sha384 key2), false, key2, []⟩ } }

def nonce (l : DbgLevel) (v : Byte) : Nonce := { id := 4, level := l, value := List.replicate 32 v, expires := 10 }

/-- On a module of serial number 7 each of the three signatures verifies over the message it signs. -/
theorem test_signatures (h : Config.serial = 7) :
    verifies (secured [] id) 0 (signedMessage unlockPurpose 1 0 (List.replicate 32 0)) sig0 = true ∧
    verifies (secured [] id) 1 (signedMessage lifecyclePurpose 2 1 (List.replicate 32 2)) sig1 = true ∧
    verifies (secured [] id) 2 (signedMessage lifecyclePurpose 3 2 (List.replicate 32 0)) sig2 = true := by
  unfold signedMessage
  rw [h]
  refine ⟨?_, ?_, ?_⟩ <;> decide +kernel

/-- Zeros are no signature of anything. -/
theorem test_zeros_never_verify (s : State) (slot : Nat) (m : List Byte) : verifies s slot m (zeros 96) = false := by
  have r : beNat ((zeros 96).take 48) = 0 := by decide +kernel
  unfold verifies ecdsaVerify
  split
  · rw [r]; split <;> simp
  · rfl

set_option maxRecDepth 20000 in
theorem test_hyps_SignedUnlocks :
    (Admitted (.secChallenge 1) (hdr id) 0x0D00 4 [] (atTime 9 (secured [] id)) ∧
      Admitted (.secChallenge 2) (hdr id) 0x0D00 4 [] (atTime 9 (secured [] id)) ∧
      (secured [] fun c => { c with lockoutUntil := some 5 }).sec.lockoutUntil = some 5) ∧
    (Admitted (.secUnlock 4 0 sig0) (hdr id) 0x0D01 104 [] (atTime 9 (secured [nonce .observe 0] id)) ∧
      nonceOf (atTime 9 (secured [nonce .observe 0] id)) 4 = some (nonce .observe 0) ∧
      unlockLevel (atTime 9 (secured [nonce .observe 0] id)) (nonce .observe 0) 0 sig0 = .observe ∧
      unlockRefusal (atTime 9 (secured [nonce .observe 0] id)) (some (nonce .observe 0)) 0 .observe = none ∧
      (∀ m, verifies (atTime 9 (secured [nonce .observe 0] id)) 0 m (zeros 96) = false) ∧
      Admitted (.secUnlock 4 0 (zeros 96)) (hdr id) 0x0D01 104 [] (atTime 9 (secured [nonce .observe 0] id)) ∧
      (atTime 9 (secured [nonce .observe 0] id)).sec.failures = [] ∧
      Admitted (.secUnlock 4 0 (zeros 96)) (hdr id) 0x0D01 104 [] (atTime 9 (secured [nonce .observe 0] fun c => { c with failures := [3, 4] })) ∧
      Admitted (.secUnlock 4 0 (zeros 96)) (hdr id) 0x0D01 104 [] (atTime 9 (secured [nonce .observe 0] fun c => { c with lockoutUntil := some 50 }))) ∧
    (Admitted (.secLifecycle 2 1 4 sig1) (hdr id) 0x0D02 104 [] (atTime 9 (secured [nonce .invasive 2] id)) ∧
      targetLegal (secured [nonce .invasive 2] id) 2 = true ∧
      nonceOf (atTime 9 (secured [nonce .invasive 2] id)) 4 = some (nonce .invasive 2) ∧ (slotKey (secured [nonce .invasive 2] id) 1).isSome = true ∧
      (secured [nonce .invasive 2] id).sec.lockoutUntil = none ∧ (∀ m, verifies (atTime 9 (secured [nonce .invasive 2] id)) 1 m (zeros 96) = false) ∧
      Admitted (.secLifecycle 2 1 4 (zeros 96)) (hdr id) 0x0D02 104 [] (atTime 9 (secured [nonce .invasive 2] id)) ∧
      (secured [nonce .invasive 2] id).sec.fuses = [] ∧ journalFull (atTime 9 (secured [nonce .invasive 2] id)) = false ∧
      FreshIds (atTime 9 (secured [nonce .invasive 2] id)) ∧
      Admitted (.secLifecycle 3 2 4 sig2) (hdr id) 0x0D02 104 [] (atTime 9 (secured [nonce .invasive 0] id)) ∧
      targetLegal (secured [nonce .invasive 0] id) 3 = true) ∧
    (mayBlow (secured [] id) = false ∧
      mayBlow { secured [] id with path := { (secured [] id).path with charged := true, feeds := (secured [] id).path.feeds.map fun f => { f with inRange := true } } } = true) := by
  refine ⟨⟨?_, ?_, ?_⟩, ⟨?_, ?_, ?_, ?_, fun m => test_zeros_never_verify _ _ m, ?_, ?_, ?_, ?_⟩, ⟨?_, ?_, ?_, ?_, ?_, fun m => test_zeros_never_verify _ _ m, ?_, ?_, ?_, ?_, ?_, ?_⟩, ?_, ?_⟩ <;> decide +kernel

/-! ### Hypotheses of the statements on power, starts, references, feeds, sections, the debug port and self-test -/

/-- A module in DORMANT whose wake sources 2 and 3 are on and whose ports have links. -/
def dormant (g : Machine.Mod → Machine.Mod) : State :=
  withParams [(P.wakeSources, 12), (P.ownerId, 5)] (hosted fun s => { s with
    sw := { s.sw with ports := s.sw.ports.map fun p => { p with linkUp := true } }, mod := g { s.mod with power := .dormant } })

def wakeCall : List Byte := [0x56, 0x57, 0x4B, 0x31, 0, 5, 0, 1] ++ zeros 8

def feedsAt (g : Fin 4 → Feed) (s : State) : State := { s with path := { s.path with feeds := Vector.ofFn g } }

set_option maxRecDepth 20000 in
theorem test_hyps_PowerStates :
    (Admitted (.pwrSetPowerState 1) (hdr id) 0x0E00 4 [] (atTime 9 (hostedIn .held id)) ∧
      Admitted (.pwrSetPowerState 2) (hdr id) 0x0E00 4 [] (atTime 9 (hostedIn .standby id)) ∧ (hostedIn .standby id).mod.power ≠ .nap ∧
      napBarred (atTime 9 (hostedIn .standby id)) = false ∧ Admitted (.pwrSetPowerState 2) (hdr id) 0x0E00 4 [] (atTime 9 (hosted id)) ∧
      Admitted (.pwrSetPowerState 2) (hdr id) 0x0E00 4 [] (atTime 9 (hostedIn .active id)) ∧
      Admitted (.pwrSetPowerState 3) (hdr id) 0x0E00 4 [] (atTime 9 (hosted id)) ∧
      (hosted id).pair.catchingUp = false ∧ (hosted id).tow.catchup = none) ∧
    (Admitted .pwrSetRestart (hdr id) 0x0E00 4 [] (atTime 9 (hostedIn .active (runs []))) ∧ runningTasks (hostedIn .active (runs [])) ≠ [] ∧
      Admitted .pwrSetRestart (hdr id) 0x0E00 4 [] (atTime 9 (hosted id))) ∧
    ((dormant id).mod.waking = none ∧ wakeEnabled (dormant id) 3 = true ∧ wakeEnabled (dormant id) 2 = true ∧
      (dormant id).sw.ports[(2 : Fin 3)].linkUp = true ∧
      wakeMatches (dormant id) wakeCall = true ∧ wakeEnabled (withParams [(P.wakeSources, 4)] (dormant id)) 3 = false) ∧
    ((dormant fun m => { m with waking := some 3 }).mod.waking = some 3 ∧ NothingWaits (dormant fun m => { m with waking := some 3 })) ∧
    ((dormant id).path.powered = true ∧ (feedsAt (fun _ => ⟨true, 24000000⟩) (hosted id)).path.feeds[(0 : Fin 4)].inRange = true ∧
      (hosted id).path.seconds < 3599 ∧ 3599 ≤ (hosted fun s => { s with path := { s.path with seconds := 3599 } }).path.seconds) := by
  refine ⟨⟨?_, ?_, ?_, ?_, ?_, ?_, ?_, ?_, ?_⟩, ⟨?_, ?_, ?_⟩, ⟨?_, ?_, ?_, ?_, ?_, ?_⟩, ⟨?_, ?_⟩, ?_, ?_, ?_, ?_⟩ <;> decide +kernel

/-- A module without power, in a lifecycle. -/
def unpowered (l : Lifecycle) : State :=
  hosted fun s => { s with path := { s.path with powered := false }, keeper := { s.keeper with running := false }, sec := { s.sec with lifecycle := l } }

/-- A module in reset, in BLANK. -/
def inReset (lost : Bool) : State :=
  hostedIn .boot fun s => { s with mod := { s.mod with restarting := true }, refs := { s.refs with latchedLost := lost }, sec := { s.sec with lifecycle := .blank } }

/-- A module that a debug probe holds before its self-test. -/
def heldForTest : State := hostedIn .selftest fun s => { s with sec := { s.sec with lifecycle := .blank, bistHeld := true } }

set_option maxRecDepth 20000 in
theorem test_hyps_StartsAndRestarts :
    ((hosted id).path.powered = true ∧ (unpowered .blank).path.powered = false ∧ Boots (unpowered .blank) ∧
      (unpowered .blank).sec.lifecycle = .blank) ∧
    ((unpowered .deployed).sec.wipeFailed = false ∧ (unpowered .deployed).sec.lifecycle ≠ .blank ∧ slotPasses (unpowered .deployed) 0 = false ∧
      slotPasses (unpowered .deployed) 1 = false) ∧
    (resetOver (inReset false) = true ∧ Boots (inReset false) ∧ NothingWaits (inReset false) ∧ (inReset false).upd.pairUpdate = none ∧
      (inReset true).refs.latchedLost = true ∧ Boots (inReset true) ∧ resetOver (inReset true) = true) ∧
    keeperUp (hosted id) = true ∧
    ((hosted (onKeeper_ fun k => { k with running := false })).mod.restarting = false ∧
      (hosted (onKeeper_ fun k => { k with running := false })).mod.state ≠ .boot ∧
      (hosted (onKeeper_ fun k => { k with running := false })).upd.fallback = none ∧
      NothingWaits (hosted (onKeeper_ fun k => { k with running := false }))) ∧
    (portUp heldForTest = true ∧ heldForTest.sec.bistHeld = true ∧ Boots heldForTest ∧ NothingWaits heldForTest) := by
  refine ⟨⟨?_, ?_, ?_, ?_⟩, ⟨?_, ?_, ?_, ?_⟩, ⟨?_, ?_, ?_, ?_, ?_, ?_, ?_⟩, ?_, ⟨?_, ?_, ?_, ?_⟩, ?_, ?_, ?_, ?_⟩ <;> decide +kernel

set_option maxRecDepth 20000 in
theorem test_hyps_ReferencesAndSections :
    (clocked (hosted id) = true ∧ lockedLong (hosted id) 9 = false ∧ (hosted id).refs.xtalFailed = false ∧
      (150000 < (150001 : Int).natAbs ∧ (-150000 : Int).natAbs ≤ 150000) ∧
      lockedLong (hosted fun s => { s with time := { s.time with servo := .locked, lockedSince := some 9 } }) 60000000009 = true ∧
      1000 * cfg (hosted id) P.refLimit < (2147483647 : Int).natAbs ∧ clocked (unpowered .blank) = false ∧
      (hosted fun s => { s with refs := { s.refs with holdSince := some 5 } }).refs.holdSince = some 5) ∧
    (logicalOf (hosted id) 447 = some 447 ∧ (hosted id).basin.poison.contains (447 * 0x20000 + 0x1FFFF) = false ∧ logicalOf (hosted id) 511 = none ∧
      (hosted id).basin.idlePoison.contains (511 * 0x20000 + 0x1FFFF) = false) ∧
    ((hosted fun s => { s with basin := { s.basin with migration := some ⟨3, 3, 449, 0, false⟩ } }).basin.waiting = [] ∧ mapsAtStep 3 = true ∧
      mapsAtStep 200 = false ∧
      physicalOf (hosted id) 3 ≠ 449 ∧ (hosted id).basin.migration = none) := by
  refine ⟨⟨?_, ?_, ?_, ?_, ?_, ?_, ?_, ?_⟩, ⟨?_, ?_, ?_, ?_⟩, ?_, ?_, ?_, ?_, ?_⟩ <;> decide +kernel

def held (g : Towpath → Towpath) (f : Fin 4 → Feed) : State := feedsAt f (hosted fun s => { s with path := g s.path })

set_option maxRecDepth 20000 in
theorem test_hyps_FeedsAndHoldup :
    ((held id fun _ => ⟨true, 24000000⟩).sec.fuses = [] ∧ (held id fun _ => ⟨true, 24000000⟩).path.flushed = false ∧
      (held id fun _ => ⟨true, 24000000⟩).path.feeds[(1 : Fin 4)].inRange = true ∧
      (held id fun _ => ⟨false, 0⟩).path.feeds[(1 : Fin 4)].inRange = false ∧
      (held id fun _ => ⟨false, 0⟩).path.feeds[(1 : Fin 4)].microV < 32700000) ∧
    ((held (fun p => { p with flushed := true }) fun _ => ⟨false, 0⟩).path.flushed = true ∧
      (∀ o : Fin 4, (held (fun p => { p with flushed := true }) fun _ => ⟨false, 0⟩).path.feeds[o].inRange = false ∧
        (held (fun p => { p with flushed := true }) fun _ => ⟨false, 0⟩).path.feeds[o].microV = 0)) ∧
    ((held id fun k => ⟨k == 2, 24000000⟩).path.feeds[(2 : Fin 4)].inRange = true ∧
      (held id fun k => ⟨k == 2, 24000000⟩).path.feeds[(3 : Fin 4)].inRange = false ∧
      (held id fun _ => ⟨true, 24000000⟩).path.feeds[(3 : Fin 4)].inRange = true) ∧
    (feedsOut (held id fun _ => ⟨true, 24000000⟩) = false ∧ feedsOut (held id fun _ => ⟨false, 0⟩) = true ∧
      (held id fun _ => ⟨false, 0⟩).path.powered = true ∧
      (held (fun p => { p with charged := true, weak := false }) fun _ => ⟨false, 0⟩).path.charged = true) := by
  refine ⟨⟨?_, ?_, ?_, ?_, ?_⟩, ⟨?_, ?_⟩, ⟨?_, ?_, ?_⟩, ?_, ?_, ?_, ?_⟩ <;> decide +kernel

/-- A module whose debug port has a session at a level, in a lifecycle. -/
def debugged (l : DbgLevel) (c : Lifecycle) (g : State → State) : State :=
  hosted fun s => g { s with sec := { s.sec with lifecycle := c, session := some ⟨l, some 1, 4⟩ } }

set_option maxRecDepth 20000 in
theorem test_hyps_DebugAccess :
    (portUp (debugged .observe .provisioned id) = true ∧ observing (debugged .observe .provisioned id) = true ∧
      invading (debugged .observe .provisioned id) = false ∧
      observing (hosted fun s => { s with sec := { s.sec with lifecycle := .deployed } }) = false ∧
      invading (debugged .invasive .provisioned id) = true ∧
      atLeast (availableLevel (hosted fun s => { s with sec := { s.sec with lifecycle := .deployed } })) .invasive = false ∧
      atLeast (availableLevel (hostedIn .held fun s => { s with sec := { s.sec with lifecycle := .blank } })) .observe = true ∧
      NothingWaits (debugged .observe .provisioned id) ∧ cfg (withParams [(P.debugIdle, 1)] (debugged .observe .provisioned id)) P.debugIdle ≠ 0 ∧
      4 + msToNs (60000 * cfg (withParams [(P.debugIdle, 1)] (debugged .observe .provisioned id)) P.debugIdle) ≤ 60000000004) ∧
    (basinSize < 0x1BFFFFFF + 2 ∧ (basinByte (debugged .observe .provisioned id) (basinSize - 1)).isSome = true ∧
      (basinByte (debugged .observe .provisioned id) 0).isSome = true ∧
      (debugged .invasive .provisioned id).basin.poison = [] ∧ Memory.wf dropsZero (debugged .invasive .provisioned id).basin.mem = true) ∧
    (keyBarred (debugged .invasive .provisioned id) 3 (zeros 97) = false ∧ keyBarred (debugged .invasive .deployed id) 3 (zeros 97) = true ∧
      (debugged .invasive .provisioned id).sec.fuses = [] ∧ mayBlow (debugged .invasive .provisioned id) = false ∧
      mayBlow (debugged .invasive .provisioned fun s => feedsAt (fun _ => ⟨true, 24000000⟩) { s with path := { s.path with charged := true } }) = true) := by
  refine ⟨⟨?_, ?_, ?_, ?_, ?_, ?_, ?_, ?_, ?_, ?_⟩, ⟨?_, ?_, ?_, ?_, ?_⟩, ?_, ?_, ?_, ?_, ?_⟩ <;> decide +kernel

/-- Block n of the self-test holds this. -/
def testing (m : ModState) (b : Fin 14) (g : BistBlock → BistBlock) : State :=
  withParams [(P.bgEnable, 15)] (hostedIn m fun s => withEntry 7 0x0B01 .running { s with bist := s.bist.set b (g s.bist[b]) })

set_option maxRecDepth 20000 in
theorem test_hyps_SelfTestRuns :
    (Admitted (.bistRun 3 true) (hdr id) 0x0B01 4 [] (atTime 9 (hosted id)) ∧ isBackground 3 = true ∧ (hosted id).bist[(3 : Fin 14)].running = none ∧
      partFree (hosted id) 3 = true ∧ FreshIds (atTime 9 (hosted id)) ∧ partFree (hosted id) 0 = false ∧ isBackground 0 = true) ∧
    (Admitted (.bistRun 13 false) (hdr id) 0x0B01 4 [] (atTime 9 (hostedIn .held id)) ∧ sessionInvasive (hostedIn .held id) = false ∧
      Admitted (.bistRun blockKeeper.val false) (hdr id) 0x0B01 4 [] (atTime 9 (hostedIn .held id)) ∧ blockKeeper ≠ 13 ∧
      Admitted (.bistRun 13 false) (hdr id) 0x0B01 4 [] (atTime 9 (hostedIn .maintenance id)) ∧
      Admitted (.bistRun 13 false) (hdr id) 0x0B01 4 [] (atTime 9 (hostedIn .ready id))) ∧
    ((testing .ready 8 fun x => { x with running := some (7, true) }).bist[(8 : Fin 14)].running = some (7, true) ∧
      (testing .ready 8 id).mod.restarting = false ∧
      sessionInvasive (testing .ready 8 id) = false ∧
      runResult (readOnlyRun false ⟨8, true, Config.bistExpected 8, none⟩ (atTime 9 (testing .ready 8 id))) = .pass ∧
      runResult (readOnlyRun false ⟨8, true, Config.bistExpected 8 + 1, some 4⟩ (atTime 9 (testing .ready 8 id))) = .fail ∧
      runResult (readOnlyRun false ⟨8, false, 3, none⟩ (atTime 9 (testing .ready 8 id))) = .incomplete ∧
      ((jget (testing .ready 8 id) 7).map fun e => ended e.state) = some false) ∧
    (backgroundDue (testing .ready 3 id) 3 = true ∧ (testing .ready 3 id).bist[(3 : Fin 14)].lastBackground = 0 ∧
      backgroundDue (testing .ready 3 fun x => { x with retryFrom := some 2 }) 3 = true ∧
      2 + msToNs (1000 * cfg (testing .ready 3 id) P.bgRetry) ≤ 3600000000002 ∧
      backgroundDue (testing .held 0 fun x => { x with running := some (0, true) }) 0 = false) := by
  refine ⟨⟨?_, ?_, ?_, ?_, ?_, ?_, ?_⟩, ⟨?_, ?_, ?_, ?_, ?_, ?_⟩, ⟨?_, ?_, ?_, ?_, ?_, ?_, ?_⟩, ?_, ?_, ?_, ?_, ?_⟩ <;> first | decide +kernel | simp [readOnlyRun, runResult]

/-! ### Hypotheses of the statements on firmware updates -/

/-- A delta that writes eight bytes and ends. -/
def delta8 : List Byte := [2, 0, 0, 0] ++ le4 8 ++ zeros 8 ++ [1, 2, 3, 4, 5, 6, 7, 8] ++ [3] ++ zeros 15

def image8 : List Byte := [1, 2, 3, 4, 5, 6, 7, 8]

/-- A header of that delta, of a kind, with this digest, for slot 0 and revisions 0 to 23, without its signature. -/
def unsigned (kind : Byte) (digest : List Byte) : List Byte :=
  le4 headerMagic ++ le2 1 ++ le2 0x6416 ++ le4 0xFFFFFF ++ [0, kind, 0, 0] ++ le4 5 ++ le4 0 ++ le4 40 ++ le4 8 ++ zeros 32 ++ digest ++ zeros 48

/-- The header, signed under the key of slot 0 below. -/
def header8 : List Byte :=
  unsigned 1 (sha384 image8) ++ signed 0xcb7cdf521946bf5775582221c84428f8cc4abc7aa8e7bc3c0e5feea73636691ad9921e1c85cb1ab4131b6a33c8a1295e

def imageKey : List Byte :=
  keyAt 0xce8340c16b9d07229b31e12489a269da43f33be699afdc63ef1d90353067908f3212157a8949a4982a2e1151a998f8fb
    0xe598cf38fb73f596159ece3d2a70cd23eb23bb451009e9447cbcc35c2990f94b5a6c41a50f4286e11c50ace856db8a79

/-- A module in a state that holds that key, changed in its update. -/
def updating (m : ModState) (g : Update → Update) : State :=
  hostedIn m fun s => { s with
    upd := g s.upd, sec := { s.sec with lifecycle := .provisioned, keys := s.sec.keys.set 0 ⟨some (sha384 imageKey), false, imageKey, []⟩ } }

/-- Every check of UPD.OPEN passes on a module of hardware revision 3. -/
theorem test_open_passes (hr : Config.hwRev = 3) : openRefusal (atTime 9 (updating .ready id)) (hdr id) header8 = none := by
  have form : formFindings header8 = [] := by decide +kernel
  have good : signatureOk (atTime 9 (updating .ready id)) header8 = true := by decide +kernel
  have fit : fitFindings header8 = [] := by unfold fitFindings; rw [hr]; decide +kernel
  have life : hdrLifecycleOk (atTime 9 (updating .ready id)) header8 = true := by decide +kernel
  have base : baseOk (atTime 9 (updating .ready id)) header8 = true := by decide +kernel
  have newer : ¬ (hdrVersion header8 < slotVersion (bootSlotOf (atTime 9 (updating .ready id))) ∧
    cfg (atTime 9 (updating .ready id)) P.allowDowngrade = 0) := by
    decide +kernel
  have small : sizeFindings (atTime 9 (updating .ready id)) header8 = [] := by decide +kernel
  have free : heldByOther (atTime 9 (updating .ready id)) (hdr id) = none := by decide +kernel
  simp [openRefusal, form, good, fit, life, base, newer, small, free]

/-- A session holds the lease with some of the delta. -/
def leased (session : Nat) (d : List Byte) (g : Update → Update) : State :=
  updating .ready fun u => g { u with lease := some ⟨session, 4, 0⟩, header := header8, delta := d }

set_option maxRecDepth 20000 in
theorem test_hyps_UpdateDelivery :
    (Admitted (.updOpen header8) (hdr id) 0x0C00 256 [] (atTime 9 (updating .ready id)) ∧ header8.length = 256 ∧
      (updating .ready id).upd.applying = none ∧
      Admitted (.updOpen header8) (hdr fun h => { h with dryRun := true }) 0x0C00 256 [] (atTime 9 (updating .ready id)) ∧
      (openRefusal (atTime 9 (updating .ready id)) (hdr id) (zeros 256)).isSome = true ∧
      Admitted (.updOpen (zeros 256)) (hdr id) 0x0C00 256 [] (atTime 9 (updating .ready id))) ∧
    ((leased 77 delta8 id).upd.lease = some ⟨77, 4, 0⟩ ∧ Admitted (.updChunk 0 [1, 2]) (hdr id) 0x0C01 10 [] (atTime 9 (leased 77 delta8 id)) ∧
      Admitted .updCloseApply (hdr id) 0x0C02 4 [] (atTime 9 (leased 77 delta8 id)) ∧
      Admitted .updCloseAbandon (hdr id) 0x0C02 4 [] (atTime 9 (leased 77 delta8 id)) ∧
      Admitted (.updActivate true) (hdr id) 0x0C03 4 [] (atTime 9 (leased 77 delta8 id))) ∧
    (Admitted (.updChunk 8 (zeros 32)) (hdr id) 0x0C01 40 [] (atTime 9 (leased 9 (delta8.take 8) id)) ∧
      hdrDelta (leased 9 (delta8.take 8) id).upd.header = 8 + 32 ∧
      Admitted (.updChunk 0 (zeros 4)) (hdr id) 0x0C01 12 [] (atTime 9 (leased 9 (delta8.take 8) id)) ∧
      takesEntry .updCloseApply (hdr id) 0x0C02 4 (leased 9 delta8 id) ∧ rebuiltImage (leased 9 delta8 id) = some image8 ∧
      rebuiltImage (leased 9 (delta8.take 8) id) = none ∧ takesEntry .updCloseApply (hdr id) 0x0C02 4 (leased 9 (delta8.take 8) id) ∧
      takesEntry .updCloseAbandon (hdr id) 0x0C02 4 (leased 9 delta8 id)) ∧
    ((leased 9 delta8 fun u => { u with applying := some (7, 1) }).upd.applying = some (7, 1) ∧
      rebuiltImage (leased 9 delta8 fun u => { u with applying := some (7, 1) }) = some image8 ∧ sha384 image8 = hdrDigest header8 ∧
      rebuiltImage (leased 9 delta8 fun u => { u with header := unsigned 1 (zeros 48) }) = some image8 ∧
      sha384 image8 ≠ hdrDigest (unsigned 1 (zeros 48))) := by
  refine ⟨⟨?_, ?_, ?_, ?_, ?_, ?_⟩, ⟨?_, ?_, ?_, ?_, ?_⟩, ⟨?_, ?_, ?_, ?_, ?_, ?_, ?_, ?_⟩, ?_, ?_, ?_, ?_, ?_⟩ <;>
    first | decide +kernel | (refine ⟨?_, ?_, ?_⟩ <;> decide +kernel)

/-- A module whose slot 1 holds a built image of a kind. -/
def builtAs (m : ModState) (kind : Byte) (g : State → State) : State :=
  g (updating m fun u => { u with slots := u.slots.set 1 ⟨.built, unsigned kind (sha384 image8), image8⟩ })

/-- A module in a step of the pair procedure, on entry 7. -/
def pairStep (m : ModState) (n : Nat) : State := withEntry 7 0x0C03 .running (updating m fun u => { u with pairUpdate := some ⟨7, n, 5⟩ })

def onTrial : State := onKeeper_ (fun k => { k with running := false }) (updating .ready fun u => { u with trialSince := some 4, fallback := some 1, bootSlot := 0 })

set_option maxRecDepth 20000 in
theorem test_hyps_UpdateActivation :
    (inactiveSlot (builtAs .held 1 id) = 1 ∧ heldByOther (builtAs .held 1 id) (hdr id) = none ∧
      takesEntry (.updActivate false) (hdr id) 0x0C03 4 (builtAs .held 1 id) ∧
      activateBarred (builtAs .held 1 id) = false ∧ slotKind (builtAs .held 1 id).upd.slots[(1 : Fin 2)] = 1 ∧
      digestHolds (builtAs .held 1 id).upd.slots[(1 : Fin 2)] = true ∧
      activateBarred (updating .ready id) = true ∧ takesEntry (.updActivate false) (hdr id) 0x0C03 4 (updating .ready id)) ∧
    (takesEntry (.updActivate false) (hdr id) 0x0C03 4 (builtAs .ready 0 id) ∧ activateBarred (builtAs .ready 0 id) = false ∧
      slotKind (builtAs .ready 0 id).upd.slots[(1 : Fin 2)] = 0) ∧
    (takesEntry (.updActivate false) (hdr id) 0x0C03 4 (builtAs .active 1 (runs [])) ∧ activateBarred (builtAs .active 1 (runs [])) = false ∧
      runningTasks (builtAs .active 1 (runs [])) ≠ []) ∧
    (onTrial.upd.trialSince = some 4 ∧ onTrial.upd.fallback = some 1 ∧ onTrial.upd.bootSlot ≠ 1 ∧ onTrial.mod.restarting = false ∧
      onTrial.keeper.running = false ∧
      onTrial.path.powered = true ∧ (updating .ready id).upd.trialSince = none) ∧
    ((pairStep .active 1).upd.pairUpdate = some ⟨7, 1, 5⟩ ∧ ((jget (pairStep .active 1) 7).map fun e => ended e.state) = some false ∧
      partnerStandby (pairStep .active 1) = false ∧
      partnerStandby { pairStep .active 1 with pair := (hostedPair .active false).pair } = true ∧
      (pairStep .standby 1).mod.state ≠ .active ∧ (pairStep .active 3).mod.restarting = false ∧ (pairStep .standby 4).mod.state = .standby) := by
  refine ⟨⟨?_, ?_, ?_, ?_, ?_, ?_, ?_, ?_⟩, ⟨?_, ?_, ?_⟩, ⟨?_, ?_, ?_⟩, ⟨?_, ?_, ?_, ?_, ?_, ?_, ?_⟩, ?_, ?_, ?_, ?_, ?_, ?_, ?_⟩ <;>
    first | decide +kernel | (refine ⟨?_, ?_, ?_⟩ <;> decide +kernel)

end Sys2Proof.Tests
end

section
/-! The layout of a response: a header of 28 bytes, the CRC over it, and the payload (R319). -/

namespace Sys2Proof.Machine
open Sys2Proof

/-- The bytes of a response header before its CRC, for a payload of `n` bytes (R319). -/
def responseHead (s : State) (h : ReqHdr) (command status journal epoch n : Nat) : List Byte :=
  le4 h.sequence ++ le2 command ++ le2 status ++ le4 n ++ le4 journal ++ le8 epoch ++ le2 (stateCode s.mod.state) ++ le2 0

@[simp] theorem responseHead_length (s : State) (h : ReqHdr) (command status journal epoch n : Nat) :
    (responseHead s h command status journal epoch n).length = 28 := rfl

@[simp] theorem le2_length (n : Nat) : (le2 n).length = 2 := rfl
@[simp] theorem le4_length (n : Nat) : (le4 n).length = 4 := rfl
@[simp] theorem le8_length (n : Nat) : (le8 n).length = 8 := rfl

theorem mkResponse_eq_head_crc_payload (s : State) (h : ReqHdr) (command status journal epoch : Nat) (payload : List Byte) :
    mkResponse s h command status journal epoch payload =
      responseHead s h command status journal epoch payload.length ++
        (le4 (crc32c (responseHead s h command status journal epoch payload.length ++ le4 0 ++ payload)).toNat ++ payload) :=
  List.append_assoc ..

/-- A field that lies inside the front part of a byte string is a field of the whole. -/
theorem field_append_left {p bs : List Byte} {offset : Nat} (q : List Byte) (hf : Field p offset bs) (hl : offset + bs.length ≤ p.length) :
    Field (p ++ q) offset bs := by
  rw [Field, List.drop_append_of_le_length (by omega), List.take_append_of_le_length (by rw [List.length_drop]; omega)]
  exact hf

/-- The bytes right behind the front part are a field at its length. -/
theorem field_at_length (p bs q : List Byte) : Field (p ++ (bs ++ q)) p.length bs := by
  rw [Field, List.drop_left, List.take_left]

/-- Settles O10: the fields of the header lie in its first 28 bytes, behind which CRC and payload stand. -/
theorem responseLayout : Obligations.ResponseLayout := by
  intro s h code status journal epoch payload r
  have hr : r = _ := mkResponse_eq_head_crc_payload s h code status journal epoch payload
  clear_value r
  subst hr
  generalize hp : responseHead s h code status journal epoch payload.length = p
  have hlen : p.length = 28 := hp ▸ rfl
  refine ⟨?length, ?payload, ?_, ?_, ?_, ?_, ?_, ?_, ?_, ?_, ?crc, rfl⟩
  case length => simp [hlen, ← Nat.add_assoc]
  case payload => rw [← List.append_assoc, List.drop_left' (by simp [hlen])]
  case crc =>
    rw [List.take_left' hlen, ← hlen]
    exact field_at_length p _ payload
  all_goals exact field_append_left _ (hp ▸ rfl) (by simp [hlen])

end Sys2Proof.Machine
end

section
/-! What a request meets before and after its command: the Keeper's checks in their order and the answer (R321, R323, R328, R387). -/

namespace Sys2Proof.Machine
open Sys2Proof

/-! ### Elements of a vector after one was changed -/

@[simp] theorem vmod_getElem_same {α : Type} {n : Nat} (v : Vector α n) (i : Fin n) (g : α → α) :
    (vmod v i g)[(i : Nat)] = g v[(i : Nat)] := by
  simp [vmod]

theorem vmod_getElem_ne {α : Type} {n : Nat} (v : Vector α n) {i j : Fin n} (g : α → α) (h : j ≠ i) :
    (vmod v i g)[(j : Nat)] = v[(j : Nat)] :=
  Vector.getElem_set_ne i.isLt j.isLt fun e => h (Fin.ext e.symm)

/-! ### Answers -/

/-- From `s` to `t` only the Keeper's own part and the drawn values changed. -/
abbrev KeeperWork (s t : State) : Prop := t = { s with keeper := t.keeper, drawn := t.drawn }

theorem KeeperWork.trans {s t u : State} (h : KeeperWork s t) (k : KeeperWork t u) : KeeperWork s u := by
  rw [k, h]

theorem KeeperWork.mod_eq {s t : State} (h : KeeperWork s t) : t.mod = s.mod := by rw [h]
theorem KeeperWork.img_eq {s t : State} (h : KeeperWork s t) : t.img = s.img := by rw [h]
theorem KeeperWork.ctl_eq {s t : State} (h : KeeperWork s t) : t.ctl = s.ctl := by rw [h]
theorem KeeperWork.settings_eq {s t : State} (h : KeeperWork s t) : t.settings = s.settings := by rw [h]

theorem keeperWork_onKeeper (g : Keeper → Keeper) (s : State) : KeeperWork s (onKeeper g s) := rfl

theorem keeperWork_draw (s : State) : KeeperWork s (draw s) := rfl

theorem keeperWork_deliver (n : Fin 8) (r : Response) (s : State) : KeeperWork s (deliver n r s) := by
  unfold deliver
  split <;> rfl

theorem keeperWork_answer (h : ReqHdr) (r : Response) (s : State) : KeeperWork s (answer h r s) := by
  unfold answer
  split
  · exact (keeperWork_onKeeper _ s).trans (keeperWork_deliver ..)
  · rfl

theorem keeperWork_arrived (h : ReqHdr) (s : State) : KeeperWork s (arrived h s) := by
  unfold arrived
  split <;> rfl

/-- An answer can be left on the transport: every mailbox is there, a network connection while it lasts. -/
def Connected (s : State) : Source → Prop
  | .mailbox _ => True
  | .net id => (connOf s id).isSome

/-- A response that is delivered leaves the stored last answer of every mailbox. -/
@[simp] theorem deliver_stored (n m : Fin 8) (r : Response) (s : State) :
    (deliver n r s).keeper.mailboxes[(m : Nat)].stored = s.keeper.mailboxes[(m : Nat)].stored := by
  unfold deliver
  by_cases h : m = n
  · subst h; split <;> simp [raiseInt]
  · split <;> simp [raiseInt, vmod_getElem_ne _ _ h]

theorem connOf_map_conns (s : State) (g : NetConn → NetConn) (id : Nat) (hg : ∀ c, (g c).session = c.session) :
    connOf (onKeeper (fun k => { k with conns := k.conns.map g }) s) id = (connOf s id).map g := by
  simp [connOf, List.find?_map, hg]

/-- An answer is stored as the last one of its transport (R323). -/
theorem lastAnswer_answer {h : ReqHdr} {s : State} (hc : Connected s h.src) (r : Response) :
    lastAnswer (answer h r s) h.src = some (h.sequence, h.crc, r) := by
  cases hs : h.src with
  | mailbox n => simp [answer, lastAnswer, hs]
  | net id =>
    simp only [Connected, hs, Option.isSome_iff_exists] at hc
    obtain ⟨c, hc⟩ := hc
    have hid : c.session = id := by simpa using List.find?_some hc
    simp only [answer, lastAnswer, hs]
    rw [connOf_map_conns _ _ _ fun x => by split <;> rfl, hc]
    simp [hid]

/-- A response shows the module state and nothing else of the module. -/
theorem mkResponse_of_state_eq {s t : State} (e : t.mod.state = s.mod.state) (h : ReqHdr) (code status journal epoch : Nat)
    (p : List Byte) : mkResponse t h code status journal epoch p = mkResponse s h code status journal epoch p := by
  simp only [mkResponse, e]

@[simp] theorem lastAnswer_notePeaks (s : State) (src : Source) : lastAnswer (notePeaks s) src = lastAnswer s src := rfl

/-- What an immediate answer leaves on the transport, as the module in a state `u` that shows the same would give it. -/
theorem respond_answered {h : ReqHdr} {u s : State} (hm : s.mod.state = u.mod.state) (hi : s.img = u.img) (hc : Connected s h.src)
    (code status : Nat) (p : List Byte) : Answered h code status p u (notePeaks (respond h code status p s)) := by
  rw [Answered, AnsweredAs, lastAnswer_notePeaks, respond, lastAnswer_answer hc, lastMirrored, lastMirrored, hi, mkResponse_of_state_eq hm]

/-- An immediate answer to a request that changed nothing but the Keeper's own part so far. -/
theorem respond_onlyAnswersWith {h : ReqHdr} {u s : State} (hw : KeeperWork u s) (hc : Connected s h.src) (code status : Nat) (p : List Byte) :
    OnlyAnswersWith h code status p u (notePeaks (respond h code status p s)) :=
  ⟨respond_answered (congrArg Mod.state hw.mod_eq) hw.img_eq hc .., (hw.trans (keeperWork_answer ..)).trans (keeperWork_onKeeper ..)⟩

/-! ### The arrival of a request, R317 -/

/-- The transport of a request as it arrives: an active connection is noted, and nothing else. -/
theorem connOf_arrived {h : ReqHdr} {id : Nat} (hs : h.src = .net id) (s : State) :
    connOf (arrived h s) id = (connOf s id).map fun c => if c.session = id then { c with lastActivity := nowOf s } else c := by
  simp only [arrived, hs]
  exact connOf_map_conns _ _ _ fun c => by split <;> rfl

@[simp] theorem sessionOf_arrived (h : ReqHdr) (s : State) : sessionOf (arrived h s) h.src = sessionOf s h.src := by
  cases hs : h.src with
  | mailbox n => simp [arrived, hs]
  | net id =>
    rw [sessionOf, connOf_arrived hs, sessionOf]
    cases connOf s id <;> simp [apply_ite]

@[simp] theorem accessOf_arrived (h : ReqHdr) (s : State) : accessOf (arrived h s) h.src = accessOf s h.src := by
  cases hs : h.src with
  | mailbox n => simp [arrived, hs]
  | net id =>
    simp only [accessOf, connOf_arrived hs]
    cases connOf s id with
    | none => rfl
    | some c => by_cases e : c.session = id <;> simp [e]

/-- A request that the transport brings has a transport to be answered on (R317). -/
theorem connected_arrived {h : ReqHdr} {s : State} (hc : connBusy s h = false) : Connected (arrived h s) h.src := by
  cases hs : h.src with
  | mailbox n => trivial
  | net id =>
    rw [Connected, connOf_arrived hs]
    simp only [connBusy, hs, Bool.or_eq_false_iff, Option.isNone_eq_false_iff] at hc
    simpa using hc.1

/-! ### The checks in their order, R321 -/

section
variable {i : Request} {h : ReqHdr} {code len : Nat} {fit : Bool} {flaws : List Finding} {body : State → State} {s : State}

theorem serve_of_paused (hk : keeperServes s = false) : serve i h code len fit flaws body s = defer i h s := by
  simp [serve, hk]

theorem serve_of_mailboxBusy (hk : keeperServes s = true) (hb : mailboxBusy s i h = true) : serve i h code len fit flaws body s = s := by
  simp [serve, hk, hb]

theorem serve_of_dormant (hk : keeperServes s = true) (hb : mailboxBusy s i h = false) (hc : connBusy s h = false)
    (hp : s.mod.power = .dormant) (hw : code ∉ servedDormant) :
    serve i h code len fit flaws body s = defer i h (beginWake 4 s) := by
  simp [serve, hk, hb, hc, hp, hw]

theorem serve_eq_taken (hk : keeperServes s = true) (hb : mailboxBusy s i h = false) (hc : connBusy s h = false)
    (hp : s.mod.power ≠ .dormant) : serve i h code len fit flaws body s = taken h code len fit flaws body s := by
  simp [serve, hk, hb, hc, hp]

theorem taken_of_repeated {x : State} (hr : repeated h (arrived h s) = some x) : taken h code len fit flaws body s = x := by
  simp [taken, hr]

theorem taken_eq_checked (hr : repeated h (arrived h s) = none) (hf : found h code (arrived h s) = none) :
    taken h code len fit flaws body s = notePeaks (checked h code len fit flaws body (arrived h s)) := by
  simp [taken, hr, hf]

theorem checked_of_foreign_session (hl : len ≤ 4064) (hs : sessionOf s h.src ≠ some h.session) (hcode : code ≠ 0x0100) :
    checked h code len fit flaws body s = respond h code stBadHeader [] s := by
  simp [checked, Nat.not_lt.2 hl, hs, hcode]

theorem checked_of_refusal {status : Nat} {p : List Byte} (hl : len ≤ 4064) (hs : sessionOf s h.src = some h.session)
    (hr : stateRefusal s h code = some (status, p)) : checked h code len fit flaws body s = respond h code status p s := by
  simp [checked, Nat.not_lt.2 hl, hs, hr]

theorem checked_of_flags (hl : len ≤ 4064) (hs : sessionOf s h.src = some h.session) (hr : stateRefusal s h code = none)
    (hf : flagFindings s h code ≠ []) :
    checked h code len true flaws body s = badArgument h code (flagFindings s h code ++ flaws) s := by
  simp [checked, Nat.not_lt.2 hl, hs, hr, hf]

/-- A request that passes every check runs its command. -/
theorem serve_of_admitted (ha : Admitted i h code len flaws s) :
    serve i h code len true flaws body s = notePeaks (body (arrived h s)) := by
  obtain ⟨hk, hp, hb, hc, hr, hf, hl, hs, hst, hfl, rfl⟩ := ha
  rw [serve_eq_taken hk hb hc hp, taken_eq_checked hr hf]
  simp [checked, Nat.not_lt.2 hl, hs, hst, hfl]

end

/-! ### Check 5 to 7: access, and the states in which a command is legal, R330 -/

section
variable {h : ReqHdr} {code : Nat} {s : State}

theorem stateRefusal_of_access (ha : accessCode (accessOf s h.src) < accessCode (cmdRow code).access) :
    stateRefusal s h code = some (stNotAuthorised, []) := by
  simp [stateRefusal, ha]

variable (ha : accessCode (cmdRow code).access ≤ accessCode (accessOf s h.src)) (hl : lifecycleLocks s code = false)
include ha hl

theorem stateRefusal_of_held (hm : s.mod.state = .held) (hb : bitAt (cmdRow code).legal 3 = false) :
    stateRefusal s h code = some (stNotReleased, []) := by
  simp [stateRefusal, Nat.not_lt.2 ha, hl, hm, hb]

theorem stateRefusal_of_standby (hm : s.mod.state = .standby) (hb : bitAt (cmdRow code).legal 5 = false) (hr : roleRefused.contains code = true) :
    stateRefusal s h code = some (stRoleConflict, []) := by
  have hb' : bitAt (cmdRow code).legal (stateCode .standby) = false := hb
  simp only [stateRefusal, Nat.not_lt.2 ha, hl, hm, hb', hr]
  simp

theorem stateRefusal_of_illegal (hh : s.mod.state ≠ .held) (hm : s.mod.state ≠ .standby)
    (hb : bitAt (cmdRow code).legal (stateCode s.mod.state) = false) :
    stateRefusal s h code = some (stStateConflict, conflictPayload s (cmdRow code).legal) := by
  simp [stateRefusal, Nat.not_lt.2 ha, hl, hh, hm, hb]

theorem stateRefusal_of_legal (hh : s.mod.state ≠ .held) (hm : s.mod.state ≠ .selftest)
    (hb : bitAt (cmdRow code).legal (stateCode s.mod.state) = true) : stateRefusal s h code = none := by
  simp [stateRefusal, Nat.not_lt.2 ha, hl, hh, hm, hb]

end

/-! ### Check 9: flags, R325 -/

theorem bitAt_flagBits_dryRun (h : ReqHdr) : bitAt (flagBits h) 1 = h.dryRun := by
  have second : ∀ a d p f : Bool, bitAt (flag 0 a + flag 1 d + flag 2 p + flag 3 f) 1 = d := by decide
  exact second ..

/-- A dry run of a command that has none is found (R325). -/
theorem flagFindings_of_dryRun {h : ReqHdr} {code : Nat} (s : State) (hd : h.dryRun = true) (hc : bitAt (cmdRow code).flags 1 = false) :
    flagFindings s h code ≠ [] := by
  have hb : ((List.range 4).all fun b => !bitAt (flagBits h) b || bitAt (cmdRow code).flags b) = false :=
    List.all_eq_false.2 ⟨1, by decide, by simp [bitAt_flagBits_dryRun, hd, hc]⟩
  simp [flagFindings, hb, needs]

end Sys2Proof.Machine
end

section
/-! What goes on beside a release: journal entries that end, trim sequences and self-test runs that give way, events and interrupts. -/

namespace Sys2Proof.Machine
open Sys2Proof

/-- What neither the books of the Keeper, nor outputs, self-test runs and the modes of CAN channels touch from `s` to `t`: module
state, image, pair, time, settings and network sessions; a bit of INT_STAT that is set stays set. -/
structure ReleaseFrame (s t : State) : Prop where
  state : t.mod.state = s.mod.state
  img : t.img = s.img
  pair : t.pair = s.pair
  time : t.time = s.time
  settings : t.settings = s.settings
  ints : ∀ n, s.keeper.intStat.getLsbD n = true → t.keeper.intStat.getLsbD n = true
  sessions : t.keeper.conns.map (·.session) = s.keeper.conns.map (·.session)

/-- The same, and the CAN channels stay as they are. -/
structure Bookkeeping (s t : State) : Prop extends ReleaseFrame s t where
  can : t.can = s.can

theorem ReleaseFrame.refl (s : State) : ReleaseFrame s s := ⟨rfl, rfl, rfl, rfl, rfl, fun _ => id, rfl⟩

theorem ReleaseFrame.trans {s t u : State} (h : ReleaseFrame s t) (k : ReleaseFrame t u) : ReleaseFrame s u :=
  ⟨k.state.trans h.state, k.img.trans h.img, k.pair.trans h.pair, k.time.trans h.time, k.settings.trans h.settings,
    fun n hn => k.ints n (h.ints n hn), k.sessions.trans h.sessions⟩

theorem Bookkeeping.refl (s : State) : Bookkeeping s s := ⟨.refl s, rfl⟩

theorem Bookkeeping.trans {s t u : State} (h : Bookkeeping s t) (k : Bookkeeping t u) : Bookkeeping s u :=
  ⟨h.toReleaseFrame.trans k.toReleaseFrame, k.can.trans h.can⟩

theorem Bookkeeping.foldl {α : Type} {f : State → α → State} (hf : ∀ s a, Bookkeeping s (f s a)) (xs : List α) (s : State) :
    Bookkeeping s (xs.foldl f s) := by
  induction xs generalizing s with
  | nil => exact .refl s
  | cons x xs ih => exact (hf s x).trans (ih _)

theorem ReleaseFrame.nowOf_eq {s t : State} (h : ReleaseFrame s t) : nowOf t = nowOf s := by
  rw [nowOf, nowOf, h.time]

theorem ReleaseFrame.cfgFlag_eq {s t : State} (h : ReleaseFrame s t) (id : Nat) : cfgFlag t id = cfgFlag s id := by
  rw [cfgFlag, cfg, settingBytes, h.settings]
  rfl

theorem connOf_isSome (s : State) (id : Nat) : (connOf s id).isSome = true ↔ id ∈ s.keeper.conns.map (·.session) := by
  simp [connOf]

theorem Connected.of_sessions {s t : State} {src : Source} (hc : Connected s src)
    (he : t.keeper.conns.map (·.session) = s.keeper.conns.map (·.session)) : Connected t src := by
  cases src with
  | mailbox n => trivial
  | net id =>
    simp only [Connected, connOf_isSome] at hc ⊢
    rwa [he]

/-! ### The Keeper's books -/

/-- A change of the Keeper's part that keeps sessions and clears no interrupt. -/
theorem bookkeeping_onKeeper {g : Keeper → Keeper} {s : State}
    (hi : ∀ n, s.keeper.intStat.getLsbD n = true → (g s.keeper).intStat.getLsbD n = true := by exact fun _ hn => hn)
    (hc : (g s.keeper).conns.map (·.session) = s.keeper.conns.map (·.session) := by rfl) : Bookkeeping s (onKeeper g s) :=
  ⟨⟨rfl, rfl, rfl, rfl, rfl, hi, hc⟩, rfl⟩

theorem bookkeeping_onMailbox (n : Fin 8) (g : Mailbox → Mailbox) (s : State) : Bookkeeping s (onMailbox n g s) :=
  bookkeeping_onKeeper

theorem bookkeeping_raiseInt (n : Nat) (s : State) : Bookkeeping s (raiseInt n s) :=
  bookkeeping_onKeeper fun m hm => by simp [hm]

/-- An interrupt that is raised shows in INT_STAT. -/
theorem intStat_raiseInt {n : Nat} (hn : n < 32) (s : State) : (raiseInt n s).keeper.intStat.getLsbD n = true := by
  simp only [raiseInt, onKeeper_keeper, BitVec.getLsbD_or, BitVec.getLsbD_ofNat, Nat.testBit_two_pow_self, hn, decide_true, Bool.and_true,
    Bool.or_true]

theorem bookkeeping_noteUnsent (e : JnlEntry) (s : State) : Bookkeeping s (noteUnsent e s) := by
  unfold noteUnsent
  split
  · exact bookkeeping_onKeeper
  · exact .refl s

theorem bookkeeping_jmod (id : Nat) (g : JnlEntry → JnlEntry) (s : State) : Bookkeeping s (jmod id g s) := by
  unfold jmod
  split
  · exact .refl s
  · have noted := (bookkeeping_onKeeper (s := s) (g := fun k => { k with journal := k.journal.map fun x => if x.id == id then g x else x })).trans
      (bookkeeping_noteUnsent ‹_› _)
    dsimp only
    split
    · exact noted
    · exact noted.trans (bookkeeping_raiseInt ..)

theorem bookkeeping_deliver (n : Fin 8) (r : Response) (s : State) : Bookkeeping s (deliver n r s) := by
  unfold deliver
  split
  · exact bookkeeping_onMailbox ..
  · exact (bookkeeping_onMailbox ..).trans (bookkeeping_raiseInt ..)

theorem bookkeeping_answer (h : ReqHdr) (r : Response) (s : State) : Bookkeeping s (answer h r s) := by
  unfold answer
  split
  · exact (bookkeeping_onMailbox ..).trans (bookkeeping_deliver ..)
  · refine bookkeeping_onKeeper (hc := ?_)
    simp [Function.comp_def, apply_ite]

theorem bookkeeping_answerHeld (id : Nat) (s : State) : Bookkeeping s (answerHeld id s) := by
  unfold answerHeld
  split
  · exact Bookkeeping.trans bookkeeping_onKeeper (bookkeeping_answer ..)
  · exact .refl s

theorem bookkeeping_jend (id : Nat) (st : JnlState) (status : Nat) (s : State) : Bookkeeping s (jend id st status s) := by
  unfold jend
  split
  · exact .refl s
  · split
    · exact .refl s
    · exact (bookkeeping_jmod ..).trans (bookkeeping_answerHeld ..)

theorem bookkeeping_stage (code source : Nat) (data : List Byte) (s : State) : Bookkeeping s (stage code source data s) :=
  ⟨⟨rfl, rfl, rfl, rfl, rfl, fun _ => id, rfl⟩, rfl⟩

/-! ### Self-test runs and trim sequences that give way -/

theorem bookkeeping_abortRun (b : Fin 14) (s : State) : Bookkeeping s (abortRun b s) := by
  unfold abortRun
  split
  · exact .refl s
  · refine Bookkeeping.trans ?_ ((bookkeeping_jmod ..).trans (bookkeeping_jend ..))
    exact ⟨⟨rfl, rfl, rfl, rfl, rfl, fun _ => id, rfl⟩, rfl⟩

theorem bookkeeping_abortForeground (s : State) : Bookkeeping s (abortForeground s) :=
  .foldl (fun s b => bookkeeping_abortRun b s) ..

theorem bookkeeping_abortBackground (b : Fin 14) (s : State) : Bookkeeping s (abortBackground b s) := by
  unfold abortBackground
  split
  · exact bookkeeping_abortRun ..
  · exact .refl s

theorem bookkeeping_onField (g : FieldZone → FieldZone) (s : State) : Bookkeeping s (onField g s) :=
  ⟨⟨rfl, rfl, rfl, rfl, rfl, fun _ => id, rfl⟩, rfl⟩

theorem bookkeeping_onAio (c : Fin 8) (g : Aio → Aio) (s : State) : Bookkeeping s (onAio c g s) :=
  bookkeeping_onField ..

theorem bookkeeping_safeAio (c : Fin 8) (s : State) : Bookkeeping s (safeAio c s) := by
  unfold safeAio openAio driveAio
  split
  · exact .refl s
  · split <;> exact (bookkeeping_onAio ..).trans (bookkeeping_onAio ..)

theorem bookkeeping_endTrim (x : TrimSeq) (s : State) : Bookkeeping s (endTrim x s) :=
  (bookkeeping_onField ..).trans ((bookkeeping_jmod ..).trans ((bookkeeping_jend ..).trans (bookkeeping_safeAio ..)))

theorem bookkeeping_endTrims (s : State) : Bookkeeping s (endTrims s) :=
  .foldl (fun s x => bookkeeping_endTrim x s) ..

/-! ### The change of the module state, R326 -/

theorem bookkeeping_setPower (p : PowerState) (cause : Nat) (s : State) : Bookkeeping s (setPower p cause s) := by
  unfold setPower
  split
  · exact .refl s
  · exact ⟨⟨rfl, rfl, rfl, rfl, rfl, fun _ => id, rfl⟩, rfl⟩

/-- Bookkeeping that is done only on a condition. -/
theorem Bookkeeping.ite {c : Prop} [Decidable c] {s t : State} (h : Bookkeeping s t) : Bookkeeping s (if c then t else s) := by
  split
  · exact h
  · exact .refl s

/-- Into a new state the module goes with INT_STAT STATE; all else is bookkeeping. -/
theorem bookkeeping_enterState {new : ModState} {s : State} (cause : SwitchCause) (hn : s.mod.state ≠ new) :
    Bookkeeping (raiseInt intState (onMod (fun m => { m with state := new }) s)) (enterState new cause s) := by
  rw [enterState, if_neg hn]
  refine Bookkeeping.trans (bookkeeping_stage ..).ite (.trans (bookkeeping_setPower ..).ite (.trans (.ite ?_) (bookkeeping_endTrims _)))
  exact ⟨⟨rfl, rfl, rfl, rfl, rfl, fun _ => id, rfl⟩, rfl⟩

/-! ### CAN channels at the release, R293 -/

/-- A disabled channel enters NORMAL: a background test gives way, and the mode changes. -/
theorem setCanMode_of_disabled {ch : Fin 2} {s : State} (hd : s.can[ch].mode = .disabled) :
    setCanMode ch .normal s = onCan ch (fun c => { c with mode := .normal, wake := (abortBackground (blockCan ch) s).can[ch].wake })
      (abortBackground (blockCan ch) s) := by
  simp only [setCanMode, hd, reduceCtorEq, false_and, ne_eq, not_false_eq_true, and_self, if_true, if_false]

theorem releaseFrame_startCan (ch : Fin 2) (s : State) : ReleaseFrame s (startCan ch s) := by
  unfold startCan
  split
  case isTrue h =>
    obtain ⟨-, hd⟩ : _ ∧ s.can[ch].mode = .disabled := by simpa using h
    rw [setCanMode_of_disabled hd]
    exact (bookkeeping_abortBackground ..).toReleaseFrame.trans ⟨rfl, rfl, rfl, rfl, rfl, fun _ => id, rfl⟩
  case isFalse => exact .refl s

theorem mode_startCan {ch : Fin 2} {s : State} (he : cfgFlag s (P.canEnable ch.val) = true) (hd : s.can[ch].mode = .disabled) :
    (startCan ch s).can[ch].mode = .normal := by
  have hs : startCan ch s = setCanMode ch .normal s := by simpa [startCan, he] using fun h => absurd hd h
  simp [hs, setCanMode_of_disabled hd]

theorem can_startCan_ne {ch c : Fin 2} (hne : c ≠ ch) (s : State) : (startCan ch s).can[c] = s.can[c] := by
  unfold startCan
  split
  case isTrue h =>
    obtain ⟨-, hd⟩ : _ ∧ s.can[ch].mode = .disabled := by simpa using h
    rw [setCanMode_of_disabled hd]
    simp [vmod_getElem_ne _ _ hne, (bookkeeping_abortBackground (blockCan ch) s).can]
  case isFalse => rfl

/-- At the release every enabled channel that is disabled enters NORMAL. -/
theorem mode_startCans {ch : Fin 2} {s : State} (he : cfgFlag s (P.canEnable ch.val) = true) (hd : s.can[ch].mode = .disabled) :
    (startCan 1 (startCan 0 s)).can[ch].mode = .normal := by
  obtain rfl | rfl : ch = 0 ∨ ch = 1 := by omega
  · rw [can_startCan_ne (by decide)]
    exact mode_startCan he hd
  · refine mode_startCan (ch := 1) ?_ ?_
    · rw [(releaseFrame_startCan 0 s).cfgFlag_eq]
      exact he
    · rw [can_startCan_ne (by decide)]
      exact hd

/-! ### The release, R140 and R368 -/

/-- What the release of a held module does, and what it leaves (R140, R293, R368). -/
structure Released (s t : State) : Prop where
  state : t.mod.state = .ready
  since : t.pair.releasedAt = some (nowOf s)
  waits : t.pair.joinWaitOver = false
  img : t.img = s.img
  int : t.keeper.intStat.getLsbD intState = true
  sessions : t.keeper.conns.map (·.session) = s.keeper.conns.map (·.session)
  can : ∀ ch : Fin 2, cfgFlag s (P.canEnable ch.val) = true → s.can[ch].mode = .disabled → t.can[ch].mode = .normal

/-- The wait for a partner begins (R140). -/
def beginJoinWait (s : State) : State :=
  onPair (fun p => { p with releasedAt := some (nowOf s), heardHeartbeat := false, heardBarge := false, joinWaitOver := false }) s

theorem release_eq (s : State) :
    release s = startCan 1 (startCan 0 (beginJoinWait (enterState .ready .none (abortForeground s)))) := rfl

/-- After self-test runs have given way (`a`) and `READY` has been entered (`t`), the release is done with the join wait and the channels. -/
theorem released_of_entered {s a t : State} (aborted : Bookkeeping s a)
    (entered : Bookkeeping (raiseInt intState (onMod (fun m => { m with state := .ready }) a)) t) :
    Released s (startCan 1 (startCan 0 (beginJoinWait t))) := by
  have started := (releaseFrame_startCan 0 (beginJoinWait t)).trans (releaseFrame_startCan 1 _)
  have time : t.time = s.time := entered.time.trans aborted.time
  have settings : (beginJoinWait t).settings = s.settings := entered.settings.trans aborted.settings
  have can : (beginJoinWait t).can = s.can := entered.can.trans aborted.can
  refine ⟨started.state.trans entered.state, ?_, ?_, started.img.trans (entered.img.trans aborted.img),
    started.ints _ (entered.ints _ (intStat_raiseInt (by decide) _)), started.sessions.trans (entered.sessions.trans aborted.sessions), ?_⟩
  · rw [started.pair, nowOf, ← time]
    rfl
  · rw [started.pair]
    rfl
  · intro ch he hd
    refine mode_startCans ?_ ?_
    · rwa [cfgFlag, cfg, settingBytes, settings]
    · rwa [can]

theorem release_released {s : State} (hm : s.mod.state = .held) : Released s (release s) := by
  have aborted := bookkeeping_abortForeground s
  rw [release_eq]
  refine released_of_entered aborted (bookkeeping_enterState .none ?_)
  rw [aborted.state, hm]
  decide

end Sys2Proof.Machine
end

section
/-! PRG.STOP through the checks, requests of no command, and STATE.RELEASE (R321, R330, R368). -/

namespace Sys2Proof.Machine
open Sys2Proof

theorem exec_prgStop (t : Nat) (h : ReqHdr) (mask : Nat) (s : State) :
    exec (.prgStop t h mask) s = .next (serve (.prgStop mask) h 0x0304 4 true [] (doStop h mask) (atTime t s)) := rfl

theorem exec_unknownCommandRequest (t : Nat) (h : ReqHdr) (code : Nat) (s : State) :
    exec (.unknownCommandRequest t h code) s =
      .next (serve (.unknown code) (plainHdr h) code 0 true [] (respond h code stUnknown []) (atTime t s)) := rfl

theorem exec_stateRelease (t : Nat) (h : ReqHdr) (s : State) :
    exec (.stateRelease t h) s = .next (serve .stateRelease h 0x0103 0 true [] (doStateRelease h) (atTime t s)) := rfl

/-! ### Answers queue no host change -/

theorem changes_answer (h : ReqHdr) (r : Response) (s : State) : (answer h r s).keeper.changes = s.keeper.changes := by
  unfold answer deliver
  split
  · split <;> rfl
  · rfl

theorem changes_arrived (h : ReqHdr) (s : State) : (arrived h s).keeper.changes = s.keeper.changes := by
  unfold arrived
  split <;> rfl

/-! ### PRG.STOP at the checks -/

theorem cmdRow_prgStop : cmdRow 0x0304 = ⟨.operate, 0x40, 4⟩ := by decide

/-- PRG.STOP needs OPERATE (R330). -/
theorem access_prgStop : accessCode (cmdRow 0x0304).access = 1 := by decide

theorem lifecycleLocks_prgStop (s : State) : lifecycleLocks s 0x0304 = false := by
  unfold lifecycleLocks
  split <;> rfl

section
variable {h : ReqHdr} {mask : Nat} {u : State}

/-- A ring in DORMANT wakes the module, and the request waits (R387). -/
theorem serve_prgStop_dormant (hk : keeperServes u = true) (hb : mailboxBusy u (.prgStop mask) h = false) (hc : connBusy u h = false)
    (hp : u.mod.power = .dormant) (hw : u.mod.waking = none) (body : State → State) :
    let s' := serve (.prgStop mask) h 0x0304 4 true [] body u
    s'.mod.waking = some 4 ∧ s'.ctl = u.ctl ∧ s'.keeper.changes = u.keeper.changes := by
  intro s'
  have hs : s' = defer (.prgStop mask) h (beginWake 4 u) := serve_of_dormant hk hb hc hp (by decide)
  have woken : (beginWake 4 u).mod.waking = some 4 ∧ (beginWake 4 u).ctl = u.ctl ∧ (beginWake 4 u).keeper.changes = u.keeper.changes := by
    simp [beginWake, hp, hw, stage]
  rw [hs]
  unfold defer
  split
  · split <;> exact woken
  · exact woken

variable (hc : connBusy u h = false)
include hc

/-- A PRG.STOP refused at the checks is answered and changes nothing else. -/
theorem checked_prgStop_refused {status : Nat} {p : List Byte} (hs : sessionOf u h.src = some h.session)
    (hr : stateRefusal (arrived h u) h 0x0304 = some (status, p)) (body : State → State) :
    OnlyAnswersWith h 0x0304 status p u (notePeaks (checked h 0x0304 4 true [] body (arrived h u))) := by
  rw [checked_of_refusal (by decide) (by simpa using hs) hr]
  exact respond_onlyAnswersWith (keeperWork_arrived h u) (connected_arrived hc) ..

/-- Check 3: the session is not the transport's. -/
theorem checked_prgStop_foreign_session (hs : sessionOf u h.src ≠ some h.session) (body : State → State) :
    OnlyAnswersWith h 0x0304 stBadHeader [] u (notePeaks (checked h 0x0304 4 true [] body (arrived h u))) := by
  rw [checked_of_foreign_session (by decide) (by simpa using hs) (by decide)]
  exact respond_onlyAnswersWith (keeperWork_arrived h u) (connected_arrived hc) ..

/-- Check 9: PRG.STOP has no dry run, and a request for one queues no change (R325). -/
theorem checked_prgStop_dryRun (hs : sessionOf u h.src = some h.session) (hr : stateRefusal (arrived h u) h 0x0304 = none)
    (hd : h.dryRun = true) (body : State → State) :
    let s' := notePeaks (checked h 0x0304 4 true [] body (arrived h u))
    ∃ p, Answered h 0x0304 stBadArgument p u s' ∧ s'.ctl = u.ctl ∧ s'.keeper.changes = u.keeper.changes := by
  rw [checked_of_flags (by decide) (by simpa using hs) hr (flagFindings_of_dryRun _ hd (by decide))]
  obtain ⟨answered, work⟩ := respond_onlyAnswersWith ((keeperWork_arrived h u).trans (keeperWork_draw _)) (connected_arrived hc) 0x0304
    stBadArgument (findingsList (arrived h u).drawn (flagFindings (arrived h u) h 0x0304 ++ []))
  refine ⟨_, answered, KeeperWork.ctl_eq work, ?_⟩
  exact (changes_answer ..).trans (changes_arrived h u)

end

/-! ### What PRG.STOP's checks 5 to 8 answer, by the module's state -/

section
variable {h : ReqHdr} {s : State} (ha : 1 ≤ accessCode (accessOf s h.src))
include ha

theorem stateRefusal_prgStop_held (hm : s.mod.state = .held) : stateRefusal s h 0x0304 = some (stNotReleased, []) :=
  stateRefusal_of_held (access_prgStop ▸ ha) (lifecycleLocks_prgStop s) hm (by decide)

theorem stateRefusal_prgStop_standby (hm : s.mod.state = .standby) : stateRefusal s h 0x0304 = some (stRoleConflict, []) :=
  stateRefusal_of_standby (access_prgStop ▸ ha) (lifecycleLocks_prgStop s) hm (by decide) (by decide)

theorem stateRefusal_prgStop_ready (hm : s.mod.state = .ready) :
    stateRefusal s h 0x0304 = some (stStateConflict, le2 4 ++ le2 0x40 ++ le4 0) := by
  rw [stateRefusal_of_illegal (access_prgStop ▸ ha) (lifecycleLocks_prgStop s) (by simp [hm]) (by simp [hm]) (by rw [hm]; decide),
    conflictPayload, hm, cmdRow_prgStop]
  rfl

theorem stateRefusal_prgStop_active (hm : s.mod.state = .active) : stateRefusal s h 0x0304 = none :=
  stateRefusal_of_legal (access_prgStop ▸ ha) (lifecycleLocks_prgStop s) (by simp [hm]) (by simp [hm]) (by rw [hm]; decide)

end

/-! ### STATE.RELEASE -/

theorem doStateRelease_unreadable {h : ReqHdr} {s : State} (hu : s.settings.unreadable = true) :
    doStateRelease h s = respond h 0x0103 stSettings [] s := by
  simp [doStateRelease, hu]

theorem doStateRelease_few_lanes {h : ReqHdr} {s : State} (hu : s.settings.unreadable = false) (hl : usableLanes s < 2) :
    doStateRelease h s = respond h 0x0103 stInternal (findingsList s.drawn [lanesFinding]) (draw s) := by
  simp [doStateRelease, hu, hl]

theorem doStateRelease_releases {h : ReqHdr} {s : State} (hu : s.settings.unreadable = false) (hl : 2 ≤ usableLanes s) :
    doStateRelease h s = respond h 0x0103 stOk [] (release s) := by
  simp [doStateRelease, hu, Nat.not_lt.2 hl]

theorem bookkeeping_arrived (h : ReqHdr) (s : State) : Bookkeeping s (arrived h s) := by
  unfold arrived
  split
  · refine bookkeeping_onKeeper (hc := ?_)
    simp [Function.comp_def, apply_ite]
  · exact .refl s

/-- Bookkeeping before a release leaves it one of the state before. -/
theorem Released.of_bookkeeping {s a t : State} (r : Released a t) (b : Bookkeeping s a) : Released s t :=
  ⟨r.state, b.nowOf_eq ▸ r.since, r.waits, r.img.trans b.img, r.int, r.sessions.trans b.sessions,
    fun ch he hd => r.can ch (b.cfgFlag_eq _ ▸ he) (b.can ▸ hd)⟩

/-- An answer and the note of the peaks leave a release as it is. -/
theorem Released.after_respond {s t : State} (r : Released s t) (h : ReqHdr) (code status : Nat) (p : List Byte) :
    Released s (notePeaks (respond h code status p t)) := by
  have answered : Bookkeeping t (notePeaks (respond h code status p t)) := (bookkeeping_answer ..).trans bookkeeping_onKeeper
  exact ⟨answered.state.trans r.state, answered.pair ▸ r.since, answered.pair ▸ r.waits, answered.img.trans r.img, answered.ints _ r.int,
    answered.sessions.trans r.sessions, fun ch he hd => answered.can ▸ r.can ch he hd⟩

/-- A held module whose settings can be read is released by the command, and the answer shows `READY` (R368). -/
theorem notePeaks_doStateRelease {h : ReqHdr} {s : State} (hm : s.mod.state = .held) (hc : Connected s h.src)
    (hu : s.settings.unreadable = false) (hl : 2 ≤ usableLanes s) :
    let s' := notePeaks (doStateRelease h s)
    Released s s' ∧ Answered h 0x0103 stOk [] s' s' := by
  have released := release_released hm
  rw [doStateRelease_releases hu hl]
  have after := released.after_respond h 0x0103 stOk []
  exact ⟨after, respond_answered (released.state.trans after.state.symm) (released.img.trans after.img.symm) (hc.of_sessions released.sessions) ..⟩

/-- Settles O47: PRG.STOP is followed through the checks up to the one that refuses it; a request that passes all of them runs its
command, which is the answer `UNKNOWN_COMMAND` for a code of none, and the release for STATE.RELEASE. -/
theorem requestChecks : Obligations.RequestChecks := by
  refine ⟨?stop, ?others⟩
  case stop =>
    rintro t h mask s u rfl
    refine ⟨?paused, ?subscribed, fun hk hb hc => ⟨?dormant, fun hp => ?awake⟩⟩
    case paused =>
      intro n hn hk hp
      rw [exec_prgStop, serve_of_paused (s := atTime t s) hk]
      simp [defer, hn, hp]
    case subscribed =>
      intro n hn hk hsub
      rw [exec_prgStop, serve_of_mailboxBusy (s := atTime t s) hk]
      simpa [mailboxBusy, hn, isStop] using hsub
    case dormant =>
      intro hp hw
      exact ⟨_, exec_prgStop .., serve_prgStop_dormant (u := atTime t s) hk hb hc hp hw _⟩
    case awake =>
      have runs : exec (.prgStop t h mask) s = .next (taken h 0x0304 4 true [] (doStop h mask) (atTime t s)) := by
        rw [exec_prgStop, serve_eq_taken (s := atTime t s) hk hb hc hp]
      refine ⟨fun x hx => by rw [runs, taken_of_repeated hx], fun hr hf => ?_⟩
      rw [taken_eq_checked hr hf] at runs
      refine ⟨fun hs _ => ⟨_, runs, checked_prgStop_foreign_session (u := atTime t s) hc hs _⟩, fun hs ha => ?_, fun hs ha => ?_⟩
      · have ha' : accessCode (accessOf (arrived h (atTime t s)) h.src) < 1 := by simpa using ha
        exact ⟨_, runs, checked_prgStop_refused (u := atTime t s) hc hs (stateRefusal_of_access (access_prgStop ▸ ha')) _⟩
      · have ha' : 1 ≤ accessCode (accessOf (arrived h (atTime t s)) h.src) := by simpa using ha
        have state : (arrived h (atTime t s)).mod.state = s.mod.state := congrArg Mod.state (keeperWork_arrived h (atTime t s)).mod_eq
        have refused {status p} := checked_prgStop_refused (u := atTime t s) (status := status) (p := p) hc hs
        exact ⟨fun hm => ⟨_, runs, refused (stateRefusal_prgStop_held ha' (state.trans hm)) _⟩,
          fun hm => ⟨_, runs, refused (stateRefusal_prgStop_standby ha' (state.trans hm)) _⟩,
          fun hm => ⟨_, runs, refused (stateRefusal_prgStop_ready ha' (state.trans hm)) _⟩,
          fun hm hd => ⟨_, runs, checked_prgStop_dryRun (u := atTime t s) hc hs (stateRefusal_prgStop_active ha' (state.trans hm)) hd _⟩⟩
  case others =>
    rintro t h s u rfl
    refine ⟨fun code ha => ?unknown, fun ha hm => ?release⟩
    case unknown =>
      obtain ⟨-, -, -, hc, -⟩ := id ha
      refine ⟨_, exec_unknownCommandRequest .., ?_⟩
      rw [serve_of_admitted ha]
      exact respond_onlyAnswersWith (keeperWork_arrived (plainHdr h) _) (connected_arrived hc) ..
    case release =>
      obtain ⟨-, -, -, hc, -⟩ := id ha
      have connected := connected_arrived hc
      have work := keeperWork_arrived h (atTime t s)
      have lanes : usableLanes (arrived h (atTime t s)) = usableLanes s := by rw [usableLanes, work.ctl_eq]; rfl
      have runs := exec_stateRelease t h s
      rw [serve_of_admitted ha] at runs
      refine ⟨fun hu => ⟨_, runs, ?_⟩, fun hu hl => ⟨_, runs, ?_⟩, fun hu hl => ⟨_, runs, ?_⟩⟩
      · rw [doStateRelease_unreadable (work.settings_eq ▸ hu)]
        exact respond_onlyAnswersWith work connected ..
      · rw [doStateRelease_few_lanes (work.settings_eq ▸ hu) (lanes ▸ hl)]
        obtain ⟨answered, kept⟩ := respond_onlyAnswersWith (work.trans (keeperWork_draw _)) connected 0x0103 stInternal
          (findingsList (arrived h (atTime t s)).drawn [lanesFinding])
        exact ⟨_, answered, KeeperWork.mod_eq (s := atTime t s) kept⟩
      · obtain ⟨released, answered⟩ := notePeaks_doStateRelease (s := arrived h (atTime t s)) (by rw [work.mod_eq]; exact hm) connected
          (work.settings_eq ▸ hu) (lanes ▸ hl)
        have fromRing := released.of_bookkeeping (bookkeeping_arrived h (atTime t s))
        exact ⟨fromRing.state, answered, fromRing.since, fromRing.waits, fromRing.img, fromRing.int, fromRing.can⟩

end Sys2Proof.Machine
end

section
/-! What every command keeps: the highest claim, canonical memories and the queue always, and the epoch outside the events of steps, of the
pair and of starts (R12, R18, R21). The laws of the operations are put together here, one case for each command. -/

namespace Sys2Proof.Machine
open Sys2Proof

/-! ### The debug port's accesses to memory, R12 -/

/-- An access inside the Basin meets no missing word. -/
theorem outside_eq_false {space : MemSpace} {a n : Nat} (h : space = .basin → a + n ≤ basinSize) : outside space a n = false := by
  cases space with
  | basin => simpa [outside] using h rfl
  | _ => rfl

theorem exec_memRead {t a n : Nat} {space : MemSpace} (s : State) (h : outside space a n = false) :
    exec (.memRead t space a n) s = .next (jtag observing (readSpace space a n) t s) := by
  simp [exec, execMemRead, h]

theorem exec_memWrite {t a : Nat} {space : MemSpace} {bs : List Byte} (s : State) (h : outside space a bs.length = false) :
    exec (.memWrite t space a bs) s = .next (jtag invading (fun s => writeSpace space a bs (taint s)) t s) := by
  simp [exec, execMemWrite, h]

/-! ### Every command keeps claim, memories and queue -/

theorem leads_weaveVote_sound (t : Nat) (k : TaskId) (position : Nat) (fault : WeaveFault) (s : State) :
    Leads (.weaveVote t k position fault) s (Sound s) := by
  have votes (u : State) (h : Sound s u) : Sound s ((votable u k).reverse.foldl (fun s i => voteAt i position s) u) :=
    foldl_sound _ (fun _ _ => voteAt_sound _ _ _) _ _ h
  refine ⟨_, rfl, ite_sound _ (by simp) ?_⟩
  cases fault with
  | none => exact votes _ (by simp)
  | corrected => exact votes _ (by simp)
  | verdictsDiffer => exact voteFault_sound _ _ (by simp)
  | uncorrectable => exact voteFault_sound _ _ (by simp)

theorem leads_ppsEdge_sound (t : Nat) (s : State) : Leads (.ppsEdge t) s (Sound s) := by
  have edge : Sound s (onTime (fun u => { u with lastPps := some t, ppsLost := false }) (atTime t s)) := by simp
  refine ⟨_, rfl, ite_sound _ (by simp) (ite_sound _ edge ?_)⟩
  split
  · exact applySecond_sound _ _ edge
  · exact slew_sound _ _ (onTime_sound _ edge)

theorem leads_agreementReceive_sound (t : Nat) (fr : TowHdr) (ag : Agreement) (s : State) :
    Leads (.agreementReceive t fr ag) s (Sound s) := by
  refine ⟨_, rfl, withFrame_sound _ _ _ (fun u h => ite_sound _ ?_ h) (by simp)⟩
  dsimp only
  split
  · exact onExecs_sound _ _ h
  · exact h

/-- Every command completes and keeps what every operation keeps, accesses behind the Basin apart. -/
theorem leads_sound (c : Instr) (s : State) (hr : ∀ t a n, c = .memRead t .basin a n → a + n ≤ basinSize)
    (hw : ∀ t a bs, c = .memWrite t .basin a bs → a + bs.length ≤ basinSize) : Leads c s (Sound s) := by
  cases c with
  | memRead t space a n =>
    have inside := outside_eq_false fun e : space = .basin => hr t a n (by rw [e])
    exact ⟨_, exec_memRead s inside, jtag_sound _ _ _ (fun _ => readSpace_sound _ _ _ _) (.refl s)⟩
  | memWrite t space a bs =>
    have inside := outside_eq_false fun e : space = .basin => hw t a bs (by rw [e])
    exact ⟨_, exec_memWrite s inside, jtag_sound _ _ _ (fun _ h => writeSpace_sound _ _ _ _ (taint_sound _ h)) (.refl s)⟩
  | weaveVote => exact leads_weaveVote_sound ..
  | ppsEdge => exact leads_ppsEdge_sound ..
  | agreementReceive => exact leads_agreementReceive_sound ..
  | nop | ld | ldn | and | andn | or | orn | xor | xorn | not | st | stn | set | rst | andOpen | orOpen | xorOpen | closeBracket | ep | en
  | ton | tof | tp | ctu | ctd | ctud | ldi | bld | bst | band | bor | bxor | ldw | stw | movw | ldwh | add | sub | mul | div | mod | neg | abs
  | fadd | fsub | fmul | fdiv | fsqrt | cmpeq | cmpne | cmplt | cmple | cmpgt | cmpge | cvt | limit | scale | jmp | jmpc | jmpcn | call | ret
  | tend | tnow => exact ⟨_, rfl, laneStep_sound _ _ _ _ _ (.refl s)⟩
  | _ =>
    refine ⟨_, rfl, ?_⟩
    try dsimp only
    repeat' split
    all_goals simp +contextual (maxDischargeDepth := 50) [foldl_sound]

/-- Settles O6: every command completes by `leads_sound`, and a sound step leaves the queue. -/
theorem everyCommandCompletes : Obligations.EveryCommandCompletes := by
  intro c s hr hw
  obtain ⟨s', completes, sound⟩ := leads_sound c s hr hw
  exact ⟨s', completes, sound.queue⟩

/-! ### The epoch outside steps -/

theorem leads_weaveVote_epochStays (t : Nat) (k : TaskId) (position : Nat) (fault : WeaveFault) (s : State) :
    Leads (.weaveVote t k position fault) s (EpochStays s) := by
  have votes (u : State) (h : EpochStays s u) : EpochStays s ((votable u k).reverse.foldl (fun s i => voteAt i position s) u) :=
    foldl_epoch _ (fun _ _ => voteAt_epoch _ _ _) _ _ h
  refine ⟨_, rfl, ite_epoch _ (by simp) ?_⟩
  cases fault with
  | none => exact votes _ (by simp)
  | corrected => exact votes _ (by simp)
  | verdictsDiffer => exact voteFault_epoch _ _ (by simp)
  | uncorrectable => exact voteFault_epoch _ _ (by simp)

theorem leads_ppsEdge_epochStays (t : Nat) (s : State) : Leads (.ppsEdge t) s (EpochStays s) := by
  have edge : EpochStays s (onTime (fun u => { u with lastPps := some t, ppsLost := false }) (atTime t s)) := by simp
  refine ⟨_, rfl, ite_epoch _ (by simp) (ite_epoch _ edge ?_)⟩
  split
  · exact applySecond_epoch _ _ edge
  · exact slew_epoch _ _ (onTime_epoch _ edge)

theorem leads_agreementReceive_epochStays (t : Nat) (fr : TowHdr) (ag : Agreement) (s : State) :
    Leads (.agreementReceive t fr ag) s (EpochStays s) := by
  refine ⟨_, rfl, withFrame_epoch _ _ _ (fun u h => ite_epoch _ ?_ h) (by simp)⟩
  dsimp only
  split
  · exact onExecs_epoch _ _ h
  · exact h

/-- A command that does not move the epoch completes with the epoch that stands, or stops. -/
theorem epochStays_of_exec {c : Instr} {s s' : State} (hm : movesEpoch c = false) (h : exec c s = .next s') : EpochStays s s' := by
  have of_leads (l : Leads c s (EpochStays s)) : EpochStays s s' := by
    obtain ⟨u, hu, stays⟩ := l
    obtain rfl : u = s' := by simpa [hu] using h
    exact stays
  cases c with
  | epochStep | taskEnd | mirrorReceive | catchupReceive | handoverReceive | heartbeatReceive | outputBargeReceive | checkWindowExpiry
  | coldTakeoverReady | proofCheckTimeout | restart | bistGo | refRecovered | powerUp | holdupExhausted => simp [movesEpoch] at hm
  | memRead t space a n =>
    simp only [exec, execMemRead] at h
    split at h
    · cases h
    · cases h
      exact jtag_epoch _ _ _ (fun _ => readSpace_epoch _ _ _ _) (.self s)
  | memWrite t space a bs =>
    simp only [exec, execMemWrite] at h
    split at h
    · cases h
    · cases h
      exact jtag_epoch _ _ _ (fun _ h => writeSpace_epoch _ _ _ _ (taint_epoch _ h)) (.self s)
  | weaveVote => exact of_leads (leads_weaveVote_epochStays ..)
  | ppsEdge => exact of_leads (leads_ppsEdge_epochStays ..)
  | agreementReceive => exact of_leads (leads_agreementReceive_epochStays ..)
  | nop | ld | ldn | and | andn | or | orn | xor | xorn | not | st | stn | set | rst | andOpen | orOpen | xorOpen | closeBracket | ep | en
  | ton | tof | tp | ctu | ctd | ctud | ldi | bld | bst | band | bor | bxor | ldw | stw | movw | ldwh | add | sub | mul | div | mod | neg | abs
  | fadd | fsub | fmul | fdiv | fsqrt | cmpeq | cmpne | cmplt | cmple | cmpgt | cmpge | cvt | limit | scale | jmp | jmpc | jmpcn | call | ret
  | tend | tnow => exact of_leads ⟨_, rfl, laneStep_epoch _ _ _ _ _ (.self s)⟩
  | _ =>
    refine of_leads ⟨_, rfl, ?_⟩
    try dsimp only
    repeat' split
    all_goals simp +contextual (maxDischargeDepth := 50) [foldl_epoch]

/-- Settles O7, by the law of each command that `movesEpoch` does not name. -/
theorem epochKeptOutsideSteps : Obligations.EpochKeptOutsideSteps :=
  fun _ _ _ hm h => epochStays_of_exec hm h

end Sys2Proof.Machine
end

section
/-! The epoch step of a task and of a host change (R18, R19): what it does to the epoch, to the scan time and to the tags that the task
neither wrote nor takes as inputs. -/

namespace Sys2Proof.Machine
open Sys2Proof

/-! ### Tables -/

theorem tget_tmod_ne {α : Type} {i j : Nat} (hij : j ≠ i) (g : α → α) (m : Tbl α) : tget i (tmod j g m) = tget i m := by
  induction m with
  | nil => rfl
  | cons p r ih =>
    simp only [tmod]
    split
    · next hk => simp [tget, hk, hij]
    · simp [tget, ih]

/-- An entry of a table stands under a number that the table finds. -/
theorem tget_isSome_of_mem {α : Type} {m : Tbl α} {p : Nat × α} (hp : p ∈ m) : (tget p.1 m).isSome := by
  induction m with
  | nil => cases hp
  | cons q r ih =>
    simp only [tget]
    split
    · rfl
    · next hne => exact ih ((List.mem_cons.1 hp).resolve_left fun e => hne (by rw [e]))

/-! ### The two halves of a task's step: the values and changes that land, and what is sent of them -/

/-- The state in which the task's values and the due host changes have landed, under the next epoch. -/
def stepLanded (i : Nat) (e : Exec) (s : State) : State :=
  let epoch := s.img.epoch + 1
  let r := applyChanges epoch false (retireExec i (commitExec e epoch s))
  storeEpoch (dropMissed (migrateAtStep epoch (onImg (fun im => { im with epoch := epoch }) r.1)))

/-- What the record of the step carries beside the forces and the journal. -/
def stepEntries (i : Nat) (e : Exec) (s : State) : List MirrorEntry :=
  (writtenInsts e).map (fun p => .inst p.1 p.2) ++ (applyChanges (s.img.epoch + 1) false (retireExec i (commitExec e (s.img.epoch + 1) s))).2

theorem stepExec_of_poison {t i : Nat} {e : Exec} {s : State} (hp : outputPoisoned (stepLanded i e s) e.task = true) :
    stepExec t i e s = poisonFault (settleMirror
      (mirrorStep (some e.task) e.tick e.version (writeDigest s e) (stepEntries i e s) (noteSlack t e (stepLanded i e s)))) := by
  simp only [stepLanded] at hp
  simp only [stepExec, hp, if_true]
  rfl

theorem stepExec_eq_sent {t i : Nat} {e : Exec} {s : State} (hp : outputPoisoned (stepLanded i e s) e.task = false) :
    stepExec t i e s = settleMirror
      (mirrorStep (some e.task) e.tick e.version (writeDigest s e) (stepEntries i e s) (publishStep t e (stepLanded i e s))) := by
  simp only [stepLanded] at hp
  simp only [stepExec, hp]
  rfl

theorem epoch_stepLanded (i : Nat) (e : Exec) (s : State) : (stepLanded i e s).img.epoch = s.img.epoch + 1 :=
  storeEpoch_epoch _ (dropMissed_epoch _ (migrateAtStep_epoch _ _ (EpochStays.self (onImg _ _))))

theorem epoch_stepExec (t i : Nat) (e : Exec) (s : State) : (stepExec t i e s).img.epoch = s.img.epoch + 1 := by
  rw [← epoch_stepLanded i e s]
  cases hp : outputPoisoned (stepLanded i e s) e.task with
  | true => rw [stepExec_of_poison hp]; exact poisonFault_epoch _ (settleMirror_epoch _ (mirrorStep_epoch _ _ _ _ _ _ (noteSlack_epoch _ _ _ (.self _))))
  | false => rw [stepExec_eq_sent hp]; exact settleMirror_epoch _ (mirrorStep_epoch _ _ _ _ _ _ (publishStep_epoch _ _ _ (.self _)))

theorem epoch_stepChange (s : State) : (stepChange s).img.epoch = s.img.epoch + 1 := by
  have landed (u : State) (h : u.img.epoch = s.img.epoch + 1) :
      (storeEpoch (dropMissed (migrateAtStep (s.img.epoch + 1) u))).img.epoch = s.img.epoch + 1 :=
    (storeEpoch_epoch _ (dropMissed_epoch _ (migrateAtStep_epoch _ _ (EpochStays.self u)))).trans h
  unfold stepChange
  dsimp only
  split
  · exact (settleMirror_epoch _ (mirrorStep_epoch _ _ _ _ _ _ (.self _))).trans (landed _ rfl)
  · exact (noteSent_epoch _ (markMirrored_epoch _ _ (.self _))).trans (landed _ rfl)

/-! ### Operations beside image tags, control and Basin -/

/-- From `s` to `t` tags, control and Basin stay as they are. -/
structure Beside (s t : State) : Prop where
  tags : t.img.tags = s.img.tags
  ctl : t.ctl = s.ctl
  basin : t.basin = s.basin

theorem Beside.refl (s : State) : Beside s s := ⟨rfl, rfl, rfl⟩

theorem Beside.trans {s t u : State} (h : Beside s t) (k : Beside t u) : Beside s u :=
  ⟨k.tags.trans h.tags, k.ctl.trans h.ctl, k.basin.trans h.basin⟩

section
variable {s0 s t : State} (h : Beside s0 s)
include h

theorem KeeperWork.beside (k : KeeperWork s t) : Beside s0 t := by
  rw [k]
  exact ⟨h.tags, h.ctl, h.basin⟩

theorem Beside.ite {c : Prop} [Decidable c] (k : Beside s0 t) : Beside s0 (if c then s else t) := by
  split
  · exact h
  · exact k

theorem onNet_beside (g : Net → Net) : Beside s0 (onNet g s) := ⟨h.tags, h.ctl, h.basin⟩
theorem onTow_beside (g : Tow → Tow) : Beside s0 (onTow g s) := ⟨h.tags, h.ctl, h.basin⟩
theorem onField_beside (g : FieldZone → FieldZone) : Beside s0 (onField g s) := ⟨h.tags, h.ctl, h.basin⟩
theorem onKeeper_beside (g : Keeper → Keeper) : Beside s0 (onKeeper g s) := ⟨h.tags, h.ctl, h.basin⟩
theorem onSettings_beside (g : Settings → Settings) : Beside s0 (onSettings g s) := ⟨h.tags, h.ctl, h.basin⟩
theorem onPort_beside (p : Fin 3) (g : Port → Port) : Beside s0 (onPort p g s) := ⟨h.tags, h.ctl, h.basin⟩
theorem onCan_beside (c : Fin 2) (g : Can → Can) : Beside s0 (onCan c g s) := ⟨h.tags, h.ctl, h.basin⟩
theorem onImg_beside (g : Image → Image) (hg : ∀ i, (g i).tags = i.tags := by exact fun _ => rfl) :
    Beside s0 (onImg g s) := ⟨(hg _).trans h.tags, h.ctl, h.basin⟩

theorem stage_beside (code source : Nat) (data : List Byte) : Beside s0 (stage code source data s) := ⟨h.tags, h.ctl, h.basin⟩

theorem foldl_beside {α : Type} {f : State → α → State} (hf : ∀ u a, Beside s0 u → Beside s0 (f u a)) (xs : List α) :
    Beside s0 (xs.foldl f s) := by
  induction xs generalizing s with
  | nil => exact h
  | cons x xs ih => exact ih (hf _ _ h)

end

theorem keeperWork_raiseInt (n : Nat) (s : State) : KeeperWork s (raiseInt n s) := rfl

theorem keeperWork_noteUnsent (x : JnlEntry) (s : State) : KeeperWork s (noteUnsent x s) := by
  unfold noteUnsent
  split <;> rfl

theorem keeperWork_jmod (id : Nat) (g : JnlEntry → JnlEntry) (s : State) : KeeperWork s (jmod id g s) := by
  unfold jmod
  split
  · rfl
  · next x _ =>
    have noted := (keeperWork_onKeeper (fun k => { k with journal := k.journal.map fun y => if y.id == id then g y else y }) s).trans
      (keeperWork_noteUnsent x _)
    dsimp only
    split
    · exact noted
    · exact noted.trans (keeperWork_raiseInt ..)

theorem keeperWork_answerHeld (id : Nat) (s : State) : KeeperWork s (answerHeld id s) := by
  unfold answerHeld
  split
  · exact (keeperWork_onKeeper ..).trans (keeperWork_answer ..)
  · rfl

theorem keeperWork_jend (id : Nat) (st : JnlState) (status : Nat) (s : State) : KeeperWork s (jend id st status s) := by
  unfold jend
  split
  · rfl
  · split
    · rfl
    · exact (keeperWork_jmod ..).trans (keeperWork_answerHeld ..)

section
variable {s0 s : State} (h : Beside s0 s)
include h

theorem markMirrored_beside (n : Nat) : Beside s0 (markMirrored n s) := by
  unfold markMirrored
  dsimp only
  refine h.ite (foldl_beside (onSettings_beside (onImg_beside h _) _) (fun u x hu => ?_) _)
  exact (KeeperWork.beside hu (keeperWork_jmod ..)).ite (KeeperWork.beside hu ((keeperWork_jmod ..).trans (keeperWork_jend ..)))

theorem settleMirror_beside : Beside s0 (settleMirror s) := (markMirrored_beside h _).ite h

theorem storeEpoch_beside : Beside s0 (storeEpoch s) := (onImg_beside h _).ite h

theorem queueOn_beside (held : Option (TaskId × Nat)) (k : BargeKind) (dst : Nat) (bytes : List Byte) : Beside s0 (queueOn held k dst bytes s) :=
  onPort_beside (onPort_beside (onNet_beside h _) _ _) _ _

theorem autoSchedule_beside (n : Nat) : Beside s0 (autoSchedule n s) :=
  ((onNet_beside h _).ite (onNet_beside h _)).ite h

theorem sendToNode_beside (held : Option (TaskId × Nat)) (b : Barge) : Beside s0 (sendToNode held b s) :=
  autoSchedule_beside (foldl_beside (onNet_beside h _) (fun _ _ hu => queueOn_beside hu ..) _) _

theorem publishNodes_beside (k : TaskId) (release : Nat) : Beside s0 (publishNodes k release s) :=
  foldl_beside h (fun _ _ hu => onNet_beside (sendToNode_beside hu ..) _) _

theorem releaseStages_beside (k : TaskId) (release : Nat) : Beside s0 (releaseStages k release s) := by
  unfold releaseStages
  exact onField_beside h _

theorem formObjects_beside (k : TaskId) (release : Nat) : Beside s0 (formObjects k release s) := by
  unfold formObjects
  exact foldl_beside h (fun _ _ hu => foldl_beside hu (fun _ _ hv => (onCan_beside hv _ _).ite hv) _) _

end

/-! ### Values that land -/

/-- What values that land in the tags of `T` leave from `s0` to `s`: the queue of changes, tasks, a migration, a Basin without poison, and
every other tag. -/
structure LandsBeside (T : Nat → Prop) (s0 s : State) : Prop where
  changes : s.keeper.changes = s0.keeper.changes
  tasks : s.ctl.tasks = s0.ctl.tasks
  migration : s.basin.migration = s0.basin.migration
  clean : s0.basin.poison = [] → s.basin.poison = []
  tags : ∀ i, ¬ T i → tget i s.img.tags = tget i s0.img.tags

theorem LandsBeside.refl (T : Nat → Prop) (s : State) : LandsBeside T s s := ⟨rfl, rfl, rfl, id, fun _ _ => rfl⟩

section
variable {T : Nat → Prop} {s0 s : State} (h : LandsBeside T s0 s)
include h

theorem clearPoison_landsBeside (address len : Nat) : LandsBeside T s0 (clearPoison address len s) :=
  ⟨h.changes, h.tasks, h.migration, fun hp => by simp [clearPoison, h.clean hp], h.tags⟩

theorem onTag_landsBeside {j : Nat} (hj : T j) (g : Tag → Tag) : LandsBeside T s0 (onTag j g s) :=
  ⟨h.changes, h.tasks, h.migration, h.clean, fun i hi => (tget_tmod_ne (by rintro rfl; exact hi hj) ..).trans (h.tags i hi)⟩

theorem setWouldBe_landsBeside (j : Nat) (v : W64) : LandsBeside T s0 (setWouldBe j v s) :=
  ⟨h.changes, h.tasks, h.migration, h.clean, h.tags⟩

theorem onExecs_landsBeside (g : List Exec → List Exec) : LandsBeside T s0 (onExecs g s) :=
  ⟨h.changes, h.tasks, h.migration, h.clean, h.tags⟩

theorem onInsts_landsBeside (g : Tbl Inst → Tbl Inst) : LandsBeside T s0 (onCtl (fun c => { c with insts := g c.insts }) s) :=
  ⟨h.changes, h.tasks, h.migration, h.clean, h.tags⟩

theorem onExchange_landsBeside (x : Option Exchange) : LandsBeside T s0 (onCtl (fun c => { c with exchange := x }) s) :=
  ⟨h.changes, h.tasks, h.migration, h.clean, h.tags⟩

theorem commitView_landsBeside {j : Nat} (hj : T j) (v : ViewEntry) (epoch : Nat) : LandsBeside T s0 (commitView j v epoch s) := by
  unfold commitView
  split
  · exact h
  · refine clearPoison_landsBeside (onTag_landsBeside ?_ hj _) ..
    split
    · exact setWouldBe_landsBeside h ..
    · exact h

theorem commitCopy_landsBeside {j : Nat} (hj : T j) (c : SlotCopy) (epoch : Nat) : LandsBeside T s0 (commitCopy j c epoch s) := by
  unfold commitCopy
  split
  · exact h
  · exact clearPoison_landsBeside (onTag_landsBeside h hj _) ..

theorem commitComputed_landsBeside {j : Nat} (hj : T j) (v : W64) (tick epoch : Nat) :
    LandsBeside T s0 (commitComputed j v tick epoch s) := by
  unfold commitComputed
  split
  · exact h
  · refine commitCopy_landsBeside ?_ hj ..
    split
    · exact setWouldBe_landsBeside h ..
    · exact h

theorem commitInst_landsBeside (n : Nat) (r : Inst) : LandsBeside T s0 (commitInst n r s) := by
  have put := clearPoison_landsBeside (onInsts_landsBeside h (tput n r)) (instAddress s n) 32
  unfold commitInst
  dsimp only
  split
  · exact put
  · split
    · exact clearPoison_landsBeside (onExchange_landsBeside put _) ..
    · exact put

theorem foldl_landsBeside {α : Type} {f : State → α → State} (xs : List α) (hf : ∀ u, ∀ a ∈ xs, LandsBeside T s0 u → LandsBeside T s0 (f u a)) :
    LandsBeside T s0 (xs.foldl f s) := by
  induction xs generalizing s with
  | nil => exact h
  | cons x xs ih => exact ih (hf _ _ (List.mem_cons_self ..) h) fun u a ha => hf u a (List.mem_cons_of_mem _ ha)

theorem retireExec_landsBeside (n : Nat) : LandsBeside T s0 (retireExec n s) := by
  unfold retireExec
  split
  · exact h
  · split <;> exact onExecs_landsBeside h _

end

/-- The tags that a step of the execution commits: those it wrote and its task's inputs. -/
def Commits (s : State) (e : Exec) (i : Nat) : Prop := tget i (writtenTags e) ≠ none ∨ ∃ q ∈ inputTags s e.task, q.1 = i

theorem commitExec_landsBeside (e : Exec) (epoch : Nat) (s : State) : LandsBeside (Commits s e) s (commitExec e epoch s) := by
  unfold commitExec
  refine foldl_landsBeside (foldl_landsBeside (foldl_landsBeside (.refl _ s) _ fun u p hp hu => ?inputs) _ fun u p hp hu => ?written)
    _ fun u p _ hu => ?insts
  case inputs =>
    obtain ⟨q, hq, hv⟩ := List.mem_filterMap.1 hp
    obtain ⟨v, -, rfl⟩ := Option.map_eq_some_iff.1 hv
    exact commitView_landsBeside hu (.inr ⟨q, hq, rfl⟩) ..
  case written => exact commitComputed_landsBeside hu (.inl (Option.isSome_iff_ne_none.1 (tget_isSome_of_mem hp))) ..
  case insts => exact commitInst_landsBeside hu ..

/-- With no host change waiting a step applies none. -/
theorem applyChanges_of_none {s : State} (hc : s.keeper.changes = []) (epoch : Nat) (one : Bool) :
    (applyChanges epoch one s).1 = notePeaks s := by
  simp [applyChanges, hc, applyList]
  rfl

theorem dropMissed_of_none {s : State} (hc : s.keeper.changes = []) : dropMissed s = s := by
  simp [dropMissed, hc]

theorem migrateAtStep_of_none {s : State} (hm : s.basin.migration = none) (epoch : Nat) : migrateAtStep epoch s = s := by
  simp [migrateAtStep, hm]

/-- With no change and no migration waiting only the values of the execution land. -/
theorem stepLanded_landsBeside {p : Nat} {e : Exec} {s : State} (hc : s.keeper.changes = []) (hm : s.basin.migration = none) :
    LandsBeside (Commits s e) s (stepLanded p e s) := by
  have landed := retireExec_landsBeside (commitExec_landsBeside e (s.img.epoch + 1) s) p
  have counted : stepLanded p e s =
      storeEpoch (onImg (fun im => { im with epoch := s.img.epoch + 1 }) (notePeaks (retireExec p (commitExec e (s.img.epoch + 1) s)))) := by
    unfold stepLanded
    dsimp only
    rw [applyChanges_of_none (landed.changes.trans hc), migrateAtStep_of_none, dropMissed_of_none]
    · exact landed.changes.trans hc
    · exact landed.migration.trans hm
  rw [counted]
  unfold storeEpoch
  split <;> exact ⟨landed.changes, landed.tasks, landed.migration, landed.clean, landed.tags⟩

/-! ### What is sent -/

@[simp] theorem stage_ctl (code source : Nat) (data : List Byte) (s : State) : (stage code source data s).ctl = s.ctl := rfl

theorem lastScan_onTask {g : Task → Task} (hg : ∀ x, (g x).lastScan = x.lastScan) (k j : TaskId) (s : State) :
    (onTask k g s).ctl.tasks[j].lastScan = s.ctl.tasks[j].lastScan := by
  by_cases h : j = k
  · subst h
    simp [hg]
  · simp [vmod_getElem_ne _ _ h]

theorem lastScan_noteSlack (t : Nat) (e : Exec) (s : State) : (noteSlack t e s).ctl.tasks[e.task].lastScan = t - e.tick := by
  unfold noteSlack
  dsimp only
  split <;> simp [noteScan]

theorem tags_noteSlack (t : Nat) (e : Exec) (s : State) : (noteSlack t e s).img.tags = s.img.tags := by
  unfold noteSlack
  dsimp only
  split <;> rfl

/-- What sending leaves: scan times and tags. -/
structure Sends (s0 s : State) : Prop where
  scan : ∀ j : TaskId, s.ctl.tasks[j].lastScan = s0.ctl.tasks[j].lastScan
  tags : s.img.tags = s0.img.tags

theorem Beside.sends {s0 s : State} (h : Beside s0 s) : Sends s0 s := ⟨fun j => by rw [h.ctl], h.tags⟩

theorem Sends.trans {s t u : State} (h : Sends s t) (k : Sends t u) : Sends s u := ⟨fun j => (k.scan j).trans (h.scan j), k.tags.trans h.tags⟩

/-- The publication of a step notes the scan time and leaves the tags. -/
theorem publishStep_notes (t : Nat) (e : Exec) (s : State) :
    (publishStep t e s).ctl.tasks[e.task].lastScan = t - e.tick ∧ (publishStep t e s).img.tags = s.img.tags := by
  have sent := formObjects_beside (releaseStages_beside (publishNodes_beside (.refl s) e.task (e.tick + e.offset)) e.task (e.tick + e.offset))
    e.task (e.tick + e.offset)
  exact ⟨lastScan_noteSlack .., (tags_noteSlack ..).trans sent.tags⟩

theorem noteFullForm_beside {s0 s : State} (h : Beside s0 s) (r : MirrorRecord) : Beside s0 (noteFullForm r s) := by
  unfold noteFullForm
  exact onTow_beside h _

theorem towSend_beside {s0 s : State} (h : Beside s0 s) (p : TowPayload) : Beside s0 (towSend p s) := by
  unfold towSend
  exact onTow_beside h _

theorem mirrorStep_sends (k : Option TaskId) (tick version : Nat) (digest : W64) (entries : List MirrorEntry) (s : State) :
    Sends s (mirrorStep k tick version digest entries s) := by
  unfold mirrorStep
  extract_lets _ _ _ noted record checked sent recorded retained
  have noted_beside : Beside s sent := noteFullForm_beside (onNet_beside (onImg_beside (onKeeper_beside (.refl s) _) _) _) _
  split
  · have kept : Beside s retained := onTow_beside (towSend_beside noted_beside _) _
    split
    · exact kept.sends.trans ⟨fun j => lastScan_onTask (g := fun x => { x with sendFull := false }) (fun _ => rfl) .., rfl⟩
    · exact kept.sends
  · exact (markMirrored_beside noted_beside _).sends

/-- The step of an execution notes its scan time, and leaves the tags that it neither wrote nor takes as inputs. -/
theorem stepExec_notes {t p : Nat} {e : Exec} {s : State} (hc : s.keeper.changes = []) (hm : s.basin.migration = none)
    (hp : s.basin.poison = []) :
    (stepExec t p e s).ctl.tasks[e.task].lastScan = t - e.tick ∧
      ∀ i, tget i (writtenTags e) = none → (∀ q ∈ inputTags s e.task, q.1 ≠ i) → tget i (stepExec t p e s).img.tags = tget i s.img.tags := by
  have landed := stepLanded_landsBeside (p := p) (e := e) hc hm
  have clean : outputPoisoned (stepLanded p e s) e.task = false := by simp [outputPoisoned, landed.clean hp]
  have noted : Sends (publishStep t e (stepLanded p e s)) (stepExec t p e s) := by
    rw [stepExec_eq_sent clean]
    exact (mirrorStep_sends ..).trans (settleMirror_beside (.refl _)).sends
  have published := publishStep_notes t e (stepLanded p e s)
  refine ⟨(noted.scan _).trans published.1, fun i hw hi => ?_⟩
  rw [noted.tags, published.2]
  exact landed.tags i fun c => c.elim (fun h => h hw) fun ⟨q, hq, e⟩ => hi q hq e

/-! ### The events -/

theorem placeWhere_some {s : State} {f : Exec → Bool} {i : Nat} {e : Exec} (h : placeWhere s f = some i) (he : s.ctl.execs[i]? = some e) :
    f e = true := by
  have := List.find?_some h
  simpa [he] using this

/-- Settles O20: a step's values land under the next epoch, and what it sends leaves epoch, scan time and tags as they are. -/
theorem epochStepTaken : Obligations.EpochStepTaken := by
  refine ⟨fun t p k s e hm ho hc hp he => ?task, fun t s ha hl hw => ?change, fun t k s hm hp => ?idle⟩
  case task =>
    have steps : takesSteps (atTime t s) = true := by simp [takesSteps, handingOver, hm, ho]
    have runs : exec (.epochStep t (some k)) s = .next (if higherDue t k (atTime t s) then atTime t s else stepExec t p e (atTime t s)) := by
      have hc' : committing (atTime t s) = false := hc
      simp [exec, execEpochStep, hm, steps, hc', hp, he]
    have own : e.task = k := by
      have := placeWhere_some hp he
      simp only [Bool.and_eq_true, beq_iff_eq] at this
      exact this.1.1.1
    refine ⟨fun hd => by rw [runs, hd]; rfl, fun hd => ⟨stepExec t p e (atTime t s), by rw [runs, hd]; rfl, epoch_stepExec .., ?_⟩⟩
    intro hch hmi hpo
    obtain ⟨scan, kept⟩ := stepExec_notes (t := t) (p := p) (e := e) (s := atTime t s) hch hmi hpo
    subst own
    exact ⟨scan, fun i tag ht hw hi => (kept i hw hi).trans ht⟩
  case change =>
    have runs : exec (.epochStep t none) s = .next (if stepsAlone (atTime t s) && lanesFree (atTime t s) && changeWaits (atTime t s)
      then stepChange (atTime t s) else atTime t s) := rfl
    have alone : stepsAlone (atTime t s) = true := ha
    have free : lanesFree (atTime t s) = true := hl
    have waits : changeWaits (atTime t s) = true := hw
    exact ⟨stepChange (atTime t s), by rw [runs, alone, free, waits]; rfl, epoch_stepChange _⟩
  case idle => simp [exec, execEpochStep, hm, hp]


end Sys2Proof.Machine
end

section
/-! What take-overs and hand-overs act on: state, claims, cause of the last switch, epochs and the streams of a hand-over; and what each
operation on the way does to them (R149, R155, R159, R164). -/

namespace Sys2Proof.Machine
open Sys2Proof

/-- The part of a module's state that its role rests on. -/
structure RolePart where
  state : ModState
  claim : Nat
  highest : Nat
  lastCause : SwitchCause
  cold : Option (SwitchCause × Bool × Nat)
  epoch : Nat
  mirrored : Nat
  seen : Option Handover
  sent : Option (Nat × SwitchCause)
  switch : Option Switch

def rolePart (s : State) : RolePart :=
  { state := s.mod.state, claim := s.pair.claim, highest := s.pair.highestClaim, lastCause := s.pair.lastCause, cold := s.pair.cold,
    epoch := s.img.epoch, mirrored := s.img.mirrored, seen := s.tow.handoverSeen, sent := s.tow.handoverSent, switch := s.tow.switch }

/-! ### Operations beside the role -/

@[simp] theorem rolePart_onKeeper (g : Keeper → Keeper) (s : State) : rolePart (onKeeper g s) = rolePart s := rfl
@[simp] theorem rolePart_onField (g : FieldZone → FieldZone) (s : State) : rolePart (onField g s) = rolePart s := rfl
@[simp] theorem rolePart_onNet (g : Net → Net) (s : State) : rolePart (onNet g s) = rolePart s := rfl
@[simp] theorem rolePart_onSw (g : Switching → Switching) (s : State) : rolePart (onSw g s) = rolePart s := rfl
@[simp] theorem rolePart_onPort (p : Fin 3) (g : Port → Port) (s : State) : rolePart (onPort p g s) = rolePart s := rfl
@[simp] theorem rolePart_onCtl (g : Control → Control) (s : State) : rolePart (onCtl g s) = rolePart s := rfl
@[simp] theorem rolePart_onExecs (g : List Exec → List Exec) (s : State) : rolePart (onExecs g s) = rolePart s := rfl
@[simp] theorem rolePart_onSettings (g : Settings → Settings) (s : State) : rolePart (onSettings g s) = rolePart s := rfl
@[simp] theorem rolePart_onCan (c : Fin 2) (g : Can → Can) (s : State) : rolePart (onCan c g s) = rolePart s := rfl
@[simp] theorem rolePart_onDio (c : Fin 16) (g : Dio → Dio) (s : State) : rolePart (onDio c g s) = rolePart s := rfl
@[simp] theorem rolePart_onAio (c : Fin 8) (g : Aio → Aio) (s : State) : rolePart (onAio c g s) = rolePart s := rfl
@[simp] theorem rolePart_onFo (c : Fin 4) (g : Fo → Fo) (s : State) : rolePart (onFo c g s) = rolePart s := rfl
@[simp] theorem rolePart_stage (code source : Nat) (data : List Byte) (s : State) : rolePart (stage code source data s) = rolePart s := rfl
@[simp] theorem rolePart_raiseInt (n : Nat) (s : State) : rolePart (raiseInt n s) = rolePart s := rfl
@[simp] theorem rolePart_atTime (t : Nat) (s : State) : rolePart (atTime t s) = rolePart s := rfl
@[simp] theorem rolePart_towSend (p : TowPayload) (s : State) : rolePart (towSend p s) = rolePart s := rfl

/-- A change of the tow line that keeps the streams of a hand-over. -/
theorem rolePart_onTow {g : Tow → Tow} (s : State)
    (hg : ∀ t, (g t).handoverSeen = t.handoverSeen ∧ (g t).handoverSent = t.handoverSent ∧ (g t).switch = t.switch := by
      exact fun _ => ⟨rfl, rfl, rfl⟩) : rolePart (onTow g s) = rolePart s := by
  obtain ⟨seen, sent, switch⟩ := hg s.tow
  simp only [rolePart, onTow_mod, onTow_pair, onTow_img, onTow_tow, seen, sent, switch]

/-- A change of the pair that keeps claims, cause and a cold take-over. -/
theorem rolePart_onPair {g : Pair → Pair} (s : State)
    (hg : ∀ p, (g p).claim = p.claim ∧ (g p).highestClaim = p.highestClaim ∧ (g p).lastCause = p.lastCause ∧ (g p).cold = p.cold := by
      exact fun _ => ⟨rfl, rfl, rfl, rfl⟩) : rolePart (onPair g s) = rolePart s := by
  obtain ⟨claim, highest, cause, cold⟩ := hg s.pair
  simp only [rolePart, onPair_mod, onPair_pair, onPair_img, onPair_tow, claim, highest, cause, cold]

theorem KeeperWork.rolePart_eq {s t : State} (h : KeeperWork s t) : rolePart t = rolePart s := by
  rw [h]
  rfl

@[simp] theorem rolePart_jmod (id : Nat) (g : JnlEntry → JnlEntry) (s : State) : rolePart (jmod id g s) = rolePart s :=
  (keeperWork_jmod ..).rolePart_eq

@[simp] theorem rolePart_jend (id : Nat) (st : JnlState) (status : Nat) (s : State) : rolePart (jend id st status s) = rolePart s :=
  (keeperWork_jend ..).rolePart_eq

theorem rolePart_foldl {α : Type} {f : State → α → State} (hf : ∀ s a, rolePart (f s a) = rolePart s) (xs : List α) (s : State) :
    rolePart (xs.foldl f s) = rolePart s := by
  induction xs generalizing s with
  | nil => rfl
  | cons x xs ih => exact (ih _).trans (hf ..)

theorem rolePart_ite {c : Prop} [Decidable c] {s t : State} : rolePart (if c then s else t) = if c then rolePart s else rolePart t := by
  split <;> rfl

/-! ### The journal's roll-back, and the field zone -/

@[simp] theorem rolePart_revertCommit (c : Commit) (s : State) : rolePart (revertCommit c s) = rolePart s := by
  unfold revertCommit
  split <;> rfl

@[simp] theorem rolePart_failureReport (id reason : Nat) (s : State) : rolePart (failureReport id reason s) = rolePart s := by
  unfold failureReport
  split
  · rfl
  · exact rolePart_jmod ..

@[simp] theorem rolePart_rollBack (s : State) : rolePart (rollBack s) = rolePart s := by
  unfold rollBack
  extract_lets gone reported lost reverted settled stopped
  have ended : rolePart stopped = rolePart s := calc
    rolePart stopped = rolePart reverted := rfl
    _ = rolePart reported := rolePart_foldl (fun _ _ => rolePart_revertCommit ..) ..
    _ = rolePart s := rolePart_foldl (fun u x => by split <;> simp) ..
  exact (rolePart_foldl (fun _ _ => rolePart_jend ..) ..).trans ended

@[simp] theorem rolePart_settleDio (c : Fin 16) (s : State) : rolePart (settleDio c s) = rolePart s := rfl
@[simp] theorem rolePart_driveAio (c : Fin 8) (v : Option W64) (s : State) : rolePart (driveAio c v s) = rolePart s := rfl
@[simp] theorem rolePart_openAio (c : Fin 8) (s : State) : rolePart (openAio c s) = rolePart s := rfl
@[simp] theorem rolePart_safeFo (n : Fin 4) (s : State) : rolePart (safeFo n s) = rolePart s := rfl

@[simp] theorem rolePart_safeAio (c : Fin 8) (s : State) : rolePart (safeAio c s) = rolePart s := by
  unfold safeAio
  split
  · rfl
  · split <;> rfl

@[simp] theorem rolePart_endTrims (s : State) : rolePart (endTrims s) = rolePart s :=
  rolePart_foldl (fun u x => by simp [endTrim]) ..

@[simp] theorem rolePart_withdrawCan (ch : Fin 2) (s : State) : rolePart (withdrawCan ch s) = rolePart s := by
  unfold withdrawCan
  split
  · exact (rolePart_foldl (fun u b => by simp [endBatch]) ..).trans (rolePart_onCan ..)
  · rfl

@[simp] theorem rolePart_yieldStages (instants : List (TaskId × Nat)) (s : State) : rolePart (yieldStages instants s) = rolePart s := by
  have dio : rolePart (eachDio yieldDio s) = rolePart s :=
    rolePart_foldl (fun u c => by unfold yieldDio; split <;> rfl) ..
  have aio (u : State) : rolePart (eachAio (yieldAio instants) u) = rolePart u := by
    refine rolePart_foldl (fun v c => ?_) ..
    unfold yieldAio
    split
    · rfl
    · dsimp only
      split
      · split <;> rfl
      · exact rolePart_safeAio ..
  have fo (u : State) : rolePart (each4 yieldFo u) = rolePart u :=
    rolePart_foldl (fun u c => by unfold yieldFo; split <;> rfl) ..
  simp [yieldStages, dio, aio, fo]

@[simp] theorem rolePart_preloadDio (c : Fin 16) (s : State) : rolePart (preloadDio c s) = rolePart s := by
  unfold preloadDio applyDio
  dsimp only
  split
  · split
    · rfl
    · split <;> rfl
  · rfl

@[simp] theorem rolePart_preloadAio (c : Fin 8) (s : State) : rolePart (preloadAio c s) = rolePart s := by
  unfold preloadAio applyAio
  dsimp only
  split
  · split
    · rfl
    · split
      · rfl
      · split <;> rfl
  · rfl

@[simp] theorem rolePart_preloadFo (n : Fin 4) (s : State) : rolePart (preloadFo n s) = rolePart s := by
  unfold preloadFo applyFo
  dsimp only
  split
  · split
    · rfl
    · split <;> rfl
  · rfl

@[simp] theorem rolePart_preloadStages (afterMiss : Bool) (notBefore : Nat) (s : State) :
    rolePart (preloadStages afterMiss notBefore s) = rolePart s := by
  have dio (u : State) : rolePart (eachDio preloadDio u) = rolePart u := rolePart_foldl (fun _ _ => rolePart_preloadDio ..) ..
  have aio (u : State) : rolePart (eachAio preloadAio u) = rolePart u := rolePart_foldl (fun _ _ => rolePart_preloadAio ..) ..
  have fo (u : State) : rolePart (each4 preloadFo u) = rolePart u := rolePart_foldl (fun _ _ => rolePart_preloadFo ..) ..
  simp [preloadStages, dio, aio, fo]

/-! ### Claim barges -/

@[simp] theorem rolePart_autoSchedule (n : Nat) (s : State) : rolePart (autoSchedule n s) = rolePart s := by
  unfold autoSchedule
  split
  · split <;> exact rolePart_onNet _ s
  · rfl

theorem rolePart_engineTake (s : State) : rolePart (engineTake s) = rolePart s := rolePart_onNet _ s

theorem rolePart_queueOn (held : Option (TaskId × Nat)) (k : BargeKind) (dst : Nat) (bytes : List Byte) (s : State) :
    rolePart (queueOn held k dst bytes s) = rolePart s :=
  (rolePart_onPort ..).trans ((rolePart_onPort ..).trans (rolePart_engineTake s))

theorem rolePart_sendBroadcast (k : BargeKind) (claim release : Nat) (s : State) : rolePart (sendBroadcast k claim release s) = rolePart s :=
  (rolePart_autoSchedule ..).trans ((rolePart_queueOn ..).trans (rolePart_onNet ..))

@[simp] theorem rolePart_sendClaimBroadcast (s : State) : rolePart (sendClaimBroadcast s) = rolePart s :=
  (rolePart_onNet ..).trans (rolePart_sendBroadcast ..)

/-! ### Operations on the role -/

@[simp] theorem rolePart_pairChanged (g : Pair → Pair) (s : State) : rolePart (pairChanged g s) = rolePart (onPair g s) := by
  unfold pairChanged watchPair
  split <;> rfl

@[simp] theorem rolePart_setPower (p : PowerState) (cause : Nat) (s : State) : rolePart (setPower p cause s) = rolePart s := by
  unfold setPower
  split <;> rfl

/-- A change of the module state changes nothing else of the role. -/
@[simp] theorem rolePart_enterState (new : ModState) (cause : SwitchCause) (s : State) :
    rolePart (enterState new cause s) = { rolePart s with state := new } := by
  unfold enterState
  extract_lets old entered noted powered zeroed
  split
  · next same =>
    have kept : rolePart s = { rolePart s with state := s.mod.state } := rfl
    rw [← same]
    exact kept
  · have changed : rolePart entered = { rolePart s with state := new } := rfl
    have noted_eq : rolePart noted = rolePart entered := by
      unfold noted
      split <;> simp
    have powered_eq : rolePart powered = rolePart noted := by
      unfold powered
      split <;> simp
    have zeroed_eq : rolePart zeroed = rolePart powered := by
      unfold zeroed
      split
      · simp [restartZeroStatus]
      · rfl
    rw [rolePart_endTrims, zeroed_eq, powered_eq, noted_eq, changed]

@[simp] theorem rolePart_noteClaim (c : Nat) (s : State) : rolePart (noteClaim c s) = { rolePart s with highest := max s.pair.highestClaim c } := rfl

@[simp] theorem rolePart_dropClaim (s : State) : rolePart (dropClaim s) = { rolePart s with claim := 0 } := rfl

@[simp] theorem rolePart_stopTasks (s : State) : rolePart (stopTasks s) = rolePart s := rfl

@[simp] theorem rolePart_failProof (p : Proof) (check : Nat) (s : State) : rolePart (failProof p check s) = rolePart s := by
  unfold failProof
  exact ((rolePart_pairChanged ..).trans (rolePart_onPair _)).trans ((rolePart_onTow _).trans ((rolePart_jend ..).trans (rolePart_jmod ..)))

/-- Taking the active's role: a new claim above every claim seen. -/
theorem rolePart_enterActive (cause : SwitchCause) (afterMiss : Bool) (notBefore : Nat) (s : State) :
    rolePart (enterActive cause afterMiss notBefore s) =
      { rolePart s with state := .active, claim := s.pair.highestClaim + 1, highest := s.pair.highestClaim + 1, lastCause := cause, cold := none } := by
  unfold enterActive
  simp only [rolePart_preloadStages, rolePart_sendClaimBroadcast, rolePart_enterState, rolePart_pairChanged]
  rfl

/-! ### Take-overs -/

@[simp] theorem rolePart_recordLost (first last : Nat) (s : State) : rolePart (recordLost first last s) = rolePart s := by
  unfold recordLost
  split
  · rfl
  · unfold onImg rolePart
    dsimp only
    split <;> rfl

@[simp] theorem rolePart_recordGap (former : Nat) (s : State) : rolePart (recordGap former s) = rolePart s := by
  unfold recordGap
  exact rolePart_recordLost ..

@[simp] theorem rolePart_proofAfterTakeOver (cause : SwitchCause) (s : State) : rolePart (proofAfterTakeOver cause s) = rolePart s := by
  unfold proofAfterTakeOver
  dsimp only
  split
  · split
    · exact rolePart_onTow _
    · split
      · exact rolePart_onTow _
      · split
        · exact (rolePart_jmod ..).trans (rolePart_onTow _)
        · exact ((rolePart_pairChanged ..).trans (rolePart_onPair _)).trans (rolePart_failProof ..)
  · split
    · exact rolePart_onTow _
    · rfl

@[simp] theorem rolePart_adoptExecs (s : State) : rolePart (adoptExecs s) = rolePart s := rfl

@[simp] theorem mirrored_adoptExecs (s : State) : (adoptExecs s).img.mirrored = s.img.mirrored := rfl

theorem rolePart_resumeMirrored (s : State) :
    rolePart (onImg (fun im => { im with epoch := im.mirrored, forcesSent := im.forces }) s) = { rolePart s with epoch := s.img.mirrored } := rfl

/-- A take-over with a claim left: the module is `ACTIVE` under a claim above all, and goes on from the mirrored epoch. -/
theorem rolePart_takeOverNow {s : State} (hc : s.pair.highestClaim < 0xFFFFFFFF) (cause : SwitchCause) (afterMiss : Bool) (notBefore : Nat) :
    rolePart (takeOverNow cause afterMiss notBefore s) =
      { rolePart s with state := .active, claim := s.pair.highestClaim + 1, highest := s.pair.highestClaim + 1, lastCause := cause,
                        cold := none, epoch := s.img.mirrored } := by
  unfold takeOverNow
  extract_lets seen _ former adopted active alone skipped sent
  have seen_eq : rolePart seen = { rolePart s with cold := none } := rolePart_pairChanged ..
  have highest : seen.pair.highestClaim = s.pair.highestClaim := congrArg RolePart.highest seen_eq
  have mirrored : seen.img.mirrored = s.img.mirrored := congrArg RolePart.mirrored seen_eq
  have exhausted : claimExhausted seen = false := by simp [claimExhausted, highest, hc]
  have adopted_eq : rolePart adopted = { rolePart s with cold := none, epoch := s.img.mirrored } :=
    (rolePart_resumeMirrored (adoptExecs seen)).trans (by rw [rolePart_adoptExecs, mirrored_adoptExecs, seen_eq, mirrored])
  have adopted_highest : adopted.pair.highestClaim = s.pair.highestClaim := congrArg RolePart.highest adopted_eq
  have sent_eq : rolePart sent = rolePart active := calc
    rolePart sent = rolePart skipped := rolePart_onTow _
    _ = rolePart (recordGap former alone) := rolePart_onKeeper ..
    _ = rolePart alone := rolePart_recordGap ..
    _ = rolePart active := rolePart_onPair _
  rw [exhausted, if_neg Bool.false_ne_true, rolePart_proofAfterTakeOver, rolePart_rollBack, sent_eq]
  rw [show active = enterActive cause afterMiss notBefore adopted from rfl, rolePart_enterActive, adopted_eq, adopted_highest]

/-- A take-over by a module that decides and is awake. -/
theorem rolePart_takeOver {s : State} (hd : keeperDecides s = true) (hn : s.mod.power ≠ .nap) (hc : s.pair.highestClaim < 0xFFFFFFFF)
    (cause : SwitchCause) (afterMiss : Bool) (notBefore : Nat) :
    rolePart (takeOver cause afterMiss notBefore s) =
      { rolePart s with state := .active, claim := s.pair.highestClaim + 1, highest := s.pair.highestClaim + 1, lastCause := cause,
                        cold := none, epoch := s.img.mirrored } := by
  unfold takeOver
  rw [if_neg (by simp [hd]), if_neg hn]
  exact rolePart_takeOverNow hc ..

/-- The answer to a HANDOVER by a module that is `ACTIVE` ends the waiting HANDOVER. -/
theorem rolePart_answerHandover {s : State} (ha : s.mod.state = .active) (instants : List (TaskId × Nat)) :
    rolePart (answerHandover instants s) = { rolePart s with seen := none } := by
  unfold answerHandover
  rw [ha]
  split
  · next hs => simp [rolePart, hs]
  · rfl
  · next hne => exact absurd rfl (hne ·)

/-! ### A HANDOVER that a standby takes -/

theorem acceptTow_of_nextFrame {fr : TowHdr} {s : State} (h : NextFrame fr s) (asks : Bool) :
    acceptTow fr asks s = (some (onTow (fun w => { w with seqIn := fr.sequence }) s), onTow (fun w => { w with seqIn := fr.sequence }) s) := by
  obtain ⟨up, -, crc, owner, paired, sequence⟩ := h
  simp [acceptTow, up, crc, owner, pairedNow, paired, sequence]

theorem withFrame_of_nextFrame {fr : TowHdr} {s : State} (h : NextFrame fr s) (asks : Bool) (g : State → State) :
    withFrame fr asks g s = g (onTow (fun w => { w with seqIn := fr.sequence }) s) := by
  obtain ⟨-, last, -⟩ := id h
  simp [withFrame, acceptTow_of_nextFrame h, last]

theorem applyWaiting_of_none {s : State} (h : s.tow.records = []) : applyWaiting s = s := by
  simp [applyWaiting, h, settleRecords]

/-- A standby with no record waiting takes a HANDOVER of the epoch that it has, and answers it. -/
theorem standbyStep_takes {h : Handover} {s : State} (hs : s.mod.state = .standby) (hr : s.tow.records = []) (hh : s.tow.handoverSeen = some h)
    (he : h.lastCompleted ≤ s.img.epoch) (hd : keeperDecides s = true) (hcold : s.pair.cold = none) : standbyStep s = finishHandover h s := by
  simp [standbyStep, applyWaiting_of_none hr, hh, hs, handoverReady, he, hd, hcold]

theorem rolePart_finishHandover {h : Handover} {s : State} (hd : keeperDecides s = true) (hn : s.mod.power ≠ .nap)
    (hc : s.pair.highestClaim < 0xFFFFFFFF) :
    rolePart (finishHandover h s) =
      { rolePart s with state := .active, claim := s.pair.highestClaim + 1, highest := s.pair.highestClaim + 1, lastCause := h.cause,
                        cold := none, epoch := s.img.mirrored, seen := none } := by
  have taken := rolePart_takeOver hd hn hc h.cause h.safeSent 0
  unfold finishHandover
  dsimp only
  rw [rolePart_answerHandover (congrArg RolePart.state taken), taken]

/-- The step of a proof that the HANDOVER shows. -/
def noteProofStep (h : Handover) (s : State) : State :=
  match s.tow.proof with
  | some p => if p.origin && h.cause == .proof && p.step == 3 then jmod p.journal (fun e => { e with step := 4 }) s else s
  | none => s

theorem takeHandover_of_standby {h : Handover} {s : State} (hs : s.mod.state = .standby) :
    takeHandover h s = standbyStep (noteHandover h (noteProofStep h s)) := by
  unfold takeHandover
  rw [if_neg (by simp [hs])]
  rfl

theorem running_jmod (id : Nat) (g : JnlEntry → JnlEntry) (s : State) : (jmod id g s).keeper.running = s.keeper.running := by
  unfold jmod noteUnsent
  split
  · rfl
  · dsimp only
    split
    · split <;> rfl
    · split <;> rfl

/-- Noting the step of a proof changes the journal at most. -/
theorem noteProofStep_keeps (h : Handover) (s : State) :
    let u := noteProofStep h s
    rolePart u = rolePart s ∧ u.mod = s.mod ∧ u.tow = s.tow ∧ keeperDecides u = keeperDecides s := by
  have noted (id : Nat) (g : JnlEntry → JnlEntry) :
      rolePart (jmod id g s) = rolePart s ∧ (jmod id g s).mod = s.mod ∧ (jmod id g s).tow = s.tow ∧ keeperDecides (jmod id g s) = keeperDecides s := by
    have work := keeperWork_jmod id g s
    refine ⟨rolePart_jmod .., work.mod_eq, by rw [work], ?_⟩
    rw [keeperDecides, running_jmod, work]
    rfl
  dsimp only
  unfold noteProofStep
  split
  · split
    · exact noted ..
    · exact ⟨rfl, rfl, rfl, rfl⟩
  · exact ⟨rfl, rfl, rfl, rfl⟩

theorem rolePart_noteHandover (h : Handover) (s : State) :
    rolePart (noteHandover h s) = { rolePart s with highest := max s.pair.highestClaim h.claim, seen := some h } := rfl

/-- A standby that a HANDOVER reaches takes over, where its Keeper decides, it is awake and a claim is left. -/
theorem rolePart_takeHandover {h : Handover} {s : State} (hs : s.mod.state = .standby) (hr : s.tow.records = [])
    (he : h.lastCompleted ≤ s.img.epoch) (hcold : s.pair.cold = none) (rise : CanRise h.claim s) :
    rolePart (takeHandover h s) =
      { rolePart s with state := .active, claim := max s.pair.highestClaim h.claim + 1, highest := max s.pair.highestClaim h.claim + 1,
                        lastCause := h.cause, cold := none, epoch := s.img.mirrored, seen := none } := by
  obtain ⟨decides, awake, left⟩ := rise
  obtain ⟨role, mod, tow, same⟩ := noteProofStep_keeps h s
  rw [takeHandover_of_standby hs]
  generalize noteProofStep h s = u at *
  have noted := rolePart_noteHandover h u
  have highest : (noteHandover h u).pair.highestClaim = max s.pair.highestClaim h.claim := by
    rw [show (noteHandover h u).pair.highestClaim = max u.pair.highestClaim h.claim from rfl]
    exact congrArg (fun r : RolePart => max r.highest h.claim) role
  have mirrored : (noteHandover h u).img.mirrored = s.img.mirrored := congrArg RolePart.mirrored role
  have epoch : u.img.epoch = s.img.epoch := congrArg RolePart.epoch role
  have cold : u.pair.cold = none := (congrArg RolePart.cold role).trans hcold
  rw [standbyStep_takes (h := h) (s := noteHandover h u), rolePart_finishHandover, noted, role, highest, mirrored]
  · exact same.trans decides
  · rw [show (noteHandover h u).mod = u.mod from rfl, mod]
    exact awake
  · rw [highest]
    exact left
  · rw [show (noteHandover h u).mod = u.mod from rfl, mod]
    exact hs
  · rw [show (noteHandover h u).tow.records = u.tow.records from rfl, tow]
    exact hr
  · rfl
  · exact epoch ▸ he
  · exact same.trans decides
  · exact cold

/-! ### The end of the former active's role -/

/-- Epochs that count as mirrored change nothing else of the role. -/
theorem rolePart_markMirrored (n : Nat) (s : State) : ∃ m, rolePart (markMirrored n s) = { rolePart s with mirrored := m } := by
  unfold markMirrored
  split
  · exact ⟨s.img.mirrored, rfl⟩
  · refine ⟨n, (rolePart_foldl (fun u x => ?_) _ _).trans ((rolePart_onSettings _ _).trans rfl)⟩
    split
    · exact rolePart_jmod ..
    · exact (rolePart_jend ..).trans (rolePart_jmod ..)

theorem settleSwitch_of_none {s : State} (h : s.tow.switch = none) : settleSwitch s = s := by
  simp [settleSwitch, h]

theorem endSwitch_of_none {s : State} (h : s.tow.switch = none) (status : Nat) (cause : SwitchCause) : endSwitch status cause s = s := by
  simp [endSwitch, h]

/-- The state that a former active goes to (R162, R175). -/
def afterRole : SwitchCause → ModState
  | .planned | .proof => .standby
  | .release => .maintenance
  | _ => .stoppedFault

theorem rolePart_setCause (c : SwitchCause) (s : State) :
    rolePart (onPair (fun p => { p with lastCause := c }) s) = { rolePart s with lastCause := c } := rfl

theorem rolePart_afterHandover {s : State} {t0 : Nat} {c : SwitchCause} (hs : s.tow.handoverSent = some (t0, c)) (newClaim : Nat)
    (instants : List (TaskId × Nat)) :
    rolePart (afterHandover newClaim instants s) =
      { rolePart s with state := afterRole c, claim := 0, highest := max s.pair.highestClaim newClaim, lastCause := c, sent := none } := by
  unfold afterHandover
  rw [hs]
  dsimp -zeta only
  extract_lets cleared yielded noted next ended
  have next_eq : next = afterRole c := by
    cases c <;> rfl
  have cleared_eq : rolePart cleared = { rolePart s with sent := none } := rfl
  have cleared_highest : cleared.pair.highestClaim = s.pair.highestClaim := rfl
  have yielded_eq : rolePart yielded = { rolePart s with sent := none, highest := max s.pair.highestClaim newClaim } := by
    rw [show rolePart yielded = rolePart (noteClaim newClaim cleared) from rolePart_yieldStages .., rolePart_noteClaim, cleared_eq, cleared_highest]
  have noted_eq : rolePart noted = { rolePart yielded with lastCause := c } :=
    (rolePart_pairChanged ..).trans (rolePart_setCause c yielded)
  have ended_eq : rolePart ended =
      { rolePart s with state := afterRole c, claim := 0, highest := max s.pair.highestClaim newClaim, lastCause := c, sent := none } := by
    rw [show rolePart ended = _ from rolePart_enterState .., rolePart_dropClaim, rolePart_rollBack, noted_eq, yielded_eq, next_eq]
  split
  · exact ended_eq
  · exact (rolePart_stopTasks _).trans ended_eq

/-! ### The events -/

/-- The answer to a HANDOVER that was sent. -/
theorem rolePart_takeAck {s : State} {t0 : Nat} {c : SwitchCause} (hs : s.tow.handoverSent = some (t0, c)) (hw : s.tow.switch = none)
    (a : HandoverAck) : ∃ m, rolePart (takeAck a s) =
      { rolePart s with state := afterRole c, claim := 0, highest := max s.pair.highestClaim a.newClaim, lastCause := c, sent := none,
                        mirrored := m } := by
  obtain ⟨m, marked⟩ := rolePart_markMirrored a.appliedEpoch s
  have sent : (markMirrored a.appliedEpoch s).tow.handoverSent = some (t0, c) := (congrArg RolePart.sent marked).trans hs
  have highest : (markMirrored a.appliedEpoch s).pair.highestClaim = s.pair.highestClaim := congrArg RolePart.highest marked
  have after := rolePart_afterHandover sent a.newClaim a.instants
  have settled := settleSwitch_of_none ((congrArg RolePart.switch (after.trans (by rw [marked]))).trans hw)
  refine ⟨m, ?_⟩
  unfold takeAck
  rw [if_pos (by simp [handingOver, hs]), settled, after, marked, highest]

theorem rolePart_endProof (s : State) : rolePart (endProof s) = rolePart s := by
  unfold endProof
  split
  · split
    · exact rolePart_failProof ..
    · exact rolePart_onTow _
  · rfl

theorem rolePart_haltExecs (s : State) : rolePart (haltExecs s) = rolePart s := rfl

/-- With no switch under way a module that stops faulted changes nothing of the role but its state. -/
theorem rolePart_stopFaulted {s : State} (hw : s.tow.switch = none) : rolePart (stopFaulted s) = { rolePart s with state := .stoppedFault } := by
  unfold stopFaulted
  rw [endSwitch_of_none (show (stopTasks (haltExecs s)).tow.switch = none from hw)]
  rw [rolePart_enterState, rolePart_endProof, rolePart_stopTasks, rolePart_haltExecs]

/-! ### Changes of the module state leave control as it is -/

section
variable {s0 s : State} (h : Beside s0 s)
include h

theorem onMod_beside (g : Mod → Mod) : Beside s0 (onMod g s) := ⟨h.tags, h.ctl, h.basin⟩
theorem onPair_beside (g : Pair → Pair) : Beside s0 (onPair g s) := ⟨h.tags, h.ctl, h.basin⟩
theorem onAio_beside (c : Fin 8) (g : Aio → Aio) : Beside s0 (onAio c g s) := ⟨h.tags, h.ctl, h.basin⟩

theorem jend_beside (id : Nat) (st : JnlState) (status : Nat) : Beside s0 (jend id st status s) := KeeperWork.beside h (keeperWork_jend ..)
theorem jmod_beside (id : Nat) (g : JnlEntry → JnlEntry) : Beside s0 (jmod id g s) := KeeperWork.beside h (keeperWork_jmod ..)

theorem safeAio_beside (c : Fin 8) : Beside s0 (safeAio c s) := by
  unfold safeAio
  split
  · exact h
  · split <;> exact onAio_beside (onAio_beside h _ _) _ _

theorem endTrims_beside : Beside s0 (endTrims s) := by
  unfold endTrims
  exact foldl_beside h (fun _ _ hu => safeAio_beside (jend_beside (jmod_beside (onField_beside hu _) ..) ..) _) _

theorem setPower_beside (p : PowerState) (cause : Nat) : Beside s0 (setPower p cause s) := by
  unfold setPower
  split
  · exact h
  · exact stage_beside (onMod_beside h _) ..

theorem pairChanged_beside (g : Pair → Pair) : Beside s0 (pairChanged g s) := by
  unfold pairChanged watchPair
  split
  · exact onPair_beside h _
  · exact onKeeper_beside (onPair_beside h _) _

theorem enterState_beside (new : ModState) (cause : SwitchCause) : Beside s0 (enterState new cause s) := by
  unfold enterState
  extract_lets old entered noted powered zeroed
  have entered_beside : Beside s0 entered := onKeeper_beside (onMod_beside h _) _
  have noted_beside : Beside s0 noted := (stage_beside entered_beside ..).ite entered_beside
  have powered_beside : Beside s0 powered := (setPower_beside noted_beside ..).ite noted_beside
  have zeroed_beside : Beside s0 zeroed := Beside.ite (onNet_beside powered_beside _) powered_beside
  split
  · exact h
  · exact endTrims_beside zeroed_beside

theorem endProof_beside : Beside s0 (endProof s) := by
  unfold endProof
  split
  · split
    · exact pairChanged_beside (onTow_beside (jend_beside (jmod_beside h ..) ..) _) _
    · exact onTow_beside h _
  · exact h

end

theorem execs_stopFaulted {s : State} (hw : s.tow.switch = none) : (stopFaulted s).ctl.execs = [] := by
  unfold stopFaulted
  rw [endSwitch_of_none (show (stopTasks (haltExecs s)).tow.switch = none from hw)]
  rw [(enterState_beside (endProof_beside (.refl (stopTasks (haltExecs s)))) ..).ctl]
  rfl

/-! ### The events -/

theorem nextFrame_atTime {fr : TowHdr} {s : State} (h : NextFrame fr s) (t : Nat) : NextFrame fr (atTime t s) := h

theorem not_behindGap {fr : TowHdr} {s : State} (h : NextFrame fr s) : behindGap fr s = false := by
  obtain ⟨-, -, -, -, -, sequence⟩ := h
  simp [behindGap, sequence]

theorem exec_handoverReceive {t : Nat} {fr : TowHdr} {h : Handover} {s : State} (hf : NextFrame fr s) :
    exec (.handoverReceive t fr h) s = .next (takeHandover h (onTow (fun w => { w with seqIn := fr.sequence }) (atTime t s))) := by
  have hf' := nextFrame_atTime hf t
  simp only [exec, execHandoverReceive, not_behindGap hf', Bool.false_and, if_neg Bool.false_ne_true, withFrame_of_nextFrame hf']

theorem exec_handoverAckReceive {t : Nat} {fr : TowHdr} {a : HandoverAck} {s : State} (hf : NextFrame fr s) :
    exec (.handoverAckReceive t fr a) s = .next (takeAck a (onTow (fun w => { w with seqIn := fr.sequence }) (atTime t s))) := by
  simp only [exec, execHandoverAckReceive, withFrame_of_nextFrame (nextFrame_atTime hf t)]

/-- What a role part says of a module that has taken over. -/
theorem raised_of_rolePart {c : Nat} {s s' : State} (h : (rolePart s').state = .active)
    (hc : (rolePart s').claim = max s.pair.highestClaim c + 1) (hh : (rolePart s').highest = max s.pair.highestClaim c + 1) : Raised c s s' :=
  ⟨h, hc, hh.trans hc.symm⟩

/-- Settles O26: what take-overs and hand-overs do to the role is computed operation by operation in `rolePart`. -/
theorem takeOvers : Obligations.TakeOvers := by
  refine ⟨fun t fr s hs => ⟨fun h hf rise hr he hcold => ?handover, fun rise hw ht => ?window, fun c m nb hcold rise => ?cold, fun hd hw => ?undecided⟩,
    fun t t0 fr a c s hsent hswitch => ⟨fun hf => ?ack, fun ht => ?timeout, fun ht => ?early⟩⟩
  case handover =>
    let u := onTow (fun w => { w with seqIn := fr.sequence }) (atTime t s)
    have taken := rolePart_takeHandover (h := h) (s := u) hs hr he hcold rise
    exact ⟨_, exec_handoverReceive hf, raised_of_rolePart (congrArg RolePart.state taken) (congrArg RolePart.claim taken) (congrArg RolePart.highest taken),
      congrArg RolePart.epoch taken, congrArg RolePart.lastCause taken, congrArg RolePart.seen taken⟩
  case window =>
    obtain ⟨decides, awake, left⟩ := rise
    have taken := rolePart_takeOver (s := atTime t s) decides awake (by simpa using left) .towSilence false (makeInstant (atTime t s))
    refine ⟨takeOver .towSilence false (makeInstant (atTime t s)) (atTime t s), by simp [exec, execCheckWindowExpiry, hs, hw, ht], ?_⟩
    exact ⟨raised_of_rolePart (congrArg RolePart.state taken) (by simpa using congrArg RolePart.claim taken) (by simpa using congrArg RolePart.highest taken),
      congrArg RolePart.epoch taken, congrArg RolePart.lastCause taken⟩
  case cold =>
    obtain ⟨-, -, left⟩ := rise
    have taken := rolePart_takeOverNow (s := atTime t s) (by simpa using left) c m nb
    have answered := (rolePart_answerHandover (congrArg RolePart.state taken) (handoverInstants (atTime t s))).trans (by rw [taken])
    refine ⟨answerHandover (handoverInstants (atTime t s)) (takeOverNow c m nb (atTime t s)), by simp [exec, execColdTakeoverReady, hs, hcold], ?_⟩
    exact ⟨raised_of_rolePart (congrArg RolePart.state answered) (by simpa using congrArg RolePart.claim answered)
      (by simpa using congrArg RolePart.highest answered), congrArg RolePart.epoch answered, congrArg RolePart.cold answered⟩
  case undecided =>
    have stays : takeOver .towSilence false (makeInstant (atTime t s)) (atTime t s) = atTime t s := if_pos hd
    refine ⟨atTime t s, ?_, rfl, rfl⟩
    simp [exec, execCheckWindowExpiry, stays]
  case ack =>
    obtain ⟨m, taken⟩ := rolePart_takeAck (s := onTow (fun w => { w with seqIn := fr.sequence }) (atTime t s)) hsent hswitch a
    refine ⟨_, exec_handoverAckReceive hf, congrArg RolePart.sent taken, congrArg RolePart.claim taken, congrArg RolePart.highest taken,
      (congrArg RolePart.state taken).trans ?_⟩
    cases c <;> rfl
  case timeout =>
    let u := dropOwnBarges (onTow (fun w => { w with handoverSent := none, serving := false }) (atTime t s))
    have switch : u.tow.switch = none := hswitch
    have stopped := rolePart_stopFaulted switch
    have runs : exec (.handoverAckTimeout t) s = .next (stopFaulted u) := by
      have unswitched := endSwitch_of_none (s := onTow (fun w => { w with handoverSent := none, serving := false }) (atTime t s)) hswitch
      simp only [exec, execHandoverAckTimeout, atTime_tow, hsent, if_neg (Nat.not_lt.2 ht), unswitched]
      rfl
    exact ⟨_, runs, congrArg RolePart.sent stopped, congrArg RolePart.state stopped, execs_stopFaulted switch, congrArg RolePart.claim stopped⟩
  case early => simp [exec, execHandoverAckTimeout, hsent, ht]

end Sys2Proof.Machine
end

section
/-! Requests that only read: what they answer is computed from the state as the request finds it (R331, R335, R339, R341, R348, R356, R416). -/

namespace Sys2Proof.Machine
open Sys2Proof

/-! ### A request that only reads, R321 -/

/-- A request that passed the checks runs on the module as it was, but for the activity noted for its connection. -/
theorem arrived_eq (h : ReqHdr) (s : State) :
    ∃ cs : List NetConn, arrived h s = onKeeper (fun k => { k with conns := cs }) s ∧ cs.length = s.keeper.conns.length := by
  cases hs : h.src with
  | mailbox n => exact ⟨s.keeper.conns, by simp only [arrived, hs]; rfl, rfl⟩
  | net id => exact ⟨_, by simp only [arrived, hs]; rfl, by simp⟩

section
variable {i : Request} {h : ReqHdr} {code len status : Nat} {flaws : List Finding} {body : State → State} {u : State} {p : List Byte}

/-- A request whose command only answers leaves the answer and nothing else. -/
theorem serve_onlyAnswers (ha : Admitted i h code len [] u) (hf : flaws = [])
    (hb : body (arrived h u) = respond h code status p (arrived h u)) :
    OnlyAnswersWith h code status p u (serve i h code len true flaws body u) := by
  subst hf
  obtain ⟨-, -, -, hc, -⟩ := id ha
  rw [serve_of_admitted ha, hb]
  exact respond_onlyAnswersWith (keeperWork_arrived h u) (connected_arrived hc) ..

/-- The same for an answer that names findings, whose open details are drawn. -/
theorem serve_badArgument {fs : List Finding} (ha : Admitted i h code len [] u) (hf : flaws = [])
    (hb : body (arrived h u) = badArgument h code fs (arrived h u)) :
    OnlyAnswersWith h code stBadArgument (findingsList u.drawn fs) u (serve i h code len true flaws body u) := by
  subst hf
  obtain ⟨-, -, -, hc, -⟩ := id ha
  rw [serve_of_admitted ha, hb, badArgument, show (arrived h u).drawn = u.drawn by obtain ⟨cs, e, -⟩ := arrived_eq h u; rw [e]; rfl]
  exact respond_onlyAnswersWith ((keeperWork_arrived h u).trans (keeperWork_draw _)) (connected_arrived hc) ..

/-- The same for an answer under an epoch of its own. -/
theorem serve_answersAs {epoch : Nat} (ha : Admitted i h code len [] u) (hf : flaws = [])
    (hb : body (arrived h u) = respondEpoch h code status epoch p (arrived h u)) :
    AnsweredAs h code status 0 epoch p u (serve i h code len true flaws body u) ∧ (serve i h code len true flaws body u).img = u.img := by
  subst hf
  obtain ⟨-, -, -, hc, -⟩ := id ha
  have work := keeperWork_arrived h u
  rw [serve_of_admitted ha, hb, AnsweredAs, lastAnswer_notePeaks, respondEpoch, lastAnswer_answer (connected_arrived hc),
    mkResponse_of_state_eq (congrArg Mod.state work.mod_eq)]
  exact ⟨rfl, ((keeperWork_answer ..).img_eq).trans work.img_eq⟩

end

/-! ### Lengths of records -/

theorem length_flatMap_const {α : Type} (g : α → List Byte) {n : Nat} (xs : List α) (hg : ∀ x ∈ xs, (g x).length = n) :
    (xs.flatMap g).length = n * xs.length := by
  rw [List.length_flatMap, List.map_congr_left hg, List.map_const', List.sum_replicate, smul_eq_mul, Nat.mul_comm]

theorem sliceAt_length (bs : List Byte) (pos k : Nat) : (sliceAt bs pos k).length = k := by
  simp only [sliceAt, List.length_append, List.length_replicate, List.length_take]
  omega

theorem zeros_length (n : Nat) : (zeros n).length = n := by simp [zeros]

theorem eventBytes_length (n : Nat) (e : Event) : (eventBytes n e).length = 64 := by
  simp [eventBytes, sliceAt_length]

theorem tailBytes_length (s : State) : (tailBytes s).length = 16 := by
  unfold tailBytes
  split
  · simp
  · exact zeros_length 16

theorem forceBytes_length (f : Force) : (forceBytes f).length = 32 := by
  simp [forceBytes]

theorem slotBytes_length (x : SlotImage) : (slotBytes x).length = 32 := by
  simp [slotBytes]

theorem mem_insertBy {α : Type} (key : α → Nat) (x y : α) (xs : List α) : y ∈ insertBy key x xs ↔ y = x ∨ y ∈ xs := by
  induction xs with
  | nil => simp [insertBy]
  | cons z zs ih =>
    simp only [insertBy]
    split
    · simp
    · simp only [List.mem_cons, ih]
      tauto

theorem mem_sortBy {α : Type} (key : α → Nat) (y : α) (xs : List α) : y ∈ sortBy key xs ↔ y ∈ xs := by
  induction xs with
  | nil => simp [sortBy]
  | cons x xs ih =>
    rw [show sortBy key (x :: xs) = insertBy key x (sortBy key xs) from rfl, mem_insertBy, ih, List.mem_cons]

/-! ### The reads -/

section
variable {t : Nat} {h : ReqHdr} {s : State}

theorem leads_evtRead {first maximum area : Nat} (hm : 1 ≤ maximum) (hm' : maximum ≤ 63) (har : area ≤ 2)
    (ha : Admitted (.evtRead first maximum area) h 0x0A00 8 [] (atTime t s)) :
    Leads (.evtRead t h first maximum area) s fun s' => ∃ p got, OnlyAnswers h 0x0A00 p (atTime t s) s' ∧
      got = (recordsFrom s first area).take maximum ∧ p.length = 24 + 64 * got.length ∧ Field p 0 (le4 got.length) ∧
      (got = [] → Field p 4 (le4 (s.recd.lastSeq + 1))) := by
  have flawless : needs (decide (1 ≤ maximum) && decide (maximum ≤ 63)) fRange 4 ++ needs (decide (area ≤ 2)) fUndefined 6 = [] := by
    simp [needs, hm, hm', har]
  obtain ⟨cs, arrives, -⟩ := arrived_eq h (atTime t s)
  have records : recordsFrom (arrived h (atTime t s)) first area = recordsFrom s first area := by rw [arrives]; rfl
  have last : (arrived h (atTime t s)).recd = s.recd := by rw [arrives]; rfl
  refine ⟨_, rfl, _, (recordsFrom s first area).take maximum, serve_onlyAnswers ha flawless rfl, rfl, ?length, ?count, fun none_got => ?next⟩
  case length =>
    have sizes := length_flatMap_const (fun p : Nat × Event => eventBytes p.1 p.2) ((recordsFrom s first area).take maximum)
      fun _ _ => eventBytes_length ..
    simp only [records, List.length_append, sizes, tailBytes_length, le4_length]
  case count =>
    rw [records]
    rfl
  case next =>
    rw [records, none_got, last]
    rfl

theorem leads_wearGet {category first : Nat} {rs : List (List Byte)} (hr : wearRecords s category first = some rs)
    (ha : Admitted (.wearGet category first) h 0x0F03 4 [] (atTime t s)) :
    Leads (.wearGet t h category first) s fun s' =>
      OnlyAnswers h 0x0F03 (le2 rs.length ++ le2 32 ++ le4 0 ++ rs.flatten) (atTime t s) s' := by
  obtain ⟨cs, arrives, -⟩ := arrived_eq h (atTime t s)
  have records : wearRecords (arrived h (atTime t s)) category first = some rs := by rw [← hr, arrives]; rfl
  refine ⟨_, rfl, serve_onlyAnswers ha rfl ?_⟩
  simp only [doWearGet, records, List.flatMap_id']

/-- A class uses what it uses whatever the connections did last. -/
theorem classUse_onConns {cs : List NetConn} (hl : cs.length = s.keeper.conns.length) (cls : Nat) :
    classUse (onKeeper (fun k => { k with conns := cs }) (atTime t s)) cls = classUse s cls := by
  have host : hostUse (onKeeper (fun k => { k with conns := cs }) (atTime t s)) = hostUse s := by
    simp only [hostUse, onKeeper_keeper, hl]
    rfl
  unfold classUse
  rw [host]
  rfl

theorem leads_quoGet {cls : Nat} (h1 : 1 ≤ cls) (h6 : cls ≤ 6) (ha : Admitted (.quoGet cls) h 0x0F02 2 [] (atTime t s)) :
    Leads (.quoGet t h cls) s fun s' => ∃ p, OnlyAnswers h 0x0F02 p (atTime t s) s' ∧ p.length = 16 ∧ Field p 0 (le2 cls) ∧
      Field p 4 (le4 (quotaOf s cls)) ∧ Field p 8 (le4 (classUse s cls)) := by
  obtain ⟨cs, arrives, conns⟩ := arrived_eq h (atTime t s)
  have use : classUse (arrived h (atTime t s)) cls = classUse s cls := by rw [arrives]; exact classUse_onConns conns cls
  have quota : quotaOf (arrived h (atTime t s)) cls = quotaOf s cls := by rw [arrives]; rfl
  have answers : doQuoGet h cls (arrived h (atTime t s)) = respond h 0x0F02 stOk (quoRecord (arrived h (atTime t s)) cls) (arrived h (atTime t s)) := by
    simp [doQuoGet, isClass, h1, h6, show cls ≠ 0xFFFF by omega]
  refine ⟨_, rfl, _, serve_onlyAnswers ha rfl answers, rfl, rfl, ?quota, ?use⟩
  case quota => rw [← quota]; rfl
  case use => rw [← use]; rfl

theorem leads_frcList {first : Nat} (ha : Admitted (.frcList first) h 0x0502 4 [] (atTime t s)) :
    Leads (.frcList t h first) s fun s' => ∃ p shown, OnlyAnswers h 0x0502 p (atTime t s) s' ∧
      shown = (s.img.forces.drop first).take 126 ∧ p.length = 8 + 32 * shown.length ∧ Field p 0 (le4 s.img.forces.length) ∧
      Field p 4 (le4 shown.length) ∧ ∀ f, shown.head? = some f → Field p 8 (le4 f.tag) ∧ Field p 16 (le8 f.value.toNat) := by
  obtain ⟨cs, arrives, -⟩ := arrived_eq h (atTime t s)
  have forces : (arrived h (atTime t s)).img.forces = s.img.forces := by rw [arrives]; rfl
  refine ⟨_, rfl, _, (s.img.forces.drop first).take 126, serve_onlyAnswers ha rfl rfl, rfl, ?length, ?total, ?count, fun f hf => ?first⟩
  case length =>
    rw [forces, List.length_append, List.length_append, length_flatMap_const forceBytes _ fun _ _ => forceBytes_length _]
    rfl
  case total => rw [forces]; rfl
  case count => rw [forces]; rfl
  case first =>
    obtain ⟨rest, shown⟩ := List.head?_eq_some_iff.1 hf
    rw [forces, shown]
    exact ⟨rfl, rfl⟩

theorem leads_jnlGetEntries {id maximum : Nat} {e : JnlEntry} (h1 : 1 ≤ maximum) (h63 : maximum ≤ 63) (he : jget s id = some e)
    (ha : Admitted (.jnlGetEntries id maximum) h 0x0F00 12 [] (atTime t s)) :
    Leads (.jnlGetEntries t h id maximum) s fun s' => ∃ es : List JnlEntry,
      OnlyAnswers h 0x0F00 (le4 es.length ++ le4 0 ++ es.flatMap jnlBytes) (atTime t s) s' ∧ es.length ≤ maximum ∧
      (id ≠ 0 → ∀ x ∈ es, x.id ≤ id ∧ x ∈ s.keeper.journal) := by
  have flawless : needs (decide (1 ≤ maximum) && decide (maximum ≤ 63)) fRange 4 = [] := by simp [needs, h1, h63]
  obtain ⟨cs, arrives, -⟩ := arrived_eq h (atTime t s)
  have known : jget (arrived h (atTime t s)) id = some e := by rw [← he, arrives]; rfl
  have entries : entriesFrom (arrived h (atTime t s)) id maximum = entriesFrom s id maximum := by rw [arrives]; rfl
  refine ⟨_, rfl, entriesFrom s id maximum, serve_onlyAnswers ha flawless ?answers, ?most, fun hid x hx => ?listed⟩
  case answers => simp [doJnlEntries, known, entries]
  case most => exact (List.length_take_le ..)
  case listed =>
    have listed := List.mem_of_mem_take hx
    rw [if_neg hid, List.mem_filter, List.mem_reverse, mem_sortBy] at listed
    exact ⟨of_decide_eq_true listed.2, listed.1⟩

theorem leads_jnlGetAttachment {id offset : Nat} {e : JnlEntry} (he : jget s id = some e) (ho : offset ≤ e.attachment.length)
    (ha : Admitted (.jnlGetAttachment id offset) h 0x0F00 12 [] (atTime t s)) :
    Leads (.jnlGetAttachment t h id offset) s fun s' => ∃ d : List Byte,
      OnlyAnswers h 0x0F00 (le4 e.attachment.length ++ le4 d.length ++ d) (atTime t s) s' ∧ d = (e.attachment.drop offset).take 4056 := by
  obtain ⟨cs, arrives, -⟩ := arrived_eq h (atTime t s)
  have known : jget (arrived h (atTime t s)) id = some e := by rw [← he, arrives]; rfl
  refine ⟨_, rfl, _, serve_onlyAnswers ha rfl ?_, rfl⟩
  simp [doJnlAttachment, known, Nat.not_lt.2 ho]

theorem leads_setRead {id : Nat} {v : List Byte} (hv : readSetting s s.settings.committed false id = some v)
    (ha : Admitted (.setRead 0 [id]) h 0x0200 8 [] (atTime t s)) :
    Leads (.setRead t h 0 [id]) s fun s' => ∃ p, OnlyAnswers h 0x0200 p (atTime t s) s' ∧ Field p 0 (le4 id) ∧
      Field p 6 (le2 v.length) ∧ Field p 8 v := by
  obtain ⟨cs, arrives, -⟩ := arrived_eq h (atTime t s)
  have value : readSetting (arrived h (atTime t s)) (arrived h (atTime t s)).settings.committed false id = some v := by rw [← hv, arrives]; rfl
  have known : (paramOf id).isNone = false := by
    obtain ⟨r, hr, -⟩ := Option.map_eq_some_iff.1 (show (paramOf id).map _ = some v from hv)
    rw [hr]
    rfl
  refine ⟨_, rfl, settingEntry id v, serve_onlyAnswers ha rfl ?answers, rfl, rfl, ?value⟩
  case answers => simp [doSetRead, known, value]
  case value => exact List.take_left ..

theorem leads_setRead_unknown {id : Nat} (hp : paramOf id = none) (ha : Admitted (.setRead 0 [id]) h 0x0200 8 [] (atTime t s)) :
    Leads (.setRead t h 0 [id]) s fun s' => ∃ p, Answered h 0x0200 stBadArgument p (atTime t s) s' ∧ s'.settings = s.settings ∧
      p.length = 20 ∧ Field p 0 (le2 1) ∧ Field p 8 (le4 id) := by
  obtain ⟨answered, work⟩ := serve_badArgument (fs := [settingFinding fUndefined id]) (flaws := []) (body := doSetRead h 0 [id]) ha rfl
    (by simp [doSetRead, hp])
  exact ⟨_, rfl, _, answered, KeeperWork.settings_eq (s := atTime t s) work, rfl, rfl, rfl⟩

theorem leads_setExportRead {x : ExportImage} {offset journal : Nat}
    (hx : (s.keeper.exports.find? fun x => x.journal == journal && x.session == h.session) = some x) (ho : offset ≤ x.bytes.length)
    (ha : Admitted (.setExportRead offset journal) h 0x0203 12 [] (atTime t s)) :
    Leads (.setExportRead t h offset journal) s fun s' => ∃ d : List Byte,
      OnlyAnswers h 0x0203 (le4 x.bytes.length ++ le4 d.length ++ d) (atTime t s) s' ∧ d = (x.bytes.drop offset).take 4056 := by
  obtain ⟨cs, arrives, -⟩ := arrived_eq h (atTime t s)
  have found : ((arrived h (atTime t s)).keeper.exports.find? fun x => x.journal == journal && x.session == h.session) = some x := by
    rw [← hx, arrives]; rfl
  refine ⟨_, rfl, _, serve_onlyAnswers ha rfl ?_, rfl⟩
  simp only [doExportRead, found, if_neg (Nat.not_lt.2 ho)]

/-! ### IMG.READ of one tag, R22, R23, R331 -/

/-- One tag that is declared and has a copy at the epoch is read from that copy, unless the copy is poisoned. -/
theorem readImage_one {i n : Nat} {x : Tag} {c : SlotCopy} (hx : tget i s.img.tags = some x) (hc : copyAt x n = some c) :
    readImage s n [i] = if poisonedAt s (slotAddress i (copyIsB x n)) then .poisoned [i] else .slots [slotBytes (slotImage i x c)] := by
  cases hp : poisonedAt s (slotAddress i (copyIsB x n)) <;> simp [readImage, hx, hc, hp]

section
variable {i : Nat} {x : Tag} (hj : s.tow.catchup = none) (hx : tget i s.img.tags = some x)
include hj hx

theorem doImgRead_gone (ha : h.atEpoch = true) (hg : epochGone s h.epoch = true) :
    doImgRead h [(i, 1)] s = respond h 0x0400 stEpochGone [] s := by
  simp [doImgRead, rangeTags, missingTags, thas, hx, joining, hj, ha, hg]

theorem doImgRead_answers (hg : h.atEpoch = true → epochGone s h.epoch = false) :
    doImgRead h [(i, 1)] s = answerRead h 0x0400 (readEpoch s h) [i] [] id s := by
  have here : (h.atEpoch && epochGone s h.epoch) = false := by
    cases ha : h.atEpoch with
    | false => rfl
    | true => exact hg ha
  simp [doImgRead, rangeTags, missingTags, thas, hx, joining, hj, here]

end

theorem rangeFlaws_one (i : Nat) : rangeFlaws 0 [(i, 1)] = [] := by
  simp [rangeFlaws, needs]

theorem leads_imgRead {i : Nat} {x : Tag} (hj : s.tow.catchup = none) (hx : tget i s.img.tags = some x)
    (ha : Admitted (.imgRead [(i, 1)]) h 0x0400 12 [] (atTime t s)) :
    (h.atEpoch = true → epochGone s h.epoch = true → Leads (.imgRead t h [(i, 1)]) s fun s' =>
      Answered h 0x0400 stEpochGone [] (atTime t s) s' ∧ s'.img = s.img) ∧
    ∀ c, copyAt x (readEpoch s h) = some c → (h.atEpoch = true → epochGone s h.epoch = false) →
      (poisonedAt s (slotAddress i (copyIsB x (readEpoch s h))) = false → Leads (.imgRead t h [(i, 1)]) s fun s' => ∃ p,
        AnsweredAs h 0x0400 stOk 0 (readEpoch s h) p (atTime t s) s' ∧ s'.img = s.img ∧ p.length = 40 ∧ Field p 0 (le4 1) ∧
        Field p 8 (le8 c.value.toNat) ∧ Field p 16 (le8 c.srcTs)) ∧
      (poisonedAt s (slotAddress i (copyIsB x (readEpoch s h))) = true → Leads (.imgRead t h [(i, 1)]) s fun s' =>
        AnsweredAs h 0x0400 stInternal 0 (readEpoch s h) (le4 1 ++ le4 i) (atTime t s) s' ∧ s'.img = s.img) := by
  obtain ⟨cs, arrives, -⟩ := arrived_eq h (atTime t s)
  have joins : (arrived h (atTime t s)).tow.catchup = none := by rw [arrives]; exact hj
  have declared : tget i (arrived h (atTime t s)).img.tags = some x := by rw [arrives]; exact hx
  have epoch : readEpoch (arrived h (atTime t s)) h = readEpoch s h := by rw [arrives]; rfl
  have gone : epochGone (arrived h (atTime t s)) h.epoch = epochGone s h.epoch := by rw [arrives]; rfl
  have poisoned (a : Nat) : poisonedAt (arrived h (atTime t s)) a = poisonedAt s a := by rw [arrives]; rfl
  refine ⟨fun hat hg => ?gone, fun c hc hg => ?served⟩
  case gone =>
    obtain ⟨answered, work⟩ := serve_onlyAnswers ha (rangeFlaws_one i) (doImgRead_gone joins declared hat (gone.trans hg))
    exact ⟨_, rfl, answered, KeeperWork.img_eq (s := atTime t s) work⟩
  case served =>
    have read := doImgRead_answers joins declared (h := h) fun hat => gone.trans (hg hat)
    have image := readImage_one declared hc
    rw [poisoned] at image
    rw [epoch, answerRead, image] at read
    refine ⟨fun hp => ?slots, fun hp => ?bad⟩
    case slots =>
      rw [hp] at read
      obtain ⟨answered, kept⟩ := serve_answersAs ha (rangeFlaws_one i) read
      exact ⟨_, rfl, _, answered, kept, rfl, rfl, rfl, rfl⟩
    case bad =>
      rw [hp] at read
      exact ⟨_, rfl, serve_answersAs ha (rangeFlaws_one i) read⟩

end

/-- Settles O42: each read is served from the module as its request finds it, and answers with what it finds. -/
theorem recordAndImageReads : Obligations.RecordAndImageReads := by
  rintro t h s u rfl
  exact ⟨fun _ _ _ h1 h63 har => leads_evtRead h1 h63 har, fun _ _ _ hr => leads_wearGet hr, fun _ h1 h6 => leads_quoGet h1 h6,
    fun _ => leads_frcList, fun _ _ _ h1 h63 he => leads_jnlGetEntries h1 h63 he, fun _ _ _ he ho => leads_jnlGetAttachment he ho,
    fun _ _ hv => leads_setRead hv, fun _ hp => leads_setRead_unknown hp, fun _ _ _ hx ho => leads_setExportRead hx ho,
    fun _ _ c hj hx ha => ⟨(leads_imgRead hj hx ha).1, (leads_imgRead hj hx ha).2 c⟩⟩

end Sys2Proof.Machine
end

section
/-! The journal entry of a request that is accepted, and the change that waits for its epoch step (R24, R43, R325, R335). -/

namespace Sys2Proof.Machine
open Sys2Proof

/-! ### The place of a new entry in the journal -/

/-- The entries that stay beside an entry with this number: of a full journal the one that ended first goes. -/
def besideEntry (id : Nat) (journal : List JnlEntry) : List JnlEntry :=
  let others := journal.filter fun e => e.id != id
  if others.length < 256 then others
  else match (sortBy (fun e => e.ended) (others.filter fun e => ended e.state)).head? with
    | some old => others.filter fun e => e.id != old.id
    | none => others

theorem jput_eq (x : JnlEntry) (s : State) : ∃ a, jput x s = onKeeper (fun k =>
    let room := besideEntry x.id k.journal
    { k with journal := if room.length < 256 then room ++ [{ x with attachment := a }] else room }) s :=
  ⟨_, rfl⟩

theorem ne_of_mem_besideEntry {id : Nat} {journal : List JnlEntry} {e : JnlEntry} (he : e ∈ besideEntry id journal) : e.id ≠ id := by
  have listed : e ∈ journal.filter fun e => e.id != id := by
    simp only [besideEntry] at he
    split at he
    · exact he
    · split at he
      · exact List.mem_of_mem_filter he
      · exact he
  simpa using (List.mem_filter.1 listed).2

/-- A journal that is not full of live entries has room for one more. -/
theorem besideEntry_length_lt (id : Nat) {s : State} (hl : s.keeper.journal.length ≤ 256) (hf : journalFull s = false) :
    (besideEntry id s.keeper.journal).length < 256 := by
  simp only [besideEntry]
  split
  next room => exact room
  next full =>
    have others : (s.keeper.journal.filter fun e => e.id != id) = s.keeper.journal :=
      List.filter_sublist.eq_of_length_le (by omega)
    rw [others] at full ⊢
    obtain ⟨e, he, ends⟩ : ∃ e ∈ s.keeper.journal, ended e.state = true := by
      simpa [journalFull, Nat.not_lt.1 full] using hf
    cases hold : (sortBy (fun e => e.ended) (s.keeper.journal.filter fun e => ended e.state)).head? with
    | none =>
      have listed : e ∈ s.keeper.journal.filter fun e => ended e.state := List.mem_filter.2 ⟨he, ends⟩
      rw [← mem_sortBy fun e => e.ended, List.head?_eq_none_iff.1 hold] at listed
      cases listed
    | some old =>
      have listed := List.mem_of_mem_filter ((mem_sortBy _ _ _).1 (List.mem_of_mem_head? hold))
      have fewer : (s.keeper.journal.filter fun e => e.id != old.id).length < s.keeper.journal.length :=
        List.length_filter_lt_length_iff_exists.2 ⟨old, listed, by simp⟩
      exact fewer.trans_le hl

/-- An entry that is put into a journal with room is found there, with the attachment of the one it replaces. -/
theorem jget_jput (x : JnlEntry) {s : State} (hl : s.keeper.journal.length ≤ 256) (hf : journalFull s = false) :
    ∃ a, jget (jput x s) x.id = some { x with attachment := a } := by
  obtain ⟨a, puts⟩ := jput_eq x s
  have others : (besideEntry x.id s.keeper.journal).find? (fun e => e.id == x.id) = none :=
    List.find?_eq_none.2 fun e he => by simpa using ne_of_mem_besideEntry he
  refine ⟨a, ?_⟩
  rw [puts, jget, onKeeper_keeper]
  simp [besideEntry_length_lt x.id hl hf, others]

/-! ### The entry of an accepted request, R325 -/

section
variable {h : ReqHdr} {code steps : Nat} {s : State}

theorem keeperWork_makeEntry : KeeperWork s (makeEntry h code steps s) :=
  (keeperWork_onKeeper ..).trans ((keeperWork_onKeeper ..).trans ((keeperWork_noteUnsent ..).trans (keeperWork_raiseInt ..)))

theorem noteUnsent_keeper (x : JnlEntry) (s : State) : ∃ ids, (noteUnsent x s).keeper = { s.keeper with unsent := ids } := by
  unfold noteUnsent
  split
  · exact ⟨_, rfl⟩
  · exact ⟨s.keeper.unsent, rfl⟩

theorem lastJournal_makeEntry : (makeEntry h code steps s).keeper.lastJournal = s.keeper.lastJournal + 1 := by
  unfold makeEntry
  extract_lets id e
  obtain ⟨ids, notes⟩ := noteUnsent_keeper e (onKeeper (fun k => { k with lastJournal := id }) (jput e s))
  rw [raiseInt, onKeeper_keeper, notes]
  rfl

theorem changes_makeEntry : (makeEntry h code steps s).keeper.changes = s.keeper.changes := by
  unfold makeEntry
  extract_lets id e
  obtain ⟨ids, notes⟩ := noteUnsent_keeper e (onKeeper (fun k => { k with lastJournal := id }) (jput e s))
  rw [raiseInt, onKeeper_keeper, notes]
  rfl

/-- The entry of the request waits under the next number. -/
theorem jget_makeEntry (hl : s.keeper.journal.length ≤ 256) (hf : journalFull s = false) :
    ∃ e, jget (makeEntry h code steps s) (s.keeper.lastJournal + 1) = some e ∧ e.command = code ∧ e.state = .queued ∧
      e.session = h.session ∧ e.sequence = h.sequence := by
  unfold makeEntry
  extract_lets id e
  obtain ⟨ids, notes⟩ := noteUnsent_keeper e (onKeeper (fun k => { k with lastJournal := id }) (jput e s))
  obtain ⟨a, found⟩ := jget_jput e hl hf
  refine ⟨{ e with attachment := a }, ?_, rfl, rfl, rfl, rfl⟩
  rw [← found, jget, raiseInt, onKeeper_keeper, notes]
  rfl

/-- A request that waits for an epoch step is held under its entry, and its change waits behind the others. -/
theorem acceptEpoch_queueChange {p : List Byte} {kind : ChangeKind} (hl : s.keeper.journal.length ≤ 256) (hf : journalFull s = false) :
    HeldFor h code s (acceptEpoch h code steps p (queueChange h kind) s) ∧
    (acceptEpoch h code steps p (queueChange h kind) s).keeper.changes = s.keeper.changes ++
      [{ journal := s.keeper.lastJournal + 1, kind := kind, atEpoch := if h.atEpoch then some h.epoch else none }] ∧
    KeeperWork s (acceptEpoch h code steps p (queueChange h kind) s) := by
  obtain ⟨e, found, entry⟩ := jget_makeEntry (h := h) (code := code) (steps := steps) hl hf
  have last := lastJournal_makeEntry (h := h) (code := code) (steps := steps) (s := s)
  have changes := changes_makeEntry (h := h) (code := code) (steps := steps) (s := s)
  rw [acceptEpoch, if_neg (by rw [hf]; exact Bool.false_ne_true)]
  extract_lets made id held
  refine ⟨⟨last, ⟨_, List.mem_append_right _ (List.mem_singleton_self _), last, rfl, rfl⟩, e, found, entry⟩, ?_, ?_⟩
  · rw [← changes, ← last]
    rfl
  · have work : KeeperWork s made := keeperWork_makeEntry
    exact work.trans rfl

end

end Sys2Proof.Machine
end

section
/-! Batches of values and of forces, and subscriptions (R24, R43, R112, R113, R335, R336). -/

namespace Sys2Proof.Machine
open Sys2Proof

/-! ### Batches -/

theorem findingsList_length (n : Nat) {fs : List Finding} (hfs : fs.length ≤ 253) : (findingsList n fs).length = 4 + 16 * fs.length := by
  have each : ∀ x ∈ fs.zipIdx, (findingBytes n x.2 x.1).length = 16 := fun _ _ => rfl
  simp only [findingsList, findingsBytes, List.take_of_length_le hfs, List.length_append,
    length_flatMap_const (fun x : Finding × Nat => findingBytes n x.2 x.1) _ each, List.length_zipIdx, le2_length]

theorem journal_answer (h : ReqHdr) (r : Response) (s : State) : (answer h r s).keeper.journal = s.keeper.journal := by
  unfold answer deliver
  split
  · split <;> rfl
  · rfl

section
variable {i : Request} {h : ReqHdr} {code len : Nat} {flaws : List Finding} {body : State → State} {u : State} {kind : ChangeKind}

/-- A request that is only answered queues nothing and enters nothing in the journal. -/
theorem serve_respond_queues {x : State} {status : Nat} {p : List Byte} (ha : Admitted i h code len [] u) (hf : flaws = [])
    (hb : body (arrived h u) = respond h code status p x) (hx : x.keeper = (arrived h u).keeper) :
    (serve i h code len true flaws body u).keeper.changes = u.keeper.changes ∧
    (serve i h code len true flaws body u).keeper.journal = u.keeper.journal := by
  subst hf
  obtain ⟨cs, arrives, -⟩ := arrived_eq h u
  rw [serve_of_admitted ha, hb]
  refine ⟨(changes_answer ..).trans ?_, (journal_answer ..).trans ?_⟩ <;> rw [hx, arrives] <;> rfl

/-- A batch in order is refused for an epoch that has passed, only answered in a dry run, and held for its epoch step otherwise. -/
theorem serve_queueBatch (ha : Admitted i h code len [] u) (hf : flaws = [])
    (hb : body (arrived h u) = queueBatch h code kind (arrived h u)) :
    let s' := serve i h code len true flaws body u
    (passedEpoch u h = true → Answered h code stEpochGone [] u s' ∧ s'.img = u.img ∧ s'.keeper.changes = u.keeper.changes) ∧
    (passedEpoch u h = false → h.dryRun = true → OnlyAnswers h code [] u s' ∧ s'.keeper.changes = u.keeper.changes) ∧
    (passedEpoch u h = false → h.dryRun = false → journalFull u = false → FreshIds u → HeldFor h code u s' ∧
      s'.keeper.changes = u.keeper.changes ++
        [{ journal := u.keeper.lastJournal + 1, kind := kind, atEpoch := if h.atEpoch then some h.epoch else none }] ∧
      s'.img = u.img ∧ s'.ctl = u.ctl) := by
  obtain ⟨cs, arrives, -⟩ := arrived_eq h u
  have passed : passedEpoch (arrived h u) h = passedEpoch u h := by rw [arrives]; rfl
  refine ⟨fun hp => ?passed, fun hp hd => ?dry, fun hp hd hj fresh => ?held⟩
  case passed =>
    have refuses : body (arrived h u) = respond h code stEpochGone [] (arrived h u) := by rw [hb, queueBatch, passed, if_pos hp]
    obtain ⟨answered, work⟩ := serve_onlyAnswers ha hf refuses
    exact ⟨answered, KeeperWork.img_eq work, (serve_respond_queues ha hf refuses rfl).1⟩
  case dry =>
    have reports : body (arrived h u) = respond h code stOk [] (arrived h u) := by simp [hb, queueBatch, passed, hp, hd]
    exact ⟨serve_onlyAnswers ha hf reports, (serve_respond_queues ha hf reports rfl).1⟩
  case held =>
    subst hf
    have accepts : body (arrived h u) = acceptEpoch h code 2 [] (queueChange h kind) (arrived h u) := by
      simp [hb, queueBatch, passed, hp, hd]
    have room : (arrived h u).keeper.journal.length ≤ 256 := by rw [arrives]; exact fresh.2
    have unfull : journalFull (arrived h u) = false := by rw [arrives]; exact hj
    obtain ⟨held, queued, work⟩ := acceptEpoch_queueChange (code := code) (steps := 2) (p := []) (kind := kind) (h := h) room unfull
    have whole : KeeperWork u (notePeaks (acceptEpoch h code 2 [] (queueChange h kind) (arrived h u))) :=
      ((keeperWork_arrived h u).trans work).trans (keeperWork_onKeeper ..)
    have last : (arrived h u).keeper.lastJournal = u.keeper.lastJournal := by rw [arrives]; rfl
    rw [HeldFor, last] at held
    rw [last, changes_arrived] at queued
    rw [serve_of_admitted ha, accepts]
    exact ⟨held, queued, whole.img_eq, whole.ctl_eq⟩

/-- A batch with bad entries is refused with a finding for each. -/
theorem serve_badBatch {fs : List Finding} (ha : Admitted i h code len [] u) (hf : flaws = []) (hfs : fs.length ≤ 253)
    (hb : body (arrived h u) = badArgument h code fs (arrived h u)) :
    let s' := serve i h code len true flaws body u
    ∃ p, Answered h code stBadArgument p u s' ∧ p.length = 4 + 16 * fs.length ∧ s'.img = u.img ∧
      s'.keeper.changes = u.keeper.changes ∧ s'.keeper.journal = u.keeper.journal := by
  obtain ⟨answered, work⟩ := serve_badArgument ha hf hb
  obtain ⟨changes, journal⟩ := serve_respond_queues ha hf (x := draw (arrived h u)) hb rfl
  exact ⟨_, answered, findingsList_length _ hfs, KeeperWork.img_eq work, changes, journal⟩

end

theorem valueFlaws_arrived (h : ReqHdr) (s : State) (ws : List (Nat × Nat × W64)) : valueFlaws (arrived h s) ws = valueFlaws s ws := by
  obtain ⟨cs, arrives, -⟩ := arrived_eq h s
  rw [arrives]
  rfl

theorem missingTags_arrived (h : ReqHdr) (s : State) (tags : List Nat) : missingTags (arrived h s) tags = missingTags s tags := by
  obtain ⟨cs, arrives, -⟩ := arrived_eq h s
  rw [arrives]
  rfl

theorem mostForced_arrived (h : ReqHdr) (s : State) (k : ChangeKind) : mostForced (arrived h s) h k = mostForced s h k := by
  obtain ⟨cs, arrives, -⟩ := arrived_eq h s
  rw [arrives]
  rfl

theorem countFlaws_nil {lo hi n : Nat} (hlo : lo ≤ n) (hhi : n ≤ hi) : countFlaws lo hi n = [] := by
  simp [countFlaws, needs, hlo, hhi]

section
variable {h : ReqHdr} {s : State} {ws : List (Nat × Nat × W64)} {tags : List Nat}

theorem doImgWrite_of_flawless (hv : valueFlaws s ws = []) :
    doImgWrite h ws (arrived h s) = queueBatch h 0x0401 (.imgWrite ws) (arrived h s) := by
  simp [doImgWrite, valueFlaws_arrived, hv]

theorem doImgWrite_of_flaws (hv : valueFlaws s ws ≠ []) :
    doImgWrite h ws (arrived h s) = badArgument h 0x0401 (valueFlaws s ws) (arrived h s) := by
  simp [doImgWrite, valueFlaws_arrived, hv]

theorem doFrcSet_of_flawless (hv : valueFlaws s ws = []) (hm : mostForced s h (.forceSet ws) ≤ 4096) :
    doFrcSet h ws (arrived h s) = queueBatch h 0x0500 (.forceSet ws) (arrived h s) := by
  simp [doFrcSet, valueFlaws_arrived, mostForced_arrived, hv, hm]

theorem doFrcSet_of_flaws (hv : valueFlaws s ws ≠ []) :
    doFrcSet h ws (arrived h s) = badArgument h 0x0500 (valueFlaws s ws) (arrived h s) := by
  simp [doFrcSet, valueFlaws_arrived, hv]

theorem doFrcClear_of_flawless {all : Bool} (hv : missingTags s tags = []) :
    doFrcClear h all tags (arrived h s) = queueBatch h 0x0501 (.forceClear tags all) (arrived h s) := by
  simp [doFrcClear, missingTags_arrived, hv]

end

/-! ### Subscriptions, R336 -/

section
variable {h : ReqHdr} {interval : Nat} {ranges : List (Nat × Nat)} {s : State}

@[simp] theorem subscriptions_answer (h : ReqHdr) (r : Response) (s : State) : (answer h r s).keeper.subscriptions = s.keeper.subscriptions := by
  unfold answer deliver
  split
  · split <;> rfl
  · rfl

@[simp] theorem deliver_subscribed (n m : Fin 8) (r : Response) (s : State) :
    (deliver n r s).keeper.mailboxes[(m : Nat)].subscribed = s.keeper.mailboxes[(m : Nat)].subscribed := by
  unfold deliver
  by_cases e : m = n
  · subst e; split <;> simp [raiseInt]
  · split <;> simp [raiseInt, vmod_getElem_ne _ _ e]

@[simp] theorem answer_subscribed (h : ReqHdr) (r : Response) (n : Fin 8) (s : State) :
    (answer h r s).keeper.mailboxes[(n : Nat)].subscribed = s.keeper.mailboxes[(n : Nat)].subscribed := by
  cases hs : h.src with
  | mailbox m =>
    by_cases e : n = m
    · subst e; simp [answer, hs]
    · simp [answer, hs, vmod_getElem_ne _ _ e]
  | net id => simp [answer, hs]

/-- A subscription begins beside the last answer of its transport. -/
theorem lastAnswer_startSubscription (src : Source) : lastAnswer (startSubscription h interval ranges s) src = lastAnswer s src := by
  cases hs : h.src with
  | net id => simp only [startSubscription, hs]; rfl
  | mailbox n =>
    cases src with
    | net id => simp only [startSubscription, hs]; rfl
    | mailbox m =>
      by_cases e : m = n
      · subst e; simp [startSubscription, lastAnswer, hs]
      · simp [startSubscription, lastAnswer, hs, vmod_getElem_ne _ _ e]

end

theorem hostUse_arrived (h : ReqHdr) (s : State) : hostUse (arrived h s) = hostUse s := by
  obtain ⟨cs, arrives, conns⟩ := arrived_eq h s
  rw [arrives]
  simp only [hostUse, onKeeper_keeper, conns]
  rfl

section
variable {t : Nat} {h : ReqHdr} {s : State}

/-- The mailbox of a subscription is held by it. -/
theorem startSubscription_subscribed {n : Fin 8} {interval : Nat} {ranges : List (Nat × Nat)} (hs : h.src = .mailbox n) :
    (startSubscription h interval ranges s).keeper.mailboxes[(n : Nat)].subscribed = true := by
  simp [startSubscription, hs]

theorem startSubscription_listed (h : ReqHdr) (interval : Nat) (ranges : List (Nat × Nat)) (s : State) :
    ∃ x ∈ (startSubscription h interval ranges s).keeper.subscriptions, x.hdr = h ∧ x.ranges = ranges ∧ x.minInterval = usToNs interval ∧
      x.lastEpoch = s.img.mirrored :=
  ⟨_, List.mem_append_right _ (List.mem_singleton_self _), rfl, rfl, rfl, rfl⟩

theorem leads_imgSubscribeStart {i interval : Nat} {x : Tag} {c : SlotCopy} (hj : s.tow.catchup = none) (hx : tget i s.img.tags = some x)
    (hc : copyAt x s.img.mirrored = some c) (hp : poisonedAt s (slotAddress i (copyIsB x s.img.mirrored)) = false) (hlo : 250 ≤ interval)
    (hhi : interval ≤ 10000000) (hn : s.keeper.subscriptions.length < 8) (hq : withinQuota s 5 (hostUse s) (hostUse s + 4) = true)
    (ha : Admitted (.imgSubscribeStart interval [(i, 1)]) h 0x0402 16 [] (atTime t s)) :
    Leads (.imgSubscribeStart t h interval [(i, 1)]) s fun s' => ∃ p, AnsweredAs h 0x0402 stOk 0 s.img.mirrored p (atTime t s) s' ∧
      p.length = 44 ∧ Field p 0 (le4 1) ∧ Field p 8 (le8 c.value.toNat) ∧
      (∃ x ∈ s'.keeper.subscriptions, x.hdr = h ∧ x.ranges = [(i, 1)] ∧ x.minInterval = usToNs interval ∧ x.lastEpoch = s.img.mirrored) ∧
      ∀ n : Fin 8, h.src = .mailbox n → s'.keeper.mailboxes[n].subscribed = true := by
  obtain ⟨cs, arrives, -⟩ := arrived_eq h (atTime t s)
  have image : (arrived h (atTime t s)).img = s.img := by rw [arrives]; rfl
  have joins : (arrived h (atTime t s)).tow.catchup = none := by rw [arrives]; exact hj
  have few : (arrived h (atTime t s)).keeper.subscriptions.length < 8 := by rw [arrives]; exact hn
  have fits : withinQuota (arrived h (atTime t s)) 5 (hostUse (arrived h (atTime t s))) (hostUse (arrived h (atTime t s)) + 4) = true := by
    rw [hostUse_arrived, ← hq, arrives]
    rfl
  have clean : poisonedAt (arrived h (atTime t s)) (slotAddress i (copyIsB x s.img.mirrored)) = false := by rw [← hp, arrives]; rfl
  have state : (arrived h (atTime t s)).mod.state = s.mod.state := by rw [arrives]; rfl
  have flawless : needs (decide (250 ≤ interval) && decide (interval ≤ 10000000)) fRange 4 ++ rangeFlaws 2 [(i, 1)] = [] := by
    simp [needs, rangeFlaws, hlo, hhi]
  obtain ⟨-, -, -, connected, -⟩ := id ha
  replace connected := connected_arrived connected
  have run : Machine.exec (.imgSubscribeStart t h interval [(i, 1)]) s = .next (serve (.imgSubscribeStart interval [(i, 1)]) h 0x0402 16 true
    (needs (decide (250 ≤ interval) && decide (interval ≤ 10000000)) fRange 4 ++ rangeFlaws 2 [(i, 1)])
      (doSubscribe h interval [(i, 1)]) (atTime t s)) := rfl
  rw [flawless, serve_of_admitted ha] at run
  generalize arrived h (atTime t s) = a at *
  have read : readImage a a.img.mirrored [i] = .slots [slotBytes (slotImage i x c)] := by
    rw [← image] at hx hc clean
    rw [readImage_one hx hc, if_neg (by rw [clean]; exact Bool.false_ne_true)]
  have subscribes : doSubscribe h interval [(i, 1)] a = startSubscription h interval [(i, 1)]
      (respondEpoch h 0x0402 stOk a.img.mirrored (slotsPayload [slotBytes (slotImage i x c)] ++ le4 0) a) := by
    rw [← image] at hx
    simp [doSubscribe, rangeTags, missingTags, thas, hx, joining, joins, Nat.not_le.2 few, fits, answerRead, read]
  rw [subscribes] at run
  refine ⟨_, run, slotsPayload [slotBytes (slotImage i x c)] ++ le4 0, ?answered, rfl, rfl, rfl, ?listed, fun n hs => ?holds⟩
  case answered =>
    rw [AnsweredAs, lastAnswer_notePeaks, lastAnswer_startSubscription, respondEpoch, lastAnswer_answer connected, image]
    rw [mkResponse_of_state_eq (s := atTime t s) state]
  case listed =>
    have begun := startSubscription_listed h interval [(i, 1)]
      (respondEpoch h 0x0402 stOk a.img.mirrored (slotsPayload [slotBytes (slotImage i x c)] ++ le4 0) a)
    rw [respondEpoch, (keeperWork_answer ..).img_eq, image] at begun
    rw [image]
    exact begun
  case holds => exact startSubscription_subscribed (interval := interval) (ranges := [(i, 1)]) hs

/-- STOP takes the subscriptions of its transport away, frees its mailbox and answers. -/
theorem doSubscribeStop_eq (h : ReqHdr) (s : State) : ∃ x, doSubscribeStop h s = respond h 0x0402 stOk [] x ∧ KeeperWork s x ∧
    (Connected s h.src → Connected x h.src) ∧ x.keeper.subscriptions = s.keeper.subscriptions.filter (fun y => y.hdr.src != h.src) ∧
    ∀ n : Fin 8, h.src = .mailbox n → x.keeper.mailboxes[(n : Nat)].subscribed = false := by
  refine ⟨_, rfl, ?_⟩
  cases hs : h.src with
  | mailbox n => exact ⟨rfl, fun _ => trivial, rfl, fun m hm => by cases hm; simp⟩
  | net id => exact ⟨rfl, fun connected => connected, rfl, fun m hm => by cases hm⟩

theorem leads_imgSubscribeStop (ha : Admitted .imgSubscribeStop h 0x0402 8 [] (atTime t s)) :
    Leads (.imgSubscribeStop t h) s fun s' => Answered h 0x0402 stOk [] (atTime t s) s' ∧
      (∀ x ∈ s'.keeper.subscriptions, x.hdr.src ≠ h.src) ∧
      ∀ n : Fin 8, h.src = .mailbox n → s'.keeper.mailboxes[n].subscribed = false := by
  obtain ⟨-, -, -, connected, -⟩ := id ha
  obtain ⟨x, stops, work, transport, subscriptions, freed⟩ := doSubscribeStop_eq h (arrived h (atTime t s))
  have run : Machine.exec (.imgSubscribeStop t h) s = .next (serve .imgSubscribeStop h 0x0402 8 true [] (doSubscribeStop h) (atTime t s)) := rfl
  rw [serve_of_admitted ha, stops] at run
  refine ⟨_, run, ?answered, fun y hy => ?gone, fun n hs => (answer_subscribed ..).trans (freed n hs)⟩
  case answered =>
    have whole := (keeperWork_arrived h (atTime t s)).trans work
    exact respond_answered (congrArg Mod.state whole.mod_eq) whole.img_eq (transport (connected_arrived connected)) ..
  case gone =>
    have left : y ∈ (respond h 0x0402 stOk [] x).keeper.subscriptions := hy
    rw [respond, subscriptions_answer, subscriptions] at left
    simpa using (List.mem_filter.1 left).2

theorem exec_subscriptionNotify {src : Source} {x : Subscription} (hx : (s.keeper.subscriptions.find? fun x => x.hdr.src == src) = some x)
    (hk : keeperServes s = true) :
    Machine.exec (.subscriptionNotify t src) s = .next
      (if subscribedChange s x && decide (x.lastNotified + x.minInterval ≤ nowOf (atTime t s)) then notify x (atTime t s) else atTime t s) := by
  have serves : keeperServes (atTime t s) = true := hk
  show Host.Outcome.next (match s.keeper.subscriptions.find? fun x => x.hdr.src == src with | some x => _ | none => _) = _
  rw [hx]
  simp only [serves, Bool.true_and]
  rfl

/-- A response that finds its mailbox free is in it. -/
theorem putNotification_of_free {n : Fin 8} (r : Response) (hs : h.src = .mailbox n) (hd : s.keeper.mailboxes[n].dbRsp = false) :
    (putNotification h r s).keeper.mailboxes[(n : Nat)].dbRsp = true ∧
    (putNotification h r s).keeper.mailboxes[(n : Nat)].rsp = putBytes 0 r s.keeper.mailboxes[n].rsp ∧
    (putNotification h r s).keeper.subscriptions = s.keeper.subscriptions := by
  have free : s.keeper.mailboxes[(n : Nat)].dbRsp = false := hd
  simp [putNotification, hs, free, deliver, raiseInt]

/-- A notification notes its time and epoch and goes to the transport of its subscription. -/
theorem notify_of_slots {x : Subscription} {bs : List (List Byte)} (hr : readImage s s.img.mirrored (rangeTags x.ranges) = .slots bs)
    (hw : notificationWaits s x.hdr.src = false) :
    ∃ z, notify x s = putNotification x.hdr (mkResponse s x.hdr 0x0402 stOk 0 s.img.mirrored (slotsPayload bs ++ le4 0)) z ∧
      z.keeper.mailboxes = s.keeper.mailboxes ∧ z.keeper.subscriptions = s.keeper.subscriptions.map fun y =>
        if y.hdr.src = x.hdr.src then { x with lastNotified := nowOf s, lastEpoch := s.img.mirrored, skipped := 0 } else y := by
  simp only [notify, hr, hw]
  exact ⟨_, rfl, rfl, rfl⟩

theorem leads_subscriptionNotify {x : Subscription} {n : Fin 8} {bs : List (List Byte)}
    (hx : (s.keeper.subscriptions.find? fun x => x.hdr.src == .mailbox n) = some x) (hk : keeperServes s = true)
    (hd : s.keeper.mailboxes[n].dbRsp = false) (hr : readImage s s.img.mirrored (rangeTags x.ranges) = .slots bs)
    (hc : subscribedChange s x = true) (ht : x.lastNotified + x.minInterval ≤ nowOf (atTime t s)) :
    Leads (.subscriptionNotify t (.mailbox n)) s fun s' => s'.keeper.mailboxes[n].dbRsp = true ∧
      (∃ y ∈ s'.keeper.subscriptions, y.hdr = x.hdr ∧ y.lastNotified = nowOf (atTime t s) ∧ y.lastEpoch = s.img.mirrored ∧ y.skipped = 0) ∧
      s'.keeper.mailboxes[n].rsp = putBytes 0
        (mkResponse s x.hdr 0x0402 stOk 0 s.img.mirrored (le4 bs.length ++ le4 0 ++ bs.flatten ++ le4 0)) s.keeper.mailboxes[n].rsp := by
  have src : x.hdr.src = .mailbox n := by simpa using List.find?_some hx
  have idle : notificationWaits (atTime t s) x.hdr.src = false := by
    rw [src]
    show (s.keeper.mailboxes[n].dbRsp && _) = false
    rw [hd]
    rfl
  obtain ⟨z, notifies, mailboxes, subscriptions⟩ := notify_of_slots (s := atTime t s) hr idle
  have run := exec_subscriptionNotify (t := t) hx hk
  rw [if_pos (by rw [hc, decide_eq_true ht]; rfl), notifies] at run
  have response : mkResponse (atTime t s) x.hdr 0x0402 stOk 0 (atTime t s).img.mirrored (slotsPayload bs ++ le4 0) =
      mkResponse s x.hdr 0x0402 stOk 0 s.img.mirrored (le4 bs.length ++ le4 0 ++ bs.flatten ++ le4 0) := by
    rw [mkResponse_of_state_eq (s := s) (t := atTime t s) rfl, slotsPayload, List.flatMap_id']
    rfl
  obtain ⟨rung, written, kept⟩ := putNotification_of_free (h := x.hdr) (s := z) (mkResponse (atTime t s) x.hdr 0x0402 stOk 0
    (atTime t s).img.mirrored (slotsPayload bs ++ le4 0)) src (by rw [mailboxes]; exact hd)
  refine ⟨_, run, rung, ?noted, ?response⟩
  case noted =>
    rw [kept, subscriptions]
    exact ⟨_, List.mem_map.2 ⟨x, List.mem_of_find?_eq_some hx, if_pos rfl⟩, rfl, rfl, rfl, rfl⟩
  case response =>
    rw [← response]
    exact written.trans (by rw [mailboxes]; rfl)

end

/-! ### The obligation -/

section
variable {t : Nat} {h : ReqHdr} {s : State}

/-- What O45 says of a request that queues its batch where nothing is wrong with it. -/
theorem leads_batch {k : Instr} {i : Request} {code len : Nat} {flaws : List Finding} {body : State → State} {kind : ChangeKind}
    (hk : Machine.exec k s = .next (serve i h code len true flaws body (atTime t s))) (ha : Admitted i h code len [] (atTime t s))
    (hf : flaws = []) (hb : body (arrived h (atTime t s)) = queueBatch h code kind (arrived h (atTime t s))) :
    (passedEpoch s h = true → Leads k s fun s' => Answered h code stEpochGone [] (atTime t s) s' ∧ s'.img = s.img ∧
      s'.keeper.changes = s.keeper.changes) ∧
    (passedEpoch s h = false → h.dryRun = true → Leads k s fun s' => OnlyAnswers h code [] (atTime t s) s' ∧
      s'.keeper.changes = s.keeper.changes) ∧
    (passedEpoch s h = false → h.dryRun = false → journalFull (atTime t s) = false → FreshIds (atTime t s) → Leads k s fun s' =>
      HeldFor h code (atTime t s) s' ∧ s'.keeper.changes = s.keeper.changes ++
        [{ journal := s.keeper.lastJournal + 1, kind := kind, atEpoch := if h.atEpoch then some h.epoch else none }] ∧
      s'.img = s.img ∧ s'.ctl = s.ctl) := by
  obtain ⟨gone, dry, held⟩ := serve_queueBatch ha hf hb
  exact ⟨fun hp => ⟨_, hk, gone hp⟩, fun hp hd => ⟨_, hk, dry hp hd⟩, fun hp hd hj fresh => ⟨_, hk, held hp hd hj fresh⟩⟩

end

/-- Settles O45: a batch goes through the one queue for its epoch step or is refused whole; a subscription begins, ends and notifies. -/
theorem imageRequests : Obligations.ImageRequests := by
  refine ⟨?batches, ?flawed, ?subscriptions⟩
  case batches =>
    rintro t h s u k code kind rfl
      (⟨ws, hv, hlo, hhi, ⟨rfl, rfl, rfl, ha⟩ | ⟨rfl, rfl, rfl, ha, hm⟩⟩ | ⟨all, tags, hv, hn, rfl, rfl, rfl, ha⟩)
    · exact leads_batch rfl ha (countFlaws_nil hlo hhi) (doImgWrite_of_flawless hv)
    · exact leads_batch rfl ha (countFlaws_nil hlo hhi) (doFrcSet_of_flawless hv hm)
    · exact leads_batch rfl ha (countFlaws_nil (Nat.zero_le _) hn) (doFrcClear_of_flawless hv)
  case flawed =>
    rintro t h s u ws rfl hv hlo hhi
    have few : (valueFlaws s ws).length ≤ 253 := (List.length_filterMap_le ..).trans hhi
    exact ⟨fun ha => ⟨_, rfl, serve_badBatch ha (countFlaws_nil hlo hhi) few (doImgWrite_of_flaws hv)⟩,
      fun ha => ⟨_, rfl, serve_badBatch ha (countFlaws_nil hlo hhi) few (doFrcSet_of_flaws hv)⟩⟩
  case subscriptions =>
    rintro t h s u rfl
    refine ⟨fun i x c interval hj hx hc hp hlo hhi hn hq ha => leads_imgSubscribeStart hj hx hc hp hlo hhi hn hq ha,
      leads_imgSubscribeStop, fun src x hx hk => ⟨?notified, fun early => ?early, fun unchanged => ?unchanged⟩⟩
    case notified =>
      rintro n bs rfl hd hr hc ht
      exact leads_subscriptionNotify hx hk hd hr hc ht
    case early => rw [exec_subscriptionNotify hx hk, decide_eq_false (Nat.not_le.2 early), Bool.and_false, if_neg Bool.false_ne_true]
    case unchanged => rw [exec_subscriptionNotify hx hk, unchanged, Bool.false_and, if_neg Bool.false_ne_true]

end Sys2Proof.Machine
end

section
/-! What the steps of a start leave alone (R365, R374): the power path, the epoch, the role of the module, its Keeper and its requests. -/

namespace Sys2Proof.Machine
open Sys2Proof

/-- What the obligation on starts speaks of, and what decides whether a start comes through. -/
structure StartPart where
  state : ModState
  restarting : Bool
  epoch : Nat
  mirrored : Nat
  stored : Nat
  execs : List Exec
  up : Bool
  running : Bool
  /-- INT_STAT KEEPER_RESTART. -/
  restarted : Bool
  restartCause : Nat
  waiting : Fin 8 → Bool
  deferred : List (ReqHdr × Request)
  path : Towpath
  latchedLost : Bool
  slots : Vector FwSlot 2
  bootSlot : Fin 2
  fallback : Option (Fin 2)
  pairUpdate : Option PairUpdate
  sec : Security

def startPart (s : State) : StartPart :=
  { state := s.mod.state, restarting := s.mod.restarting, epoch := s.img.epoch, mirrored := s.img.mirrored, stored := s.img.stored,
    execs := s.ctl.execs, up := s.tow.up, running := s.keeper.running, restarted := s.keeper.intStat.getLsbD intRestart,
    restartCause := s.keeper.restartCause, waiting := fun n => s.keeper.mailboxes[(n : Nat)].dbReq, deferred := s.deferred, path := s.path, latchedLost := s.refs.latchedLost,
    slots := s.upd.slots, bootSlot := s.upd.bootSlot, fallback := s.upd.fallback, pairUpdate := s.upd.pairUpdate, sec := s.sec }

/-! ### Operations beside a start -/

@[simp] theorem startPart_onField (g : FieldZone → FieldZone) (s : State) : startPart (onField g s) = startPart s := rfl
@[simp] theorem startPart_onNet (g : Net → Net) (s : State) : startPart (onNet g s) = startPart s := rfl
@[simp] theorem startPart_onSw (g : Switching → Switching) (s : State) : startPart (onSw g s) = startPart s := rfl
@[simp] theorem startPart_onPort (p : Fin 3) (g : Port → Port) (s : State) : startPart (onPort p g s) = startPart s := rfl
@[simp] theorem startPart_onTime (g : TimeUnit → TimeUnit) (s : State) : startPart (onTime g s) = startPart s := rfl
@[simp] theorem startPart_onPair (g : Pair → Pair) (s : State) : startPart (onPair g s) = startPart s := rfl
@[simp] theorem startPart_onSettings (g : Settings → Settings) (s : State) : startPart (onSettings g s) = startPart s := rfl
@[simp] theorem startPart_onBasin (g : Basin → Basin) (s : State) : startPart (onBasin g s) = startPart s := rfl
@[simp] theorem startPart_onSection (p : Nat) (g : Section → Section) (s : State) : startPart (onSection p g s) = startPart s := rfl
@[simp] theorem startPart_onBist (b : Fin 14) (g : BistBlock → BistBlock) (s : State) : startPart (onBist b g s) = startPart s := rfl
@[simp] theorem startPart_onWear (g : Wear → Wear) (s : State) : startPart (onWear g s) = startPart s := rfl
@[simp] theorem startPart_onRecd (g : Recorder → Recorder) (s : State) : startPart (onRecd g s) = startPart s := rfl
@[simp] theorem startPart_onCan (c : Fin 2) (g : Can → Can) (s : State) : startPart (onCan c g s) = startPart s := rfl
@[simp] theorem startPart_onWeave (g : Weave → Weave) (s : State) : startPart (onWeave g s) = startPart s := rfl
@[simp] theorem startPart_onLane (l : LaneId) (g : Lane → Lane) (s : State) : startPart (onLane l g s) = startPart s := rfl
@[simp] theorem startPart_onRole (l : LaneId) (r : LaneRole) (s : State) : startPart (onRole l r s) = startPart s := rfl
@[simp] theorem startPart_onDio (c : Fin 16) (g : Dio → Dio) (s : State) : startPart (onDio c g s) = startPart s := rfl
@[simp] theorem startPart_onAio (c : Fin 8) (g : Aio → Aio) (s : State) : startPart (onAio c g s) = startPart s := rfl
@[simp] theorem startPart_onFo (n : Fin 4) (g : Fo → Fo) (s : State) : startPart (onFo n g s) = startPart s := rfl
@[simp] theorem startPart_draw (s : State) : startPart (draw s) = startPart s := rfl
@[simp] theorem startPart_stage (code source : Nat) (data : List Byte) (s : State) : startPart (stage code source data s) = startPart s := rfl
@[simp] theorem startPart_atTime (t : Nat) (s : State) : startPart (atTime t s) = startPart s := rfl

/-- A change of the Keeper that keeps its run, the cause of its restart, its INT_STAT and its mailboxes. -/
theorem startPart_onKeeper {g : Keeper → Keeper} (s : State)
    (hg : ∀ k, (g k).running = k.running ∧ (g k).restartCause = k.restartCause ∧ (g k).intStat = k.intStat ∧ (g k).mailboxes = k.mailboxes := by
      exact fun _ => ⟨rfl, rfl, rfl, rfl⟩) : startPart (onKeeper g s) = startPart s := by
  obtain ⟨running, cause, status, mailboxes⟩ := hg s.keeper
  simp only [startPart, onKeeper_mod, onKeeper_img, onKeeper_ctl, onKeeper_tow, onKeeper_keeper, onKeeper_deferred, onKeeper_path,
    onKeeper_refs, onKeeper_upd, onKeeper_sec, running, cause, status, mailboxes]

/-- A change of a mailbox that leaves its request where it is. -/
theorem startPart_onMailbox (n : Fin 8) {g : Mailbox → Mailbox} (s : State) (hg : ∀ b, (g b).dbReq = b.dbReq := by exact fun _ => rfl) :
    startPart (onMailbox n g s) = startPart s := by
  have waiting : (startPart (onMailbox n g s)).waiting = (startPart s).waiting := by
    funext m
    show (vmod s.keeper.mailboxes n g)[(m : Nat)].dbReq = _
    by_cases e : m = n
    · subst e
      rw [vmod_getElem_same, hg]
      rfl
    · rw [vmod_getElem_ne _ _ e]
      rfl
  calc startPart (onMailbox n g s)
      = { startPart s with waiting := (startPart (onMailbox n g s)).waiting } := rfl
    _ = startPart s := by rw [waiting]

/-- An interrupt of another cause. -/
theorem startPart_raiseInt {n : Nat} (s : State) (hn : n ≠ intRestart := by decide) : startPart (raiseInt n s) = startPart s := by
  have restarted : (raiseInt n s).keeper.intStat.getLsbD intRestart = s.keeper.intStat.getLsbD intRestart := by
    have other : Nat.testBit (2 ^ n) intRestart = false := Nat.testBit_two_pow_of_ne hn
    rw [raiseInt, onKeeper_keeper, BitVec.getLsbD_or, BitVec.getLsbD_ofNat, other, Bool.and_false, Bool.or_false]
  calc startPart (raiseInt n s)
      = { startPart s with restarted := (raiseInt n s).keeper.intStat.getLsbD intRestart } := rfl
    _ = startPart s := by rw [restarted]; rfl

theorem startPart_foldl {α : Type} {f : State → α → State} (hf : ∀ s a, startPart (f s a) = startPart s) (xs : List α) (s : State) :
    startPart (xs.foldl f s) = startPart s := by
  induction xs generalizing s with
  | nil => rfl
  | cons x xs ih => exact (ih _).trans (hf ..)

theorem startPart_ite {c : Prop} [Decidable c] {s t u : State} (ht : startPart t = startPart u) (hs : startPart s = startPart u) :
    startPart (if c then t else s) = startPart u := by
  split
  · exact ht
  · exact hs

/-! ### Answers and the journal -/

@[simp] theorem startPart_deliver (n : Fin 8) (r : Response) (s : State) : startPart (deliver n r s) = startPart s := by
  unfold deliver
  split
  · exact startPart_onMailbox n s
  · exact (startPart_raiseInt _).trans (startPart_onMailbox n s)

@[simp] theorem startPart_answer (h : ReqHdr) (r : Response) (s : State) : startPart (answer h r s) = startPart s := by
  unfold answer
  split
  · exact (startPart_deliver ..).trans (startPart_onMailbox _ s)
  · exact startPart_onKeeper s

@[simp] theorem startPart_noteUnsent (x : JnlEntry) (s : State) : startPart (noteUnsent x s) = startPart s := by
  unfold noteUnsent
  split
  · exact startPart_onKeeper s
  · rfl

@[simp] theorem startPart_jmod (id : Nat) (g : JnlEntry → JnlEntry) (s : State) : startPart (jmod id g s) = startPart s := by
  unfold jmod
  split
  · rfl
  · extract_lets noted
    have kept : startPart noted = startPart s := (startPart_noteUnsent ..).trans (startPart_onKeeper s)
    exact startPart_ite kept ((startPart_raiseInt noted).trans kept)

@[simp] theorem startPart_answerHeld (id : Nat) (s : State) : startPart (answerHeld id s) = startPart s := by
  unfold answerHeld
  split
  · exact (startPart_answer ..).trans (startPart_onKeeper s)
  · rfl

@[simp] theorem startPart_jend (id : Nat) (st : JnlState) (status : Nat) (s : State) : startPart (jend id st status s) = startPart s := by
  unfold jend
  split
  · rfl
  · exact startPart_ite rfl ((startPart_answerHeld ..).trans (startPart_jmod ..))

/-! ### The field zone -/

@[simp] theorem startPart_settleDio (c : Fin 16) (s : State) : startPart (settleDio c s) = startPart s := rfl
@[simp] theorem startPart_openAio (c : Fin 8) (s : State) : startPart (openAio c s) = startPart s := rfl
@[simp] theorem startPart_safeFo (n : Fin 4) (s : State) : startPart (safeFo n s) = startPart s := rfl

@[simp] theorem startPart_safeAio (c : Fin 8) (s : State) : startPart (safeAio c s) = startPart s :=
  startPart_ite rfl (startPart_ite rfl rfl)

@[simp] theorem startPart_endTrims (s : State) : startPart (endTrims s) = startPart s :=
  startPart_foldl (fun u x => by simp [endTrim]) ..

@[simp] theorem startPart_endBatch (ch : Fin 2) (b : CanBatch) (s : State) : startPart (endBatch ch b s) = startPart s :=
  (startPart_jend ..).trans (startPart_jmod ..)

@[simp] theorem startPart_withdrawCan (ch : Fin 2) (s : State) : startPart (withdrawCan ch s) = startPart s := by
  unfold withdrawCan
  exact startPart_ite ((startPart_foldl (fun _ _ => startPart_endBatch ..) ..).trans (startPart_onCan ..)) rfl

@[simp] theorem startPart_yieldAio (instants : List (TaskId × Nat)) (c : Fin 8) (s : State) : startPart (yieldAio instants c s) = startPart s := by
  unfold yieldAio
  refine startPart_ite rfl (startPart_ite ?_ (startPart_safeAio ..))
  split <;> rfl

theorem startPart_eachDio {g : Fin 16 → State → State} (hg : ∀ c s, startPart (g c s) = startPart s) (s : State) :
    startPart (eachDio g s) = startPart s := startPart_foldl (fun s c => hg c s) ..

theorem startPart_eachAio {g : Fin 8 → State → State} (hg : ∀ c s, startPart (g c s) = startPart s) (s : State) :
    startPart (eachAio g s) = startPart s := startPart_foldl (fun s c => hg c s) ..

theorem startPart_each4 {g : Fin 4 → State → State} (hg : ∀ c s, startPart (g c s) = startPart s) (s : State) :
    startPart (each4 g s) = startPart s := startPart_foldl (fun s c => hg c s) ..

theorem startPart_yieldDio (c : Fin 16) (s : State) : startPart (yieldDio c s) = startPart s := startPart_ite rfl rfl

theorem startPart_yieldFo (n : Fin 4) (s : State) : startPart (yieldFo n s) = startPart s := startPart_ite rfl rfl

theorem startPart_safeDio (c : Fin 16) (s : State) : startPart (safeDio c s) = startPart s := rfl

@[simp] theorem startPart_yieldStages (instants : List (TaskId × Nat)) (s : State) : startPart (yieldStages instants s) = startPart s := by
  simp only [yieldStages, startPart_withdrawCan, startPart_each4 startPart_yieldFo, startPart_eachAio (startPart_yieldAio instants),
    startPart_eachDio startPart_yieldDio]

@[simp] theorem startPart_applySafeStates (s : State) : startPart (applySafeStates s) = startPart s := by
  simp only [applySafeStates, startPart_each4 startPart_safeFo, startPart_eachAio startPart_safeAio, startPart_eachDio startPart_safeDio]

@[simp] theorem startPart_silenceField (s : State) : startPart (silenceField s) = startPart s := by
  unfold silenceField
  extract_lets cleared silent
  have safe : startPart silent = startPart cleared := startPart_ite (startPart_applySafeStates ..) rfl
  rw [startPart_yieldStages, safe]
  rfl

@[simp] theorem startPart_resetMonitor (m : MonState) (s : State) : startPart (resetMonitor m s) = startPart s := by
  unfold resetMonitor
  extract_lets fresh blank digital analogue
  have dio : startPart digital = startPart fresh := startPart_eachDio (fun _ _ => startPart_onDio ..) _
  have aio : startPart analogue = startPart digital := startPart_eachAio (fun _ _ => (startPart_openAio ..).trans (startPart_onAio ..)) _
  rw [startPart_each4 (fun _ _ => startPart_onFo ..), aio, dio]
  rfl

/-! ### The pair, power and the module state -/

@[simp] theorem startPart_pairChanged (g : Pair → Pair) (s : State) : startPart (pairChanged g s) = startPart s :=
  startPart_ite rfl (startPart_raiseInt _)

@[simp] theorem startPart_setPower (p : PowerState) (cause : Nat) (s : State) : startPart (setPower p cause s) = startPart s :=
  startPart_ite rfl rfl

/-- A change of the module state changes nothing else that a start speaks of. -/
@[simp] theorem startPart_enterState (new : ModState) (cause : SwitchCause) (s : State) :
    startPart (enterState new cause s) = { startPart s with state := new } := by
  unfold enterState
  extract_lets old entered noted powered zeroed
  split
  · next same =>
    have kept : startPart s = { startPart s with state := s.mod.state } := rfl
    rw [← same]
    exact kept
  · have changed : startPart entered = { startPart s with state := new } := startPart_raiseInt (onMod (fun m => { m with state := new }) s)
    have noted_eq : startPart noted = startPart entered := startPart_ite (startPart_stage ..) rfl
    have powered_eq : startPart powered = startPart noted := startPart_ite (startPart_setPower ..) rfl
    have zeroed_eq : startPart zeroed = startPart powered := startPart_ite (startPart_onNet ..) rfl
    rw [startPart_endTrims, zeroed_eq, powered_eq, noted_eq, changed]

end Sys2Proof.Machine
end

section
/-! The steps of a start: self-test, configuration and `HELD` (R365, R366, R370 to R375), and what they come to. -/

namespace Sys2Proof.Machine
open Sys2Proof

/-! ### Self-test -/

@[simp] theorem startPart_abortRun (b : Fin 14) (s : State) : startPart (abortRun b s) = startPart s := by
  unfold abortRun
  split
  · rfl
  · exact (startPart_jend ..).trans ((startPart_jmod ..).trans rfl)

@[simp] theorem startPart_abortBackground (b : Fin 14) (s : State) : startPart (abortBackground b s) = startPart s := by
  unfold abortBackground
  split
  · exact startPart_abortRun ..
  · rfl

@[simp] theorem startPart_checkSpares (s : State) : startPart (checkSpares s) = startPart s := startPart_ite rfl rfl

@[simp] theorem startPart_beginMigration (logical cause : Nat) (s : State) : startPart (beginMigration logical cause s) = startPart s := by
  unfold beginMigration
  dsimp only
  split
  · rfl
  · simp

@[simp] theorem startPart_nextMigration (s : State) : startPart (nextMigration s) = startPart s := by
  unfold nextMigration
  split
  · exact (startPart_beginMigration ..).trans (startPart_onBasin ..)
  · rfl

@[simp] theorem startPart_finishMigration (epoch : Nat) (s : State) : startPart (finishMigration epoch s) = startPart s := by
  unfold finishMigration
  split
  · rfl
  · exact (startPart_nextMigration ..).trans ((startPart_checkSpares ..).trans rfl)

@[simp] theorem startPart_checkSection (p : Nat) (s : State) : startPart (checkSection p s) = startPart s := by
  unfold checkSection
  split
  · exact startPart_ite rfl ((startPart_nextMigration ..).trans (startPart_onBasin ..))
  · rfl

@[simp] theorem startPart_moveSection (p : Nat) (s : State) : startPart (moveSection p s) = startPart s := by
  unfold moveSection
  split
  · rfl
  · refine startPart_ite (startPart_checkSection ..) ?_
    exact startPart_ite ((startPart_finishMigration ..).trans (startPart_beginMigration ..)) (startPart_beginMigration ..)

@[simp] theorem startPart_sectionResult (warm : Bool) (r : BistRun) (s : State) : startPart (sectionResult warm r s) = startPart s := by
  unfold sectionResult
  refine startPart_ite ?sections (startPart_ite ?spare rfl)
  case sections =>
    split
    · exact startPart_ite ((startPart_moveSection ..).trans (startPart_onSection ..)) ((startPart_checkSection ..).trans (startPart_onSection ..))
    · rfl
    · rfl
  case spare => split <;> rfl

@[simp] theorem startPart_laneResult (r : BistRun) (s : State) : startPart (laneResult r s) = startPart s := by
  unfold laneResult
  split
  · rfl
  · exact startPart_ite rfl rfl

@[simp] theorem startPart_setRole (l : LaneId) (r : LaneRole) (s : State) : startPart (setRole l r s) = startPart s := startPart_ite rfl rfl

@[simp] theorem startPart_leaveTest (r : BistRun) (s : State) : startPart (leaveTest r s) = startPart s := by
  unfold leaveTest
  split
  · rfl
  · refine startPart_ite rfl (startPart_ite (startPart_setRole ..) ?_)
    simp

@[simp] theorem startPart_judgeRun (warm : Bool) (r : BistRun) (s : State) : startPart (judgeRun warm r s) = startPart s := by
  have failed (u : State) : startPart (if runResult r = .fail then failEvent r u else u) = startPart u := startPart_ite rfl rfl
  simp only [judgeRun, startPart_leaveTest, startPart_sectionResult, startPart_laneResult, failed]
  rfl

@[simp] theorem startPart_judgeAll (warm : Bool) (runs : List BistRun) (s : State) : startPart (judgeAll warm runs s) = startPart s :=
  startPart_foldl (fun _ _ => (startPart_jend ..).trans ((startPart_jmod ..).trans (startPart_judgeRun ..))) ..

/-! ### Lane roles -/

@[simp] theorem startPart_restoreLane (l : LaneId) (s : State) : startPart (restoreLane l s) = startPart s := by
  unfold restoreLane
  split
  case h_4 => exact startPart_ite rfl rfl
  all_goals rfl

@[simp] theorem startPart_restoreLanes (s : State) : startPart (restoreLanes s) = startPart s :=
  (startPart_onWeave ..).trans (startPart_foldl (fun _ _ => startPart_restoreLane ..) ..)

@[simp] theorem startPart_exchangeLane (l : LaneId) (s : State) : startPart (exchangeLane l s) = startPart s := by
  unfold exchangeLane
  refine startPart_ite ?_ rfl
  split <;> rfl

@[simp] theorem startPart_exchangeLanes (s : State) : startPart (exchangeLanes s) = startPart s :=
  (startPart_checkSpares ..).trans (startPart_foldl (fun _ _ => startPart_exchangeLane ..) ..)

@[simp] theorem startPart_endUncompared (isPowerUp : Bool) (runs : List BistRun) (s : State) :
    startPart (endUncompared isPowerUp runs s) = startPart s := by
  have returns (l : LaneId) (u : State) : startPart (if roleOf u l = .bystander then onRole l .active u else u) = startPart u :=
    startPart_ite rfl rfl
  exact startPart_ite ((startPart_foldl (fun u l => returns l u) ..).trans (startPart_onWeave ..)) rfl

/-! ### Settings, nodes, ports and time -/

@[simp] theorem startPart_repairCopy (isB : Bool) (s : State) : startPart (repairCopy isB s) = startPart s := rfl

@[simp] theorem startPart_judgeSettings (s : State) : startPart (judgeSettings s) = startPart s := by
  unfold judgeSettings
  extract_lets t judged entries
  have kept : startPart judged = startPart s := by
    unfold judged
    split <;> rfl
  exact (startPart_onSettings _ judged).trans kept

@[simp] theorem startPart_enforceSettings (isPowerUp : Bool) (s : State) : startPart (enforceSettings isPowerUp s) = startPart s := rfl

@[simp] theorem startPart_buildNodes (s : State) : startPart (buildNodes s) = startPart s := rfl

@[simp] theorem startPart_scheduleGcl (p : Fin 3) (s : State) : startPart (scheduleGcl p s) = startPart s := startPart_ite rfl rfl

@[simp] theorem startPart_setServo (t : Nat) (v : ServoState) (s : State) : startPart (setServo t v s) = startPart s :=
  startPart_ite rfl ((startPart_raiseInt _).trans (startPart_ite rfl rfl))

@[simp] theorem startPart_startServo (t : Nat) (s : State) : startPart (startServo t s) = startPart s :=
  startPart_ite (startPart_setServo ..) (startPart_ite (startPart_setServo ..) (startPart_ite (startPart_setServo ..) rfl))

@[simp] theorem startPart_clearForces (s : State) : startPart (clearForces s) = startPart s := startPart_ite rfl rfl

theorem confirmBoot_of_none {s : State} (hf : s.upd.fallback = none) : confirmBoot s = s := by
  simp only [confirmBoot, hf]

theorem resumeEpoch_congr {s t : State} (h : t.img.stored = s.img.stored) : resumeEpoch t = resumeEpoch s := by
  rw [resumeEpoch, h, resumeEpoch]

/-- The module takes its settings, and the next start value above the stored epoch (R21). -/
theorem startPart_configure (isPowerUp : Bool) {s : State} (hf : s.upd.fallback = none) :
    startPart (configure isPowerUp s) =
      { startPart s with epoch := resumeEpoch s, mirrored := resumeEpoch s, stored := resumeEpoch s } := by
  unfold configure
  extract_lets enforced built served access exchanged cleared
  have enforced_eq : startPart enforced = startPart s := by
    unfold enforced
    rw [confirmBoot_of_none (congrArg StartPart.fallback (startPart_judgeSettings s) |>.trans hf)]
    simp
  have built_eq : startPart built = startPart enforced := startPart_buildNodes _
  have served_eq : startPart served = startPart built := by simp [served]
  have exchanged_eq : startPart exchanged = startPart served := (startPart_exchangeLanes ..).trans (startPart_onKeeper served)
  have unforced : startPart cleared = startPart exchanged := startPart_ite (startPart_clearForces ..) rfl
  have cleared_eq : startPart cleared = startPart s := by rw [unforced, exchanged_eq, served_eq, built_eq, enforced_eq]
  have stored : resumeEpoch cleared = resumeEpoch s := resumeEpoch_congr (congrArg StartPart.stored cleared_eq)
  calc startPart (startEpoch cleared)
      = { startPart cleared with epoch := resumeEpoch cleared, mirrored := resumeEpoch cleared, stored := resumeEpoch cleared } := rfl
    _ = _ := by rw [cleared_eq, stored]

@[simp] theorem startPart_chooseReference (s : State) : startPart (chooseReference s) = startPart s := rfl

@[simp] theorem startPart_endActivations (s : State) : startPart (endActivations s) = startPart s := by
  unfold endActivations
  refine startPart_foldl (fun u e => ?_) ..
  exact startPart_ite ((startPart_jend ..).trans (startPart_jmod ..)) (startPart_jend ..)

/-! ### `HELD` -/

@[simp] theorem startPart_restartEvent (s : State) : startPart (restartEvent s) = { startPart s with restartCause := 0 } := by
  unfold restartEvent
  extract_lets cause noted
  have noted_eq : startPart noted = { startPart s with restartCause := 0 } := rfl
  rw [← noted_eq]
  exact startPart_ite (startPart_stage ..) rfl

@[simp] theorem startPart_reachHeld (s : State) : startPart (reachHeld s) = { startPart s with state := .held, up := true } := by
  rw [reachHeld, startPart_setPower, startPart_enterState, startPart_yieldStages]
  rfl

theorem power_setPower (p : PowerState) (cause : Nat) (s : State) : (setPower p cause s).mod.power = p := by
  unfold setPower
  split
  · next same => exact same
  · rfl

theorem settings_setPower (p : PowerState) (cause : Nat) (s : State) : (setPower p cause s).settings = s.settings := by
  unfold setPower
  split <;> rfl

theorem settings_safeAio (c : Fin 8) (s : State) : (safeAio c s).settings = s.settings := by
  unfold safeAio
  split
  · rfl
  · split <;> rfl

theorem settings_endTrims (s : State) : (endTrims s).settings = s.settings :=
  List.foldlRecOn (motive := fun u : State => u.settings = s.settings) _ _ rfl fun _ kept _ _ =>
    (settings_safeAio ..).trans ((keeperWork_jend ..).settings_eq.trans ((keeperWork_jmod ..).settings_eq.trans kept))

theorem settings_enterState (new : ModState) (cause : SwitchCause) (s : State) : (enterState new cause s).settings = s.settings := by
  unfold enterState
  extract_lets old entered noted powered zeroed
  split
  · rfl
  · have noted_eq : noted.settings = s.settings := by
      unfold noted
      split <;> rfl
    have powered_eq : powered.settings = noted.settings := by
      unfold powered
      split
      · exact settings_setPower ..
      · rfl
    have zeroed_eq : zeroed.settings = powered.settings := by
      unfold zeroed
      split <;> rfl
    rw [settings_endTrims, zeroed_eq, powered_eq, noted_eq]

theorem defaultPower_congr {s t : State} (h : t.settings = s.settings) : defaultPower t = defaultPower s := by
  have value : cfg t P.pwrDefault = cfg s P.pwrDefault := by rw [cfg, settingBytes, h, cfg, settingBytes]
  rw [defaultPower, value, defaultPower]

/-- `HELD` is entered in the power state that the settings give (R386). -/
theorem power_reachHeld (s : State) : (reachHeld s).mod.power = defaultPower (reachHeld s) := by
  unfold reachHeld
  extract_lets yielded
  have same : (setPower (defaultPower yielded) 3 (enterState .held .none yielded)).settings = yielded.settings :=
    (settings_setPower ..).trans (settings_enterState ..)
  rw [power_setPower, defaultPower_congr same]

/-! ### A start that comes through -/

section
variable {s : State}

theorem resumeWipe_of_none (hp : s.sec.wipePending = false ∨ s.sec.lifecycle = .returned) : resumeWipe s = s := by
  rcases hp with none | done
  · simp [resumeWipe, none]
  · simp [resumeWipe, done]

/-- Self-test and configuration bring a module to `HELD`, whatever the runs found. -/
theorem finishStart_eq (isPowerUp : Bool) (runs : List BistRun) (hw : s.sec.wipeFailed = false)
    (hp : s.sec.wipePending = false ∨ s.sec.lifecycle = .returned) (hf : s.upd.fallback = none) :
    ∃ x, finishStart isPowerUp runs s = reachHeld x ∧
      startPart x = { startPart s with restartCause := 0, epoch := resumeEpoch s, mirrored := resumeEpoch s, stored := resumeEpoch s } := by
  unfold finishStart
  extract_lets tested ready wiped
  have tested_eq : startPart tested = startPart s := by simp [tested]
  have fallback : tested.upd.fallback = none := (congrArg StartPart.fallback tested_eq).trans hf
  have epoch : resumeEpoch tested = resumeEpoch s := resumeEpoch_congr (congrArg StartPart.stored tested_eq)
  have ready_eq : startPart ready = { startPart s with epoch := resumeEpoch s, mirrored := resumeEpoch s, stored := resumeEpoch s } := by
    rw [startPart_endActivations, startPart_chooseReference, startPart_configure isPowerUp fallback, tested_eq, epoch]
  have sec : ready.sec = s.sec := congrArg StartPart.sec ready_eq
  have wiped_eq : wiped = ready := resumeWipe_of_none (by rw [sec]; exact hp)
  have whole : wiped.sec.wipeFailed = false := by rw [wiped_eq, sec]; exact hw
  refine ⟨restartEvent wiped, if_neg (by rw [whole]; exact Bool.false_ne_true), ?_⟩
  rw [startPart_restartEvent, wiped_eq, ready_eq]

theorem bootFirmware_of_boots (hb : Boots s) : bootFirmware s = some s := by
  obtain ⟨-, -, hf, hd, hp⟩ := hb
  have boots : secureBoot s = some s := if_pos ⟨hd, hp⟩
  simp only [bootFirmware, boots]
  exact if_neg (by simp [trialUnreadable, hf])

theorem startPart_raiseRestart (s : State) : startPart (raiseInt intRestart s) = { startPart s with restarted := true } := by
  rw [← intStat_raiseInt (n := intRestart) (by decide) s]
  rfl

/-- The Keeper of a module that starts runs, and shows its restart. -/
theorem startPart_startKeeper (s : State) : startPart (startKeeper s) = { startPart s with state := .selftest, running := true, restarted := true } := by
  rw [startKeeper, startPart_enterState, startPart_raiseRestart]
  rfl

/-- What a start from secure boot on leaves. -/
def startedPart (s : State) : StartPart :=
  { startPart s with state := .held, running := true, restarted := true, restartCause := 0, up := true, epoch := resumeEpoch s, mirrored := resumeEpoch s,
                     stored := resumeEpoch s }

/-- A module whose boot slot passes comes to `HELD` (R365, R366). -/
theorem startUp_of_boots (isPowerUp : Bool) (runs : List BistRun) (hb : Boots s) :
    startPart (startUp isPowerUp runs s) = startedPart s ∧
    (startUp isPowerUp runs s).mod.power = defaultPower (startUp isPowerUp runs s) := by
  obtain ⟨hw, hp, hf, -⟩ := id hb
  have keeper := startPart_startKeeper s
  have sec : (startKeeper s).sec = s.sec := congrArg StartPart.sec keeper
  obtain ⟨x, finish, x_eq⟩ := finishStart_eq (s := startKeeper s) isPowerUp runs (by rw [sec]; exact hw) (by rw [sec]; exact hp)
    ((congrArg StartPart.fallback keeper).trans hf)
  have epoch : resumeEpoch (startKeeper s) = resumeEpoch s := resumeEpoch_congr (congrArg StartPart.stored keeper)
  have starts : startUp isPowerUp runs s = reachHeld x := by
    rw [startUp, if_neg (by rw [hw]; exact Bool.false_ne_true), bootFirmware_of_boots hb]
    exact finish
  rw [starts]
  refine ⟨?_, power_reachHeld x⟩
  rw [startPart_reachHeld, x_eq, keeper, epoch]
  rfl

/-- A module without a slot that passes stays where it is (R365). -/
theorem startUp_of_no_slot (isPowerUp : Bool) (runs : List BistRun) (h0 : slotPasses s 0 = false) (h1 : slotPasses s 1 = false) :
    startUp isPowerUp runs s = s := by
  have fails (n : Fin 2) : slotPasses s n = false := by
    match n with
    | 0 => exact h0
    | 1 => exact h1
  have none_boots : secureBoot s = none := by simp [secureBoot, fails]
  simp [startUp, bootFirmware, none_boots]

end

end Sys2Proof.Machine
end

section
/-! Power-up, restarts and the end of a hold (R364 to R366, R374, R396, R438, R464). -/

namespace Sys2Proof.Machine
open Sys2Proof

/-! ### Sessions that end -/

/-- From `s` to `t` only the Keeper, the staged settings, the update and the drawn values changed. -/
abbrev SessionWork (s t : State) : Prop := t = { s with keeper := t.keeper, settings := t.settings, upd := t.upd, drawn := t.drawn }

theorem SessionWork.trans {s t u : State} (h : SessionWork s t) (k : SessionWork t u) : SessionWork s u := by
  rw [k, h]

/-- The lease and the subscriptions of a session that ends. -/
def leftSession (id : Nat) (s : State) : State :=
  let left := match s.upd.lease with
    | some l => if l.session = id then leaveLease s else s
    | none => s
  let mine := left.keeper.subscriptions.filter fun x => x.hdr.session == id
  mine.foldl (fun s x => match x.hdr.src with
    | .mailbox n => onMailbox n (fun b => { b with subscribed := false }) s
    | .net _ => s) left

theorem endSession_eq (id : Nat) (s : State) : endSession id s =
    onSettings (fun t => { t with staged := tdel id t.staged }) (onKeeper (fun k =>
      { k with subscriptions := k.subscriptions.filter fun x => x.hdr.session != id,
               exports := k.exports.filter fun x => x.session != id }) (leftSession id s)) := rfl

/-- What holds of a state, and stays when an update lease goes or a mailbox is freed, holds once a session was left. -/
theorem leftSession_of {motive : State → Prop} {s : State} (id : Nat) (hs : motive s)
    (lease : motive s → motive (onUpd (fun u => { u with lease := none }) s))
    (free : ∀ n u, motive u → motive (onMailbox n (fun b => { b with subscribed := false }) u)) : motive (leftSession id s) := by
  unfold leftSession
  extract_lets left mine
  have hl : motive left := by
    unfold left
    split
    · split
      · unfold leaveLease
        split
        · exact hs
        · exact lease hs
      · exact hs
    · exact hs
  refine List.foldlRecOn (motive := motive) _ _ hl fun u hu x _ => ?_
  split
  · exact free _ u hu
  · exact hu

theorem startPart_onUpd {g : Update → Update} (s : State)
    (hg : ∀ u, (g u).slots = u.slots ∧ (g u).bootSlot = u.bootSlot ∧ (g u).fallback = u.fallback ∧ (g u).pairUpdate = u.pairUpdate := by
      exact fun _ => ⟨rfl, rfl, rfl, rfl⟩) : startPart (onUpd g s) = startPart s := by
  obtain ⟨slots, boot, fallback, pair⟩ := hg s.upd
  simp only [startPart, onUpd_mod, onUpd_img, onUpd_ctl, onUpd_tow, onUpd_keeper, onUpd_deferred, onUpd_path, onUpd_refs, onUpd_upd,
    onUpd_sec, slots, boot, fallback, pair]

@[simp] theorem startPart_endSession (id : Nat) (s : State) : startPart (endSession id s) = startPart s := by
  have left : startPart (leftSession id s) = startPart s :=
    leftSession_of (motive := fun u => startPart u = startPart s) id rfl (startPart_onUpd s).trans
      fun n u kept => (startPart_onMailbox n u).trans kept
  rw [endSession_eq, startPart_onSettings, startPart_onKeeper, left]

theorem endSession_sessionWork (id : Nat) (s : State) : SessionWork s (endSession id s) := by
  have left : SessionWork s (leftSession id s) :=
    leftSession_of (motive := SessionWork s) id rfl (fun _ => rfl) fun n u kept => kept.trans rfl
  exact left.trans rfl

theorem conns_endSession (id : Nat) (s : State) : (endSession id s).keeper.conns = s.keeper.conns :=
  leftSession_of (motive := fun u => u.keeper.conns = s.keeper.conns) id rfl (fun kept => kept) fun _ _ kept => kept

@[simp] theorem startPart_endConns (s : State) : startPart (endConns s) = startPart s :=
  startPart_foldl (fun u id => (startPart_onKeeper (endSession id u)).trans (startPart_endSession ..)) ..

theorem endConns_sessionWork (s : State) : SessionWork s (endConns s) :=
  List.foldlRecOn (motive := SessionWork s) _ _ rfl fun u kept id _ => kept.trans ((endSession_sessionWork id u).trans rfl)

/-- No connection is left. -/
theorem conns_endConns (s : State) : (endConns s).keeper.conns = [] := by
  have left (ids : List Nat) (u : State) :
      (ids.foldl (fun s id => endConn id s) u).keeper.conns = u.keeper.conns.filter fun c => !ids.contains c.session := by
    induction ids generalizing u with
    | nil => simp
    | cons id ids ih =>
      rw [List.foldl_cons, ih, endConn, onKeeper_keeper, conns_endSession, List.filter_filter]
      congr 1
      funext c
      cases e : c.session == id <;> simp_all
  rw [endConns, left, List.filter_eq_nil_iff]
  intro c hc
  simpa using ⟨c, hc, rfl⟩

@[simp] theorem startPart_endPcie (s : State) : startPart (endPcie s) = startPart s :=
  (startPart_onKeeper _).trans ((startPart_draw _).trans ((startPart_onKeeper _).trans (startPart_endSession ..)))

@[simp] theorem startPart_endSpi (s : State) : startPart (endSpi s) = startPart s :=
  (startPart_onKeeper _).trans ((startPart_draw _).trans ((startPart_onKeeper _).trans (startPart_endSession ..)))

/-! ### Requests that waited -/

theorem takeMailbox_of_idle {n : Fin 8} {s : State} (hn : s.keeper.mailboxes[n].dbReq = false) : takeMailbox n s = s :=
  if_pos (.inl hn)

theorem servePending_of_nothingWaits {s : State} (h : NothingWaits s) : servePending s = s := by
  obtain ⟨none_deferred, idle⟩ := h
  have served : serveDeferred s = s := by
    rw [serveDeferred, none_deferred, List.foldl_nil, ← none_deferred]
  unfold servePending
  split
  · rfl
  · rw [served]
    exact List.foldl_fixed' (fun n => takeMailbox_of_idle (idle n)) _

theorem nothingWaits_congr {s t : State} (hw : (startPart t).waiting = (startPart s).waiting) (hd : t.deferred = s.deferred)
    (h : NothingWaits s) : NothingWaits t :=
  ⟨hd.trans h.1, fun n => (congrFun hw n).trans (h.2 n)⟩

/-! ### Secure boot of a module that is otherwise changed -/

theorem slotPasses_congr {s t : State} (hs : t.sec = s.sec) (hu : t.upd.slots = s.upd.slots) (n : Fin 2) : slotPasses t n = slotPasses s n := by
  unfold slotPasses signatureOk headerKey slotEmpty slotKey keySlotAt hdrLifecycleOk
  rw [hs, hu]

theorem boots_congr {s t : State} (h : startPart t = { startPart s with path := t.path }) (hb : Boots s) : Boots t := by
  obtain ⟨hw, hp, hf, hd, hpass⟩ := hb
  have sec : t.sec = s.sec := congrArg StartPart.sec h
  have slots : t.upd.slots = s.upd.slots := congrArg StartPart.slots h
  have boot : t.upd.bootSlot = s.upd.bootSlot := congrArg StartPart.bootSlot h
  refine ⟨sec ▸ hw, sec ▸ hp, (congrArg StartPart.fallback h).trans hf, ?_, ?_⟩
  · simpa only [slots, boot] using hd
  · rw [boot, slotPasses_congr sec slots]
    exact hpass

/-! ### Power-up, R364 to R366 -/

section
variable {t : Nat} {feed : Fin 2} {hi hold : Bool} {microF : Nat} {runs : List BistRun} {s : State}

/-- The module with its power taken, its journal restored and its sessions begun anew. -/
def poweredUp (feed : Fin 2) (hi hold : Bool) (microF : Nat) (s : State) : State :=
  endSpi (endPcie (startMonitor (reportLost (restoreJournal (measureHoldup microF (takePower feed hi hold s))))))

theorem exec_powerUp_of_powered (hp : s.path.powered = true) :
    Machine.exec (.powerUp t feed hi hold microF runs) s = .next (atTime t s) :=
  congrArg Host.Outcome.next (if_pos (c := (atTime t s).path.powered = true) hp)

theorem exec_powerUp_of_off (hp : s.path.powered = false) :
    Machine.exec (.powerUp t feed hi hold microF runs) s = .next
      (if (poweredUp feed hi hold microF (atTime t s)).sec.lifecycle = .blank ∧ hold = true ∧
          (poweredUp feed hi hold microF (atTime t s)).sec.wipeFailed = false
        then holdForDebug (poweredUp feed hi hold microF (atTime t s)) else startUp true runs (poweredUp feed hi hold microF (atTime t s))) :=
  congrArg Host.Outcome.next (if_neg (c := (atTime t s).path.powered = true) (by rw [show (atTime t s).path.powered = false from hp]; exact Bool.false_ne_true))

theorem startPart_poweredUp (feed : Fin 2) (hi hold : Bool) (microF : Nat) (s : State) :
    startPart (poweredUp feed hi hold microF s) =
      { startPart s with path := (restoreJournal (measureHoldup microF (takePower feed hi hold s))).path } := by
  have monitor (u : State) : startPart (startMonitor u) = startPart u := startPart_ite rfl (startPart_resetMonitor ..)
  have lost (u : State) : startPart (reportLost u) = startPart u := startPart_ite rfl (startPart_onRecd ..)
  rw [poweredUp, startPart_endSpi, startPart_endPcie, monitor, lost]
  rfl

theorem leads_powerUp (hp : s.path.powered = false) (hb : Boots s) (hh : s.sec.lifecycle = .blank → hold = false) :
    Leads (.powerUp t feed hi hold microF runs) s fun s' => s'.path.powered = true ∧ s'.mod.state = .held ∧ s'.mod.power = defaultPower s' ∧
      s'.img.epoch = resumeEpoch s ∧ s'.img.mirrored = resumeEpoch s ∧ s'.keeper.running = true ∧
      s'.keeper.intStat.getLsbD intRestart = true ∧ s'.tow.up = true ∧
      s'.path.powerCycles = sat32 (max s.path.powerCycles s.path.mramCycles + 1) := by
  have run := exec_powerUp_of_off (t := t) (feed := feed) (hi := hi) (hold := hold) (microF := microF) (runs := runs) hp
  have powered := startPart_poweredUp feed hi hold microF (atTime t s)
  generalize poweredUp feed hi hold microF (atTime t s) = x at run powered
  have path : x.path = _ := congrArg StartPart.path powered
  have boots : Boots x := boots_congr (s := s) (powered.trans (by rw [path]; rfl)) hb
  have free : ¬(x.sec.lifecycle = .blank ∧ hold = true ∧ x.sec.wipeFailed = false) := by
    rintro ⟨blank, held, -⟩
    rw [hh ((congrArg (fun p : StartPart => p.sec.lifecycle) powered).symm.trans blank)] at held
    cases held
  rw [if_neg free] at run
  obtain ⟨started, power⟩ := startUp_of_boots true runs boots
  have epoch : resumeEpoch x = resumeEpoch s := resumeEpoch_congr (congrArg StartPart.stored powered)
  have same : (startUp true runs x).path = x.path := congrArg StartPart.path started
  refine ⟨_, run, ?_, congrArg StartPart.state started, power, (congrArg StartPart.epoch started).trans epoch,
    (congrArg StartPart.mirrored started).trans epoch, congrArg StartPart.running started, congrArg StartPart.restarted started,
    congrArg StartPart.up started, ?_⟩
  · rw [same, path]
    rfl
  · rw [same, path]
    rfl

theorem leads_powerUp_held (hp : s.path.powered = false) (hb : Boots s) (hl : s.sec.lifecycle = .blank) (hh : hold = true) :
    Leads (.powerUp t feed hi hold microF runs) s fun s' => s'.sec.bistHeld = true ∧ s'.mod.state = .selftest ∧ s'.keeper.running = true := by
  have run := exec_powerUp_of_off (t := t) (feed := feed) (hi := hi) (hold := hold) (microF := microF) (runs := runs) hp
  have powered := startPart_poweredUp feed hi hold microF (atTime t s)
  generalize poweredUp feed hi hold microF (atTime t s) = x at run powered
  have path : x.path = _ := congrArg StartPart.path powered
  have boots : Boots x := boots_congr (s := s) (powered.trans (by rw [path]; rfl)) hb
  have held : x.sec.lifecycle = .blank ∧ hold = true ∧ x.sec.wipeFailed = false :=
    ⟨(congrArg (fun p : StartPart => p.sec.lifecycle) powered).trans hl, hh, boots.1⟩
  have waits : holdForDebug x = onSec (fun c => { c with bistHeld := true }) (startKeeper x) := by
    simp only [holdForDebug, bootFirmware_of_boots boots]
  rw [if_pos held, waits] at run
  have keeper := startPart_startKeeper x
  exact ⟨_, run, rfl, congrArg StartPart.state keeper, congrArg StartPart.running keeper⟩

theorem leads_powerUp_stays (hp : s.path.powered = false) (hl : s.sec.lifecycle ≠ .blank) (h0 : slotPasses s 0 = false)
    (h1 : slotPasses s 1 = false) : Leads (.powerUp t feed hi hold microF runs) s fun s' =>
      s'.mod.state = s.mod.state ∧ s'.keeper.running = s.keeper.running ∧ s'.path.powered = true := by
  have run := exec_powerUp_of_off (t := t) (feed := feed) (hi := hi) (hold := hold) (microF := microF) (runs := runs) hp
  have powered := startPart_poweredUp feed hi hold microF (atTime t s)
  generalize poweredUp feed hi hold microF (atTime t s) = x at run powered
  have sec : x.sec = s.sec := congrArg StartPart.sec powered
  have fails (n : Fin 2) : slotPasses x n = slotPasses s n := slotPasses_congr sec (congrArg StartPart.slots powered) n
  rw [if_neg (by rw [sec]; exact fun held => hl held.1), startUp_of_no_slot true runs ((fails 0).trans h0) ((fails 1).trans h1)] at run
  exact ⟨_, run, congrArg StartPart.state powered, congrArg StartPart.running powered, congrArg (fun p : StartPart => p.path.powered) powered⟩

end

end Sys2Proof.Machine
end

section
/-! Restarts, the Keeper's own restart and the end of a hold (R10, R364, R366, R374, R396, R438, R464). -/

namespace Sys2Proof.Machine
open Sys2Proof

section
variable {t : Nat} {runs : List BistRun} {s : State}

/-! ### Restarts -/

theorem releaseAfterUpdate_of_none (hp : s.upd.pairUpdate = none) : releaseAfterUpdate s = s := by
  simp only [releaseAfterUpdate, hp]

/-- The module after the start of a restart: no update drives it on and no request waits. -/
theorem restart_settles {x y : State} (hx : startPart x = startedPart y) (hw : NothingWaits y) (hp : y.upd.pairUpdate = none) :
    servePending (releaseAfterUpdate x) = x := by
  have waiting : (startPart x).waiting = (startPart y).waiting := by rw [hx]; rfl
  rw [releaseAfterUpdate_of_none ((congrArg StartPart.pairUpdate hx).trans hp)]
  exact servePending_of_nothingWaits (nothingWaits_congr waiting (congrArg StartPart.deferred hx) hw)

theorem exec_restart (hr : resetOver s = true) (hl : s.refs.latchedLost = false) :
    Machine.exec (.restart t runs) s = .next (runRestart runs (atTime t s)) := by
  refine congrArg Host.Outcome.next (if_pos ?_)
  rw [show resetOver (atTime t s) = true from hr, show (atTime t s).refs.latchedLost = false from hl]
  rfl

theorem exec_restart_of_lost (hl : s.refs.latchedLost = true) : Machine.exec (.restart t runs) s = .next (atTime t s) := by
  refine congrArg Host.Outcome.next (if_neg ?_)
  rw [show (atTime t s).refs.latchedLost = true from hl, Bool.not_true, Bool.and_false]
  exact Bool.false_ne_true

theorem leads_restart (hr : resetOver s = true) (hb : Boots s) (hw : NothingWaits s) (hp : s.upd.pairUpdate = none)
    (hl : s.refs.latchedLost = false) :
    Leads (.restart t runs) s fun s' => s'.mod.state = .held ∧ s'.mod.restarting = false ∧ s'.img.epoch = resumeEpoch s ∧
      s'.keeper.running = true ∧ s'.tow.up = true ∧ s'.path.powerCycles = s.path.powerCycles := by
  have run := exec_restart (t := t) (runs := runs) hr hl
  generalize hy : onMod (fun m => { m with restarting := false }) (atTime t s) = y
  have out : startPart y = { startPart s with restarting := false } := by rw [← hy]; rfl
  have boots : Boots y := by rw [← hy]; exact hb
  obtain ⟨started, -⟩ := startUp_of_boots false runs boots
  have settles : runRestart runs (atTime t s) = startUp false runs y := by
    rw [runRestart, hy]
    exact restart_settles started (by rw [← hy]; exact hw) (by rw [← hy]; exact hp)
  rw [settles] at run
  have epoch : resumeEpoch y = resumeEpoch s := resumeEpoch_congr (congrArg StartPart.stored out)
  exact ⟨_, run, congrArg StartPart.state started,
    (congrArg StartPart.restarting started).trans (congrArg StartPart.restarting out), (congrArg StartPart.epoch started).trans epoch,
    congrArg StartPart.running started, congrArg StartPart.up started,
    congrArg Towpath.powerCycles ((congrArg StartPart.path started).trans (congrArg StartPart.path out))⟩

/-- The module with its reference back, recorded, as it leaves `BOOT`. -/
def recovered (s : State) : State :=
  let back := onRefs (fun x => { x with latchedLost := false }) s
  onMod (fun m => { m with restarting := false })
    (stage 0x0E03 (srcClock back.refs.inUse.val) [(freeWord back).setWidth 8] (draw back))

theorem exec_refRecovered {r : Fin 2} (hr : resetOver s = true) (hl : s.refs.latchedLost = true) :
    Machine.exec (.refRecovered t r runs) s = .next (servePending (releaseAfterUpdate
      (onRefs (fun x => { x with inUse := r }) (startUp false runs (recovered (atTime t s)))))) := by
  refine congrArg Host.Outcome.next (if_pos ?_)
  rw [show resetOver (atTime t s) = true from hr, show (atTime t s).refs.latchedLost = true from hl]
  rfl

theorem startPart_recovered (s : State) : startPart (recovered s) = { startPart s with restarting := false, latchedLost := false } := rfl

theorem leads_refRecovered {r : Fin 2} (hr : resetOver s = true) (hb : Boots s) (hw : NothingWaits s) (hp : s.upd.pairUpdate = none)
    (hl : s.refs.latchedLost = true) :
    Leads (.refRecovered t r runs) s fun s' => s'.mod.state = .held ∧ s'.mod.restarting = false ∧ s'.refs.latchedLost = false ∧
      s'.refs.inUse = r ∧ s'.img.epoch = resumeEpoch s := by
  have run := exec_refRecovered (t := t) (r := r) (runs := runs) hr hl
  have out := startPart_recovered (atTime t s)
  generalize hy : recovered (atTime t s) = y at run out
  have boots : Boots y := by rw [← hy]; exact hb
  obtain ⟨started, -⟩ := startUp_of_boots false runs boots
  have switched : startPart (onRefs (fun x => { x with inUse := r }) (startUp false runs y)) = startedPart y := started
  rw [restart_settles switched (by rw [← hy]; exact hw) (by rw [← hy]; exact hp)] at run
  have epoch : resumeEpoch y = resumeEpoch s := resumeEpoch_congr (congrArg StartPart.stored out)
  exact ⟨_, run, congrArg StartPart.state started,
    (congrArg StartPart.restarting started).trans (congrArg StartPart.restarting out),
    (congrArg StartPart.latchedLost started).trans (congrArg StartPart.latchedLost out), rfl, (congrArg StartPart.epoch started).trans epoch⟩

/-! ### The Keeper's own restart -/

theorem leads_keeperLockstepError (hk : keeperUp s = true) :
    Leads (.keeperLockstepError t) s fun s' => s'.keeper.running = false ∧ s'.keeper.restartCause = 0 ∧ s'.keeper.conns = [] ∧
      s'.sec.nonces = [] ∧ s'.sec.session = none ∧ s'.ctl.execs = s.ctl.execs ∧ s'.ctl.tasks = s.ctl.tasks ∧ s'.img = s.img ∧
      s'.field = s.field ∧ s'.mod = s.mod := by
  have run : Machine.exec (.keeperLockstepError t) s = .next (pauseKeeper 0 (atTime t s)) :=
    congrArg Host.Outcome.next (if_pos (c := keeperUp (atTime t s) = true) hk)
  have work := endConns_sessionWork (atTime t s)
  have execs : (endConns (atTime t s)).ctl.execs = s.ctl.execs := by rw [work]; rfl
  have tasks : (endConns (atTime t s)).ctl.tasks = s.ctl.tasks := by rw [work]; rfl
  have img : (endConns (atTime t s)).img = s.img := by rw [work]; rfl
  have field : (endConns (atTime t s)).field = s.field := by rw [work]; rfl
  have mod : (endConns (atTime t s)).mod = s.mod := by rw [work]; rfl
  exact ⟨_, run, rfl, rfl, conns_endConns _, rfl, rfl, execs, tasks, img, field, mod⟩

@[simp] theorem startPart_cutApply (s : State) : startPart (cutApply s) = startPart s := by
  unfold cutApply
  split
  · rfl
  · exact (startPart_onUpd _).trans ((startPart_jmod ..).trans (startPart_draw s))

/-- The state of the module and what it executes. -/
def runPart (s : State) : ModState × List Exec := (s.mod.state, s.ctl.execs)

theorem runPart_of_startPart {s u : State} (h : startPart u = startPart s) : runPart u = runPart s :=
  congrArg (fun p : StartPart => (p.state, p.execs)) h

theorem runPart_onKeeper (g : Keeper → Keeper) (s : State) : runPart (onKeeper g s) = runPart s := rfl

theorem runPart_abandonMigration (s : State) : runPart (abandonMigration s) = runPart s := rfl

theorem runPart_clearControl (s : State) : runPart (clearControl s) = ((runPart s).1, []) := rfl

theorem runPart_clearLinks (s : State) : runPart (clearLinks s) = runPart s := rfl

theorem runPart_clearKeeper (s : State) : runPart (clearKeeper s) = runPart s := by
  have closed : startPart (endConns (endSpi (endPcie s))) = startPart s := by simp
  exact (show runPart (clearKeeper s) = runPart (endConns (endSpi (endPcie s))) from rfl).trans (runPart_of_startPart closed)

theorem runPart_cutJournal (keep : JnlEntry → Bool) (s : State) : runPart (cutJournal keep s) = runPart s := rfl

theorem runPart_clearDebug (s : State) : runPart (clearDebug s) = runPart s := rfl

theorem runPart_enterState (new : ModState) (cause : SwitchCause) (s : State) : (runPart (enterState new cause s)).1 = new :=
  congrArg StartPart.state (startPart_enterState new cause s)

/-- The die that is reset runs nothing and is in `BOOT`. -/
theorem runPart_collapse (s : State) : runPart (collapse s) = (.boot, []) := by
  unfold collapse
  extract_lets ended entered emptied cut silenced cleared
  have entered_eq : (runPart entered).1 = .boot := runPart_enterState ..
  have emptied_eq : runPart emptied = runPart entered := runPart_onKeeper _ entered
  have cut_eq : runPart cut = runPart emptied := (runPart_cutJournal ..).trans (runPart_of_startPart (startPart_cutApply emptied))
  have silenced_eq : runPart silenced = (.boot, []) := by
    rw [runPart_of_startPart (startPart_silenceField ..), runPart_clearControl, runPart_abandonMigration, cut_eq, emptied_eq, entered_eq]
  have cleared_eq : runPart cleared = (.boot, []) := by
    rw [runPart_clearDebug, runPart_clearKeeper, runPart_clearLinks, silenced_eq]
  clear_value cleared
  exact cleared_eq

theorem leads_keeperWatchdog (hk : keeperUp s = true) :
    Leads (.keeperWatchdog t) s fun s' => s'.mod.restarting = true ∧ s'.mod.state = .boot ∧ s'.keeper.restartCause = 1 ∧ s'.ctl.execs = [] := by
  have run : Machine.exec (.keeperWatchdog t) s = .next (beginRestart 1 (atTime t s)) :=
    congrArg Host.Outcome.next (if_pos (c := keeperUp (atTime t s) = true) hk)
  have reset := runPart_collapse (atTime t s)
  rw [beginRestart] at run
  generalize collapse (atTime t s) = x at run reset
  exact ⟨_, run, rfl, congrArg Prod.fst reset, rfl, congrArg Prod.snd reset⟩

theorem keeperWork_endActivations (s : State) : KeeperWork s (endActivations s) := by
  unfold endActivations
  refine List.foldlRecOn (motive := KeeperWork s) _ _ rfl fun u kept e _ => kept.trans ?_
  split
  · exact (keeperWork_jmod ..).trans (keeperWork_jend ..)
  · exact keeperWork_jend ..

/-- The Keeper runs again, with its restart shown and recorded. -/
def keeperResumed (s : State) : State :=
  let runs := raiseInt intRestart (onKeeper (fun k => { k with running := true, restartCause := 0 }) s)
  stage 0x0101 srcModule ([byteOf s.keeper.restartCause] ++ le4 (keeperVersion runs)) runs

theorem resumeKeeper_eq (hf : s.upd.fallback = none) : resumeKeeper s = servePending (endActivations (keeperResumed s)) := by
  rw [resumeKeeper, confirmBoot_of_none hf]
  rfl

theorem startPart_keeperResumed (s : State) :
    startPart (keeperResumed s) = { startPart s with running := true, restarted := true, restartCause := 0 } := by
  rw [keeperResumed, startPart_stage, startPart_raiseRestart]
  rfl

theorem leads_keeperRestartComplete (hp : s.path.powered = true) (hk : s.keeper.running = false) (hr : s.mod.restarting = false)
    (hm : s.mod.state ≠ .boot) (hf : s.upd.fallback = none) (hw : NothingWaits s) :
    Leads (.keeperRestartComplete t) s fun s' => s'.keeper.running = true ∧ s'.keeper.intStat.getLsbD intRestart = true ∧
      s'.keeper.restartCause = 0 ∧ s'.mod = s.mod ∧ s'.ctl = s.ctl ∧ s'.img = s.img := by
  have may : ((atTime t s).path.powered && !(atTime t s).keeper.running && !(atTime t s).mod.restarting && (atTime t s).mod.state != .boot) = true := by
    show (s.path.powered && !s.keeper.running && !s.mod.restarting && s.mod.state != .boot) = true
    simp [hp, hk, hr, hm]
  have readable : ¬trialUnreadable (atTime t s) = true := by
    simp [trialUnreadable, hf]
  have run : Machine.exec (.keeperRestartComplete t) s = .next (resumeKeeper (atTime t s)) :=
    congrArg Host.Outcome.next ((if_pos may).trans (if_neg readable))
  have resumed := (startPart_endActivations (keeperResumed (atTime t s))).trans (startPart_keeperResumed (atTime t s))
  have work := keeperWork_endActivations (keeperResumed (atTime t s))
  rw [resumeKeeper_eq (s := atTime t s) hf] at run
  generalize endActivations (keeperResumed (atTime t s)) = x at run resumed work
  have waiting : (startPart x).waiting = (startPart s).waiting := by rw [resumed]; rfl
  rw [servePending_of_nothingWaits (nothingWaits_congr waiting (congrArg StartPart.deferred resumed) hw)] at run
  exact ⟨_, run, congrArg StartPart.running resumed, congrArg StartPart.restarted resumed, congrArg StartPart.restartCause resumed,
    work.mod_eq, work.ctl_eq, work.img_eq⟩

/-! ### The end of a hold -/

theorem startPart_abortAllBackground (s : State) : startPart (abortAllBackground s) = startPart s := by
  unfold abortAllBackground
  exact startPart_foldl (fun u b => startPart_abortBackground b u) ..

theorem startPart_suspendJoin {s : State} (hm : s.mod.state ≠ .ready) : startPart (suspendJoin s) = startPart s := by
  unfold suspendJoin
  extract_lets stopped unpaired settled
  have stopped_eq : startPart stopped = startPart s := startPart_abortAllBackground s
  clear_value stopped
  have state : stopped.mod.state ≠ .ready := fun h => hm ((congrArg StartPart.state stopped_eq).symm.trans h)
  have settled_eq : settled = stopped := if_neg state
  rw [settled_eq]
  split
  · exact (startPart_jend ..).trans ((startPart_onPair ..).trans stopped_eq)
  · exact stopped_eq

theorem startPart_clearDebug (s : State) : startPart (clearDebug s) = { startPart s with sec := (clearDebug s).sec } := rfl

/-- A session that opens in `HELD` changes the security unit and nothing else of a start; a hold stays what it was. -/
theorem startPart_openSession (level : DbgLevel) (slot : Option (Fin 4)) {s : State} (hm : s.mod.state = .held) :
    ∃ x : Security, x.bistHeld = s.sec.bistHeld ∧ startPart (openSession level slot s) = { startPart s with sec := x } := by
  have state : s.mod.state ≠ .ready := by rw [hm]; decide
  unfold openSession
  extract_lets closed session opened
  have opened_eq : startPart opened = { startPart s with sec := opened.sec } := rfl
  have held : opened.sec.bistHeld = s.sec.bistHeld := rfl
  have joined : startPart (suspendJoin opened) = startPart opened := startPart_suspendJoin state
  clear_value opened
  refine ⟨opened.sec, held, ?_⟩
  rw [← opened_eq]
  exact startPart_ite joined rfl

/-- The module in a hold, as BIST_GO lets it go on. -/
def released (s : State) : State :=
  onSec (fun c => { c with denied := !s.sec.bistHeld, tdo := [], session := c.session.map fun x => { x with lastTck := nowOf s } }) s

theorem exec_bistGo (hu : portUp s = true) (hh : s.sec.bistHeld = true) :
    Machine.exec (.bistGo t runs) s = .next (goOn runs (released (atTime t s))) := by
  have up : ¬portUp (atTime t s) = false := by
    rw [show portUp (atTime t s) = true from hu]
    exact Bool.noConfusion
  have held : (atTime t s).sec.bistHeld = true := hh
  exact congrArg Host.Outcome.next ((if_neg up).trans (if_pos held))

theorem goOn_eq (runs : List BistRun) (s : State) : goOn runs s = servePending
    (if levelOf s ≠ .closed ∧ (finishStart true runs (clearDebug s)).mod.state = .held
      then openSession (levelOf s) none (finishStart true runs (clearDebug s)) else finishStart true runs (clearDebug s)) := rfl

/-- A hold that ends goes through self-test and configuration to `HELD`, and reopens the session there. -/
theorem goOn_reaches (hb : Boots s) (hw : NothingWaits s) :
    (goOn runs s).mod.state = .held ∧ (goOn runs s).sec.bistHeld = false ∧ (goOn runs s).img.epoch = resumeEpoch s := by
  obtain ⟨hwipe, hpending, hf, -⟩ := hb
  obtain ⟨x, finish, x_eq⟩ := finishStart_eq (s := clearDebug s) true runs hwipe hpending hf
  have finished := startPart_reachHeld x
  have stored : resumeEpoch (clearDebug s) = resumeEpoch s := resumeEpoch_congr rfl
  rw [← finish, x_eq, startPart_clearDebug, stored] at finished
  rw [goOn_eq]
  generalize finishStart true runs (clearDebug s) = done at finished ⊢
  generalize hr : (if levelOf s ≠ .closed ∧ done.mod.state = .held then openSession (levelOf s) none done else done) = reopened
  have state : done.mod.state = .held := congrArg StartPart.state finished
  have held : done.sec.bistHeld = false := congrArg (fun p : StartPart => p.sec.bistHeld) finished
  have epoch : done.img.epoch = resumeEpoch s := congrArg StartPart.epoch finished
  have waiting : (startPart done).waiting = (startPart s).waiting := by rw [finished]
  have deferred : done.deferred = s.deferred := congrArg StartPart.deferred finished
  have reopens : ∃ x : Security, x.bistHeld = false ∧ startPart reopened = { startPart done with sec := x } := by
    rw [← hr]
    split
    · obtain ⟨x, same, opened⟩ := startPart_openSession (levelOf s) none state
      exact ⟨x, same.trans held, opened⟩
    · exact ⟨done.sec, held, rfl⟩
  obtain ⟨x, closed, reopened_eq⟩ := reopens
  have idle : (startPart reopened).waiting = (startPart s).waiting := (congrArg StartPart.waiting reopened_eq).trans waiting
  rw [servePending_of_nothingWaits (nothingWaits_congr idle ((congrArg StartPart.deferred reopened_eq).trans deferred) hw)]
  exact ⟨(congrArg StartPart.state reopened_eq).trans state, (congrArg (fun p : StartPart => p.sec.bistHeld) reopened_eq).trans closed,
    (congrArg StartPart.epoch reopened_eq).trans epoch⟩

theorem leads_bistGo (hu : portUp s = true) (hh : s.sec.bistHeld = true) (hb : Boots s) (hw : NothingWaits s) :
    Leads (.bistGo t runs) s fun s' => s'.mod.state = .held ∧ s'.sec.bistHeld = false ∧ s'.img.epoch = resumeEpoch s :=
  ⟨_, exec_bistGo hu hh, goOn_reaches (s := released (atTime t s)) hb hw⟩

end

/-- Settles O54: every start goes through the steps of power-up from secure boot on; what a restart of the Keeper touches is its own. -/
theorem startsAndRestarts : Obligations.StartsAndRestarts := by
  rintro t runs s u rfl
  refine ⟨fun feed hi hold microF => ⟨exec_powerUp_of_powered, leads_powerUp, leads_powerUp_held,
    fun hp _ hl h0 h1 => leads_powerUp_stays hp hl h0 h1⟩, fun hr hb hw hp => ?restarts,
    fun hk => ⟨leads_keeperLockstepError hk, leads_keeperWatchdog hk⟩, leads_keeperRestartComplete, leads_bistGo⟩
  case restarts =>
    exact ⟨leads_restart hr hb hw hp, exec_restart_of_lost, fun _ hl => leads_refRecovered hr hb hw hp hl⟩

end Sys2Proof.Machine
end

section
/-! What a change of the role, a fault and the return of a lane leave alone: image, executions, network and time. -/

namespace Sys2Proof.Machine
open Sys2Proof

/-! ### Lists, tables and vectors -/

/-- A reading of the state that every step of a fold keeps. -/
theorem foldl_reads {α β : Type} {F : State → β} {f : State → α → State} (hf : ∀ s a, F (f s a) = F s) (xs : List α) (s : State) :
    F (xs.foldl f s) = F s := by
  induction xs generalizing s with
  | nil => rfl
  | cons x xs ih => exact (ih _).trans (hf ..)

/-- A fold of which no step changes the state. -/
theorem foldl_fixed {α : Type} {f : State → α → State} {s : State} {xs : List α} (h : ∀ x ∈ xs, f s x = s) : xs.foldl f s = s := by
  induction xs with
  | nil => rfl
  | cons x xs ih =>
    rw [List.foldl_cons, h x List.mem_cons_self]
    exact ih fun y hy => h y (List.mem_cons_of_mem _ hy)

@[simp] theorem lmod_length {α : Type} (n : Nat) (g : α → α) (xs : List α) : (lmod n g xs).length = xs.length := by
  induction xs generalizing n with
  | nil => simp [lmod]
  | cons x r ih =>
    cases n with
    | zero => rfl
    | succ k => simp [lmod, ih]

theorem lmod_getElem?_same {α : Type} {n : Nat} {xs : List α} {x : α} (g : α → α) (hx : xs[n]? = some x) : (lmod n g xs)[n]? = some (g x) := by
  induction xs generalizing n with
  | nil => simp at hx
  | cons y r ih =>
    cases n with
    | zero => simpa [lmod] using congrArg (Option.map g) hx
    | succ k => simpa [lmod] using ih (by simpa using hx)

theorem lmod_getElem?_ne {α : Type} {n m : Nat} (h : m ≠ n) (g : α → α) (xs : List α) : (lmod n g xs)[m]? = xs[m]? := by
  induction xs generalizing n m with
  | nil => simp [lmod]
  | cons y r ih =>
    cases n with
    | zero =>
      cases m with
      | zero => exact absurd rfl h
      | succ j => simp [lmod]
    | succ k =>
      cases m with
      | zero => simp [lmod]
      | succ j => simpa [lmod] using ih (by omega)

/-- An entry that a table finds is one of its entries. -/
theorem mem_of_tget {α : Type} {k : Nat} {x : α} {m : Tbl α} (h : tget k m = some x) : (k, x) ∈ m := by
  induction m with
  | nil => cases h
  | cons p r ih =>
    obtain ⟨j, y⟩ := p
    simp only [tget] at h
    split at h
    · next hj =>
      cases h
      simp [hj]
    · exact List.mem_cons_of_mem _ (ih h)

/-- A first execution that is found stands at its place. -/
theorem placeWhere_mem {s : State} {f : Exec → Bool} {i : Nat} (h : placeWhere s f = some i) : ∃ e, s.ctl.execs[i]? = some e ∧ f e = true := by
  have found := List.find?_some h
  split at found
  · next e he => exact ⟨e, he, found⟩
  · cases found

/-- Where some execution is of a kind, a first one of that kind is found. -/
theorem placeWhere_of_any {s : State} {f : Exec → Bool} (h : s.ctl.execs.any f = true) : ∃ i, placeWhere s f = some i := by
  obtain ⟨e, he, hf⟩ := List.any_eq_true.1 h
  obtain ⟨i, hi⟩ := List.mem_iff_getElem?.1 he
  refine Option.isSome_iff_exists.1 (List.find?_isSome.2 ⟨i, ?_, by simp [hi, hf]⟩)
  exact List.mem_range.2 (List.getElem?_eq_some_iff.1 hi).1

/-! ### Faults of the module and the change of its role -/

/-- What a change of the role and the end of a switch or a proof leave from `s` to `t`: image, control, network and time, and the module's
fault. -/
structure RoleFrame (s t : State) : Prop where
  img : t.img = s.img
  ctl : t.ctl = s.ctl
  net : t.net = s.net
  time : t.time = s.time
  fault : t.mod.fault = s.mod.fault

theorem RoleFrame.refl (s : State) : RoleFrame s s := ⟨rfl, rfl, rfl, rfl, rfl⟩

theorem RoleFrame.trans {s t u : State} (h : RoleFrame s t) (k : RoleFrame t u) : RoleFrame s u :=
  ⟨k.img.trans h.img, k.ctl.trans h.ctl, k.net.trans h.net, k.time.trans h.time, k.fault.trans h.fault⟩

theorem KeeperWork.roleFrame {s t : State} (h : KeeperWork s t) : RoleFrame s t := by
  rw [h]
  exact ⟨rfl, rfl, rfl, rfl, rfl⟩

theorem RoleFrame.ite {c : Prop} [Decidable c] {s t u : State} (h : RoleFrame s t) (k : RoleFrame s u) : RoleFrame s (if c then t else u) := by
  split
  · exact h
  · exact k

theorem RoleFrame.foldl {α : Type} {f : State → α → State} (hf : ∀ s a, RoleFrame s (f s a)) (xs : List α) (s : State) :
    RoleFrame s (xs.foldl f s) := by
  induction xs generalizing s with
  | nil => exact .refl s
  | cons x xs ih => exact (hf s x).trans (ih _)

theorem RoleFrame.nowOf_eq {s t : State} (h : RoleFrame s t) : nowOf t = nowOf s := by rw [nowOf, nowOf, h.time]

theorem roleFrame_onField (g : FieldZone → FieldZone) (s : State) : RoleFrame s (onField g s) := ⟨rfl, rfl, rfl, rfl, rfl⟩
theorem roleFrame_onTow (g : Tow → Tow) (s : State) : RoleFrame s (onTow g s) := ⟨rfl, rfl, rfl, rfl, rfl⟩

theorem roleFrame_safeAio (c : Fin 8) (s : State) : RoleFrame s (safeAio c s) :=
  .ite (.refl s) (.ite ⟨rfl, rfl, rfl, rfl, rfl⟩ ⟨rfl, rfl, rfl, rfl, rfl⟩)

theorem roleFrame_endTrims (s : State) : RoleFrame s (endTrims s) := by
  refine .foldl (fun s x => ?_) ..
  exact (roleFrame_onField _ s).trans (((keeperWork_jmod ..).trans (keeperWork_jend ..)).roleFrame.trans (roleFrame_safeAio ..))

theorem roleFrame_abortBackground (b : Fin 14) (s : State) : RoleFrame s (abortBackground b s) := by
  unfold abortBackground abortRun
  split
  · split
    · exact .refl s
    · exact RoleFrame.trans (t := draw (onBist b _ s)) ⟨rfl, rfl, rfl, rfl, rfl⟩ ((keeperWork_jmod ..).trans (keeperWork_jend ..)).roleFrame
  · exact .refl s

theorem roleFrame_setPower (p : PowerState) (cause : Nat) (s : State) : RoleFrame s (setPower p cause s) :=
  .ite (.refl s) ⟨rfl, rfl, rfl, rfl, rfl⟩

theorem roleFrame_pairChanged (g : Pair → Pair) (s : State) : RoleFrame s (pairChanged g s) :=
  .ite ⟨rfl, rfl, rfl, rfl, rfl⟩ ⟨rfl, rfl, rfl, rfl, rfl⟩

theorem roleFrame_endSwitch (status : Nat) (cause : SwitchCause) (s : State) : RoleFrame s (endSwitch status cause s) := by
  unfold endSwitch
  split
  · exact (roleFrame_onTow _ s).trans ((keeperWork_jmod ..).trans (keeperWork_jend ..)).roleFrame
  · exact .refl s

theorem roleFrame_endProof (s : State) : RoleFrame s (endProof s) := by
  unfold endProof failProof
  split
  · split
    · exact ((keeperWork_jmod ..).trans (keeperWork_jend ..)).roleFrame.trans ((roleFrame_onTow _ _).trans (roleFrame_pairChanged ..))
    · exact roleFrame_onTow ..
  · exact .refl s

/-- Into `STOPPED_FAULT` the module goes without a word on the network. -/
theorem roleFrame_enterFault (cause : SwitchCause) (s : State) : RoleFrame s (enterState .stoppedFault cause s) := by
  unfold enterState
  extract_lets old entered noted powered zeroed
  have silent : zeroed = powered := if_neg (by simp)
  have into_entered : RoleFrame s entered := ⟨rfl, rfl, rfl, rfl, rfl⟩
  have into_noted : RoleFrame s noted := .ite (into_entered.trans ⟨rfl, rfl, rfl, rfl, rfl⟩) into_entered
  have into_powered : RoleFrame s powered := .ite (into_noted.trans (roleFrame_setPower ..)) into_noted
  exact .ite (.refl s) (silent ▸ into_powered.trans (roleFrame_endTrims powered))

/-- A module that stops faulted ends its executions and its tasks, and changes nothing else but its role. -/
theorem roleFrame_stopFaulted (s : State) : RoleFrame (stopTasks (haltExecs s)) (stopFaulted s) :=
  (roleFrame_endSwitch ..).trans ((roleFrame_endProof _).trans (roleFrame_enterFault ..))

/-! ### Broadcasts of the module -/

/-- What goes out on the network leaves the rest of the module as it is. -/
structure NetWork (s t : State) : Prop where
  mod : t.mod = s.mod
  img : t.img = s.img
  ctl : t.ctl = s.ctl
  pair : t.pair = s.pair
  tow : t.tow = s.tow
  time : t.time = s.time
  field : t.field = s.field
  keeper : t.keeper = s.keeper

theorem NetWork.trans {s t u : State} (h : NetWork s t) (k : NetWork t u) : NetWork s u :=
  ⟨k.mod.trans h.mod, k.img.trans h.img, k.ctl.trans h.ctl, k.pair.trans h.pair, k.tow.trans h.tow, k.time.trans h.time, k.field.trans h.field,
    k.keeper.trans h.keeper⟩

theorem netWork_onNet (g : Net → Net) (s : State) : NetWork s (onNet g s) := ⟨rfl, rfl, rfl, rfl, rfl, rfl, rfl, rfl⟩
theorem netWork_onPort (p : Fin 3) (g : Port → Port) (s : State) : NetWork s (onPort p g s) := ⟨rfl, rfl, rfl, rfl, rfl, rfl, rfl, rfl⟩

/-- From `s` to `t` the network carries something out, and no broadcast of the module. -/
structure NetQuiet (s t : State) : Prop extends NetWork s t where
  seq : t.net.broadcastSeq = s.net.broadcastSeq

theorem NetQuiet.ite {c : Prop} [Decidable c] {s t u : State} (h : NetQuiet s t) (k : NetQuiet s u) : NetQuiet s (if c then t else u) := by
  split
  · exact h
  · exact k

theorem netQuiet_onNet {g : Net → Net} (s : State) (hg : ∀ n, (g n).broadcastSeq = n.broadcastSeq := by exact fun _ => rfl) :
    NetQuiet s (onNet g s) := ⟨netWork_onNet g s, hg s.net⟩

theorem netQuiet_autoSchedule (sent : Nat) (s : State) : NetQuiet s (autoSchedule sent s) :=
  .ite (.ite (netQuiet_onNet s) (netQuiet_onNet s)) ⟨⟨rfl, rfl, rfl, rfl, rfl, rfl, rfl, rfl⟩, rfl⟩

theorem netQuiet_queueOn (held : Option (TaskId × Nat)) (k : BargeKind) (dst : Nat) (bytes : List Byte) (s : State) :
    NetQuiet s (queueOn held k dst bytes s) :=
  ⟨(netWork_onNet _ s).trans ((netWork_onPort 0 _ _).trans (netWork_onPort 1 _ _)), (netQuiet_onNet (g := fun n =>
    { n with engineSecond := nowOf s / 1000000000, engineCount := if n.engineSecond = nowOf s / 1000000000 then n.engineCount + 1 else 1 }) s).seq⟩

/-- A broadcast takes the next sequence number. -/
theorem sendBroadcast_spec (k : BargeKind) (claim release : Nat) (s : State) :
    NetWork s (sendBroadcast k claim release s) ∧ (sendBroadcast k claim release s).net.broadcastSeq = s.net.broadcastSeq + 1 := by
  unfold sendBroadcast
  extract_lets numbered base b
  have queued := netQuiet_queueOn none k (groupAddress numbered) (sealBarge numbered b) numbered
  have scheduled := netQuiet_autoSchedule numbered.net.auth.sentBroadcast (queueOn none k (groupAddress numbered) (sealBarge numbered b) numbered)
  have numbers : NetWork s numbered := netWork_onNet _ s
  have seq : numbered.net.broadcastSeq = s.net.broadcastSeq + 1 := rfl
  exact ⟨numbers.trans (queued.toNetWork.trans scheduled.toNetWork), scheduled.seq.trans (queued.seq.trans seq)⟩

/-- A `SAFE` broadcast notes how many are left to send (R201). -/
theorem sendSafeOnce_spec (left : Nat) (s : State) : NetWork s (sendSafeOnce left s) ∧ (sendSafeOnce left s).net.safeRepeats = left ∧
    (sendSafeOnce left s).net.broadcastSeq = s.net.broadcastSeq + 1 := by
  obtain ⟨works, seq⟩ := sendBroadcast_spec .safe s.net.safeClaim 0 s
  exact ⟨works.trans (netWork_onNet _ _), rfl, seq⟩

theorem sendSafe_spec (s : State) : NetWork s (sendSafe s) ∧ (sendSafe s).net.safeRepeats = 2 ∧
    (sendSafe s).net.broadcastSeq = s.net.broadcastSeq + 1 := by
  obtain ⟨works, repeats, seq⟩ := sendSafeOnce_spec 2 (onNet (fun n => { n with safeClaim := s.pair.claim }) s)
  exact ⟨(netWork_onNet _ s).trans works, repeats, seq⟩

theorem weave_handOver (cause : SwitchCause) (safeSent : Bool) (s : State) : (handOver cause safeSent s).ctl.weave = s.ctl.weave := rfl

theorem weave_stopFaulted (s : State) : (stopFaulted s).ctl.weave = s.ctl.weave := by
  rw [(roleFrame_stopFaulted s).ctl]
  rfl

/-- A fault of the module leaves the Weave as it is. -/
theorem weave_moduleFault (c : FaultCause) (s : State) : (moduleFault c s).ctl.weave = s.ctl.weave := by
  unfold moduleFault
  split
  · split
    · rfl
    · split
      · rw [weave_handOver, ((roleFrame_endSwitch ..).trans (roleFrame_endProof _)).ctl]
        rfl
      · rw [safeStages, onField_ctl, (sendSafe_spec _).1.ctl, weave_stopFaulted]
        rfl
  · exact weave_stopFaulted _
  · rfl

/-! ### The roles of lanes, R120 and R129 to R132 -/

/-- What the return of lanes and the change of their roles leave from `s` to `t`: the image, control but for the Weave, and of the Weave its
faults, the uncompared run and the bit of the injection test. -/
structure LaneFrame (s t : State) : Prop where
  img : t.img = s.img
  ctl : t.ctl = { s.ctl with weave := t.ctl.weave }
  fault : t.ctl.weave.comparatorFault = s.ctl.weave.comparatorFault
  uncompared : t.ctl.weave.uncompared = s.ctl.weave.uncompared
  bit : t.ctl.weave.injectBit = s.ctl.weave.injectBit

theorem LaneFrame.refl (s : State) : LaneFrame s s := ⟨rfl, rfl, rfl, rfl, rfl⟩

theorem LaneFrame.trans {s t u : State} (h : LaneFrame s t) (k : LaneFrame t u) : LaneFrame s u :=
  ⟨k.img.trans h.img, by rw [k.ctl, h.ctl], k.fault.trans h.fault, k.uncompared.trans h.uncompared, k.bit.trans h.bit⟩

theorem LaneFrame.execs_eq {s t : State} (h : LaneFrame s t) : t.ctl.execs = s.ctl.execs := by rw [h.ctl]

theorem LaneFrame.foldl {α : Type} {f : State → α → State} (hf : ∀ s a, LaneFrame s (f s a)) (xs : List α) (s : State) :
    LaneFrame s (xs.foldl f s) := by
  induction xs generalizing s with
  | nil => exact .refl s
  | cons x xs ih => exact (hf s x).trans (ih _)

theorem LaneFrame.ite {c : Prop} [Decidable c] {s t u : State} (h : LaneFrame s t) (k : LaneFrame s u) : LaneFrame s (if c then t else u) := by
  split
  · exact h
  · exact k

theorem RoleFrame.laneFrame {s t : State} (h : RoleFrame s t) : LaneFrame s t :=
  ⟨h.img, by rw [h.ctl], by rw [h.ctl], by rw [h.ctl], by rw [h.ctl]⟩

theorem laneFrame_setRole (l : LaneId) (r : LaneRole) (s : State) : LaneFrame s (setRole l r s) :=
  .ite (.refl s) ⟨rfl, rfl, rfl, rfl, rfl⟩

theorem laneFrame_beginResync (l : LaneId) (s : State) : LaneFrame s (beginResync l s) := by
  unfold beginResync
  extract_lets cause
  split
  extract_lets staged noted counted
  have into_counted : LaneFrame s counted := ⟨rfl, rfl, rfl, rfl, rfl⟩
  exact into_counted.trans (laneFrame_setRole ..)

theorem laneFrame_checkSpares (s : State) : LaneFrame s (checkSpares s) :=
  .ite (.refl s) ⟨rfl, rfl, rfl, rfl, rfl⟩

theorem laneFrame_replaceLane (l spare : LaneId) (s : State) : LaneFrame s (replaceLane l spare s) := by
  unfold replaceLane
  dsimp only
  refine LaneFrame.trans ?_ (laneFrame_checkSpares _)
  refine LaneFrame.trans ?_ ((laneFrame_setRole l .spareTest _).trans (laneFrame_setRole spare .loading _))
  refine (roleFrame_abortBackground (blockLane spare) s).laneFrame.trans ?_
  exact ⟨rfl, rfl, rfl, rfl, rfl⟩

theorem laneFrame_returnLane (l : LaneId) (s : State) : LaneFrame s (returnLane l s) := by
  unfold returnLane replaceDue
  refine .ite ?_ (laneFrame_beginResync l s)
  split
  · exact laneFrame_replaceLane ..
  · exact LaneFrame.trans (t := onLane l _ (stage 0x0503 _ _ s)) ⟨rfl, rfl, rfl, rfl, rfl⟩ (laneFrame_beginResync ..)

theorem laneFrame_returnLanes (s : State) : LaneFrame s (returnLanes s) :=
  .foldl (fun s l => .ite (laneFrame_returnLane l s) (.refl s)) ..

/-- Where no lane is halted, none returns. -/
theorem returnLanes_of_none_halted {s : State} (h : ∀ l, roleOf s l ≠ .halted) : returnLanes s = s :=
  foldl_fixed fun l _ => if_neg fun hl => h l hl.1

theorem roleOf_setRole (l j : LaneId) (r : LaneRole) (s : State) : roleOf (setRole l r s) j = if j = l then r else roleOf s j := by
  unfold setRole
  split
  · next hr => split <;> simp_all
  · by_cases hj : j = l
    · subst hj
      simp [roleOf, onWeave]
    · simp only [roleOf, onWeave, onCtl_ctl, Fin.getElem_fin, if_neg hj, vmod_getElem_ne _ _ hj]

theorem laneFrame_joinLanes (s : State) : LaneFrame s (joinLanes s) := .foldl (fun s _ => .ite (laneFrame_setRole ..) (.refl s)) ..

/-- JOINING lanes become ACTIVE, and no other lane changes its role (R130). -/
theorem roleOf_joinLanes (s : State) (l : LaneId) : roleOf (joinLanes s) l = if roleOf s l = .joining then .active else roleOf s l := by
  have joins (xs : List LaneId) (s : State) (l : LaneId) :
      roleOf (xs.foldl (fun s j => if roleOf s j = .joining then setRole j .active s else s) s) l =
        if l ∈ xs ∧ roleOf s l = .joining then .active else roleOf s l := by
    induction xs generalizing s with
    | nil => simp
    | cons j xs ih =>
      rw [List.foldl_cons, ih]
      by_cases hj : roleOf s j = .joining
      · rw [if_pos hj, roleOf_setRole]
        by_cases hl : l = j
        · subst hl
          simp [hj]
        · simp [hl]
      · rw [if_neg hj]
        by_cases hl : l = j
        · subst hl
          simp [hj]
        · simp [hl]
  exact (joins allLanes s l).trans (by simp [allLanes])

/-! ### A fault of the Weave, R134 and R136 -/

theorem comparatorFault_uncountRestore (l : LaneId) (s : State) :
    (uncountRestore l s).ctl.weave.comparatorFault = s.ctl.weave.comparatorFault := by
  unfold uncountRestore
  split
  · rfl
  · split <;> rfl
  · rfl

theorem comparatorFault_uncomparedRun (s : State) : (uncomparedRun s).ctl.weave.comparatorFault = s.ctl.weave.comparatorFault := by
  unfold uncomparedRun
  split
  · rfl
  · refine foldl_reads (F := fun s => s.ctl.weave.comparatorFault) (fun s x => ?_) ..
    split
    · rfl
    · exact (laneFrame_setRole ..).fault.trans (comparatorFault_uncountRestore ..)

/-- Whatever the module does about a fault of the Weave, the fault shows. -/
theorem comparatorFault_weaveFault (cause lane bit : Nat) (s : State) : (weaveFault cause lane bit s).ctl.weave.comparatorFault = true := by
  unfold weaveFault
  dsimp only
  split
  · rw [weave_moduleFault]
    rfl
  · rw [comparatorFault_uncomparedRun]
    rfl

end Sys2Proof.Machine
end

section
/-! Task ticks and snapshot commits (R32, R37 to R39, R42, R64, R65, R130, R135). -/

namespace Sys2Proof.Machine
open Sys2Proof

/-! ### The tick, R32 and R39 -/

/-- A node's latest landed barge is latched where the task reads the node (R39). -/
theorem mem_latchSlots {s : State} {k : TaskId} {n : Nat} {x : Node} {b : LandedBarge} (hn : n ∈ nodesRead s k)
    (hx : tget n s.net.nodes = some x) (hb : x.landing.getLast? = some b) : (n, b) ∈ latchSlots s k := by
  refine List.mem_filterMap.2 ⟨(n, x), mem_of_tget hx, ?_⟩
  simp [hn, hb]

theorem leads_taskTick {t : Nat} {k : TaskId} {s : State} (h : tickDue (atTime t s) k t = true) :
    Leads (.taskTick t k) s fun s' => (∃ e, s'.ctl.execs = s.ctl.execs ++ [e] ∧ e.task = k ∧ e.tick = t ∧ e.phase = .latched ∧
        e.baseEpoch = s.img.epoch ∧ e.lanes = [] ∧ e.landed = [] ∧
        ∀ n x b, n ∈ nodesRead s k → tget n s.net.nodes = some x → x.landing.getLast? = some b → (n, b) ∈ e.slots) ∧
      s'.ctl.tasks[k].lastTick = some t ∧ (∀ j : TaskId, j ≠ k → s'.ctl.tasks[j] = s.ctl.tasks[j]) ∧
      s' = { s with ctl := { s.ctl with execs := s'.ctl.execs, tasks := s'.ctl.tasks }, time := s'.time } := by
  refine ⟨_, congrArg Host.Outcome.next (if_pos h), ⟨latchExec (atTime t s) k t, rfl, rfl, rfl, rfl, rfl, rfl, rfl, fun n x b => mem_latchSlots⟩,
    ?_, fun j hj => ?_, rfl⟩
  · simp [onTask]
  · simp [onTask, onExecs, vmod_getElem_ne _ _ hj]

/-! ### The commit begins, R38, R130 and R135 -/

section
variable {t i : Nat} {k : TaskId} {s : State} {e : Exec} {c : TaskCode} {p : Program}

/-- The execution as its commit begins, under the program that runs. -/
def begunExec (c : TaskCode) (p : Program) (e : Exec) : Exec :=
  { e with phase := .committing, version := p.version, codeLen := c.words.length, routines := c.routines, frame := c.frame }

/-- The module with the commit of execution `i` begun, before the injection test. -/
def commitBegun (i : Nat) (c : TaskCode) (p : Program) (s : State) : State :=
  onExecs (lmod i (begunExec c p)) (abortBackground blockInject (joinLanes s))

/-- Beside the execution that begins to commit, the commit's begin is a matter of the lanes' roles. -/
theorem laneFrame_beforeCommit (s : State) : LaneFrame s (abortBackground blockInject (joinLanes s)) :=
  (laneFrame_joinLanes s).trans (roleFrame_abortBackground blockInject (joinLanes s)).laneFrame

theorem weave_commitBegun (i : Nat) (c : TaskCode) (p : Program) (s : State) :
    (commitBegun i c p s).ctl.weave = (abortBackground blockInject (joinLanes s)).ctl.weave := by
  simp only [commitBegun, onExecs_ctl]

/-- The injection test that passes moves on to the next bit. -/
theorem rotateInjection_spec (s : State) : (rotateInjection s).img = s.img ∧ (rotateInjection s).ctl.execs = s.ctl.execs ∧
    (∀ l, roleOf (rotateInjection s) l = roleOf s l) ∧ (rotateInjection s).ctl.weave.injectBit = (s.ctl.weave.injectBit + 1) % 93 :=
  ⟨rfl, rfl, fun _ => rfl, rfl⟩

theorem exec_snapshotCommitStart (hi : commitPlace (atTime t s) k = some i) (hc : codeOf s k = some c) (hp : s.ctl.running = some p)
    (hf : committing s = false) (hu : s.ctl.weave.uncompared = false) (hl : ∀ l, roleOf s l ≠ .halted) (passed : Bool) :
    exec (.snapshotCommitStart t k passed) s = .next (if higherDue t k (atTime t s) then atTime t s
      else
        let begun := commitBegun i c p (atTime t s)
        if passed then rotateInjection begun else weaveFault 2 (injectedLane begun) begun.ctl.weave.injectBit begun) := by
  have hc' : codeOf (atTime t s) k = some c := hc
  have hf' : committing (atTime t s) = false := hf
  have compared : (commitBegun i c p (atTime t s)).ctl.weave.uncompared = false := by
    rw [weave_commitBegun, (laneFrame_beforeCommit _).uncompared, atTime_ctl, hu]
  have unhalted := returnLanes_of_none_halted (s := atTime t s) hl
  show execSnapshotCommitStart t k passed s = _
  unfold commitBegun begunExec at *
  simp only [execSnapshotCommitStart, hi, hc', atTime_ctl, hp, hf', Bool.false_or, unhalted, compared, Bool.false_eq_true, if_false]

/-- What has begun with a commit that no fault meets: the execution commits, and lanes that were JOINING are ACTIVE. -/
theorem commitBegun_spec (he : s.ctl.execs[i]? = some e) :
    (commitBegun i c p s).img = s.img ∧ (commitBegun i c p s).ctl.execs[i]? = some (begunExec c p e) ∧
      (∀ l, roleOf (commitBegun i c p s) l = if roleOf s l = .joining then .active else roleOf s l) ∧
      (commitBegun i c p s).ctl.weave.injectBit = s.ctl.weave.injectBit := by
  have before := laneFrame_beforeCommit s
  refine ⟨?_, ?_, fun l => ?_, ?_⟩
  · rw [commitBegun, onExecs_img, before.img]
  · simp only [commitBegun, onExecs_ctl, before.execs_eq]
    exact lmod_getElem?_same _ he
  · rw [← roleOf_joinLanes, roleOf, weave_commitBegun, (roleFrame_abortBackground blockInject (joinLanes s)).ctl, roleOf]
  · rw [weave_commitBegun, before.bit]

/-! ### The commit is done, R37, R42, R64 and R65 -/

/-- The module with the view of an execution taken: input tags count the commit, and the buffers it takes are marked. -/
def viewTaken (e : Exec) (s : State) : State :=
  clearView e.task (buildView s e).1 (markCommitted ((buildView s e).2.foldl (fun s p => onTag p.1 (fun _ => p.2) s) s) e)

theorem ctl_viewTaken (e : Exec) (s : State) : (viewTaken e s).ctl = s.ctl := by
  have tags : ((buildView s e).2.foldl (fun s p => onTag p.1 (fun _ => p.2) s) s).ctl = s.ctl :=
    foldl_reads (F := State.ctl) (f := fun (s : State) (p : Nat × Tag) => onTag p.1 (fun _ => p.2) s) (fun _ _ => rfl) ..
  refine Eq.trans ?_ tags
  unfold viewTaken clearView
  split
  · rfl
  · refine foldl_reads (F := State.ctl) (fun s p => ?_) ..
    split <;> rfl

/-- An execution with its view, on lanes that begin the task; it waits where another execution holds the lanes. -/
def startedExec (s : State) (view : Tbl ViewEntry) (x : Exec) : Exec :=
  { x with phase := if lanesBusy s then .preempted else .running, view := view, lanes := (partLanes s).map freshLane,
           uncompared := s.ctl.weave.uncompared }

theorem startedExec_congr {s u : State} (h : u.ctl = s.ctl) (view : Tbl ViewEntry) : startedExec u view = startedExec s view := by
  unfold startedExec lanesBusy partLanes roleOf
  rw [h]

/-- The module with the commit of execution `i` done, before its manifest goes out. -/
def commitDone (i : Nat) (k : TaskId) (e : Exec) (s : State) : State :=
  onTask k (fun x => { x with executions := sat32 (x.executions + 1) })
    (onExecs (lmod i (startedExec (viewTaken e s) (buildView s e).1)) (viewTaken e s))

theorem exec_snapshotCommitDone (hi : placeWhere s (fun e => e.task == k && e.phase == .committing) = some i) (he : s.ctl.execs[i]? = some e)
    (hp : commitPoisoned (atTime t s) e = false) : exec (.snapshotCommitDone t k) s = .next
      (if (commitDone i k e (atTime t s)).mod.state = .active ∧ mirrors (commitDone i k e (atTime t s)) = true then
        towSend (.manifest (manifestOf (atTime t s) e (buildView (atTime t s) e).1)) (commitDone i k e (atTime t s))
      else commitDone i k e (atTime t s)) := by
  show execSnapshotCommitDone t k s = _
  unfold execSnapshotCommitDone
  dsimp only
  congr 1
  split
  · next hn => exact absurd (hn.symm.trans hi) (by simp)
  · next j hj =>
    obtain rfl : i = j := Option.some.inj (hi.symm.trans hj)
    simp only [atTime_ctl, he, hp, Bool.false_eq_true, if_false]
    rfl

/-- What a commit that is done leaves of control. -/
theorem ctl_commitDone (s : State) : (commitDone i k e s).ctl = { s.ctl with
    execs := lmod i (startedExec s (buildView s e).1) s.ctl.execs,
    tasks := vmod s.ctl.tasks k fun x => { x with executions := sat32 (x.executions + 1) } } := by
  have taken := ctl_viewTaken e s
  rw [commitDone, startedExec_congr taken]
  simp only [onTask, onExecs, onCtl_ctl, taken]

theorem lane_map_freshLane (ls : List LaneId) : (ls.map freshLane).map (fun c => c.lane) = ls := by
  simp [Function.comp_def, freshLane]

theorem leads_snapshotCommitDone (hi : placeWhere s (fun e => e.task == k && e.phase == .committing) = some i)
    (he : s.ctl.execs[i]? = some e) (hp : commitPoisoned (atTime t s) e = false) :
    Leads (.snapshotCommitDone t k) s fun s' => s'.ctl.tasks[k].executions = sat32 (s.ctl.tasks[k].executions + 1) ∧
      ∃ e', s'.ctl.execs[i]? = some e' ∧ e'.tick = e.tick ∧ e'.view = (buildView (atTime t s) e).1 ∧
        e'.phase = (if lanesBusy s then .preempted else .running) ∧ e'.lanes.map (fun c => c.lane) = partLanes s ∧
        ∀ c ∈ e'.lanes, c.pc = 0 ∧ c.acc = false ∧ c.fc = true ∧ c.nest = [] ∧ c.ret = [] ∧ c.posted = [] ∧ (∀ r : Fin 16, c.w[r] = 0) := by
  refine ⟨_, exec_snapshotCommitDone hi he hp, ?_⟩
  have sent (m : TowPayload) (x : State) (p : Prop) [Decidable p] : (if p then towSend m x else x).ctl = x.ctl := by split <;> rfl
  dsimp only
  rw [sent, ctl_commitDone]
  refine ⟨by simp, _, lmod_getElem?_same _ he, rfl, rfl, rfl, lane_map_freshLane _, fun c hc => ?_⟩
  obtain ⟨l, -, rfl⟩ := List.mem_map.1 hc
  exact ⟨rfl, rfl, rfl, rfl, rfl, rfl, fun r => by simp [freshLane]⟩

end

/-- Settles O18: the tick latches one execution, its commit begins beside the lanes' roles and the injection test, and is done with the view. -/
theorem ticksAndSnapshots : Obligations.TicksAndSnapshots := by
  refine ⟨fun t k s => leads_taskTick, fun t i k s e c p hi he hc hp hf hu hl => ?begins, fun t i k s e => leads_snapshotCommitDone⟩
  case begins =>
    have runs := exec_snapshotCommitStart hi hc hp hf hu hl
    refine ⟨fun hd => by rw [runs, if_pos hd], fun hd => ?passes, fun hd => ?fails⟩
    case passes =>
      obtain ⟨img, begun, roles, bit⟩ := commitBegun_spec (c := c) (p := p) (s := atTime t s) he
      obtain ⟨img', execs', roles', bit'⟩ := rotateInjection_spec (commitBegun i c p (atTime t s))
      exact ⟨rotateInjection (commitBegun i c p (atTime t s)), by simp only [runs, hd, Bool.false_eq_true, if_false, if_true],
        img'.trans img, (congrArg (fun es : List Exec => es[i]?) execs').trans begun, fun l => (roles' l).trans (roles l), bit'.trans (by rw [bit]; rfl)⟩
    case fails =>
      have fails := runs false
      simp only [hd, Bool.false_eq_true, if_false] at fails
      exact ⟨_, fails, comparatorFault_weaveFault ..⟩

end Sys2Proof.Machine
end

section
/-! Preemption, task end and the gating of lanes in DOZE (R49, R50, R382). -/

namespace Sys2Proof.Machine
open Sys2Proof

section
variable {t i : Nat} {k : TaskId} {s : State}

/-! ### Preemption, R50 -/

theorem leads_taskPreempt {j : Nat} {low high : Exec} (hi : placeWhere s (fun e => e.phase == .running) = some i)
    (hj : placeWhere s (fun e => e.task == k && e.phase == .preempted) = some j) (hlow : s.ctl.execs[i]? = some low)
    (hhigh : s.ctl.execs[j]? = some high) (hp : priorityOf s k < priorityOf s low.task)
    (hw : (low.lanes.any fun c => c.halted.isNone && c.waiting.isSome) = false) :
    Leads (.taskPreempt t k) s fun s' => s'.ctl.execs[i]? = some { low with phase := .preempted, preemptions := low.preemptions + 1 } ∧
      s'.ctl.execs[j]? = some { high with phase := .running } ∧
      s'.ctl.tasks[low.task].preemptions = sat32 (s.ctl.tasks[low.task].preemptions + 1) ∧ s'.img = s.img := by
  have runs : low.phase = .running := by simpa using placeWhere_some hi hlow
  have waits : high.task = k ∧ high.phase = .preempted := by simpa using placeWhere_some hj hhigh
  have apart : i ≠ j := by
    rintro rfl
    obtain rfl : low = high := Option.some.inj (hlow.symm.trans hhigh)
    exact absurd (runs.symm.trans waits.2) (by decide)
  let preempt (e : Exec) : Exec := { e with phase := .preempted, preemptions := e.preemptions + 1 }
  let resume (e : Exec) : Exec := { e with phase := .running }
  refine ⟨onTask low.task (fun x => { x with preemptions := sat32 (x.preemptions + 1) })
    (onExecs (fun es => lmod j resume (lmod i preempt es)) (atTime t s)), ?_, ?_, ?_, ?_, rfl⟩
  · have hi' : placeWhere (atTime t s) (fun e => e.phase == .running) = some i := hi
    have hj' : placeWhere (atTime t s) (fun e => e.task == k && e.phase == .preempted) = some j := hj
    show execTaskPreempt t k s = _
    simp only [execTaskPreempt, hi', hj', atTime_ctl, hlow]
    exact congrArg Host.Outcome.next (if_pos ⟨hp, hw⟩)
  · exact (lmod_getElem?_ne apart ..).trans (lmod_getElem?_same _ hlow)
  · exact lmod_getElem?_same _ ((lmod_getElem?_ne apart.symm ..).trans hhigh)
  · simp [onTask, onExecs]

/-! ### Task end, R49 and R50 -/

/-- Where no lane has stopped under R98, task end halts none. -/
theorem haltStalled_of_none {e : Exec} (he : s.ctl.execs[i]? = some e) (hl : ∀ c ∈ takingPart e, c.stalled = false) : haltStalled i s = s := by
  unfold haltStalled
  rw [he]
  exact foldl_fixed fun c hc => by simp [hl c hc]

/-- The lanes go on with a waiting execution where there is one, and the others stay. -/
theorem resumeNext_spec (s : State) : (resumeNext s).img = s.img ∧ (resumeNext s).ctl.execs.length = s.ctl.execs.length ∧
    (∀ (i : Nat) (e : Exec), s.ctl.execs[i]? = some e → e.phase ≠ .preempted → (resumeNext s).ctl.execs[i]? = some e) ∧
    ((s.ctl.execs.any fun x => x.phase == .preempted) = true → lanesBusy (resumeNext s) = true) := by
  unfold resumeNext
  split
  · next busy => exact ⟨rfl, rfl, fun _ _ he _ => he, fun _ => busy⟩
  · dsimp only
    split
    · next none =>
      refine ⟨rfl, rfl, fun _ _ he _ => he, fun some => ?_⟩
      obtain ⟨x, hx, waits⟩ := List.any_eq_true.1 some
      have : x ∈ sortBy (fun e : Exec => priorityOf s e.task) (s.ctl.execs.filter fun e => e.phase == .preempted) :=
        (mem_sortBy ..).2 (List.mem_filter.2 ⟨hx, waits⟩)
      simp [none] at this
    · next e rest first =>
      have listed : e ∈ s.ctl.execs.filter fun e : Exec => e.phase == .preempted := (mem_sortBy ..).1 (first ▸ List.mem_cons_self)
      obtain ⟨he, waits⟩ := List.mem_filter.1 listed
      obtain ⟨j, hj⟩ := placeWhere_of_any (s := s) (f := fun x => x.task == e.task && x.phase == .preempted)
        (List.any_eq_true.2 ⟨e, he, by simp [waits]⟩)
      obtain ⟨x, hx, kind⟩ := placeWhere_mem hj
      have preempted : x.task = e.task ∧ x.phase = .preempted := by simpa using kind
      rw [hj]
      refine ⟨rfl, lmod_length .., fun i y hy waits => (lmod_getElem?_ne ?_ ..).trans hy, fun _ => ?_⟩
      · rintro rfl
        obtain rfl : y = x := Option.some.inj (hy.symm.trans hx)
        exact waits preempted.2
      · exact List.any_eq_true.2 ⟨_, List.mem_of_getElem? (lmod_getElem?_same _ hx), rfl⟩

/-- An execution that ends at this instant. -/
def endedExec (t : Nat) (e : Exec) : Exec := { e with phase := .ended, endAt := some t }

theorem exec_taskEnd {e : Exec} (hi : placeWhere s (fun e => e.task == k && e.phase == .running && endVoted e) = some i)
    (he : s.ctl.execs[i]? = some e) (hs : e.shadow = false) (hl : ∀ c ∈ takingPart e, c.stalled = false) :
    exec (.taskEnd t k) s = .next (resumeNext (returnLanes (onExecs (lmod i (endedExec t)) (atTime t s)))) := by
  have ended : (onExecs (lmod i (endedExec t)) (atTime t s)).ctl.execs[i]? = some (endedExec t e) := lmod_getElem?_same _ he
  have none_halts : haltStalled i (onExecs (lmod i (endedExec t)) (atTime t s)) = onExecs (lmod i (endedExec t)) (atTime t s) :=
    haltStalled_of_none ended hl
  have hi' : placeWhere (atTime t s) (fun e => e.task == k && e.phase == .running && endVoted e) = some i := hi
  show execTaskEnd t k s = _
  unfold endedExec at *
  simp only [execTaskEnd, hi', none_halts, ended, shadowEnded, hs, Bool.false_and, Bool.false_eq_true, if_false]

theorem leads_taskEnd {e : Exec} (hi : placeWhere s (fun e => e.task == k && e.phase == .running && endVoted e) = some i)
    (he : s.ctl.execs[i]? = some e) (hs : e.shadow = false) (hl : ∀ c ∈ takingPart e, c.stalled = false) :
    Leads (.taskEnd t k) s fun s' => s'.img = s.img ∧ s'.ctl.execs.length = s.ctl.execs.length ∧
      (∃ e', s'.ctl.execs[i]? = some e' ∧ e'.phase = .ended ∧ e'.endAt = some t ∧ e'.landed = e.landed) ∧
      ((s.ctl.execs.any fun x => x.phase == .preempted) = true → lanesBusy s' = true) := by
  have returned := laneFrame_returnLanes (onExecs (lmod i (endedExec t)) (atTime t s))
  have execs : (returnLanes (onExecs (lmod i (endedExec t)) (atTime t s))).ctl.execs = lmod i (endedExec t) s.ctl.execs := returned.execs_eq
  obtain ⟨img, length, stays, goesOn⟩ := resumeNext_spec (returnLanes (onExecs (lmod i (endedExec t)) (atTime t s)))
  rw [execs] at length stays goesOn
  refine ⟨_, exec_taskEnd hi he hs hl, img.trans returned.img, length.trans (lmod_length ..),
    ⟨endedExec t e, stays i _ (lmod_getElem?_same _ he) (by simp [endedExec]), rfl, rfl, rfl⟩, fun waiting => goesOn ?_⟩
  obtain ⟨x, hx, waits⟩ := List.any_eq_true.1 waiting
  obtain ⟨j, hj⟩ := List.mem_iff_getElem?.1 hx
  have runs : (e.task = k ∧ e.phase = .running) ∧ endVoted e = true := by simpa using placeWhere_some hi he
  have apart : j ≠ i := by
    rintro rfl
    obtain rfl : e = x := Option.some.inj (he.symm.trans hj)
    simp [runs.1.2] at waits
  exact List.any_eq_true.2 ⟨x, List.mem_of_getElem? ((lmod_getElem?_ne apart ..).trans hj), waits⟩

/-! ### Gating in DOZE, R382 -/

theorem leads_lanePreWake (hp : s.mod.power = .doze) (hd : dueSoon s t = true) : Leads (.lanePreWake t) s fun s' =>
    (∀ k : LaneId, s'.ctl.weave.lanes[k].gated = false) ∧
      s' = { s with ctl := { s.ctl with weave := { s.ctl.weave with lanes := s'.ctl.weave.lanes } }, time := s'.time } :=
  ⟨_, congrArg Host.Outcome.next (if_pos ⟨hp, hd⟩), fun k => by simp [gateLanes, onWeave], rfl⟩

theorem leads_laneIdleGate {l : LaneId} (hp : s.mod.power = .doze) (hl : laneIdle s l = true) (hd : dueSoon s t = false) :
    Leads (.laneIdleGate t l) s fun s' => s'.ctl.weave.lanes[l].gated = true ∧
      (∀ k : LaneId, k ≠ l → s'.ctl.weave.lanes[k] = s.ctl.weave.lanes[k]) ∧ s'.img = s.img :=
  ⟨_, congrArg Host.Outcome.next (if_pos ⟨hp, hl, hd⟩), by simp [onLane, onWeave], fun k hk => by
    simp [onLane, onWeave, vmod_getElem_ne _ _ hk], rfl⟩

end

/-- Settles O19: preemption and task end change the phases of executions at their places, and DOZE alone gates lanes. -/
theorem preemptionTaskEndAndGating : Obligations.PreemptionTaskEndAndGating := by
  refine ⟨⟨fun t i j k s low high => leads_taskPreempt, fun t i k s e => leads_taskEnd⟩,
    fun t l s => ⟨leads_lanePreWake, leads_laneIdleGate, fun hp => ⟨?_, ?_⟩⟩⟩
  · exact congrArg Host.Outcome.next (if_neg fun h => hp h.1)
  · exact congrArg Host.Outcome.next (if_neg fun h => hp h.1)

end Sys2Proof.Machine
end

section
/-! Deadline misses, the repeats of SAFE and the way of an exchange to its point (R56, R57, R104, R105, R159, R201). -/

namespace Sys2Proof.Machine
open Sys2Proof

/-! ### The journal leaves the queue of changes -/

theorem changes_jmod (id : Nat) (g : JnlEntry → JnlEntry) (s : State) : (jmod id g s).keeper.changes = s.keeper.changes := by
  unfold jmod
  split
  · rfl
  · next x _ =>
    obtain ⟨ids, notes⟩ := noteUnsent_keeper x (onKeeper (fun k => { k with journal := k.journal.map fun y => if y.id == id then g y else y }) s)
    dsimp only
    split <;> simp only [raiseInt, onKeeper_keeper, notes]

theorem changes_answerHeld (id : Nat) (s : State) : (answerHeld id s).keeper.changes = s.keeper.changes := by
  unfold answerHeld
  split
  · exact changes_answer ..
  · rfl

theorem changes_jend (id : Nat) (st : JnlState) (status : Nat) (s : State) : (jend id st status s).keeper.changes = s.keeper.changes := by
  unfold jend
  split
  · rfl
  · split
    · rfl
    · exact (changes_answerHeld ..).trans (changes_jmod ..)

theorem changes_failureReport (id reason : Nat) (s : State) : (failureReport id reason s).keeper.changes = s.keeper.changes := by
  unfold failureReport withReport
  split
  · rfl
  · exact changes_jmod ..

theorem keeperWork_failureReport (id reason : Nat) (s : State) : KeeperWork s (failureReport id reason s) := by
  unfold failureReport withReport
  split
  · rfl
  · exact keeperWork_jmod ..

section
variable {t i : Nat} {k : TaskId} {s : State}

/-! ### Deadline misses, R56 and R57 -/

/-- What a module that stops faulted keeps and ends. -/
theorem stopFaulted_spec (s : State) : (stopFaulted s).img.epoch = s.img.epoch ∧ (stopFaulted s).mod.state = .stoppedFault ∧
    (stopFaulted s).mod.fault = s.mod.fault ∧ (stopFaulted s).ctl.execs = [] ∧ (stopFaulted s).net = s.net ∧ (stopFaulted s).time = s.time := by
  have stopped := roleFrame_stopFaulted s
  have halted : (stopTasks (haltExecs s)).img.epoch = s.img.epoch ∧ (stopTasks (haltExecs s)).ctl.execs = [] := ⟨rfl, rfl⟩
  exact ⟨(congrArg Image.epoch stopped.img).trans halted.1, runPart_enterState .stoppedFault .selfDeclared _, stopped.fault,
    (congrArg Control.execs stopped.ctl).trans halted.2, stopped.net, stopped.time⟩

/-- A miss of the active goes through the stop, the SAFE broadcast and, with a standby, the hand-over. -/
theorem missActive_spec (s : State) : (missActive s).img.epoch = s.img.epoch ∧ (missActive s).mod.state = .stoppedFault ∧
    (missActive s).mod.fault = .taskOverrun ∧ (missActive s).ctl.execs = [] ∧ (missActive s).field.safeToSend = true ∧
    (missActive s).net.safeRepeats = 2 ∧ (missActive s).net.broadcastSeq = s.net.broadcastSeq + 1 ∧
    (partnerStandby s = true → (missActive s).tow.handoverSent = some (nowOf s, .selfDeclared)) := by
  let stopped := dropOutputBarges (stopFaulted (setFault .taskOverrun s))
  obtain ⟨epoch, state, fault, execs, net, time⟩ := stopFaulted_spec (setFault .taskOverrun s)
  obtain ⟨sends, repeats, seq⟩ := sendSafe_spec stopped
  have sent_seq : (sendSafe stopped).net.broadcastSeq = s.net.broadcastSeq + 1 :=
    seq.trans (congrArg (fun n : Net => n.broadcastSeq + 1) (show stopped.net = s.net from net))
  have sent_epoch : (sendSafe stopped).img.epoch = s.img.epoch := (congrArg Image.epoch sends.img).trans epoch
  have sent_state : (sendSafe stopped).mod.state = .stoppedFault := (congrArg Mod.state sends.mod).trans state
  have sent_fault : (sendSafe stopped).mod.fault = .taskOverrun := (congrArg Mod.fault sends.mod).trans fault
  have sent_execs : (sendSafe stopped).ctl.execs = [] := (congrArg Control.execs sends.ctl).trans execs
  have sent_now : nowOf (sendSafe stopped) = nowOf s := by
    rw [nowOf, nowOf, sends.time]
    exact congrArg (fun u : TimeUnit => u.era.toNat * 2 ^ 32 + u.count.toNat) time
  have result : missActive s = if partnerStandby s then handOver .selfDeclared true (safeStages (sendSafe stopped)) else safeStages (sendSafe stopped) := rfl
  rw [result]
  generalize sendSafe stopped = sent at *
  split
  · exact ⟨sent_epoch, sent_state, sent_fault, rfl, rfl, repeats, sent_seq, fun _ => sent_now ▸ rfl⟩
  · next alone => exact ⟨sent_epoch, sent_state, sent_fault, sent_execs, rfl, repeats, sent_seq, fun h => absurd h alone⟩

/-- The module with the event of the miss staged (R56). -/
def missStaged (t : Nat) (k : TaskId) (e : Exec) (s : State) : State := stage 0x0201 (srcTask k) (le8 e.tick ++ le4 ((t - e.tick) / 1000)) s

theorem exec_deadlineMiss (hi : missPlace t k s = some i) : ∃ e, exec (.deadlineMiss t k) s = .next
    (match s.mod.state with
      | .active => if handingOver s then atTime t s else missActive (missStaged t k e (atTime t s))
      | .standby => stopFaulted (setFault .taskOverrun (missStaged t k e (atTime t s)))
      | _ => atTime t s) := by
  obtain ⟨e, he, -⟩ := placeWhere_mem hi
  have hi' : missPlace t k (atTime t s) = some i := hi
  refine ⟨e, ?_⟩
  show execDeadlineMiss t k s = _
  simp only [execDeadlineMiss, hi', atTime_ctl, he]
  rfl

theorem leads_deadlineMiss_active (hi : missPlace t k s = some i) (hm : s.mod.state = .active) (hs : s.tow.handoverSent = none) :
    Leads (.deadlineMiss t k) s fun s' => s'.img.epoch = s.img.epoch ∧ s'.mod.state = .stoppedFault ∧ s'.mod.fault = .taskOverrun ∧
      s'.ctl.execs = [] ∧ s'.field.safeToSend = true ∧ s'.net.safeRepeats = 2 ∧ s'.net.broadcastSeq = s.net.broadcastSeq + 1 ∧
      (partnerStandby s = true → s'.tow.handoverSent = some (nowOf (atTime t s), .selfDeclared)) := by
  obtain ⟨e, runs⟩ := exec_deadlineMiss hi
  refine ⟨missActive (missStaged t k e (atTime t s)), ?_, missActive_spec (missStaged t k e (atTime t s))⟩
  simp [runs, hm, handingOver, hs]

theorem leads_deadlineMiss_standby (hi : missPlace t k s = some i) (hm : s.mod.state = .standby) :
    Leads (.deadlineMiss t k) s fun s' => s'.img.epoch = s.img.epoch ∧ s'.mod.state = .stoppedFault ∧ s'.mod.fault = .taskOverrun ∧
      s'.ctl.execs = [] ∧ s'.net = s.net := by
  obtain ⟨e, runs⟩ := exec_deadlineMiss hi
  obtain ⟨epoch, state, fault, execs, net, -⟩ := stopFaulted_spec (setFault .taskOverrun (missStaged t k e (atTime t s)))
  exact ⟨stopFaulted (setFault .taskOverrun (missStaged t k e (atTime t s))), by simp [runs, hm], epoch, state, fault, execs, net⟩

/-! ### The repeats of SAFE, R201 -/

theorem finishRelease_of_none (h : s.tow.switch = none) : finishRelease s = s := by
  simp [finishRelease, h]

theorem leads_safeBargeRepeat (hr : s.net.safeRepeats ≠ 0) (hw : s.tow.switch = none) (ht : s.net.safeSentAt + 10000 ≤ t) :
    Leads (.safeBargeRepeat t) s fun s' => s'.net.safeRepeats = s.net.safeRepeats - 1 ∧ s'.net.broadcastSeq = s.net.broadcastSeq + 1 ∧
      s'.pair = s.pair ∧ s'.img = s.img ∧ s'.ctl = s.ctl := by
  obtain ⟨sends, repeats, seq⟩ := sendSafeOnce_spec (s.net.safeRepeats - 1) (atTime t s)
  have unswitched : (sendSafeOnce (s.net.safeRepeats - 1) (atTime t s)).tow.switch = none := (congrArg Tow.switch sends.tow).trans hw
  have runs : exec (.safeBargeRepeat t) s = .next (finishRelease (sendSafeOnce (s.net.safeRepeats - 1) (atTime t s))) :=
    congrArg Host.Outcome.next (if_neg (not_or.2 ⟨hr, Nat.not_lt.2 ht⟩))
  rw [finishRelease_of_none unswitched] at runs
  exact ⟨_, runs, repeats, seq, sends.pair, sends.img, sends.ctl⟩

/-! ### The way to an exchange point, R104 and R105 -/

theorem leads_stagingCopyComplete {x : Exchange} {g : Staged} (hx : s.ctl.exchange = some x) (hg : s.ctl.staged = some g) (hp : x.phase = .queued) :
    Leads (.stagingCopyComplete t) s fun s' =>
      s'.ctl = { s.ctl with exchange := some { x with phase := .staged, staging := stagingOf s.ctl.insts g.prog, stagedAt := t } } ∧ s'.img = s.img := by
  let copied := onCtl (fun c => { c with exchange := some { x with phase := .staged, staging := stagingOf s.ctl.insts g.prog, stagedAt := t } }) (atTime t s)
  have work := keeperWork_jmod x.journal (fun e => { e with state := .running, step := 2 }) copied
  refine ⟨jmod x.journal (fun e => { e with state := .running, step := 2 }) copied, ?_, work.ctl_eq, work.img_eq⟩
  show execStagingCopyComplete t s = _
  simp only [execStagingCopyComplete, atTime_ctl, hx, hg, if_pos hp]
  rfl

theorem leads_exchangeWindowExpiry {x : Exchange} (hx : s.ctl.exchange = some x) (hp : x.phase = .staged) (ht : x.stagedAt + msToNs x.window ≤ t) :
    Leads (.exchangeWindowExpiry t) s fun s' => s'.ctl = { s.ctl with exchange := none } ∧ s'.img = s.img ∧
      ∀ c, c ∈ s'.keeper.changes ↔ c ∈ s.keeper.changes ∧ c.journal ≠ x.journal := by
  let unqueued := onKeeper (fun k => { k with changes := k.changes.filter fun c => c.journal != x.journal }) (atTime t s)
  let reported := failureReport x.journal reasonWindow unqueued
  let ended := onCtl (fun c => { c with exchange := none }) reported
  have reports : KeeperWork unqueued reported := keeperWork_failureReport ..
  have ends := keeperWork_jend x.journal .failed stStateConflict ended
  refine ⟨jend x.journal .failed stStateConflict ended, ?_, ends.ctl_eq.trans ?_, ends.img_eq.trans reports.img_eq, fun c => ?_⟩
  · show execExchangeWindowExpiry t s = _
    simp only [execExchangeWindowExpiry, atTime_ctl, hx, if_pos (And.intro hp ht)]
    rfl
  · exact congrArg (fun c : Control => { c with exchange := none }) reports.ctl_eq
  · have queue : (jend x.journal .failed stStateConflict ended).keeper.changes = s.keeper.changes.filter fun c => c.journal != x.journal :=
      (changes_jend ..).trans (changes_failureReport x.journal reasonWindow unqueued)
    rw [queue]
    simp

end

/-- Settles O21: a miss is followed through the stop, the SAFE broadcast and the hand-over; the others change their own part alone. -/
theorem deadlineMissAndSafe : Obligations.DeadlineMissAndSafe := by
  refine ⟨fun t i k s hi => ⟨leads_deadlineMiss_active hi, leads_deadlineMiss_standby hi⟩,
    fun t s hr hw => ⟨fun ht => ?_, leads_safeBargeRepeat hr hw⟩, fun t s x g => leads_stagingCopyComplete,
    fun t s x => leads_exchangeWindowExpiry⟩
  exact congrArg Host.Outcome.next (if_pos (.inr ht))

end Sys2Proof.Machine
end

section
/-! Start and stop of the tasks (R34, R58, R137, R139, R140, R164, R324, R330). -/

namespace Sys2Proof.Machine
open Sys2Proof

/-! ### The entry under which a start or a stop waits -/

/-- A change of journal entries touches of the Keeper the journal, the list of what the partner has not got, and interrupts. -/
theorem keeper_jmod (id : Nat) (g : JnlEntry → JnlEntry) (s : State) : (jmod id g s).keeper.held = s.keeper.held ∧
    (jmod id g s).keeper.lastJournal = s.keeper.lastJournal := by
  unfold jmod
  split
  · exact ⟨rfl, rfl⟩
  · next x _ =>
    obtain ⟨ids, notes⟩ := noteUnsent_keeper x (onKeeper (fun k => { k with journal := k.journal.map fun y => if y.id == id then g y else y }) s)
    dsimp only
    split <;> simp only [raiseInt, onKeeper_keeper, notes, and_self]

theorem journal_jmod {id : Nat} {g : JnlEntry → JnlEntry} {s : State} {e : JnlEntry} (he : jget s id = some e) :
    (jmod id g s).keeper.journal = s.keeper.journal.map fun y => if y.id == id then g y else y := by
  unfold jmod
  rw [he]
  obtain ⟨ids, notes⟩ := noteUnsent_keeper e (onKeeper (fun k => { k with journal := k.journal.map fun y => if y.id == id then g y else y }) s)
  dsimp only
  split <;> simp only [raiseInt, onKeeper_keeper, notes]

/-- A changed entry is found under its number. -/
theorem jget_jmod {id : Nat} {g : JnlEntry → JnlEntry} {s : State} {e : JnlEntry} (he : jget s id = some e) (hg : ∀ x, (g x).id = x.id) :
    jget (jmod id g s) id = some (g e) := by
  have number (x : JnlEntry) : (if x.id == id then g x else x).id = x.id := by split <;> simp [hg]
  have own : (e.id == id) = true := List.find?_some (p := fun x : JnlEntry => x.id == id) he
  have found : s.keeper.journal.find? (fun x => x.id == id) = some e := he
  rw [jget, journal_jmod he, List.find?_map]
  simp only [Function.comp_def, number, found, Option.map_some, own, if_true]

section
variable {h : ReqHdr} {code mask : Nat} {s : State}

/-- The module with the entry of a start or a stop made, and its response held; the entry names the tasks in its second detail. -/
def maskHeld (h : ReqHdr) (code mask : Nat) (s : State) : State :=
  let made := makeEntry h code 2 s
  let held : HeldResponse := { journal := made.keeper.lastJournal, hdr := h, command := code, acceptedAt := nowOf made, payload := [] }
  jmod made.keeper.lastJournal (fun e => { e with detail2 := mask }) (onKeeper (fun k => { k with held := k.held ++ [held] }) made)

theorem acceptEpoch_eq_run (run : Nat → State → State) (hf : journalFull s = false) :
    acceptEpoch h code 2 [] (fun id s => run id (jmod id (fun e => { e with detail2 := mask }) s)) s =
      run (s.keeper.lastJournal + 1) (maskHeld h code mask s) := by
  rw [acceptEpoch, if_neg (by rw [hf]; exact Bool.false_ne_true)]
  exact congrArg (fun id => run id (maskHeld h code mask s)) lastJournal_makeEntry

theorem maskHeld_spec (hl : s.keeper.journal.length ≤ 256) (hf : journalFull s = false) :
    HeldFor h code s (maskHeld h code mask s) ∧ (maskHeld h code mask s).keeper.changes = s.keeper.changes ∧
      KeeperWork s (maskHeld h code mask s) := by
  obtain ⟨e, found, command, state, session, sequence⟩ := jget_makeEntry (h := h) (code := code) (steps := 2) hl hf
  have last := lastJournal_makeEntry (h := h) (code := code) (steps := 2) (s := s)
  have changes := changes_makeEntry (h := h) (code := code) (steps := 2) (s := s)
  have work := keeperWork_makeEntry (h := h) (code := code) (steps := 2) (s := s)
  unfold maskHeld
  extract_lets made held
  obtain ⟨kept_held, kept_last⟩ := keeper_jmod made.keeper.lastJournal (fun e => { e with detail2 := mask })
    (onKeeper (fun k => { k with held := k.held ++ [held] }) made)
  have entry : jget made made.keeper.lastJournal = some e := (congrArg (jget made) last).trans found
  refine ⟨⟨kept_last.trans last, ⟨held, ?_, last, rfl, rfl⟩, { e with detail2 := mask }, ?_, command, state, session, sequence⟩,
    (changes_jmod ..).trans changes, (work.trans (keeperWork_onKeeper ..)).trans (keeperWork_jmod ..)⟩
  · rw [kept_held]
    exact List.mem_append_right _ (List.mem_singleton_self _)
  · have noted := jget_jmod (s := onKeeper (fun k => { k with held := k.held ++ [held] }) made) (g := fun e => { e with detail2 := mask }) entry fun _ => rfl
    exact (congrArg (jget _) last.symm).trans noted

end

/-! ### A start leaves the changes that wait -/

theorem changes_safeAio (c : Fin 8) (s : State) : (safeAio c s).keeper.changes = s.keeper.changes := by
  unfold safeAio openAio
  split
  · rfl
  · split <;> rfl

theorem changes_endTrims (s : State) : (endTrims s).keeper.changes = s.keeper.changes :=
  foldl_reads (F := fun s => s.keeper.changes) (f := fun s x => endTrim x s) (fun s x => by
    unfold endTrim
    rw [changes_safeAio, changes_jend, changes_jmod]
    rfl) ..

theorem keeper_setPower (p : PowerState) (cause : Nat) (s : State) : (setPower p cause s).keeper = s.keeper := by
  unfold setPower
  split <;> rfl

theorem changes_pairChanged (g : Pair → Pair) (s : State) : (pairChanged g s).keeper.changes = s.keeper.changes := by
  unfold pairChanged watchPair
  split <;> rfl

theorem changes_enterState (new : ModState) (cause : SwitchCause) (s : State) : (enterState new cause s).keeper.changes = s.keeper.changes := by
  unfold enterState
  extract_lets old entered noted powered zeroed
  split
  · rfl
  · have noted_eq : noted.keeper = entered.keeper := by
      unfold noted
      split <;> rfl
    have powered_eq : powered.keeper = noted.keeper := by
      unfold powered
      split
      · exact keeper_setPower ..
      · rfl
    have zeroed_eq : zeroed.keeper = powered.keeper := by
      unfold zeroed
      split <;> rfl
    rw [changes_endTrims, zeroed_eq, powered_eq, noted_eq]
    rfl

theorem keeper_preloadStages (afterMiss : Bool) (notBefore : Nat) (s : State) : (preloadStages afterMiss notBefore s).keeper = s.keeper := by
  have dio (u : State) : (eachDio preloadDio u).keeper = u.keeper := by
    refine foldl_reads (F := State.keeper) (fun s c => ?_) ..
    unfold preloadDio applyDio
    dsimp only
    split
    · split
      · rfl
      · split <;> rfl
    · rfl
  have aio (u : State) : (eachAio preloadAio u).keeper = u.keeper := by
    refine foldl_reads (F := State.keeper) (fun s c => ?_) ..
    unfold preloadAio applyAio
    dsimp only
    split
    · split
      · rfl
      · split
        · rfl
        · split <;> rfl
    · rfl
  have fo (u : State) : (each4 preloadFo u).keeper = u.keeper := by
    refine foldl_reads (F := State.keeper) (fun s c => ?_) ..
    unfold preloadFo applyFo
    dsimp only
    split
    · split
      · rfl
      · split <;> rfl
    · rfl
  rw [preloadStages, fo, aio, dio]
  rfl

theorem changes_enterActive (cause : SwitchCause) (afterMiss : Bool) (notBefore : Nat) (s : State) :
    (enterActive cause afterMiss notBefore s).keeper.changes = s.keeper.changes := by
  have broadcast (u : State) : (sendClaimBroadcast u).keeper = u.keeper := (sendBroadcast_spec .claim u.pair.claim u.net.auth.switchAt u).1.keeper
  unfold enterActive
  rw [keeper_preloadStages, broadcast, changes_enterState, changes_pairChanged]
  rfl

/-- The start under a raised claim keeps the waiting changes, and its tasks wait behind them. -/
theorem startActive_spec (journal mask : Nat) (s : State) :
    rolePart (startActive journal mask s) =
      { rolePart s with state := .active, claim := s.pair.highestClaim + 1, highest := s.pair.highestClaim + 1, lastCause := .none, cold := none } ∧
    (startActive journal mask s).keeper.changes = s.keeper.changes ++ [{ journal := journal, kind := .start mask, atEpoch := none }] := by
  rw [← rolePart_enterActive .none false 0 s, ← changes_enterActive .none false 0 s, startActive]
  generalize enterActive .none false 0 s = active
  exact ⟨rfl, rfl⟩

section
variable {t mask : Nat} {h : ReqHdr} {s : State}

/-! ### What PRG.START comes to, by the state of the module -/

theorem doStart_of_no_owner (ho : ownerId s = 0) : doStart h mask s = respond h 0x0303 stRoleConflict [] s := if_pos ho

/-- The module belongs to a pair or stands alone under an owner, untainted, and no INVASIVE session is open. -/
abbrev MayStart (s : State) : Prop := ownerId s ≠ 0 ∧ s.sec.tainted = false ∧ invasiveOpen s = false

section
variable (hs : MayStart s)
include hs

theorem doStart_of_active (hm : s.mod.state = .active) (hp : s.pair.paired = true → h.pairScope = true) :
    doStart h mask s = acceptStart h mask (queueChange h (.start mask)) s := by
  obtain ⟨owner, untainted, uninvaded⟩ := hs
  have inScope : (s.pair.paired && !h.pairScope) = false := by
    cases paired : s.pair.paired with
    | false => rfl
    | true => simp [hp paired]
  simp [doStart, owner, untainted, uninvaded, hm, inScope]

theorem doStart_of_unread (hm : s.mod.state = .stoppedFault) (hr : s.mod.faultRead = false) :
    doStart h mask s = respond h 0x0303 stStateConflict (le2 7 ++ le2 0xD0 ++ le4 0) s := by
  obtain ⟨owner, untainted, uninvaded⟩ := hs
  have legal : (cmdRow 0x0303).legal = 0xD0 := by decide
  simp [doStart, owner, untainted, uninvaded, hm, hr, conflict, conflictPayload, legal, stateCode]

theorem doStart_of_waiting (hm : s.mod.state = .ready) (hp : s.pair.paired = false) (hj : s.pair.joinWaitOver = false) :
    doStart h mask s = respond h 0x0303 stRoleConflict [] s := by
  obtain ⟨owner, untainted, uninvaded⟩ := hs
  simp [doStart, owner, untainted, uninvaded, hm, hp, startUnpaired, hj]

theorem doStart_of_alone (hm : s.mod.state = .ready) (hp : s.pair.paired = false) (hj : s.pair.joinWaitOver = true)
    (hc : s.pair.highestClaim < 0xFFFFFFFF) : doStart h mask s = acceptStart h mask (fun id s => startActive id mask s) s := by
  obtain ⟨owner, untainted, uninvaded⟩ := hs
  simp [doStart, owner, untainted, uninvaded, hm, hp, startUnpaired, hj, startAlone, claimExhausted, Nat.not_le.2 hc]

theorem doStart_of_offer (hm : s.mod.state = .ready) (hp : s.pair.paired = true) (hh : h.pairScope = true) (hj : s.pair.heardOffer = false)
    (ha : partnerActive s = false) (hf : moduleFlag s = false) (ho : s.pair.offer = none) :
    doStart h mask s = acceptStart h mask (fun id s => onPair (fun p => { p with offer := some id, offerAt := nowOf s }) s) s := by
  obtain ⟨owner, untainted, uninvaded⟩ := hs
  simp [doStart, owner, untainted, uninvaded, hm, hp, offerRole, hh, hj, ha, hf, ho]

end

/-! ### The arrival of the request changes nothing that a start reads -/

theorem arrived_reads (h : ReqHdr) (u : State) : (MayStart (arrived h u) ↔ MayStart u) ∧ ownerId (arrived h u) = ownerId u ∧
    (arrived h u).mod = u.mod ∧ (arrived h u).pair = u.pair ∧ partnerActive (arrived h u) = partnerActive u ∧
    moduleFlag (arrived h u) = moduleFlag u ∧ journalFull (arrived h u) = journalFull u ∧
    (arrived h u).keeper.journal = u.keeper.journal ∧ (arrived h u).keeper.lastJournal = u.keeper.lastJournal := by
  obtain ⟨cs, arrives, -⟩ := arrived_eq h u
  rw [arrives]
  exact ⟨Iff.rfl, rfl, rfl, rfl, rfl, rfl, rfl, rfl, rfl⟩

theorem KeeperWork.pair_eq {s u : State} (w : KeeperWork s u) : u.pair = s.pair := by rw [w]
theorem KeeperWork.nowOf_eq {s u : State} (w : KeeperWork s u) : nowOf u = nowOf s := by
  rw [w]
  rfl

/-- A request that is refused leaves the module and the pair as they are. -/
theorem leads_refused {k : Instr} {i : Request} {code len status : Nat} {p : List Byte} {body : State → State}
    (hk : Machine.exec k s = .next (serve i h code len true [] body (atTime t s))) (ha : Admitted i h code len [] (atTime t s))
    (hb : body (arrived h (atTime t s)) = respond h code status p (arrived h (atTime t s))) :
    Leads k s fun s' => Answered h code status p (atTime t s) s' ∧ s'.mod = s.mod ∧ s'.pair = s.pair := by
  obtain ⟨answered, work⟩ := serve_onlyAnswers ha rfl hb
  exact ⟨_, hk, answered, KeeperWork.mod_eq (s := atTime t s) work, KeeperWork.pair_eq (s := atTime t s) work⟩

/-- The entry of a request that has arrived, as the module had it before. -/
theorem maskHeld_arrived {code : Nat} {u : State} (hf : journalFull u = false) (hi : FreshIds u) :
    let made := maskHeld h code mask (arrived h u)
    HeldFor h code u made ∧ made.keeper.changes = u.keeper.changes ∧ KeeperWork u made := by
  obtain ⟨-, -, -, -, -, -, full, journal, last⟩ := arrived_reads h u
  obtain ⟨held, changes, work⟩ := maskHeld_spec (h := h) (code := code) (mask := mask) (s := arrived h u) (journal ▸ hi.2) (full.trans hf)
  rw [HeldFor, last] at held
  exact ⟨held, changes.trans (changes_arrived h u), (keeperWork_arrived h u).trans work⟩

/-- A request whose command runs `run` under its entry comes to it with its entry made. -/
theorem serve_runs {i : Request} {code len : Nat} {u : State} {body : State → State} {run : Nat → State → State} (ha : Admitted i h code len [] u)
    (hf : journalFull u = false)
    (hb : body (arrived h u) = acceptEpoch h code 2 [] (fun id s => run id (jmod id (fun e => { e with detail2 := mask }) s)) (arrived h u)) :
    serve i h code len true [] body u = notePeaks (run (u.keeper.lastJournal + 1) (maskHeld h code mask (arrived h u))) := by
  obtain ⟨-, -, -, -, -, -, full, -, last⟩ := arrived_reads h u
  rw [serve_of_admitted ha, hb, acceptEpoch_eq_run run (full.trans hf), last]

/-- A start or a stop on an active module waits for an epoch step. -/
theorem leads_queued {k : Instr} {i : Request} {code len : Nat} {body : State → State} {kind : ChangeKind}
    (hk : Machine.exec k s = .next (serve i h code len true [] body (atTime t s))) (ha : Admitted i h code len [] (atTime t s))
    (hf : journalFull (atTime t s) = false) (hi : FreshIds (atTime t s))
    (hb : body (arrived h (atTime t s)) =
      acceptEpoch h code 2 [] (fun id s => queueChange h kind id (jmod id (fun e => { e with detail2 := mask }) s)) (arrived h (atTime t s))) :
    Leads k s fun s' => HeldFor h code (atTime t s) s' ∧
      (∃ c, s'.keeper.changes = s.keeper.changes ++ [c] ∧ c.kind = kind ∧ c.journal = s.keeper.lastJournal + 1) ∧
      s'.ctl = s.ctl ∧ s'.img = s.img ∧ s'.mod = s.mod := by
  obtain ⟨held, changes, work⟩ := maskHeld_arrived (h := h) (code := code) (mask := mask) hf hi
  rw [serve_runs ha hf hb] at hk
  refine ⟨_, hk, ?_⟩
  generalize maskHeld h code mask (arrived h (atTime t s)) = made at held changes work
  have waits : (notePeaks (queueChange h kind (s.keeper.lastJournal + 1) made)).keeper.changes = made.keeper.changes ++ [_] := rfl
  exact ⟨held, ⟨_, waits.trans (congrArg (· ++ _) changes), rfl, rfl⟩, work.ctl_eq, work.img_eq, work.mod_eq⟩

theorem leads_prgStart_alone (ha : Admitted (.prgStart mask) h 0x0303 4 [] (atTime t s)) (hf : journalFull (atTime t s) = false)
    (hi : FreshIds (atTime t s)) (hs : MayStart s) (hm : s.mod.state = .ready) (hp : s.pair.paired = false) (hj : s.pair.joinWaitOver = true)
    (hc : s.pair.highestClaim < 0xFFFFFFFF) : Leads (.prgStart t h mask) s fun s' => Raised 0 s s' ∧ s'.img.epoch = s.img.epoch ∧
      ∃ c, s'.keeper.changes = s.keeper.changes ++ [c] ∧ c.kind = .start mask ∧ c.journal = s.keeper.lastJournal + 1 := by
  obtain ⟨may, -, mod, pair, -⟩ := arrived_reads h (atTime t s)
  have runs := serve_runs (mask := mask) (body := doStart h mask) (run := fun id s => startActive id mask s) ha hf
    (doStart_of_alone (may.2 hs) (mod ▸ hm) (pair ▸ hp) (pair ▸ hj) (pair ▸ hc))
  obtain ⟨-, changes, work⟩ := maskHeld_arrived (h := h) (code := 0x0303) (mask := mask) hf hi
  refine ⟨_, congrArg Host.Outcome.next runs, ?_⟩
  generalize maskHeld h 0x0303 mask (arrived h (atTime t s)) = made at changes work
  have role : rolePart made = rolePart s := work.rolePart_eq
  have highest : made.pair.highestClaim = s.pair.highestClaim := congrArg RolePart.highest role
  obtain ⟨started, queue⟩ := startActive_spec (s.keeper.lastJournal + 1) mask made
  rw [role, highest] at started
  rw [changes] at queue
  rw [atTime_keeper]
  generalize startActive (s.keeper.lastJournal + 1) mask made = active at started queue
  have state : (rolePart active).state = .active := congrArg RolePart.state started
  have claim : (rolePart active).claim = max s.pair.highestClaim 0 + 1 := (congrArg RolePart.claim started).trans (by simp)
  have seen : (rolePart active).highest = max s.pair.highestClaim 0 + 1 := (congrArg RolePart.highest started).trans (by simp)
  have epoch : active.img.epoch = s.img.epoch := congrArg RolePart.epoch started
  exact ⟨raised_of_rolePart (s' := notePeaks active) state claim seen, epoch, _, queue, rfl, rfl⟩

theorem leads_prgStart_offer (ha : Admitted (.prgStart mask) h 0x0303 4 [] (atTime t s)) (hf : journalFull (atTime t s) = false)
    (hi : FreshIds (atTime t s)) (hs : MayStart s) (hm : s.mod.state = .ready) (hp : s.pair.paired = true) (hh : h.pairScope = true)
    (hj : s.pair.heardOffer = false) (hpa : partnerActive s = false) (hfl : moduleFlag s = false) (ho : s.pair.offer = none) :
    Leads (.prgStart t h mask) s fun s' => HeldFor h 0x0303 (atTime t s) s' ∧
      s'.pair = { s.pair with offer := some (s.keeper.lastJournal + 1), offerAt := nowOf (atTime t s) } ∧ s'.mod = s.mod ∧ s'.img = s.img := by
  obtain ⟨may, -, mod, pair, partner, flags, -⟩ := arrived_reads h (atTime t s)
  have runs := serve_runs (mask := mask) (body := doStart h mask)
    (run := fun id s => onPair (fun p => { p with offer := some id, offerAt := nowOf s }) s) ha hf
    (doStart_of_offer (may.2 hs) (mod ▸ hm) (pair ▸ hp) hh (pair ▸ hj) (partner.trans hpa) (flags.trans hfl) (pair ▸ ho))
  obtain ⟨held, -, work⟩ := maskHeld_arrived (h := h) (code := 0x0303) (mask := mask) hf hi
  refine ⟨_, congrArg Host.Outcome.next runs, ?_⟩
  generalize maskHeld h 0x0303 mask (arrived h (atTime t s)) = made at held work
  have same_pair : made.pair = s.pair := work.pair_eq
  have same_now : nowOf made = nowOf (atTime t s) := work.nowOf_eq
  refine ⟨held, ?_, work.mod_eq, work.img_eq⟩
  rw [← same_pair, ← same_now]
  rfl

end

/-- Settles O44: each case of PRG.START and PRG.STOP is followed through the checks to what the command does under its entry. -/
theorem startAndStop : Obligations.StartAndStop := by
  rintro t h s u mask rfl hf hi
  obtain ⟨may, owner, mod, pair, -⟩ := arrived_reads h (atTime t s)
  refine ⟨fun ha ho => leads_refused rfl ha (doStart_of_no_owner (owner.trans ho)), fun ha ho ht hv => ?starts, fun ha => leads_queued rfl ha hf hi rfl⟩
  case starts =>
    have hs : MayStart s := ⟨ho, ht, hv⟩
    refine ⟨fun hm hp => leads_queued rfl ha hf hi (doStart_of_active (may.2 hs) (mod ▸ hm) (pair ▸ hp)),
      fun hm hr => leads_refused rfl ha (doStart_of_unread (may.2 hs) (mod ▸ hm) (mod ▸ hr)),
      fun hm hp hj => leads_refused rfl ha (doStart_of_waiting (may.2 hs) (mod ▸ hm) (pair ▸ hp) (pair ▸ hj)),
      fun hm hp hj hc => leads_prgStart_alone ha hf hi hs hm hp hj hc,
      fun hm hp hh hj hpa hfl hof => leads_prgStart_offer ha hf hi hs hm hp hh hj hpa hfl hof⟩

end Sys2Proof.Machine
end

section
/-! IO.STATUS is answered at the time of the request: a fast output whose pulse ends between the module's time and the request reads as off
(R234, R264, R338). -/

namespace Sys2Proof.Machine
open Sys2Proof

/-- A response ends with its payload (R319). -/
theorem mkResponse_payload_injective {s : State} {h : ReqHdr} {code status journal epoch : Nat} {p q : List Byte}
    (e : mkResponse s h code status journal epoch p = mkResponse s h code status journal epoch q) : p = q := by
  obtain ⟨-, left, -⟩ := responseLayout s h code status journal epoch p
  obtain ⟨-, right, -⟩ := responseLayout s h code status journal epoch q
  exact left.symm.trans ((congrArg (List.drop 32) e).trans right)

/-- A held module whose fast output 3 gives a pulse that ends at 1 ns. -/
def pulsing : State :=
  let r := State.reset
  { r with
    mod := { r.mod with state := .held }
    keeper := { r.keeper with running := true }
    path := { r.path with powered := true }
    field := { r.field with fo := vmod r.field.fo 3 fun o => { o with level := true, pulseEnd := some 1 } } }

/-- A request of a host over mailbox 0. -/
def hostHeader : ReqHdr :=
  { src := .mailbox 0, session := 0, sequence := 1, atEpoch := false, dryRun := false, pairScope := false, dropForces := false, epoch := 0, crc := 0 }

theorem admitted_pulsing : Admitted (.ioStatus 2 0) hostHeader 0x0800 4 [] (atTime 1 pulsing) :=
  ⟨rfl, by decide, rfl, rfl, rfl, rfl, by decide, rfl, rfl, rfl, rfl⟩

/-- At 0 ns the pulse is on, and at 1 ns, when the request comes, it is over. -/
theorem fastStatus_pulsing : le4 (fastStatus (atTime 1 pulsing) 3) ≠ le4 (fastStatus pulsing 3) := by decide

/-- Refutes O41: IO.STATUS shows the fast outputs at the time of the request, and the statement names their status at the module's time before
it. A pulse on fast output 3 that ends in between is over in the answer and on in the statement. -/
theorem not_statusReads : ¬ Obligations.StatusReads := by
  intro reads
  obtain ⟨-, -, -, -, -, -, io, -⟩ := reads 1 hostHeader pulsing (atTime 1 pulsing) rfl
  obtain ⟨s', runs, p, ⟨claimed, -⟩, -, -, fast, -⟩ := io 2 0 (by decide) admitted_pulsing
  obtain ⟨-, named⟩ := fast rfl
  obtain ⟨given, -⟩ := serve_onlyAnswers (body := doIoStatus hostHeader 2 0) admitted_pulsing rfl rfl
  obtain rfl : reqIoStatus hostHeader 2 0 (atTime 1 pulsing) = s' := Host.Outcome.next.inj runs
  have payload : fastGroup (atTime 1 pulsing) = p := mkResponse_payload_injective (congrArg (fun x => x.2.2) (Option.some.inj (given.symm.trans claimed)))
  have shown : Field (fastGroup (atTime 1 pulsing)) 12 (le4 (fastStatus (atTime 1 pulsing) 3)) := rfl
  rw [← payload] at named
  exact fastStatus_pulsing (shown.symm.trans named)

end Sys2Proof.Machine
end

section
/-! Barges received: what a node's barge leaves of the node table, and what a barge of the owner's other module does to the role (R39, R160, R164,
R167, R168, R188, R189, R199, R208). -/

namespace Sys2Proof.Machine
open Sys2Proof

/-! ### Tables -/

theorem tget_tmod_same {α : Type} (i : Nat) (g : α → α) (m : Tbl α) : tget i (tmod i g m) = (tget i m).map g := by
  induction m with
  | nil => rfl
  | cons p r ih =>
    simp only [tmod]
    split
    · next hk => simp [tget, hk]
    · next hk => simp [tget, hk, ih]

/-- A reading that a change of one entry keeps is kept for the whole table. -/
theorem map_tget_tmod {α β : Type} {F : α → β} {g : α → α} (hg : ∀ x, F (g x) = F x) (i j : Nat) (m : Tbl α) :
    (tget i (tmod j g m)).map F = (tget i m).map F := by
  by_cases hij : j = i
  · subst hij
    simp [tget_tmod_same, Function.comp_def, hg]
  · rw [tget_tmod_ne hij]

/-! ### Stages that yield, and the roll-back -/

/-- Beside what a change of the role leaves, the pair stays too. -/
structure StageFrame (s t : State) : Prop extends RoleFrame s t where
  pair : t.pair = s.pair

theorem StageFrame.refl (s : State) : StageFrame s s := ⟨.refl s, rfl⟩

theorem StageFrame.trans {s t u : State} (h : StageFrame s t) (k : StageFrame t u) : StageFrame s u :=
  ⟨h.toRoleFrame.trans k.toRoleFrame, k.pair.trans h.pair⟩

theorem StageFrame.ite {c : Prop} [Decidable c] {s t u : State} (h : StageFrame s t) (k : StageFrame s u) : StageFrame s (if c then t else u) := by
  split
  · exact h
  · exact k

theorem StageFrame.foldl {α : Type} {f : State → α → State} (hf : ∀ s a, StageFrame s (f s a)) (xs : List α) (s : State) :
    StageFrame s (xs.foldl f s) := by
  induction xs generalizing s with
  | nil => exact .refl s
  | cons x xs ih => exact (hf s x).trans (ih _)

theorem KeeperWork.stageFrame {s t : State} (h : KeeperWork s t) : StageFrame s t := ⟨h.roleFrame, h.pair_eq⟩

theorem stageFrame_onField (g : FieldZone → FieldZone) (s : State) : StageFrame s (onField g s) := ⟨⟨rfl, rfl, rfl, rfl, rfl⟩, rfl⟩

theorem stageFrame_onAio (c : Fin 8) (g : Aio → Aio) (s : State) : StageFrame s (onAio c g s) := ⟨⟨rfl, rfl, rfl, rfl, rfl⟩, rfl⟩
theorem stageFrame_onDio (c : Fin 16) (g : Dio → Dio) (s : State) : StageFrame s (onDio c g s) := ⟨⟨rfl, rfl, rfl, rfl, rfl⟩, rfl⟩
theorem stageFrame_onFo (n : Fin 4) (g : Fo → Fo) (s : State) : StageFrame s (onFo n g s) := ⟨⟨rfl, rfl, rfl, rfl, rfl⟩, rfl⟩
theorem stageFrame_settleDio (c : Fin 16) (s : State) : StageFrame s (settleDio c s) := ⟨⟨rfl, rfl, rfl, rfl, rfl⟩, rfl⟩
theorem stageFrame_safeFo (n : Fin 4) (s : State) : StageFrame s (safeFo n s) := ⟨⟨rfl, rfl, rfl, rfl, rfl⟩, rfl⟩
theorem stageFrame_onCan (c : Fin 2) (g : Can → Can) (s : State) : StageFrame s (onCan c g s) := ⟨⟨rfl, rfl, rfl, rfl, rfl⟩, rfl⟩
theorem stageFrame_stage (code source : Nat) (data : List Byte) (s : State) : StageFrame s (stage code source data s) :=
  ⟨⟨rfl, rfl, rfl, rfl, rfl⟩, rfl⟩
theorem stageFrame_openAio (c : Fin 8) (s : State) : StageFrame s (openAio c s) := ⟨⟨rfl, rfl, rfl, rfl, rfl⟩, rfl⟩
theorem stageFrame_driveAio (c : Fin 8) (v : Option W64) (s : State) : StageFrame s (driveAio c v s) := ⟨⟨rfl, rfl, rfl, rfl, rfl⟩, rfl⟩

theorem stageFrame_safeAio (c : Fin 8) (s : State) : StageFrame s (safeAio c s) :=
  .ite (.refl s) (.ite (stageFrame_openAio ..) ((stageFrame_driveAio ..).trans (stageFrame_onAio ..)))

theorem stageFrame_setPower (p : PowerState) (cause : Nat) (s : State) : StageFrame s (setPower p cause s) :=
  .ite (.refl s) ⟨⟨rfl, rfl, rfl, rfl, rfl⟩, rfl⟩

theorem stageFrame_yieldAio (instants : List (TaskId × Nat)) (c : Fin 8) (s : State) : StageFrame s (yieldAio instants c s) := by
  unfold yieldAio
  split
  · exact .refl s
  · dsimp only
    split
    · split
      · exact (stageFrame_onAio ..).trans (stageFrame_onAio ..)
      · exact (stageFrame_onAio ..).trans (stageFrame_openAio ..)
    · exact (stageFrame_onAio ..).trans (stageFrame_safeAio ..)

theorem stageFrame_endBatch (ch : Fin 2) (b : CanBatch) (s : State) : StageFrame s (endBatch ch b s) :=
  .trans (stageFrame_onCan ch _ s) ((keeperWork_jmod ..).trans (keeperWork_jend ..)).stageFrame

theorem stageFrame_endBatches (ch : Fin 2) (s : State) : StageFrame s (endBatches ch s) := .foldl (fun _ _ => stageFrame_endBatch ..) ..

theorem stageFrame_withdrawCan (ch : Fin 2) (s : State) : StageFrame s (withdrawCan ch s) := by
  unfold withdrawCan
  split
  · exact .trans (stageFrame_onCan ch _ s) (stageFrame_endBatches ch _)
  · exact .refl s

theorem stageFrame_yieldStages (instants : List (TaskId × Nat)) (s : State) : StageFrame s (yieldStages instants s) := by
  have dio (u : State) : StageFrame u (eachDio yieldDio u) :=
    .foldl (fun v _ => .ite (.refl v) (.trans (stageFrame_onDio ..) (stageFrame_settleDio ..))) ..
  have aio (u : State) : StageFrame u (eachAio (yieldAio instants) u) := .foldl (fun _ _ => stageFrame_yieldAio ..) ..
  have fo (u : State) : StageFrame u (each4 yieldFo u) :=
    .foldl (fun v _ => .ite (.refl v) (.trans (stageFrame_onFo ..) (stageFrame_safeFo ..))) ..
  exact (dio s).trans ((aio _).trans ((fo _).trans ((stageFrame_withdrawCan 0 _).trans (stageFrame_withdrawCan 1 _))))

/-- The network and the executions have no part in a roll-back. -/
theorem rollBack_reads (s : State) : (rollBack s).net = s.net ∧ (rollBack s).ctl.execs = s.ctl.execs := by
  let reading (u : State) : Net × List Exec := (u.net, u.ctl.execs)
  have kept {u v : State} (h : KeeperWork u v) : reading v = reading u := by rw [h]
  have reverted (c : Commit) (u : State) : reading (revertCommit c u) = reading u := by
    unfold revertCommit
    split <;> rfl
  have all : reading (rollBack s) = reading s := by
    unfold rollBack
    extract_lets gone reported lost returned settled stopped
    calc reading (gone.foldl (fun s x => jend x.id .rolledBack stEpochGone s) (onKeeper (fun k => { k with changes := [] }) stopped))
      _ = reading returned := foldl_reads (F := reading) (fun _ _ => kept (keeperWork_jend ..)) ..
      _ = reading reported := foldl_reads (F := reading) (fun _ _ => reverted ..) ..
      _ = reading s := foldl_reads (F := reading) (fun u x => by split; exacts [kept (keeperWork_failureReport ..), rfl]) ..
  exact ⟨congrArg Prod.fst all, congrArg Prod.snd all⟩

/-! ### Superseded, R168 -/

theorem rolePart_endSwitch (status : Nat) (cause : SwitchCause) (s : State) :
    rolePart (endSwitch status cause s) = { rolePart s with switch := none } := by
  unfold endSwitch
  split
  · exact (rolePart_jend ..).trans (rolePart_jmod ..)
  · next none_waits => rw [← none_waits]; rfl

/-- A change of the module's state leaves the pair, and of the network all but the `STATUS` stream under claim zero. -/
theorem enterState_reads (new : ModState) (cause : SwitchCause) (s : State) :
    (enterState new cause s).pair = s.pair ∧ (enterState new cause s).net.nodes = s.net.nodes := by
  unfold enterState
  extract_lets old entered noted powered zeroed
  have into_noted : StageFrame entered noted := .ite (stageFrame_stage ..) (.refl _)
  have into_powered : StageFrame noted powered := .ite (stageFrame_setPower ..) (.refl _)
  have trims (u : State) : StageFrame u (endTrims u) :=
    .foldl (fun v _ => ((stageFrame_onField _ v).trans ((keeperWork_jmod ..).trans (keeperWork_jend ..)).stageFrame).trans (stageFrame_safeAio ..)) ..
  have into_zeroed : zeroed.pair = powered.pair ∧ zeroed.net.nodes = powered.net.nodes := by
    unfold zeroed
    split <;> exact ⟨rfl, rfl⟩
  obtain ⟨zero_pair, zero_nodes⟩ := into_zeroed
  split
  · exact ⟨rfl, rfl⟩
  · exact ⟨(trims zeroed).pair.trans (zero_pair.trans (into_powered.pair.trans into_noted.pair)),
      (congrArg Net.nodes (trims zeroed).net).trans (zero_nodes.trans (congrArg Net.nodes (into_powered.net.trans into_noted.net)))⟩

theorem rolePart_flagSuperseded (s : State) : rolePart (pairChanged (fun p => { p with supersededFlag := true, lastCause := .superseded }) s) =
    { rolePart s with lastCause := .superseded } := by
  rw [rolePart_pairChanged]
  rfl

theorem rolePart_endServing (s : State) :
    rolePart (onTow (fun t => { t with handoverSent := none, serving := false }) s) = { rolePart s with sent := none } := rfl

theorem rolePart_supersede (c : Nat) (s : State) : rolePart (supersede c s) =
    { rolePart s with state := .ready, claim := 0, lastCause := .superseded, sent := none, switch := none } := by
  unfold supersede
  extract_lets told yielded ended flagged quiet closed entered
  have to_ended : rolePart ended = { rolePart s with switch := none } := calc
    rolePart ended = { rolePart (rollBack yielded) with switch := none } := (rolePart_endProof _).trans (rolePart_endSwitch ..)
    _ = { rolePart s with switch := none } := by rw [rolePart_rollBack, rolePart_yieldStages]; rfl
  have to_flagged : rolePart flagged = { rolePart ended with lastCause := .superseded } := rolePart_flagSuperseded ended
  have to_quiet : rolePart quiet = rolePart flagged := rolePart_onNet _ flagged
  have to_closed : rolePart closed = { rolePart quiet with sent := none } := rolePart_endServing quiet
  rw [rolePart_stopTasks, rolePart_dropClaim, rolePart_enterState, to_closed, to_quiet, to_flagged, to_ended]

/-- The last part of being superseded: the state READY, no claim, no task. -/
theorem supersede_end_reads (s : State) : (stopTasks (dropClaim (enterState .ready .superseded s))).pair.supersededFlag = s.pair.supersededFlag ∧
    (stopTasks (dropClaim (enterState .ready .superseded s))).ctl.execs = s.ctl.execs ∧
    (stopTasks (dropClaim (enterState .ready .superseded s))).net.nodes = s.net.nodes := by
  obtain ⟨pair, nodes⟩ := enterState_reads .ready .superseded s
  have ctl := (enterState_beside (.refl s) .ready .superseded).ctl
  generalize enterState .ready .superseded s = u at pair nodes ctl ⊢
  refine ⟨?_, ?_, nodes⟩
  · show u.pair.supersededFlag = _
    rw [pair]
  · show u.ctl.execs = _
    rw [ctl]

theorem flagSuperseded_pair (s : State) :
    (pairChanged (fun p => { p with supersededFlag := true, lastCause := .superseded }) s).pair.supersededFlag = true := by
  unfold pairChanged watchPair
  split <;> rfl

theorem halted_reads (s : State) : (dropOwnBarges (haltExecs s)).ctl.execs = [] ∧ (dropOwnBarges (haltExecs s)).net = s.net := ⟨rfl, rfl⟩

theorem endServing_reads (s : State) :
    let u := onTow (fun t => { t with handoverSent := none, serving := false }) (onNet (fun n => { n with safeRepeats := 0 }) s)
    u.pair = s.pair ∧ u.ctl = s.ctl ∧ u.net.nodes = s.net.nodes := ⟨rfl, rfl, rfl⟩

theorem supersede_reads (c : Nat) (s : State) : (supersede c s).pair.supersededFlag = true ∧ (supersede c s).ctl.execs = [] ∧
    (supersede c s).net.nodes = s.net.nodes := by
  unfold supersede
  extract_lets told yielded ended flagged quiet closed entered
  obtain ⟨flag, execs, nodes⟩ := supersede_end_reads closed
  obtain ⟨rolled_net, rolled_execs⟩ := rollBack_reads yielded
  have ending : RoleFrame (rollBack yielded) ended := (roleFrame_endSwitch ..).trans (roleFrame_endProof _)
  have yielding : StageFrame (dropOwnBarges (haltExecs told)) yielded := stageFrame_yieldStages ..
  obtain ⟨halted_execs, halted_net⟩ := halted_reads told
  have told_net : told.net = s.net := rfl
  have closed_reads : closed.pair = flagged.pair ∧ closed.ctl = flagged.ctl ∧ closed.net.nodes = flagged.net.nodes := endServing_reads flagged
  have flagging : RoleFrame ended flagged := roleFrame_pairChanged ..
  have flagged_eq : flagged = pairChanged (fun p => { p with supersededFlag := true, lastCause := .superseded }) ended := rfl
  have flag_set : flagged.pair.supersededFlag = true := by rw [flagged_eq, flagSuperseded_pair]
  clear_value closed quiet flagged ended yielded told
  have no_execs : ended.ctl.execs = [] := by rw [ending.ctl, rolled_execs, yielding.ctl, halted_execs]
  have nodes_kept : ended.net.nodes = s.net.nodes := by rw [ending.net, rolled_net, yielding.net, halted_net, told_net]
  obtain ⟨closed_pair, closed_ctl, closed_nodes⟩ := closed_reads
  exact ⟨by rw [flag, closed_pair, flag_set], by rw [execs, closed_ctl, flagging.ctl, no_execs],
    by rw [nodes, closed_nodes, flagging.net, nodes_kept]⟩

end Sys2Proof.Machine
end

section
/-! What a barge that is received leaves: in the node table, in the streams of the owner's other module, and of the role (R39, R160, R164, R167,
R168, R188, R189, R199, R208). -/

namespace Sys2Proof.Machine
open Sys2Proof

/-! ### The node table -/

/-- What a barge received says of its node, and what it takes of its bucket. -/
structure LandedPart where
  landing : List LandedBarge
  session : Option Nat
  lastSeq : Nat
  obeyed : Nat
  tokens : Nat
  accepted : Nat

def landedPart (n : Node) : LandedPart :=
  { landing := n.landing, session := n.session, lastSeq := n.lastSeq, obeyed := n.obeyedClaim, tokens := n.tokens, accepted := n.accepted }

/-- From `s` to `t` every node of the table keeps what barges received said of it. -/
structure NodesKept (s t : State) : Prop where
  part : ∀ q, (tget q t.net.nodes).map landedPart = (tget q s.net.nodes).map landedPart

theorem NodesKept.of_eq {s t : State} (h : t.net.nodes = s.net.nodes) : NodesKept s t := ⟨fun q => by rw [h]⟩

theorem NodesKept.trans {s t u : State} (h : NodesKept s t) (k : NodesKept t u) : NodesKept s u := ⟨fun q => (k.part q).trans (h.part q)⟩

theorem NodesKept.ite {c : Prop} [Decidable c] {s t u : State} (h : NodesKept s t) (k : NodesKept s u) : NodesKept s (if c then t else u) := by
  split
  · exact h
  · exact k

theorem NodesKept.foldl {α : Type} {f : State → α → State} (hf : ∀ s a, NodesKept s (f s a)) (xs : List α) (s : State) :
    NodesKept s (xs.foldl f s) := by
  induction xs generalizing s with
  | nil => exact .of_eq rfl
  | cons x xs ih => exact (hf s x).trans (ih _)

/-- A node of the table after operations that keep the nodes. -/
theorem NodesKept.get {s t : State} (h : NodesKept s t) {q : Nat} {m : Node} (hm : tget q s.net.nodes = some m) :
    ∃ m', tget q t.net.nodes = some m' ∧ landedPart m' = landedPart m := by
  have kept := h.part q
  rw [hm] at kept
  exact Option.map_eq_some_iff.1 kept

theorem nodesKept_tmod {g : Node → Node} (i : Nat) {s t : State} (ht : t.net.nodes = tmod i g s.net.nodes)
    (hg : ∀ n, landedPart (g n) = landedPart n) : NodesKept s t := ⟨fun q => by
  rw [ht]
  exact map_tget_tmod hg ..⟩

theorem nodesKept_onNode {g : Node → Node} (hg : ∀ n, landedPart (g n) = landedPart n) (i : Nat) (s : State) :
    NodesKept s (onNet (fun n => { n with nodes := tmod i g n.nodes }) s) := nodesKept_tmod i rfl hg

theorem nodesKept_discard (p : Fin 3) (i : Nat) (d : Discard) (s : State) : NodesKept s (discard p (some i) d s) :=
  nodesKept_tmod i rfl fun _ => rfl

theorem nodesKept_onNet {g : Net → Net} (s : State) (hg : ∀ n, (g n).nodes = n.nodes := by exact fun _ => rfl) : NodesKept s (onNet g s) :=
  .of_eq (hg s.net)

theorem nodesKept_autoSchedule (sent : Nat) (s : State) : NodesKept s (autoSchedule sent s) :=
  .ite (.ite (nodesKept_onNet s) (nodesKept_onNet s)) (.of_eq rfl)

/-- The engine's count is all that a barge taken changes. -/
theorem engineTake_eq (s : State) : ∃ second count, engineTake s = onNet (fun n => { n with engineSecond := second, engineCount := count }) s :=
  ⟨_, _, rfl⟩

theorem nodes_engineTake (s : State) : (engineTake s).net.nodes = s.net.nodes := by
  obtain ⟨second, count, e⟩ := engineTake_eq s
  rw [e]
  rfl

theorem nodesKept_engineTake (s : State) : NodesKept s (engineTake s) := .of_eq (nodes_engineTake s)

theorem nodesKept_onPort (p : Fin 3) (g : Port → Port) (s : State) : NodesKept s (onPort p g s) := .of_eq rfl

theorem nodesKept_queueOn (held : Option (TaskId × Nat)) (k : BargeKind) (dst : Nat) (bytes : List Byte) (s : State) :
    NodesKept s (queueOn held k dst bytes s) :=
  (nodesKept_engineTake s).trans ((nodesKept_onPort 0 _ _).trans (nodesKept_onPort 1 _ _))

theorem nodesKept_nextToNode (node : Nat) (s : State) : NodesKept s (onNet (fun _ => (nextToNode node s.net).2) s) := by
  unfold nextToNode
  split
  · exact nodesKept_tmod node rfl fun _ => rfl
  · exact .of_eq rfl

theorem nodesKept_sendToNode (held : Option (TaskId × Nat)) (b : Barge) (s : State) : NodesKept s (sendToNode held b s) :=
  (nodesKept_nextToNode b.node s).trans ((NodesKept.foldl (fun _ _ => nodesKept_queueOn ..) ..).trans (nodesKept_autoSchedule ..))

theorem nodesKept_sendClaimTo (node : Nat) (s : State) : NodesKept s (sendClaimTo node s) := by
  have lagging (n : Node) : landedPart (lagFrom (nowOf s) s.pair.claim n) = landedPart n := by
    unfold lagFrom
    split <;> rfl
  exact (nodesKept_sendToNode none { bargeBase s .claim with node := node, release := s.net.auth.switchAt } s).trans
    (nodesKept_onNode lagging node _)

/-! ### The roles that a barge of a node may move -/

theorem nodes_obeyClaim (c : Nat) (s : State) : (obeyClaim c s).net.nodes = s.net.nodes := by
  unfold obeyClaim
  split
  · rfl
  · split
    · exact (supersede_reads c s).2.2
    · rw [(stageFrame_yieldStages [] s).net]

theorem nodes_seeClaim (c : Nat) (s : State) : (seeClaim c s).net.nodes = s.net.nodes := nodes_obeyClaim c (noteClaim c s)

theorem net_markMirrored (e : Nat) (s : State) : (markMirrored e s).net = s.net := by
  unfold markMirrored
  split
  · rfl
  · refine (foldl_reads (F := State.net) (fun u x => ?_) _ _).trans rfl
    split
    · rw [keeperWork_jmod]
    · rw [(keeperWork_jmod ..).trans (keeperWork_jend ..)]

theorem nodes_confirmByNodes (s : State) : (confirmByNodes s).net.nodes = s.net.nodes := by
  unfold confirmByNodes confirmAlone settleMirror
  split
  · split
    · rw [net_markMirrored]
      rfl
    · rfl
  · rfl

/-! ### A barge of a node that lands, R39, R41, R202 -/

theorem landedPart_ackOne (n : Node) (a : Nat × Nat) : landedPart (ackOne n a) = landedPart n := by
  unfold ackOne
  split <;> rfl

theorem landedPart_acks (as : List (Nat × Nat)) (n : Node) : landedPart (as.foldl ackOne n) = landedPart n := by
  induction as generalizing n with
  | nil => rfl
  | cons a as ih => exact (ih _).trans (landedPart_ackOne ..)

theorem landedPart_supersedeLatest (s : State) (node : Nat) (n : Node) : landedPart (supersedeLatest s node n) = landedPart n := by
  unfold supersedeLatest
  split
  · split <;> rfl
  · rfl

/-- The part of a node that a barge of it has landed in. -/
def afterLanding (t : Nat) (b : Barge) (bytes : List Byte) (n : Node) : LandedPart :=
  { landing := lastN 4 (n.landing ++ [landed t b bytes (freeBuffer n.landing)]), session := some b.epochLow, lastSeq := b.sequence,
    obeyed := b.obeyed, tokens := n.tokens - 1, accepted := sat32 (n.accepted + 1) }

theorem landInput_spec (t source : Nat) {b : Barge} (bytes : List Byte) {s : State} {n : Node} (hn : tget b.node s.net.nodes = some n) :
    (tget b.node (landInput t source b bytes s).net.nodes).map landedPart = some (afterLanding t b bytes n) ∧
      ∀ q, q ≠ b.node → tget q (landInput t source b bytes s).net.nodes = tget q s.net.nodes := by
  have acked : landedPart ((bargeAcks b).foldl ackOne (supersedeLatest s b.node n)) = landedPart n :=
    (landedPart_acks ..).trans (landedPart_supersedeLatest ..)
  unfold landInput
  extract_lets buffer land put noted cleared
  have nodes : (onNet (fun x => { x with lastComplete := if cleared.mod.state = .active then lastComplete cleared else x.lastComplete }) cleared).net.nodes =
      tmod b.node put s.net.nodes := by
    unfold cleared
    split <;> rfl
  rw [nodes]
  refine ⟨?_, fun q hq => tget_tmod_ne (Ne.symm hq) ..⟩
  rw [tget_tmod_same, hn]
  have buffer_eq : buffer = freeBuffer n.landing := by simp only [buffer, hn]
  have landing := congrArg LandedPart.landing acked
  have tokens := congrArg LandedPart.tokens acked
  have accepted := congrArg LandedPart.accepted acked
  simp only [landedPart] at landing tokens accepted
  simp only [Option.map_some, landedPart, afterLanding, put, land, landing, tokens, accepted, buffer_eq]

theorem nodesKept_answerLowClaim (b : Barge) (s : State) : NodesKept s (answerLowClaim b s) := .ite (nodesKept_sendClaimTo ..) (.of_eq rfl)

theorem takeInput_keeps (t source : Nat) (b : Barge) (bytes : List Byte) (s : State) : NodesKept (landInput t source b bytes s) (takeInput t source b bytes s) := by
  refine NodesKept.trans ?_ (nodesKept_answerLowClaim b _)
  exact .ite (.of_eq ((nodes_confirmByNodes _).trans (nodes_seeClaim ..))) (.of_eq rfl)

/-! ### The list of the latest buffers -/

theorem length_lastN {α : Type} (k : Nat) (xs : List α) : (lastN k xs).length = min k xs.length := by
  rw [lastN, List.length_drop]
  omega

theorem getLast?_lastN_append {α : Type} (k : Nat) (xs : List α) (x : α) : (lastN (k + 1) (xs ++ [x])).getLast? = some x := by
  rw [lastN, List.length_append, List.drop_append_of_le_length (by simp), List.getLast?_append]
  rfl

/-! ### The checks of a barge, R189, R199 -/

section
variable {p : Fin 3} {kind : BargeKind} {bytes : List Byte} {judge : State → Barge → Option Discard} {take : Barge → State → State} {s : State} {b : Barge}

theorem receiveBarge_taken (hd : engineDrops kind s = false) (hp : parseBarge bytes = .ok b) (hk : b.kind = kind)
    (hj : judge (engineTake s) b = none) : receiveBarge p kind bytes judge take s = take b (engineTake s) := by
  simp [receiveBarge, hd, hp, hk, hj]

theorem receiveBarge_discarded {d : Discard} (hd : engineDrops kind s = false) (hp : parseBarge bytes = .ok b) (hk : b.kind = kind)
    (hj : judge (engineTake s) b = some d) : receiveBarge p kind bytes judge take s = discard p (some b.node) d (engineTake s) := by
  simp [receiveBarge, hd, hp, hk, hj]

end

/-- The barge that the engine takes counts for no check. -/
theorem judgeInput_engineTake (s : State) (b : Barge) : judgeInput (engineTake s) b = judgeInput s b := by
  obtain ⟨second, count, e⟩ := engineTake_eq s
  have now : nowOf (engineTake s) = nowOf s := by rw [e]; rfl
  have near (x : Nat) : nearNow (engineTake s) x = nearNow s x := by rw [nearNow, nearNow, now]
  simp only [judgeInput, near]
  rw [e]
  rfl

theorem judgeOther_engineTake (s : State) (b : Barge) : judgeOther (engineTake s) b = judgeOther s b := by
  obtain ⟨second, count, e⟩ := engineTake_eq s
  rw [e]
  rfl

section
variable {t source : Nat} {p : Fin 3} {bytes : List Byte} {s : State} {b : Barge}

theorem engineDrops_input (he : engineTaken s = false) : engineDrops .input s = false := by
  simp [engineDrops, he]

theorem logicAwake_atTime (ha : logicAwake s = true) (t : Nat) : logicAwake (atTime t s) = true := by
  rw [← ha, logicAwake, logicAwake, atTime_path, atTime_mod]

theorem exec_inputBarge (ha : logicAwake s = true) : exec (.inputBargeReceive t p source bytes) s =
    .next (receiveBarge p .input bytes judgeInput (fun b => takeInput t source b bytes) (atTime t s)) :=
  congrArg Host.Outcome.next (if_pos (logicAwake_atTime ha t))

theorem leads_inputBarge_lands {n : Node} (ha : logicAwake s = true) (hp : parseBarge bytes = .ok b) (hk : b.kind = .input)
    (he : engineTaken (atTime t s) = false) (hj : judgeInput (atTime t s) b = none) (hn : tget b.node s.net.nodes = some n) :
    Leads (.inputBargeReceive t p source bytes) s fun s' =>
      ∃ n', tget b.node s'.net.nodes = some n' ∧ n'.landing.getLast? = some (landed t b bytes (freeBuffer n.landing)) ∧
        n'.landing.length = min 4 (n.landing.length + 1) ∧ n'.session = some b.epochLow ∧ n'.lastSeq = b.sequence ∧
        n'.obeyedClaim = b.obeyed ∧ n'.tokens = n.tokens - 1 ∧ n'.accepted = sat32 (n.accepted + 1) ∧
        ∀ q m, q ≠ b.node → tget q s.net.nodes = some m → ∃ m', tget q s'.net.nodes = some m' ∧ m'.landing = m.landing := by
  have runs := exec_inputBarge (t := t) (p := p) (source := source) (bytes := bytes) ha
  rw [receiveBarge_taken (engineDrops_input he) hp hk ((judgeInput_engineTake ..).trans hj)] at runs
  have kept := takeInput_keeps t source b bytes (engineTake (atTime t s))
  have nodes : (engineTake (atTime t s)).net.nodes = s.net.nodes := nodes_engineTake _
  obtain ⟨own, others⟩ := landInput_spec t source (b := b) (s := engineTake (atTime t s)) (n := n) bytes (by rw [nodes, hn])
  rw [nodes] at others
  generalize takeInput t source b bytes (engineTake (atTime t s)) = s' at runs kept
  obtain ⟨n', found, part⟩ := Option.map_eq_some_iff.1 ((kept.part b.node).trans own)
  have landing : n'.landing = lastN 4 (n.landing ++ [landed t b bytes (freeBuffer n.landing)]) := congrArg LandedPart.landing part
  refine ⟨s', runs, n', found, ?latest, ?length, congrArg LandedPart.session part, congrArg LandedPart.lastSeq part,
    congrArg LandedPart.obeyed part, congrArg LandedPart.tokens part, congrArg LandedPart.accepted part, fun q m hq hm => ?other⟩
  case latest => rw [landing, getLast?_lastN_append]
  case length => rw [landing, length_lastN, List.length_append, List.length_singleton]
  case other =>
    obtain ⟨m', there, same⟩ := kept.get ((others q hq).trans hm)
    exact ⟨m', there, congrArg LandedPart.landing same⟩

theorem leads_inputBarge_discarded {d : Discard} (ha : logicAwake s = true) (hp : parseBarge bytes = .ok b) (hk : b.kind = .input)
    (he : engineTaken (atTime t s) = false) (hj : judgeInput (atTime t s) b = some d) :
    Leads (.inputBargeReceive t p source bytes) s fun s' => s'.net.counts[p] = bumpDiscard d s.net.counts[p] ∧ s'.pair = s.pair ∧ s'.img = s.img ∧
      ∀ q m, tget q s.net.nodes = some m → ∃ m', tget q s'.net.nodes = some m' ∧ m'.landing = m.landing ∧ m'.lastSeq = m.lastSeq ∧
        m'.tokens = m.tokens := by
  refine ⟨_, exec_inputBarge ha, ?_⟩
  rw [receiveBarge_discarded (engineDrops_input he) hp hk ((judgeInput_engineTake ..).trans hj)]
  have kept : NodesKept (atTime t s) (discard p (some b.node) d (engineTake (atTime t s))) :=
    (nodesKept_engineTake _).trans (nodesKept_discard ..)
  obtain ⟨second, count, e⟩ := engineTake_eq (atTime t s)
  rw [e] at kept ⊢
  refine ⟨vmod_getElem_same .., rfl, rfl, fun q m hm => ?_⟩
  obtain ⟨m', there, same⟩ := kept.get hm
  exact ⟨m', there, congrArg LandedPart.landing same, congrArg LandedPart.lastSeq same, congrArg LandedPart.tokens same⟩

theorem overrun_reads (id : Nat) (s : State) : (overrun id s).net = s.net ∧ (overrun id s).pair = s.pair ∧ (overrun id s).img = s.img := by
  unfold overrun
  dsimp only
  split <;> exact ⟨rfl, rfl, rfl⟩

theorem leads_inputBarge_overrun (ha : logicAwake s = true) (he : engineTaken (atTime t s) = true) :
    Leads (.inputBargeReceive t p source bytes) s fun s' =>
      s'.net = { s.net with engineFull := sat32 (s.net.engineFull + 1) } ∧ s'.pair = s.pair ∧ s'.img = s.img := by
  have drops : engineDrops .input (atTime t s) = true := by simp [engineDrops, he]
  refine ⟨_, exec_inputBarge ha, ?_⟩
  rw [receiveBarge, if_pos drops]
  exact overrun_reads ..

end

end Sys2Proof.Machine
end

section
/-! Barges of the owner's other module: their streams, the claims they carry and the key-epoch switch they announce (R160, R164, R167, R168, R188,
R208). -/

namespace Sys2Proof.Machine
open Sys2Proof

/-! ### What a barge shows whatever its kind -/

/-- State, claims and cause of a module whose role is known. -/
theorem role_reads {s : State} {r : RolePart} (h : rolePart s = r) :
    s.mod.state = r.state ∧ s.pair.claim = r.claim ∧ s.pair.highestClaim = r.highest ∧ s.pair.lastCause = r.lastCause := by
  rw [← h]
  exact ⟨rfl, rfl, rfl, rfl⟩

/-- The last sequence of a stream is the barge's once it is remembered. -/
theorem lastInStream_noteStream (b : Barge) (s : State) : lastInStream (noteStream b s) b = b.sequence := by
  have gone : ((s.net.partnerStreams.filter fun x => !(x.1 == streamClass b && x.2.1 == b.node && x.2.2.1 == b.claim)).find? fun x =>
      x.1 == streamClass b && x.2.1 == b.node && x.2.2.1 == b.claim) = none := by
    refine List.find?_eq_none.2 fun x hx => ?_
    have other := (List.mem_filter.1 hx).2
    rw [Bool.not_eq_true'] at other
    rw [other]
    decide
  simp only [lastInStream, noteStream, onNet_net, List.find?_append, gone]
  simp

/-- From `s` to `t` the module heard a barge of the owner's other module: streams, pair flags and what was observed change, and nothing of the
role, the settings, the keys or the executions. -/
structure Heard (s t : State) : Prop where
  role : rolePart t = rolePart s
  auth : t.net.auth = s.net.auth
  settings : t.settings = s.settings
  execs : t.ctl.execs = s.ctl.execs

theorem Heard.trans {s t u : State} (h : Heard s t) (k : Heard t u) : Heard s u :=
  ⟨k.role.trans h.role, k.auth.trans h.auth, k.settings.trans h.settings, k.execs.trans h.execs⟩

theorem Heard.state_eq {s t : State} (h : Heard s t) : t.mod.state = s.mod.state := congrArg RolePart.state h.role

theorem Heard.countsForClaims_eq {s t : State} (h : Heard s t) (b : Barge) : countsForClaims t b = countsForClaims s b := by
  simp only [countsForClaims, tagValid, keyEpochFor, cfg, settingBytes, h.settings, h.auth]

theorem heard_engineTake (s : State) : Heard s (engineTake s) := by
  obtain ⟨second, count, e⟩ := engineTake_eq s
  rw [e]
  exact ⟨rfl, rfl, rfl, rfl⟩

/-- On a module that is no standby a barge of the other module is remembered, and on P1 and P2 shows that the module exists. -/
theorem noteOwnerBarge_spec (p : Fin 3) (b : Barge) {s : State} (hs : s.mod.state ≠ .standby) :
    Heard s (noteOwnerBarge p b s) ∧ lastInStream (noteOwnerBarge p b s) b = b.sequence ∧
      (p ≠ 2 → (noteOwnerBarge p b s).pair.heardBarge = true) := by
  have noted := lastInStream_noteStream b s
  have noted_heard : Heard s (noteStream b s) := ⟨rfl, rfl, rfl, rfl⟩
  have not_standby : (noteStream b s).mod.state ≠ .standby := hs
  unfold noteOwnerBarge
  generalize noteStream b s = u at noted noted_heard not_standby
  by_cases port : p = 2
  · simp only [port, if_true]
    exact ⟨noted_heard, noted, fun h => absurd rfl h⟩
  · simp only [port, if_false]
    split
    · rw [if_neg fun h => not_standby h.1]
      exact ⟨noted_heard.trans ⟨rfl, rfl, rfl, rfl⟩, noted, fun _ => rfl⟩
    · rw [if_neg fun h => not_standby h.1]
      exact ⟨noted_heard.trans ⟨rfl, rfl, rfl, rfl⟩, noted, fun _ => rfl⟩

/-! ### The key-epoch switch that a CLAIM barge announces, R208 -/

/-- The key epochs accepted before a switch is announced are accepted after it, in their place. -/
theorem keyEpochs_announced {a : Auth} (ha : a.switchAt = 0) (x : Nat) : ∃ more, keyEpochs { a with switchAt := x } = keyEpochs a ++ more := by
  unfold keyEpochs
  cases a.closed with
  | false => exact ⟨[], by simp⟩
  | true =>
    by_cases hx : x = 0
    · exact ⟨[], by simp [ha, hx]⟩
    · exact ⟨[a.keyEpoch + 1], by simp [ha, hx]⟩

theorem tagValid_announced {s : State} {b : Barge} (ha : s.net.auth.switchAt = 0) (hv : tagValid s b = true) (x : Nat) :
    tagValid (onNet (fun n => { n with auth := { n.auth with switchAt := x } }) s) b = true := by
  obtain ⟨more, after⟩ := keyEpochs_announced ha x
  rw [← hv]
  unfold tagValid keyEpochFor at hv ⊢
  rw [onNet_net, after, List.find?_append]
  cases hf : (keyEpochs s.net.auth).find? fun x => x % 4 == b.keySlot with
  | none => simp [hf] at hv
  | some e => rfl

theorem countsForClaims_announced {s : State} {b : Barge} (ha : s.net.auth.switchAt = 0) (hc : countsForClaims s b = true) (x : Nat) :
    countsForClaims (onNet (fun n => { n with auth := { n.auth with switchAt := x } }) s) b = true := by
  unfold countsForClaims at hc ⊢
  rw [Bool.or_eq_true, Bool.and_eq_true] at hc ⊢
  refine hc.imp (fun off => off) fun tagged => ⟨tagged.1, tagValid_announced ha tagged.2 x⟩

/-- What a barge of each kind says of the next key epoch before its claim counts: only a CLAIM barge announces a switch. -/
def announceSwitch (b : Barge) (s : State) : State := if b.kind = .claim then noteSwitch b s else s

theorem noteSwitch_of_active {b : Barge} {s : State} (hs : s.mod.state = .active) : noteSwitch b s = s := if_neg fun h => h.2.1 hs

/-- An announcement leaves the role, the pair, the streams and what the barge counts for. -/
theorem announceSwitch_spec (b : Barge) (s : State) : rolePart (announceSwitch b s) = rolePart s ∧ (announceSwitch b s).pair = s.pair ∧
    lastInStream (announceSwitch b s) b = lastInStream s b ∧ countsForClaims (announceSwitch b s) b = countsForClaims s b := by
  unfold announceSwitch noteSwitch
  split
  · split
    · next h =>
      obtain ⟨-, -, counts, unset⟩ := h
      exact ⟨rfl, rfl, rfl, (countsForClaims_announced unset counts _).trans counts.symm⟩
    · exact ⟨rfl, rfl, rfl, rfl⟩
  · exact ⟨rfl, rfl, rfl, rfl⟩

theorem switchAt_announceSwitch {b : Barge} {s : State} (hk : b.kind = .claim) (hs : s.mod.state ≠ .active) (hc : countsForClaims s b = true)
    (ha : s.net.auth.switchAt = 0) : (announceSwitch b s).net.auth.switchAt = b.release := by
  unfold announceSwitch noteSwitch
  rw [if_pos hk]
  split
  · rfl
  · next h =>
    by_contra differs
    exact h ⟨fun zero => differs (ha.trans zero.symm), hs, hc, ha⟩

/-! ### The claim that a barge carries, R164, R167, R168 -/

theorem judgeTie_of_not_active {b : Barge} {s : State} (hs : s.mod.state ≠ .active) : judgeTie b s = s := by
  unfold judgeTie
  rw [if_pos (.inl hs)]

/-- A module that is not active lets its stages yield at most. -/
theorem obeyClaim_of_not_active (c : Nat) {s : State} (hs : s.mod.state ≠ .active) :
    StageFrame s (obeyClaim c s) ∧ (obeyClaim c s).mod.state = s.mod.state := by
  unfold obeyClaim
  rw [if_neg hs]
  split
  · exact ⟨.refl s, rfl⟩
  · exact ⟨stageFrame_yieldStages [] s, (role_reads (rolePart_yieldStages [] s)).1⟩

/-- What the claim of a barge does to a module that is not active: on P1 and P2 it raises the highest claim seen. -/
theorem claimOf_of_not_active (p : Fin 3) (b : Barge) {s : State} (hs : s.mod.state ≠ .active) :
    (claimOf p b s).net = s.net ∧ (claimOf p b s).mod.state = s.mod.state ∧
      (claimOf p b s).pair = if p ≠ 2 ∧ countsForClaims s b = true then { s.pair with highestClaim := max s.pair.highestClaim b.claim } else s.pair := by
  unfold claimOf
  by_cases counts : countsForClaims s b = true
  · rw [if_pos counts]
    by_cases port : p = 2
    · obtain ⟨frame, state⟩ := obeyClaim_of_not_active b.claim hs
      rw [if_pos port, judgeTie_of_not_active (by rw [state]; exact hs), if_neg fun h => h.1 port]
      exact ⟨frame.net, state, frame.pair⟩
    · obtain ⟨frame, state⟩ := obeyClaim_of_not_active b.claim (s := noteClaim b.claim s) hs
      rw [if_neg port, seeClaim, judgeTie_of_not_active (by rw [state]; exact hs), if_pos ⟨port, counts⟩]
      exact ⟨frame.net, state, frame.pair⟩
  · rw [if_neg counts, if_neg fun h => counts h.2]
    exact ⟨rfl, rfl, rfl⟩

/-- A higher claim supersedes an active. -/
theorem claimOf_of_active (p : Fin 3) {b : Barge} {s : State} (hs : s.mod.state = .active) (h0 : s.pair.claim ≠ 0) (hb : s.pair.claim < b.claim)
    (counts : countsForClaims s b = true) : claimOf p b s = supersede b.claim (if p = 2 then s else noteClaim b.claim s) := by
  have obeys {u : State} (hu : u.mod.state = .active) (hc : u.pair.claim = s.pair.claim) : obeyClaim b.claim u = supersede b.claim u := by
    rw [obeyClaim, if_neg (by rw [hc]; omega), if_pos hu]
  have ready (u : State) : (supersede b.claim u).mod.state ≠ .active := by
    rw [(role_reads (rolePart_supersede b.claim u)).1]
    simp
  unfold claimOf
  rw [if_pos counts]
  by_cases port : p = 2
  · rw [if_pos port, if_pos port, obeys hs rfl, judgeTie_of_not_active (ready s)]
  · rw [if_neg port, if_neg port, seeClaim, obeys (u := noteClaim b.claim s) hs rfl, judgeTie_of_not_active (ready _)]

/-! ### The three kinds of barges -/

section
variable {t source : Nat} {p : Fin 3} {bytes : List Byte} {s : State} {b : Barge} {k : Instr}

/-- The kinds of barges that carry a claim of the owner's other module, with their events. -/
abbrev CarriesClaim (t : Nat) (p : Fin 3) (source : Nat) (bytes : List Byte) (b : Barge) (k : Instr) : Prop :=
  b.kind = .output ∧ k = .outputBargeReceive t p source bytes ∨ b.kind = .safe ∧ k = .safeBargeReceive t p source bytes ∨
    b.kind = .claim ∧ k = .claimBargeReceive t p source bytes

theorem receiveOther_own {kind : BargeKind} {take : Barge → State → State} : receiveOther p 0 kind bytes take s = s := by
  unfold receiveOther fromOther
  rw [if_pos rfl, ite_self]

theorem exec_ownBarge (hk : CarriesClaim t p 0 bytes b k) : exec k s = .next (atTime t s) := by
  obtain ⟨-, rfl⟩ | ⟨-, rfl⟩ | ⟨-, rfl⟩ := hk
  · exact congrArg Host.Outcome.next receiveOther_own
  · exact congrArg Host.Outcome.next receiveOther_own
  · exact congrArg Host.Outcome.next receiveOther_own

theorem receiveOther_taken {kind : BargeKind} {take : Barge → State → State} (ha : logicAwake s = true) (h0 : source ≠ 0)
    (hp : parseBarge bytes = .ok b) (hk : b.kind = kind) (hi : kind ≠ .input) (hj : judgeOther s b = none) :
    receiveOther p source kind bytes take s = take b (noteOwnerBarge p b (engineTake s)) := by
  have roomy : engineDrops kind s = false := by simp [engineDrops, hi]
  unfold receiveOther fromOther
  rw [if_pos ha, if_neg h0, receiveBarge_taken roomy hp hk ((judgeOther_engineTake ..).trans hj)]

theorem compareOutput_of_not_standby {u : State} (hs : u.mod.state ≠ .standby) : compareOutput t b u = u := dif_neg fun h => hs h.1

/-- On a module that is no standby the three kinds differ in the announcement only. -/
theorem exec_otherBarge (ha : logicAwake s = true) (hp : parseBarge bytes = .ok b) (hj : judgeOther (atTime t s) b = none)
    (hk : CarriesClaim t p source bytes b k) (h0 : source ≠ 0) (hs : s.mod.state ≠ .standby) :
    exec k s = .next (claimOf p b (announceSwitch b (noteOwnerBarge p b (engineTake (atTime t s))))) := by
  have awake := logicAwake_atTime ha t
  obtain ⟨kind, rfl⟩ | ⟨kind, rfl⟩ | ⟨kind, rfl⟩ := hk
  · refine congrArg Host.Outcome.next ((receiveOther_taken awake h0 hp kind (by decide) hj).trans ?_)
    have took := heard_engineTake (atTime t s)
    have not_standby : (engineTake (atTime t s)).mod.state ≠ .standby := by rw [took.state_eq]; exact hs
    obtain ⟨heard, -, -⟩ := noteOwnerBarge_spec p b not_standby
    have state : (noteOwnerBarge p b (engineTake (atTime t s))).mod.state ≠ .standby := by rw [heard.state_eq]; exact not_standby
    rw [compareOutput_of_not_standby state, announceSwitch, if_neg (by rw [kind]; decide)]
  · refine congrArg Host.Outcome.next ((receiveOther_taken awake h0 hp kind (by decide) hj).trans ?_)
    rw [announceSwitch, if_neg (by rw [kind]; decide)]
  · refine congrArg Host.Outcome.next ((receiveOther_taken awake h0 hp kind (by decide) hj).trans ?_)
    rw [announceSwitch, if_pos kind]

theorem leads_otherBarge_ready (ha : logicAwake s = true) (hp : parseBarge bytes = .ok b) (hj : judgeOther (atTime t s) b = none)
    (hk : CarriesClaim t p source bytes b k) (h0 : source ≠ 0) (hs : s.mod.state = .ready) :
    Leads k s fun s' => lastInStream s' b = b.sequence ∧ (p ≠ 2 → s'.pair.heardBarge = true) ∧ s'.mod.state = .ready ∧
      (p ≠ 2 → countsForClaims (atTime t s) b = true → s'.pair.highestClaim = max s.pair.highestClaim b.claim) ∧
      (p = 2 ∨ countsForClaims (atTime t s) b = false → s'.pair.highestClaim = s.pair.highestClaim) ∧
      (b.kind = .claim → countsForClaims (atTime t s) b = true → s.net.auth.switchAt = 0 → s'.net.auth.switchAt = b.release) := by
  have runs := exec_otherBarge ha hp hj hk h0 (by rw [hs]; decide)
  have took := heard_engineTake (atTime t s)
  generalize engineTake (atTime t s) = u at runs took
  obtain ⟨heard, stream, existing⟩ := noteOwnerBarge_spec p b (s := u) (by rw [took.state_eq, atTime_mod, hs]; decide)
  have heard := took.trans heard
  generalize noteOwnerBarge p b u = v at runs heard stream existing
  have state : v.mod.state = .ready := by rw [heard.state_eq, atTime_mod, hs]
  obtain ⟨role, pair, kept_stream, counts⟩ := announceSwitch_spec b v
  have announces (kind : b.kind = .claim) := switchAt_announceSwitch kind (s := v) (by rw [state]; decide)
  generalize announceSwitch b v = w at runs role pair kept_stream counts announces
  have ready : w.mod.state = .ready := (role_reads role).1.trans state
  obtain ⟨net, after, pair_after⟩ := claimOf_of_not_active p b (s := w) (by rw [ready]; decide)
  generalize claimOf p b w = s' at runs net after pair_after
  have highest : w.pair.highestClaim = s.pair.highestClaim := by rw [pair, (role_reads heard.role).2.2.1]; rfl
  rw [counts, heard.countsForClaims_eq] at pair_after
  rw [heard.countsForClaims_eq, heard.auth] at announces
  refine ⟨s', runs, ?stream, fun port => ?heard, by rw [after, ready], fun port hc => ?raised, fun h => ?kept, fun kind hc unset => ?switch⟩
  case stream => rw [← stream, ← kept_stream, lastInStream, lastInStream, net]
  case heard =>
    rw [pair_after]
    split <;> rw [pair, existing port]
  case raised => rw [pair_after, if_pos ⟨port, hc⟩, highest]
  case kept =>
    rw [pair_after, if_neg (by simpa [Classical.or_iff_not_imp_left] using h), highest]
  case switch => rw [net, announces kind hc unset]

theorem leads_otherBarge_active (ha : logicAwake s = true) (hp : parseBarge bytes = .ok b) (hj : judgeOther (atTime t s) b = none)
    (hk : CarriesClaim t p source bytes b k) (h0 : source ≠ 0) (hs : s.mod.state = .active) (hc : s.pair.claim ≠ 0)
    (hb : s.pair.claim < b.claim) (counts : countsForClaims (atTime t s) b = true) :
    Leads k s fun s' => s'.mod.state = .ready ∧ s'.pair.claim = 0 ∧ s'.pair.supersededFlag = true ∧ s'.pair.lastCause = .superseded ∧
      s'.pair.highestClaim = (if p = 2 then s.pair.highestClaim else max s.pair.highestClaim b.claim) ∧ s'.ctl.execs = [] := by
  have runs := exec_otherBarge ha hp hj hk h0 (by rw [hs]; decide)
  have took := heard_engineTake (atTime t s)
  generalize engineTake (atTime t s) = u at runs took
  obtain ⟨heard, -, -⟩ := noteOwnerBarge_spec p b (s := u) (by rw [took.state_eq, atTime_mod, hs]; decide)
  have heard := took.trans heard
  generalize noteOwnerBarge p b u = v at runs heard
  obtain ⟨state, claim, highest, -⟩ := role_reads heard.role
  have active : v.mod.state = .active := state.trans hs
  have silent : announceSwitch b v = v := by rw [announceSwitch, noteSwitch_of_active active, ite_self]
  have claim : v.pair.claim = s.pair.claim := claim
  have highest : v.pair.highestClaim = s.pair.highestClaim := highest
  rw [silent, claimOf_of_active p active (by rw [claim]; exact hc) (by rw [claim]; exact hb) (by rw [heard.countsForClaims_eq]; exact counts)] at runs
  have seen : (if p = 2 then v else noteClaim b.claim v).pair.highestClaim =
      if p = 2 then s.pair.highestClaim else max s.pair.highestClaim b.claim := by
    rw [← highest]
    split <;> rfl
  generalize (if p = 2 then v else noteClaim b.claim v) = w at runs seen
  obtain ⟨ready, unclaimed, highest_after, cause⟩ := role_reads (rolePart_supersede b.claim w)
  obtain ⟨flag, execs, -⟩ := supersede_reads b.claim w
  exact ⟨_, runs, ready, unclaimed, flag, cause, highest_after.trans seen, execs⟩

end

/-- The rate of a node is a matter of the settings alone. -/
theorem nodeRateOf_congr {u v : State} (h : cfg v = cfg u) (node : Nat) : nodeRateOf v node = nodeRateOf u node := by
  have enabled : cfgFlag v = cfgFlag u := by
    funext id
    rw [cfgFlag, cfgFlag, h]
  have entry : nodeEntry v node = nodeEntry u node := by
    unfold nodeEntry
    rw [enabled, h]
  unfold nodeRateOf
  rw [entry]
  simp only [h]

theorem leads_tokenBucketRefill {t node : Nat} {s : State} {n : Node} (hn : tget node s.net.nodes = some n) :
    Leads (.tokenBucketRefill t node) s fun s' =>
      tget node s'.net.nodes = some { n with tokens := min (fullBucket (nodeRateOf s node)) (n.tokens + 1) } ∧ s'.pair = s.pair := by
  have rate : nodeRateOf (atTime t s) node = nodeRateOf s node := nodeRateOf_congr (by funext id; rfl) node
  refine ⟨onNet (fun x => { x with nodes := tmod node (fun n => { n with tokens := min (fullBucket (nodeRateOf (atTime t s) node)) (n.tokens + 1) }) x.nodes })
    (atTime t s), rfl, ?_, rfl⟩
  rw [onNet_net, tget_tmod_same, atTime_net, hn, rate]
  rfl

/-- Settles O29: a node's barge changes its entry of the table and at most the role, and a barge of the other module is remembered and then
judged by its claim. -/
theorem bargesReceived : Obligations.BargesReceived := by
  refine ⟨⟨fun t p source bytes s b ha hp hk => ⟨?lands, ?discarded, ?overrun⟩, fun t node s n hn => leads_tokenBucketRefill hn⟩,
    fun t p source bytes s b k ha hp hj hk => ⟨?own, ?ready, ?active⟩⟩
  case lands => exact fun n he hj hn => leads_inputBarge_lands ha hp hk he hj hn
  case discarded => exact fun d he hj => leads_inputBarge_discarded ha hp hk he hj
  case overrun => exact fun he => leads_inputBarge_overrun ha he
  case own =>
    rintro rfl
    exact exec_ownBarge hk
  case ready => exact fun h0 hs => leads_otherBarge_ready ha hp hj hk h0 hs
  case active => exact fun h0 hs hc hb counts => leads_otherBarge_active ha hp hj hk h0 hs hc hb counts

end Sys2Proof.Machine
end

section
/-! What a standby's stream of records rests on: the records that wait, the sequence taken, the copy that is coming and the last mirrored epoch,
with the executions; settings that take effect leave all of it (R147, R155, R347, R349). -/

namespace Sys2Proof.Machine
open Sys2Proof

/-! ### The stream of records -/

/-- The part of the state that the stream of records is followed by. -/
structure StreamPart where
  records : List MirrorRecord
  seqIn : Nat
  catchup : Option CatchUp
  mirrored : Nat

def streamPart (s : State) : StreamPart :=
  { records := s.tow.records, seqIn := s.tow.seqIn, catchup := s.tow.catchup, mirrored := s.img.mirrored }

/-- The same with the executions. -/
structure QuietPart where
  stream : StreamPart
  execs : List Exec

def quietPart (s : State) : QuietPart := { stream := streamPart s, execs := s.ctl.execs }

theorem streamPart_of_quiet {s t : State} (h : quietPart t = quietPart s) : streamPart t = streamPart s := congrArg QuietPart.stream h
theorem execs_of_quiet {s t : State} (h : quietPart t = quietPart s) : t.ctl.execs = s.ctl.execs := congrArg QuietPart.execs h

theorem KeeperWork.quiet_eq {s t : State} (h : KeeperWork s t) : quietPart t = quietPart s := by
  rw [h]
  rfl

@[simp] theorem quietPart_onKeeper (g : Keeper → Keeper) (s : State) : quietPart (onKeeper g s) = quietPart s := rfl
@[simp] theorem quietPart_onNet (g : Net → Net) (s : State) : quietPart (onNet g s) = quietPart s := rfl
@[simp] theorem quietPart_onTime (g : TimeUnit → TimeUnit) (s : State) : quietPart (onTime g s) = quietPart s := rfl
@[simp] theorem quietPart_onPort (p : Fin 3) (g : Port → Port) (s : State) : quietPart (onPort p g s) = quietPart s := rfl
@[simp] theorem quietPart_onCan (c : Fin 2) (g : Can → Can) (s : State) : quietPart (onCan c g s) = quietPart s := rfl
@[simp] theorem quietPart_onBasin (g : Basin → Basin) (s : State) : quietPart (onBasin g s) = quietPart s := rfl
@[simp] theorem quietPart_onPair (g : Pair → Pair) (s : State) : quietPart (onPair g s) = quietPart s := rfl
@[simp] theorem quietPart_onTag (i : Nat) (g : Tag → Tag) (s : State) : quietPart (onTag i g s) = quietPart s := rfl
@[simp] theorem quietPart_onAio (c : Fin 8) (g : Aio → Aio) (s : State) : quietPart (onAio c g s) = quietPart s := rfl
@[simp] theorem quietPart_onDio (c : Fin 16) (g : Dio → Dio) (s : State) : quietPart (onDio c g s) = quietPart s := rfl
@[simp] theorem quietPart_settleDio (c : Fin 16) (s : State) : quietPart (settleDio c s) = quietPart s := rfl
@[simp] theorem quietPart_openAio (c : Fin 8) (s : State) : quietPart (openAio c s) = quietPart s := rfl
@[simp] theorem quietPart_driveAio (c : Fin 8) (v : Option W64) (s : State) : quietPart (driveAio c v s) = quietPart s := rfl
@[simp] theorem quietPart_safeFo (n : Fin 4) (s : State) : quietPart (safeFo n s) = quietPart s := rfl
@[simp] theorem quietPart_draw (s : State) : quietPart (draw s) = quietPart s := rfl
@[simp] theorem quietPart_stage (code source : Nat) (data : List Byte) (s : State) : quietPart (stage code source data s) = quietPart s := rfl
@[simp] theorem quietPart_clearPoison (address len : Nat) (s : State) : quietPart (clearPoison address len s) = quietPart s := rfl
@[simp] theorem quietPart_jmod (id : Nat) (g : JnlEntry → JnlEntry) (s : State) : quietPart (jmod id g s) = quietPart s := (keeperWork_jmod ..).quiet_eq
@[simp] theorem quietPart_jend (id : Nat) (st : JnlState) (status : Nat) (s : State) : quietPart (jend id st status s) = quietPart s :=
  (keeperWork_jend ..).quiet_eq

/-- A change of the image that leaves the last mirrored epoch. -/
theorem quietPart_onImg {g : Image → Image} (s : State) (hg : ∀ i, (g i).mirrored = i.mirrored := by exact fun _ => rfl) :
    quietPart (onImg g s) = quietPart s := by
  simp only [quietPart, streamPart, onImg_img, onImg_tow, onImg_ctl, hg]

/-- A change of control that leaves the executions. -/
theorem quietPart_onCtl {g : Control → Control} (s : State) (hg : ∀ c, (g c).execs = c.execs := by exact fun _ => rfl) :
    quietPart (onCtl g s) = quietPart s := by
  simp only [quietPart, streamPart, onCtl_img, onCtl_tow, onCtl_ctl, hg]

theorem quietPart_ite {c : Prop} [Decidable c] {s t u : State} (ht : quietPart t = quietPart s) (hu : quietPart u = quietPart s) :
    quietPart (if c then t else u) = quietPart s := by
  split
  · exact ht
  · exact hu

theorem quietPart_foldl {α : Type} {f : State → α → State} (hf : ∀ s a, quietPart (f s a) = quietPart s) (xs : List α) (s : State) :
    quietPart (xs.foldl f s) = quietPart s := foldl_reads hf xs s

/-! ### Channels -/

@[simp] theorem quietPart_safeAio (c : Fin 8) (s : State) : quietPart (safeAio c s) = quietPart s := by
  unfold safeAio
  exact quietPart_ite rfl (quietPart_ite (quietPart_openAio ..) ((quietPart_onAio ..).trans (quietPart_driveAio ..)))

@[simp] theorem quietPart_settleDioMode (ids : List Nat) (c : Fin 16) (s : State) : quietPart (settleDioMode ids c s) = quietPart s := by
  unfold settleDioMode
  exact quietPart_ite ((quietPart_settleDio ..).trans (quietPart_onDio ..)) (quietPart_ite (quietPart_settleDio ..) rfl)

@[simp] theorem quietPart_settleAioMode (ids : List Nat) (c : Fin 8) (s : State) : quietPart (settleAioMode ids c s) = quietPart s := by
  unfold settleAioMode
  split
  · extract_lets outside idle
    have idles : quietPart idle = quietPart s := quietPart_onAio ..
    exact quietPart_ite ((quietPart_safeAio ..).trans idles) ((quietPart_openAio ..).trans idles)
  · exact quietPart_ite (quietPart_safeAio ..) rfl

@[simp] theorem quietPart_settleFo (ids : List Nat) (n : Fin 4) (s : State) : quietPart (settleFo ids n s) = quietPart s :=
  quietPart_ite (quietPart_safeFo ..) rfl

@[simp] theorem quietPart_abortBackground (b : Fin 14) (s : State) : quietPart (abortBackground b s) = quietPart s := by
  unfold abortBackground abortRun
  split
  · split
    · rfl
    · simp only [quietPart_jend, quietPart_jmod, quietPart_draw]
      rfl
  · rfl

@[simp] theorem quietPart_endBatches (ch : Fin 2) (s : State) : quietPart (endBatches ch s) = quietPart s :=
  quietPart_foldl (fun s b => by unfold endBatch; simp) ..

@[simp] theorem quietPart_setCanMode (ch : Fin 2) (m : CanMode) (s : State) : quietPart (setCanMode ch m s) = quietPart s := by
  unfold setCanMode
  extract_lets old ended served wake
  have to_ended : quietPart ended = quietPart s := quietPart_ite (quietPart_endBatches ..) rfl
  have to_served : quietPart served = quietPart ended := quietPart_ite (quietPart_abortBackground ..) rfl
  exact (quietPart_onCan ..).trans (to_served.trans to_ended)

@[simp] theorem quietPart_commitCan (ch : Fin 2) (ids : List Nat) (s : State) : quietPart (commitCan ch ids s) = quietPart s := by
  unfold commitCan
  extract_lets enable timing dropped
  have to_dropped : quietPart dropped = quietPart s := quietPart_onCan ..
  exact quietPart_ite ((quietPart_setCanMode ..).trans to_dropped) (quietPart_ite ((quietPart_setCanMode ..).trans to_dropped)
    (quietPart_ite ((quietPart_setCanMode ..).trans ((quietPart_onCan ..).trans to_dropped)) to_dropped))

@[simp] theorem quietPart_settleCan (ch : Fin 2) (ids : List Nat) (s : State) : quietPart (settleCan ch ids s) = quietPart s := quietPart_commitCan ..

/-! ### Network, time and power -/

@[simp] theorem quietPart_buildNodes (s : State) : quietPart (buildNodes s) = quietPart s := by
  unfold buildNodes
  exact quietPart_onNet ..

@[simp] theorem quietPart_settleKeys (entries : Tbl (List Byte)) (s : State) : quietPart (settleKeys entries s) = quietPart s := by
  unfold settleKeys
  extract_lets keyed
  have to_keyed : quietPart keyed = quietPart s := by
    unfold keyed
    split
    · exact quietPart_ite rfl (quietPart_onNet ..)
    · rfl
  split
  · exact (quietPart_onNet ..).trans to_keyed
  · exact to_keyed

@[simp] theorem quietPart_settleTai (entries : Tbl (List Byte)) (s : State) : quietPart (settleTai entries s) = quietPart s := by
  unfold settleTai
  split
  · exact quietPart_ite rfl (quietPart_onTime ..)
  · rfl

@[simp] theorem quietPart_settleGates (p : Fin 3) (ids : List Nat) (s : State) : quietPart (settleGates p ids s) = quietPart s := by
  have schedules : quietPart (scheduleGcl p s) = quietPart s := by
    unfold scheduleGcl
    exact quietPart_ite rfl (quietPart_onPort ..)
  exact quietPart_ite schedules rfl

@[simp] theorem quietPart_setPower (p : PowerState) (cause : Nat) (s : State) : quietPart (setPower p cause s) = quietPart s :=
  quietPart_ite rfl rfl

@[simp] theorem quietPart_settlePower (ids : List Nat) (s : State) : quietPart (settlePower ids s) = quietPart s :=
  quietPart_ite (quietPart_setPower ..) rfl

@[simp] theorem quietPart_holdCheck (s : State) : quietPart (holdCheck s) = quietPart s := by
  unfold holdCheck
  split
  · rfl
  · refine quietPart_foldl (fun u i => ?_) ..
    exact quietPart_ite ((quietPart_stage ..).trans (quietPart_onNet ..)) (quietPart_onNet ..)

/-! ### Settings that take effect -/

@[simp] theorem quietPart_applyImmediate (entries : Tbl (List Byte)) (s : State) : quietPart (applyImmediate entries s) = quietPart s := rfl

@[simp] theorem quietPart_rewriteCopies (s : State) : quietPart (rewriteCopies s) = quietPart s := rfl

@[simp] theorem quietPart_applyAtCommit (entries : Tbl (List Byte)) (s : State) : quietPart (applyAtCommit entries s) = quietPart s := by
  have dio (ids : List Nat) (u : State) : quietPart (eachDio (settleDioMode ids) u) = quietPart u := quietPart_foldl (fun _ _ => quietPart_settleDioMode ..) ..
  have aio (ids : List Nat) (u : State) : quietPart (eachAio (settleAioMode ids) u) = quietPart u := quietPart_foldl (fun _ _ => quietPart_settleAioMode ..) ..
  have fo (ids : List Nat) (u : State) : quietPart (each4 (settleFo ids) u) = quietPart u := quietPart_foldl (fun _ _ => quietPart_settleFo ..) ..
  unfold applyAtCommit
  extract_lets ids taken built timed gated bused staged
  have to_built : quietPart built = quietPart s := quietPart_ite (quietPart_buildNodes taken) rfl
  simp only [quietPart_holdCheck, quietPart_settlePower, staged, fo, aio, dio, bused, quietPart_settleCan, gated, quietPart_settleGates, timed,
    quietPart_settleTai, quietPart_settleKeys, to_built]

end Sys2Proof.Machine
end

section
/-! A record of the active as a standby without executions applies it: whatever its entries and the standby's own changes do, the stream of
records and the last mirrored epoch stay until the record's epoch is marked (R19, R107, R154, R155, R422). -/

namespace Sys2Proof.Machine
open Sys2Proof

/-! ### Operations beside the stream -/

@[simp] theorem streamPart_onExecs (g : List Exec → List Exec) (s : State) : streamPart (onExecs g s) = streamPart s := rfl
@[simp] theorem streamPart_onCtl (g : Control → Control) (s : State) : streamPart (onCtl g s) = streamPart s := rfl
@[simp] theorem streamPart_onTask (k : TaskId) (g : Task → Task) (s : State) : streamPart (onTask k g s) = streamPart s := rfl
@[simp] theorem streamPart_onKeeper (g : Keeper → Keeper) (s : State) : streamPart (onKeeper g s) = streamPart s := rfl
@[simp] theorem streamPart_onSettings (g : Settings → Settings) (s : State) : streamPart (onSettings g s) = streamPart s := rfl
@[simp] theorem streamPart_onNet (g : Net → Net) (s : State) : streamPart (onNet g s) = streamPart s := rfl
@[simp] theorem streamPart_onBasin (g : Basin → Basin) (s : State) : streamPart (onBasin g s) = streamPart s := rfl
@[simp] theorem streamPart_onTag (i : Nat) (g : Tag → Tag) (s : State) : streamPart (onTag i g s) = streamPart s := rfl
@[simp] theorem streamPart_clearPoison (address len : Nat) (s : State) : streamPart (clearPoison address len s) = streamPart s := rfl
@[simp] theorem streamPart_stage (code source : Nat) (data : List Byte) (s : State) : streamPart (stage code source data s) = streamPart s := rfl
@[simp] theorem streamPart_towSend (p : TowPayload) (s : State) : streamPart (towSend p s) = streamPart s := rfl
@[simp] theorem streamPart_setWouldBe (i : Nat) (v : W64) (s : State) : streamPart (setWouldBe i v s) = streamPart s := rfl
@[simp] theorem streamPart_voidTasks (ks : List TaskId) (s : State) : streamPart (voidTasks ks s) = streamPart s := rfl
@[simp] theorem streamPart_jmod (id : Nat) (g : JnlEntry → JnlEntry) (s : State) : streamPart (jmod id g s) = streamPart s :=
  streamPart_of_quiet (quietPart_jmod ..)
@[simp] theorem streamPart_jend (id : Nat) (st : JnlState) (status : Nat) (s : State) : streamPart (jend id st status s) = streamPart s :=
  streamPart_of_quiet (quietPart_jend ..)
@[simp] theorem streamPart_applyAtCommit (entries : Tbl (List Byte)) (s : State) : streamPart (applyAtCommit entries s) = streamPart s :=
  streamPart_of_quiet (quietPart_applyAtCommit ..)

/-- A change of the image that leaves the last mirrored epoch. -/
theorem streamPart_onImg {g : Image → Image} (s : State) (hg : ∀ i, (g i).mirrored = i.mirrored := by exact fun _ => rfl) :
    streamPart (onImg g s) = streamPart s := streamPart_of_quiet (quietPart_onImg s hg)

theorem streamPart_ite {c : Prop} [Decidable c] {s t u : State} (ht : streamPart t = streamPart s) (hu : streamPart u = streamPart s) :
    streamPart (if c then t else u) = streamPart s := by
  split
  · exact ht
  · exact hu

theorem streamPart_foldl {α : Type} {f : State → α → State} (hf : ∀ s a, streamPart (f s a) = streamPart s) (xs : List α) (s : State) :
    streamPart (xs.foldl f s) = streamPart s := foldl_reads hf xs s

/-! ### Tasks -/

@[simp] theorem streamPart_requestFullForm (k : TaskId) (s : State) : streamPart (requestFullForm k s) = streamPart s :=
  streamPart_ite rfl ((streamPart_towSend ..).trans (streamPart_onTask ..))

@[simp] theorem streamPart_noteRunning (k : TaskId) (s : State) : streamPart (noteRunning k s) = streamPart s :=
  streamPart_ite rfl (streamPart_onTask ..)

@[simp] theorem streamPart_resumeNext (s : State) : streamPart (resumeNext s) = streamPart s := by
  unfold resumeNext
  split
  · rfl
  · dsimp only
    split
    · rfl
    · split <;> rfl

@[simp] theorem streamPart_startTask (k : TaskId) (s : State) : streamPart (startTask k s) = streamPart s :=
  (streamPart_onImg _).trans ((streamPart_onCtl ..).trans (streamPart_onTask ..))

@[simp] theorem streamPart_stopTask (k : TaskId) (s : State) : streamPart (stopTask k s) = streamPart s := by
  unfold stopTask
  exact streamPart_ite ((streamPart_resumeNext _).trans ((streamPart_onExecs ..).trans ((streamPart_voidTasks ..).trans (streamPart_onTask ..))))
    (streamPart_onTask ..)

/-! ### Values and forces -/

@[simp] theorem streamPart_hostWrite (i : Nat) (v : W64) (epoch : Nat) (s : State) : streamPart (hostWrite i v epoch s) = streamPart s := by
  unfold hostWrite
  split
  · rfl
  · exact streamPart_ite (streamPart_setWouldBe ..) ((streamPart_clearPoison ..).trans (streamPart_onTag ..))

@[simp] theorem streamPart_applyForce (i : Nat) (v : W64) (epoch : Nat) (s : State) : streamPart (applyForce i v epoch s) = streamPart s := by
  unfold applyForce
  split
  · rfl
  · exact streamPart_ite ((streamPart_clearPoison ..).trans ((streamPart_onTag ..).trans (streamPart_onImg s))) (streamPart_onImg s)

@[simp] theorem streamPart_clearForce (i : Nat) (epoch : Nat) (s : State) : streamPart (clearForce i epoch s) = streamPart s := by
  unfold clearForce
  extract_lets had cleared
  have to_cleared : streamPart cleared = streamPart s := streamPart_onImg s
  split
  · exact streamPart_ite ((streamPart_clearPoison ..).trans ((streamPart_onTag ..).trans to_cleared)) to_cleared
  · exact to_cleared

@[simp] theorem streamPart_commitInst (n : Nat) (r : Inst) (s : State) : streamPart (commitInst n r s) = streamPart s := by
  unfold commitInst
  dsimp only
  split
  · rfl
  · exact streamPart_ite rfl rfl

@[simp] theorem streamPart_takeSlot (x : SlotImage) (epoch : Nat) (s : State) : streamPart (takeSlot x epoch s) = streamPart s := by
  unfold takeSlot
  split
  · rfl
  · exact (streamPart_clearPoison ..).trans (streamPart_onTag ..)

@[simp] theorem streamPart_putForce (f : Force) (s : State) : streamPart (putForce f s) = streamPart s := streamPart_onImg s
@[simp] theorem streamPart_dropForce (i : Nat) (s : State) : streamPart (dropForce i s) = streamPart s := streamPart_onImg s

/-! ### Programs and settings -/

@[simp] theorem streamPart_freeAio (old : Option Program) (s : State) : streamPart (freeAio old s) = streamPart s :=
  streamPart_foldl (fun _ _ => streamPart_ite (streamPart_of_quiet (quietPart_safeAio ..)) rfl) ..

@[simp] theorem streamPart_installProgram (new : Program) (staging : Tbl Inst) (epoch : Nat) (s : State) :
    streamPart (installProgram new staging epoch s) = streamPart s := by
  unfold installProgram
  extract_lets old dropped unforced tags gone fresh stopped freed switched started
  have to_unforced : streamPart unforced = streamPart s := streamPart_foldl (fun u i => (streamPart_stage ..).trans (streamPart_onImg u)) ..
  have to_stopped : streamPart stopped = streamPart unforced := streamPart_foldl (fun _ _ => streamPart_stopTask ..) ..
  have to_freed : streamPart freed = streamPart stopped := (streamPart_freeAio ..).trans (streamPart_onImg stopped)
  have to_switched : streamPart switched = streamPart freed := streamPart_onCtl ..
  have to_started : streamPart started = streamPart switched := streamPart_ite (streamPart_foldl (fun _ _ => streamPart_startTask ..) ..) rfl
  rw [streamPart_of_quiet (quietPart_holdCheck started), to_started, to_switched, to_freed, to_stopped, to_unforced]

theorem streamPart_failExchange (id status reason : Nat) (s : State) : streamPart (failExchange id status reason s) = streamPart s :=
  (streamPart_jend ..).trans ((streamPart_onCtl ..).trans (streamPart_of_quiet (keeperWork_failureReport ..).quiet_eq))

theorem streamPart_takeExchange (id epoch : Nat) (s : State) : streamPart (takeExchange id epoch s).1 = streamPart s := by
  unfold takeExchange
  split
  · split
    · exact streamPart_failExchange ..
    · split
      · exact streamPart_failExchange ..
      · exact (streamPart_jmod ..).trans ((streamPart_installProgram ..).trans (streamPart_jmod ..))
  · rfl

theorem streamPart_takeCommit (id epoch : Nat) (s : State) : streamPart (takeCommit id epoch s).1 = streamPart s := by
  unfold takeCommit
  split
  · rfl
  · exact (streamPart_jmod ..).trans ((streamPart_applyAtCommit ..).trans (streamPart_onSettings ..))

theorem streamPart_applySettings (r : MirrorRecord) (s : State) : streamPart (applySettings r s) = streamPart s := by
  unfold applySettings
  exact streamPart_ite rfl (streamPart_of_quiet ((quietPart_rewriteCopies _).trans ((quietPart_applyAtCommit ..).trans (quietPart_applyImmediate ..))))

/-! ### Host changes of the standby, R349 -/

theorem streamPart_applyChange (c : HostChange) (epoch : Nat) (s : State) : streamPart (applyChange c epoch s).1 = streamPart s := by
  unfold applyChange
  split
  case h_1 ws =>
    split
    · exact streamPart_jend ..
    · exact (streamPart_jmod ..).trans (streamPart_foldl (fun _ _ => streamPart_hostWrite ..) ..)
  case h_2 fs =>
    split
    · exact streamPart_jend ..
    · exact (streamPart_jmod ..).trans (streamPart_foldl (fun _ _ => streamPart_applyForce ..) ..)
  case h_3 tags all => exact (streamPart_jmod ..).trans (streamPart_foldl (fun _ _ => streamPart_clearForce ..) ..)
  case h_4 mask => exact (streamPart_jmod ..).trans (streamPart_foldl (fun _ _ => streamPart_ite (streamPart_startTask ..) rfl) ..)
  case h_5 mask => exact (streamPart_jmod ..).trans (streamPart_foldl (fun _ _ => streamPart_stopTask ..) ..)
  case h_6 => exact streamPart_takeCommit ..
  case h_7 => exact streamPart_takeExchange ..

theorem streamPart_applyList (epoch : Nat) (cs : List HostChange) (r : State × List MirrorEntry) : streamPart (applyList epoch cs r).1 = streamPart r.1 := by
  induction cs generalizing r with
  | nil => rfl
  | cons c cs ih => exact (ih _).trans (streamPart_applyChange ..)

theorem streamPart_standbyChanges (epoch : Nat) (s : State) : streamPart (standbyChanges epoch s) = streamPart s := by
  unfold standbyChanges applyChanges
  dsimp only
  exact (streamPart_onKeeper ..).trans ((streamPart_onSettings ..).trans ((streamPart_applyList ..).trans (streamPart_onKeeper ..)))

/-! ### A migration that a step ends, R422 -/

theorem streamPart_beginMigration (logical cause : Nat) (s : State) : streamPart (beginMigration logical cause s) = streamPart s := by
  unfold beginMigration
  dsimp only
  split
  · exact (streamPart_stage ..).trans (streamPart_onBasin ..)
  · exact (streamPart_onBasin ..).trans ((streamPart_onBasin ..).trans ((streamPart_onBasin ..).trans (streamPart_of_quiet (quietPart_abortBackground ..))))

theorem streamPart_nextMigration (s : State) : streamPart (nextMigration s) = streamPart s := by
  unfold nextMigration
  split
  · exact (streamPart_beginMigration ..).trans (streamPart_onBasin ..)
  · rfl

theorem streamPart_migrateAtStep (epoch : Nat) (s : State) : streamPart (migrateAtStep epoch s) = streamPart s := by
  have checks (u : State) : streamPart (checkSpares u) = streamPart u := streamPart_ite rfl rfl
  unfold migrateAtStep finishMigration
  split
  · refine streamPart_ite ?_ rfl
    split
    · rfl
    · exact (streamPart_nextMigration _).trans ((checks _).trans rfl)
  · rfl

/-! ### The entries of a record, R154 -/

theorem streamPart_journalTasks (x : JnlEntry) (epoch : Nat) (s : State) : streamPart (journalTasks x epoch s) = streamPart s := by
  unfold journalTasks
  exact streamPart_ite rfl (streamPart_ite (streamPart_foldl (fun _ _ => streamPart_ite (streamPart_startTask ..) rfl) ..)
    (streamPart_ite (streamPart_foldl (fun _ _ => streamPart_stopTask ..) ..) rfl))

theorem streamPart_applyEntry (epoch : Nat) (x : MirrorEntry) (s : State) : streamPart (applyEntry epoch x s) = streamPart s := by
  cases x with
  | inst n r => exact streamPart_commitInst ..
  | slot i => exact streamPart_takeSlot ..
  | forceSet f => exact streamPart_putForce ..
  | forceClear i => exact streamPart_dropForce ..
  | journal e => exact (streamPart_journalTasks ..).trans (streamPart_onKeeper ..)
  | exchange v old mask =>
    simp only [applyEntry]
    split
    · exact streamPart_installProgram ..
    · rfl
  | setting p v => rfl
  | undefinedType c => rfl

theorem streamPart_notePublished (r : MirrorRecord) (s : State) : streamPart (notePublished r s) = streamPart s := by
  unfold notePublished
  extract_lets noted
  have to_noted : streamPart noted = streamPart s := by
    unfold noted
    split
    · exact streamPart_foldl (fun _ _ => streamPart_onNet ..) ..
    · rfl
  exact (streamPart_onNet ..).trans to_noted

theorem shadowPlace_of_no_execs {s : State} (h : s.ctl.execs = []) (r : MirrorRecord) : shadowPlace s r = none := by
  unfold shadowPlace placeWhere
  split
  · rfl
  · simp [h]

/-- Without a shadow step a record commits nothing of its own; at most its full form is asked for. -/
theorem streamPart_shadowStep {r : MirrorRecord} {s : State} (h : s.ctl.execs = []) : streamPart (shadowStep r s) = streamPart s := by
  unfold shadowStep
  rw [shadowPlace_of_no_execs h]
  split
  · next none_there => cases none_there
  · exact streamPart_ite rfl (streamPart_requestFullForm ..)
  · rfl

end Sys2Proof.Machine
end

section
/-! A mirror record that a standby takes: its epoch becomes the module's, and mirrored (R154, R155). -/

namespace Sys2Proof.Machine
open Sys2Proof

/-! ### The epoch that a record marks -/

theorem markMirrored_reads (e : Nat) (s : State) : (markMirrored e s).img.epoch = s.img.epoch ∧
    streamPart (markMirrored e s) = { streamPart s with mirrored := max s.img.mirrored e } := by
  unfold markMirrored
  split
  · next reached => exact ⟨rfl, by rw [max_eq_left reached]; rfl⟩
  · next beyond =>
    let reading (u : State) : Nat × StreamPart := (u.img.epoch, streamPart u)
    have kept {u v : State} (h : KeeperWork u v) : reading v = reading u := by rw [h]; rfl
    extract_lets due marked noted
    have folded : reading (due.foldl (fun s x => if x.command = setCommitCode then jmod x.id (fun y => { y with step := 3, mirrored := true }) s
        else jend x.id .done stOk (jmod x.id (fun y => { y with step := y.steps, mirrored := true }) s)) noted) = reading noted := by
      refine foldl_reads (F := reading) (fun u x => ?_) ..
      split
      · exact kept (keeperWork_jmod ..)
      · exact kept ((keeperWork_jmod ..).trans (keeperWork_jend ..))
    refine ⟨congrArg Prod.fst folded, (congrArg Prod.snd folded).trans ?_⟩
    rw [max_eq_right (Nat.le_of_not_le beyond)]
    rfl

/-- Frames formed for a release leave the image and the tow line. -/
theorem formObjects_reads (k : TaskId) (release : Nat) (s : State) : (formObjects k release s).img = s.img ∧ (formObjects k release s).tow = s.tow := by
  let reading (u : State) : Image × Tow := (u.img, u.tow)
  have folded : reading (formObjects k release s) = reading s := by
    unfold formObjects
    refine foldl_reads (F := reading) (fun u ch => foldl_reads (F := reading) (fun v o => ?_) ..) ..
    extract_lets ctl
    split <;> rfl
  exact ⟨congrArg Prod.fst folded, congrArg Prod.snd folded⟩

/-! ### A record that is applied, R155 -/

theorem execs_begun {s : State} (hs : s.ctl.execs = []) (k : TaskId) (tick : Nat) : (dropOlderShadow k tick (noteRunning k s)).ctl.execs = [] := by
  have running : (noteRunning k s).ctl.execs = [] := by
    unfold noteRunning
    split <;> exact hs
  rw [dropOlderShadow, onExecs, onCtl_ctl, running]
  rfl

theorem noteFullForm_reads (r : MirrorRecord) (s : State) : (noteFullForm r s).img.epoch = s.img.epoch ∧ streamPart (noteFullForm r s) = streamPart s :=
  ⟨rfl, rfl⟩

theorem applyRecord_spec (r : MirrorRecord) {s : State} (hs : s.ctl.execs = []) : (applyRecord r s).img.epoch = r.epoch ∧
    streamPart (applyRecord r s) = { streamPart s with mirrored := max s.img.mirrored r.epoch } := by
  unfold applyRecord
  extract_lets offset begun stepped entered changed moved settled published dated formed noted
  have begun_execs : begun.ctl.execs = [] := by
    unfold begun
    split
    · exact execs_begun hs ..
    · exact hs
  have to_begun : streamPart begun = streamPart s := by
    unfold begun
    split
    · exact (streamPart_onExecs ..).trans (streamPart_noteRunning ..)
    · rfl
  have to_stepped : streamPart stepped = streamPart begun := streamPart_shadowStep begun_execs
  have to_entered : streamPart entered = streamPart stepped := streamPart_foldl (fun _ _ => streamPart_applyEntry ..) ..
  have to_changed : streamPart changed = streamPart entered := (streamPart_standbyChanges ..).trans (streamPart_applySettings ..)
  have to_moved : streamPart moved = streamPart changed := streamPart_migrateAtStep ..
  have to_settled : streamPart settled = streamPart moved := by
    unfold settled
    split
    · exact streamPart_ite (streamPart_onTask ..) rfl
    · rfl
  have to_dated : streamPart dated = streamPart s := by
    rw [show streamPart dated = streamPart published from streamPart_onImg published, show streamPart published = streamPart settled from streamPart_notePublished ..,
      to_settled, to_moved, to_changed, to_entered, to_stepped, to_begun]
  have dated_epoch : dated.img.epoch = r.epoch := rfl
  have to_formed : formed.img = dated.img ∧ formed.tow = dated.tow := by
    unfold formed
    split
    · exact formObjects_reads ..
    · exact ⟨rfl, rfl⟩
  obtain ⟨noted_epoch, noted_stream⟩ : noted.img.epoch = formed.img.epoch ∧ streamPart noted = streamPart formed := noteFullForm_reads ..
  clear_value noted formed dated
  obtain ⟨formed_img, formed_tow⟩ := to_formed
  have noted_part : streamPart noted = streamPart s := by rw [noted_stream, ← to_dated, streamPart, formed_img, formed_tow, streamPart]
  obtain ⟨epoch, marked⟩ := markMirrored_reads r.epoch noted
  have mirrored : noted.img.mirrored = s.img.mirrored := congrArg StreamPart.mirrored noted_part
  refine ⟨?epoch, ?stream⟩
  case epoch => rw [noteClaim, onPair_img, epoch, noted_epoch, formed_img, dated_epoch]
  case stream =>
    rw [show streamPart (noteClaim r.claim (markMirrored r.epoch noted)) = streamPart (markMirrored r.epoch noted) from rfl, marked, noted_part, mirrored]

/-! ### A record that comes to a standby without executions, R152, R154, R155 -/

/-- No execution is held where there is none. -/
theorem dropHeld_of_no_execs {s : State} (hs : s.ctl.execs = []) : (dropHeld s).ctl = s.ctl ∧ streamPart (dropHeld s) = streamPart s := by
  have dropped : dropHeld s = resumeNext (voidTasks [] (onExecs (fun es => es.filter fun e => !e.held) s)) := by
    simp only [dropHeld, hs, List.filter_nil, List.map_nil, List.foldl_nil]
  have still : (onExecs (fun es => es.filter fun e => !e.held) s).ctl = s.ctl := by
    rw [onExecs, onCtl_ctl, hs, List.filter_nil, ← hs]
  have idle (u : State) (hu : u.ctl.execs = []) : resumeNext u = u := by
    simp [resumeNext, lanesBusy, hu, sortBy]
  have voided : (voidTasks [] (onExecs (fun es => es.filter fun e => !e.held) s)).ctl = s.ctl := still
  rw [dropped, idle _ (by rw [voided, hs])]
  exact ⟨voided, (streamPart_voidTasks ..).trans (streamPart_onExecs ..)⟩

theorem recordReady_of_no_execs {s : State} (hs : s.ctl.execs = []) (r : MirrorRecord) : recordReady s r = true := by
  rw [recordReady, shadowPlace_of_no_execs hs]

/-- The one record that waits is applied. -/
theorem applyWaiting_one {r : MirrorRecord} {s : State} (hr : s.tow.records = [r]) (hs : s.ctl.execs = []) (hv : lacksVersion s r = false) :
    applyWaiting s = applyRecord r (onTow (fun t => { t with records := [] }) s) := by
  have held : lacksVersion (onTow (fun t => { t with records := [] }) s) r = false := hv
  simp [applyWaiting, hr, settleRecords, recordReady_of_no_execs hs, held]

theorem lacksVersion_congr {s t : State} (h : t.ctl = s.ctl) (r : MirrorRecord) : lacksVersion t r = lacksVersion s r := by
  unfold lacksVersion
  rw [h]

/-- What a standby without executions and without records that wait makes of a valid record. -/
theorem takeRecord_applied {fr : TowHdr} {r : MirrorRecord} {s : State} (hf : fr.invalid = false) (hi : r.invalid = false)
    (hu : undefinedEntry r = false) (hm : s.mod.state = .standby) (hc : s.tow.catchup = none) (hr : s.tow.records = []) (hs : s.ctl.execs = [])
    (hv : lacksVersion s r = false) : (takeRecord fr r s).img.epoch = r.epoch ∧
      streamPart (takeRecord fr r s) = { streamPart s with mirrored := max s.img.mirrored r.epoch } := by
  let seen := onImg (fun im => { im with observed := max im.observed r.epoch }) s
  obtain ⟨ctl, stream⟩ := dropHeld_of_no_execs (s := seen) hs
  have taken : takeRecord fr r s = applyWaiting (onTow (fun w => { w with records := w.records ++ [r] }) (dropHeld seen)) := by
    simp [takeRecord, hf, hi, hu, hc, hm, seen]
  have seen_part : streamPart seen = streamPart s := streamPart_onImg s
  rw [taken]
  generalize dropHeld seen = u at ctl stream
  have part := stream.trans seen_part
  have records : u.tow.records = [] := (congrArg StreamPart.records part).trans hr
  have execs : u.ctl.execs = [] := by rw [ctl]; exact hs
  have version : lacksVersion u r = false := (lacksVersion_congr ctl r).trans hv
  have queued : applyWaiting (onTow (fun w => { w with records := w.records ++ [r] }) u) =
      applyRecord r (onTow (fun t => { t with records := [] }) (onTow (fun w => { w with records := w.records ++ [r] }) u)) :=
    applyWaiting_one (by rw [onTow_tow, records]; rfl) execs version
  obtain ⟨epoch, after⟩ := applyRecord_spec r (s := onTow (fun t => { t with records := [] }) (onTow (fun w => { w with records := w.records ++ [r] }) u)) execs
  have before : streamPart (onTow (fun t => { t with records := [] }) (onTow (fun w => { w with records := w.records ++ [r] }) u)) = streamPart s := by
    rw [← part, streamPart, streamPart, records]
    rfl
  have mirrored : (onTow (fun t => { t with records := [] }) (onTow (fun w => { w with records := w.records ++ [r] }) u)).img.mirrored = s.img.mirrored :=
    congrArg StreamPart.mirrored before
  rw [queued]
  exact ⟨epoch, by rw [after, before, mirrored]⟩

end Sys2Proof.Machine
end

section
/-! The end of a catch-up: the copy becomes the module's image, and the module enters `STANDBY` at the base epoch (R141, R150). -/

namespace Sys2Proof.Machine
open Sys2Proof

/-! ### What the copy installs beside the executions -/

theorem quietPart_jput (x : JnlEntry) (s : State) : quietPart (jput x s) = quietPart s := quietPart_onKeeper ..

theorem quietPart_installChunk (read : Nat) (c : Chunk) (s : State) : quietPart (installChunk read c s) = quietPart s := by
  have marks (address word : Nat) (u : State) : quietPart (markPoison address word u) = quietPart u := quietPart_onBasin ..
  cases c with
  | barge _ _ _ => rfl
  | code _ _ _ => rfl
  | settings _ _ => rfl
  | ending _ _ _ => rfl
  | tagSlots first xs poison =>
    refine (quietPart_foldl (fun u w => ?_) ..).trans (quietPart_foldl (fun u x => quietPart_onTag ..) ..)
    split
    · exact (marks ..).trans (marks ..)
    · rfl
  | state first is poison =>
    refine (quietPart_foldl (fun u w => ?_) ..).trans (quietPart_onCtl s)
    split
    · exact marks ..
    · rfl
  | forces first fs => exact quietPart_onImg s
  | journal first es => exact quietPart_foldl (fun _ _ => quietPart_jput ..) ..
  | lostRanges floor ranges => exact quietPart_onImg s

theorem quietPart_installCode (second : Bool) (x : List Byte × List Nat) (s : State) : quietPart (installCode second x s) = quietPart s := by
  have written : quietPart (writeCode second x.1.length s) = quietPart s := by
    unfold writeCode
    exact (quietPart_onCtl _).trans (quietPart_clearPoison ..)
  exact (quietPart_onCtl _).trans ((quietPart_onBasin ..).trans written)

theorem quietPart_installPrograms (read : Nat) (cs : List Chunk) (s : State) : quietPart (installPrograms read cs s) = quietPart s := by
  unfold installPrograms
  extract_lets xs at_ running tags cleared emptied coded
  have to_emptied : quietPart emptied = quietPart s := (quietPart_onBasin ..).trans ((quietPart_onImg cleared).trans (quietPart_onCtl s))
  have to_coded : quietPart coded = quietPart s := (quietPart_installCode ..).trans ((quietPart_installCode ..).trans to_emptied)
  split
  · exact to_coded
  · exact (quietPart_onCtl coded).trans to_coded

theorem quietPart_installSettings (cs : List Chunk) (s : State) : quietPart (installSettings cs s) = quietPart s :=
  (quietPart_rewriteCopies _).trans ((quietPart_applyAtCommit ..).trans (quietPart_applyImmediate ..))

/-! ### The change of the module's state -/

@[simp] theorem quietPart_endTrims (s : State) : quietPart (endTrims s) = quietPart s :=
  quietPart_foldl (fun u x => by unfold endTrim; simp; rfl) ..

theorem quietPart_enterState (new : ModState) (cause : SwitchCause) (s : State) : quietPart (enterState new cause s) = quietPart s := by
  unfold enterState
  extract_lets old entered noted powered zeroed
  have to_entered : quietPart entered = quietPart s := rfl
  have to_noted : quietPart noted = quietPart entered := quietPart_ite (quietPart_stage ..) rfl
  have to_powered : quietPart powered = quietPart noted := quietPart_ite (quietPart_setPower ..) rfl
  have to_zeroed : quietPart zeroed = quietPart powered := quietPart_ite (quietPart_onNet ..) rfl
  exact quietPart_ite rfl ((quietPart_endTrims zeroed).trans (to_zeroed.trans (to_powered.trans (to_noted.trans to_entered))))

theorem quietPart_pairChanged (g : Pair → Pair) (s : State) : quietPart (pairChanged g s) = quietPart s :=
  quietPart_ite rfl rfl

/-! ### The end of the copy -/

/-- The module enters `STANDBY` with the epoch and the stream that the copy has left. -/
theorem enterStandby_reads {base : Nat} (s : State) {u : State} (role : rolePart s = rolePart u) (quiet : quietPart s = quietPart u)
    (epoch : u.img.epoch = base) (mirrored : u.img.mirrored = base) (catchup : u.tow.catchup = none) (execs : u.ctl.execs = []) :
    let t := enterState .standby .none (pairChanged (fun p => { p with catchingUp := false }) (onPair (fun p => { p with mirrorAlone := true }) s))
    t.mod.state = .standby ∧ t.img.epoch = base ∧ t.img.mirrored = base ∧ t.tow.catchup = none ∧ t.ctl.execs = [] := by
  intro t
  have t_quiet : quietPart t = quietPart u := (quietPart_enterState ..).trans ((quietPart_pairChanged ..).trans ((quietPart_onPair ..).trans quiet))
  have t_role : rolePart t = { rolePart u with state := .standby } := by
    rw [show rolePart t = _ from rolePart_enterState .., rolePart_pairChanged, rolePart_onPair, rolePart_onPair, role]
  exact ⟨congrArg RolePart.state t_role, (congrArg RolePart.epoch t_role).trans epoch,
    (congrArg (fun q => q.stream.mirrored) t_quiet).trans mirrored, (congrArg (fun q => q.stream.catchup) t_quiet).trans catchup,
    (execs_of_quiet t_quiet).trans execs⟩

theorem finishCatchup_spec {c : CatchUp} (hq : c.queued = []) (base : Nat) (s : State) : (finishCatchup c base s).mod.state = .standby ∧
    (finishCatchup c base s).img.epoch = base ∧ (finishCatchup c base s).img.mirrored = base ∧ (finishCatchup c base s).tow.catchup = none ∧
    (finishCatchup c base s).ctl.execs = [] := by
  unfold finishCatchup
  extract_lets held claim cs programmed chunked cleared dated observed applied told built
  have to_chunked : chunked.ctl.execs = [] := by
    have installed : quietPart chunked = quietPart (haltExecs (stopTasks s)) :=
      (quietPart_foldl (fun _ _ => quietPart_installChunk ..) ..).trans ((quietPart_installPrograms ..).trans (quietPart_installSettings ..))
    rw [execs_of_quiet installed]
    rfl
  have to_applied : applied = observed := by
    unfold applied
    rw [hq]
    rfl
  have observed_reads : observed.img.epoch = base ∧ observed.img.mirrored = base ∧ observed.tow.catchup = none ∧
      observed.ctl.execs = chunked.ctl.execs := ⟨rfl, rfl, rfl, rfl⟩
  have built_quiet : quietPart built = quietPart observed := by
    rw [show quietPart built = quietPart told from quietPart_buildNodes told, show quietPart told = quietPart applied from quietPart_stage .., to_applied]
  have built_role : rolePart built = rolePart observed := by
    rw [show rolePart built = rolePart told from rolePart_onNet _ told, show rolePart told = rolePart applied from rolePart_stage .., to_applied]
  clear_value built observed chunked
  obtain ⟨epoch, mirrored, catchup, execs⟩ := observed_reads
  exact enterStandby_reads built built_role built_quiet epoch mirrored catchup (execs.trans to_chunked)

end Sys2Proof.Machine
end

section
/-! The mirror stream at the tow line: manifests, agreement records and their time limits, NACKs, mirror records and the catch-up (R42, R93, R141,
R147, R148, R150 to R155). -/

namespace Sys2Proof.Machine
open Sys2Proof

/-! ### An execution in its place -/

theorem placeWhere_single {s : State} {e : Exec} (hs : s.ctl.execs = [e]) (f : Exec → Bool) : placeWhere s f = if f e then some 0 else none := by
  unfold placeWhere
  rw [hs]
  cases h : f e <;> simp [h, List.range_succ]

/-- The state in which a frame that was accepted is worked on. -/
def framed (t : Nat) (fr : TowHdr) (s : State) : State := onTow (fun w => { w with seqIn := fr.sequence }) (atTime t s)

section
variable {t : Nat} {fr : TowHdr} {s : State}

theorem withFrame_framed (hf : NextFrame fr s) (asks : Bool) (g : State → State) : withFrame fr asks g (atTime t s) = g (framed t fr s) :=
  withFrame_of_nextFrame (nextFrame_atTime hf t) asks g

/-! ### Manifests and agreement records, R42, R93, R148 -/

/-- A tick that has been latched is not latched again. -/
theorem lateLatch_of_seen {m : Manifest} {s : State} (hr : s.ctl.tasks[m.task].running = true) (hl : s.ctl.tasks[m.task].lastTick = some m.tick) :
    lateLatch m s = s := by
  have noted : noteRunning m.task s = s := by
    unfold noteRunning
    rw [hr, Bool.true_or, if_pos rfl]
  unfold lateLatch
  rw [noted, hl]
  simp

theorem leads_manifestReceive {m : Manifest} {i : Nat} {e : Exec} (hf : NextFrame fr s) (hm : s.mod.state = .standby) (hi : manifestPlace s m = some i)
    (he : s.ctl.execs[i]? = some e) (hr : s.ctl.tasks[m.task].running = true) (hl : s.ctl.tasks[m.task].lastTick = some m.tick) :
    Leads (.manifestReceive t fr m) s fun s' =>
      s'.ctl.execs[i]? = some { e with manifest := some m, manifestAt := some t, baseEpoch := m.baseEpoch, slots := manifestSlots s m e.slots } ∧
        s'.img = s.img ∧ s'.tow.seqIn = fr.sequence := by
  let put (e : Exec) : Exec := { e with manifest := some m, manifestAt := some t, baseEpoch := m.baseEpoch, slots := manifestSlots (framed t fr s) m e.slots }
  let reading (u : State) : List Exec × Image × Nat := (u.ctl.execs, u.img, u.tow.seqIn)
  have latched : lateLatch m (framed t fr s) = framed t fr s := lateLatch_of_seen hr hl
  have place : manifestPlace (framed t fr s) m = some i := hi
  have standby : (framed t fr s).mod.state = .standby := hm
  have taken : takeManifest t m (framed t fr s) = m.nodes.foldl (fun u p => if p.2 != 0 && (bargeOf u p.1 p.2).isNone
      then towSend (.nack (.barge p.1 p.2)) u else u) (onExecs (lmod i put) (framed t fr s)) := by
    simp only [takeManifest, standby, ne_eq, not_true_eq_false, if_false, latched, place]
    rfl
  have read : reading (takeManifest t m (framed t fr s)) = reading (onExecs (lmod i put) (framed t fr s)) := by
    rw [taken]
    refine foldl_reads (F := reading) (fun u p => ?_) ..
    split <;> rfl
  refine ⟨takeManifest t m (framed t fr s), congrArg Host.Outcome.next (withFrame_framed hf ..), ?_,
    congrArg (fun r => r.2.1) read, congrArg (fun r => r.2.2) read⟩
  rw [show (takeManifest t m (framed t fr s)).ctl.execs = _ from congrArg Prod.fst read]
  exact lmod_getElem?_same put he

theorem leads_agreementReceive {a : Agreement} {i : Nat} {e : Exec} (hf : NextFrame fr s) (hm : s.mod.state = .standby)
    (hi : placeWhere s (fun e => e.task == a.task && e.tick == a.tick && e.shadow) = some i) (he : s.ctl.execs[i]? = some e) :
    Leads (.agreementReceive t fr a) s fun s' => s'.ctl.execs[i]? = some { e with agreements := e.agreements ++ a.entries } ∧
      s'.img = s.img ∧ s'.tow.seqIn = fr.sequence := by
  have place : placeWhere (framed t fr s) (fun e => e.task == a.task && e.tick == a.tick && e.shadow) = some i := hi
  have standby : (framed t fr s).mod.state = .standby := hm
  have runs : execAgreementReceive t fr a s =
      .next (onExecs (lmod i fun e => { e with agreements := e.agreements ++ a.entries }) (framed t fr s)) := by
    simp only [execAgreementReceive, withFrame_framed hf, standby, place, if_true]
  exact ⟨_, runs, lmod_getElem?_same _ he, rfl, rfl⟩

/-! ### Manifests and barges that do not come, R151, R152 -/

section
variable {k : TaskId} {e : Exec} (hs : s.ctl.execs = [e]) (hk : e.task = k) (hp : e.phase = .latched) (hsh : e.shadow = true)
include hs hk hp hsh

theorem leads_manifestTimeout (hh : e.held = false) (hm : e.manifest = none) (ht : e.tick + 10000 ≤ t) :
    Leads (.manifestTimeout t k) s fun s' => s'.ctl.execs = [{ e with held := true }] ∧ s'.img = s.img := by
  have place := placeWhere_single (s := atTime t s) hs fun e =>
    e.task == k && e.phase == .latched && e.shadow && !e.held && e.manifest.isNone && decide (e.tick + 10000 ≤ t)
  rw [if_pos (by simp [hk, hp, hsh, hh, hm, ht])] at place
  have runs : execManifestTimeout t k s = .next (onExecs (lmod 0 fun e => { e with held := true }) (atTime t s)) := by
    simp only [execManifestTimeout, place]
  refine ⟨_, runs, ?_, rfl⟩
  rw [onExecs, onCtl_ctl, atTime_ctl, hs]
  rfl

omit hk hp hsh in
theorem exec_manifestTimeout_early (ht : t < e.tick + 10000) : exec (.manifestTimeout t k) s = .next (atTime t s) := by
  have place := placeWhere_single (s := atTime t s) hs fun e =>
    e.task == k && e.phase == .latched && e.shadow && !e.held && e.manifest.isNone && decide (e.tick + 10000 ≤ t)
  rw [if_neg (by simp [Nat.not_le.2 ht])] at place
  show execManifestTimeout t k s = _
  simp only [execManifestTimeout, place]

theorem leads_bargeFetchTimeout {m : Manifest} {a : Nat} (hu : e.unmatched = false) (hm : e.manifest = some m) (ha : e.manifestAt = some a)
    (hx : manifestMatched e m = false) (ht : a + 20000 ≤ t) :
    Leads (.bargeFetchTimeout t k) s fun s' => s'.ctl.execs = [{ e with unmatched := true }] ∧ s'.ctl.tasks[k].wantFull = true := by
  have runs : execBargeFetchTimeout t k s = .next (requestFullForm k (onExecs (lmod 0 fun e => { e with unmatched := true }) (atTime t s))) := by
    simp only [execBargeFetchTimeout]
    rw [placeWhere_single (s := atTime t s) hs, if_pos (by simp [hk, hp, hsh, hu, hm, ha, hx, ht])]
  have execs : (onExecs (lmod 0 fun e => { e with unmatched := true }) (atTime t s)).ctl.execs = [{ e with unmatched := true }] := by
    rw [onExecs, onCtl_ctl, atTime_ctl, hs]
    rfl
  generalize onExecs (lmod 0 fun e => { e with unmatched := true }) (atTime t s) = u at runs execs
  refine ⟨_, runs, ?_⟩
  unfold requestFullForm
  split
  · next wanted => exact ⟨execs, wanted⟩
  · exact ⟨execs, congrArg Task.wantFull (vmod_getElem_same ..)⟩

end

/-! ### NACKs, R147, R153 -/

theorem exec_nackReceive (hf : NextFrame fr s) (n : Nack) : exec (.nackReceive t fr n) s = .next (takeNack n (framed t fr s)) :=
  congrArg Host.Outcome.next (withFrame_framed hf ..)

theorem leads_nack_fullForm (hf : NextFrame fr s) (k : TaskId) :
    Leads (.nackReceive t fr (.fullForm k)) s fun s' => s'.ctl.tasks[k].sendFull = true ∧ s'.img = s.img :=
  ⟨_, exec_nackReceive hf _, congrArg Task.sendFull (vmod_getElem_same ..), rfl⟩

theorem leads_nack_resend {n : Nat} (hf : NextFrame fr s) (h0 : n ≠ 0) (hh : (framesFrom s n).all (stillHeld s) = true) :
    Leads (.nackReceive t fr (.resend n)) s fun s' => s'.tow.sent = s.tow.sent ++ framesFrom s n ∧ s'.img = s.img := by
  have sends : takeNack (.resend n) (framed t fr s) = onTow (fun w => { w with sent := w.sent ++ framesFrom s n }) (framed t fr s) :=
    if_pos ⟨h0, hh⟩
  exact ⟨_, (exec_nackReceive hf _).trans (congrArg Host.Outcome.next sends), rfl, rfl⟩

/-- What a copy that is served sets, and the image. -/
def servePart (s : State) : Bool × Bool × Image := (s.tow.serving, s.pair.catchingUp, s.img)

theorem servePart_towSend (p : TowPayload) (s : State) : servePart (towSend p s) = servePart s := rfl
theorem servePart_onCtl (g : Control → Control) (s : State) : servePart (onCtl g s) = servePart s := rfl

theorem servePart_begun (s : State) :
    servePart (pairChanged (fun p => { p with catchingUp := true }) (onTow (fun w => { w with serving := true }) s)) = (true, true, s.img) := by
  unfold pairChanged watchPair
  split <;> rfl

/-- A copy that is served goes out; nothing of the image changes. -/
theorem servePart_serveCatchup (s : State) : servePart (serveCatchup s) = (true, true, s.img) := by
  unfold serveCatchup
  extract_lets cs served e staged sent
  have to_sent : servePart sent = servePart staged := foldl_reads (F := servePart) (fun _ _ => servePart_towSend ..) ..
  rw [servePart_towSend, to_sent, show servePart staged = servePart served from servePart_onCtl ..]
  exact servePart_begun s

theorem leads_nack_serves {n : Nat} (hf : NextFrame fr s) (hm : s.mod.state = .active) (hh : n = 0 ∨ (framesFrom s n).all (stillHeld s) = false) :
    Leads (.nackReceive t fr (.resend n)) s fun s' => s'.tow.serving = true ∧ s'.pair.catchingUp = true ∧ s'.img = s.img := by
  have gone : ¬(n ≠ 0 ∧ (framesFrom s n).all (stillHeld s) = true) := fun h => hh.elim h.1 fun lost => by simp [lost] at h
  have serves : takeNack (.resend n) (framed t fr s) = serveCatchup (framed t fr s) := (if_neg gone).trans (if_pos hm)
  have part := servePart_serveCatchup (framed t fr s)
  generalize serveCatchup (framed t fr s) = s' at serves part
  exact ⟨s', (exec_nackReceive hf _).trans (congrArg Host.Outcome.next serves), congrArg Prod.fst part, congrArg (fun r => r.2.1) part,
    congrArg (fun r => r.2.2) part⟩

/-! ### Mirror records, R154, R155 -/

theorem exec_mirrorReceive (hf : NextFrame fr s) (r : MirrorRecord) : exec (.mirrorReceive t fr r) s = .next (takeRecord fr r (framed t fr s)) :=
  congrArg Host.Outcome.next (withFrame_framed hf ..)

theorem leads_mirror_applied {r : MirrorRecord} (hf : NextFrame fr s) (hfi : fr.invalid = false) (hi : r.invalid = false)
    (hu : undefinedEntry r = false) (hm : s.mod.state = .standby) (hc : s.tow.catchup = none) (hr : s.tow.records = []) (hs : s.ctl.execs = [])
    (hv : lacksVersion s r = false) : Leads (.mirrorReceive t fr r) s fun s' => s'.img.epoch = r.epoch ∧
      s'.img.mirrored = max s.img.mirrored r.epoch ∧ s'.tow.records = [] ∧ s'.tow.seqIn = fr.sequence := by
  obtain ⟨epoch, stream⟩ := takeRecord_applied (s := framed t fr s) hfi hi hu hm hc hr hs hv
  exact ⟨_, exec_mirrorReceive hf r, epoch, congrArg StreamPart.mirrored stream, (congrArg StreamPart.records stream).trans hr,
    congrArg StreamPart.seqIn stream⟩

theorem leads_mirror_queued {r : MirrorRecord} {c : CatchUp} (hf : NextFrame fr s) (hfi : fr.invalid = false) (hi : r.invalid = false)
    (hu : undefinedEntry r = false) (hc : s.tow.catchup = some c) : Leads (.mirrorReceive t fr r) s fun s' =>
      s'.tow.catchup = some { c with queued := c.queued ++ [r] } ∧ s'.img.epoch = s.img.epoch ∧ s'.img.tags = s.img.tags := by
  have queues : takeRecord fr r (framed t fr s) = onTow (fun w => { w with catchup := some { c with queued := c.queued ++ [r] } })
      (onImg (fun im => { im with observed := max im.observed r.epoch }) (framed t fr s)) := by
    simp [takeRecord, hfi, hi, hu, framed, hc]
  exact ⟨_, (exec_mirrorReceive hf r).trans (congrArg Host.Outcome.next queues), rfl, rfl, rfl⟩

theorem leads_mirror_refused {r : MirrorRecord} {k : TaskId} (hf : NextFrame fr s) (hi : r.invalid = true) (hk : r.task = some k) :
    Leads (.mirrorReceive t fr r) s fun s' => s'.img.epoch = s.img.epoch ∧ s'.img.tags = s.img.tags ∧
      ∃ f, s'.tow.sent = s.tow.sent ++ [f] ∧ f.payload = .nack (.fullForm k) := by
  have refuses : takeRecord fr r (framed t fr s) =
      towSend (.nack (.fullForm k)) (onImg (fun im => { im with observed := max im.observed r.epoch }) (framed t fr s)) := by
    simp [takeRecord, hi, refuseRecord, hk]
  exact ⟨_, (exec_mirrorReceive hf r).trans (congrArg Host.Outcome.next refuses), rfl, rfl, _, rfl, rfl⟩

/-! ### The chunks of a catch-up, R141, R150 -/

section
variable {c : CatchUp} (hf : NextFrame fr s) (hm : s.mod.state = .ready) (hc : s.tow.catchup = some c)
include hf hm hc

omit hc in
theorem exec_catchupReceive (e : Nat) (ck : Chunk) : exec (.catchupReceive t fr e ck) s = .next (takeChunk t e ck (framed t fr s)) := by
  have joins : ¬((atTime t s).mod.state = .standby ∧ beginsCopy ck = true ∧ behindGap fr (atTime t s) = true) := fun h => by
    rw [atTime_mod, hm] at h
    exact absurd h.1 (by decide)
  exact congrArg Host.Outcome.next ((if_neg joins).trans (withFrame_framed hf ..))

theorem leads_catchup_chunk (e first : Nat) (xs : List SlotImage) (ps : List Nat) : Leads (.catchupReceive t fr e (.tagSlots first xs ps)) s fun s' =>
    s'.tow.catchup = some { c with chunks := c.chunks ++ [(e, .tagSlots first xs ps)] } ∧ s'.img = s.img := by
  have keeps : takeChunk t e (.tagSlots first xs ps) (framed t fr s) =
      onTow (fun w => { w with catchup := some { c with chunks := c.chunks ++ [(e, .tagSlots first xs ps)] } }) (framed t fr s) := by
    simp [takeChunk, framed, hm, hc]
  exact ⟨_, (exec_catchupReceive hf hm ..).trans (congrArg Host.Outcome.next keeps), rfl, rfl⟩

omit hf in
theorem takeChunk_ending (e base n crc : Nat) : takeChunk t e (.ending base n crc) (framed t fr s) =
    if c.chunks.length = n ∧ chunksCrc c.chunks = crc then finishCatchup c base (framed t fr s) else copyAgain (framed t fr s) := by
  have ready : (framed t fr s).mod.state ≠ .standby := by
    show s.mod.state ≠ .standby
    rw [hm]
    decide
  have coming : (framed t fr s).tow.catchup = some c := hc
  simp only [takeChunk, if_neg ready, coming]

theorem leads_catchup_ends (e : Nat) {base n crc : Nat} (hn : n = c.chunks.length) (hcrc : crc = chunksCrc c.chunks) (hq : c.queued = []) :
    Leads (.catchupReceive t fr e (.ending base n crc)) s fun s' => s'.mod.state = .standby ∧ s'.img.epoch = base ∧ s'.img.mirrored = base ∧
      s'.tow.catchup = none ∧ s'.ctl.execs = [] :=
  ⟨_, (exec_catchupReceive hf hm ..).trans (congrArg Host.Outcome.next ((takeChunk_ending hm hc ..).trans (if_pos ⟨hn.symm, hcrc.symm⟩))),
    finishCatchup_spec hq base _⟩

theorem leads_catchup_again (e base : Nat) {n crc : Nat} (hbad : n ≠ c.chunks.length ∨ crc ≠ chunksCrc c.chunks) :
    Leads (.catchupReceive t fr e (.ending base n crc)) s fun s' => s'.mod.state = .ready ∧
      s'.tow.catchup = some { chunks := [], queued := [] } ∧ s'.img = s.img :=
  ⟨_, (exec_catchupReceive hf hm ..).trans (congrArg Host.Outcome.next ((takeChunk_ending hm hc ..).trans
    (if_neg fun good => hbad.elim (fun h => h good.1.symm) fun h => h good.2.symm))), hm, rfl, rfl⟩

end

end

/-- Settles O24: the frames that come in sequence are worked on one by one, and a record's entries leave the stream that it came in. -/
theorem mirrorStream : Obligations.MirrorStream := by
  refine ⟨fun t fr s => ⟨?manifest, ?agreement, ?timeout, ?fetch, ?fullForm, ?resend, ?serves⟩,
    fun t fr s hf => ⟨fun r hfi hi hu => ⟨?applied, ?queued⟩, ?refused, ?chunk, fun c e base n crc hm hc => ⟨?ends, ?again⟩⟩⟩
  case manifest => exact fun m i e hf hm hi he hr hl => leads_manifestReceive hf hm hi he hr hl
  case agreement => exact fun a i e hf hm hi he => leads_agreementReceive hf hm hi he
  case timeout =>
    exact fun k e hs hk hp hsh hh hm => ⟨leads_manifestTimeout hs hk hp hsh hh hm, exec_manifestTimeout_early hs⟩
  case fetch => exact fun k e m a hs hk hp hsh hu hm ha hx ht => leads_bargeFetchTimeout hs hk hp hsh hu hm ha hx ht
  case fullForm => exact fun k hf => leads_nack_fullForm hf k
  case resend => exact fun n hf h0 hh => leads_nack_resend hf h0 hh
  case serves => exact fun n hf hm hh => leads_nack_serves hf hm hh
  case applied => exact fun hm hc hr hs hv => leads_mirror_applied hf hfi hi hu hm hc hr hs hv
  case queued => exact fun c hc => leads_mirror_queued hf hfi hi hu hc
  case refused => exact fun r k hi hk => leads_mirror_refused hf hi hk
  case chunk => exact fun c e first xs ps hm hc => leads_catchup_chunk hf hm hc e first xs ps
  case ends => exact fun hn hcrc hq => leads_catchup_ends hf hm hc e hn hcrc hq
  case again => exact fun hbad => leads_catchup_again hf hm hc e base hbad

end Sys2Proof.Machine
end

section
/-! Lane instruction words: the fields of a word and the instruction that they spell name one another (R59, R60, R61, R94). -/

namespace Sys2Proof.Machine
open Sys2Proof

theorem unpackWord_packWord (f : WordFields) : unpackWord (packWord f) = f := by
  obtain ⟨op, m, o, im⟩ := f
  simp only [unpackWord, packWord, WordFields.mk.injEq]
  refine ⟨?_, ?_, ?_, ?_⟩ <;> ext k hk <;> simp <;> grind

theorem packWord_unpackWord (w : W64) : packWord (unpackWord w) = w := by
  ext k hk
  simp [unpackWord, packWord]
  grind

/-- The instruction of the fields of a lane instruction is the instruction itself. -/
theorem instrOf_of_fieldsOf {i : Instr} {l : LaneId} {f : WordFields} (h : fieldsOf i = some (l, f)) :
    instrOf (instantOf i) l f = some i := by
  revert h
  fun_cases fieldsOf i <;> intro h <;> cases h <;> rfl

theorem pair_fields_of_op (l : LaneId) {f : WordFields} {n : Nat} (h : f.op.toNat = n) :
    some (l, (⟨BitVec.ofNat 8 n, f.m, f.o, f.im⟩ : WordFields)) = some (l, f) := by
  subst h; simp

theorem fieldsOf_of_instrOf {t : Nat} {l : LaneId} {f : WordFields} {i : Instr} (h : instrOf t l f = some i) :
    fieldsOf i = some (l, f) := by
  unfold instrOf at h
  split at h
  all_goals cases h
  all_goals next hop => exact pair_fields_of_op l hop

/-- Settles O8: packing and unpacking a word are inverse, and so are `fieldsOf` and `instrOf`, instruction by instruction. -/
theorem laneWordsRoundTrip : Obligations.LaneWordsRoundTrip := by
  constructor
  · intro i l f hf hok
    refine ⟨by rw [encode, hf]; rfl, ?_⟩
    rw [decodeWord, unpackWord_packWord, if_pos hok]
    exact instrOf_of_fieldsOf hf
  · intro t l w i h
    have hf : fieldsOf i = some (l, unpackWord w) := by
      rw [decodeWord] at h
      split at h
      · exact fieldsOf_of_instrOf h
      · cases h
    refine ⟨?_, by rw [hf]; rfl⟩
    rw [encode, hf, Option.map_some, packWord_unpackWord]

/-- Settles O9: each word is evaluated. -/
theorem wordsOfTheManual : Obligations.WordsOfTheManual := by
  intro l
  refine ⟨?_, ?_, ?_, ?_, ?_, ?_, ?_, ?_, ?_, ?_, ?_, ?_, ?_, ?_, ?_, ?_⟩ <;> rfl
end Sys2Proof.Machine
end

section
/-! What a lane instruction leaves alone, and where a lane stops (R30, R48, R63, R75, R98, R122). -/

namespace Sys2Proof.Machine
open Sys2Proof

/-- Every lane instruction but AGREE is a step of its lane, whatever its unit computes. -/
theorem exec_eq_laneStep {k : Instr} {l : LaneId} {f : WordFields} (s : State) (h : fieldsOf k = some (l, f)) (hop : f.op ≠ 0xF1) :
    ∃ body opens, exec k s = .next (laneStep s l f body opens) := by
  revert h
  fun_cases fieldsOf k <;> intro h <;> cases h
  case case113.refl => exact absurd rfl hop
  all_goals exact ⟨_, _, rfl⟩

/-- AGREE is a step of its lane at the instant it carries, and the execution keeps the instant of its first sample. -/
theorem exec_eq_noteSample {k : Instr} {l : LaneId} {f : WordFields} (s : State) (h : fieldsOf k = some (l, f)) (hop : f.op = 0xF1) :
    ∃ t body opens, exec k s = .next (noteSample t l (laneStep (atTime t s) l f body opens)) := by
  obtain ⟨op, m, o, im⟩ := f
  subst hop
  obtain ⟨t, rfl⟩ : ∃ t, k = .agree t l m o im := ⟨_, (Option.some.inj (instrOf_of_fieldsOf h)).symm⟩
  exact ⟨_, _, _, rfl⟩

/-- An unpoisoned lane step leaves the state or gives the lane of one execution a new context. -/
theorem laneStep_cases {s : State} (l : LaneId) (f : WordFields) (body : LaneIn → LaneCtx) (opens : LaneIn → Bool) (hp : Unpoisoned s) :
    laneStep s l f body opens = s ∨ ∃ i c b, laneStep s l f body opens = putLaneCtx i l c (drawnIf b s) := by
  unfold laneStep
  split
  · exact .inl rfl
  split
  · exact .inl rfl
  split
  · exact .inl rfl
  split
  · exact .inl rfl
  split
  · exact .inr ⟨_, _, false, rfl⟩
  split
  · exact .inr ⟨_, _, false, rfl⟩
  · simp only [readsPoison, hp, List.isEmpty_nil, Bool.not_true, Bool.false_and, Bool.false_eq_true, if_false]
    exact .inr ⟨_, _, _, rfl⟩

/-- An execution in which only the contexts of lane `l` and the mark of a first sample may differ. -/
structure SameButLane (l : LaneId) (e e' : Exec) : Prop where
  rest : e' = { e with lanes := e'.lanes, agreeSince := e'.agreeSince }
  lanes : List.Forall₂ (fun c c' => c.lane ≠ l → c' = c) e.lanes e'.lanes

/-- A state in which only the contexts of lane `l`, marks of first samples, the time and the free values may differ. -/
def OnlyLane (l : LaneId) (s s' : State) : Prop :=
  ∃ (u : TimeUnit) (n : Nat) (xs : List Exec), s' = { s with ctl := { s.ctl with execs := xs }, time := u, drawn := n } ∧
    List.Forall₂ (SameButLane l) s.ctl.execs xs

theorem SameButLane.refl (l : LaneId) (e : Exec) : SameButLane l e e := ⟨rfl, List.forall₂_same.2 fun _ _ _ => rfl⟩

theorem OnlyLane.refl (l : LaneId) (s : State) : OnlyLane l s s := ⟨_, _, _, rfl, List.forall₂_same.2 fun e _ => .refl l e⟩

theorem sameButLane_of_put (l : LaneId) (c : LaneCtx) (e : Exec) :
    SameButLane l e { e with lanes := e.lanes.map fun x => if x.lane = l then c else x } :=
  ⟨rfl, List.forall₂_map_right_iff.2 (List.forall₂_same.2 fun _ _ h => if_neg h)⟩

theorem forall₂_lmod {α : Type} {R : α → α → Prop} {g : α → α} (refl : ∀ x, R x x) (hg : ∀ x, R x (g x)) (n : Nat) (xs : List α) :
    List.Forall₂ R xs (lmod n g xs) := by
  induction xs generalizing n with
  | nil => simp [lmod]
  | cons x xs ih =>
    cases n with
    | zero => exact .cons (hg x) (List.forall₂_same.2 fun y _ => refl y)
    | succ n => exact .cons (refl x) (ih n)

theorem putLaneCtx_only (i : Nat) (l : LaneId) (c : LaneCtx) (b : Bool) (s : State) : OnlyLane l s (putLaneCtx i l c (drawnIf b s)) := by
  cases b <;> exact ⟨_, _, _, rfl, forall₂_lmod (.refl l) (sameButLane_of_put l c) _ _⟩

theorem laneStep_only {s : State} (l : LaneId) (f : WordFields) (body : LaneIn → LaneCtx) (opens : LaneIn → Bool) (hp : Unpoisoned s) :
    OnlyLane l s (laneStep s l f body opens) := by
  obtain h | ⟨i, c, b, h⟩ := laneStep_cases l f body opens hp <;> rw [h]
  · exact .refl l s
  · exact putLaneCtx_only i l c b s

theorem OnlyLane.of_atTime {t : Nat} {l : LaneId} {s s' : State} (h : OnlyLane l (atTime t s) s') : OnlyLane l s s' := h

theorem OnlyLane.noteSample {l : LaneId} {s s' : State} (h : OnlyLane l s s') (t : Nat) : OnlyLane l s (noteSample t l s') := by
  obtain ⟨u, n, xs, rfl, hxs⟩ := h
  refine ⟨u, n, _, rfl, List.forall₂_map_right_iff.2 (hxs.imp fun e e' he => ?_)⟩
  split
  · exact ⟨by rw [he.rest], he.lanes⟩
  · exact he

theorem exec_only {k : Instr} {l : LaneId} {f : WordFields} {s s' : State} (hk : fieldsOf k = some (l, f)) (hp : Unpoisoned s)
    (h : exec k s = .next s') : OnlyLane l s s' := by
  by_cases hop : f.op = 0xF1
  · obtain ⟨t, body, opens, hx⟩ := exec_eq_noteSample s hk hop
    cases hx.symm.trans h
    exact (laneStep_only (s := atTime t s) l f body opens hp).of_atTime.noteSample t
  · obtain ⟨body, opens, hx⟩ := exec_eq_laneStep s hk hop
    cases hx.symm.trans h
    exact laneStep_only l f body opens hp

theorem Forall₂.rel_of_getElem? {α β : Type} {R : α → β → Prop} {xs : List α} {ys : List β}
    (h : List.Forall₂ R xs ys) {n : Nat} {x : α} {y : β} (hx : xs[n]? = some x) (hy : ys[n]? = some y) : R x y := by
  obtain ⟨hn, rfl⟩ := List.getElem?_eq_some_iff.1 hx
  obtain ⟨hm, rfl⟩ := List.getElem?_eq_some_iff.1 hy
  exact h.get hn hm

/-- Settles O17: a lane instruction is a step of its lane, and such a step puts one context into one execution at most. -/
theorem laneStopsAndFrame : Obligations.LaneStopsAndFrame := by
  constructor
  · intro s k l f i e c hk hop hg hd hi he hc
    obtain ⟨body, opens, hx⟩ := exec_eq_laneStep s hk hop
    rw [hx]
    simp only [laneStep, hg, hd, hi, he, hc]
    constructor
    · intro stop
      rw [if_neg (by simp), if_pos (by simpa [or_assoc] using stop)]
    · intro hr hok hpc hroom
      simp [hr, hok, hroom, hpc]
  · intro s s' k l f hk hp hx
    obtain ⟨u, n, xs, rfl, hxs⟩ := exec_only hk hp hx
    refine ⟨⟨u, n, xs, rfl⟩, fun j e e' hj hj' => ?_, hxs.length_eq.symm⟩
    have same : SameButLane l e e' := Forall₂.rel_of_getElem? hxs hj hj'
    exact ⟨same.rest, fun q c c' hq hq' => Forall₂.rel_of_getElem? same.lanes hq hq'⟩
end Sys2Proof.Machine
end

section
/-! The Bit Unit: loads, combinations, stores and brackets on a lane that issues them (R62, R67 to R69, R95). -/

namespace Sys2Proof.Machine
open Sys2Proof

/-! ### An instruction that its lane issues -/

/-- Cycles that the opcode table gives an instruction, four for each operand from the Basin (R94, R95). -/
def tableCycles (f : WordFields) : Nat := (rowOf f).elim 0 fun r => r.cycles + 4 * r.basin

/-- A lane that issues an instruction without poison takes the context its unit computes after the cycles of the table. -/
theorem laneStep_takes {s : State} {l : LaneId} {f : WordFields} {i : Nat} {e : Exec} {c : LaneCtx} {n : Nat}
    (body : LaneIn → LaneCtx) (opens : LaneIn → Bool) (hi : Issues s l f i e c) (hp : Unpoisoned s) (hn : tableCycles f = n) :
    laneStep s l f body opens =
      putLaneCtx i l (body (laneView s e (issued c n))) (drawnIf (opens (laneView s e (issued c n))) s) := by
  obtain ⟨r, hr⟩ : ∃ r, rowOf f = some r := by
    obtain ⟨-, -, -, -, -, -, hok, -⟩ := hi
    rw [wordOk] at hok
    split at hok
    · exact ⟨_, ‹_›⟩
    · cases hok
  rw [laneStep_issues body opens hi hp hr, ← hn, tableCycles, hr]
  rfl

theorem exec_issues {k : Instr} {s : State} {l : LaneId} {f : WordFields} {i : Nat} {e : Exec} {c : LaneCtx} {n : Nat}
    {body : LaneIn → LaneCtx} {opens : LaneIn → Bool} (hi : Issues s l f i e c) (hp : Unpoisoned s)
    (hk : exec k s = .next (laneStep s l f body opens)) (hn : tableCycles f = n) :
    exec k s = .next (putLaneCtx i l (body (laneView s e (issued c n))) (drawnIf (opens (laneView s e (issued c n))) s)) :=
  hk.trans (congrArg Host.Outcome.next (laneStep_takes body opens hi hp hn))

/-- The same of an instruction whose values the manual all fixes. -/
theorem exec_gives (n : Nat) {k : Instr} {s : State} {l : LaneId} {f : WordFields} {i : Nat} {e : Exec} {c c' : LaneCtx}
    {body : LaneIn → LaneCtx} (hi : Issues s l f i e c) (hp : Unpoisoned s) (hk : exec k s = .next (laneStep s l f body neverOpen))
    (hn : tableCycles f = n) (hc : body (laneView s e (issued c n)) = c') : exec k s = .next (putLaneCtx i l c' s) :=
  hc ▸ exec_issues hi hp hk hn

section
variable (s : State) (e : Exec) (c : LaneCtx) (n : Nat)

@[simp] theorem laneTag_issued (k : Nat) : laneTag (laneView s e (issued c n)) k = laneTag (laneView s e c) k := rfl
@[simp] theorem laneLocal_issued (k : Nat) : laneLocal (laneView s e (issued c n)) k = laneLocal (laneView s e c) k := rfl
@[simp] theorem laneInst_issued (k : Nat) (kind : InstKind) : laneInst (laneView s e (issued c n)) k kind = laneInst (laneView s e c) k kind := rfl
@[simp] theorem bitOperand_issued (f : WordFields) : bitOperand (laneView s e (issued c n)) f = bitOperand (laneView s e c) f := rfl
@[simp] theorem wordOperand_issued (fm : Form) (ty : ValType) (f : WordFields) :
    wordOperand (laneView s e (issued c n)) fm ty f = wordOperand (laneView s e c) fm ty f := by cases fm <;> rfl

end

/-- A value that an operand gives, and some value where the manual leaves the operand open. -/
theorem getD_eq_of_eq_some {α : Type} {x : Option α} (free : α) : ∀ w, x = some w → x.getD free = w := by
  rintro w rfl; rfl

/-! ### Bit logic -/

/-- ACC after a load (no operation) or a combination with the operand x: with FC = 1 it takes the operand (R67). -/
def takenBit (op : Option (Bool → Bool → Bool)) (negate fc acc x : Bool) : Bool :=
  match op with
  | none => x != negate
  | some g => if fc then x != negate else g acc (x != negate)

theorem combine_issued (op : Option (Bool → Bool → Bool)) (negate : Bool) (f : WordFields) (s : State) (e : Exec) (c : LaneCtx) :
    combine op negate f (laneView s e (issued c 1)) = { issued c (bitCost f.m) with
      acc := takenBit op negate c.fc c.acc ((bitOperand (laneView s e c) f).getD ((freeWord s).getLsbD 0)), fc := false } := by
  by_cases h : f.m.toNat < 2 <;> simp only [combine, bitCost, h, if_true, if_false] <;> cases op <;> rfl

theorem exec_combines {k : Instr} {s : State} {l : LaneId} {f : WordFields} {i : Nat} {e : Exec} {c : LaneCtx}
    {op : Option (Bool → Bool → Bool)} {negate : Bool} {takes : Bool → Bool → Bool → Bool} (hi : Issues s l f i e c) (hp : Unpoisoned s)
    (hk : exec k s = .next (laneStep s l f (combine op negate f) (bitOpen f))) (hn : tableCycles f = 1)
    (ht : takes = takenBit op negate) :
    ∃ x, (∀ w, bitOperand (laneView s e c) f = some w → x = w) ∧
      exec k s = .next (putLaneCtx i l { issued c (bitCost f.m) with acc := takes c.fc c.acc x, fc := false }
        (drawnIf (bitOperand (laneView s e c) f).isNone s)) := by
  refine ⟨_, getD_eq_of_eq_some ((freeWord s).getLsbD 0), ?_⟩
  rw [exec_issues hi hp hk hn, combine_issued, ht]
  rfl

/-! A store sets FC; where it writes a bit it writes it to its operand (R62, R68). -/

section
variable {what : Bool → Option Bool} {f : WordFields} {s : State} {e : Exec} {c : LaneCtx} {n : Nat} {b : Bool}

theorem storeAcc_none (h : what c.acc = none) : storeAcc what f (laneView s e (issued c n)) = { issued c n with fc := true } := by
  rw [storeAcc, show what (laneView s e (issued c n)).c.acc = none from h]
  rfl

theorem storeAcc_some (h : what c.acc = some b) : storeAcc what f (laneView s e (issued c n)) =
    { storeBit (laneView s e (issued c n)) f b with
      fc := true, cycles := (storeBit (laneView s e (issued c n)) f b).cycles + if f.m.toNat = 1 then 3 else 0 } := by
  rw [storeAcc, show what (laneView s e (issued c n)).c.acc = some b from h]

theorem storeBit_local {x : LaneIn} {v : W64} (hm : f.m = 2) (h : laneLocal x (f.o.toNat / 64) = some v) :
    storeBit x f b = setLocal x.c (f.o.toNat / 64) (setBit v (f.o.toNat % 64) b) := by
  simp [storeBit, hm, h]

theorem storeBit_outside_frame {x : LaneIn} (hm : f.m = 2) (h : laneLocal x (f.o.toNat / 64) = none) : storeBit x f b = x.c := by
  simp [storeBit, hm, h]

end

theorem exec_stores {k : Instr} {s : State} {l : LaneId} {op : BitVec 8} {m : BitVec 4} {o : BitVec 20} {im : W32} {i : Nat} {e : Exec}
    {c : LaneCtx} {what : Bool → Option Bool} (hi : Issues s l ⟨op, m, o, im⟩ i e c) (hp : Unpoisoned s)
    (hk : exec k s = .next (laneStep s l ⟨op, m, o, im⟩ (storeAcc what ⟨op, m, o, im⟩) (storeOpen ⟨op, m, o, im⟩)))
    (hn : tableCycles ⟨op, m, o, im⟩ = 1) :
    let done (n : Nat) (c' : LaneCtx) (s' : State) : Prop :=
      exec k s = .next (putLaneCtx i l { c' with fullSince := none, pc := c.pc + 1, cycles := c.cycles + n, fc := true } s')
    let old := laneTag (laneView s e c) o.toNat
    (what c.acc = none → done 1 c (drawnIf (m.toNat == 1 && old.isNone) s)) ∧
    (∀ b, what c.acc = some b → m = 0 → done 1 (posts c [(o.toNat, if b then 1 else 0)]) s) ∧
    (∀ b, what c.acc = some b → m = 1 → ∃ v, (∀ w, old = some w → v = w) ∧
      done 4 (posts c [(o.toNat, encodeVal (tagType (laneView s e c) o.toNat) (setBit v (im.toNat % 64) b))]) (drawnIf old.isNone s)) ∧
    (∀ b v, what c.acc = some b → m = 2 → laneLocal (laneView s e c) (o.toNat / 64) = some v →
      done 1 (setLocal c (o.toNat / 64) (setBit v (o.toNat % 64) b)) s) ∧
    (m = 2 → laneLocal (laneView s e c) (o.toNat / 64) = none → done 1 c s) ∧
    (∀ b, what c.acc = some b → m = 4 →
      done 1 (setReg c (o.toNat % 16) (setBit (regOf c (o.toNat % 16)) (im.toNat % 64) b)) s) := by
  intro done old
  have hx : exec k s = _ := exec_issues hi hp hk hn
  refine ⟨?silent, ?tag, ?tagBit, ?locl, ?outside, ?register⟩
  case silent => exact fun h => hx.trans (by rw [storeAcc_none h]; rfl)
  case tag => rintro b h rfl; exact hx.trans (by rw [storeAcc_some h]; rfl)
  case tagBit =>
    rintro b h rfl
    exact ⟨_, getD_eq_of_eq_some (freeWord s), hx.trans (by rw [storeAcc_some h]; rfl)⟩
  case locl => rintro b v h rfl hv; exact hx.trans (by rw [storeAcc_some h, storeBit_local rfl hv]; rfl)
  case outside =>
    rintro rfl hv
    refine hx.trans ?_
    cases h : what c.acc with
    | none => rw [storeAcc_none h]; rfl
    | some b => rw [storeAcc_some h, storeBit_outside_frame rfl hv]; rfl
  case register => rintro b h rfl; exact hx.trans (by rw [storeAcc_some h]; rfl)

/-! Brackets push and pop the nesting stack; a full or an empty one stops the lane (R69, R98). -/

section
variable {x : LaneIn} {op : NestOp}

theorem openBracket_room (h : x.c.nest.length < 32) :
    openBracket op x = { x.c with nest := { acc := x.c.acc, fc := x.c.fc, op := op } :: x.c.nest, fc := true } :=
  if_neg (Nat.not_le.2 h)

theorem openBracket_full (h : 32 ≤ x.c.nest.length) : openBracket op x = laneFault x := if_pos h

theorem closeNest_empty (h : x.c.nest = []) : closeNest x = laneFault x := by rw [closeNest, h]

theorem closeNest_pop {n : NestEntry} {rest : List NestEntry} (h : x.c.nest = n :: rest) :
    closeNest x = { x.c with nest := rest, acc := if n.fc then x.c.acc else nestApply n.op n.acc x.c.acc, fc := false } := by
  rw [closeNest, h]

end

theorem exec_opensBracket {k : Instr} {s : State} {l : LaneId} {f : WordFields} {op : NestOp} {i : Nat} {e : Exec} {c : LaneCtx}
    (hi : Issues s l f i e c) (hp : Unpoisoned s) (hk : exec k s = .next (laneStep s l f (openBracket op) neverOpen))
    (hn : tableCycles f = 1) :
    (c.nest.length < 32 → exec k s =
      .next (putLaneCtx i l { issued c 1 with nest := { acc := c.acc, fc := c.fc, op := op } :: c.nest, fc := true } s)) ∧
    (32 ≤ c.nest.length → exec k s = .next (putLaneCtx i l { issued c 1 with pc := c.pc, stalled := true } s)) :=
  ⟨fun h => exec_gives 1 hi hp hk hn (openBracket_room h), fun h => exec_gives 1 hi hp hk hn (openBracket_full h)⟩

/-- Settles O11: each instruction is its unit's operation, whose cases the lemmas above state. -/
theorem bitLogic : Obligations.BitLogic := by
  refine ⟨?combines, ?stores, fun s l m o im i e c hp => ⟨?nop, ?not, ?opens, fun hi => ⟨?empty, ?pops⟩⟩⟩
  case combines =>
    intro r hr s l m o im i e c hi hp
    simp only [List.mem_cons, List.not_mem_nil, or_false] at hr
    obtain rfl | rfl | rfl | rfl | rfl | rfl | rfl | rfl := hr <;>
      exact exec_combines hi hp rfl rfl (by funext fc a x; simp [takenBit])
  case stores =>
    intro r hr s l m o im i e c hi hp
    simp only [List.mem_cons, List.not_mem_nil, or_false] at hr
    obtain rfl | rfl | rfl | rfl := hr <;> exact exec_stores hi hp rfl rfl
  case nop => exact fun hi => exec_gives 1 hi hp rfl rfl rfl
  case not => exact fun hi => exec_gives 1 hi hp rfl rfl rfl
  case opens =>
    intro r hr hi
    simp only [List.mem_cons, List.not_mem_nil, or_false] at hr
    obtain rfl | rfl | rfl := hr <;> exact exec_opensBracket hi hp rfl rfl
  case empty => exact fun h => exec_gives 1 hi hp rfl rfl (closeNest_empty h)
  case pops =>
    intro n rest h
    refine exec_gives 1 hi hp rfl rfl ((closeNest_pop h).trans ?_)
    obtain ⟨acc, fc, op⟩ := n
    cases fc <;> cases op <;> rfl

end Sys2Proof.Machine
end

section
/-! Edges, reads of records and blocks of tags (R73, R75, R76, R79, R80). -/

namespace Sys2Proof.Machine
open Sys2Proof

/-- EP and EN: the edge of the input, which the first execution never has; the record takes the input (R73, R75, R76). -/
theorem edgeOp_issued (rising : Bool) (kind : InstKind) (f : WordFields) (s : State) (e : Exec) (c : LaneCtx) (n : Nat) :
    let r := laneInst (laneView s e c) f.im.toNat kind
    edgeOp rising kind f (laneView s e (issued c n)) =
      putInst { issued c n with
        acc := !(r.isNew || r.lastT == BitVec.ofNat 64 e.tick) && (if rising then c.acc && !r.prev else !c.acc && r.prev), fc := false }
        f.im.toNat r
        { r with isNew := false, resume := false, prev := c.acc, lastT := if r.isNew then BitVec.ofNat 64 e.tick else r.lastT } := by
  intro r
  have hacc (first : Bool) : (if rising then c.acc && !(if first then c.acc else r.prev) else !c.acc && (if first then c.acc else r.prev)) =
      (!first && (if rising then c.acc && !r.prev else !c.acc && r.prev)) := by
    cases first <;> cases rising <;> simp
  rw [← hacc]
  rfl

theorem getLsbD_setBit (w : W64) (n : Nat) (b : Bool) {k : Nat} (hk : k < 64) :
    (setBit w n b).getLsbD k = if k = n then b else w.getLsbD k := by
  have mask : (BitVec.ofNat 64 (2 ^ n)).getLsbD k = decide (n = k) := by
    rw [BitVec.getLsbD_ofNat, Nat.testBit_two_pow, decide_eq_true hk, Bool.true_and]
  cases b with
  | false =>
    rw [setBit, if_neg Bool.false_ne_true, BitVec.getLsbD_and, BitVec.getLsbD_not, mask]
    by_cases h : n = k <;> simp [h, hk, eq_comm]
  | true =>
    rw [setBit, if_pos rfl, BitVec.getLsbD_or, mask]
    by_cases h : n = k <;> simp [h, eq_comm]

theorem getLsbD_foldl_setBit (b : Nat → Bool) (n k : Nat) (hk : k < 64) :
    ((List.range n).foldl (fun w i => setBit w i (b i)) (0 : W64)).getLsbD k = (decide (k < n) && b k) := by
  induction n with
  | zero => simp
  | succ n ih =>
    rw [List.range_succ, List.foldl_append]
    simp only [List.foldl_cons, List.foldl_nil, getLsbD_setBit _ _ _ hk, ih]
    by_cases h : k = n
    · simp [h]
    · simp [h, show k < n + 1 ↔ k < n by omega]

/-- Bit k of a packed block is bit 0 of the k-th tag from the first one on (R80). -/
theorem getLsbD_packedTags {x : LaneIn} {first k : Nat} {v : W64} (hk : k < 64) (hv : laneTag x (first + k) = some v) :
    (packedTags x first).getLsbD k = v.getLsbD 0 := by
  rw [packedTags, getLsbD_foldl_setBit _ _ _ hk, hv]
  simp [hk]

theorem blockStore_eq_posts (f : WordFields) (x : LaneIn) :
    blockStore f x = posts x.c ((List.range 64).map fun k => (f.o.toNat + k, if (regOf x.c (wdHigh f)).getLsbD k then 1 else 0)) := by
  rw [posts, List.foldl_map]
  rfl

theorem exec_readsBlock {k : Instr} {s : State} {l : LaneId} {f : WordFields} {g : W64 → W64 → W64} {bit : Bool → Bool → Bool} {i : Nat}
    {e : Exec} {c : LaneCtx} (hi : Issues s l f i e c) (hp : Unpoisoned s)
    (hk : exec k s = .next (laneStep s l f (blockRead g f) (blockOpen f))) (hn : tableCycles f = 264)
    (hg : ∀ a b n, (g a b).getLsbD n = bit (a.getLsbD n) (b.getLsbD n)) :
    ∃ v : W64, (∀ (k : Nat) (t : W64), k < 64 → laneTag (laneView s e c) (f.o.toNat + k) = some t →
        v.getLsbD k = bit ((regOf c (wdHigh f)).getLsbD k) (t.getLsbD 0)) ∧
      exec k s = .next (putLaneCtx i l (setReg (issued c 264) (wdHigh f) v)
        (drawnIf ((List.range 64).any fun k => (laneTag (laneView s e c) (f.o.toNat + k)).isNone) s)) :=
  ⟨g (regOf c (wdHigh f)) (packedTags (laneView s e (issued c 264)) f.o.toNat),
    fun k t hk ht => by rw [hg, getLsbD_packedTags hk (by rwa [laneTag_issued])], exec_issues hi hp hk hn⟩

/-- Settles O12: an edge instruction is `edgeOp_issued`, a block instruction reads or posts its 64 tags one by one. -/
theorem edgesAndBlocks : Obligations.EdgesAndBlocks := by
  refine ⟨?edges, fun s l m o im i e c hp => ⟨?ldi, ?blocks, ?bst⟩⟩
  case edges =>
    intro s l m o im i e c hp first after
    refine ⟨fun hi => ?_, fun hi => ?_⟩
    · exact exec_gives 6 hi hp rfl rfl ((edgeOp_issued true .ep _ s e c 6).trans (by rw [Bool.and_assoc]; rfl))
    · exact exec_gives 6 hi hp rfl rfl ((edgeOp_issued false .en _ s e c 6).trans (by rw [Bool.and_assoc]; rfl))
  case ldi => exact fun hi => exec_gives 5 hi hp rfl rfl rfl
  case blocks =>
    intro r hr hi
    simp only [List.mem_cons, List.not_mem_nil, or_false] at hr
    obtain rfl | rfl | rfl | rfl := hr <;> exact exec_readsBlock hi hp rfl rfl (by simp)
  case bst => exact fun hi => exec_gives 66 hi hp rfl rfl (blockStore_eq_posts ..)

end Sys2Proof.Machine
end

section
/-! Timers and counters (R73, R74, R77, R78). -/

namespace Sys2Proof.Machine
open Sys2Proof

/-! ### Timers -/

/-- What a timer instruction leaves in the record and in ACC, from the state, the elapsed time and Q that it evaluates (R74, R77). -/
theorem timerOp_issued {kind : InstKind} {f : WordFields} {s : State} {e : Exec} {c : LaneCtx} {n : Nat} {r : Inst} {ts : TState} {el : Nat}
    {q : Bool} (hr : laneInst (laneView s e c) f.im.toNat kind = r)
    (hv : timerEval kind c.acc (if r.isNew then c.acc else r.prev) r.q r.ts r.value.toNat (timerDelta (laneView s e c) r)
      (timerPreset (laneView s e c) f) = (ts, el, q)) :
    timerOp kind f (laneView s e (issued c n)) = putInst { issued c n with acc := q, fc := false } f.im.toNat r
      { r with value := BitVec.ofNat 64 el, lastT := BitVec.ofNat 64 e.tick,
               preset := BitVec.ofNat 64 (timerPreset (laneView s e c) f), isNew := false,
               resume := false, ts := ts, q := q, prev2 := false, prev := c.acc } := by
  have hx : timerOp kind f (laneView s e (issued c n)) =
      let r := laneInst (laneView s e c) f.im.toNat kind
      let v := timerEval kind c.acc (if r.isNew then c.acc else r.prev) r.q r.ts r.value.toNat (timerDelta (laneView s e c) r)
        (timerPreset (laneView s e c) f)
      putInst { issued c n with acc := v.2.2, fc := false } f.im.toNat r
        { r with value := BitVec.ofNat 64 v.2.1, lastT := BitVec.ofNat 64 e.tick,
                 preset := BitVec.ofNat 64 (timerPreset (laneView s e c) f), isNew := false,
                 resume := false, ts := v.1, q := v.2.2, prev2 := false, prev := c.acc } := rfl
  rw [hx, hr]
  simp only [hv]

theorem exec_timer {k : Instr} {s : State} {l : LaneId} {f : WordFields} {i : Nat} {e : Exec} {c : LaneCtx} {kind : InstKind} {r : Inst}
    {ts : TState} {el : Nat} {q : Bool} (hi : Issues s l f i e c) (hp : Unpoisoned s)
    (hk : exec k s = .next (laneStep s l f (timerOp kind f) neverOpen)) (hn : tableCycles f = 10)
    (hr : laneInst (laneView s e c) f.im.toNat kind = r)
    (hv : timerEval kind c.acc (if r.isNew then c.acc else r.prev) r.q r.ts r.value.toNat (timerDelta (laneView s e c) r)
      (timerPreset (laneView s e c) f) = (ts, el, q)) :
    exec k s = .next (putLaneCtx i l (putInst { issued c 10 with acc := q, fc := false } f.im.toNat r
      { r with value := BitVec.ofNat 64 el, lastT := BitVec.ofNat 64 e.tick,
               preset := BitVec.ofNat 64 (timerPreset (laneView s e c) f), isNew := false,
               resume := false, ts := ts, q := q, prev2 := false, prev := c.acc }) s) :=
  exec_gives 10 hi hp hk hn (timerOp_issued hr hv)

section
variable {prev q : Bool} {ts : TState} {el delta pt : Nat}

/-! TON: Q follows the input after PT (R77). -/

theorem ton_off : timerEval .ton false prev q ts el delta pt = (.idle, 0, false) := rfl

theorem ton_starts : timerEval .ton true prev q .idle el delta pt = (if pt = 0 then .done else .running, 0, pt == 0) := by
  simp [timerEval]; rfl

theorem ton_runs (h : ts ≠ .idle) : timerEval .ton true prev q ts el delta pt =
    (if pt ≤ min (el + delta) pt then .done else ts, min (el + delta) pt, decide (pt ≤ min (el + delta) pt)) := by
  simp [timerEval, h]

/-! TOF: Q drops PT after the input (R77). -/

theorem tof_on : timerEval .tof true prev q ts el delta pt = (.idle, 0, true) := rfl

theorem tof_starts : timerEval .tof false prev true .idle el delta pt = (if pt = 0 then .done else .running, 0, pt != 0) := by
  cases pt <;> simp [timerEval]

theorem tof_rests : timerEval .tof false prev false .idle el delta pt = (.idle, el, false) := by simp [timerEval]

theorem tof_runs : timerEval .tof false prev q .running el delta pt =
    (if pt ≤ min (el + delta) pt then .done else .running, min (el + delta) pt, decide (min (el + delta) pt < pt)) := by
  by_cases h : pt ≤ el + delta <;> simp [timerEval, h]

theorem tof_done : timerEval .tof false prev q .done el delta pt = (.done, el, false) := by simp [timerEval]

/-! TP: a rising input starts a pulse of PT, which ends whatever the input does (R77). -/

theorem tp_starts : timerEval .tp true false q .idle el delta pt = (if pt = 0 then .done else .running, 0, pt != 0) := by
  cases pt <;> simp [timerEval]

theorem tp_rests {inp : Bool} (h : inp = false ∨ prev = true) : timerEval .tp inp prev q .idle el delta pt = (.idle, el, false) := by
  obtain rfl | rfl := h <;> simp [timerEval]

theorem tp_runs {inp : Bool} (h : min (el + delta) pt < pt) :
    timerEval .tp inp prev q .running el delta pt = (.running, min (el + delta) pt, true) := by
  simp [timerEval, Nat.not_le.2 h]

theorem tp_ends_on (h : pt ≤ min (el + delta) pt) :
    timerEval .tp true prev q .running el delta pt = (.done, min (el + delta) pt, false) := by
  simp [timerEval, h]

theorem tp_ends_off (h : pt ≤ min (el + delta) pt) : timerEval .tp false prev q .running el delta pt = (.idle, 0, false) := by
  simp [timerEval, h]

theorem tp_done_on : timerEval .tp true prev q .done el delta pt = (.done, el, false) := by simp [timerEval]

theorem tp_done_off : timerEval .tp false prev q .done el delta pt = (.idle, 0, false) := by simp [timerEval]

end

/-! ### Counters -/

theorem toSigned_toNat (w : W64) : toSigned 64 w.toNat = w.toInt := by
  rw [toSigned, BitVec.toInt, Nat.mod_eq_of_lt w.isLt]
  split <;> split <;> omega

theorem intOf_int64 (w : W64) : intOf .int64 w = w.toInt := toSigned_toNat w

/-- CV and the two previous inputs after a counter instruction that presents its input as MOD [3:2] says; in the first execution the
previous inputs are primed (R73, R78). -/
def counterNext (kind : InstKind) (first inp : Bool) (mode : Nat) (pv cv : Int) (old old2 : Bool) : Int × Bool × Bool :=
  match mode with
  | 0 =>
    (if inp = true ∧ (if first then inp else old) = false then
       (if kind = InstKind.ctd then max (cv - 1) (minOf .int64) else min (cv + 1) (maxOf .int64))
     else cv, inp, old2)
  | 1 => (if inp = true ∧ (if first then inp else old2) = false then max (cv - 1) (minOf .int64) else cv, old, inp)
  | 2 => (if inp then 0 else cv, old, old2)
  | _ => (if inp then pv else cv, old, old2)

section
variable {kind : InstKind} {first old old2 : Bool} {pv cv : Int}

theorem counterNext_counts (hf : first = false) (ho : old = false) : counterNext kind first true 0 pv cv old old2 =
    (if kind = .ctd then max (cv - 1) (-(2 ^ 63)) else min (cv + 1) (2 ^ 63 - 1), true, old2) := by
  subst hf ho; rfl

theorem counterNext_still {inp : Bool} (h : inp = false ∨ first = true ∨ old = true) :
    counterNext kind first inp 0 pv cv old old2 = (cv, inp, old2) := by
  obtain rfl | rfl | rfl := h <;> simp [counterNext]
  rintro rfl; simp

theorem counterNext_countsDown (hf : first = false) (ho : old2 = false) :
    counterNext kind first true 1 pv cv old old2 = (max (cv - 1) (-(2 ^ 63)), old, true) := by
  subst hf ho; rfl

theorem counterNext_stillDown {inp : Bool} (h : inp = false ∨ first = true ∨ old2 = true) :
    counterNext kind first inp 1 pv cv old old2 = (cv, old, inp) := by
  obtain rfl | rfl | rfl := h <;> simp [counterNext]
  rintro rfl; simp

theorem counterNext_resets {inp : Bool} : counterNext kind first inp 2 pv cv old old2 = (if inp then 0 else cv, old, old2) := rfl

theorem counterNext_loads {inp : Bool} : counterNext kind first inp 3 pv cv old old2 = (if inp then pv else cv, old, old2) := rfl

end

theorem exec_counter {k : Instr} {s : State} {l : LaneId} {f : WordFields} {i : Nat} {e : Exec} {c : LaneCtx} {kind : InstKind} {r : Inst}
    {mode : Nat} {pv cv : Int} {p p2 : Bool} (hi : Issues s l f i e c) (hp : Unpoisoned s)
    (hk : exec k s = .next (laneStep s l f (counterOp kind f) neverOpen)) (hn : tableCycles f = 8)
    (hr : laneInst (laneView s e c) f.im.toNat kind = r) (hm : f.m.toNat / 4 = mode)
    (hpv : pv = if f.m.getLsbD 1 then (regOf c (f.o.toNat % 16)).toInt else f.o.toNat)
    (hv : counterNext kind (r.isNew || r.lastT == BitVec.ofNat 64 e.tick) c.acc mode pv r.value.toInt r.prev r.prev2 = (cv, p, p2)) :
    exec k s = .next (putLaneCtx i l (putInst
      { issued c 8 with acc := if kind = .ctd ∨ f.m.getLsbD 0 = true then decide (cv ≤ 0) else decide (pv ≤ cv), fc := false }
      f.im.toNat r
      { r with value := BitVec.ofInt 64 cv, preset := BitVec.ofInt 64 pv, isNew := false, resume := false, prev := p, prev2 := p2,
               lastT := if r.isNew then BitVec.ofNat 64 e.tick else r.lastT }) s) := by
  have hx : counterOp kind f (laneView s e (issued c 8)) =
      let r := laneInst (laneView s e c) f.im.toNat kind
      let pv : Int := if f.m.getLsbD 1 then intOf .int64 (regOf c (f.o.toNat % 16)) else f.o.toNat
      let v := counterNext kind (r.isNew || r.lastT == BitVec.ofNat 64 e.tick) c.acc (f.m.toNat / 4) pv (intOf .int64 r.value) r.prev r.prev2
      putInst
        { issued c 8 with acc := if kind = .ctd ∨ f.m.getLsbD 0 = true then decide (v.1 ≤ 0) else decide (pv ≤ v.1), fc := false }
        f.im.toNat r
        { r with value := BitVec.ofInt 64 v.1, preset := BitVec.ofInt 64 pv, isNew := false, resume := false, prev := v.2.1,
                 prev2 := v.2.2, lastT := if r.isNew then BitVec.ofNat 64 e.tick else r.lastT } := by
    unfold counterOp counterNext
    generalize f.m.toNat / 4 = mode
    obtain _ | _ | _ | mode := mode <;> rfl
  refine exec_gives 8 hi hp hk hn (hx.trans ?_)
  simp only [hr, hm, intOf_int64, ← hpv, hv]

/-- Settles O13: a timer takes what `timerEval` gives it and a counter what `counterNext` does, case by case. -/
theorem timersAndCounters : Obligations.TimersAndCounters := by
  refine ⟨?timers, ?counters⟩
  case timers =>
    intro s l m o im i e c hp x count pt gives grown
    refine ⟨?ton, ?tof, ?tp⟩
    case ton =>
      intro hi r k
      have go {ts el q} (hv : timerEval .ton c.acc (if r.isNew then c.acc else r.prev) r.q r.ts r.value.toNat
          (if r.isNew || r.resume then 0 else e.tick - r.lastT.toNat) pt = (ts, el, q)) : gives k r ts el q :=
        exec_timer (f := ⟨0x30, m, o, im⟩) (kind := .ton) hi hp rfl rfl rfl hv
      clear_value r
      refine ⟨fun ha => go ?_, fun ha ht => go ?_, fun ha ht => go ?_⟩ <;> rw [ha]
      · exact ton_off
      · rw [ht]; exact ton_starts
      · exact ton_runs ht
    case tof =>
      intro hi r k
      have go {ts el q} (hv : timerEval .tof c.acc (if r.isNew then c.acc else r.prev) r.q r.ts r.value.toNat
          (if r.isNew || r.resume then 0 else e.tick - r.lastT.toNat) pt = (ts, el, q)) : gives k r ts el q :=
        exec_timer (f := ⟨0x31, m, o, im⟩) (kind := .tof) hi hp rfl rfl rfl hv
      clear_value r
      refine ⟨fun ha => go ?_, fun ha ht hq => go ?_, fun ha ht hq => go ?_, fun ha ht => go ?_, fun ha ht => go ?_⟩ <;> rw [ha]
      · exact tof_on
      · rw [ht, hq]; exact tof_starts
      · rw [ht, hq]; exact tof_rests
      · rw [ht]; exact tof_runs
      · rw [ht]; exact tof_done
    case tp =>
      intro hi r k
      have go {ts el q} (hv : timerEval .tp c.acc (if r.isNew then c.acc else r.prev) r.q r.ts r.value.toNat
          (if r.isNew || r.resume then 0 else e.tick - r.lastT.toNat) pt = (ts, el, q)) : gives k r ts el q :=
        exec_timer (f := ⟨0x32, m, o, im⟩) (kind := .tp) hi hp rfl rfl rfl hv
      clear_value r
      refine ⟨fun ha ht ho hw => go ?_, fun ht h => go ?_, fun ht hg => go ?_, fun ha ht hg => go ?_, fun ha ht hg => go ?_,
        fun ha ht => go ?_, fun ha ht => go ?_⟩ <;> rw [ht]
      · rw [ha, ho, hw]; exact tp_starts
      · refine tp_rests ?_
        obtain ha | ho | hw := h
        · exact .inl ha
        · cases c.acc <;> simp [ho]
        · cases c.acc <;> simp [hw]
      · exact tp_runs hg
      · rw [ha]; exact tp_ends_on hg
      · rw [ha]; exact tp_ends_off hg
      · rw [ha]; exact tp_done_on
      · rw [ha]; exact tp_done_off
  case counters =>
    intro r hr s l m o im i e c hi hp n first pv cv down up gives
    have row : exec (r.2.1 l m o im) s = .next (laneStep s l ⟨r.1, m, o, im⟩ (counterOp r.2.2 ⟨r.1, m, o, im⟩) neverOpen) ∧
        tableCycles ⟨r.1, m, o, im⟩ = 8 := by
      simp only [List.mem_cons, List.not_mem_nil, or_false] at hr
      obtain rfl | rfl | rfl := hr <;> exact ⟨rfl, rfl⟩
    have go {mode} {cv' p p2} (hm : m.toNat / 4 = mode)
        (hv : counterNext r.2.2 first c.acc mode pv cv n.prev n.prev2 = (cv', p, p2)) : gives cv' p p2 :=
      exec_counter (f := ⟨r.1, m, o, im⟩) hi hp row.1 row.2 rfl hm rfl hv
    refine ⟨?_, ?_, ?_, ?_, ?_, ?_⟩
    · intro hm ha hf ho
      exact go hm (by rw [ha]; exact counterNext_counts hf ho)
    · exact fun hm h => go hm (counterNext_still h)
    · intro hm ha hf ho
      exact go hm (by rw [ha]; exact counterNext_countsDown hf ho)
    · exact fun hm h => go hm (counterNext_stillDown h)
    · exact fun hm => go hm counterNext_resets
    · exact fun hm => go hm counterNext_loads

end Sys2Proof.Machine
end

section
/-! The Word Unit: moves, arithmetic, comparisons, conversions, LIMIT and SCALE (R81 to R87, R95). -/

namespace Sys2Proof.Machine
open Sys2Proof

/-! ### Moves and integers -/

/-- An operation on Wd and an operand, which is some value where the manual leaves it open. -/
theorem exec_arith {k : Instr} {s : State} {l : LaneId} {f : WordFields} {i : Nat} {e : Exec} {c : LaneCtx} {fm : Form} {n : Nat}
    {op : ValType → W64 → W64 → W64} (hi : Issues s l f i e c) (hp : Unpoisoned s)
    (hk : exec k s = .next (laneStep s l f (arith op fm f) (wordOpen fm f))) (hn : tableCycles f = formCost fm n) :
    ∃ v, (∀ w, wordOperand (laneView s e c) fm (modType f) f = some w → v = w) ∧
      exec k s = .next (putLaneCtx i l (setReg (issued c (formCost fm n)) (destOf fm f) (op (modType f) (regOf c (destOf fm f)) v))
        (drawnIf (wordOperand (laneView s e c) fm (modType f) f).isNone s)) := by
  refine ⟨_, getD_eq_of_eq_some (freeWord s), (exec_issues hi hp hk hn).trans ?_⟩
  rw [arith, wordOpen, wordOperand_issued]
  rfl

theorem exec_compare {k : Instr} {s : State} {l : LaneId} {f : WordFields} {i : Nat} {e : Exec} {c : LaneCtx} {fm : Form} {n : Nat}
    {want : Option Ordering → Bool} (hi : Issues s l f i e c) (hp : Unpoisoned s)
    (hk : exec k s = .next (laneStep s l f (compareOp want fm f) (wordOpen fm f))) (hn : tableCycles f = formCost fm n) :
    ∃ v, (∀ w, wordOperand (laneView s e c) fm (modType f) f = some w → v = w) ∧
      (let q := want (compareVals (modType f) (regOf c (destOf fm f)) v)
       exec k s = .next (putLaneCtx i l { issued c (formCost fm n) with acc := if c.fc then q else c.acc && q, fc := false }
        (drawnIf (wordOperand (laneView s e c) fm (modType f) f).isNone s))) := by
  refine ⟨_, getD_eq_of_eq_some (freeWord s), (exec_issues hi hp hk hn).trans ?_⟩
  rw [compareOp, wordOpen, wordOperand_issued]
  rfl

/-- LDW has no register form. -/
theorem exec_ldw {s : State} {l : LaneId} {fm : Form} {m : BitVec 4} {o : BitVec 20} {im : W32} {i : Nat} {e : Exec} {c : LaneCtx}
    (hi : Issues s l ⟨formOp 0x50 fm, m, o, im⟩ i e c) (hp : Unpoisoned s) :
    let f : WordFields := ⟨formOp 0x50 fm, m, o, im⟩
    ∃ v, (∀ w, wordOperand (laneView s e c) fm (modType f) f = some w → v = w) ∧
      exec (.ldw l fm m o im) s = .next (putLaneCtx i l (setReg (issued c (formCost fm 1)) (destOf fm f) v)
        (drawnIf (wordOperand (laneView s e c) fm (modType f) f).isNone s)) := by
  intro f
  have hn : tableCycles f = formCost fm 1 := by
    cases fm with
    | g =>
      obtain ⟨-, -, -, -, -, -, hok, -⟩ := hi
      cases hok
    | t | l | i => rfl
  refine ⟨_, getD_eq_of_eq_some (freeWord s), (exec_issues hi hp rfl hn).trans ?_⟩
  rw [wordOpen, wordOperand_issued]
  rfl

section
variable {x : LaneIn} {f : WordFields}

theorem storeWord_local (h : (laneLocal x f.o.toNat).isSome = true) :
    storeWord .l f x = setLocal x.c f.o.toNat (encodeVal (modType f) (regOf x.c (wdHigh f))) := by
  obtain ⟨v, hv⟩ := Option.isSome_iff_exists.1 h
  simp only [storeWord, hv]

theorem storeWord_outside_frame (h : laneLocal x f.o.toNat = none) : storeWord .l f x = x.c := by
  simp only [storeWord, h]

end

theorem coe_natAbs_eq_ite (a : Int) : (a.natAbs : Int) = if a < 0 then -a else a := by
  split <;> omega

/-- Settles O14: every arithmetic row is `exec_arith` of its integer operation; moves and stores are their unit's equations. -/
theorem wordMovesAndIntegers : Obligations.WordMovesAndIntegers := by
  refine ⟨?moves, ?arithmetic, ?unary⟩
  case moves =>
    intro s l fm m o im i e c hp x ld st
    refine ⟨fun hi => exec_ldw hi hp, ?tag, ?locl, ?outside, fun hi => exec_gives 1 hi hp rfl rfl rfl, fun hi => ?high⟩
    case tag => rintro hi rfl; exact exec_gives 1 hi hp rfl rfl rfl
    case locl => rintro hi rfl h; exact exec_gives 1 hi hp rfl rfl (storeWord_local h)
    case outside => rintro hi rfl h; exact exec_gives 1 hi hp rfl rfl (storeWord_outside_frame h)
    case high => exact exec_gives 1 hi hp rfl rfl (by rw [← BitVec.setWidth_eq_extractLsb' (by decide)]; rfl)
  case arithmetic =>
    intro r hr s l fm m o im i e c f hi hp
    have row : exec (r.2.1 l fm m o im) s = .next (laneStep s l f (arith (intOp r.2.2.2) fm f) (wordOpen fm f)) ∧
        tableCycles f = formCost fm r.2.2.1 := by
      simp only [List.mem_cons, List.not_mem_nil, or_false] at hr
      obtain rfl | rfl | rfl | rfl | rfl := hr <;> exact ⟨rfl, by cases fm <;> rfl⟩
    exact exec_arith (f := f) (op := intOp r.2.2.2) hi hp row.1 row.2
  case unary =>
    intro s l m o im i e c hp ty a
    refine ⟨fun hi => exec_gives 1 hi hp rfl rfl rfl, fun hi => ?_⟩
    exact exec_gives 1 hi hp rfl rfl (by rw [coe_natAbs_eq_ite]; rfl)

/-! ### Reals, comparisons, conversions -/

theorem saturate_eq_clamp (ty : ValType) (x : Int) : saturate ty x = max (minOf ty) (min (maxOf ty) x) := by
  have ordered : minOf ty ≤ maxOf ty := by cases ty <;> decide
  unfold saturate
  split
  · omega
  · split <;> omega

theorem convert_int {src dst : ValType} (w : W64) (hs : isRealType src = false) (hd : isRealType dst = false) (hb : dst ≠ .bool) :
    convert src dst w = encodeInt dst (max (minOf dst) (min (maxOf dst) (intOf src w))) := by
  simp [convert, hs, hd, hb, saturate_eq_clamp]

theorem compareVals_nan {ty : ValType} {x : W64} (y : W64) (hr : isRealType ty = true) (hn : (realOf ty x).isNan = true) :
    compareVals ty x y = none := by
  rw [compareVals, if_pos hr]
  cases h : realOf ty x with
  | nan => rfl
  | inf | fin => rw [h] at hn; cases hn

theorem limitVal_nan {ty : ValType} {d lo hi : W64} (hr : isRealType ty = true) (hn : (realOf ty d).isNan = true) :
    limitVal ty d lo hi = some lo :=
  if_pos (by rw [hr, hn]; rfl)

theorem limitVal_ordered {ty : ValType} {d lo hi : W64} {dl dh lh : Ordering} (hdl : compareVals ty d lo = some dl)
    (hdh : compareVals ty d hi = some dh) (hlh : compareVals ty lo hi = some lh) :
    limitVal ty d lo hi = some (if lh = .gt then hi else if dl = .lt then lo else if dh = .gt then hi else d) := by
  have number : ¬ (isRealType ty && (realOf ty d).isNan) = true := by
    intro h
    obtain ⟨hr, hn⟩ := Bool.and_eq_true_iff.1 h
    rw [compareVals_nan lo hr hn] at hdl
    cases hdl
  rw [limitVal, if_neg number, hdl, hdh, hlh]

/-- Settles O15: every row is `exec_arith` or `exec_compare` of its operation; a NaN is compared with nothing, so LIMIT's two results do
not meet. -/
theorem realsComparisonsConversions : Obligations.RealsComparisonsConversions := by
  refine ⟨⟨?arithmetic, ?root⟩, ?comparisons, ?conversions⟩
  case arithmetic =>
    intro r hr s l fm m o im i e c f w hi hp
    have row : exec (r.2.1 l fm m o im) s = .next (laneStep s l f (arith (realOp r.2.2.2) fm f) (wordOpen fm f)) ∧
        tableCycles f = formCost fm r.2.2.1 := by
      simp only [List.mem_cons, List.not_mem_nil, or_false] at hr
      obtain rfl | rfl | rfl | rfl := hr <;> exact ⟨rfl, by cases fm <;> rfl⟩
    exact exec_arith (f := f) (op := realOp r.2.2.2) hi hp row.1 row.2
  case root =>
    intro s l m o im i e c ty hi hp
    exact exec_gives 20 hi hp rfl rfl rfl
  case comparisons =>
    intro r hr s l fm m o im i e c f hi hp
    have row : exec (r.2.1 l fm m o im) s = .next (laneStep s l f (compareOp r.2.2 fm f) (wordOpen fm f)) ∧
        tableCycles f = formCost fm 2 := by
      simp only [List.mem_cons, List.not_mem_nil, or_false] at hr
      obtain rfl | rfl | rfl | rfl | rfl | rfl := hr <;> exact ⟨rfl, by cases fm <;> rfl⟩
    exact exec_compare (f := f) hi hp row.1 row.2
  case conversions =>
    intro s l m o im i e c hp ty src d a
    refine ⟨fun hi => ⟨exec_gives 3 hi hp rfl rfl rfl, fun hs ht hb => convert_int _ hs ht hb⟩, fun hi => ?limit, fun hi => ?scale⟩
    case limit =>
      refine ⟨(limitVal ty (regOf c d) (regOf c a) (regOf c (a + 1))).getD (freeWord s),
        (exec_issues (k := .limit l m o im) (n := 2) hi hp rfl rfl).trans rfl, fun hr hn => ?_, fun dl dh lh hdl hdh hlh => ?_⟩
      · rw [limitVal_nan hr hn]; rfl
      · rw [limitVal_ordered hdl hdh hlh]; rfl
    case scale =>
      exact ⟨scaleVal ty (regOf c d) (regOf c a) (regOf c (a + 1)) (regOf c (a + 2)) (regOf c (a + 3)), exec_gives 16 hi hp rfl rfl rfl,
        fun h => if_pos h, fun h => if_neg h⟩

end Sys2Proof.Machine
end

section
/-! Control flow, TEND, TNOW and AGREE (R88 to R93, R98). -/

namespace Sys2Proof.Machine
open Sys2Proof

section
variable {f : WordFields} {x : LaneIn}

theorem jumpTo_inside (h : f.im.toNat < x.e.codeLen ∧ routineOf x.e f.im.toNat = routineOf x.e (x.c.pc - 1)) :
    jumpTo f x = { x.c with pc := f.im.toNat } := if_pos h

theorem jumpTo_outside (h : ¬ (f.im.toNat < x.e.codeLen ∧ routineOf x.e f.im.toNat = routineOf x.e (x.c.pc - 1))) :
    jumpTo f x = laneFault x := if_neg h

theorem jumpIf_not_taken {want : Bool} (h : x.c.acc ≠ want) : jumpIf want f x = { x.c with fc := true } := if_neg h

theorem jumpIf_inside {want : Bool} (ha : x.c.acc = want) (hs : x.c.stalled = false)
    (h : f.im.toNat < x.e.codeLen ∧ routineOf x.e f.im.toNat = routineOf x.e (x.c.pc - 1)) :
    jumpIf want f x = { x.c with pc := f.im.toNat, fc := true, cycles := x.c.cycles + 1 } := by
  rw [jumpIf, if_pos ha, jumpTo_inside h]
  exact if_neg (by simp [hs])

theorem jumpIf_outside {want : Bool} (ha : x.c.acc = want)
    (h : ¬ (f.im.toNat < x.e.codeLen ∧ routineOf x.e f.im.toNat = routineOf x.e (x.c.pc - 1))) : jumpIf want f x = laneFault x := by
  rw [jumpIf, if_pos ha, jumpTo_outside h]
  rfl

theorem callTo_entry (h : f.im.toNat < x.e.codeLen ∧ (f.im.toNat = 0 ∨ f.im.toNat ∈ x.e.routines)) (hr : x.c.ret.length < 16) :
    callTo f x = { x.c with ret := x.c.pc :: x.c.ret, pc := f.im.toNat } := if_pos ⟨h.1, h.2, hr⟩

theorem callTo_refused (h : ¬ (f.im.toNat < x.e.codeLen ∧ (f.im.toNat = 0 ∨ f.im.toNat ∈ x.e.routines)) ∨ 16 ≤ x.c.ret.length) :
    callTo f x = laneFault x := by
  refine if_neg fun ⟨hl, he, hr⟩ => ?_
  obtain h | h := h
  · exact h ⟨hl, he⟩
  · exact Nat.not_le.2 hr h

theorem returnTo_pop {b : Nat} {rest : List Nat} (h : x.c.ret = b :: rest) : returnTo x = { x.c with ret := rest, pc := b } := by
  rw [returnTo, h]

theorem returnTo_empty (h : x.c.ret = []) : returnTo x = laneFault x := by rw [returnTo, h]

/-- AGREE waits; its sample is posted where the execution is no shadow or is held (R92, R93). -/
theorem agreeWait_eq (sample : W64) : agreeWait sample f x =
    { (if !x.e.shadow || x.e.held then postEntry x.c .sample (.source f.o.toNat) sample none else x.c) with
      waiting := some (f.o.toNat, f.m, ⟨wdHigh f % 16, Nat.mod_lt _ (by decide)⟩), agrees := x.c.agrees + 1 } := by
  unfold agreeWait
  cases x.e.shadow <;> cases x.e.held <;> rfl

end

theorem stalled_eq_false_of_canIssue {l : LaneId} {c : LaneCtx} (h : canIssue l c = true) : c.stalled = false := by
  simp only [canIssue, Bool.and_eq_true, Bool.not_eq_true'] at h
  obtain ⟨⟨-, hs⟩, -⟩ := h
  exact hs

theorem Issues.not_stalled {s : State} {l : LaneId} {f : WordFields} {i : Nat} {e : Exec} {c : LaneCtx} (hi : Issues s l f i e c) :
    c.stalled = false := by
  obtain ⟨-, -, -, -, hc, -⟩ := hi
  exact stalled_eq_false_of_canIssue (List.find?_some hc)

/-- Settles O16: each jump, call and return is its equation on a lane that is not stopped; AGREE is a step of its lane at its instant. -/
theorem controlFlowAndAgreement : Obligations.ControlFlowAndAgreement := by
  refine ⟨?flow, ?ends⟩
  case flow =>
    intro s l m o im i e c hp t inside entry gives stops
    refine ⟨?jmp, ?jmpIf, ?call, ?ret⟩
    case jmp =>
      exact fun hi => ⟨fun h => exec_gives 2 hi hp rfl rfl (jumpTo_inside h), fun h => exec_gives 2 hi hp rfl rfl (jumpTo_outside h)⟩
    case jmpIf =>
      intro r hr hi
      have row : exec (r.2.1 l m o im) s = .next (laneStep s l ⟨r.1, m, o, im⟩ (jumpIf r.2.2 ⟨r.1, m, o, im⟩) neverOpen) ∧
          tableCycles ⟨r.1, m, o, im⟩ = 1 := by
        simp only [List.mem_cons, List.not_mem_nil, or_false] at hr
        obtain rfl | rfl := hr <;> exact ⟨rfl, rfl⟩
      refine ⟨fun ha h => exec_gives 1 hi hp row.1 row.2 (jumpIf_inside ha hi.not_stalled h),
        fun ha h => exec_gives 1 hi hp row.1 row.2 (jumpIf_outside ha h),
        fun ha => exec_gives 1 hi hp row.1 row.2 (jumpIf_not_taken ha)⟩
    case call =>
      exact fun hi => ⟨fun he hr => exec_gives 3 hi hp rfl rfl (callTo_entry he hr), fun h => exec_gives 3 hi hp rfl rfl (callTo_refused h)⟩
    case ret =>
      exact fun hi => ⟨fun b rest h => exec_gives 3 hi hp rfl rfl (returnTo_pop h), fun h => exec_gives 3 hi hp rfl rfl (returnTo_empty h)⟩
  case ends =>
    intro t s l m o im i e c hp
    refine ⟨fun hi => exec_gives 1 hi hp rfl rfl rfl, fun hi => exec_gives 1 hi hp rfl rfl rfl, fun hi => ?agree⟩
    case agree =>
      refine ⟨(liveSource (atTime t s) ⟨0xF1, m, o, im⟩).getD (freeWord (atTime t s)), getD_eq_of_eq_some _, ?_⟩
      have taken := laneStep_takes (s := atTime t s) (n := 1)
        (fun x => agreeWait ((liveSource (atTime t s) ⟨0xF1, m, o, im⟩).getD x.free) ⟨0xF1, m, o, im⟩ x)
        (fun x => (!x.e.shadow || x.e.held) && (liveSource (atTime t s) ⟨0xF1, m, o, im⟩).isNone) hi hp rfl
      rw [agreeWait_eq] at taken
      exact congrArg (fun u => Host.Outcome.next (noteSample t l u)) taken
end Sys2Proof.Machine
end

section
/-! Loading, verifying and exchanging programs (R97, R101, R105, R107, R118, R324, R325, R333, R334, R358). -/

namespace Sys2Proof.Machine
open Sys2Proof

/-! ### Journal entries that are made and ended -/

/-- From `s` to `t` only the journal, what the partner has not got of it, and interrupts changed of the Keeper. -/
abbrev JournalWork (s t : State) : Prop :=
  t = { s with keeper := { s.keeper with
    journal := t.keeper.journal, unsent := t.keeper.unsent, intStat := t.keeper.intStat, msis := t.keeper.msis } }

theorem JournalWork.trans {s t u : State} (h : JournalWork s t) (k : JournalWork t u) : JournalWork s u := by
  rw [k, h]

theorem JournalWork.keeperWork {s t : State} (h : JournalWork s t) : KeeperWork s t := by
  rw [h]

theorem JournalWork.ctl_eq {s t : State} (h : JournalWork s t) : t.ctl = s.ctl := by rw [h]
theorem JournalWork.img_eq {s t : State} (h : JournalWork s t) : t.img = s.img := by rw [h]
theorem JournalWork.held_eq {s t : State} (h : JournalWork s t) : t.keeper.held = s.keeper.held := by rw [h]
theorem JournalWork.changes_eq {s t : State} (h : JournalWork s t) : t.keeper.changes = s.keeper.changes := by rw [h]
theorem JournalWork.lastJournal_eq {s t : State} (h : JournalWork s t) : t.keeper.lastJournal = s.keeper.lastJournal := by rw [h]
theorem JournalWork.lastAnswer_eq {s t : State} (h : JournalWork s t) (src : Source) : lastAnswer t src = lastAnswer s src := by
  rw [h]
  rfl

theorem journalWork_noteUnsent (e : JnlEntry) (s : State) : JournalWork s (noteUnsent e s) := by
  unfold noteUnsent
  split <;> rfl

theorem journalWork_jmod (id : Nat) (g : JnlEntry → JnlEntry) (s : State) : JournalWork s (jmod id g s) := by
  unfold jmod
  split
  · rfl
  · next x _ =>
    have noted : JournalWork s (noteUnsent x (onKeeper (fun k => { k with journal := k.journal.map fun y => if y.id == id then g y else y }) s)) :=
      JournalWork.trans rfl (journalWork_noteUnsent x _)
    dsimp only
    split
    · exact noted
    · exact noted.trans rfl

/-- An entry for which no response is held ends without an answer. -/
theorem jend_of_unheld {id : Nat} {st : JnlState} {status : Nat} {s : State} {e : JnlEntry} (he : jget s id = some e)
    (hl : ended e.state = false) (hh : ∀ r ∈ s.keeper.held, r.journal ≠ id) :
    jend id st status s = jmod id (fun e => { e with state := st, lastStatus := status, ended := nowOf s }) s := by
  have unheld (g : JnlEntry → JnlEntry) : (jmod id g s).keeper.held.find? (fun r => r.journal == id) = none := by
    rw [(journalWork_jmod id g s).held_eq]
    exact List.find?_eq_none.2 fun r hr => by simpa using hh r hr
  simp only [jend, he, hl, Bool.false_eq_true, if_false, answerHeld, unheld]

/-- A running entry that is changed and then ends, without a response held for it. -/
theorem entryEnds_spec {id : Nat} {st : JnlState} {status : Nat} {s : State} {e : JnlEntry} {g : JnlEntry → JnlEntry}
    (he : jget s id = some e) (hl : ended e.state = false) (hh : ∀ r ∈ s.keeper.held, r.journal ≠ id) (hi : ∀ x, (g x).id = x.id)
    (hs : ∀ x, (g x).state = x.state) :
    JournalWork s (jend id st status (jmod id g s)) ∧ EntryEnds id st status (jend id st status (jmod id g s)) := by
  have work := journalWork_jmod id g s
  have changed := jget_jmod he hi
  rw [jend_of_unheld changed (by rw [hs]; exact hl) (by rw [work.held_eq]; exact hh)]
  exact ⟨work.trans (journalWork_jmod ..), _, jget_jmod (g := fun e => { e with state := st, lastStatus := status, ended := nowOf (jmod id g s) })
    changed (fun _ => rfl), rfl, rfl⟩

/-! ### A request that is accepted and runs, R324 -/

section
variable {h : ReqHdr} {code steps : Nat} {s : State}

/-- The module with the entry of a request made and ACCEPTED answered. -/
def longAccepted (h : ReqHdr) (code steps : Nat) (s : State) : State :=
  let made := makeEntry h code steps s
  answer h (mkResponse made h code stAccepted made.keeper.lastJournal (lastMirrored made) []) made

theorem acceptLong_eq_run (run : Nat → State → State) (hf : journalFull s = false) :
    acceptLong h code steps run s = run (s.keeper.lastJournal + 1) (longAccepted h code steps s) := by
  rw [acceptLong, if_neg (by rw [hf]; exact Bool.false_ne_true)]
  exact congrArg (fun id => run id (longAccepted h code steps s)) lastJournal_makeEntry

theorem makeEntry_keeper : ∃ j ids st n, (makeEntry h code steps s).keeper =
    { s.keeper with lastJournal := s.keeper.lastJournal + 1, journal := j, unsent := ids, intStat := st, msis := n } := by
  unfold makeEntry
  extract_lets id e
  obtain ⟨ids, notes⟩ := noteUnsent_keeper e (onKeeper (fun k => { k with lastJournal := id }) (jput e s))
  rw [raiseInt, onKeeper_keeper, notes]
  exact ⟨_, _, _, _, rfl⟩

theorem answer_keeper (h : ReqHdr) (r : Response) (s : State) : ∃ ms cs st n, (answer h r s).keeper =
    { s.keeper with mailboxes := ms, conns := cs, intStat := st, msis := n } := by
  unfold answer deliver
  split
  · split <;> exact ⟨_, _, _, _, rfl⟩
  · exact ⟨_, _, _, _, rfl⟩

/-- A module that has accepted the request of `h`: ACCEPTED is answered, its entry waits, and no response is held for it. -/
structure Opened (h : ReqHdr) (code : Nat) (u y : State) : Prop where
  accepted : Accepted h code u y
  work : KeeperWork u y
  changes : y.keeper.changes = u.keeper.changes
  entry : ∃ e, jget y (u.keeper.lastJournal + 1) = some e ∧ ended e.state = false
  unheld : ∀ r ∈ y.keeper.held, r.journal ≠ u.keeper.lastJournal + 1

theorem longAccepted_opened (hc : Connected s h.src) (hf : journalFull s = false) (hi : FreshIds s) :
    Opened h code s (longAccepted h code steps s) := by
  have work := keeperWork_makeEntry (h := h) (code := code) (steps := steps) (s := s)
  obtain ⟨e, found, -, state, -⟩ := jget_makeEntry (h := h) (code := code) (steps := steps) hi.2 hf
  obtain ⟨j, ids, st, n, keeper⟩ := makeEntry_keeper (h := h) (code := code) (steps := steps) (s := s)
  have connected : Connected (makeEntry h code steps s) h.src := hc.of_sessions (by rw [keeper])
  unfold longAccepted
  extract_lets made
  have last : made.keeper.lastJournal = s.keeper.lastJournal + 1 := by rw [keeper]
  generalize hr : mkResponse made h code stAccepted made.keeper.lastJournal (lastMirrored made) [] = r
  obtain ⟨ms, cs, st', n', answered⟩ := answer_keeper h r made
  refine ⟨⟨by rw [answered]; exact last, ?_⟩, work.trans (keeperWork_answer ..), by rw [answered]; exact changes_makeEntry,
    ⟨e, ?_, by rw [state]; rfl⟩, fun x hx => ?_⟩
  · rw [AnsweredAs, lastAnswer_answer connected, ← hr, last, lastMirrored, work.img_eq, mkResponse_of_state_eq (congrArg Mod.state work.mod_eq)]
    rfl
  · rw [← found, jget, journal_answer]
    rfl
  · rw [answered, keeper] at hx
    exact Nat.ne_of_lt (Nat.lt_succ_of_le (hi.1 x hx))

end

section
variable {h : ReqHdr} {code : Nat} {u y z : State}

/-- A request that passes the checks and runs as a long command comes to it with its entry made; `x` is the module at acceptance. -/
theorem serve_long {i : Request} {len steps : Nat} {body : State → State} {run : Nat → State → State} {x : State}
    (ha : Admitted i h code len [] u) (hf : journalFull u = false) (hi : FreshIds u) (hb : body (arrived h u) = acceptLong h code steps run x)
    (hk : x.keeper = (arrived h u).keeper) (hw : KeeperWork (arrived h u) x) :
    ∃ y, serve i h code len true [] body u = notePeaks (run (u.keeper.lastJournal + 1) y) ∧ Opened h code u y := by
  obtain ⟨-, -, -, hc, -⟩ := id ha
  obtain ⟨-, -, -, -, -, -, full, journal, last⟩ := arrived_reads h u
  have arrives := keeperWork_arrived h u
  have connected : Connected x h.src := (connected_arrived hc).of_sessions (by rw [hk])
  have unfull : journalFull x = false := by
    rw [← hf, ← full, journalFull, hk]
    rfl
  obtain ⟨cs, arrival, -⟩ := arrived_eq h u
  have fresh : FreshIds x := by
    rw [FreshIds, hk, arrival]
    exact hi
  have opened := longAccepted_opened (code := code) (steps := steps) connected unfull fresh
  have same : x.keeper.lastJournal = u.keeper.lastJournal := by rw [hk, last]
  have whole : KeeperWork u x := arrives.trans hw
  refine ⟨longAccepted h code steps x, by rw [serve_of_admitted ha, hb, acceptLong_eq_run run unfull, same], ?_⟩
  obtain ⟨⟨number, answered⟩, work, changes, entry, unheld⟩ := opened
  rw [same] at number entry unheld answered
  refine ⟨⟨number, ?_⟩, whole.trans work, changes.trans (by rw [hk, changes_arrived]), entry, unheld⟩
  rw [AnsweredAs, answered, lastMirrored, whole.img_eq, mkResponse_of_state_eq (congrArg Mod.state whole.mod_eq)]
  rfl

/-- The entry of an accepted request ends after work outside the Keeper. -/
theorem Opened.ends (ho : Opened h code u y) (hk : z.keeper = y.keeper) (st : JnlState) (status : Nat) {g : JnlEntry → JnlEntry}
    (hi : ∀ x, (g x).id = x.id) (hs : ∀ x, (g x).state = x.state) :
    let s' := jend (u.keeper.lastJournal + 1) st status (jmod (u.keeper.lastJournal + 1) g z)
    Accepted h code u (notePeaks s') ∧ EntryEnds (u.keeper.lastJournal + 1) st status (notePeaks s') ∧ JournalWork z s' := by
  intro s'
  obtain ⟨⟨last, answered⟩, -, -, ⟨e, found, live⟩, unheld⟩ := ho
  obtain ⟨work, ends⟩ := entryEnds_spec (s := z) (st := st) (status := status) (g := g)
    ((congrArg (List.find? _) (congrArg Keeper.journal hk)).trans found) live (by rw [hk]; exact unheld) hi hs
  have answer : lastAnswer z h.src = lastAnswer y h.src := by
    cases h.src <;> simp only [lastAnswer, connOf, hk]
  refine ⟨⟨?_, ?_⟩, ends, work⟩
  · exact work.lastJournal_eq.trans ((congrArg Keeper.lastJournal hk).trans last)
  · rw [AnsweredAs, lastAnswer_notePeaks, work.lastAnswer_eq, answer]
    exact answered

end

/-! ### Loading, R333 -/

/-- A request whose command changes something outside the Keeper and answers. -/
theorem serve_responds {i : Request} {h : ReqHdr} {code len status : Nat} {p : List Byte} {body : State → State} {u x : State}
    (ha : Admitted i h code len [] u) (hb : body (arrived h u) = respond h code status p x) (hm : x.mod = u.mod) (hi : x.img = u.img)
    (hk : x.keeper = (arrived h u).keeper) :
    Answered h code status p u (serve i h code len true [] body u) ∧ (serve i h code len true [] body u).ctl = x.ctl ∧
      (serve i h code len true [] body u).img = x.img := by
  obtain ⟨-, -, -, hc, -⟩ := id ha
  rw [serve_of_admitted ha, hb]
  exact ⟨respond_answered (congrArg Mod.state hm) hi ((connected_arrived hc).of_sessions (by rw [hk])) .., (keeperWork_answer ..).ctl_eq,
    (keeperWork_answer ..).img_eq⟩

section
variable {h : ReqHdr} {v n off : Nat} {data : List Byte} {l : Load} {s : State}

theorem doLoadBegin_of_fits (he : s.ctl.exchange = none) (hv : v ≠ 0) (hq : pages n ≤ quotaOf s 2) :
    doLoadBegin h v n s = respond h 0x0300 stOk (le4 0)
      (onCtl (fun c => { c with load := some { version := v, length := n, bytes := [], journal := 0 } }) s) := by
  simp [doLoadBegin, exchangeBusy, he, hv, Nat.not_lt.2 hq, loadBytes]

variable (he : s.ctl.exchange = none) (hl : s.ctl.load = some l)
include he hl

theorem doLoadData_in_order (ho : off = l.bytes.length) (hn : off + data.length ≤ l.length) :
    doLoadData h l.version off data s = respond h 0x0300 stOk (le4 (off + data.length))
      (onCtl (fun c => { c with load := some { l with bytes := l.bytes ++ data } }) s) := by
  subst ho
  simp [doLoadData, exchangeBusy, he, hl, Nat.not_lt.2 hn, loadBytes]

theorem doLoadData_out_of_order (ho : off ≠ l.bytes.length) :
    doLoadData h l.version off data s = badArgument h 0x0300 [fieldFinding fRange 8] s := by
  simp [doLoadData, exchangeBusy, he, hl, ho]

theorem doLoadEnd_of_load : doLoadEnd h l.version s = acceptLong h 0x0300 1 (endLoad l) s := by
  simp [doLoadEnd, exchangeBusy, he, hl]

theorem doLoadAbort_of_load :
    doLoadAbort h l.version s = respond h 0x0300 stOk (le4 0) (onCtl (fun c => { c with load := none }) s) := by
  simp [doLoadAbort, exchangeBusy, he, hl, loadBytes]

end

theorem endLoad_of_good {l : Load} {p : Program} {id : Nat} {s : State} (hf : loadFindings l = []) (hp : parseProgram l.bytes = some p)
    (hfits : placeFits s p = true) : endLoad l id s = jend id .done stOk (jmod id (fun e => { e with step := 1 })
      (writeCode (!s.ctl.half) l.bytes.length
        (onCtl (fun c => { c with load := none, staged := some { prog := p, state := .loaded, onPartner := false } }) s))) := by
  have fits : placeFits (onCtl (fun c => { c with load := none }) s) p = true := hfits
  simp only [endLoad, hf, hp, fits, Bool.true_eq_false, if_false]
  rfl

theorem endLoad_of_findings {l : Load} {id : Nat} {s : State} (hf : loadFindings l ≠ []) :
    endLoad l id s = failWith id stBadArgument (loadFindings l) (onCtl (fun c => { c with load := none }) s) := by
  unfold endLoad
  split
  · exact absurd ‹_› hf
  · rfl

section
variable {t v : Nat} {h : ReqHdr} {s : State}

theorem ctl_arrived (t : Nat) (h : ReqHdr) (s : State) : (arrived h (atTime t s)).ctl = s.ctl := (keeperWork_arrived h (atTime t s)).ctl_eq

theorem leads_prgLoadBegin {n : Nat} (he : s.ctl.exchange = none) (hv : v ≠ 0) (hq : pages n ≤ quotaOf s 2)
    (ha : Admitted (.prgLoadBegin v n) h 0x0300 16 [] (atTime t s)) : Leads (.prgLoadBegin t h v n) s fun s' =>
      Answered h 0x0300 stOk (le4 0) (atTime t s) s' ∧
      s'.ctl = { s.ctl with load := some { version := v, length := n, bytes := [], journal := 0 } } := by
  have work := keeperWork_arrived h (atTime t s)
  have quota : quotaOf (arrived h (atTime t s)) 2 = quotaOf s 2 := by rw [work]; rfl
  obtain ⟨answered, ctl, -⟩ := serve_responds (body := doLoadBegin h v n) ha
    (doLoadBegin_of_fits ((ctl_arrived t h s).symm ▸ he) hv (quota ▸ hq)) work.mod_eq work.img_eq rfl
  exact ⟨_, rfl, answered, ctl.trans (by rw [onCtl_ctl, ctl_arrived])⟩

theorem leads_prgLoadData {off : Nat} {data : List Byte} {l : Load} (he : s.ctl.exchange = none) (hl : s.ctl.load = some l)
    (hv : l.version = v) (ha : Admitted (.prgLoadData v off data) h 0x0300 (16 + data.length) [] (atTime t s)) :
    (off = l.bytes.length → off + data.length ≤ l.length → Leads (.prgLoadData t h v off data) s fun s' =>
      Answered h 0x0300 stOk (le4 (off + data.length)) (atTime t s) s' ∧
        s'.ctl = { s.ctl with load := some { l with bytes := l.bytes ++ data } }) ∧
    (off ≠ l.bytes.length → Leads (.prgLoadData t h v off data) s fun s' =>
      ∃ p, Answered h 0x0300 stBadArgument p (atTime t s) s' ∧ Field p 8 (le4 8) ∧ s'.ctl = s.ctl) := by
  subst hv
  have work := keeperWork_arrived h (atTime t s)
  have ctl_eq := ctl_arrived t h s
  refine ⟨fun ho hn => ?_, fun ho => ?_⟩
  · obtain ⟨answered, ctl, -⟩ := serve_responds (body := doLoadData h l.version off data) ha
      (doLoadData_in_order (ctl_eq.symm ▸ he) (ctl_eq.symm ▸ hl) ho hn) work.mod_eq work.img_eq rfl
    exact ⟨_, rfl, answered, ctl.trans (by rw [onCtl_ctl, ctl_arrived])⟩
  · obtain ⟨answered, only⟩ := serve_badArgument (body := doLoadData h l.version off data) ha rfl
      (doLoadData_out_of_order (ctl_eq.symm ▸ he) (ctl_eq.symm ▸ hl) ho)
    exact ⟨_, rfl, _, answered, rfl, KeeperWork.ctl_eq (s := atTime t s) only⟩

theorem leads_prgLoadAbort {l : Load} (he : s.ctl.exchange = none) (hl : s.ctl.load = some l) (hv : l.version = v)
    (ha : Admitted (.prgLoadAbort v) h 0x0300 16 [] (atTime t s)) : Leads (.prgLoadAbort t h v) s fun s' =>
      Answered h 0x0300 stOk (le4 0) (atTime t s) s' ∧ s'.ctl = { s.ctl with load := none } := by
  subst hv
  have work := keeperWork_arrived h (atTime t s)
  have ctl_eq := ctl_arrived t h s
  obtain ⟨answered, ctl, -⟩ := serve_responds (body := doLoadAbort h l.version) ha
    (doLoadAbort_of_load (ctl_eq.symm ▸ he) (ctl_eq.symm ▸ hl)) work.mod_eq work.img_eq rfl
  exact ⟨_, rfl, answered, ctl.trans (by rw [onCtl_ctl, ctl_arrived])⟩

theorem leads_prgLoadEnd {l : Load} (he : s.ctl.exchange = none) (hl : s.ctl.load = some l) (hv : l.version = v)
    (ha : Admitted (.prgLoadEnd v) h 0x0300 16 [] (atTime t s)) (hf : journalFull (atTime t s) = false) (hi : FreshIds (atTime t s)) :
    (∀ p, loadFindings l = [] → parseProgram l.bytes = some p → placeFits s p = true → Leads (.prgLoadEnd t h v) s fun s' =>
      Accepted h 0x0300 (atTime t s) s' ∧ EntryEnds (s.keeper.lastJournal + 1) .done stOk s' ∧
      s'.ctl.load = none ∧ s'.ctl.staged = some { prog := p, state := .loaded, onPartner := false } ∧ s'.ctl.running = s.ctl.running ∧
      s'.ctl.tasks = s.ctl.tasks ∧ s'.ctl.execs = s.ctl.execs) ∧
    (loadFindings l ≠ [] → Leads (.prgLoadEnd t h v) s fun s' => Accepted h 0x0300 (atTime t s) s' ∧
      EntryEnds (s.keeper.lastJournal + 1) .failed stBadArgument s' ∧ s'.ctl = { s.ctl with load := none }) := by
  subst hv
  have ctl_eq := ctl_arrived t h s
  obtain ⟨y, runs, opened⟩ := serve_long (body := doLoadEnd h l.version) ha hf hi
    (doLoadEnd_of_load (ctl_eq.symm ▸ he) (ctl_eq.symm ▸ hl)) rfl rfl
  have ctl : y.ctl = s.ctl := opened.work.ctl_eq
  have run : Machine.exec (.prgLoadEnd t h l.version) s = .next (notePeaks (endLoad l (s.keeper.lastJournal + 1) y)) :=
    congrArg Host.Outcome.next runs
  refine ⟨fun p hfs hp hfits => ⟨_, run, ?placed⟩, fun hfs => ⟨_, run, ?failed⟩⟩
  case placed =>
    have fits : placeFits y p = true := by rw [← hfits, opened.work]; rfl
    rw [endLoad_of_good hfs hp fits]
    obtain ⟨accepted, ends, journal⟩ := opened.ends
      (z := writeCode (!y.ctl.half) l.bytes.length (onCtl (fun c => { c with load := none, staged := some ⟨p, .loaded, false⟩ }) y)) rfl
      .done stOk (g := fun e => { e with step := 1 }) (fun _ => rfl) (fun _ => rfl)
    have same := journal.ctl_eq
    refine ⟨accepted, ends, congrArg Control.load same, congrArg Control.staged same, ?_, ?_, ?_⟩
    · exact (congrArg Control.running same).trans (by rw [← ctl]; rfl)
    · exact (congrArg Control.tasks same).trans (by rw [← ctl]; rfl)
    · exact (congrArg Control.execs same).trans (by rw [← ctl]; rfl)
  case failed =>
    rw [endLoad_of_findings hfs]
    obtain ⟨accepted, ends, journal⟩ := opened.ends (z := draw (onCtl (fun c => { c with load := none }) y)) rfl
      .failed stBadArgument (g := fun e => { e with step := 1, attachment := _ }) (fun _ => rfl) (fun _ => rfl)
    exact ⟨accepted, ends, journal.ctl_eq.trans (by rw [draw_ctl, onCtl_ctl, ctl])⟩

end

/-! ### Verification, R97, R101 -/

section
variable {h : ReqHdr} {s : State}

/-- Of a module that differs from `s` in the Keeper's part and the drawn values, the checks of a version find the same. -/
theorem programFindings_of_work {t : Nat} {y : State} (w : KeeperWork (atTime t s) y) (p : Program) :
    verifyFindings y p ++ exchangeFindings y p = verifyFindings s p ++ exchangeFindings s p := by
  rw [w]
  rfl

theorem partnerVerified_work (h : ReqHdr) (s : State) :
    (partnerVerified h s).2.keeper = s.keeper ∧ (partnerVerified h s).2.ctl = s.ctl ∧ (partnerVerified h s).2.img = s.img := by
  unfold partnerVerified
  split <;> exact ⟨rfl, rfl, rfl⟩

theorem doVerify_of_staged {g : Staged} (hg : s.ctl.staged = some g) :
    doVerify h g.prog.version s = acceptLong h 0x0301 1 (runVerify h g) s := by
  simp [doVerify, hg]

/-- The version as a verification leaves it: VERIFIED where the checks find nothing. -/
theorem runVerify_eq (h : ReqHdr) (g : Staged) (id : Nat) (s : State) : ∃ held attachment,
    let fs := verifyFindings s g.prog ++ exchangeFindings s g.prog
    let x : Staged := { g with state := if fs.isEmpty then .verified else .loaded, onPartner := held }
    let worked := jmod id (fun e => { e with step := 1, attachment := attachment })
      (draw (onCtl (fun c => { c with staged := some x }) (partnerVerified h s).2))
    runVerify h g id s = if fs.isEmpty then jend id .done stOk worked else jend id .failed stBadArgument worked := by
  let whole := verifyFindings s g.prog ++ exchangeFindings s g.prog ++ forceFindings s g.prog
  refine ⟨(verifyFindings s g.prog ++ exchangeFindings s g.prog).isEmpty && (g.onPartner || (partnerVerified h s).1),
    if whole.isEmpty then [] else findingsWhole (partnerVerified h s).2.drawn whole, rfl⟩

end

section
variable {t v : Nat} {h : ReqHdr} {s : State}

theorem leads_prgVerify {g : Staged} (hg : s.ctl.staged = some g) (hv : g.prog.version = v)
    (ha : Admitted (.prgVerify v) h 0x0301 4 [] (atTime t s)) (hf : journalFull (atTime t s) = false) (hi : FreshIds (atTime t s)) :
    (verifyFindings s g.prog ++ exchangeFindings s g.prog = [] → Leads (.prgVerify t h v) s fun s' => Accepted h 0x0301 (atTime t s) s' ∧
      EntryEnds (s.keeper.lastJournal + 1) .done stOk s' ∧ (∃ x, s'.ctl.staged = some x ∧ x.prog = g.prog ∧ x.state = .verified) ∧
      s'.ctl.running = s.ctl.running ∧ s'.img = s.img) ∧
    (verifyFindings s g.prog ++ exchangeFindings s g.prog ≠ [] → Leads (.prgVerify t h v) s fun s' => Accepted h 0x0301 (atTime t s) s' ∧
      EntryEnds (s.keeper.lastJournal + 1) .failed stBadArgument s' ∧ (∃ x, s'.ctl.staged = some x ∧ x.prog = g.prog ∧ x.state = .loaded) ∧
      s'.ctl.running = s.ctl.running ∧ s'.img = s.img) := by
  subst hv
  obtain ⟨y, runs, opened⟩ := serve_long (body := doVerify h g.prog.version) ha hf hi
    (doVerify_of_staged ((ctl_arrived t h s).symm ▸ hg)) rfl rfl
  have run : Machine.exec (.prgVerify t h g.prog.version) s = .next (notePeaks (runVerify h g (s.keeper.lastJournal + 1) y)) :=
    congrArg Host.Outcome.next runs
  obtain ⟨keeper, ctl, img⟩ := partnerVerified_work h y
  obtain ⟨held, attachment, verifies⟩ := runVerify_eq h g (s.keeper.lastJournal + 1) y
  have findings : verifyFindings y g.prog ++ exchangeFindings y g.prog = _ := programFindings_of_work opened.work g.prog
  have running : (partnerVerified h y).2.ctl.running = s.ctl.running := congrArg Control.running (ctl.trans opened.work.ctl_eq)
  have image : (partnerVerified h y).2.img = s.img := img.trans opened.work.img_eq
  rw [verifies, findings] at run
  have leaves (st : StageState) (result : JnlState) (status : Nat) :
      let x : Staged := { g with state := st, onPartner := held }
      let s' := notePeaks (jend (s.keeper.lastJournal + 1) result status (jmod (s.keeper.lastJournal + 1)
        (fun e => { e with step := 1, attachment := attachment }) (draw (onCtl (fun c => { c with staged := some x }) (partnerVerified h y).2))))
      Accepted h 0x0301 (atTime t s) s' ∧ EntryEnds (s.keeper.lastJournal + 1) result status s' ∧
        (∃ x, s'.ctl.staged = some x ∧ x.prog = g.prog ∧ x.state = st) ∧ s'.ctl.running = s.ctl.running ∧ s'.img = s.img := by
    intro x s'
    obtain ⟨accepted, ends, journal⟩ := opened.ends (z := draw (onCtl (fun c => { c with staged := some x }) (partnerVerified h y).2))
      keeper result status (g := fun e => { e with step := 1, attachment := attachment }) (fun _ => rfl) (fun _ => rfl)
    exact ⟨accepted, ends, ⟨x, congrArg Control.staged journal.ctl_eq, rfl, rfl⟩, (congrArg Control.running journal.ctl_eq).trans running,
      journal.img_eq.trans image⟩
  refine ⟨fun hfs => ⟨_, run, ?_⟩, fun hfs => ⟨_, run, ?_⟩⟩
  · rw [hfs]
    exact leaves .verified .done stOk
  · rw [List.isEmpty_eq_false_iff.2 hfs]
    exact leaves .loaded .failed stBadArgument

end

/-! ### Exchange, R101, R105, R107, R118 -/

section
variable {h : ReqHdr} {g : Staged} {s : State}

/-- What the way of a request to its exchange may draw. -/
theorem heldByPartner_work (h : ReqHdr) (g : Staged) (s : State) :
    KeeperWork s (heldByPartner h g s).2 ∧ (heldByPartner h g s).2.keeper = s.keeper := by
  unfold heldByPartner
  split
  · exact ⟨rfl, rfl⟩
  · split
    · exact ⟨rfl, rfl⟩
    · split <;> exact ⟨rfl, rfl⟩

theorem heldByPartner_of_held (hh : partnerStandby s = true → h.pairScope = true ∧ g.onPartner = true) : heldByPartner h g s = (true, s) := by
  unfold heldByPartner
  split
  · rfl
  · obtain ⟨scope, held⟩ := hh (by simpa using ‹¬ partnerStandby s = false›)
    simp [scope, held]

theorem partnerFits_work (s : State) : KeeperWork s (partnerFits s).2 ∧ (partnerFits s).2.keeper = s.keeper := by
  unfold partnerFits
  split <;> exact ⟨rfl, rfl⟩

theorem doExchange_unverified (hg : s.ctl.staged = some g) (hv : g.state ≠ .verified) :
    doExchange h g.prog.version s = badArgument h 0x0302 [notVerified] (heldByPartner h g s).2 := by
  simp [doExchange, hg, hv]

variable (hg : s.ctl.staged = some g) (he : s.ctl.exchange = none) (hv : g.state = .verified)
  (hh : partnerStandby s = true → h.pairScope = true ∧ g.onPartner = true) (hb : exchangeBindings s g.prog = [])
include hg he hv hh hb

theorem doExchange_force_conflict (hf : forceConflicts s g.prog ≠ []) (hd : h.dropForces = false) :
    doExchange h g.prog.version s = refuseExchange h stForceConflict reasonForce g.prog s := by
  simp [doExchange, hg, hv, heldByPartner_of_held hh, hb, exchangeBusy, he, hf, hd]

variable (hf : forceConflicts s g.prog = [] ∨ h.dropForces = true) (hq : quotaFits s g.prog = true) (hp : (partnerFits s).1 = true)
include hf hq hp

theorem doExchange_fits : doExchange h g.prog.version s =
    let x := (partnerFits s).2
    if h.dryRun then respond h 0x0302 stOk
      (reportOf x.ctl.running g.prog 0 reasonNone (changeEntries x x.ctl.running g.prog (reportForces x g.prog 8)) 250) x
    else acceptExchange h x := by
  have fits : quotaFits (partnerFits s).2 g.prog = true := by rw [(partnerFits_work s).1]; exact hq
  have drop : ¬ (forceConflicts s g.prog ≠ [] ∧ h.dropForces = false) := by
    rintro ⟨some, keep⟩
    obtain none | drop := hf
    · exact some none
    · rw [drop] at keep; cases keep
  simp only [doExchange, hg, hv, heldByPartner_of_held hh, hb, exchangeBusy, he, fits, hp, if_neg drop]
  simp

end

theorem partnerFits_fst (s : State) : (partnerFits s).1 = if partnerStandby s then (freeWord s).getLsbD 0 else true := by
  unfold partnerFits
  split <;> rfl

/-- What a request for an exchange reads of the module that it arrives at. -/
theorem arrived_exchange_reads (t : Nat) (h : ReqHdr) (s : State) (p : Program) :
    let a := arrived h (atTime t s)
    partnerStandby a = partnerStandby s ∧ exchangeBindings a p = exchangeBindings s p ∧ forceConflicts a p = forceConflicts s p ∧
      quotaFits a p = quotaFits s p ∧ (partnerFits a).1 = (partnerFits (atTime t s)).1 := by
  obtain ⟨cs, arrives, -⟩ := arrived_eq h (atTime t s)
  intro a
  rw [partnerFits_fst, partnerFits_fst, show a = _ from arrives]
  exact ⟨rfl, rfl, rfl, rfl, rfl⟩

/-- The versions stand at the head of a change report (R111). -/
theorem reportOf_versions (old : Option Program) (new : Program) (epoch reason : Nat) (es : List ReportEntry) (limit : Nat) :
    Field (reportOf old new epoch reason es limit) 0 (le4 (oldVersion old)) ∧ Field (reportOf old new epoch reason es limit) 4 (le4 new.version) :=
  ⟨rfl, rfl⟩

section
variable {t v : Nat} {h : ReqHdr} {g : Staged} {s : State} (hg : s.ctl.staged = some g) (hver : g.prog.version = v)
  (ha : Admitted (.prgExchange v) h 0x0302 4 [] (atTime t s))
include hg hver ha

theorem leads_prgExchange_unverified (hv : g.state ≠ .verified) :
    Leads (.prgExchange t h v) s fun s' => ∃ p, Answered h 0x0302 stBadArgument p (atTime t s) s' ∧ s'.ctl = s.ctl := by
  subst hver
  obtain ⟨drawn, keeper⟩ := heldByPartner_work h g (arrived h (atTime t s))
  have work := ((keeperWork_arrived h (atTime t s)).trans drawn).trans (keeperWork_draw _)
  obtain ⟨answered, ctl, -⟩ := serve_responds (body := doExchange h g.prog.version) ha
    (doExchange_unverified ((ctl_arrived t h s).symm ▸ hg) hv) work.mod_eq work.img_eq keeper
  exact ⟨_, rfl, _, answered, ctl.trans work.ctl_eq⟩

variable (he : s.ctl.exchange = none) (hv : g.state = .verified)
  (hh : partnerStandby s = true → h.pairScope = true ∧ g.onPartner = true) (hb : exchangeBindings s g.prog = [])
include he hv hh hb

theorem leads_prgExchange_force_conflict (hf : forceConflicts s g.prog ≠ []) (hd : h.dropForces = false) :
    Leads (.prgExchange t h v) s fun s' => ∃ p, Answered h 0x0302 stForceConflict p (atTime t s) s' ∧ s'.ctl = s.ctl := by
  subst hver
  have work := keeperWork_arrived h (atTime t s)
  obtain ⟨standby, bindings, forces, -⟩ := arrived_exchange_reads t h s g.prog
  obtain ⟨answered, ctl, -⟩ := serve_responds (body := doExchange h g.prog.version) ha
    (doExchange_force_conflict (g := g) (work.ctl_eq.symm ▸ hg) (work.ctl_eq.symm ▸ he) hv (by rwa [standby])
      (bindings.trans hb) (by rwa [forces]) hd)
    work.mod_eq work.img_eq rfl
  exact ⟨_, rfl, _, answered, ctl.trans work.ctl_eq⟩

variable (hf : forceConflicts s g.prog = [] ∨ h.dropForces = true) (hq : quotaFits s g.prog = true)
  (hp : (partnerFits (atTime t s)).1 = true)
include hf hq hp

omit hver ha in
theorem doExchange_arrived : doExchange h g.prog.version (arrived h (atTime t s)) =
    let x := (partnerFits (arrived h (atTime t s))).2
    if h.dryRun then respond h 0x0302 stOk
      (reportOf x.ctl.running g.prog 0 reasonNone (changeEntries x x.ctl.running g.prog (reportForces x g.prog 8)) 250) x
    else acceptExchange h x := by
  have work := keeperWork_arrived h (atTime t s)
  obtain ⟨standby, bindings, forces, quota, partner⟩ := arrived_exchange_reads t h s g.prog
  exact doExchange_fits (work.ctl_eq.symm ▸ hg) (work.ctl_eq.symm ▸ he) hv (by rwa [standby]) (bindings.trans hb) (by rwa [forces])
    (quota.trans hq) (partner.trans hp)

theorem leads_prgExchange_dryRun (hd : h.dryRun = true) : Leads (.prgExchange t h v) s fun s' => ∃ p,
    Answered h 0x0302 stOk p (atTime t s) s' ∧ Field p 0 (le4 (oldVersion s.ctl.running)) ∧ Field p 4 (le4 v) ∧ s'.ctl = s.ctl ∧
      s'.img = s.img := by
  have runs := doExchange_arrived hg he hv hh hb hf hq hp
  subst hver
  obtain ⟨drawn, keeper⟩ := partnerFits_work (arrived h (atTime t s))
  have work := (keeperWork_arrived h (atTime t s)).trans drawn
  obtain ⟨answered, ctl, img⟩ := serve_responds (body := doExchange h g.prog.version) ha (runs.trans (if_pos hd)) work.mod_eq work.img_eq keeper
  obtain ⟨old, new⟩ := reportOf_versions (partnerFits (arrived h (atTime t s))).2.ctl.running g.prog 0 reasonNone
    (changeEntries (partnerFits (arrived h (atTime t s))).2 (partnerFits (arrived h (atTime t s))).2.ctl.running g.prog
      (reportForces (partnerFits (arrived h (atTime t s))).2 g.prog 8)) 250
  refine ⟨_, rfl, _, answered, ?_, new, ctl.trans work.ctl_eq, img.trans work.img_eq⟩
  rw [show s.ctl.running = (partnerFits (arrived h (atTime t s))).2.ctl.running by rw [work.ctl_eq, atTime_ctl]]
  exact old

theorem leads_prgExchange_accepted (hd : h.dryRun = false) (hj : journalFull (atTime t s) = false) (hi : FreshIds (atTime t s)) :
    Leads (.prgExchange t h v) s fun s' => Accepted h 0x0302 (atTime t s) s' ∧
      (∃ x, s'.ctl.exchange = some x ∧ x.journal = s.keeper.lastJournal + 1 ∧ x.phase = .queued) ∧
      s'.ctl.running = s.ctl.running ∧ s'.img = s.img ∧ ∃ c, s'.keeper.changes = s.keeper.changes ++ [c] ∧ c.kind = .exchange ∧
        c.journal = s.keeper.lastJournal + 1 := by
  have accepts := doExchange_arrived hg he hv hh hb hf hq hp
  subst hver
  obtain ⟨drawn, keeper⟩ := partnerFits_work (arrived h (atTime t s))
  obtain ⟨y, runs, opened⟩ := serve_long (body := doExchange h g.prog.version) ha hj hi
    (accepts.trans (if_neg (by rw [hd]; exact Bool.false_ne_true))) keeper drawn
  refine ⟨_, congrArg Host.Outcome.next runs, ?_⟩
  obtain ⟨⟨last, answered⟩, work, changes, -⟩ := opened
  extract_lets x z
  have journal : JournalWork (onCtl (fun c => { c with exchange := some x }) y) z := journalWork_jmod ..
  have answer : lastAnswer z h.src = lastAnswer y h.src := journal.lastAnswer_eq _
  have running : y.ctl.running = s.ctl.running := congrArg Control.running work.ctl_eq
  refine ⟨⟨?_, ?_⟩, ⟨x, ?_, rfl, rfl⟩, ?_, ?_, ?_⟩
  · exact journal.lastJournal_eq.trans last
  · rw [AnsweredAs, lastAnswer_notePeaks]
    exact answer.trans answered
  · exact congrArg Control.exchange journal.ctl_eq
  · exact (congrArg Control.running journal.ctl_eq).trans running
  · exact journal.img_eq.trans work.img_eq
  · exact ⟨_, congrArg (· ++ [_]) (journal.changes_eq.trans changes), rfl, rfl⟩

end

/-- Settles O43: a load, a verification and an exchange are followed through the checks to what the command does, under its entry where
it makes one. -/
theorem programLoadVerifyExchange : Obligations.ProgramLoadVerifyExchange := by
  refine ⟨?loads, ?exchanges⟩
  case loads =>
    rintro t h s u v rfl he
    exact ⟨fun n hv hq ha => leads_prgLoadBegin he hv hq ha, fun l off data hl hv ha => leads_prgLoadData he hl hv ha,
      fun l hl hv ha hf hi => leads_prgLoadEnd he hl hv ha hf hi, fun l hl hv ha => leads_prgLoadAbort he hl hv ha,
      fun g hg hv ha hf hi => leads_prgVerify hg hv ha hf hi⟩
  case exchanges =>
    rintro t h s u g v rfl he hg hver ha
    exact ⟨leads_prgExchange_unverified hg hver ha, fun hv hh hb => ⟨leads_prgExchange_force_conflict hg hver ha he hv hh hb,
      fun hf hq hp => ⟨leads_prgExchange_dryRun hg hver ha he hv hh hb hf hq hp,
        leads_prgExchange_accepted hg hver ha he hv hh hb hf hq hp⟩⟩⟩

end Sys2Proof.Machine
end

section
/-! Lanes that come back: a lane that is restored or loaded, a restoration that fails, and the spare that takes the place (R120, R129 to
R132). -/

namespace Sys2Proof.Machine
open Sys2Proof

/-! ### Lanes and spares -/

/-- A change of a role touches the Weave's record of the lane and GENERATION, and nothing else. -/
theorem setRole_eq (l : LaneId) (r : LaneRole) (s : State) : ∃ g, setRole l r s =
    onWeave (fun w => { w with lanes := vmod w.lanes l fun x => { x with role := r }, generation := g }) s := by
  unfold setRole
  split
  · next same =>
    have kept : ({ s.ctl.weave.lanes[l] with role := r } : Lane) = s.ctl.weave.lanes[l] := by rw [← same]; rfl
    have lanes : (vmod s.ctl.weave.lanes l fun x => { x with role := r }) = s.ctl.weave.lanes := by
      rw [vmod, kept]
      exact Vector.set_getElem_self ..
    exact ⟨s.ctl.weave.generation, by simp only [onWeave, onCtl, lanes]⟩
  · exact ⟨_, rfl⟩

theorem lanes_setRole (l : LaneId) (r : LaneRole) (s : State) :
    (setRole l r s).ctl.weave.lanes = vmod s.ctl.weave.lanes l fun x => { x with role := r } := by
  obtain ⟨g, eq⟩ := setRole_eq l r s
  exact eq ▸ rfl

@[simp] theorem sec_setRole (l : LaneId) (r : LaneRole) (s : State) : (setRole l r s).sec = s.sec := by
  obtain ⟨g, eq⟩ := setRole_eq l r s
  exact eq ▸ rfl

@[simp] theorem wear_setRole (l : LaneId) (r : LaneRole) (s : State) : (setRole l r s).wear = s.wear := by
  obtain ⟨g, eq⟩ := setRole_eq l r s
  exact eq ▸ rfl

@[simp] theorem uncorrectable_setRole (l : LaneId) (r : LaneRole) (s : State) :
    (setRole l r s).ctl.weave.uncorrectable = s.ctl.weave.uncorrectable := by
  obtain ⟨g, eq⟩ := setRole_eq l r s
  exact eq ▸ rfl

/-- The spare is found by the roles alone. -/
theorem spareLane_congr {s u : State}
    (h : ∀ k, roleOf u k = .spare ∨ roleOf u k = .spareTest ↔ roleOf s k = .spare ∨ roleOf s k = .spareTest) : spareLane u = spareLane s := by
  refine congrArg allLanes.find? (funext fun k => Bool.eq_iff_iff.2 ?_)
  simpa [roleOf] using h k

theorem roleOf_of_spareLane {s : State} {p : LaneId} (h : spareLane s = some p) : roleOf s p = .spare ∨ roleOf s p = .spareTest := by
  simpa [roleOf] using List.find?_some h

/-- A lane in resynchronisation that is halted again is no spare before and none after. -/
theorem spareLane_setRole_halted {s : State} {l : LaneId} (h : roleOf s l = .resync) : spareLane (setRole l .halted s) = spareLane s := by
  refine spareLane_congr fun k => ?_
  rw [roleOf_setRole]
  split
  · next hk => simp [hk, h]
  · rfl

/-! ### Restored, replaced, and restored again -/

theorem lanes_rebuildLane (l : LaneId) (s : State) : (rebuildLane l s).ctl.weave.lanes = vmod s.ctl.weave.lanes l fun x =>
    { x with haltCause := none, haltedIn := none, replaces := none, badCode := [], role := .joining } := by
  rw [rebuildLane, lanes_setRole]
  simp [onLane, onWeave, onSec, vmod]

/-- A lane whose memory is built anew joins; the other lanes stay as they are. -/
theorem rebuildLane_spec (l : LaneId) (s : State) : roleOf (rebuildLane l s) l = .joining ∧ (rebuildLane l s).sec.laneMem[l] = [] ∧
    (∀ k : LaneId, k ≠ l → (rebuildLane l s).ctl.weave.lanes[k] = s.ctl.weave.lanes[k]) ∧ (rebuildLane l s).img = s.img := by
  refine ⟨?_, ?_, fun k hk => ?_, (laneFrame_setRole ..).img⟩
  · simp [roleOf, lanes_rebuildLane]
  · simp [rebuildLane, onSec, onLane, onWeave]
  · simp only [lanes_rebuildLane, Fin.getElem_fin, vmod_getElem_ne _ _ hk]

theorem ctl_checkSpares (s : State) : (checkSpares s).ctl = s.ctl := by
  unfold checkSpares
  split <;> rfl

theorem lanes_replaceLane (l p : LaneId) (s : State) : (replaceLane l p s).ctl.weave.lanes =
    vmod (vmod (vmod (vmod s.ctl.weave.lanes l fun x => { x with due := false, replacements := x.replacements + 1 })
      p fun x => { x with replaces := some l }) l fun x => { x with role := .spareTest }) p fun x => { x with role := .loading } := by
  rw [replaceLane, ctl_checkSpares, lanes_setRole, lanes_setRole]
  simp only [onLane, onWeave, onCtl_ctl, onWear_ctl, stage_ctl, (roleFrame_abortBackground ..).ctl]

/-- The spare is loaded in the place of the lane, which becomes a spare to be tested. -/
theorem replaceLane_spec {l p : LaneId} (h : p ≠ l) (s : State) : roleOf (replaceLane l p s) l = .spareTest ∧
    roleOf (replaceLane l p s) p = .loading ∧ (replaceLane l p s).ctl.weave.lanes[p].replaces = some l := by
  refine ⟨?_, ?_, ?_⟩ <;> simp [roleOf, lanes_replaceLane, vmod_getElem_ne _ _ h, vmod_getElem_ne _ _ h.symm]

theorem lanes_beginResync (l : LaneId) (s : State) : (beginResync l s).ctl.weave.lanes =
    vmod s.ctl.weave.lanes l fun x => { x with resyncs := x.resyncs ++ [s.path.hours], role := .resync } := by
  rw [beginResync]
  split
  rw [lanes_setRole]
  simp [onLane, onWeave, vmod, stage]

/-- The restoration that failed with a spare at hand: the spare replaces the lane. -/
theorem resyncFailed_spare {s : State} {l p : LaneId} (hr : roleOf s l = .resync) (hp : spareLane s = some p) :
    roleOf (resyncFailed l s) l = .spareTest ∧ roleOf (resyncFailed l s) p = .loading ∧
      (resyncFailed l s).ctl.weave.lanes[p].replaces = some l ∧ (resyncFailed l s).img = s.img := by
  have apart : p ≠ l := by
    rintro rfl
    simpa [hr] using roleOf_of_spareLane hp
  have replaced : resyncFailed l s = replaceLane l p (setRole l .halted s) := by
    rw [resyncFailed, replaceDue, spareLane_setRole_halted hr, hp]
  obtain ⟨lane, spare, replaces⟩ := replaceLane_spec apart (setRole l .halted s)
  rw [replaced]
  exact ⟨lane, spare, replaces, ((laneFrame_setRole ..).trans (laneFrame_replaceLane ..)).img⟩

/-- The restoration that failed with no spare: the lane is due, and restored again. -/
theorem resyncFailed_no_spare {s : State} {l : LaneId} (hr : roleOf s l = .resync) (hp : spareLane s = none) :
    roleOf (resyncFailed l s) l = .resync ∧ (resyncFailed l s).ctl.weave.lanes[l].due = true ∧ (resyncFailed l s).img = s.img := by
  rw [resyncFailed, replaceDue, spareLane_setRole_halted hr, hp]
  refine ⟨?_, ?_, (laneFrame_beginResync ..).img.trans (laneFrame_setRole l .halted s).img⟩
  · simp [roleOf, lanes_beginResync]
  · simp [lanes_beginResync, onLane, onWeave]

section
variable {t : Nat} {l : LaneId} {s : State}

theorem leads_resyncComplete (hr : roleOf s l = .resync) (hw : wrongBlocks s l = []) : Leads (.resyncComplete t l) s fun s' =>
    roleOf s' l = .joining ∧ s'.sec.laneMem[l] = [] ∧ (∀ k : LaneId, k ≠ l → s'.ctl.weave.lanes[k] = s.ctl.weave.lanes[k]) ∧ s'.img = s.img := by
  have resync : roleOf (atTime t s) l = .resync := hr
  have right : wrongBlocks (atTime t s) l = [] := hw
  exact ⟨_, by simp [exec, execResyncComplete, resync, right], rebuildLane_spec l (atTime t s)⟩

theorem leads_spareLoadComplete (hr : roleOf s l = .loading) (hp : poisonedCode s = []) : Leads (.spareLoadComplete t l) s fun s' =>
    roleOf s' l = .joining ∧ s'.sec.laneMem[l] = [] ∧ (∀ k : LaneId, k ≠ l → s'.ctl.weave.lanes[k] = s.ctl.weave.lanes[k]) ∧ s'.img = s.img := by
  have verified : roleOf (atTime t s) l = .loading ∧ (poisonedCode (atTime t s)).isEmpty = true := ⟨hr, List.isEmpty_iff.2 hp⟩
  exact ⟨_, congrArg Host.Outcome.next (if_pos verified), rebuildLane_spec l (atTime t s)⟩

theorem exec_resyncComplete_of_wrong (hr : roleOf s l = .resync) (hw : wrongBlocks s l ≠ []) :
    exec (.resyncComplete t l) s = .next (resyncFailed l (atTime t s)) := by
  have resync : roleOf (atTime t s) l = .resync := hr
  have wrong : wrongBlocks (atTime t s) l ≠ [] := hw
  simp [exec, execResyncComplete, resync, wrong]

theorem exec_resyncTimeout (hr : roleOf s l = .resync) : exec (.resyncTimeout t l) s = .next (resyncFailed l (atTime t s)) :=
  congrArg Host.Outcome.next (if_pos hr)

end

end Sys2Proof.Machine
end

section
/-! The vote of the Weave on one entry position, lanes that differ or trail, and faults that a vote meets (R119, R123, R124, R126, R134). -/

namespace Sys2Proof.Machine
open Sys2Proof

theorem votable_single {s : State} {e : Exec} {k : TaskId} (hs : s.ctl.execs = [e]) (hk : e.task = k) (hp : lanesRun e.phase = true) :
    votable s k = [0] := by
  simp [votable, hs, hk, hp, List.range_succ]

/-! ### Entries that agree, R123 -/

theorem entriesAgree_iff {a b : Entry} : entriesAgree a b = true ↔ a.kind = b.kind ∧ a.seq = b.seq ∧ a.target = b.target ∧
    (a.kind = .sample ∨ a.mask = b.mask ∧ a.data = b.data ∧ a.record = b.record) := by
  simp [entriesAgree, and_assoc]

@[simp] theorem entriesAgree_self (a : Entry) : entriesAgree a a = true := by
  simp [entriesAgree]

theorem entriesAgree_comm (a b : Entry) : entriesAgree a b = entriesAgree b a := by
  have turn {a b : Entry} (h : entriesAgree a b = true) : entriesAgree b a = true := by
    obtain ⟨kind, seq, target, rest⟩ := entriesAgree_iff.1 h
    exact entriesAgree_iff.2 ⟨kind.symm, seq.symm, target.symm, rest.imp kind.symm.trans fun ⟨mask, data, record⟩ =>
      ⟨mask.symm, data.symm, record.symm⟩⟩
  exact Bool.eq_iff_iff.2 ⟨turn, turn⟩

/-- A lane that posted what has landed is first compared at the next position. -/
theorem firstMismatch_next {c : LaneCtx} {landed : List Entry} {a : Entry} (x : Entry) (hl : c.posted.take landed.length = landed)
    (ha : c.posted[landed.length]? = some a) :
    firstMismatch c (landed ++ [x]) landed.length = if entriesAgree a x then none else some landed.length := by
  unfold firstMismatch
  rw [List.range_succ, List.find?_append, List.find?_eq_none.2]
  · cases h : entriesAgree a x <;> simp [ha, h]
  · intro i hi
    have inside : i < landed.length := List.mem_range.1 hi
    have same : c.posted[i]? = some landed[i] := by
      rw [← List.getElem?_take_of_lt inside, hl, List.getElem?_eq_getElem inside]
    simp [same, List.getElem?_append_left inside, List.getElem?_eq_getElem inside]

/-! ### A lane that halts, R124 and R126 -/

/-- A lane's context once the lane has been halted. -/
def haltedCtx (l : LaneId) (cause : HaltCause) (c : LaneCtx) : LaneCtx :=
  if c.lane = l ∧ c.halted = none then { c with halted := some cause, waiting := none } else c

/-- An execution once one of the lanes has been halted. -/
def haltedExec (l : LaneId) (cause : HaltCause) (e : Exec) : Exec := { e with lanes := e.lanes.map (haltedCtx l cause) }

theorem takingPart_haltedExec (l : LaneId) (cause : HaltCause) (e : Exec) :
    takingPart (haltedExec l cause e) = (takingPart e).filter fun c => c.lane != l := by
  simp only [takingPart, haltedExec]
  induction e.lanes with
  | nil => rfl
  | cons c cs ih =>
    by_cases hl : c.lane = l <;> cases hh : c.halted <;> simp [haltedCtx, hl, hh, ih]

theorem execs_haltLane (i : Nat) (l : LaneId) (cause : HaltCause) (pos : Nat) (s : State) :
    (haltLane i l cause pos s).ctl.execs = s.ctl.execs.map (haltedExec l cause) :=
  congrArg (List.map (haltedExec l cause)) (laneFrame_setRole ..).execs_eq

theorem img_haltLane (i : Nat) (l : LaneId) (cause : HaltCause) (pos : Nat) (s : State) : (haltLane i l cause pos s).img = s.img :=
  (laneFrame_setRole ..).img

theorem lanes_haltLane (i : Nat) (l : LaneId) (cause : HaltCause) (pos : Nat) (s : State) : (haltLane i l cause pos s).ctl.weave.lanes =
    vmod s.ctl.weave.lanes l fun x =>
      { x with haltCause := some cause, haltedIn := (s.ctl.execs[i]?).map fun e => (e.task, e.tick, pos), role := .halted } := by
  refine (lanes_setRole ..).trans ?_
  simp [onLane, onWeave, vmod]

theorem roleOf_haltLane (i : Nat) (l k : LaneId) (cause : HaltCause) (pos : Nat) (s : State) :
    roleOf (haltLane i l cause pos s) k = if k = l then .halted else roleOf s k := by
  unfold roleOf
  rw [lanes_haltLane]
  split
  · next hk => simp [hk]
  · next hk => simp only [Fin.getElem_fin, vmod_getElem_ne _ _ hk]

theorem lates_haltLane (i : Nat) (l : LaneId) (pos : Nat) (s : State) :
    (haltLane i l .late pos s).wear.lanes[l].lates = sat32 (s.wear.lanes[l].lates + 1) := by
  simp [haltLane, onExecs, onWear, onLane, onWeave]

/-- Where three distinct lanes take part, two are left when one of them halts. -/
theorem takingPart_haltedExec_length {e : Exec} (l : LaneId) (cause : HaltCause) (hd : (e.lanes.map fun c => c.lane).Nodup)
    (h3 : 3 ≤ (takingPart e).length) : 2 ≤ (takingPart (haltedExec l cause e)).length := by
  have once : (takingPart e).countP (fun c => c.lane == l) ≤ 1 := by
    have distinct : ((takingPart e).map fun c => c.lane).Nodup := hd.sublist (List.filter_sublist.map _)
    have count := List.nodup_iff_count_le_one.1 distinct l
    rwa [List.count, List.countP_map] at count
  have split := List.length_eq_countP_add_countP (fun c : LaneCtx => c.lane == l) (l := takingPart e)
  rw [takingPart_haltedExec, ← List.countP_eq_length_filter]
  have same : (takingPart e).countP (fun c => c.lane != l) = (takingPart e).countP fun c => decide ¬ (c.lane == l) = true :=
    List.countP_congr fun c _ => by simp
  omega

/-! ### What the steps of a vote do to one running execution -/

theorem lanesShort_eq_false {e : Exec} (h : 2 ≤ (takingPart e).length) : lanesShort e = false := by
  have enough : ¬ (takingPart e).length < if e.uncompared then 1 else 2 := by
    split <;> omega
  simp [lanesShort, enough]

theorem checkLanes_of_two {s : State} {e : Exec} (hs : s.ctl.execs = [e]) (h : 2 ≤ (takingPart e).length) : checkLanes s = s := by
  simp [checkLanes, hs, lanesShort_eq_false h]

theorem settleTrailing_of_running {s : State} {i p : Nat} {e : Exec} (he : s.ctl.execs[i]? = some e) (hp : e.phase = .running) :
    settleTrailing i p s = s := by
  simp [settleTrailing, he, hp]

/-- An execution in which one more entry has landed. -/
def landedExec (x : Entry) (e : Exec) : Exec := { e with landed := e.landed ++ [x] }

theorem ctl_landPending (n : Nat) (v : W64) (tick : Nat) (s : State) : (landPending n v tick s).ctl = s.ctl := by
  unfold landPending
  split <;> rfl

/-- What lands goes to the execution, and to the image, not to the rest of control. -/
theorem ctl_landEntry (i tick : Nat) (x : Entry) (s : State) : (landEntry i tick x s).ctl = (onExecs (lmod i (landedExec x)) s).ctl := by
  unfold landEntry
  dsimp only
  split
  · exact ctl_landPending ..
  · rfl

theorem execs_landEntry_single {s : State} {e : Exec} (hs : s.ctl.execs = [e]) (tick : Nat) (x : Entry) :
    (landEntry 0 tick x s).ctl.execs = [landedExec x e] := by
  rw [ctl_landEntry, onExecs, onCtl_ctl, hs]
  rfl

theorem noteCompared_single {s : State} {e : Exec} (hs : s.ctl.execs = [e]) (p : Nat) :
    ∃ m, (noteCompared 0 p s).ctl.execs = [{ e with compared := m }] := by
  rw [noteCompared, onExecs, onCtl_ctl, hs]
  exact ⟨_, rfl⟩

/-- Where the execution runs on with two lanes, the vote ends with the note of what has been compared. -/
theorem voteAt_of_running {s u : State} {p : Nat} {e : Exec} (hu : haltMismatch 0 p (voteNext 0 p (haltStalled 0 s)) = u)
    (he : u.ctl.execs = [e]) (hp : e.phase = .running) (h2 : 2 ≤ (takingPart e).length) : voteAt 0 p s = noteCompared 0 p u := by
  obtain ⟨m, noted⟩ := noteCompared_single he p
  rw [voteAt, hu, checkLanes_of_two noted h2]
  exact settleTrailing_of_running (e := { e with compared := m }) (by rw [noted]; rfl) hp

/-! ### The vote of three lanes, R119, R123 and R124 -/

/-- Three lanes run the execution, have posted alike what has landed, and each has posted an entry for the next position. -/
structure Polled (e : Exec) (a b c : LaneCtx) (x y z : Entry) : Prop where
  running : e.phase = .running
  voted : e.uncompared = false
  lanes : e.lanes = [a, b, c]
  ab : a.lane ≠ b.lane
  ac : a.lane ≠ c.lane
  bc : b.lane ≠ c.lane
  unhalted : ∀ q ∈ e.lanes, q.halted = none
  unstalled : ∀ q ∈ e.lanes, q.stalled = false
  alike : ∀ q ∈ e.lanes, q.posted.take e.landed.length = e.landed
  first : a.posted[e.landed.length]? = some x
  second : b.posted[e.landed.length]? = some y
  third : c.posted[e.landed.length]? = some z

section
variable {s : State} {e : Exec} {a b c : LaneCtx} {x y z : Entry} (hs : s.ctl.execs = [e]) (h : Polled e a b c x y z)

include h

theorem Polled.takingPart_eq : takingPart e = [a, b, c] := by
  rw [takingPart, List.filter_eq_self.2 fun q hq => by simp [h.unhalted q hq], h.lanes]

theorem Polled.distinct : (e.lanes.map fun q => q.lane).Nodup := by
  simp [h.lanes, h.ab, h.ac, h.bc]

theorem Polled.taking_landed : (takingPart (landedExec x e)).length = 3 := congrArg List.length h.takingPart_eq

theorem Polled.majority_of_agree (hxy : entriesAgree x y = true) : majority e e.landed.length = some x := by
  simp [majority, h.voted, h.takingPart_eq, h.first, h.second, h.third, hxy]

theorem Polled.majority_of_differ (hxy : entriesAgree x y = false) (hxz : entriesAgree x z = false) (hyz : entriesAgree y z = false) :
    majority e e.landed.length = none := by
  simp [majority, h.voted, h.takingPart_eq, h.first, h.second, h.third, hxy, hxz, hyz, entriesAgree_comm y x, entriesAgree_comm z x,
    entriesAgree_comm z y]

/-- With one lane of three halted, the two others are left. -/
theorem Polled.halted_third : (haltedExec c.lane .mismatch (landedExec x e)).lanes.map (fun q => q.halted) = [none, none, some .mismatch] := by
  have unhalted (q : LaneCtx) (hq : q ∈ [a, b, c]) : q.halted = none := h.unhalted q (h.lanes ▸ hq)
  simp [haltedExec, landedExec, h.lanes, haltedCtx, h.ac, h.bc, unhalted]

include hs

theorem Polled.haltStalled_eq : haltStalled 0 s = s :=
  haltStalled_of_none (e := e) (by simp [hs]) fun q hq => h.unstalled q (List.mem_of_mem_filter hq)

theorem Polled.voteNext_of_agree (hxy : entriesAgree x y = true) : voteNext 0 e.landed.length s = landEntry 0 e.tick x s := by
  simp [voteNext, hs, h.running, h.majority_of_agree hxy]

theorem Polled.voteNext_of_differ (hxy : entriesAgree x y = false) (hxz : entriesAgree x z = false) (hyz : entriesAgree y z = false) :
    voteNext 0 e.landed.length s = disagreement e s := by
  obtain ⟨ha, -⟩ := List.getElem?_eq_some_iff.1 h.first
  obtain ⟨hb, -⟩ := List.getElem?_eq_some_iff.1 h.second
  obtain ⟨hc, -⟩ := List.getElem?_eq_some_iff.1 h.third
  simp [voteNext, hs, h.running, h.majority_of_differ hxy hxz hyz, allPosted, h.takingPart_eq, ha, hb, hc]

/-- The first two lanes posted what landed; the third is halted where it differs. -/
theorem Polled.haltMismatch_eq (hxy : entriesAgree x y = true) : haltMismatch 0 e.landed.length (landEntry 0 e.tick x s) =
    if entriesAgree z x then landEntry 0 e.tick x s else haltLane 0 c.lane .mismatch e.landed.length (landEntry 0 e.tick x s) := by
  have first := firstMismatch_next x (h.alike a (by simp [h.lanes])) h.first
  have second := firstMismatch_next x (h.alike b (by simp [h.lanes])) h.second
  have third := firstMismatch_next x (h.alike c (by simp [h.lanes])) h.third
  rw [entriesAgree_self, if_pos rfl] at first
  rw [entriesAgree_comm, hxy, if_pos rfl] at second
  have taking : takingPart (landedExec x e) = [a, b, c] := h.takingPart_eq
  have landed : (landedExec x e).landed = e.landed ++ [x] := rfl
  have voted : (landedExec x e).uncompared = false := h.voted
  unfold haltMismatch
  rw [execs_landEntry_single hs]
  simp only [List.getElem?_cons_zero, voted, taking, landed, List.foldl_cons, List.foldl_nil, first, second, third, Bool.false_eq_true, if_false]
  cases entriesAgree z x <;> rfl

theorem Polled.voteAt_agreed (hxy : entriesAgree x y = true) (hzx : entriesAgree z x = true) :
    (voteAt 0 e.landed.length s).ctl.weave = s.ctl.weave ∧
      ∃ m, (voteAt 0 e.landed.length s).ctl.execs = [{ landedExec x e with compared := m }] := by
  have settled : haltMismatch 0 e.landed.length (voteNext 0 e.landed.length (haltStalled 0 s)) = landEntry 0 e.tick x s := by
    rw [h.haltStalled_eq hs, h.voteNext_of_agree hs hxy, h.haltMismatch_eq hs hxy, hzx, if_pos rfl]
  have execs := execs_landEntry_single hs e.tick x
  have enough : 2 ≤ (takingPart (landedExec x e)).length := by
    rw [h.taking_landed]
    decide
  rw [voteAt_of_running settled execs h.running enough]
  have weave : (landEntry 0 e.tick x s).ctl.weave = s.ctl.weave := by
    rw [ctl_landEntry]
    rfl
  exact ⟨weave, noteCompared_single execs _⟩

theorem Polled.voteAt_outvoted (hxy : entriesAgree x y = true) (hzx : entriesAgree z x = false) :
    (∀ l, roleOf (voteAt 0 e.landed.length s) l = if l = c.lane then .halted else roleOf s l) ∧
      ∃ m, (voteAt 0 e.landed.length s).ctl.execs = [{ haltedExec c.lane .mismatch (landedExec x e) with compared := m }] := by
  have settled : haltMismatch 0 e.landed.length (voteNext 0 e.landed.length (haltStalled 0 s)) =
      haltLane 0 c.lane .mismatch e.landed.length (landEntry 0 e.tick x s) := by
    rw [h.haltStalled_eq hs, h.voteNext_of_agree hs hxy, h.haltMismatch_eq hs hxy, hzx]
    rfl
  have execs : (haltLane 0 c.lane .mismatch e.landed.length (landEntry 0 e.tick x s)).ctl.execs =
      [haltedExec c.lane .mismatch (landedExec x e)] := by
    rw [execs_haltLane, execs_landEntry_single hs]
    rfl
  have enough : 2 ≤ (takingPart (haltedExec c.lane .mismatch (landedExec x e))).length :=
    takingPart_haltedExec_length c.lane .mismatch h.distinct h.taking_landed.ge
  rw [voteAt_of_running settled execs h.running enough]
  refine ⟨fun l => (roleOf_haltLane 0 c.lane l .mismatch e.landed.length (landEntry 0 e.tick x s)).trans ?_, noteCompared_single execs _⟩
  rw [roleOf, roleOf, ctl_landEntry]
  rfl

end

/-! ### Faults that a vote meets, R124, R125, R134 -/

/-- A fault of an active without a standby: it stops, and the fault shows. -/
theorem moduleFault_alone {s : State} (c : FaultCause) (hm : s.mod.state = .active) (hh : s.tow.handoverSent = none)
    (hp : partnerStandby s = false) : (moduleFault c s).mod.state = .stoppedFault ∧ (moduleFault c s).mod.fault = c ∧
      (moduleFault c s).img.epoch = s.img.epoch ∧ (moduleFault c s).ctl.execs = [] := by
  have stops : moduleFault c s = safeStages (sendSafe (stopFaulted (setFault c s))) := by
    simp [moduleFault, hm, handingOver, hh, hp]
  obtain ⟨epoch, state, fault, execs, -, -⟩ := stopFaulted_spec (setFault c s)
  obtain ⟨sends, -, -⟩ := sendSafe_spec (stopFaulted (setFault c s))
  rw [stops]
  exact ⟨(congrArg Mod.state sends.mod).trans state, (congrArg Mod.fault sends.mod).trans fault,
    (congrArg Image.epoch sends.img).trans epoch, (congrArg Control.execs sends.ctl).trans execs⟩

/-- Nothing is left to vote on where the module has stopped. -/
theorem voteAt_of_stopped {s u : State} {p : Nat} (hu : voteNext 0 p (haltStalled 0 s) = u) (he : u.ctl.execs = []) :
    voteAt 0 p s = noteCompared 0 p u := by
  have noted : (noteCompared 0 p u).ctl.execs = [] := by
    rw [noteCompared, onExecs, onCtl_ctl, he]
    rfl
  have unhalted : haltMismatch 0 p u = u := by simp [haltMismatch, he]
  have checked : checkLanes (noteCompared 0 p u) = noteCompared 0 p u := by simp [checkLanes, noted]
  rw [voteAt, hu, unhalted, checked]
  simp [settleTrailing, noted]

theorem uncorrectable_uncountRestore (l : LaneId) (s : State) : (uncountRestore l s).ctl.weave.uncorrectable = s.ctl.weave.uncorrectable := by
  unfold uncountRestore
  split
  · rfl
  · split <;> rfl
  · rfl

theorem uncorrectable_uncomparedRun (s : State) : (uncomparedRun s).ctl.weave.uncorrectable = s.ctl.weave.uncorrectable := by
  unfold uncomparedRun
  split
  · rfl
  · refine foldl_reads (F := fun s => s.ctl.weave.uncorrectable) (fun s x => ?_) ..
    split
    · rfl
    · exact (uncorrectable_setRole ..).trans (uncorrectable_uncountRestore ..)

/-- Cause 1 of a fault of the Weave is an uncorrectable error, and the Weave remembers it. -/
theorem uncorrectable_weaveFault (lane bit : Nat) (s : State) : (weaveFault 1 lane bit s).ctl.weave.uncorrectable = true := by
  unfold weaveFault
  dsimp only
  split
  · rw [weave_moduleFault]
    simp [onWeave]
  · rw [uncorrectable_uncomparedRun]
    simp [onWeave]

/-! ### The events -/

section
variable {t : Nat} {k : TaskId} {s : State} {e : Exec} (hs : s.ctl.execs = [e]) (hk : e.task = k)
include hs hk

theorem exec_weaveVote (hp : lanesRun e.phase = true) (p : Nat) : exec (.weaveVote t k p .none) s = .next (voteAt 0 p (atTime t s)) := by
  have votes : votable (atTime t s) k = [0] := votable_single hs hk hp
  simp [exec, execWeaveVote, votes]

theorem leads_weaveVote_uncorrectable (hp : lanesRun e.phase = true) (p : Nat) : Leads (.weaveVote t k p .uncorrectable) s fun s' =>
    s'.ctl.weave.comparatorFault = true ∧ s'.ctl.weave.uncorrectable = true := by
  have votes : votable (atTime t s) k = [0] := votable_single hs hk hp
  exact ⟨voteFault 1 (atTime t s), by simp [exec, execWeaveVote, votes], comparatorFault_weaveFault .., uncorrectable_weaveFault ..⟩

section
variable {a b c : LaneCtx} {x y z : Entry} (h : Polled e a b c x y z)
include h

theorem leads_weaveVote_agree (hxy : entriesAgree x y = true) : Leads (.weaveVote t k e.landed.length .none) s fun s' =>
    ∃ e', s'.ctl.execs = [e'] ∧ e'.landed = e.landed ++ [x] ∧ (entriesAgree z x = true → e'.lanes = e.lanes ∧ s'.ctl.weave = s.ctl.weave) ∧
      (entriesAgree z x = false → roleOf s' c.lane = .halted ∧ roleOf s' a.lane = roleOf s a.lane ∧
        roleOf s' b.lane = roleOf s b.lane ∧ e'.lanes.map (fun q => q.halted) = [none, none, some .mismatch]) := by
  refine ⟨_, exec_weaveVote hs hk (by rw [h.running]; rfl) _, ?_⟩
  cases hzx : entriesAgree z x with
  | true =>
    obtain ⟨weave, m, execs⟩ := h.voteAt_agreed (s := atTime t s) hs hxy hzx
    exact ⟨_, execs, rfl, fun _ => ⟨rfl, weave⟩, nofun⟩
  | false =>
    obtain ⟨roles, m, execs⟩ := h.voteAt_outvoted (s := atTime t s) hs hxy hzx
    exact ⟨_, execs, rfl, nofun, fun _ =>
      ⟨(roles _).trans (if_pos rfl), (roles _).trans (if_neg h.ac), (roles _).trans (if_neg h.bc), h.halted_third⟩⟩

theorem leads_weaveVote_differ (hxy : entriesAgree x y = false) (hxz : entriesAgree x z = false) (hyz : entriesAgree y z = false)
    (hm : s.mod.state = .active) (hh : s.tow.handoverSent = none) (hp : partnerStandby s = false) :
    Leads (.weaveVote t k e.landed.length .none) s fun s' => s'.mod.state = .stoppedFault ∧ s'.mod.fault = .laneDisagreement ∧
      s'.img.epoch = s.img.epoch := by
  have disagrees : voteNext 0 e.landed.length (haltStalled 0 (atTime t s)) = disagreement e (atTime t s) := by
    rw [h.haltStalled_eq (s := atTime t s) hs, h.voteNext_of_differ (s := atTime t s) hs hxy hxz hyz]
  obtain ⟨state, fault, epoch, execs⟩ := moduleFault_alone (s := stage 0x0505 srcModule
    ([byteOf e.task.val] ++ le8 e.tick ++ [byteOf (takingPart e).length]) (atTime t s)) .laneDisagreement hm hh hp
  refine ⟨_, exec_weaveVote hs hk (by rw [h.running]; rfl) _, ?_⟩
  rw [voteAt_of_stopped disagrees execs]
  exact ⟨state, fault, epoch⟩

end

/-- A lane that trails where three take part is halted as late, and the others go on. -/
theorem leads_laneTrailTimeout {l : LaneId} (hp : e.phase = .running) (hd : (e.lanes.map fun c => c.lane).Nodup)
    (h3 : 3 ≤ (takingPart e).length) (ht : trailing s t l e = true) : Leads (.laneTrailTimeout t k l) s fun s' =>
      roleOf s' l = .halted ∧ s'.ctl.weave.lanes[l].haltCause = some .late ∧
        s'.wear.lanes[l].lates = sat32 (s.wear.lanes[l].lates + 1) ∧ s'.img = s.img := by
  have votes : votable (atTime t s) k = [0] := votable_single hs hk (by rw [hp]; rfl)
  have trails : trailing (atTime t s) t l e = true := ht
  have halted (pos : Nat) : (haltLane 0 l .late pos (atTime t s)).ctl.execs = [haltedExec l .late e] := by
    rw [execs_haltLane, atTime_ctl, hs]
    rfl
  have settled (p pos : Nat) : settleTrailing 0 p (checkLanes (haltLane 0 l .late pos (atTime t s))) = haltLane 0 l .late pos (atTime t s) := by
    rw [checkLanes_of_two (halted pos) (takingPart_haltedExec_length l .late hd h3)]
    exact settleTrailing_of_running (e := haltedExec l .late e) (by rw [halted]; rfl) hp
  have halts : ∃ pos, exec (.laneTrailTimeout t k l) s = .next (haltLane 0 l .late pos (atTime t s)) :=
    ⟨_, by simp only [exec, execLaneTrailTimeout, votes, atTime_ctl, hs, List.getElem?_cons_zero, List.find?_cons, trails, settled]; rfl⟩
  obtain ⟨pos, runs⟩ := halts
  refine ⟨_, runs, ?_, ?_, lates_haltLane .., img_haltLane ..⟩
  · exact (roleOf_haltLane ..).trans (if_pos rfl)
  · simp [lanes_haltLane]

end

end Sys2Proof.Machine
end

section
/-! The value that the lanes take from an AGREE (R85, R92, R128). -/

namespace Sys2Proof.Machine
open Sys2Proof

/-! ### The value that the samples form -/

section
variable {ty : ValType}

theorem agreeOf_one (x : W64) : agreeOf ty [x] = x := by
  simp [agreeOf]

theorem agreeOf_two (x y : W64) : agreeOf ty [x, y] = if sampleLe ty x y then x else y := by
  cases h : sampleLe ty x y <;> simp [agreeOf, h]

/-- Of three samples the one between: the first two as they stand, and the third against the lower or the higher. -/
theorem agreeOf_three (x y z : W64) : agreeOf ty [x, y, z] =
    if sampleLe ty y z then if sampleLe ty x y then y else if sampleLe ty x z then x else z
    else if sampleLe ty x z then z else if sampleLe ty x y then x else y := by
  cases hyz : sampleLe ty y z <;> cases hxy : sampleLe ty x y <;> cases hxz : sampleLe ty x z <;>
    simp [agreeOf, hyz, hxy, hxz]

theorem sampleLe_of_not_real (h : isRealType ty = false) (x y : W64) : sampleLe ty x y = decide (intOf ty x ≤ intOf ty y) := by
  have order : compareVals ty x y = some (compare (intOf ty x) (intOf ty y)) := by simp [compareVals, h]
  rw [sampleLe, order]
  cases c : compare (intOf ty x) (intOf ty y) with
  | lt => simp [(compare_lt_iff_lt.1 c).le]
  | eq => simp [compare_eq_iff_eq.1 c]
  | gt => simp [compare_gt_iff_gt.1 c]

theorem eq_nan_of_isNan {v : FVal} (h : v.isNan = true) : v = .nan := by
  cases v with
  | nan => rfl
  | inf | fin => cases h

/-- A NaN stands above every number (R92). -/
theorem sampleLe_nan {x y : W64} (h : isRealType ty = true) (hy : (realOf ty y).isNan = true) (hx : (realOf ty x).isNan = false) :
    sampleLe ty x y = true ∧ sampleLe ty y x = false := by
  have unordered : compareVals ty x y = none ∧ compareVals ty y x = none := by
    simp only [compareVals, h, eq_nan_of_isNan hy, if_true]
    cases realOf ty x <;> exact ⟨rfl, rfl⟩
  simp [sampleLe, unordered, h, hx, hy]

/-- The values that one, two and three samples form. -/
theorem agreeOf_spec (ty : ValType) (x y z : W64) : agreeOf ty [x] = x ∧
    (isRealType ty = false → agreeOf ty [x, y] = (if intOf ty x ≤ intOf ty y then x else y) ∧
      intOf ty (agreeOf ty [x, y, z]) = max (min (intOf ty x) (intOf ty y)) (min (max (intOf ty x) (intOf ty y)) (intOf ty z))) ∧
    (isRealType ty = true → (realOf ty y).isNan = true → (realOf ty x).isNan = false → agreeOf ty [x, y] = x ∧ agreeOf ty [y, x] = x) := by
  refine ⟨agreeOf_one x, fun h => ⟨?two, ?three⟩, fun h hy hx => ?nan⟩
  case two => simp [agreeOf_two, sampleLe_of_not_real h]
  case three =>
    simp only [agreeOf_three, sampleLe_of_not_real h, decide_eq_true_eq, apply_ite (intOf ty)]
    omega
  case nan =>
    obtain ⟨below, above⟩ := sampleLe_nan h hy hx
    simp [agreeOf_two, below, above]

end

/-! ### The lanes leave their AGREE -/

theorem takeAgreed_bit {v : W64} {q : LaneCtx} {src : Nat} {d : Fin 16} (h : q.waiting = some (src, 1, d)) :
    takeAgreed v q = { q with waiting := none, acc := v.getLsbD 0, fc := false } := by
  simp [takeAgreed, h]

theorem takeAgreed_word {v : W64} {q : LaneCtx} {src : Nat} {m : BitVec 4} {d : Fin 16} (hm : m ≠ 1) (h : q.waiting = some (src, m, d)) :
    takeAgreed v q = { q with waiting := none, w := q.w.set d v } := by
  simp only [takeAgreed, h, if_neg hm]

/-- The execution whose lanes have left an AGREE. -/
def agreedExec (source : Nat) (v : W64) (e : Exec) : Exec :=
  { e with lanes := e.lanes.map (takeAgreed v), agreed := e.agreed ++ [(source, v)], agreeSince := none }

/-- The value reaches the execution's lanes, and the image is left alone, whether or not the standby is told. -/
theorem giveAgreed_spec {i source : Nat} {v : W64} {s : State} {e : Exec} (he : s.ctl.execs[i]? = some e) :
    (giveAgreed i source v s).img = s.img ∧ (giveAgreed i source v s).ctl.execs = lmod i (agreedExec source v) s.ctl.execs := by
  unfold giveAgreed
  rw [he]
  dsimp only
  split <;> exact ⟨rfl, rfl⟩

section
variable {t : Nat} {k : TaskId} {s : State} {e : Exec} {c : LaneCtx} {rest : List LaneCtx} {source : Nat} {m : BitVec 4}
    {d : Fin 16} (hs : s.ctl.execs = [e]) (hk : e.task = k) (hp : lanesRun e.phase = true) (hr : agreeReady e = true)
    (hc : takingPart e = c :: rest) (hw : c.waiting = some (source, m, d)) (hsh : e.shadow = false)
include hs hk hp hr hc hw hsh

theorem exec_agreeValueFormed :
    exec (.agreeValueFormed t k) s =
      .next (giveAgreed 0 source (agreeOf ((typeOf m.toNat).getD .bool) (samplesOf e e.agreed.length)) (atTime t s)) := by
  have votes : votable (atTime t s) k = [0] := votable_single hs hk hp
  simp [exec, execAgreeValueFormed, votes, hs, hr, hc, hw, hsh]

theorem leads_agreeValueFormed :
    Leads (.agreeValueFormed t k) s fun s' => s'.img = s.img ∧
      (let v := agreeOf ((typeOf m.toNat).getD .bool) (samplesOf e e.agreed.length)
       ∃ e', s'.ctl.execs = [e'] ∧ e'.agreed = e.agreed ++ [(source, v)] ∧ e'.lanes.length = e.lanes.length ∧
        ∀ (j : Nat) (q q' : LaneCtx), e.lanes[j]? = some q → e'.lanes[j]? = some q' → ∀ src d',
          (q.waiting = some (src, 1, d') → q' = { q with waiting := none, acc := v.getLsbD 0, fc := false }) ∧
          (∀ n, n ≠ 1 → q.waiting = some (src, n, d') → q' = { q with waiting := none, w := q.w.set d' v })) := by
  obtain ⟨img, execs⟩ := giveAgreed_spec (s := atTime t s) (i := 0) (source := source)
    (v := agreeOf ((typeOf m.toNat).getD .bool) (samplesOf e e.agreed.length)) (e := e) (by simp [hs])
  rw [atTime_ctl, hs] at execs
  refine ⟨_, exec_agreeValueFormed hs hk hp hr hc hw hsh, img, _, execs, rfl, List.length_map .., fun j q q' hq hq' src d' => ?_⟩
  obtain rfl : takeAgreed _ q = q' := by simpa [agreedExec, hq] using hq'
  exact ⟨takeAgreed_bit, fun n => takeAgreed_word⟩

end

/-- Settles O22: each event is followed through its operation, with the vote of three lanes by what the two that agree have posted. -/
theorem weaveVotes : Obligations.WeaveVotes := by
  refine ⟨?votes, ⟨?trails, ?agrees, agreeOf_spec⟩, ?returns⟩
  case votes =>
    intro t k s e a b c x y z hs hk hp hu hl hab hac hbc hgo hx hy hz
    obtain ⟨unhalted, unstalled, alike⟩ : _ ∧ _ ∧ _ := by simpa only [forall₂_and] using hgo
    have polled : Polled e a b c x y z := ⟨hp, hu, hl, hab, hac, hbc, unhalted, unstalled, alike, hx, hy, hz⟩
    exact ⟨leads_weaveVote_agree hs hk polled, leads_weaveVote_differ hs hk polled, leads_weaveVote_uncorrectable hs hk (by rw [hp]; rfl) _⟩
  case trails => exact fun t k l s e hs hk => leads_laneTrailTimeout hs hk
  case agrees => exact fun t k s e c rest source m d => leads_agreeValueFormed
  case returns =>
    intro t l s
    refine ⟨leads_resyncComplete, leads_spareLoadComplete, fun p hr hw hp => ?wrong, fun p hr hp => ?late, fun hr hp => ?alone⟩
    case wrong =>
      obtain ⟨lane, spare, -, img⟩ := resyncFailed_spare (s := atTime t s) hr hp
      exact ⟨_, exec_resyncComplete_of_wrong hr hw, lane, spare, img⟩
    case late => exact ⟨_, exec_resyncTimeout hr, resyncFailed_spare (s := atTime t s) hr hp⟩
    case alone => exact ⟨_, exec_resyncTimeout hr, resyncFailed_no_spare (s := atTime t s) hr hp⟩

end Sys2Proof.Machine
end

section
/-! The module as it leaves the factory: what every element of each bank of its state holds, and the role of each lane. -/

namespace Sys2Proof.Machine
open Sys2Proof

@[simp] theorem mailboxes_reset (n : Fin 8) : State.reset.keeper.mailboxes[n] = Mailbox.reset :=
  Vector.getElem_replicate n.isLt

@[simp] theorem ports_reset (p : Fin 3) : State.reset.sw.ports[p] = Port.reset :=
  Vector.getElem_replicate p.isLt

@[simp] theorem dio_reset (c : Fin 16) : State.reset.field.dio[c] = Dio.reset :=
  Vector.getElem_replicate c.isLt

@[simp] theorem aio_reset (c : Fin 8) : State.reset.field.aio[c] = Aio.reset :=
  Vector.getElem_replicate c.isLt

@[simp] theorem fi_reset (c : Fin 4) : State.reset.field.fi[c] = Fi.reset :=
  Vector.getElem_replicate c.isLt

@[simp] theorem fo_reset (c : Fin 4) : State.reset.field.fo[c] = Fo.reset :=
  Vector.getElem_replicate c.isLt

/-- R121. -/
theorem laneRoles_reset (l : LaneId) : State.reset.ctl.weave.lanes[l].role = if l = 3 then .spare else .active := by
  fin_cases l <;> rfl

/-- R143. -/
theorem towLanes_reset (sl : Fin 3) : State.reset.tow.lanes[sl] = if sl = 2 then .spare else .carrying := by
  fin_cases sl <;> rfl

/-- Settles O2: single registers are read off the reset state, the banks through the value that each of their elements holds. -/
theorem resetValues : Obligations.ResetValues := by
  unfold Obligations.ResetValues
  dsimp only
  refine ⟨rfl, rfl, rfl, rfl, rfl, rfl, fun n => ?mailbox, laneRoles_reset, towLanes_reset, rfl, fun p => ?port,
    fun c => ?dio, fun c => ?aio, fun c => ?fast, rfl, rfl⟩
  case mailbox => rw [mailboxes_reset]; exact ⟨rfl, rfl⟩
  case port => rw [ports_reset]; rfl
  case dio => rw [dio_reset]; exact ⟨rfl, rfl⟩
  case aio => rw [aio_reset]; exact ⟨rfl, rfl⟩
  case fast => rw [fi_reset, fo_reset]; exact ⟨rfl, rfl⟩

end Sys2Proof.Machine
end

section
/-! No command lowers the highest claim that the module has seen (R163, R164, R364). -/

namespace Sys2Proof.Machine
open Sys2Proof

/-- An access of the debug port that completes is sound wherever it lies. -/
theorem sound_of_exec_memRead {t a n : Nat} {space : MemSpace} {s s' : State} (h : exec (.memRead t space a n) s = .next s') : Sound s s' := by
  simp only [exec, execMemRead] at h
  split at h
  · cases h
  · cases h
    exact jtag_sound _ _ _ (fun _ => readSpace_sound _ _ _ _) (.refl s)

theorem sound_of_exec_memWrite {t a : Nat} {space : MemSpace} {bs : List Byte} {s s' : State} (h : exec (.memWrite t space a bs) s = .next s') :
    Sound s s' := by
  simp only [exec, execMemWrite] at h
  split at h
  · cases h
  · cases h
    exact jtag_sound _ _ _ (fun _ h => writeSpace_sound _ _ _ _ (taint_sound _ h)) (.refl s)

/-- A command that completes keeps what every operation keeps. -/
theorem sound_of_exec {c : Instr} {s s' : State} (h : exec c s = .next s') : Sound s s' := by
  by_cases debug : (∃ t space a n, c = .memRead t space a n) ∨ ∃ t space a bs, c = .memWrite t space a bs
  · obtain ⟨t, space, a, n, rfl⟩ | ⟨t, space, a, bs, rfl⟩ := debug
    · exact sound_of_exec_memRead h
    · exact sound_of_exec_memWrite h
  · obtain ⟨u, completes, sound⟩ := leads_sound c s (fun t a n e => absurd (.inl ⟨t, .basin, a, n, e⟩) debug)
      fun t a bs e => absurd (.inr ⟨t, .basin, a, bs, e⟩) debug
    obtain rfl : u = s' := by simpa [completes] using h
    exact sound

/-- Settles O5: a step idles, or runs a command, and a command that completes is sound. -/
theorem highestClaimNeverFalls : Obligations.HighestClaimNeverFalls := by
  intro s s' h
  cases hq : s.pending with
  | nil =>
    obtain rfl : s = s' := by simpa [step, hq] using h
    exact Nat.le_refl _
  | cons c rest =>
    have runs : exec c (s.withPending rest) = .next s' := by simpa only [step, hq] using h
    exact (sound_of_exec runs).claim

end Sys2Proof.Machine
end

section
/-! The stages of a planned switch: it waits for a point at which no task executes, then for the module's barges to leave, and hands over
(R162, R175, R176). -/

namespace Sys2Proof.Machine
open Sys2Proof

/-- A switch that is given up leaves the module in its role under its claim. -/
theorem endSwitch_gives_up (status : Nat) (cause : SwitchCause) (s : State) : (endSwitch status cause s).tow.switch = none ∧
    (endSwitch status cause s).tow.handoverSent = s.tow.handoverSent ∧ (endSwitch status cause s).mod.state = s.mod.state ∧
    (endSwitch status cause s).pair.claim = s.pair.claim := by
  have role := rolePart_endSwitch status cause s
  exact ⟨congrArg RolePart.switch role, congrArg RolePart.sent role, congrArg RolePart.state role, congrArg RolePart.claim role⟩

section
variable {t : Nat} {s : State} {w : Switch} (hw : s.tow.switch = some w)
include hw

theorem leads_switchPointReached (hp : w.phase = .waitPoint) (hm : s.mod.state = .active) (hf : lanesFree s = true) :
    Leads (.switchPointReached t) s fun s' =>
      s' = { s with tow := { s.tow with switch := some { w with phase := .waitDrain } }, time := s'.time } := by
  have runs : execSwitchPointReached t s = .next (onTow (fun x => { x with switch := some { w with phase := .waitDrain } }) (atTime t s)) := by
    simp only [execSwitchPointReached, atTime_tow, hw, if_pos (show w.phase = .waitPoint ∧ (atTime t s).mod.state = .active ∧
      lanesFree (atTime t s) = true from ⟨hp, hm, hf⟩)]
  exact ⟨_, runs, rfl⟩

/-- What becomes of a switch whose barges have left, on an active that has not handed over. -/
theorem exec_switchQueueDrained (hp : w.phase = .waitDrain) (hm : s.mod.state = .active) (hs : s.tow.handoverSent = none)
    (hq : ownQueued s = false) : exec (.switchQueueDrained t) s = .next (
      if lanesFree s = false then onTow (fun x => { x with switch := some { w with phase := .waitPoint } }) (atTime t s)
      else if partnerStandby s = false then endSwitch stRoleConflict .none (atTime t s)
      else handOver (if w.isProof then .proof else if w.isRelease then .release else .planned) false
        (onTow (fun x => { x with switch := some { w with phase := .handing } }) (atTime t s))) := by
  have open_ : ¬(w.phase ≠ .waitDrain ∨ (atTime t s).mod.state ≠ .active ∨ ownQueued (atTime t s) = true ∨ handingOver (atTime t s) = true) := by
    have queued : ownQueued (atTime t s) = false := hq
    simp [hp, hm, queued, handingOver, hs]
  show execSwitchQueueDrained t s = _
  simp only [execSwitchQueueDrained, atTime_tow, hw, if_neg open_]
  rfl

/-- What becomes of a switch that has waited for a second. -/
theorem exec_switchPointTimeout (hp : w.phase ≠ .handing) (ht : w.requestedAt + 1000000000 ≤ t) : exec (.switchPointTimeout t) s = .next (
    if w.isProof ∧ w.journal = 0 then onTow (fun x => { x with switch := some { w with requestedAt := t } }) (atTime t s)
    else endSwitch stStateConflict .none (atTime t s)) := by
  have waited : ¬(w.phase = .handing ∨ t < w.requestedAt + 1000000000) := by simp [hp, ht]
  show execSwitchPointTimeout t s = _
  simp only [execSwitchPointTimeout, atTime_tow, hw, if_neg waited]

end

/-- Settles O28: each event is one stage of the switch, and a switch that is given up leaves the role as it is. -/
theorem plannedSwitch : Obligations.PlannedSwitch := by
  intro t s w hw hm hs
  obtain ⟨gone, sent, state, -⟩ := endSwitch_gives_up stRoleConflict .none (atTime t s)
  refine ⟨fun hp hf => leads_switchPointReached hw hp hm hf, fun hp hq hf hpart => ?hands, fun hp hq hf => ?begun, fun hp hq hf hpart => ?alone,
    fun hp ht hproof hj => ?waitsOn, fun hp ht hcmd => ?late⟩
  case hands =>
    refine ⟨_, exec_switchQueueDrained hw hp hm hs hq, ?_⟩
    rw [if_neg (show ¬ lanesFree s = false by simp [hf]), if_neg (show ¬ partnerStandby s = false by simp [hpart])]
    exact ⟨rfl, rfl, rfl, hm, rfl⟩
  case begun =>
    refine ⟨_, exec_switchQueueDrained hw hp hm hs hq, ?_⟩
    rw [if_pos hf]
    rfl
  case alone =>
    refine ⟨_, exec_switchQueueDrained hw hp hm hs hq, ?_⟩
    rw [if_neg (show ¬ lanesFree s = false by simp [hf]), if_pos hpart]
    exact ⟨gone, sent.trans hs, state.trans hm⟩
  case waitsOn =>
    refine ⟨_, exec_switchPointTimeout hw hp ht, ?_⟩
    rw [if_pos ⟨hproof, hj⟩]
    rfl
  case late =>
    obtain ⟨gone, -, state, claim⟩ := endSwitch_gives_up stStateConflict .none (atTime t s)
    refine ⟨_, exec_switchPointTimeout hw hp ht, ?_⟩
    rw [if_neg fun h => hcmd.elim (fun no => by simp [no] at h) fun j => j h.2]
    exact ⟨gone, state.trans hm, claim⟩

end Sys2Proof.Machine
end

section
/-! STATUS barges: they are remembered in their stream, and one of the partner under claim zero ends the wait for a mirror; the switch of the key
epoch (R160, R161, R208, R209). -/

namespace Sys2Proof.Machine
open Sys2Proof

/-! ### The wait for a mirror that ends, R161 -/

theorem markMirrored_mod_pair (e : Nat) (s : State) : (markMirrored e s).mod = s.mod ∧ (markMirrored e s).pair = s.pair := by
  unfold markMirrored
  split
  · exact ⟨rfl, rfl⟩
  · rw [← Prod.mk.injEq]
    refine (foldl_reads (F := fun u => (u.mod, u.pair)) (fun u x => ?_) _ _).trans rfl
    split
    · rw [keeperWork_jmod]
    · rw [(keeperWork_jmod ..).trans (keeperWork_jend ..)]

/-- The module counts as alone with its mirror, and is otherwise what it was towards the pair and the network. -/
theorem confirmAlone_reads (s : State) : (confirmAlone s).pair = { s.pair with mirrorAlone := true } ∧ (confirmAlone s).mod = s.mod ∧
    (confirmAlone s).net = s.net := by
  unfold confirmAlone settleMirror
  split
  · exact ⟨(markMirrored_mod_pair ..).2, (markMirrored_mod_pair ..).1, net_markMirrored ..⟩
  · exact ⟨rfl, rfl, rfl⟩

/-! ### A STATUS barge of the partner, R160 -/

/-- On a module that is no standby a barge of the other module only shows that this one exists. -/
theorem pair_noteOwnerBarge (p : Fin 3) (b : Barge) {s : State} (hs : s.mod.state ≠ .standby) :
    ∃ x, (noteOwnerBarge p b s).pair = { s.pair with heardBarge := x } := by
  have not_standby : (noteStream b s).mod.state ≠ .standby := hs
  have pair : (noteStream b s).pair = s.pair := rfl
  unfold noteOwnerBarge
  generalize noteStream b s = u at not_standby pair
  by_cases port : p = 2
  · simp only [port, if_true]
    exact ⟨s.pair.heardBarge, pair⟩
  · simp only [port, if_false]
    refine ⟨true, ?_⟩
    split
    · rw [if_neg fun h => not_standby h.1, onImg_pair, onPair_pair, pair]
    · rw [if_neg fun h => not_standby h.1, onPair_pair, pair]

theorem pair_engineTake (s : State) : (engineTake s).pair = s.pair := by
  obtain ⟨second, count, e⟩ := engineTake_eq s
  rw [e]
  rfl

theorem judgeTie_of_other {b : Barge} {s : State} (h : b.claim ≠ s.pair.claim) : judgeTie b s = s := if_pos (.inr (.inl h))

/-- What a STATUS barge of the partner under claim zero does to an active in silence: the wait of R161 is over, whether it was already or not. -/
theorem takeStatus_spec {b : Barge} {s : State} {h : Heartbeat} (hs : s.mod.state = .active) (hq : s.pair.silence = true) (hb : b.claim = 0)
    (hc : s.pair.claim ≠ 0) (hp : s.pair.partner = some h) (hn : b.node = h.node) (hr : s.pair.silenceStart < b.release)
    (counts : countsForClaims s b = true) :
    (takeStatus b s).pair.mirrorAlone = true ∧ (takeStatus b s).pair.claim = s.pair.claim ∧ (takeStatus b s).mod = s.mod ∧
      (takeStatus b s).net = s.net := by
  obtain ⟨pair, mod, net⟩ := confirmAlone_reads s
  have no_tie {u : State} (hu : u.pair.claim = s.pair.claim) : (if countsForClaims u b then judgeTie b u else u) = u := by
    rw [judgeTie_of_other (by rw [hb, hu]; exact Ne.symm hc), ite_self]
  unfold takeStatus
  simp only [hp]
  by_cases alone : s.pair.mirrorAlone = true
  · simp only [alone, Bool.not_true, Bool.and_false, Bool.false_and, Bool.false_eq_true, if_false]
    rw [no_tie rfl]
    exact ⟨alone, rfl, rfl, rfl⟩
  · simp only [hs, hq, alone, hb, hn, hr, counts, Bool.and_self, Bool.not_false, decide_true, beq_self_eq_true, if_true]
    rw [no_tie (by rw [pair])]
    exact ⟨by rw [pair], by rw [pair], mod, net⟩

theorem leads_statusBarge {t source : Nat} {p : Fin 3} {bytes : List Byte} {s : State} {b : Barge} {h : Heartbeat} (ha : logicAwake s = true)
    (h0 : source ≠ 0) (parsed : parseBarge bytes = .ok b) (hk : b.kind = .status) (hj : judgeOther (atTime t s) b = none)
    (counts : countsForClaims (atTime t s) b = true) (hs : s.mod.state = .active) (hq : s.pair.silence = true) (hb : b.claim = 0)
    (hc : s.pair.claim ≠ 0) (hp : s.pair.partner = some h) (hn : b.node = h.node) (hr : s.pair.silenceStart < b.release) :
    Leads (.statusBargeReceive t p source bytes) s fun s' => lastInStream s' b = b.sequence ∧ s'.pair.mirrorAlone = true ∧
      s'.mod.state = .active ∧ s'.pair.claim = s.pair.claim := by
  have runs : exec (.statusBargeReceive t p source bytes) s = .next (takeStatus b (noteOwnerBarge p b (engineTake (atTime t s)))) :=
    congrArg Host.Outcome.next (receiveOther_taken (logicAwake_atTime ha t) h0 parsed hk (by decide) hj)
  have took := heard_engineTake (atTime t s)
  have took_pair : (engineTake (atTime t s)).pair = s.pair := pair_engineTake _
  generalize engineTake (atTime t s) = u at runs took took_pair
  have not_standby : u.mod.state ≠ .standby := by rw [took.state_eq, atTime_mod, hs]; decide
  obtain ⟨heard, stream, -⟩ := noteOwnerBarge_spec p b not_standby
  obtain ⟨x, pair⟩ := pair_noteOwnerBarge p b not_standby
  generalize noteOwnerBarge p b u = v at runs heard stream pair
  rw [took_pair] at pair
  have heard := took.trans heard
  have active : v.mod.state = .active := heard.state_eq.trans hs
  obtain ⟨alone, claim, mod, net⟩ := takeStatus_spec (h := h) active (by rw [pair]; exact hq) hb (by rw [pair]; exact hc) (by rw [pair]; exact hp) hn
    (by rw [pair]; exact hr) (by rw [heard.countsForClaims_eq]; exact counts)
  refine ⟨_, runs, ?_, alone, by rw [mod, active], by rw [claim, pair]⟩
  rw [lastInStream, net]
  exact stream

/-! ### The key epoch, R208, R209 -/

section
variable {t : Nat} {s : State} (hset : s.net.auth.switchAt ≠ 0) (ht : s.net.auth.switchAt ≤ t)
include hset ht

/-- What becomes of a switch of the key epoch whose instant has come. -/
theorem exec_keyEpochSwitch : exec (.keyEpochSwitch t) s = .next (if 0xFFFFFFFF ≤ s.net.auth.keyEpoch + 1 then
      onNet (fun n => { n with auth := { n.auth with switchAt := 0, switchRefused := true } }) (ownSetting P.keySwitchAt 0 (atTime t s))
    else rewriteCopies (ownSetting P.keySwitchAt 0 (ownSetting P.keyEpoch (s.net.auth.keyEpoch + 1) (onNet (fun n => resetSent { n with
      auth := { s.net.auth with keyEpoch := s.net.auth.keyEpoch + 1, switchAt := 0,
                                overlapUntil := some (s.net.auth.switchAt + msToNs (cfg s P.keyOverlap)), closed := false } }) (atTime t s))))) := by
  show execKeyEpochSwitch t s = _
  have due : ¬((atTime t s).net.auth.switchAt = 0 ∨ t < (atTime t s).net.auth.switchAt) := by
    rw [atTime_net]
    omega
  rw [execKeyEpochSwitch, if_neg due]
  rfl

end

/-- Settles O30: the STATUS barge through what a barge of the other module shows, the key epoch by its equation. -/
theorem statusBargesAndKeyEpochs : Obligations.StatusBargesAndKeyEpochs := by
  intro t s
  refine ⟨fun p source bytes b h ha h0 parsed hk hj counts hs hq hb hc hp hn hr =>
    leads_statusBarge ha h0 parsed hk hj counts hs hq hb hc hp hn hr, fun hset ht room => ?next, fun hset ht full => ?last, fun u hu ht => ?expiry⟩
  case next =>
    refine ⟨_, exec_keyEpochSwitch hset ht, ?_⟩
    rw [if_neg (Nat.not_le.2 room)]
    exact ⟨rfl, rfl, rfl⟩
  case last =>
    refine ⟨_, exec_keyEpochSwitch hset ht, ?_⟩
    rw [if_pos full]
    exact ⟨rfl, rfl, rfl⟩
  case expiry =>
    have runs : execKeyOverlapExpiry t s =
        .next (onNet (fun n => { n with auth := { n.auth with overlapUntil := none, closed := true } }) (atTime t s)) := by
      simp only [execKeyOverlapExpiry, atTime_net, hu, if_pos ht]
    exact ⟨_, runs, rfl, rfl, rfl⟩

end Sys2Proof.Machine
end

section
/-! Requests for a planned switch, a proof and a release of the pair (R162, R175, R176, R324, R337). -/

namespace Sys2Proof.Machine
open Sys2Proof

/-! ### What stages that yield and a change of the module's state leave of the tow line and of the journal's numbers -/

/-- The tow line's state and the number of the last journal entry. -/
def towAndLast (s : State) : Tow × Nat := (s.tow, s.keeper.lastJournal)

theorem towAndLast_foldl {α : Type} {f : State → α → State} (hf : ∀ s a, towAndLast (f s a) = towAndLast s) (xs : List α) (s : State) :
    towAndLast (xs.foldl f s) = towAndLast s := foldl_reads hf xs s

theorem towAndLast_ite {c : Prop} [Decidable c] {s t u : State} (ht : towAndLast t = towAndLast s) (hu : towAndLast u = towAndLast s) :
    towAndLast (if c then t else u) = towAndLast s := by
  split
  · exact ht
  · exact hu

theorem KeeperWork.towAndLast_eq {s t : State} (h : KeeperWork s t) (hl : t.keeper.lastJournal = s.keeper.lastJournal) :
    towAndLast t = towAndLast s := by
  rw [towAndLast, towAndLast, hl, h]

theorem towAndLast_jmod (id : Nat) (g : JnlEntry → JnlEntry) (s : State) : towAndLast (jmod id g s) = towAndLast s :=
  (keeperWork_jmod ..).towAndLast_eq (keeper_jmod id g s).2

theorem towAndLast_answer (h : ReqHdr) (r : Response) (s : State) : towAndLast (answer h r s) = towAndLast s := by
  obtain ⟨ms, cs, st, n, answered⟩ := answer_keeper h r s
  exact (keeperWork_answer h r s).towAndLast_eq (by rw [answered])

theorem towAndLast_answerHeld (id : Nat) (s : State) : towAndLast (answerHeld id s) = towAndLast s := by
  unfold answerHeld
  split
  · exact towAndLast_answer ..
  · rfl

theorem towAndLast_jend (id : Nat) (st : JnlState) (status : Nat) (s : State) : towAndLast (jend id st status s) = towAndLast s := by
  unfold jend
  split
  · rfl
  · split
    · rfl
    · exact (towAndLast_answerHeld ..).trans (towAndLast_jmod ..)

theorem towAndLast_safeAio (c : Fin 8) (s : State) : towAndLast (safeAio c s) = towAndLast s := towAndLast_ite rfl (towAndLast_ite rfl rfl)

theorem towAndLast_settleDio (c : Fin 16) (s : State) : towAndLast (settleDio c s) = towAndLast s := rfl

theorem towAndLast_yieldDio (c : Fin 16) (s : State) : towAndLast (yieldDio c s) = towAndLast s := by
  unfold yieldDio
  split
  · rfl
  · exact towAndLast_settleDio ..

theorem towAndLast_yieldFo (n : Fin 4) (s : State) : towAndLast (yieldFo n s) = towAndLast s := by
  unfold yieldFo
  split <;> rfl

theorem towAndLast_yieldAio (instants : List (TaskId × Nat)) (c : Fin 8) (s : State) : towAndLast (yieldAio instants c s) = towAndLast s := by
  unfold yieldAio
  split
  · rfl
  · dsimp only
    split
    · split <;> rfl
    · exact towAndLast_safeAio ..

theorem towAndLast_endBatch (ch : Fin 2) (b : CanBatch) (s : State) : towAndLast (endBatch ch b s) = towAndLast s :=
  (towAndLast_jend ..).trans (towAndLast_jmod ..)

theorem towAndLast_withdrawCan (ch : Fin 2) (s : State) : towAndLast (withdrawCan ch s) = towAndLast s := by
  unfold withdrawCan
  split
  · exact towAndLast_foldl (fun _ _ => towAndLast_endBatch ..) ..
  · rfl

theorem towAndLast_yieldStages (instants : List (TaskId × Nat)) (s : State) : towAndLast (yieldStages instants s) = towAndLast s := by
  have dio (u : State) : towAndLast (eachDio yieldDio u) = towAndLast u :=
    towAndLast_foldl (fun _ _ => towAndLast_yieldDio ..) ..
  have aio (u : State) : towAndLast (eachAio (yieldAio instants) u) = towAndLast u := towAndLast_foldl (fun _ _ => towAndLast_yieldAio ..) ..
  have fo (u : State) : towAndLast (each4 yieldFo u) = towAndLast u := towAndLast_foldl (fun _ _ => towAndLast_yieldFo ..) ..
  rw [yieldStages, towAndLast_withdrawCan, towAndLast_withdrawCan, fo, aio, dio]

theorem towAndLast_endTrim (x : TrimSeq) (s : State) : towAndLast (endTrim x s) = towAndLast s :=
  (towAndLast_safeAio ..).trans ((towAndLast_jend ..).trans (towAndLast_jmod ..))

theorem towAndLast_endTrims (s : State) : towAndLast (endTrims s) = towAndLast s := towAndLast_foldl (fun _ _ => towAndLast_endTrim ..) ..

theorem towAndLast_enterState (new : ModState) (cause : SwitchCause) (s : State) : towAndLast (enterState new cause s) = towAndLast s := by
  unfold enterState
  extract_lets old entered noted powered zeroed
  have to_noted : towAndLast noted = towAndLast s := towAndLast_ite rfl rfl
  have to_powered : towAndLast powered = towAndLast noted := towAndLast_ite (towAndLast_ite rfl rfl) rfl
  have to_zeroed : towAndLast zeroed = towAndLast powered := towAndLast_ite rfl rfl
  exact towAndLast_ite rfl ((towAndLast_endTrims _).trans (to_zeroed.trans (to_powered.trans to_noted)))

theorem state_enterState (new : ModState) (cause : SwitchCause) (s : State) : (enterState new cause s).mod.state = new :=
  (role_reads (rolePart_enterState new cause s)).1

/-! ### Requests that are accepted and go on after the answer -/

section
variable {h : ReqHdr} {code : Nat} {u y z : State}

/-- An accepted request whose entry goes on is answered, after work outside the Keeper. -/
theorem Opened.goes_on (ho : Opened h code u y) (hk : z.keeper = y.keeper) (id : Nat) (g : JnlEntry → JnlEntry) :
    Accepted h code u (notePeaks (jmod id g z)) ∧ KeeperWork z (notePeaks (jmod id g z)) := by
  obtain ⟨last, answered⟩ := ho.accepted
  have work := journalWork_jmod id g z
  have answer : lastAnswer z h.src = lastAnswer y h.src := by
    cases h.src <;> simp only [lastAnswer, connOf, hk]
  refine ⟨⟨work.lastJournal_eq.trans ((congrArg Keeper.lastJournal hk).trans last), ?_⟩, work.keeperWork.trans (keeperWork_onKeeper ..)⟩
  rw [AnsweredAs, lastAnswer_notePeaks, work.lastAnswer_eq, answer]
  exact answered

/-- A switch that waits for its point. -/
def waiting (id : Nat) (isProof isRelease : Bool) (s : State) : Switch :=
  { journal := id, phase := .waitPoint, requestedAt := nowOf s, isProof := isProof, isRelease := isRelease }

/-- A request that begins a switch is answered, and the module waits for the point of the switch. -/
theorem Opened.begins (ho : Opened h code u y) (hk : z.keeper = y.keeper) (id : Nat) (isProof isRelease : Bool) :
    Accepted h code u (notePeaks (beginSwitch id isProof isRelease z)) ∧
      KeeperWork (onTow (fun x => { x with switch := some (waiting id isProof isRelease z) }) z) (notePeaks (beginSwitch id isProof isRelease z)) := ho.goes_on (z := onTow _ z) hk ..

end

theorem KeeperWork.tow_eq {s t : State} (h : KeeperWork s t) : t.tow = s.tow := by rw [h]

/-- What decides on a pair request is as it was before the request arrived. -/
theorem arrived_pair_reads (t : Nat) (h : ReqHdr) (s : State) :
    partnerStandby (arrived h (atTime t s)) = partnerStandby s ∧ partnerSuspect (arrived h (atTime t s)) = partnerSuspect s ∧
      partnerNap (arrived h (atTime t s)) = partnerNap s ∧ switching (arrived h (atTime t s)) = switching s ∧
      exchangeBusy (arrived h (atTime t s)) = exchangeBusy s ∧ updateBusy (arrived h (atTime t s)) = updateBusy s ∧
      (arrived h (atTime t s)).mod = s.mod := by
  rw [keeperWork_arrived h (atTime t s)]
  exact ⟨rfl, rfl, rfl, rfl, rfl, rfl, rfl⟩

section
variable {t : Nat} {h : ReqHdr} {s : State} (hf : journalFull (atTime t s) = false) (hi : FreshIds (atTime t s))
include hf hi

/-! ### PAIR.SWITCH, R162 -/

section
variable (hw : switching s = false)
include hw

theorem leads_pairSwitch (ha : Admitted .pairSwitch h 0x0601 0 [] (atTime t s)) (hp : partnerStandby s = true) (hq : partnerSuspect s = false) :
    Leads (.pairSwitch t h) s fun s' => Accepted h 0x0601 (atTime t s) s' ∧ s'.mod = s.mod ∧ s'.pair = s.pair ∧
      s'.tow = { s.tow with switch := some (waiting (s.keeper.lastJournal + 1) false false (atTime t s)) } := by
  obtain ⟨standby, suspect, -, idle, -⟩ := arrived_pair_reads t h s
  have accepts : doPairSwitch h (arrived h (atTime t s)) =
      acceptLong h 0x0601 3 (fun id s => beginSwitch id false false s) (arrived h (atTime t s)) := by
    simp [doPairSwitch, standby, suspect, idle, hp, hq, hw]
  obtain ⟨y, runs, opened⟩ := serve_long ha hf hi accepts rfl rfl
  obtain ⟨accepted, work⟩ := opened.begins rfl (s.keeper.lastJournal + 1) false false
  have before := opened.work
  refine ⟨_, congrArg Host.Outcome.next runs, accepted, ?_, ?_, ?_⟩
  · exact work.mod_eq.trans before.mod_eq
  · exact work.pair_eq.trans before.pair_eq
  · exact work.tow_eq.trans (by rw [onTow_tow, waiting, waiting, before.tow_eq, before.nowOf_eq, atTime_tow])

omit hf hi hw in
theorem leads_pairSwitch_refused (ha : Admitted .pairSwitch h 0x0601 0 [] (atTime t s)) (hp : partnerStandby s = false ∨ partnerSuspect s = true) :
    Leads (.pairSwitch t h) s (OnlyAnswersWith h 0x0601 stRoleConflict [] (atTime t s)) := by
  obtain ⟨standby, suspect, -⟩ := arrived_pair_reads t h s
  exact ⟨_, rfl, serve_onlyAnswers ha rfl (if_pos (by rw [standby, suspect]; exact hp))⟩

/-! ### PAIR.PROOF, R176 -/

theorem leads_pairProof (ha : Admitted .pairProof h 0x0602 0 [] (atTime t s)) (hp : partnerStandby s = true) (hn : partnerNap s = false)
    (hx : exchangeBusy s = false) (hu : updateBusy s = false) : Leads (.pairProof t h) s fun s' => Accepted h 0x0602 (atTime t s) s' ∧
      s'.mod = s.mod ∧ (∃ p, s'.tow.proof = some p ∧ p.step = 1 ∧ p.origin = true) ∧
        ∃ w, s'.tow.switch = some w ∧ w.isProof = true ∧ w.phase = .waitPoint := by
  obtain ⟨standby, -, nap, idle, exchange, update, -⟩ := arrived_pair_reads t h s
  have idle : ¬(partnerStandby (arrived h (atTime t s)) = false ∨ partnerNap (arrived h (atTime t s)) = true ∨
      exchangeBusy (arrived h (atTime t s)) = true ∨ updateBusy (arrived h (atTime t s)) = true ∨ switching (arrived h (atTime t s)) = true) := by
    simp [standby, nap, idle, exchange, update, hp, hn, hx, hu, hw]
  obtain ⟨y, runs, opened⟩ := serve_long (body := doPairProof h) ha hf hi (if_neg idle) rfl rfl
  let p : Proof := { journal := s.keeper.lastJournal + 1, step := 1, origin := true, since := nowOf y, dwell := cfg y P.proofDwell }
  obtain ⟨accepted, work⟩ := opened.begins (z := onTow (fun x => { x with proof := some p }) y) rfl (s.keeper.lastJournal + 1) true false
  have tow := work.tow_eq
  exact ⟨_, congrArg Host.Outcome.next runs, accepted, work.mod_eq.trans opened.work.mod_eq, ⟨p, congrArg Tow.proof tow, rfl, rfl⟩,
    _, congrArg Tow.switch tow, rfl, rfl⟩

/-! ### PAIR.RELEASE, R175 -/

variable (ha : Admitted .pairRelease h 0x0603 0 [] (atTime t s))
include ha

/-- A standby leaves its role at once, with all that it followed its active by. -/
theorem leads_pairRelease_standby (hs : s.mod.state = .standby) : Leads (.pairRelease t h) s fun s' => s'.mod.state = .maintenance ∧
    s'.ctl.execs = [] ∧ (∀ k : TaskId, s'.ctl.tasks[k].running = false) ∧ s'.tow.records = [] ∧
    s'.keeper.lastJournal = s.keeper.lastJournal + 1 := by
  obtain ⟨-, -, -, idle, -, -, mod⟩ := arrived_pair_reads t h s
  obtain ⟨y, runs, opened⟩ := serve_long (run := releaseStandby) (x := arrived h (atTime t s)) (body := doPairRelease h) (code := 0x0603) (steps := 1)
    ha hf hi (by simp [doPairRelease, idle, hw, mod, hs]) rfl rfl
  refine ⟨_, congrArg Host.Outcome.next runs, ?_⟩
  obtain ⟨last, -⟩ := opened.accepted
  unfold releaseStandby
  extract_lets stopped quiet left
  have left_ctl : left.ctl = stopped.ctl := (enterState_beside (.refl _) ..).ctl.trans (stageFrame_yieldStages [] quiet).ctl
  have left_reads : towAndLast left = towAndLast quiet := (towAndLast_enterState ..).trans (towAndLast_yieldStages ..)
  have state : left.mod.state = .maintenance := by
    unfold left
    exact state_enterState ..
  have execs : stopped.ctl.execs = [] := rfl
  have tasks (k : TaskId) : stopped.ctl.tasks[k].running = false := by simp [stopped, stopTasks]
  have records : quiet.tow.records = [] := rfl
  have number : quiet.keeper.lastJournal = s.keeper.lastJournal + 1 := last
  clear_value left quiet stopped
  have done := (towAndLast_jend (s.keeper.lastJournal + 1) .done stOk _).trans
    ((towAndLast_jmod (s.keeper.lastJournal + 1) (fun e => { e with step := 1 }) left).trans left_reads)
  have work := (keeperWork_jmod (s.keeper.lastJournal + 1) (fun e => { e with step := 1 }) left).trans
    (keeperWork_jend (s.keeper.lastJournal + 1) .done stOk _)
  have ctl := work.ctl_eq.trans left_ctl
  exact ⟨(congrArg Mod.state work.mod_eq).trans state, (congrArg Control.execs ctl).trans execs, fun k => (congrArg (fun c => c.tasks[k].running) ctl).trans (tasks k),
    (congrArg (fun x => x.1.records) done).trans records, (congrArg Prod.snd done).trans number⟩

/-- An active with a standby waits for the point of the switch. -/
theorem leads_pairRelease_active (hs : s.mod.state = .active) (hp : partnerStandby s = true) : Leads (.pairRelease t h) s fun s' =>
    Accepted h 0x0603 (atTime t s) s' ∧ s'.mod = s.mod ∧ s'.ctl = s.ctl ∧
      ∃ w, s'.tow.switch = some w ∧ w.isRelease = true ∧ w.phase = .waitPoint := by
  obtain ⟨standby, -, -, idle, -, -, mod⟩ := arrived_pair_reads t h s
  obtain ⟨y, runs, opened⟩ := serve_long (run := fun id s => beginSwitch id false true s) (x := arrived h (atTime t s)) (body := doPairRelease h)
    (code := 0x0603) (steps := 3) ha hf hi (by simp [doPairRelease, idle, hw, mod, hs, standby, hp]) rfl rfl
  obtain ⟨accepted, work⟩ := opened.begins rfl (s.keeper.lastJournal + 1) false true
  exact ⟨_, congrArg Host.Outcome.next runs, accepted, work.mod_eq.trans opened.work.mod_eq, work.ctl_eq.trans opened.work.ctl_eq,
    _, congrArg Tow.switch work.tow_eq, rfl, rfl⟩

/-- An active without a standby stops its tasks at once; its SAFE barges are still to go out. -/
theorem leads_pairRelease_alone (hs : s.mod.state = .active) (hp : partnerStandby s = false) : Leads (.pairRelease t h) s fun s' =>
    s'.mod.state = .active ∧ s'.ctl.execs = [] ∧ (∀ k : TaskId, s'.ctl.tasks[k].running = false) ∧
      ∃ w, s'.tow.switch = some w ∧ w.isRelease = true ∧ w.phase = .handing := by
  obtain ⟨standby, -, -, idle, -, -, mod⟩ := arrived_pair_reads t h s
  obtain ⟨y, runs, opened⟩ := serve_long (run := releaseAlone) (x := arrived h (atTime t s)) (body := doPairRelease h)
    (code := 0x0603) (steps := 1) ha hf hi (by simp [doPairRelease, idle, hw, mod, hs, standby, hp]) rfl rfl
  refine ⟨_, congrArg Host.Outcome.next runs, ?_⟩
  unfold releaseAlone
  extract_lets w running
  have work : KeeperWork (atTime t s) running := opened.work.trans (keeperWork_jmod ..)
  obtain ⟨sent, -⟩ := sendSafe_spec (stopTasks (haltExecs running))
  have state : (stopTasks (haltExecs running)).mod.state = .active := (congrArg Mod.state work.mod_eq).trans hs
  refine ⟨(congrArg Mod.state sent.mod).trans state, congrArg Control.execs sent.ctl, fun k => ?_, w, rfl, rfl, rfl⟩
  exact (congrArg (fun c : Control => c.tasks[k].running) sent.ctl).trans (by simp [stopTasks])

end
end

/-- Settles O48: each request is refused or accepted at once, and what it then does follows from the operations that it runs. -/
theorem pairRequests : Obligations.PairRequests := by
  rintro t h s _ rfl hw hf hi
  exact ⟨fun ha => ⟨fun hp hq => leads_pairSwitch hf hi hw ha hp hq, fun hp => leads_pairSwitch_refused ha hp⟩,
    fun ha hp hn hx hu => leads_pairProof hf hi hw ha hp hn hx hu,
    fun ha => ⟨fun hs => leads_pairRelease_standby hf hi hw ha hs, fun hs hp => leads_pairRelease_active hf hi hw ha hs hp,
      fun hs hp => leads_pairRelease_alone hf hi hw ha hs hp⟩⟩

end Sys2Proof.Machine
end

section
/-! Silence on the tow line, what the module sends during it, offers and the wait for a partner (R34, R139, R140, R160, R164, R165, R185, R186). -/

namespace Sys2Proof.Machine
open Sys2Proof

/-! ### What a module that enters ACTIVE leaves of the pair's flags -/

/-- From `s` to `t` only the module's own inputs and outputs changed. -/
abbrev FieldWork (s t : State) : Prop := t = { s with field := t.field }

theorem FieldWork.trans {s t u : State} (h : FieldWork s t) (k : FieldWork t u) : FieldWork s u := by
  rw [k, h]

theorem FieldWork.foldl {α : Type} {f : State → α → State} (hf : ∀ s a, FieldWork s (f s a)) (xs : List α) (s : State) :
    FieldWork s (xs.foldl f s) := by
  induction xs generalizing s with
  | nil => rfl
  | cons x xs ih => exact (hf s x).trans (ih _)

theorem FieldWork.pair_eq {s t : State} (h : FieldWork s t) : t.pair = s.pair := by rw [h]
theorem FieldWork.tow_eq {s t : State} (h : FieldWork s t) : t.tow = s.tow := by rw [h]

theorem fieldWork_preloadDio (c : Fin 16) (s : State) : FieldWork s (preloadDio c s) := by
  unfold preloadDio applyDio
  dsimp only
  split
  · split
    · rfl
    · split <;> rfl
  · rfl

theorem fieldWork_preloadAio (c : Fin 8) (s : State) : FieldWork s (preloadAio c s) := by
  unfold preloadAio applyAio
  dsimp only
  split
  · split
    · rfl
    · split
      · rfl
      · split <;> rfl
  · rfl

theorem fieldWork_preloadFo (n : Fin 4) (s : State) : FieldWork s (preloadFo n s) := by
  unfold preloadFo applyFo
  dsimp only
  split
  · split
    · rfl
    · split <;> rfl
  · rfl

/-- The stages that are preloaded belong to the module's own inputs and outputs. -/
theorem fieldWork_preloadStages (afterMiss : Bool) (notBefore : Nat) (s : State) : FieldWork s (preloadStages afterMiss notBefore s) := by
  have dio (u : State) : FieldWork u (eachDio preloadDio u) := .foldl (fun _ _ => fieldWork_preloadDio ..) ..
  have aio (u : State) : FieldWork u (eachAio preloadAio u) := .foldl (fun _ _ => fieldWork_preloadAio ..) ..
  have fo (u : State) : FieldWork u (each4 preloadFo u) := .foldl (fun _ _ => fieldWork_preloadFo ..) ..
  exact FieldWork.trans rfl ((dio _).trans ((aio _).trans (fo _)))

theorem netWork_sendClaimBroadcast (s : State) : NetWork s (sendClaimBroadcast s) :=
  (sendBroadcast_spec .claim s.pair.claim s.net.auth.switchAt s).1.trans (netWork_onNet ..)

theorem pair_pairChanged (g : Pair → Pair) (s : State) : (pairChanged g s).pair = g s.pair := by
  unfold pairChanged watchPair
  split <;> rfl

/-- A change of the pair's flags is one of the Keeper's interrupts besides. -/
theorem keeperWork_pairChanged (g : Pair → Pair) (s : State) : KeeperWork (onPair g s) (pairChanged g s) := by
  unfold pairChanged watchPair
  split <;> rfl

/-- The pair's flags as a module has them that has just entered ACTIVE. -/
def activeFlags (cause : SwitchCause) (p : Pair) : Pair :=
  { p with claim := p.highestClaim + 1, highestClaim := p.highestClaim + 1, lastCause := cause, supersededFlag := false, offer := none,
           checkWindow := false, cold := none }

theorem pair_enterActive (cause : SwitchCause) (afterMiss : Bool) (notBefore : Nat) (s : State) :
    (enterActive cause afterMiss notBefore s).pair = activeFlags cause s.pair := by
  unfold enterActive
  extract_lets raised told entered
  have to_entered : entered.pair = told.pair := (enterState_reads ..).1
  have to_told : told.pair = activeFlags cause s.pair := pair_pairChanged ..
  rw [(fieldWork_preloadStages ..).pair_eq, (netWork_sendClaimBroadcast _).pair, to_entered, to_told]

theorem pair_startActive (journal mask : Nat) (s : State) : (startActive journal mask s).pair = activeFlags .none s.pair := by
  rw [← pair_enterActive .none false 0 s, startActive]
  generalize enterActive .none false 0 s = active
  rfl

/-! ### Silence, R160 -/

theorem leads_towLineSilence {t l : Nat} {s : State} (hl : s.pair.lastHeartbeat = some l) (hq : s.pair.silence = false) (ht : l + 30000 ≤ t) :
    Leads (.towLineSilence t) s fun s' => s'.pair.silence = true ∧ s'.pair.silenceStart = l ∧ s'.pair.paired = false ∧
      (s'.pair.checkWindow = true ↔ s.mod.state = .standby) ∧ s'.pair.claim = s.pair.claim ∧ s'.img = s.img ∧ s'.mod = s.mod := by
  have silent : ¬((atTime t s).pair.silence = true ∨ t < l + 30000) := by
    rw [atTime_pair, hq]
    simp [ht]
  have runs : ∃ alone, execTowLineSilence t s = .next (onTow (fun w => { w with catchup := none, serving := false }) (pairChanged (fun p =>
      { p with silence := true, silenceStart := l, paired := false, mirrorAlone := alone, checkWindow := s.mod.state == .standby,
               catchingUp := false }) (atTime t s))) := by
    refine ⟨!partnerStandby (atTime t s) && (atTime t s).pair.mirrorAlone, ?_⟩
    have heard : (atTime t s).pair.lastHeartbeat = some l := hl
    simp only [execTowLineSilence, heard]
    rw [if_neg silent]
    rfl
  obtain ⟨alone, runs⟩ := runs
  refine ⟨_, runs, ?_⟩
  rw [keeperWork_pairChanged]
  exact ⟨rfl, rfl, rfl, beq_iff_eq, rfl, rfl, rfl⟩

/-! ### STATUS and CLAIM barges, R160, R165, R185, R186 -/

/-- A barge of the module waits in the queues of P1 and P2. -/
theorem queueOn_queues (held : Option (TaskId × Nat)) (k : BargeKind) (dst : Nat) (bytes : List Byte) (s : State) :
    (queueOn held k dst bytes s).sw.ports[0].queue.length = s.sw.ports[0].queue.length + 1 ∧
      (queueOn held k dst bytes s).sw.ports[1].queue.length = s.sw.ports[1].queue.length + 1 := by
  have sw : (engineTake s).sw = s.sw := by
    obtain ⟨second, count, e⟩ := engineTake_eq s
    rw [e]
    rfl
  unfold queueOn
  extract_lets taken q
  have taken_sw : taken.sw = s.sw := sw
  clear_value taken
  constructor <;> simp [vmod, taken_sw]

/-- The switch and the numbers of the module's STATUS streams. -/
def statusPart (s : State) : Switching × Nat × Nat := (s.sw, s.net.statusSeq, s.net.statusZeroSeq)

theorem statusPart_ite {c : Prop} [Decidable c] {s t u : State} (ht : statusPart t = statusPart s) (hu : statusPart u = statusPart s) :
    statusPart (if c then t else u) = statusPart s := by
  split
  · exact ht
  · exact hu

theorem statusPart_onNet {g : Net → Net} (s : State)
    (hg : ∀ n, (g n).statusSeq = n.statusSeq ∧ (g n).statusZeroSeq = n.statusZeroSeq := by exact fun _ => ⟨rfl, rfl⟩) :
    statusPart (onNet g s) = statusPart s := by
  rw [statusPart, onNet_net, (hg _).1, (hg _).2, onNet_sw]
  rfl

theorem statusPart_autoSchedule (sent : Nat) (s : State) : statusPart (autoSchedule sent s) = statusPart s :=
  statusPart_ite (statusPart_ite (statusPart_onNet s) (statusPart_onNet s)) rfl

theorem statusSeqs_queueOn (held : Option (TaskId × Nat)) (k : BargeKind) (dst : Nat) (bytes : List Byte) (s : State) :
    (queueOn held k dst bytes s).net.statusSeq = s.net.statusSeq ∧ (queueOn held k dst bytes s).net.statusZeroSeq = s.net.statusZeroSeq := by
  obtain ⟨second, count, e⟩ := engineTake_eq s
  unfold queueOn
  rw [e]
  exact ⟨rfl, rfl⟩

/-- A STATUS barge takes the next number of its stream, that of the claim or that of claim zero, and waits on P1 and P2. -/
theorem sendStatus_spec (claim : Nat) (identity : Bool) (s : State) :
    let u := sendStatus claim identity s
    NetWork s u ∧ (u.net.statusSeq = if claim = 0 then s.net.statusSeq else s.net.statusSeq + 1) ∧
      (u.net.statusZeroSeq = if claim = 0 then s.net.statusZeroSeq + 1 else s.net.statusZeroSeq) ∧
      u.sw.ports[0].queue.length = s.sw.ports[0].queue.length + 1 ∧ u.sw.ports[1].queue.length = s.sw.ports[1].queue.length + 1 := by
  unfold sendStatus
  extract_lets numbered identified base b u
  have numbers : NetWork s numbered := netWork_onNet _ s
  have seqs : (numbered.net.statusSeq = if claim = 0 then s.net.statusSeq else s.net.statusSeq + 1) ∧
      (numbered.net.statusZeroSeq = if claim = 0 then s.net.statusZeroSeq + 1 else s.net.statusZeroSeq) := by
    unfold numbered
    rw [onNet_net]
    split <;> exact ⟨rfl, rfl⟩
  have same : numbered.sw = s.sw := rfl
  clear_value b numbered
  have works := (netQuiet_queueOn none .status (groupAddress numbered) (sealBarge numbered b) numbered).toNetWork
  unfold u
  obtain ⟨queued0, queued1⟩ := queueOn_queues none .status (groupAddress numbered) (sealBarge numbered b) numbered
  obtain ⟨queued_seq, queued_zero⟩ := statusSeqs_queueOn none .status (groupAddress numbered) (sealBarge numbered b) numbered
  generalize queueOn none .status (groupAddress numbered) (sealBarge numbered b) numbered = queued at works queued0 queued1 queued_seq queued_zero ⊢
  have scheduled := (netQuiet_autoSchedule (if claim = 0 then numbered.net.auth.sentStatusZero else numbered.net.auth.sentStatus) queued).toNetWork
  have kept := statusPart_autoSchedule (if claim = 0 then numbered.net.auth.sentStatusZero else numbered.net.auth.sentStatus) queued
  generalize autoSchedule (if claim = 0 then numbered.net.auth.sentStatusZero else numbered.net.auth.sentStatus) queued = u at scheduled kept ⊢
  obtain ⟨sw, seq, zero⟩ : u.sw = queued.sw ∧ u.net.statusSeq = queued.net.statusSeq ∧ u.net.statusZeroSeq = queued.net.statusZeroSeq :=
    ⟨congrArg Prod.fst kept, congrArg (fun x => x.2.1) kept, congrArg (fun x => x.2.2) kept⟩
  refine ⟨numbers.trans (works.trans scheduled), by rw [seq, queued_seq, seqs.1], by rw [zero, queued_zero, seqs.2], ?_, ?_⟩
  · rw [sw, queued0, same]
  · rw [sw, queued1, same]

section
variable {t : Nat} {s : State}

theorem leads_statusBargeSend_active (hs : s.mod.state = .active) (hc : s.pair.claim ≠ 0) (hq : s.pair.silence = true)
    (hh : s.tow.handoverSent = none) : Leads (.statusBargeSend t) s fun s' =>
      s'.net.statusSeq = s.net.statusSeq + 1 ∧ s'.sw.ports[0].queue.length = s.sw.ports[0].queue.length + 1 ∧
      s'.sw.ports[1].queue.length = s.sw.ports[1].queue.length + 1 ∧ s'.pair = s.pair ∧ s'.img = s.img := by
  have sends : execStatusBargeSend t s = .next (sendStatus s.pair.claim false (atTime t s)) :=
    congrArg Host.Outcome.next (if_pos ⟨hs, hq, by simp [handingOver, hh]⟩)
  obtain ⟨works, seq, -, queued0, queued1⟩ := sendStatus_spec s.pair.claim false (atTime t s)
  exact ⟨_, sends, seq.trans (if_neg hc), queued0, queued1, works.pair, works.img⟩

theorem leads_statusBargeSend_ready (hs : s.mod.state = .ready) (hl : s.pair.towLineLost = true) (ha : logicAwake s = true) :
    Leads (.statusBargeSend t) s fun s' => s'.net.statusZeroSeq = s.net.statusZeroSeq + 1 ∧ s'.net.statusSeq = s.net.statusSeq ∧
      s'.pair = s.pair ∧ s'.img = s.img := by
  have sends : execStatusBargeSend t s = .next (sendStatus 0 false (atTime t s)) := by
    refine congrArg Host.Outcome.next ?_
    rw [if_neg (by rw [atTime_mod, hs]; simp), if_pos ⟨hs, hl, logicAwake_atTime ha t⟩]
  obtain ⟨works, seq, zero, -⟩ := sendStatus_spec 0 false (atTime t s)
  exact ⟨_, sends, zero, seq, works.pair, works.img⟩

theorem leads_claimTieStatusSend (hs : s.mod.state = .active) (hc : s.pair.claim ≠ 0) (ht : s.pair.tie = true) :
    Leads (.claimTieStatusSend t) s fun s' => s'.net.statusSeq = s.net.statusSeq + 1 ∧ s'.pair = s.pair ∧ s'.img = s.img := by
  have sends : execClaimTieStatusSend t s = .next (sendStatus s.pair.claim true (atTime t s)) := congrArg Host.Outcome.next (if_pos ⟨hs, ht⟩)
  obtain ⟨works, seq, -⟩ := sendStatus_spec s.pair.claim true (atTime t s)
  exact ⟨_, sends, seq.trans (if_neg hc), works.pair, works.img⟩

theorem leads_claimRefresh (hs : s.mod.state = .active) (hc : s.pair.claim ≠ 0) (hh : s.tow.handoverSent = none)
    (hd : ∀ c, s.net.claimSentAt = some c → c + msToNs (cfg s P.claimRefresh) ≤ t) : Leads (.claimRefresh t) s fun s' =>
      s'.net.broadcastSeq = s.net.broadcastSeq + 1 ∧ s'.net.claimSentAt = some (nowOf (atTime t s)) ∧ s'.pair = s.pair ∧ s'.img = s.img := by
  have sends : execClaimRefresh t s = .next (sendClaimBroadcast (atTime t s)) := by
    refine congrArg Host.Outcome.next (if_pos ⟨hs, hc, by simp [handingOver, hh], ?_⟩)
    rw [atTime_net]
    split
    · next c sent => exact decide_eq_true (hd c sent)
    · rfl
  obtain ⟨works, seq⟩ := sendBroadcast_spec .claim s.pair.claim s.net.auth.switchAt (atTime t s)
  exact ⟨_, sends, seq, rfl, works.pair, works.img⟩

/-! ### Offers, R34, R139, R140, R164 -/

section
variable {j : Nat} (hj : s.pair.offer = some j) (hs : s.mod.state = .ready ∨ s.mod.state = .stoppedFault) (ht : s.pair.offerAt + 30000 ≤ t)
  (hk : keeperDecides s = true)
include hj hs ht hk

/-- What becomes of an offer that no partner answered. -/
theorem exec_offerTimeout : ∃ mask, exec (.offerTimeout t) s = .next (if claimExhausted s then
      jend j .failed stRoleConflict (stage 0x0606 srcModule (le4 s.pair.highestClaim) (onPair (fun p => { p with offer := none }) (atTime t s)))
    else startActive j mask (atTime t s)) := by
  have waited : ¬(((atTime t s).mod.state ≠ .ready ∧ (atTime t s).mod.state ≠ .stoppedFault) ∨ t < (atTime t s).pair.offerAt + 30000 ∨
      keeperDecides (atTime t s) = false) := by
    have decides : keeperDecides (atTime t s) = true := hk
    rw [atTime_mod, atTime_pair, decides]
    obtain ready | stopped := hs
    · simp [ready, ht]
    · simp [stopped, ht]
  have offers : (atTime t s).pair.offer = some j := hj
  refine ⟨match jget (atTime t s) j with
    | some e => e.detail2
    | none => 0, ?_⟩
  show execOfferTimeout t s = _
  simp only [execOfferTimeout, offers]
  rw [if_neg waited]
  rfl

theorem leads_offerTimeout_starts (hr : s.pair.highestClaim < 0xFFFFFFFF) : Leads (.offerTimeout t) s fun s' => Raised 0 s s' ∧
    s'.pair.offer = none ∧ s'.img.epoch = s.img.epoch ∧ ∃ c, s'.keeper.changes = s.keeper.changes ++ [c] ∧ c.journal = j := by
  have room : ¬claimExhausted s = true := by simp [claimExhausted, hr]
  obtain ⟨mask, runs⟩ := exec_offerTimeout hj hs ht hk
  rw [if_neg room] at runs
  obtain ⟨role, changes⟩ := startActive_spec j mask (atTime t s)
  have offer : (startActive j mask (atTime t s)).pair.offer = none := by rw [pair_startActive, activeFlags]
  have claim : max s.pair.highestClaim 0 + 1 = s.pair.highestClaim + 1 := by rw [Nat.max_zero]
  generalize startActive j mask (atTime t s) = s' at runs role changes offer
  refine ⟨_, runs, raised_of_rolePart ?_ ?_ ?_, offer, ?_, _, changes, rfl⟩
  · rw [role]
  · rw [role, claim]
    rfl
  · rw [role, claim]
    rfl
  · exact congrArg RolePart.epoch role

theorem leads_offerTimeout_exhausted (hr : 0xFFFFFFFF ≤ s.pair.highestClaim) : Leads (.offerTimeout t) s fun s' => s'.mod = s.mod ∧
    s'.pair.claim = s.pair.claim ∧ s'.pair.offer = none := by
  obtain ⟨mask, runs⟩ := exec_offerTimeout hj hs ht hk
  rw [if_pos (show claimExhausted s = true from decide_eq_true hr)] at runs
  have ended := keeperWork_jend j .failed stRoleConflict
    (stage 0x0606 srcModule (le4 s.pair.highestClaim) (onPair (fun p => { p with offer := none }) (atTime t s)))
  exact ⟨_, runs, ended.mod_eq, (congrArg Pair.claim ended.pair_eq).trans rfl, (congrArg Pair.offer ended.pair_eq).trans rfl⟩

end

/-! ### The wait for a partner, R140 -/

theorem leads_pairJoinWaitExpiry {r : Nat} (hr : s.pair.releasedAt = some r) (ht : r + msToNs (cfg s P.joinWait) ≤ t)
    (hh : s.pair.heardHeartbeat = false) (hb : s.pair.heardBarge = false) : Leads (.pairJoinWaitExpiry t) s fun s' =>
      s' = { s with pair := { s.pair with joinWaitOver := true }, time := s'.time } := by
  have runs : execPairJoinWaitExpiry t s = .next (onPair (fun p => { p with joinWaitOver := true }) (atTime t s)) := by
    have released : (atTime t s).pair.releasedAt = some r := hr
    simp only [execPairJoinWaitExpiry, released]
    exact congrArg Host.Outcome.next (if_pos ⟨ht, hh, hb⟩)
  exact ⟨_, runs, rfl⟩

end

/-- Settles O27: each event by its equation, and what enters ACTIVE through the role and the flags of the pair. -/
theorem silenceOffersAndStatus : Obligations.SilenceOffersAndStatus :=
  ⟨fun _ _ => ⟨fun _ hl hq ht => leads_towLineSilence hl hq ht, fun hs hc hq hh => leads_statusBargeSend_active hs hc hq hh,
      fun hs hl ha => leads_statusBargeSend_ready hs hl ha, fun hs hc ht => leads_claimTieStatusSend hs hc ht,
      fun hs hc hh hd => leads_claimRefresh hs hc hh hd⟩,
    fun _ _ => ⟨fun _ hj hs ht hk => ⟨fun hr => leads_offerTimeout_starts hj hs ht hk hr, fun hr => leads_offerTimeout_exhausted hj hs ht hk hr⟩,
      fun _ hr ht hh hb => leads_pairJoinWaitExpiry hr ht hh hb⟩⟩

end Sys2Proof.Machine
end

section
/-! The lanes of the tow line: a lane that is lost, and the spare that takes its place (R146, R178). -/

namespace Sys2Proof.Machine
open Sys2Proof

theorem vmod_twice {α : Type} {n : Nat} (v : Vector α n) (i : Fin n) (f g : α → α) : (vmod (vmod v i f) i g)[i] = g (f v[i]) :=
  (vmod_getElem_same ..).trans (congrArg g (vmod_getElem_same ..))

theorem vmod_const_ne {α : Type} {n : Nat} (v : Vector α n) {i j : Fin n} (x : α) (h : j ≠ i) : (vmod v i fun _ => x)[j] = v[j] :=
  vmod_getElem_ne v (fun _ => x) h

section
variable {t n : Nat} {sl : Fin 3} {s : State}

theorem exec_towLaneLost_other (h : s.tow.lanes[sl] ≠ .carrying) : exec (.towLaneLost t sl true n) s = .next (atTime t s) :=
  congrArg Host.Outcome.next (if_pos h)

theorem exec_towSpareLaneJoined_other (h : s.tow.lanes[sl] ≠ .spare) : exec (.towSpareLaneJoined t sl) s = .next (atTime t s) := by
  have other : ((atTime t s).tow.lanes[sl] == .spare) = false := beq_false_of_ne h
  show execTowSpareLaneJoined t sl s = _
  simp only [execTowSpareLaneJoined, other]

theorem leads_towLaneLost (h : s.tow.lanes[sl] = .carrying) : Leads (.towLaneLost t sl true n) s fun s' => s'.tow.lanes[sl] = .lost ∧
    s'.tow.degraded = true ∧ s'.keeper.intStat.getLsbD intPair = true ∧ (∀ i : Fin 3, i ≠ sl → s'.tow.lanes[i] = s.tow.lanes[i]) ∧
    s'.wear.tow[sl].alignLosses = sat32 (s.wear.tow[sl].alignLosses + 1) := by
  refine ⟨_, congrArg Host.Outcome.next (if_neg (not_not_intro h)), ?_⟩
  dsimp only
  rw [if_neg fun c => Bool.noConfusion c.1]
  refine ⟨vmod_getElem_same .., rfl, intStat_raiseInt (by decide) _, fun i hi => vmod_const_ne _ _ hi, ?_⟩
  simp only [raiseInt, stage, onKeeper_wear, onTow_wear, onWear_wear, onRecd_wear, atTime_wear, vmod_twice, if_true]

theorem tow_checkSpares (s : State) : (checkSpares s).tow = s.tow := by
  unfold checkSpares
  split <;> rfl

theorem leads_towSpareLaneJoined (h : s.tow.lanes[sl] = .spare) (hl : ∃ i : Fin 3, s.tow.lanes[i] = .lost) :
    Leads (.towSpareLaneJoined t sl) s fun s' => s'.tow.lanes[sl] = .carrying ∧ s'.tow.degraded = false ∧ s'.tow.spareInUse = true ∧
      (∀ i : Fin 3, i ≠ sl → s'.tow.lanes[i] = s.tow.lanes[i]) := by
  obtain ⟨i, hi⟩ := hl
  have spare : ((atTime t s).tow.lanes[sl] == .spare) = true := beq_iff_eq.2 h
  have lost : (towLaneAt (atTime t s) .lost).isSome = true :=
    List.find?_isSome.2 ⟨i, List.mem_finRange i, beq_iff_eq.2 hi⟩
  obtain ⟨j, found⟩ := Option.isSome_iff_exists.1 lost
  have runs : execTowSpareLaneJoined t sl s = .next (checkSpares (raiseInt intPair
      (onWear (fun w => { w with tow := vmod w.tow j fun x => { x with swaps := min 0xFFFF (x.swaps + 1) } })
        (onTow (fun w => { w with lanes := vmod w.lanes sl fun _ => .carrying, degraded := false, spareInUse := true }) (atTime t s))))) := by
    simp only [execTowSpareLaneJoined, spare, found]
  refine ⟨_, runs, ?_⟩
  beta_reduce
  rw [tow_checkSpares]
  exact ⟨vmod_getElem_same .., rfl, rfl, fun i hi => vmod_const_ne _ _ hi⟩

end

end Sys2Proof.Machine
end

section
/-! The proof of the pair as its checks come out, and what a take-over means for it (R176, R177). -/

namespace Sys2Proof.Machine
open Sys2Proof

/-! ### Operations whose work beside the pair's flags is the Keeper's -/

theorem KeeperWork.onPair {s t : State} (h : KeeperWork s t) (g : Pair → Pair) : KeeperWork (onPair g s) (Machine.onPair g t) := by
  rw [h]
  rfl

theorem KeeperWork.onTow {s t : State} (h : KeeperWork s t) (g : Tow → Tow) : KeeperWork (onTow g s) (Machine.onTow g t) := by
  rw [h]
  rfl

theorem KeeperWork.sec_eq {s t : State} (h : KeeperWork s t) : t.sec = s.sec := by rw [h]
theorem KeeperWork.path_eq {s t : State} (h : KeeperWork s t) : t.path = s.path := by rw [h]

/-- A proof that has failed: no proof runs, PROOF_FAILED is set, and the rest is the Keeper's. -/
theorem keeperWork_failProof (p : Proof) (check : Nat) (s : State) :
    KeeperWork (onPair (fun x => { x with proofFailed := true }) (onTow (fun x => { x with proof := none }) s)) (failProof p check s) := by
  have ended := (keeperWork_jmod p.journal (fun e => { e with step := p.step, detail2 := (Config.proofCheck check).toNat }) s).trans
    (keeperWork_jend p.journal .failed stStateConflict _)
  exact ((ended.onTow _).onPair _).trans (keeperWork_pairChanged ..)

/-- A proof that has passed: no proof runs, its hours are noted, and the flags of a failed one are clear. -/
theorem passProof_reads (p : Proof) (s : State) : let u := passProof p s
    u.tow.proof = none ∧ u.tow.proofHours = s.path.hours ∧ u.pair.suspect = false ∧ u.pair.proofFailed = false ∧ u.pair.proofDue = false := by
  have ended := (keeperWork_jmod p.journal (fun e => { e with step := 5 }) s).trans (keeperWork_jend p.journal .done stOk _)
  unfold passProof
  extract_lets done settled u
  have tow : u.tow = settled.tow := (keeperWork_pairChanged ..).tow_eq
  have pair : u.pair = _ := pair_pairChanged ..
  have hours : settled.tow.proofHours = s.path.hours := congrArg Towpath.hours ended.path_eq
  rw [tow, pair]
  exact ⟨rfl, hours, rfl, rfl, rfl⟩

/-! ### The Keeper goes on running -/

theorem running_answer (h : ReqHdr) (r : Response) (s : State) : (answer h r s).keeper.running = s.keeper.running := by
  obtain ⟨ms, cs, st, n, answered⟩ := answer_keeper h r s
  rw [answered]

theorem running_jend (id : Nat) (st : JnlState) (status : Nat) (s : State) : (jend id st status s).keeper.running = s.keeper.running := by
  unfold jend
  split
  · rfl
  · split
    · rfl
    · unfold answerHeld
      split
      · exact (running_answer ..).trans (running_jmod ..)
      · exact running_jmod ..

theorem running_pairChanged (g : Pair → Pair) (s : State) : (pairChanged g s).keeper.running = s.keeper.running := by
  unfold pairChanged watchPair
  split <;> rfl

theorem running_failProof (p : Proof) (check : Nat) (s : State) : (failProof p check s).keeper.running = s.keeper.running :=
  (running_pairChanged ..).trans ((running_jend ..).trans (running_jmod ..))

/-! ### A take-over ends the proof that waits for it -/

/-- The pair's flags and the tow line's state. -/
def pairTow (s : State) : Pair × Tow := (s.pair, s.tow)

theorem KeeperWork.pairTow_eq {s t : State} (h : KeeperWork s t) : pairTow t = pairTow s := by
  rw [h]
  rfl

theorem pair_of_pairTow {s t : State} (h : pairTow t = pairTow s) : t.pair = s.pair := congrArg Prod.fst h
theorem tow_of_pairTow {s t : State} (h : pairTow t = pairTow s) : t.tow = s.tow := congrArg Prod.snd h

theorem pairTow_revertCommit (c : Commit) (s : State) : pairTow (revertCommit c s) = pairTow s := by
  unfold revertCommit
  split <;> rfl

/-- A roll-back has no part in the pair's flags or the tow line. -/
theorem pairTow_rollBack (s : State) : pairTow (rollBack s) = pairTow s := by
  unfold rollBack
  extract_lets gone reported lost returned settled stopped
  calc pairTow (gone.foldl (fun s x => jend x.id .rolledBack stEpochGone s) (onKeeper (fun k => { k with changes := [] }) stopped))
    _ = pairTow returned := foldl_reads (F := pairTow) (fun _ _ => (keeperWork_jend ..).pairTow_eq) ..
    _ = pairTow reported := foldl_reads (F := pairTow) (fun _ _ => pairTow_revertCommit ..) ..
    _ = pairTow s := foldl_reads (F := pairTow) (fun u x => by split; exacts [(keeperWork_failureReport ..).pairTow_eq, rfl]) ..

theorem pairTow_recordLost (first last : Nat) (s : State) : pairTow (recordLost first last s) = pairTow s := by
  unfold recordLost
  split <;> rfl

theorem pairTow_recordGap (former : Nat) (s : State) : pairTow (recordGap former s) = pairTow s := pairTow_recordLost ..

theorem pairTow_skipJournalIds (s : State) : pairTow (skipJournalIds s) = pairTow s := rfl

theorem tow_enterState (new : ModState) (cause : SwitchCause) (s : State) : (enterState new cause s).tow = s.tow :=
  congrArg Prod.fst (towAndLast_enterState new cause s)

theorem tow_enterActive (cause : SwitchCause) (afterMiss : Bool) (notBefore : Nat) (s : State) :
    (enterActive cause afterMiss notBefore s).tow = s.tow := by
  unfold enterActive
  extract_lets raised told entered
  have to_told : told.tow = raised.tow := (keeperWork_pairChanged ..).tow_eq
  have to_raised : raised.tow = s.tow := rfl
  rw [(fieldWork_preloadStages ..).tow_eq, (netWork_sendClaimBroadcast _).tow, tow_enterState, to_told, to_raised]

/-- The module that began a proof and takes its role back before the proof has run ends it. -/
theorem proofAfterTakeOver_ends {p : Proof} {s : State} (hp : s.tow.proof = some p) (ho : p.origin = true) (h0 : p.step = 0)
    (cause : SwitchCause) : proofAfterTakeOver cause s = onTow (fun t => { t with proof := none }) s := by
  unfold proofAfterTakeOver
  simp only [hp, ho, h0, Bool.true_eq_false, if_false, if_true]

theorem takeOverNow_ends_proof {p : Proof} {s : State} (hc : s.pair.highestClaim < 0xFFFFFFFF) (hp : s.tow.proof = some p)
    (ho : p.origin = true) (h0 : p.step = 0) (cause : SwitchCause) (afterMiss : Bool) (notBefore : Nat) :
    let u := takeOverNow cause afterMiss notBefore s
    u.tow.proof = none ∧ u.pair.partnerSuspect = s.pair.partnerSuspect ∧ u.pair.proofFailed = s.pair.proofFailed := by
  unfold takeOverNow
  extract_lets seen _ former adopted active alone skipped sent u
  have seen_pair : seen.pair = { s.pair with checkWindow := false, cold := none } := pair_pairChanged ..
  have seen_tow : seen.tow = s.tow := (keeperWork_pairChanged ..).tow_eq
  have room : ¬claimExhausted seen = true := by simp [claimExhausted, seen_pair, hc]
  have active_pair : active.pair = activeFlags cause seen.pair := pair_enterActive cause afterMiss notBefore adopted
  have active_tow : active.tow = seen.tow := tow_enterActive cause afterMiss notBefore adopted
  have skipped_eq : pairTow skipped = pairTow alone := (pairTow_skipJournalIds _).trans (pairTow_recordGap former alone)
  have skipped_pair : skipped.pair = alone.pair := pair_of_pairTow skipped_eq
  have skipped_tow : skipped.tow = alone.tow := tow_of_pairTow skipped_eq
  have rolled := pairTow_rollBack sent
  have rolled_pair : (rollBack sent).pair = sent.pair := pair_of_pairTow rolled
  have rolled_tow : (rollBack sent).tow = sent.tow := tow_of_pairTow rolled
  have sent_proof : sent.tow.proof = skipped.tow.proof := by
    unfold sent
    rw [onTow_tow]
  have sent_pair : sent.pair = skipped.pair := by
    unfold sent
    rw [onTow_pair]
  have alone_tow : alone.tow = active.tow := onPair_tow ..
  have alone_pair : alone.pair = { active.pair with mirrorAlone := cause != .planned && cause != .proof } := onPair_pair ..
  have proof : (rollBack sent).tow.proof = some p := by rw [rolled_tow, sent_proof, skipped_tow, alone_tow, active_tow, seen_tow, hp]
  have ends : u = onTow (fun t => { t with proof := none }) (rollBack sent) := (if_neg room).trans (proofAfterTakeOver_ends proof ho h0 cause)
  rw [ends]
  refine ⟨rfl, ?_, ?_⟩
  · rw [onTow_pair, rolled_pair, sent_pair, skipped_pair, alone_pair, active_pair, activeFlags, seen_pair]
  · rw [onTow_pair, rolled_pair, sent_pair, skipped_pair, alone_pair, active_pair, activeFlags, seen_pair]

/-! ### PROOF_CHECK_TIMEOUT -/

/-- A module that hands over has no executions left, and is otherwise what it was towards the pair. -/
theorem handOver_reads (cause : SwitchCause) (safeSent : Bool) (s : State) : let u := handOver cause safeSent s
    u.tow.proof = s.tow.proof ∧ u.pair = s.pair ∧ u.tow.handoverSent = some (nowOf s, cause) ∧ u.ctl.execs = [] := ⟨rfl, rfl, rfl, rfl⟩

/-- A frame that is sent leaves the module's role and the proof. -/
theorem towSend_reads (x : TowPayload) (s : State) : (towSend x s).tow.proof = s.tow.proof ∧ (towSend x s).pair = s.pair ∧
    (towSend x s).mod = s.mod := ⟨rfl, rfl, rfl⟩

/-- The module as it asks for its role back: a proof of step 0 stands for one that has failed. -/
def wantsRole (p : Proof) (s : State) : State := onTow (fun x => { x with proof := some { p with step := 0 } }) s

/-- A module that has found its partner SUSPECT and wants its role back takes it, and the proof is at its end. -/
theorem takeOver_wantsRole {p : Proof} {s u : State} (ho : p.origin = true) (rise : CanRise 0 s)
    (work : KeeperWork (onPair (fun x => { x with partnerSuspect := true }) (onPair (fun x => { x with proofFailed := true })
      (onTow (fun x => { x with proof := none }) s))) u) (running : u.keeper.running = s.keeper.running) :
    let v := takeOver .proof false 0 (wantsRole p u)
    v.tow.proof = none ∧ v.pair.partnerSuspect = true ∧ v.pair.proofFailed = true ∧ Raised 0 s v := by
  obtain ⟨decides, awake, left⟩ := rise
  have sec : u.sec = s.sec := work.sec_eq
  have wants_decides : keeperDecides (wantsRole p u) = true := by
    rw [← decides]
    show (u.keeper.running && !u.sec.keeperHalted) = (s.keeper.running && !s.sec.keeperHalted)
    rw [running, sec]
  have wants_awake : (wantsRole p u).mod.power ≠ .nap := by
    rw [wantsRole, onTow_mod, work.mod_eq]
    exact awake
  have wants_pair : (wantsRole p u).pair = { s.pair with proofFailed := true, partnerSuspect := true } := work.pair_eq
  have wants_proof : (wantsRole p u).tow.proof = some { p with step := 0 } := rfl
  generalize wantsRole p u = wants at wants_decides wants_awake wants_pair wants_proof
  have wants_highest : wants.pair.highestClaim = s.pair.highestClaim := by rw [wants_pair]
  rw [Nat.max_zero, ← wants_highest] at left
  have role := rolePart_takeOver wants_decides wants_awake left .proof false 0
  have over_now : takeOver .proof false 0 wants = takeOverNow .proof false 0 wants := by
    rw [takeOver, if_neg (by simp [wants_decides]), if_neg wants_awake]
  obtain ⟨proof, suspect, failed⟩ := takeOverNow_ends_proof left wants_proof ho rfl .proof false 0
  rw [← over_now] at proof suspect failed
  have claim : wants.pair.highestClaim + 1 = max s.pair.highestClaim 0 + 1 := by rw [wants_highest, Nat.max_zero]
  intro v
  have role : rolePart v = _ := role
  refine ⟨proof, suspect.trans (by rw [wants_pair]), failed.trans (by rw [wants_pair]), raised_of_rolePart ?_ ?_ ?_⟩
  · rw [role]
  · rw [role, claim]
  · rw [role, claim]

section
variable {t : Nat} {s : State} {p : Proof} {k : ProofChecks} (hp : s.tow.proof = some p)
include hp

/-- What the checks of a proof come to. -/
theorem exec_proofCheckTimeout : exec (.proofCheckTimeout t k) s = .next (
    if p.step = 2 ∧ proofResult s k = 0 then
      onTow (fun x => { x with proof := some { p with step := 3, since := t } })
        (if p.origin then jmod p.journal (fun e => { e with step := 3 }) (atTime t s) else atTime t s)
    else if p.step = 2 ∧ p.origin = true then takeBack p (proofResult s k) (atTime t s)
    else if p.step = 2 ∧ s.mod.state = .active then handBack (atTime t s)
    else if p.step = 5 ∧ proofResult s k = 0 then passProof p (atTime t s)
    else if p.step = 5 ∧ p.origin = true then failBack p (proofResult s k) (atTime t s)
    else if p.step = 5 then onTow (fun x => { x with proof := none }) (atTime t s)
    else atTime t s) := by
  have runs : (atTime t s).tow.proof = some p := hp
  show execProofCheckTimeout t k s = _
  simp only [execProofCheckTimeout, runs]
  rfl

theorem leads_proofCheck_goes_on (h2 : p.step = 2) (hr : proofResult s k = 0) : Leads (.proofCheckTimeout t k) s fun s' =>
    s'.tow.proof = some { p with step := 3, since := t } ∧ s'.pair = s.pair := by
  refine ⟨_, exec_proofCheckTimeout hp, ?_⟩
  rw [if_pos ⟨h2, hr⟩]
  refine ⟨rfl, ?_⟩
  rw [onTow_pair]
  split
  · exact (keeperWork_jmod ..).pair_eq
  · rfl

theorem leads_proofCheck_passes (h5 : p.step = 5) (hr : proofResult s k = 0) : Leads (.proofCheckTimeout t k) s fun s' =>
    s'.tow.proof = none ∧ s'.tow.proofHours = s.path.hours ∧ s'.pair.suspect = false ∧ s'.pair.proofFailed = false ∧
      s'.pair.proofDue = false := by
  refine ⟨_, exec_proofCheckTimeout hp, ?_⟩
  rw [if_neg (by omega), if_neg (by omega), if_neg (by omega), if_pos ⟨h5, hr⟩]
  exact passProof_reads p (atTime t s)

theorem leads_proofCheck_fails_back (h5 : p.step = 5) (ho : p.origin = true) (hr : proofResult s k ≠ 0) :
    Leads (.proofCheckTimeout t k) s fun s' => s'.tow.proof = none ∧ s'.pair.proofFailed = true ∧ s'.pair.claim = s.pair.claim := by
  refine ⟨_, exec_proofCheckTimeout hp, ?_⟩
  have work := keeperWork_failProof p (proofResult s k) (atTime t s)
  rw [if_neg (by omega), if_neg (by omega), if_neg (by omega), if_neg fun h => hr h.2, if_pos ⟨h5, ho⟩, failBack]
  generalize failProof p (proofResult s k) (atTime t s) = u at work ⊢
  have proof : u.tow.proof = none := congrArg Tow.proof work.tow_eq
  have failed : u.pair.proofFailed = true := congrArg Pair.proofFailed work.pair_eq
  have claim : u.pair.claim = s.pair.claim := (congrArg Pair.claim work.pair_eq).trans rfl
  obtain ⟨kept, pair, -⟩ := handOver_reads .planned false u
  dsimp only
  split
  · exact ⟨kept.trans proof, (congrArg Pair.proofFailed pair).trans failed, (congrArg Pair.claim pair).trans claim⟩
  · exact ⟨proof, failed, claim⟩

/-- The partner's checks have failed: it is SUSPECT, and hands back where its partner can take the role. -/
theorem leads_proofCheck_hands_back (h2 : p.step = 2) (ho : p.origin = false) (hr : proofResult s k ≠ 0) (hs : s.mod.state = .active) :
    Leads (.proofCheckTimeout t k) s fun s' => s'.tow.proof = none ∧ s'.pair.suspect = true ∧ s'.pair.proofFailed = true ∧
      (partnerStandby s = true → s'.tow.handoverSent = some (nowOf (atTime t s), .proof) ∧ s'.ctl.execs = []) := by
  refine ⟨_, exec_proofCheckTimeout hp, ?_⟩
  rw [if_neg fun h => hr h.2, if_neg (by simp [ho]), if_pos ⟨h2, hs⟩, handBack]
  have work := keeperWork_pairChanged (fun x => { x with suspect := true, proofFailed := true })
    (onTow (fun x => { x with proof := none }) (atTime t s))
  dsimp only
  generalize pairChanged (fun x => { x with suspect := true, proofFailed := true })
    (onTow (fun x => { x with proof := none }) (atTime t s)) = u at work ⊢
  have standby : partnerStandby u = partnerStandby s := by
    rw [work]
    rfl
  have now : nowOf u = nowOf (atTime t s) := work.nowOf_eq
  have proof : u.tow.proof = none := congrArg Tow.proof work.tow_eq
  have suspect : u.pair.suspect = true := congrArg Pair.suspect work.pair_eq
  have failed : u.pair.proofFailed = true := congrArg Pair.proofFailed work.pair_eq
  obtain ⟨kept, pair, sent, execs⟩ := handOver_reads .proof false u
  rw [standby]
  split
  · exact ⟨kept.trans proof, (congrArg Pair.suspect pair).trans suspect, (congrArg Pair.proofFailed pair).trans failed,
      fun _ => ⟨by rw [sent, now], execs⟩⟩
  · next alone => exact ⟨proof, suspect, failed, fun h => absurd h alone⟩

/-- The module that began the proof takes its role back where a check of its partner's run has failed. -/
theorem leads_proofCheck_takes_back (h2 : p.step = 2) (ho : p.origin = true) (hr : proofResult s k ≠ 0) (rise : CanRise 0 s) :
    Leads (.proofCheckTimeout t k) s fun s' => s'.tow.proof = none ∧ s'.pair.partnerSuspect = true ∧ s'.pair.proofFailed = true ∧
      Raised 0 s s' := by
  have runs := exec_proofCheckTimeout (t := t) (k := k) hp
  rw [if_neg fun h => hr h.2, if_pos ⟨h2, ho⟩] at runs
  refine ⟨_, runs, ?_⟩
  unfold takeBack
  extract_lets instants suspected taken
  obtain ⟨proof, suspect, failed, active, claim, highest⟩ := takeOver_wantsRole ho (s := atTime t s) (u := suspected) rise
    (((keeperWork_failProof p (proofResult s k) (atTime t s)).onPair _).trans (keeperWork_pairChanged ..))
    ((running_pairChanged ..).trans (running_failProof ..))
  have taken_eq : takeOver .proof false 0 (wantsRole p suspected) = taken := rfl
  rw [taken_eq] at proof suspect failed active claim highest
  obtain ⟨sent_proof, pair, mod⟩ := towSend_reads (.handoverAck { newClaim := taken.pair.claim, appliedEpoch := taken.img.mirrored, instants := instants }) taken
  rw [if_pos active, sent_proof, Raised, pair, mod]
  exact ⟨proof, suspect, failed, active, claim, highest⟩

end

/-! ### The dwell, and when a proof falls due -/

section
variable {t : Nat} {s : State}

theorem leads_proofDwellExpiry {p : Proof} {period : Nat} (hp : s.tow.proof = some p) (h3 : p.step = 3) (ho : p.origin = false)
    (hs : s.mod.state = .active) (hf : fastestPeriod s = some period) (ht : p.since + p.dwell * period ≤ t) :
    Leads (.proofDwellExpiry t) s fun s' => s'.tow.proof = some { p with step := 4, since := t } ∧
      ∃ w, s'.tow.switch = some w ∧ w.isProof = true ∧ w.phase = .waitPoint := by
  let w : Switch := { journal := 0, phase := .waitPoint, requestedAt := t, isProof := true, isRelease := false }
  have runs : execProofDwellExpiry t s =
      .next (onTow (fun x => { x with proof := some { p with step := 4, since := t }, switch := some w }) (atTime t s)) := by
    have proof : (atTime t s).tow.proof = some p := hp
    have fastest : fastestPeriod (atTime t s) = some period := hf
    simp only [execProofDwellExpiry, proof, fastest]
    exact congrArg Host.Outcome.next (if_pos ⟨h3, ho, hs, ht⟩)
  exact ⟨_, runs, rfl, w, rfl, rfl, rfl⟩

theorem leads_proofDueExpiry (hd : 0 < cfg s P.proofDueDays) (ht : s.tow.proofHours + 24 * cfg s P.proofDueDays ≤ s.path.hours) :
    Leads (.proofDueExpiry t) s fun s' => s'.pair.proofDue = true := by
  have runs : execProofDueExpiry t s = .next (pairChanged (fun p => { p with proofDue := true }) (atTime t s)) :=
    congrArg Host.Outcome.next (if_pos ⟨hd, ht⟩)
  exact ⟨_, runs, congrArg Pair.proofDue (pair_pairChanged ..)⟩

/-! ### A node's claim that lags, and barges that never came to compare with, R156, R165 -/

theorem leads_nodeClaimLagCheck {node c : Nat} {n : Node} (hn : tget node s.net.nodes = some n) (hc : n.claimSentAt = some c)
    (hs : s.mod.state = .active) (hh : n.session.isSome = true) (hl : n.obeyedClaim < s.pair.claim) (ht : c + lagWait s ≤ t) :
    Leads (.nodeClaimLagCheck t node) s fun s' => s'.tow.nodeClaimLag = sat32 (s.tow.nodeClaimLag + 1) ∧
      tget node s'.net.nodes = some { n with lag := sat32 (n.lag + 1), claimSentAt := none } ∧ s'.pair = s.pair := by
  have runs : execNodeClaimLagCheck t node s = .next (
      onNet (fun x => { x with nodes := tmod node (fun y => { y with lag := sat32 (y.lag + 1), claimSentAt := none }) x.nodes })
        (onTow (fun w => { w with nodeClaimLag := sat32 (w.nodeClaimLag + 1) }) (atTime t s))) := by
    have found : tget node (atTime t s).net.nodes = some n := hn
    simp only [execNodeClaimLagCheck, found, hc]
    exact congrArg Host.Outcome.next (if_pos ⟨hs, hh, hl, ht⟩)
  refine ⟨_, runs, rfl, ?_, rfl⟩
  show tget node (tmod node _ s.net.nodes) = _
  rw [tget_tmod_same, hn]
  rfl

theorem leads_compareMissingTimeout {k : TaskId} {node release : Nat} {b : ShadowBarge} (hb : b ∈ s.tow.shadowBarges) (hk : b.task = k)
    (hn : b.node = node) (hr : b.release = release) (ht : release + 100000 ≤ t) : Leads (.compareMissingTimeout t k node release) s fun s' =>
      s'.tow.compareMissing = sat32 (s.tow.compareMissing + 1) ∧ s'.tow.mismatches = s.tow.mismatches ∧
      ∀ x, x ∈ s'.tow.shadowBarges ↔ x ∈ s.tow.shadowBarges ∧ ¬ (x.task = k ∧ x.node = node ∧ x.release = release) := by
  have waits : ((s.tow.shadowBarges.any fun x => x.task == k && x.node == node && x.release == release) && decide (release + 100000 ≤ t)) = true := by
    simp only [ht, decide_true, Bool.and_true, List.any_eq_true]
    exact ⟨b, hb, by simp [hk, hn, hr]⟩
  refine ⟨_, congrArg Host.Outcome.next (if_pos waits), rfl, rfl, fun x => ?_⟩
  show x ∈ List.filter _ s.tow.shadowBarges ↔ _
  rw [List.mem_filter]
  simp [imp_iff_not_or, or_assoc]

end

/-- Settles O25: the lanes by their events; a check that fails through the take-over or the hand-over that follows it. -/
theorem towLanesProofsAndLag : Obligations.TowLanesProofsAndLag := by
  refine ⟨fun t sl n s => ⟨leads_towLaneLost, leads_towSpareLaneJoined, exec_towLaneLost_other, exec_towSpareLaneJoined_other⟩,
    fun t s p k hp => ⟨leads_proofCheck_goes_on hp, leads_proofCheck_passes hp, leads_proofCheck_takes_back hp, leads_proofCheck_hands_back hp,
      leads_proofCheck_fails_back hp, fun period h3 ho hs hf ht => leads_proofDwellExpiry hp h3 ho hs hf ht, leads_proofDueExpiry⟩,
    fun t node c s n hn hc hs hh hl ht => leads_nodeClaimLagCheck hn hc hs hh hl ht,
    fun t k node release b s hb hk hn hr ht => leads_compareMissingTimeout hb hk hn hr ht⟩

end Sys2Proof.Machine
end

section
/-! Operations that have no part in the pair's flags: settings that take effect, programs that are installed, host changes, the entries of a
record, and the commits of a shadow step (R19, R107, R154, R347, R349, R422). -/

namespace Sys2Proof.Machine
open Sys2Proof

theorem pair_ite {c : Prop} [Decidable c] {s t u : State} (ht : t.pair = s.pair) (hu : u.pair = s.pair) : (if c then t else u).pair = s.pair := by
  split
  · exact ht
  · exact hu

theorem pair_foldl {α : Type} {f : State → α → State} (hf : ∀ s a, (f s a).pair = s.pair) (xs : List α) (s : State) :
    (xs.foldl f s).pair = s.pair := foldl_reads (F := State.pair) hf xs s

@[simp] theorem pair_stage (code source : Nat) (data : List Byte) (s : State) : (stage code source data s).pair = s.pair := onRecd_pair ..
@[simp] theorem pair_onTag (i : Nat) (g : Tag → Tag) (s : State) : (onTag i g s).pair = s.pair := onImg_pair ..
@[simp] theorem pair_clearPoison (address len : Nat) (s : State) : (clearPoison address len s).pair = s.pair := onBasin_pair ..
@[simp] theorem pair_voidTasks (ks : List TaskId) (s : State) : (voidTasks ks s).pair = s.pair := onImg_pair ..
@[simp] theorem pair_towSend (p : TowPayload) (s : State) : (towSend p s).pair = s.pair := onTow_pair ..
@[simp] theorem pair_jmod (id : Nat) (g : JnlEntry → JnlEntry) (s : State) : (jmod id g s).pair = s.pair := (keeperWork_jmod ..).pair_eq
@[simp] theorem pair_jend (id : Nat) (st : JnlState) (status : Nat) (s : State) : (jend id st status s).pair = s.pair := (keeperWork_jend ..).pair_eq

/-! ### Channels -/

@[simp] theorem pair_settleDio (c : Fin 16) (s : State) : (settleDio c s).pair = s.pair := onDio_pair ..
@[simp] theorem pair_openAio (c : Fin 8) (s : State) : (openAio c s).pair = s.pair := (stageFrame_openAio ..).pair
@[simp] theorem pair_safeAio (c : Fin 8) (s : State) : (safeAio c s).pair = s.pair := (stageFrame_safeAio ..).pair
@[simp] theorem pair_safeFo (n : Fin 4) (s : State) : (safeFo n s).pair = s.pair := (stageFrame_safeFo ..).pair

@[simp] theorem pair_settleDioMode (ids : List Nat) (c : Fin 16) (s : State) : (settleDioMode ids c s).pair = s.pair := by
  unfold settleDioMode
  exact pair_ite ((pair_settleDio ..).trans (onDio_pair ..)) (pair_ite (pair_settleDio ..) rfl)

@[simp] theorem pair_settleAioMode (ids : List Nat) (c : Fin 8) (s : State) : (settleAioMode ids c s).pair = s.pair := by
  unfold settleAioMode
  extract_lets outside idle
  have idles : idle.pair = s.pair := onAio_pair ..
  exact pair_ite (pair_ite ((pair_safeAio ..).trans idles) ((pair_openAio ..).trans idles)) (pair_ite (pair_safeAio ..) rfl)

@[simp] theorem pair_settleFo (ids : List Nat) (n : Fin 4) (s : State) : (settleFo ids n s).pair = s.pair := pair_ite (pair_safeFo ..) rfl

@[simp] theorem pair_abortBackground (b : Fin 14) (s : State) : (abortBackground b s).pair = s.pair := by
  unfold abortBackground abortRun
  split
  · split
    · rfl
    · simp
  · rfl

@[simp] theorem pair_endBatches (ch : Fin 2) (s : State) : (endBatches ch s).pair = s.pair := (stageFrame_endBatches ..).pair

@[simp] theorem pair_setCanMode (ch : Fin 2) (m : CanMode) (s : State) : (setCanMode ch m s).pair = s.pair := by
  unfold setCanMode
  extract_lets old ended served wake
  have to_ended : ended.pair = s.pair := pair_ite (pair_endBatches ..) rfl
  have to_served : served.pair = ended.pair := pair_ite (pair_abortBackground ..) rfl
  exact (onCan_pair ..).trans (to_served.trans to_ended)

@[simp] theorem pair_commitCan (ch : Fin 2) (ids : List Nat) (s : State) : (commitCan ch ids s).pair = s.pair := by
  unfold commitCan
  extract_lets enable timing dropped
  have to_dropped : dropped.pair = s.pair := onCan_pair ..
  exact pair_ite ((pair_setCanMode ..).trans to_dropped) (pair_ite ((pair_setCanMode ..).trans to_dropped)
    (pair_ite ((pair_setCanMode ..).trans ((onCan_pair ..).trans to_dropped)) to_dropped))

theorem pair_formObjects (k : TaskId) (release : Nat) (s : State) : (formObjects k release s).pair = s.pair :=
  pair_foldl (fun _ _ => pair_foldl (fun _ _ => pair_ite (onCan_pair ..) rfl) ..) ..

/-! ### Network, time and power -/

@[simp] theorem pair_settleKeys (entries : Tbl (List Byte)) (s : State) : (settleKeys entries s).pair = s.pair := by
  unfold settleKeys
  extract_lets keyed
  have to_keyed : keyed.pair = s.pair := by
    unfold keyed
    split
    · exact pair_ite rfl (onNet_pair ..)
    · rfl
  split
  · exact (onNet_pair ..).trans to_keyed
  · exact to_keyed

@[simp] theorem pair_settleTai (entries : Tbl (List Byte)) (s : State) : (settleTai entries s).pair = s.pair := by
  unfold settleTai
  split
  · exact pair_ite rfl (onTime_pair ..)
  · rfl

@[simp] theorem pair_settleGates (p : Fin 3) (ids : List Nat) (s : State) : (settleGates p ids s).pair = s.pair := by
  have schedules : (scheduleGcl p s).pair = s.pair := by
    unfold scheduleGcl
    exact pair_ite rfl (onPort_pair ..)
  exact pair_ite schedules rfl

@[simp] theorem pair_setPower (p : PowerState) (cause : Nat) (s : State) : (setPower p cause s).pair = s.pair := (stageFrame_setPower ..).pair

@[simp] theorem pair_settlePower (ids : List Nat) (s : State) : (settlePower ids s).pair = s.pair := pair_ite (pair_setPower ..) rfl

@[simp] theorem pair_holdCheck (s : State) : (holdCheck s).pair = s.pair := by
  unfold holdCheck
  split
  · rfl
  · exact pair_foldl (fun u i => pair_ite ((pair_stage ..).trans (onNet_pair ..)) (onNet_pair ..)) ..

/-! ### Settings that take effect -/

@[simp] theorem pair_applyAtCommit (entries : Tbl (List Byte)) (s : State) : (applyAtCommit entries s).pair = s.pair := by
  have dio (ids : List Nat) (u : State) : (eachDio (settleDioMode ids) u).pair = u.pair := pair_foldl (fun _ _ => pair_settleDioMode ..) ..
  have aio (ids : List Nat) (u : State) : (eachAio (settleAioMode ids) u).pair = u.pair := pair_foldl (fun _ _ => pair_settleAioMode ..) ..
  have fo (ids : List Nat) (u : State) : (each4 (settleFo ids) u).pair = u.pair := pair_foldl (fun _ _ => pair_settleFo ..) ..
  have can (ch : Fin 2) (ids : List Nat) (u : State) : (settleCan ch ids u).pair = u.pair := pair_commitCan ..
  unfold applyAtCommit
  extract_lets ids taken built timed gated bused staged
  have to_taken : taken.pair = s.pair := onSettings_pair ..
  have to_built : built.pair = s.pair := pair_ite ((onNet_pair ..).trans to_taken) to_taken
  simp only [pair_holdCheck, pair_settlePower, staged, fo, aio, dio, bused, can, gated, pair_settleGates, timed, pair_settleTai, pair_settleKeys,
    to_built]

theorem pair_applyImmediate (entries : Tbl (List Byte)) (s : State) : (applyImmediate entries s).pair = s.pair := rfl

theorem pair_rewriteCopies (s : State) : (rewriteCopies s).pair = s.pair := rfl

theorem pair_applySettings (r : MirrorRecord) (s : State) : (applySettings r s).pair = s.pair := by
  unfold applySettings
  exact pair_ite rfl ((pair_rewriteCopies _).trans ((pair_applyAtCommit ..).trans (pair_applyImmediate ..)))

/-! ### Tasks -/

@[simp] theorem pair_requestFullForm (k : TaskId) (s : State) : (requestFullForm k s).pair = s.pair :=
  pair_ite rfl ((pair_towSend ..).trans (onTask_pair ..))

@[simp] theorem pair_noteRunning (k : TaskId) (s : State) : (noteRunning k s).pair = s.pair := pair_ite rfl (onTask_pair ..)

@[simp] theorem pair_resumeNext (s : State) : (resumeNext s).pair = s.pair := by
  unfold resumeNext
  split
  · rfl
  · dsimp only
    split
    · rfl
    · split
      · exact onExecs_pair ..
      · rfl

@[simp] theorem pair_startTask (k : TaskId) (s : State) : (startTask k s).pair = s.pair := by
  unfold startTask
  exact (onImg_pair ..).trans ((onCtl_pair ..).trans (onTask_pair ..))

@[simp] theorem pair_stopTask (k : TaskId) (s : State) : (stopTask k s).pair = s.pair := by
  unfold stopTask
  exact pair_ite ((pair_resumeNext _).trans ((onExecs_pair ..).trans ((pair_voidTasks ..).trans (onTask_pair ..)))) (onTask_pair ..)

theorem pair_dropHeld (s : State) : (dropHeld s).pair = s.pair :=
  (pair_foldl (fun _ _ => pair_requestFullForm ..) ..).trans ((pair_resumeNext _).trans ((pair_voidTasks ..).trans (onExecs_pair ..)))

/-! ### Values and forces -/

@[simp] theorem pair_setWouldBe (i : Nat) (v : W64) (s : State) : (setWouldBe i v s).pair = s.pair := onImg_pair ..

@[simp] theorem pair_hostWrite (i : Nat) (v : W64) (epoch : Nat) (s : State) : (hostWrite i v epoch s).pair = s.pair := by
  unfold hostWrite
  split
  · rfl
  · exact pair_ite (pair_setWouldBe ..) ((pair_clearPoison ..).trans (pair_onTag ..))

@[simp] theorem pair_applyForce (i : Nat) (v : W64) (epoch : Nat) (s : State) : (applyForce i v epoch s).pair = s.pair := by
  unfold applyForce
  split
  · rfl
  · exact pair_ite ((pair_clearPoison ..).trans ((pair_onTag ..).trans (onImg_pair ..))) (onImg_pair ..)

@[simp] theorem pair_clearForce (i : Nat) (epoch : Nat) (s : State) : (clearForce i epoch s).pair = s.pair := by
  unfold clearForce
  extract_lets had cleared
  have to_cleared : cleared.pair = s.pair := onImg_pair ..
  split
  · exact pair_ite ((pair_clearPoison ..).trans ((pair_onTag ..).trans to_cleared)) to_cleared
  · exact to_cleared

@[simp] theorem pair_commitInst (n : Nat) (r : Inst) (s : State) : (commitInst n r s).pair = s.pair := by
  unfold commitInst
  dsimp only
  split
  · rfl
  · exact pair_ite rfl rfl

@[simp] theorem pair_takeSlot (x : SlotImage) (epoch : Nat) (s : State) : (takeSlot x epoch s).pair = s.pair := by
  unfold takeSlot
  split
  · rfl
  · exact (pair_clearPoison ..).trans (pair_onTag ..)

@[simp] theorem pair_commitCopy (i : Nat) (c : SlotCopy) (epoch : Nat) (s : State) : (commitCopy i c epoch s).pair = s.pair := by
  unfold commitCopy
  split
  · rfl
  · exact (pair_clearPoison ..).trans (pair_onTag ..)

@[simp] theorem pair_commitComputed (i : Nat) (v : W64) (tick epoch : Nat) (s : State) : (commitComputed i v tick epoch s).pair = s.pair := by
  unfold commitComputed
  split
  · rfl
  · exact (pair_commitCopy ..).trans (pair_ite (pair_setWouldBe ..) rfl)

@[simp] theorem pair_commitView (i : Nat) (v : ViewEntry) (epoch : Nat) (s : State) : (commitView i v epoch s).pair = s.pair := by
  unfold commitView
  split
  · rfl
  · extract_lets isB c noted
    have to_noted : noted.pair = s.pair := by
      unfold noted
      split
      · exact pair_setWouldBe ..
      · rfl
    exact (pair_clearPoison ..).trans ((pair_onTag ..).trans to_noted)

/-- What a shadow step commits. -/
theorem pair_commitExec (e : Exec) (epoch : Nat) (s : State) : (commitExec e epoch s).pair = s.pair :=
  (pair_foldl (fun _ _ => pair_commitInst ..) ..).trans ((pair_foldl (fun _ _ => pair_commitComputed ..) ..).trans
    (pair_foldl (fun _ _ => pair_commitView ..) ..))

theorem pair_retireExec (i : Nat) (s : State) : (retireExec i s).pair = s.pair := by
  unfold retireExec
  split
  · rfl
  · exact pair_ite (onExecs_pair ..) (onExecs_pair ..)

/-! ### Programs -/

@[simp] theorem pair_freeAio (old : Option Program) (s : State) : (freeAio old s).pair = s.pair := pair_foldl (fun _ _ => pair_ite (pair_safeAio ..) rfl) ..

@[simp] theorem pair_installProgram (new : Program) (staging : Tbl Inst) (epoch : Nat) (s : State) :
    (installProgram new staging epoch s).pair = s.pair := by
  unfold installProgram
  extract_lets old dropped unforced tags gone fresh stopped freed switched started
  have to_unforced : unforced.pair = s.pair := pair_foldl (fun u i => (pair_stage ..).trans (onImg_pair ..)) ..
  have to_stopped : stopped.pair = unforced.pair := pair_foldl (fun _ _ => pair_stopTask ..) ..
  have to_freed : freed.pair = stopped.pair := (pair_freeAio ..).trans (onImg_pair ..)
  have to_switched : switched.pair = freed.pair := onCtl_pair ..
  have to_started : started.pair = switched.pair := pair_ite (pair_foldl (fun _ _ => pair_startTask ..) ..) rfl
  rw [pair_holdCheck, to_started, to_switched, to_freed, to_stopped, to_unforced]

theorem pair_failExchange (id status reason : Nat) (s : State) : (failExchange id status reason s).pair = s.pair :=
  (pair_jend ..).trans ((onCtl_pair ..).trans (keeperWork_failureReport ..).pair_eq)

theorem pair_takeExchange (id epoch : Nat) (s : State) : (takeExchange id epoch s).1.pair = s.pair := by
  unfold takeExchange
  split
  · split
    · exact pair_failExchange ..
    · split
      · exact pair_failExchange ..
      · exact (pair_jmod ..).trans ((pair_installProgram ..).trans (pair_jmod ..))
  · rfl

theorem pair_takeCommit (id epoch : Nat) (s : State) : (takeCommit id epoch s).1.pair = s.pair := by
  unfold takeCommit
  split
  · rfl
  · exact (pair_jmod ..).trans ((pair_applyAtCommit ..).trans (onSettings_pair ..))

/-! ### Host changes of the standby, R349 -/

theorem pair_applyChange (c : HostChange) (epoch : Nat) (s : State) : (applyChange c epoch s).1.pair = s.pair := by
  unfold applyChange
  split
  case h_1 ws =>
    split
    · exact pair_jend ..
    · exact (pair_jmod ..).trans (pair_foldl (fun _ _ => pair_hostWrite ..) ..)
  case h_2 fs =>
    split
    · exact pair_jend ..
    · exact (pair_jmod ..).trans (pair_foldl (fun _ _ => pair_applyForce ..) ..)
  case h_3 tags all => exact (pair_jmod ..).trans (pair_foldl (fun _ _ => pair_clearForce ..) ..)
  case h_4 mask => exact (pair_jmod ..).trans (pair_foldl (fun _ _ => pair_ite (pair_startTask ..) rfl) ..)
  case h_5 mask => exact (pair_jmod ..).trans (pair_foldl (fun _ _ => pair_stopTask ..) ..)
  case h_6 => exact pair_takeCommit ..
  case h_7 => exact pair_takeExchange ..

theorem pair_applyList (epoch : Nat) (cs : List HostChange) (r : State × List MirrorEntry) : (applyList epoch cs r).1.pair = r.1.pair := by
  induction cs generalizing r with
  | nil => rfl
  | cons c cs ih => exact (ih _).trans (pair_applyChange ..)

theorem pair_standbyChanges (epoch : Nat) (s : State) : (standbyChanges epoch s).pair = s.pair := by
  unfold standbyChanges applyChanges
  dsimp only
  exact (onKeeper_pair ..).trans ((onSettings_pair ..).trans ((pair_applyList ..).trans (onKeeper_pair ..)))

/-! ### A migration that a step ends, R422 -/

theorem pair_beginMigration (logical cause : Nat) (s : State) : (beginMigration logical cause s).pair = s.pair := by
  unfold beginMigration
  dsimp only
  split
  · exact (pair_stage ..).trans (onBasin_pair ..)
  · exact (onBasin_pair ..).trans ((onBasin_pair ..).trans ((onBasin_pair ..).trans (pair_abortBackground ..)))

theorem pair_migrateAtStep (epoch : Nat) (s : State) : (migrateAtStep epoch s).pair = s.pair := by
  have checks (u : State) : (checkSpares u).pair = u.pair := pair_ite rfl rfl
  have next (u : State) : (nextMigration u).pair = u.pair := by
    unfold nextMigration
    split
    · exact (pair_beginMigration ..).trans (onBasin_pair ..)
    · rfl
  unfold migrateAtStep finishMigration
  split
  · refine pair_ite ?_ rfl
    split
    · rfl
    · exact (next _).trans ((checks _).trans rfl)
  · rfl

/-! ### The entries of a record, R154 -/

theorem pair_journalTasks (x : JnlEntry) (epoch : Nat) (s : State) : (journalTasks x epoch s).pair = s.pair := by
  unfold journalTasks
  exact pair_ite rfl (pair_ite (pair_foldl (fun _ _ => pair_ite (pair_startTask ..) rfl) ..)
    (pair_ite (pair_foldl (fun _ _ => pair_stopTask ..) ..) rfl))

theorem pair_applyEntry (epoch : Nat) (x : MirrorEntry) (s : State) : (applyEntry epoch x s).pair = s.pair := by
  cases x with
  | inst n r => exact pair_commitInst ..
  | slot i => exact pair_takeSlot ..
  | forceSet f => exact onImg_pair ..
  | forceClear i => exact onImg_pair ..
  | journal e => exact (pair_journalTasks ..).trans (onKeeper_pair ..)
  | exchange v old mask =>
    simp only [applyEntry]
    split
    · exact pair_installProgram ..
    · rfl
  | setting p v => rfl
  | undefinedType c => rfl

theorem pair_notePublished (r : MirrorRecord) (s : State) : (notePublished r s).pair = s.pair := by
  unfold notePublished
  extract_lets noted
  have to_noted : noted.pair = s.pair := by
    unfold noted
    split
    · exact pair_foldl (fun _ _ => onNet_pair ..) ..
    · rfl
  exact (onNet_pair ..).trans to_noted

end Sys2Proof.Machine
end

section
/-! What a module has heard of its partner stays through every operation that a heartbeat starts: supersession, faults, hand-overs, take-overs and
the records that a standby applies (R138, R145, R155, R160). -/

namespace Sys2Proof.Machine
open Sys2Proof

/-- What the module has heard of its partner: the last heartbeat, its instant, and whether the tow line is silent. -/
structure HeardPart where
  partner : Option Heartbeat
  lastHeartbeat : Option Nat
  silence : Bool

def heardPart (s : State) : HeardPart := { partner := s.pair.partner, lastHeartbeat := s.pair.lastHeartbeat, silence := s.pair.silence }

theorem heard_of_pair {s t : State} (h : t.pair = s.pair) : heardPart t = heardPart s := by
  rw [heardPart, h]
  rfl

/-- A change of the pair's flags that leaves what was heard. -/
theorem heard_onPair {g : Pair → Pair} (s : State)
    (hg : ∀ p, (g p).partner = p.partner ∧ (g p).lastHeartbeat = p.lastHeartbeat ∧ (g p).silence = p.silence := by exact fun _ => ⟨rfl, rfl, rfl⟩) :
    heardPart (onPair g s) = heardPart s := by
  obtain ⟨partner, last, silence⟩ := hg s.pair
  rw [heardPart, onPair_pair, partner, last, silence]
  rfl

theorem heard_pairChanged {g : Pair → Pair} (s : State)
    (hg : ∀ p, (g p).partner = p.partner ∧ (g p).lastHeartbeat = p.lastHeartbeat ∧ (g p).silence = p.silence := by exact fun _ => ⟨rfl, rfl, rfl⟩) :
    heardPart (pairChanged g s) = heardPart s := (heard_of_pair (keeperWork_pairChanged g s).pair_eq).trans (heard_onPair s hg)

theorem heard_ite {c : Prop} [Decidable c] {s t u : State} (ht : heardPart t = heardPart s) (hu : heardPart u = heardPart s) :
    heardPart (if c then t else u) = heardPart s := by
  split
  · exact ht
  · exact hu

/-! ### Roles that end -/

theorem pair_enterState (new : ModState) (cause : SwitchCause) (s : State) : (enterState new cause s).pair = s.pair := (enterState_reads new cause s).1

theorem pair_endSwitch (status : Nat) (cause : SwitchCause) (s : State) : (endSwitch status cause s).pair = s.pair := by
  unfold endSwitch
  split
  · exact (pair_jend ..).trans ((pair_jmod ..).trans (onTow_pair ..))
  · rfl

theorem heard_failProof (p : Proof) (check : Nat) (s : State) : heardPart (failProof p check s) = heardPart s :=
  (heard_of_pair (keeperWork_failProof p check s).pair_eq).trans ((heard_onPair _).trans (heard_of_pair (onTow_pair ..)))

theorem heard_endProof (s : State) : heardPart (endProof s) = heardPart s := by
  unfold endProof
  split
  · exact heard_ite (heard_failProof ..) (heard_of_pair (onTow_pair ..))
  · rfl

/-- The last part of being superseded: the state READY, no claim, no task. -/
theorem heard_supersede_end (s : State) : heardPart (stopTasks (dropClaim (enterState .ready .superseded s))) = heardPart s :=
  (heard_of_pair (onCtl_pair ..)).trans ((heard_onPair _).trans (heard_of_pair (pair_enterState ..)))

theorem heard_supersede (c : Nat) (s : State) : heardPart (supersede c s) = heardPart s := by
  unfold supersede
  extract_lets told yielded ended flagged quiet closed entered
  have to_told : told.pair = s.pair := pair_stage ..
  have to_yielded : yielded.pair = told.pair := (stageFrame_yieldStages ..).pair
  have to_ended : heardPart ended = heardPart yielded :=
    (heard_endProof _).trans (heard_of_pair ((pair_endSwitch ..).trans (pair_of_pairTow (pairTow_rollBack _))))
  have to_flagged : heardPart flagged = heardPart ended := heard_pairChanged _
  have to_closed : closed.pair = flagged.pair := (onTow_pair ..).trans (onNet_pair ..)
  exact (heard_supersede_end closed).trans ((heard_of_pair to_closed).trans (to_flagged.trans (to_ended.trans
    (heard_of_pair (to_yielded.trans to_told)))))

theorem heard_obeyClaim (c : Nat) (s : State) : heardPart (obeyClaim c s) = heardPart s :=
  heard_ite rfl (heard_ite (heard_supersede ..) (heard_of_pair (stageFrame_yieldStages ..).pair))

theorem heard_noteClaim (c : Nat) (s : State) : heardPart (noteClaim c s) = heardPart s := heard_onPair _

theorem heard_seeClaim (c : Nat) (s : State) : heardPart (seeClaim c s) = heardPart s := (heard_obeyClaim ..).trans (heard_noteClaim ..)

theorem heard_stopFaulted (s : State) : heardPart (stopFaulted s) = heardPart s := by
  unfold stopFaulted
  extract_lets ended
  have to_ended : heardPart ended = heardPart s := (heard_endProof _).trans (heard_of_pair ((pair_endSwitch ..).trans rfl))
  exact (heard_of_pair (pair_enterState ..)).trans to_ended

theorem heard_moduleFault (c : FaultCause) (s : State) : heardPart (moduleFault c s) = heardPart s := by
  have faulted : heardPart (setFault c s) = heardPart s := heard_of_pair (onMod_pair ..)
  have stopped : heardPart (stopFaulted (setFault c s)) = heardPart s := (heard_stopFaulted _).trans faulted
  unfold moduleFault
  split
  · split
    · rfl
    · split
      · have ends := (heard_endProof _).trans ((heard_of_pair (pair_endSwitch stRoleConflict .selfDeclared _)).trans faulted)
        exact (heard_of_pair (handOver_reads ..).2.1).trans ends
      · exact (heard_of_pair (onField_pair ..)).trans ((heard_of_pair (sendSafe_spec _).1.pair).trans stopped)
  · exact stopped
  · rfl

/-! ### Take-overs -/

theorem heard_proofAfterTakeOver (cause : SwitchCause) (s : State) : heardPart (proofAfterTakeOver cause s) = heardPart s := by
  unfold proofAfterTakeOver
  dsimp only
  split
  · split
    · exact heard_of_pair (onTow_pair ..)
    · split
      · exact heard_of_pair (onTow_pair ..)
      · split
        · exact heard_of_pair ((pair_jmod ..).trans (onTow_pair ..))
        · exact (heard_pairChanged _).trans (heard_failProof ..)
  · exact heard_ite (heard_of_pair (onTow_pair ..)) rfl

theorem heard_enterActive (cause : SwitchCause) (afterMiss : Bool) (notBefore : Nat) (s : State) :
    heardPart (enterActive cause afterMiss notBefore s) = heardPart s := by
  rw [heardPart, pair_enterActive]
  rfl

theorem heard_takeOverNow (cause : SwitchCause) (afterMiss : Bool) (notBefore : Nat) (s : State) :
    heardPart (takeOverNow cause afterMiss notBefore s) = heardPart s := by
  unfold takeOverNow
  extract_lets seen stopped former adopted active alone skipped sent
  have to_seen : heardPart seen = heardPart s := heard_pairChanged _
  have to_adopted : adopted.pair = seen.pair := onImg_pair ..
  have to_active : heardPart active = heardPart adopted := heard_enterActive ..
  have to_alone : heardPart alone = heardPart active := heard_onPair _
  have to_skipped : skipped.pair = alone.pair := pair_of_pairTow ((pairTow_skipJournalIds _).trans (pairTow_recordGap former alone))
  have to_sent : sent.pair = skipped.pair := onTow_pair ..
  refine heard_ite ?_ ?_
  · have to_stopped : stopped.pair = seen.pair := pair_stage ..
    exact (heard_of_pair ((onCtl_pair ..).trans ((onExecs_pair ..).trans ((pair_voidTasks ..).trans (pair_enterState ..))))).trans
      ((heard_of_pair to_stopped).trans to_seen)
  · calc heardPart (proofAfterTakeOver cause (rollBack sent))
      _ = heardPart sent := (heard_proofAfterTakeOver ..).trans (heard_of_pair (pair_of_pairTow (pairTow_rollBack _)))
      _ = heardPart alone := heard_of_pair (to_sent.trans to_skipped)
      _ = heardPart adopted := to_alone.trans to_active
      _ = heardPart s := (heard_of_pair to_adopted).trans to_seen

theorem heard_takeOver (cause : SwitchCause) (afterMiss : Bool) (notBefore : Nat) (s : State) :
    heardPart (takeOver cause afterMiss notBefore s) = heardPart s :=
  heard_ite rfl (heard_ite ((heard_of_pair (pair_setPower ..)).trans (heard_onPair _)) (heard_takeOverNow ..))

theorem pair_answerHandover (instants : List (TaskId × Nat)) (s : State) : (answerHandover instants s).pair = s.pair := by
  unfold answerHandover
  split
  · rfl
  · exact (pair_towSend ..).trans (onTow_pair ..)
  · exact pair_ite rfl (onTow_pair ..)

/-! ### Records that a standby applies -/

theorem heard_persisting (k : TaskId) (tick node : Nat) (wasDuplex : Bool) (s : State) : heardPart (persisting k tick node wasDuplex s) = heardPart s := by
  unfold persisting
  extract_lets told taken
  have to_told : heardPart told = heardPart s := heard_of_pair (pair_stage ..)
  have to_taken : heardPart taken = heardPart s := (heard_takeOver ..).trans to_told
  exact heard_ite to_told (heard_ite (heard_ite ((heard_of_pair (pair_towSend ..)).trans to_taken) to_taken) ((heard_pairChanged _).trans to_told))

theorem pair_watchPair (before s : State) : (watchPair before s).pair = s.pair := pair_ite rfl (onKeeper_pair ..)

theorem heard_mismatched (k : TaskId) (tick node : Nat) (isDuplex unmatched : Bool) (s : State) :
    heardPart (mismatched k tick node isDuplex unmatched s) = heardPart s := by
  unfold mismatched
  extract_lets x counted before again watched
  have to_counted : heardPart counted = heardPart s := heard_of_pair (onTow_pair ..)
  have to_watched : heardPart watched = heardPart s := (heard_of_pair ((pair_watchPair ..).trans (onTask_pair ..))).trans to_counted
  exact heard_ite to_counted (heard_ite ((heard_persisting ..).trans to_watched) to_watched)

theorem heard_shadowStep (r : MirrorRecord) (s : State) : heardPart (shadowStep r s) = heardPart s := by
  unfold shadowStep
  split
  · split
    · rfl
    · extract_lets same retired released asked fetched
      have to_retired : retired.pair = s.pair := (pair_retireExec ..).trans (pair_commitExec ..)
      have to_released : released.pair = retired.pair := onTask_pair ..
      have to_asked : asked.pair = released.pair := pair_ite rfl (pair_requestFullForm ..)
      have to_fetched : fetched.pair = asked.pair := pair_ite (pair_requestFullForm ..) rfl
      have whole : heardPart fetched = heardPart s := heard_of_pair (to_fetched.trans (to_asked.trans (to_released.trans to_retired)))
      exact heard_ite whole ((heard_mismatched ..).trans whole)
  · exact heard_ite rfl (heard_of_pair (pair_requestFullForm ..))
  · rfl

theorem heard_markMirrored (e : Nat) (s : State) : heardPart (markMirrored e s) = heardPart s := heard_of_pair (markMirrored_mod_pair ..).2

theorem heard_applyRecord (r : MirrorRecord) (s : State) : heardPart (applyRecord r s) = heardPart s := by
  unfold applyRecord
  extract_lets offset begun stepped entered changed moved settled published dated formed noted
  have to_begun : begun.pair = s.pair := by
    unfold begun
    split
    · exact (onExecs_pair ..).trans (pair_noteRunning ..)
    · rfl
  have to_stepped : heardPart stepped = heardPart begun := heard_shadowStep ..
  have to_entered : entered.pair = stepped.pair := pair_foldl (fun _ _ => pair_applyEntry ..) ..
  have to_changed : changed.pair = entered.pair := (pair_standbyChanges ..).trans (pair_applySettings ..)
  have to_moved : moved.pair = changed.pair := pair_migrateAtStep ..
  have to_settled : settled.pair = moved.pair := by
    unfold settled
    split
    · exact pair_ite (onTask_pair ..) rfl
    · rfl
  have to_dated : dated.pair = settled.pair := (onImg_pair ..).trans (pair_notePublished ..)
  have to_formed : formed.pair = dated.pair := by
    unfold formed
    split
    · exact pair_formObjects ..
    · rfl
  have to_noted : noted.pair = formed.pair := onTow_pair ..
  calc heardPart (noteClaim r.claim (markMirrored r.epoch noted))
    _ = heardPart noted := (heard_noteClaim ..).trans (heard_markMirrored ..)
    _ = heardPart stepped := heard_of_pair (to_noted.trans (to_formed.trans (to_dated.trans (to_settled.trans (to_moved.trans
          (to_changed.trans to_entered))))))
    _ = heardPart s := to_stepped.trans (heard_of_pair to_begun)

theorem heard_rejoin (s : State) : heardPart (rejoin s) = heardPart s := by
  unfold rejoin
  extract_lets emptied halted
  have to_halted : halted.pair = s.pair := (onExecs_pair ..).trans ((pair_voidTasks ..).trans ((pair_enterState ..).trans (onTow_pair ..)))
  exact (heard_pairChanged _).trans (heard_of_pair to_halted)

theorem heard_settleRecords (n : Nat) (s : State) : heardPart (settleRecords n s) = heardPart s := by
  induction n generalizing s with
  | zero => rfl
  | succ n ih =>
    unfold settleRecords
    split
    · rfl
    · extract_lets taken
      have to_taken : heardPart taken = heardPart s := heard_of_pair (onTow_pair ..)
      exact heard_ite rfl (heard_ite ((heard_rejoin _).trans to_taken) ((ih _).trans ((heard_applyRecord ..).trans to_taken)))

theorem heard_standbyStep (s : State) : heardPart (standbyStep s) = heardPart s := by
  have settled : heardPart (applyWaiting s) = heardPart s := heard_settleRecords ..
  have finished (h : Handover) (u : State) : heardPart (finishHandover h u) = heardPart u :=
    (heard_of_pair (pair_answerHandover ..)).trans (heard_takeOver ..)
  unfold standbyStep
  extract_lets applied
  split
  · exact heard_ite ((finished ..).trans settled) settled
  · exact settled

/-! ### What a heartbeat means to each role -/

theorem heard_settleMirror (s : State) : heardPart (settleMirror s) = heardPart s := heard_ite (heard_markMirrored ..) rfl

theorem heard_serveCatchup (s : State) : heardPart (serveCatchup s) = heardPart s := by
  unfold serveCatchup
  extract_lets cs told epoch noted sent
  have to_told : heardPart told = heardPart s := (heard_pairChanged _).trans (heard_of_pair (onTow_pair ..))
  have to_noted : noted.pair = told.pair := onCtl_pair ..
  have to_sent : sent.pair = noted.pair := pair_foldl (fun _ _ => pair_towSend ..) ..
  exact (heard_of_pair ((pair_towSend ..).trans (to_sent.trans to_noted))).trans to_told

theorem heard_heartbeatActive (wasSilent : Bool) (hb : Heartbeat) (s : State) : heardPart (heartbeatActive wasSilent hb s) = heardPart s := by
  unfold heartbeatActive
  extract_lets unserved caught released waited
  have to_caught : heardPart caught = heardPart s := (heard_pairChanged _).trans ((heard_onPair _).trans (heard_of_pair (onTow_pair ..)))
  have to_released : heardPart released = heardPart s := (heard_of_pair (onTow_pair ..)).trans ((heard_markMirrored ..).trans to_caught)
  have to_waited : heardPart waited = heardPart s := heard_ite ((heard_settleMirror _).trans (heard_onPair _)) rfl
  exact heard_ite (heard_supersede ..) (heard_ite (heard_ite ((heard_moduleFault ..).trans to_released) to_released)
    (heard_ite ((heard_serveCatchup _).trans to_waited) to_waited))

theorem heard_heartbeatStandby (hb : Heartbeat) (s : State) : heardPart (heartbeatStandby hb s) = heardPart s := by
  have stepped : heardPart (standbyStep (dropHeld s)) = heardPart s := (heard_standbyStep _).trans (heard_of_pair (pair_dropHeld _))
  exact heard_ite ((heard_takeOver ..).trans stepped) stepped

theorem heard_dropOffer (s : State) : heardPart (dropOffer s) = heardPart s := by
  unfold dropOffer
  split
  · exact (heard_of_pair (pair_jend ..)).trans (heard_onPair _)
  · rfl

theorem heard_settleOffer (hb : Heartbeat) (s : State) : heardPart (settleOffer hb s) = heardPart s :=
  heard_ite (heard_dropOffer _) (heard_ite (heard_ite (heard_onPair _) (heard_dropOffer _)) rfl)

theorem heard_heartbeatReady (hb : Heartbeat) (s : State) : heardPart (heartbeatReady hb s) = heardPart s := by
  have settled := heard_settleOffer hb s
  have begins : heardPart (pairChanged (fun p => { p with catchingUp := true })
      (onTow (fun w => { w with catchup := some { chunks := [], queued := [] } }) (settleOffer hb s))) = heardPart s :=
    (heard_pairChanged _).trans ((heard_of_pair (onTow_pair ..)).trans settled)
  have ends : heardPart (pairChanged (fun p => { p with catchingUp := false }) (onTow (fun w => { w with catchup := none }) (settleOffer hb s))) = heardPart s :=
    (heard_pairChanged _).trans ((heard_of_pair (onTow_pair ..)).trans settled)
  exact heard_ite (heard_ite settled begins) (heard_ite ends settled)

end Sys2Proof.Machine
end

section
/-! Heartbeats in and out, and the frames of the tow line that are not the next in sequence (R138, R144, R145, R147, R160). -/

namespace Sys2Proof.Machine
open Sys2Proof

/-! ### Heartbeats in -/

/-- What a valid heartbeat means to the role that the module has when it has obeyed the claim. -/
def heed (wasSilent : Bool) (hb : Heartbeat) (s : State) : State :=
  match s.mod.state with
  | .active => heartbeatActive wasSilent hb s
  | .standby => heartbeatStandby hb s
  | .ready => heartbeatReady hb s
  | .stoppedFault => settleOffer hb s
  | _ => s

theorem heard_heed (wasSilent : Bool) (hb : Heartbeat) (s : State) : heardPart (heed wasSilent hb s) = heardPart s := by
  unfold heed
  split
  · exact heard_heartbeatActive ..
  · exact heard_heartbeatStandby ..
  · exact heard_heartbeatReady ..
  · exact heard_settleOffer ..
  · rfl

theorem heed_sound {s0 s : State} (wasSilent : Bool) (hb : Heartbeat) (h : Sound s0 s) : Sound s0 (heed wasSilent hb s) := by
  unfold heed
  split
  · exact heartbeatActive_sound _ _ _ h
  · exact heartbeatStandby_sound _ _ h
  · exact heartbeatReady_sound _ _ h
  · exact settleOffer_sound _ _ h
  · exact h

/-- A claim that is noted is obeyed and heeded: what was heard stays, and the highest claim is no lower than the one noted. -/
theorem heed_reads (wasSilent : Bool) (hb : Heartbeat) (c : Nat) (s : State) :
    let u := heed wasSilent hb (seeClaim hb.claim (noteClaim c s))
    heardPart u = heardPart s ∧ max s.pair.highestClaim c ≤ u.pair.highestClaim :=
  ⟨(heard_heed ..).trans ((heard_seeClaim ..).trans (heard_noteClaim ..)), (heed_sound _ _ (seeClaim_sound _ _ (.refl (noteClaim c s)))).claim⟩

theorem pair_followStream (n : Nat) (s : State) : (followStream n s).pair = s.pair :=
  pair_ite (onTow_pair ..) (pair_ite (pair_towSend ..) rfl)

theorem validHeartbeat_reads (t : Nat) (fr : TowHdr) (hb : Heartbeat) (s : State) : let u := validHeartbeat t fr hb s
    heardPart u = { partner := some hb, lastHeartbeat := some t, silence := false } ∧
      max s.pair.highestClaim (max hb.claim hb.highestClaim) ≤ u.pair.highestClaim := by
  unfold validHeartbeat
  extract_lets wasSilent near pairs followed told heard noted seen
  have to_followed : followed.pair = s.pair := pair_followStream ..
  have to_told : told.pair = _ := pair_pairChanged _ followed
  have to_heard : (forgetZeroStatus heard).pair = heard.pair := onNet_pair ..
  have taken : heardPart (forgetZeroStatus heard) = { partner := some hb, lastHeartbeat := some t, silence := false } :=
    (heard_of_pair to_heard).trans (by rw [heardPart, onPair_pair, to_told])
  have high : (forgetZeroStatus heard).pair.highestClaim = s.pair.highestClaim := by rw [to_heard, onPair_pair, to_told, to_followed]
  obtain ⟨stays, rises⟩ := heed_reads wasSilent hb (max hb.claim hb.highestClaim) (forgetZeroStatus heard)
  rw [high] at rises
  exact ⟨stays.trans taken, rises⟩

theorem mod_stage (code source : Nat) (data : List Byte) (s : State) : (stage code source data s).mod = s.mod := onRecd_mod ..

/-- A heartbeat of another owner: the mismatch is recorded once (R138). -/
def hearForeign (fr : TowHdr) (s : State) : State :=
  let s := onPair (fun p => { p with heardHeartbeat := true }) s
  if s.pair.ownerMismatch then s
  else stage 0x0602 srcModule (le2 (ownerId s) ++ le2 fr.owner) (pairChanged (fun p => { p with ownerMismatch := true }) s)

theorem hearForeign_reads (fr : TowHdr) (s : State) : (hearForeign fr s).pair.partner = s.pair.partner ∧
    (hearForeign fr s).pair.ownerMismatch = true ∧ (hearForeign fr s).pair.lastHeartbeat = s.pair.lastHeartbeat ∧
    (hearForeign fr s).mod = s.mod ∧ (hearForeign fr s).img = s.img := by
  unfold hearForeign
  extract_lets heard
  split
  · next known => exact ⟨rfl, known, rfl, rfl, rfl⟩
  · have work := keeperWork_pairChanged (fun p : Pair => { p with ownerMismatch := true }) heard
    rw [pair_stage, work.pair_eq]
    exact ⟨rfl, rfl, rfl, (mod_stage ..).trans work.mod_eq, (stageFrame_stage ..).img.trans work.img_eq⟩

section
variable {t : Nat} {fr : TowHdr} {hb : Heartbeat} {s : State} (hu : s.tow.up = true)
include hu

theorem leads_heartbeatSend : Leads (.heartbeatSend t) s fun s' => s' = { s with tow := { s.tow with sent := s'.tow.sent }, time := s'.time } ∧
    ∃ h, s'.tow.sent = s.tow.sent ++ [towFrame (ownerId s) (mirrorFormat s) s.tow.seqOut (.heartbeat h)] ∧
      h.state = (if joinBarred s then 3 else stateCode s.mod.state) ∧ h.suspect = s.pair.suspect ∧ h.claim = s.pair.claim ∧
      h.completed = s.img.epoch ∧ h.mirrored = s.img.mirrored := by
  have runs : exec (.heartbeatSend t) s = .next (onTow (fun w =>
      { w with sent := w.sent ++ [towFrame (ownerId s) (mirrorFormat s) s.tow.seqOut (.heartbeat (ownHeartbeat (atTime t s)))] }) (atTime t s)) :=
    congrArg Host.Outcome.next (if_pos hu)
  exact ⟨_, runs, rfl, ownHeartbeat (atTime t s), rfl, rfl, rfl, rfl, rfl, rfl⟩

theorem exec_heartbeatReceive_valid (hc : fr.crcOk = true) (ho : fr.owner = ownerId s) :
    exec (.heartbeatReceive t fr hb) s = .next (validHeartbeat t fr hb (atTime t s)) := by
  have own : fr.owner = ownerId (atTime t s) := ho
  show execHeartbeatReceive t fr hb s = _
  simp only [execHeartbeatReceive, atTime_tow, hu, hc, own, Bool.not_true, Bool.false_eq_true, ne_eq, not_true_eq_false, if_false]

theorem leads_heartbeatReceive_valid (hc : fr.crcOk = true) (ho : fr.owner = ownerId s) : Leads (.heartbeatReceive t fr hb) s fun s' =>
    s'.pair.partner = some hb ∧ s'.pair.lastHeartbeat = some t ∧ s'.pair.silence = false ∧
      max s.pair.highestClaim (max hb.claim hb.highestClaim) ≤ s'.pair.highestClaim := by
  obtain ⟨heard, rises⟩ := validHeartbeat_reads t fr hb (atTime t s)
  exact ⟨_, exec_heartbeatReceive_valid hu hc ho, congrArg HeardPart.partner heard, congrArg HeardPart.lastHeartbeat heard,
    congrArg HeardPart.silence heard, rises⟩

theorem exec_heartbeatReceive_foreign (hc : fr.crcOk = true) (ho : fr.owner ≠ ownerId s) :
    exec (.heartbeatReceive t fr hb) s = .next (hearForeign fr (atTime t s)) := by
  have other : fr.owner ≠ ownerId (atTime t s) := ho
  show execHeartbeatReceive t fr hb s = _
  simp only [execHeartbeatReceive, atTime_tow, hu, hc, Bool.not_true, Bool.false_eq_true, if_false, if_pos other]
  rfl

theorem leads_heartbeatReceive_foreign (hc : fr.crcOk = true) (ho : fr.owner ≠ ownerId s) : Leads (.heartbeatReceive t fr hb) s fun s' =>
    s'.pair.partner = s.pair.partner ∧ s'.pair.ownerMismatch = true ∧ s'.pair.lastHeartbeat = s.pair.lastHeartbeat ∧ s'.mod = s.mod ∧
      s'.img = s.img := ⟨_, exec_heartbeatReceive_foreign hu hc ho, hearForeign_reads fr (atTime t s)⟩

theorem leads_heartbeatReceive_damaged (hc : fr.crcOk = false) : Leads (.heartbeatReceive t fr hb) s fun s' =>
    s' = { s with tow := { s.tow with crcErrors := sat32 (s.tow.crcErrors + 1) }, time := s'.time } := by
  have runs : exec (.heartbeatReceive t fr hb) s = .next (onTow (fun w => { w with crcErrors := sat32 (w.crcErrors + 1) }) (atTime t s)) := by
    show execHeartbeatReceive t fr hb s = _
    simp only [execHeartbeatReceive, atTime_tow, hu, hc, Bool.not_true, Bool.not_false, Bool.false_eq_true, if_false, if_true]
  exact ⟨_, runs, rfl⟩

end

/-! ### Frames that are not the next -/

/-- A frame of the partner, whole, while the tow line carries the pair. -/
structure FromPartner (fr : TowHdr) (s : State) : Prop where
  up : s.tow.up = true
  crc : fr.crcOk = true
  owner : fr.owner = ownerId s
  paired : s.pair.paired = true

theorem FromPartner.atTime {fr : TowHdr} {s : State} (h : FromPartner fr s) (t : Nat) : FromPartner fr (atTime t s) :=
  ⟨h.up, h.crc, h.owner, h.paired⟩

section
variable {fr : TowHdr} {s : State} (h : FromPartner fr s)
include h

theorem withFrame_of_old (old : fr.sequence ≤ s.tow.seqIn) (asks : Bool) (g : State → State) : withFrame fr asks g s = s := by
  obtain ⟨up, crc, owner, paired⟩ := h
  simp [withFrame, acceptTow, up, crc, owner, pairedNow, paired, old]

theorem withFrame_of_gap (gap : s.tow.seqIn + 1 < fr.sequence) (asks : Bool) (g : State → State) :
    withFrame fr asks g s = nackResend (s.tow.seqIn + 1) s := by
  obtain ⟨up, crc, owner, paired⟩ := h
  have new : ¬ fr.sequence ≤ s.tow.seqIn := by omega
  simp [withFrame, acceptTow, up, crc, owner, pairedNow, paired, new, gap]

theorem behindGap_eq : behindGap fr s = decide (s.tow.seqIn + 1 < fr.sequence) := by
  obtain ⟨up, crc, owner, paired⟩ := h
  simp [behindGap, up, crc, owner, pairedNow, paired]

end

/-- What a module still is that asks for the frames it has lost: the image but for the epoch observed, its tasks and its role. -/
structure OnlyAsks (n : Nat) (s u : State) : Prop where
  seqIn : u.tow.seqIn = s.tow.seqIn
  img : u.img = { s.img with observed := u.img.observed }
  ctl : u.ctl = s.ctl
  mod : u.mod = s.mod
  sent : u.tow.sent = s.tow.sent ++ [towFrame (ownerId s) (mirrorFormat s) (s.tow.seqOut + 1) (.nack (.resend n))]

theorem onlyAsks_nackResend (n t : Nat) (s : State) : OnlyAsks n s (nackResend n (atTime t s)) := ⟨rfl, rfl, rfl, rfl, rfl⟩

theorem onlyAsks_noteHandover (ho : Handover) (n t : Nat) (s : State) : OnlyAsks n s (noteHandover ho (nackResend n (atTime t s))) :=
  ⟨rfl, rfl, rfl, rfl, rfl⟩

/-- The frames of the tow line other than a heartbeat. -/
def isTowFrame (t : Nat) (fr : TowHdr) (k : Instr) : Prop :=
  (∃ m, k = .manifestReceive t fr m) ∨ (∃ a, k = .agreementReceive t fr a) ∨ (∃ r, k = .mirrorReceive t fr r) ∨
    (∃ n, k = .nackReceive t fr n) ∨ (∃ h, k = .handoverReceive t fr h) ∨ (∃ a, k = .handoverAckReceive t fr a) ∨
    (∃ e c, k = .catchupReceive t fr e c)

/-- The frames that a module takes across a gap: of a HANDOVER its arrival, and the copy that the active begins anew, both in `STANDBY`. -/
def acrossGap (t : Nat) (fr : TowHdr) (k : Instr) (s : State) : Prop :=
  behindGap fr s = true ∧ s.mod.state = .standby ∧
    ((∃ h, k = .handoverReceive t fr h) ∨ ∃ e c, k = .catchupReceive t fr e c ∧ beginsCopy c = true)

section
variable {t : Nat} {fr : TowHdr} {s : State} {k : Instr}

/-- Every other frame goes by its sequence alone. -/
theorem exec_towFrame (hk : isTowFrame t fr k) (plain : ¬ acrossGap t fr k s) :
    ∃ asks g, exec k s = .next (withFrame fr asks g (atTime t s)) := by
  obtain ⟨m, rfl⟩ | ⟨a, rfl⟩ | ⟨r, rfl⟩ | ⟨n, rfl⟩ | ⟨h, rfl⟩ | ⟨a, rfl⟩ | ⟨e, c, rfl⟩ := hk
  · exact ⟨_, _, rfl⟩
  · exact ⟨_, _, rfl⟩
  · exact ⟨_, _, rfl⟩
  · exact ⟨_, _, rfl⟩
  · refine ⟨_, _, congrArg Host.Outcome.next (if_neg fun both => plain ?_)⟩
    obtain ⟨gap, standby⟩ := (Bool.and_eq_true_iff ..).1 both
    exact ⟨gap, beq_iff_eq.1 standby, .inl ⟨h, rfl⟩⟩
  · exact ⟨_, _, rfl⟩
  · refine ⟨_, _, congrArg Host.Outcome.next (if_neg fun all => plain ?_)⟩
    obtain ⟨standby, begins, gap⟩ := all
    exact ⟨gap, standby, .inr ⟨e, c, rfl, begins⟩⟩

theorem exec_towFrame_old (h : FromPartner fr s) (hk : isTowFrame t fr k) (old : fr.sequence ≤ s.tow.seqIn) : exec k s = .next (atTime t s) := by
  have plain : ¬ acrossGap t fr k s := fun ⟨gap, _⟩ => by
    rw [behindGap_eq h, decide_eq_true_eq] at gap
    omega
  obtain ⟨asks, g, runs⟩ := exec_towFrame hk plain
  rw [runs, withFrame_of_old (h.atTime t) old]

theorem leads_towFrame_gap (h : FromPartner fr s) (hk : isTowFrame t fr k) (gap : s.tow.seqIn + 1 < fr.sequence)
    (begun : s.mod.state = .standby → ∀ e c, k = .catchupReceive t fr e c → beginsCopy c = false) :
    Leads k s (OnlyAsks (s.tow.seqIn + 1) s) := by
  by_cases across : acrossGap t fr k s
  · obtain ⟨behind, standby, ⟨ho, rfl⟩ | ⟨e, c, rfl, begins⟩⟩ := across
    · have both : (behindGap fr (atTime t s) && (atTime t s).mod.state == .standby) = true :=
        (Bool.and_eq_true_iff ..).2 ⟨behind, beq_iff_eq.2 standby⟩
      exact ⟨_, congrArg Host.Outcome.next (if_pos both), onlyAsks_noteHandover ..⟩
    · exact Bool.noConfusion ((begun standby e c rfl).symm.trans begins)
  · obtain ⟨asks, g, runs⟩ := exec_towFrame hk across
    rw [withFrame_of_gap (h.atTime t) gap] at runs
    exact ⟨_, runs, onlyAsks_nackResend ..⟩

end

/-! ### The copy that the active begins anew -/

theorem rejoin_reads (s : State) : (rejoin s).mod.state = .ready ∧ (rejoin s).ctl.execs = [] ∧ (rejoin s).tow.seqIn = s.tow.seqIn ∧
    (rejoin s).tow.catchup = some { chunks := [], queued := [] } := by
  unfold rejoin
  extract_lets emptied halted
  have work := keeperWork_pairChanged (fun p : Pair => { p with catchingUp := true }) halted
  have ready : halted.mod.state = .ready := state_enterState .ready .none emptied
  have tow : halted.tow = emptied.tow := tow_enterState .ready .none emptied
  rw [work.mod_eq, work.ctl_eq, work.tow_eq, onPair_mod, onPair_ctl, onPair_tow, tow]
  exact ⟨ready, rfl, rfl, rfl⟩

/-- A standby that is sent the first chunk of a copy leaves its role, and keeps the chunk. -/
theorem takeChunk_standby {s : State} (standby : s.mod.state = .standby) (t e : Nat) (data : List Byte) (ps : List Nat) :
    takeChunk t e (.code 0 data ps) s =
      onTow (fun w => { w with catchup := some { chunks := [(e, .code 0 data ps)], queued := [] } }) (rejoin s) := by
  obtain ⟨-, -, -, empty⟩ := rejoin_reads s
  simp only [takeChunk, standby, if_true, empty, List.nil_append]

theorem catchup_kept {s : State} (c : CatchUp) (ready : s.mod.state = .ready) (idle : s.ctl.execs = []) :
    let u := onTow (fun w => { w with catchup := some c }) s
    u.tow.seqIn = s.tow.seqIn ∧ u.mod.state = .ready ∧ u.ctl.execs = [] ∧ u.tow.catchup = some c := ⟨rfl, ready, idle, rfl⟩

theorem takeChunk_standby_reads {s : State} (standby : s.mod.state = .standby) (t e : Nat) (data : List Byte) (ps : List Nat) :
    let u := takeChunk t e (.code 0 data ps) s
    u.tow.seqIn = s.tow.seqIn ∧ u.mod.state = .ready ∧ u.ctl.execs = [] ∧
      u.tow.catchup = some { chunks := [(e, .code 0 data ps)], queued := [] } := by
  obtain ⟨ready, idle, sequence, -⟩ := rejoin_reads s
  have kept := catchup_kept { chunks := [(e, .code 0 data ps)], queued := [] } ready idle
  rw [← takeChunk_standby standby t e data ps, sequence] at kept
  exact kept

theorem leads_copyAnew {t e : Nat} {fr : TowHdr} {s : State} {data : List Byte} {ps : List Nat} (h : FromPartner fr s)
    (gap : s.tow.seqIn + 1 < fr.sequence) (standby : s.mod.state = .standby) :
    Leads (.catchupReceive t fr e (.code 0 data ps)) s fun s' => s'.tow.seqIn = fr.sequence ∧ s'.mod.state = .ready ∧ s'.ctl.execs = [] ∧
      s'.tow.catchup = some { chunks := [(e, .code 0 data ps)], queued := [] } := by
  have behind : behindGap fr (atTime t s) = true := (behindGap_eq (h.atTime t)).trans (decide_eq_true gap)
  have runs : exec (.catchupReceive t fr e (.code 0 data ps)) s =
      .next (takeChunk t e (.code 0 data ps) (onTow (fun w => { w with seqIn := fr.sequence }) (atTime t s))) :=
    congrArg Host.Outcome.next (if_pos ⟨standby, rfl, behind⟩)
  exact ⟨_, runs, takeChunk_standby_reads (s := onTow _ (atTime t s)) standby t e data ps⟩

/-- Settles O23, a heartbeat by what was heard of the partner and every other frame by its sequence. -/
theorem heartbeatsAndTowFrames : Obligations.HeartbeatsAndTowFrames := by
  unfold Obligations.HeartbeatsAndTowFrames
  refine ⟨fun t fr hb s hu => ⟨leads_heartbeatSend hu, fun hc ho => leads_heartbeatReceive_valid hu hc ho,
    fun hc ho => leads_heartbeatReceive_foreign hu hc ho, fun hc => leads_heartbeatReceive_damaged hu hc⟩, fun t fr s k hu hc ho hp hk => ?_⟩
  have h : FromPartner fr s := ⟨hu, hc, ho, hp⟩
  refine ⟨exec_towFrame_old h hk, fun gap begun => ?_, ?_⟩
  · obtain ⟨u, runs, asks⟩ := leads_towFrame_gap h hk gap begun
    exact ⟨u, runs, asks.seqIn, asks.img, asks.ctl, asks.mod, asks.sent⟩
  · rintro gap standby e data ps rfl
    exact leads_copyAnew h gap standby

end Sys2Proof.Machine
end

section
/-! Trigger units and the strobe: what a unit's firing does to its unit and to the stages, and what a strobe applies, drops and keeps (R231 to
R235, R253 to R255). -/

namespace Sys2Proof.Machine
open Sys2Proof

/-! ### What an action changes of the field zone -/

/-- From `s` to `t` only FO channels changed. -/
abbrev FoWork (s t : State) : Prop := t = onField (fun f => { f with fo := t.field.fo }) s

/-- From `s` to `t` only DIO and AIO channels changed, and what a `SAFE` command left in force. -/
abbrev OutputWork (s t : State) : Prop := t = onField (fun f =>
  { f with dio := t.field.dio, aio := t.field.aio, safeUntilRelease := t.field.safeUntilRelease, safeInForce := t.field.safeInForce }) s

theorem FoWork.trans {s t u : State} (h : FoWork s t) (k : FoWork t u) : FoWork s u := by
  rw [k, h]
  rfl

theorem FoWork.foldl {α : Type} {f : State → α → State} (hf : ∀ s a, FoWork s (f s a)) (xs : List α) (s : State) :
    FoWork s (xs.foldl f s) := by
  induction xs generalizing s with
  | nil => rfl
  | cons x xs ih => exact (hf s x).trans (ih _)

theorem OutputWork.trans {s t u : State} (h : OutputWork s t) (k : OutputWork t u) : OutputWork s u := by
  rw [k, h]
  rfl

theorem OutputWork.foldl {α : Type} {f : State → α → State} (hf : ∀ s a, OutputWork s (f s a)) (xs : List α) (s : State) :
    OutputWork s (xs.foldl f s) := by
  induction xs generalizing s with
  | nil => rfl
  | cons x xs ih => exact (hf s x).trans (ih _)

theorem foWork_applyFo (n : Fin 4) (v : Bool) (s : State) : FoWork s (applyFo n v s) := by
  unfold applyFo
  split <;> rfl

theorem foWork_onFo (n : Fin 4) (g : Fo → Fo) (s : State) : FoWork s (onFo n g s) := rfl

theorem outputWork_onDio (c : Fin 16) (g : Dio → Dio) (s : State) : OutputWork s (onDio c g s) := rfl
theorem outputWork_onAio (c : Fin 8) (g : Aio → Aio) (s : State) : OutputWork s (onAio c g s) := rfl
theorem outputWork_openAio (c : Fin 8) (s : State) : OutputWork s (openAio c s) := rfl

theorem outputWork_applyDio (c : Fin 16) (v : Bool) (s : State) : OutputWork s (applyDio c v s) := by
  unfold applyDio
  split <;> rfl

theorem outputWork_applyAio (c : Fin 8) (v : W64) (s : State) : OutputWork s (applyAio c v s) := by
  unfold applyAio
  split
  · rfl
  · split <;> rfl

/-- An update drives DIO and AIO channels, and takes a `SAFE` command out of force. -/
theorem outputWork_applyUpdate (late : Bool) (u : FieldUpdate) (s : State) : OutputWork s (applyUpdate late u s) := by
  have dio (v : State) (p : Fin 16 × Bool) : OutputWork v
      (applyDio p.1 p.2 (onDio p.1 (fun d => { d with lateField := d.lateField || late }) v)) :=
    (outputWork_onDio ..).trans (outputWork_applyDio ..)
  have aio (v : State) (p : Fin 8 × W64) : OutputWork v
      (let w := onAio p.1 (fun a => { a with lateField := a.lateField || late }) v
       if aioModeOf w p.1 = 3 ∧ nowOf w < w.field.makeNotBefore then w else applyAio p.1 p.2 w) := by
    dsimp only
    split
    · exact outputWork_onAio ..
    · exact (outputWork_onAio ..).trans (outputWork_applyAio ..)
  exact OutputWork.trans rfl ((OutputWork.foldl dio ..).trans (OutputWork.foldl aio ..))

/-- What waits for the strobe and the time unit, and the instant of the last strobe. -/
def strobePart (s : State) : List FoRelease × List FieldUpdate × List (Nat × Fin 32 × TrigSetup) × Option Nat :=
  (s.field.foReleases, s.field.heldUpdates, s.field.delayedActions, s.field.lastStrobe)

theorem FoWork.strobePart_eq {s t : State} (h : FoWork s t) : strobePart t = strobePart s := by
  rw [h]
  rfl

theorem FoWork.time_eq {s t : State} (h : FoWork s t) : t.time = s.time := by rw [h, onField_time]

theorem OutputWork.strobePart_eq {s t : State} (h : OutputWork s t) : strobePart t = strobePart s := by
  rw [h]
  rfl

theorem OutputWork.time_eq {s t : State} (h : OutputWork s t) : t.time = s.time := by rw [h, onField_time]

theorem OutputWork.fo_eq {s t : State} (h : OutputWork s t) : t.field.fo = s.field.fo := by
  rw [h]
  rfl

/-- An action of a unit leaves the time unit and what waits for the strobe. -/
theorem performAction_reads (t : Nat) (x : TrigSetup) (s : State) :
    (performAction t x s).time = s.time ∧ strobePart (performAction t x s) = strobePart s := by
  have fo {u : State} (h : FoWork s u) : u.time = s.time ∧ strobePart u = strobePart s := ⟨h.time_eq, h.strobePart_eq⟩
  have output {u : State} (h : OutputWork s u) : u.time = s.time ∧ strobePart u = strobePart s := ⟨h.time_eq, h.strobePart_eq⟩
  unfold performAction
  extract_lets n c
  split
  · exact ⟨rfl, rfl⟩
  · split
    · exact fo ((foWork_applyFo n true s).trans (foWork_onFo ..))
    · exact fo (foWork_applyFo ..)
    · exact fo (foWork_applyFo ..)
    · exact fo (foWork_applyFo ..)
    · exact output (outputWork_applyDio ..)
    · exact output (outputWork_applyDio ..)
    · exact output (outputWork_applyAio ..)
    · exact ⟨rfl, rfl⟩

/-- An FO channel that the module may drive takes the level. -/
theorem level_applyFo {n : Fin 4} {s : State} (hy : s.field.fo[n].yielded = false) (hd : monitorDrives s = true) (v : Bool) :
    (applyFo n v s).field.fo[n].level = v := by
  rw [applyFo, hy, hd, if_neg (by decide)]
  exact congrArg Fo.level (vmod_getElem_same ..)

/-! ### A unit fires, R231 to R235 -/

/-- From `s` to `t` the unit's counts of suppressed and delayed firings may have moved, and no other unit changed. -/
def Counted (u : Fin 32) (s t : State) : Prop :=
  (∃ a b, t.time.triggers[u] = { s.time.triggers[u] with suppressed := a, delayed := b }) ∧
    ∀ v : Fin 32, v ≠ u → t.time.triggers[v] = s.time.triggers[v]

theorem counted_of_time_eq {u : Fin 32} {s t : State} (h : t.time = s.time) : Counted u s t := by
  rw [Counted, h]
  exact ⟨⟨_, _, rfl⟩, fun _ _ => rfl⟩

theorem onTrigger_same (u : Fin 32) (g : Trigger → Trigger) (s : State) : (onTrigger u g s).time.triggers[u] = g s.time.triggers[u] :=
  vmod_getElem_same ..

theorem onTrigger_ne {u v : Fin 32} (h : v ≠ u) (g : Trigger → Trigger) (s : State) :
    (onTrigger u g s).time.triggers[v] = s.time.triggers[v] :=
  vmod_getElem_ne _ _ h

/-- The action of a unit leaves its set-up and its firings, and every other unit. -/
theorem counted_fireAction (t : Nat) (u : Fin 32) (x : TrigSetup) (s : State) : Counted u s (fireAction t u x s) := by
  have performs (g : FieldZone → FieldZone) : Counted u s (performAction t x (onField g s)) :=
    counted_of_time_eq (performAction_reads t x (onField g s)).1
  unfold fireAction
  split
  · exact ⟨⟨_, _, onTrigger_same ..⟩, fun v h => onTrigger_ne h ..⟩
  · split
    · split
      · split
        · exact ⟨⟨_, _, onTrigger_same ..⟩, fun v h => onTrigger_ne h ..⟩
        · split
          · exact counted_of_time_eq rfl
          · exact performs _
      · split
        · exact counted_of_time_eq rfl
        · exact performs _
    · exact counted_of_time_eq (performAction_reads t x s).1

/-- Without the claim a firing is suppressed, and counted (R233). -/
theorem fireAction_of_no_claim {s : State} (h : holdsClaim s = false) (t : Nat) (u : Fin 32) (x : TrigSetup) :
    fireAction t u x s = onTrigger u (fun g => { g with suppressed := sat32 (g.suppressed + 1) }) s := if_pos h

theorem chanOf_val {k : Nat} (n : Fin k) (h : 0 < k) : chanOf h n.val = n := Fin.ext (Nat.mod_eq_of_lt n.isLt)

/-- FO_SET needs no strobe: the channel rises at once. -/
theorem level_fireAction_foSet {t : Nat} {u : Fin 32} {x : TrigSetup} {n : Fin 4} {s : State} (ha : x.action = .foSet) (hn : x.channel = n.val)
    (hc : holdsClaim s = true) (hl : stagesLive s = true) (hy : s.field.fo[n].yielded = false) (hd : monitorDrives s = true) :
    (fireAction t u x s).field.fo[n].level = true := by
  have channel : (chanOf (by decide) x.channel : Fin 4) = n := (congrArg (chanOf _) hn).trans (chanOf_val n _)
  have performs : fireAction t u x s = applyFo n true s := by
    rw [fireAction, if_neg (by simp [hc]), if_neg (by simp [needsStrobe, ha]), performAction, if_neg (by simp [hl])]
    simp only [ha, channel]
  rw [performs]
  exact level_applyFo hy hd true

/-- The unit as it stands once it has fired at `t`: armed still where it is periodic. -/
def fired (t : Nat) (x : TrigSetup) (g : Trigger) : Trigger :=
  { g with firings := sat32 (g.firings + 1), armed := x.mode == .periodic, firedAt := some t }

section
variable {t : Nat} {u : Fin 32} {s : State} {x : TrigSetup}

/-- A unit that is due, and that no unit of a lower number precedes on its channel, fires alone (R235). -/
theorem exec_triggerFire (hx : s.time.triggers[u].setup = some x) (ha : s.time.triggers[u].armed = true)
    (hf : s.time.triggers[u].firedAt ≠ some t) (hv : ∀ v : Fin 32, v.val < u.val → sameChannel s u v = false)
    (hd : firingDue (atTime t s) x t = true) :
    exec (.triggerFire t u) s = .next (fireAction t u x (onTrigger u (fired t x) (atTime t s))) := by
  have alone : ((List.finRange 32).filter fun v => v.val < u.val && sameChannel (atTime t s) u v) = [] := by
    refine List.filter_eq_nil_iff.2 fun v _ both => ?_
    obtain ⟨lower, same⟩ := Bool.and_eq_true_iff.1 both
    exact absurd ((hv v (by simpa using lower)).symm.trans same) (by decide)
  have due : ((atTime t s).time.triggers[u].armed && (atTime t s).time.triggers[u].firedAt != some t && firingDue (atTime t s) x t) = true := by
    rw [show (atTime t s).time.triggers[u] = s.time.triggers[u] from rfl, hd, ha]
    simpa using hf
  have fires : fireUnit t u (atTime t s) = fireAction t u x (onTrigger u (fired t x) (atTime t s)) := by
    rw [fireUnit, show (atTime t s).time.triggers[u].setup = some x from hx]
    exact if_pos due
  rw [← fires]
  show Host.Outcome.next (fireUnit t u (List.foldl _ (atTime t s) _)) = _
  rw [alone, List.foldl_nil]

/-- The firing of a unit: its counts, its arming, its action, and no other unit. -/
theorem leads_triggerFire (hx : s.time.triggers[u].setup = some x) (ha : s.time.triggers[u].armed = true)
    (hf : s.time.triggers[u].firedAt ≠ some t) (hv : ∀ v : Fin 32, v.val < u.val → sameChannel s u v = false)
    (hd : firingDue (atTime t s) x t = true) : Leads (.triggerFire t u) s fun s' =>
      s'.time.triggers[u].firings = sat32 (s.time.triggers[u].firings + 1) ∧
      (s'.time.triggers[u].armed = true ↔ x.mode = .periodic) ∧ (∀ v : Fin 32, v ≠ u → s'.time.triggers[v] = s.time.triggers[v]) ∧
      (holdsClaim s = false → s'.time.triggers[u].suppressed = sat32 (s.time.triggers[u].suppressed + 1) ∧
        s'.field = s.field ∧ s'.sw = s.sw) ∧
      (∀ n : Fin 4, x.action = .foSet → x.channel = n.val → holdsClaim s = true → s.field.fo[n].yielded = false →
        s.field.monitor = .run → s.field.safeInForce = false → monitorDrives s = true → s'.field.fo[n].level = true) := by
  have counts : (onTrigger u (fired t x) (atTime t s)).time.triggers[u] = fired t x s.time.triggers[u] := onTrigger_same ..
  obtain ⟨⟨a, b, unit⟩, others⟩ := counted_fireAction t u x (onTrigger u (fired t x) (atTime t s))
  rw [counts] at unit
  refine ⟨_, exec_triggerFire hx ha hf hv hd, congrArg Trigger.firings unit, ?armed, fun v h => (others v h).trans (onTrigger_ne h ..),
    fun hc => ?suppressed, fun n action channel hc hy hm hs hd => ?rises⟩
  case armed =>
    rw [congrArg Trigger.armed unit]
    exact beq_iff_eq
  case suppressed =>
    rw [fireAction_of_no_claim (show holdsClaim (onTrigger u (fired t x) (atTime t s)) = false from hc), onTrigger_same, counts]
    exact ⟨rfl, rfl, rfl⟩
  case rises =>
    have live : stagesLive s = true := by simp [stagesLive, hm, hs]
    exact level_fireAction_foSet (s := onTrigger u (fired t x) (atTime t s)) action channel hc live hy hd

end

/-! ### The strobe, R253 to R255 -/

/-- The releases that are left where those due have been taken. -/
def undue (t : Nat) (f : FieldZone) : FieldZone := { f with foReleases := f.foReleases.filter fun r => decide (t < r.atTime) }

/-- The releases of FO channels that are due drive these channels, and leave the list. -/
theorem foWork_releaseFo (t : Nat) (s : State) :
    FoWork (onField (undue t) s) (releaseFo t s) :=
  .foldl (fun _ _ => foWork_applyFo ..) ..

theorem strobePart_releaseFo (t : Nat) (s : State) : strobePart (releaseFo t s) =
    (s.field.foReleases.filter fun r => decide (t < r.atTime), s.field.heldUpdates, s.field.delayedActions, s.field.lastStrobe) :=
  (foWork_releaseFo t s).strobePart_eq

/-- Whether a strobe is due and may fire rests on nothing that FO channels take from the time unit. -/
theorem strobe_releaseFo (t : Nat) (s : State) :
    strobeDue (releaseFo t s) t = strobeDue s t ∧ strobeFree (releaseFo t s) t = strobeFree s t := by
  rw [foWork_releaseFo t s]
  exact ⟨rfl, rfl⟩

/-- A single release that is due sets its channel. -/
theorem level_releaseFo {t : Nat} {s : State} {r : FoRelease} {n : Fin 4} (hr : s.field.foReleases = [r]) (ht : r.atTime ≤ t)
    (hn : r.channel = n) (hy : s.field.fo[n].yielded = false) (hd : monitorDrives s = true) : (releaseFo t s).field.fo[n].level = r.level := by
  subst hn
  have one : releaseFo t s = applyFo r.channel r.level (onField (undue t) s) := by
    have due : s.field.foReleases.filter (fun r => decide (r.atTime ≤ t)) = [r] := by simp [hr, ht]
    simp only [releaseFo, due]
    rfl
  rw [one]
  exact level_applyFo (s := onField (undue t) s) hy hd r.level

/-- What a strobe leaves to wait. -/
def struck (t : Nat) (f : FieldZone) : FieldZone :=
  { f with heldUpdates := f.heldUpdates.filter fun u => decide (t < u.strobeAt),
           delayedActions := f.delayedActions.filter fun p => decide (t < p.1), lastStrobe := some t }

/-- The updates that a strobe applies. -/
def strobeUpdates (t : Nat) (s : State) (z : State) : State :=
  (s.field.heldUpdates.filter fun u => decide (u.strobeAt ≤ t)).foldl
    (fun s u => if u.claim = s.pair.claim ∧ s.field.monitor = .run then applyUpdate false u s else s) z

/-- The hand-overs of parallel channels whose instant has come. -/
def strobeHandovers (t : Nat) (z : State) : State :=
  eachAio (fun c s => match s.field.aio[c].handoverAt with
    | some h => if h ≤ t ∧ s.field.aio[c].yielded = true then openAio c s else s
    | none => s) z

/-- The trigger actions that wait for the strobe. -/
def strobeActions (t : Nat) (s : State) (z : State) : State :=
  (sortBy (fun (p : Nat × Fin 32 × TrigSetup) => p.2.1.val) (s.field.delayedActions.filter fun p => decide (p.1 ≤ t))).foldl
    (fun s p => performAction t p.2.2 s) z

theorem fireStrobe_eq (t : Nat) (s : State) :
    fireStrobe t s = strobeHandovers t (strobeActions t s (strobeUpdates t s (onField (struck t) s))) := rfl

theorem outputWork_strobeUpdates (t : Nat) (s z : State) : OutputWork z (strobeUpdates t s z) := by
  refine .foldl (fun v u => ?_) ..
  split
  · exact outputWork_applyUpdate ..
  · rfl

theorem outputWork_strobeHandovers (t : Nat) (z : State) : OutputWork z (strobeHandovers t z) := by
  unfold strobeHandovers eachAio
  refine OutputWork.foldl (fun v c => ?_) ..
  dsimp only
  split
  · split
    · exact outputWork_openAio ..
    · rfl
  · rfl

theorem strobePart_strobeActions (t : Nat) (s z : State) : strobePart (strobeActions t s z) = strobePart z :=
  foldl_reads (F := strobePart) (f := fun u (p : Nat × Fin 32 × TrigSetup) => performAction t p.2.2 u)
    (fun u p => (performAction_reads t p.2.2 u).2) ..

theorem strobePart_fireStrobe (t : Nat) (s : State) : strobePart (fireStrobe t s) = strobePart (onField (struck t) s) := by
  rw [fireStrobe_eq, (outputWork_strobeHandovers ..).strobePart_eq,
    strobePart_strobeActions,
    (outputWork_strobeUpdates ..).strobePart_eq]

/-- Without a trigger action that waits, a strobe leaves the FO channels. -/
theorem fo_fireStrobe {t : Nat} {s : State} (h : s.field.delayedActions = []) : (fireStrobe t s).field.fo = s.field.fo := by
  have none : strobeActions t s = id := by
    funext z
    rw [strobeActions, h]
    rfl
  rw [fireStrobe_eq, none, (outputWork_strobeHandovers ..).fo_eq, id, (outputWork_strobeUpdates ..).fo_eq]
  rfl

/-- STROBE_FIRE: the releases of FO channels always, and a strobe where one is due and may fire. -/
theorem exec_strobeFire (t : Nat) (s : State) : exec (.strobeFire t) s = .next
    (if strobeDue s t && strobeFree s t then fireStrobe t (releaseFo t (atTime t s)) else releaseFo t (atTime t s)) := by
  obtain ⟨due, free⟩ := strobe_releaseFo t (atTime t s)
  show Host.Outcome.next (if strobeDue (releaseFo t (atTime t s)) t && strobeFree (releaseFo t (atTime t s)) t then _ else _) = _
  rw [due, free]
  rfl

theorem leads_strobeFire (t : Nat) (s : State) : Leads (.strobeFire t) s fun s' =>
    (∀ r, r ∈ s'.field.foReleases ↔ r ∈ s.field.foReleases ∧ t < r.atTime) ∧
    (strobeDue s t = true → strobeFree s t = true → s'.field.lastStrobe = some t ∧
      (∀ u, u ∈ s'.field.heldUpdates ↔ u ∈ s.field.heldUpdates ∧ t < u.strobeAt) ∧
      ∀ a, a ∈ s'.field.delayedActions ↔ a ∈ s.field.delayedActions ∧ t < a.1) ∧
    (strobeDue s t = false ∨ strobeFree s t = false → s'.field.lastStrobe = s.field.lastStrobe ∧ s'.field.dio = s.field.dio ∧
      s'.field.heldUpdates = s.field.heldUpdates ∧ s'.field.delayedActions = s.field.delayedActions) ∧
    (∀ r n, s.field.foReleases = [r] → r.atTime ≤ t → s.field.delayedActions = [] → r.channel = n → s.field.fo[n].yielded = false →
      monitorDrives s = true → s'.field.fo[n].level = r.level) := by
  have waits := strobePart_releaseFo t (atTime t s)
  refine ⟨_, exec_strobeFire t s, ?_⟩
  simp only [strobePart, Prod.mk.injEq] at waits
  obtain ⟨releases, updates, actions, strobe⟩ := waits
  have level (r : FoRelease) (n : Fin 4) (hr : s.field.foReleases = [r]) (ht : r.atTime ≤ t) (hn : r.channel = n)
      (hy : s.field.fo[n].yielded = false) (hd : monitorDrives s = true) : (releaseFo t (atTime t s)).field.fo[n].level = r.level :=
    level_releaseFo (s := atTime t s) hr ht hn hy hd
  by_cases fires : strobeDue s t = true ∧ strobeFree s t = true
  · have strikes := strobePart_fireStrobe t (releaseFo t (atTime t s))
    simp only [strobePart, Prod.mk.injEq, onField_field, struck] at strikes
    rw [releases, updates, actions] at strikes
    obtain ⟨releases', updates', actions', strobe'⟩ := strikes
    rw [if_pos (by simp [fires.1, fires.2]), releases', updates', actions', strobe']
    refine ⟨fun r => by simp, fun _ _ => ⟨rfl, fun u => by simp, fun a => by simp⟩, fun off => ?_, fun r n hr ht ha hn hy hd => ?_⟩
    · exact absurd fires fun both => by simp [both.1, both.2] at off
    · rw [fo_fireStrobe (actions.trans ha)]
      exact level r n hr ht hn hy hd
  · rw [if_neg (by simpa using fires), releases, updates, actions, strobe]
    refine ⟨fun r => by simp, fun due free => absurd ⟨due, free⟩ fires, fun _ => ⟨rfl, ?_, rfl, rfl⟩,
      fun r n hr ht _ hn hy hd => level r n hr ht hn hy hd⟩
    rw [foWork_releaseFo]
    rfl

/-! ### TRG.ARM and TRG.CANCEL, R231, R232, R235, R337 -/

theorem KeeperWork.time_eq {s t : State} (h : KeeperWork s t) : t.time = s.time := by rw [h]
theorem KeeperWork.field_eq {s t : State} (h : KeeperWork s t) : t.field = s.field := by rw [h]

theorem keeperWork_respond (h : ReqHdr) (code status : Nat) (p : List Byte) (s : State) : KeeperWork s (notePeaks (respond h code status p s)) :=
  (keeperWork_answer ..).trans (keeperWork_onKeeper ..)

/-- An admitted request whose work lies outside what its answer shows is answered as the module finds it. -/
theorem answered_beside {i : Request} {h : ReqHdr} {code len : Nat} {u z : State} (admitted : Admitted i h code len [] u)
    (hm : z.mod = (arrived h u).mod) (hi : z.img = (arrived h u).img) (hk : z.keeper = (arrived h u).keeper) (status : Nat) (p : List Byte) :
    Answered h code status p u (notePeaks (respond h code status p z)) ∧ KeeperWork z (notePeaks (respond h code status p z)) := by
  obtain ⟨-, -, -, connected, -⟩ := id admitted
  have reaches : Connected z h.src := by
    have arrived_there := connected_arrived connected
    revert arrived_there
    cases h.src with
    | mailbox n => exact id
    | net session => rw [Connected, Connected, connOf, connOf, hk]; exact id
  have arrives := keeperWork_arrived h u
  exact ⟨respond_answered ((congrArg Mod.state hm).trans (congrArg Mod.state arrives.mod_eq)) (hi.trans arrives.img_eq) reaches ..,
    keeperWork_respond ..⟩

/-- A unit as its arming sets it up; where its target has come it has fired at once (R231). -/
def setUp (x : TrigSetup) : Trigger :=
  { setup := some x, armed := true, late := false, firings := 0, suppressed := 0, delayed := 0, firedAt := none }

def setUpLate (x : TrigSetup) (t : Nat) : Trigger :=
  { setup := some x, armed := false, late := x.mode == .once, firings := 1, suppressed := 0, delayed := 0, firedAt := some t }

theorem armUnit_waits {n : Fin 32} {x : TrigSetup} {s : State} (h : x.mode ≠ .periodic → firingDue s x (nowOf s) = false) :
    armUnit n x s = onTrigger n (fun _ => setUp x) s := by
  have later : (x.mode != .periodic && firingDue s x (nowOf s)) = false := by
    by_cases hm : x.mode = .periodic
    · simp [hm]
    · simp [h hm]
  unfold armUnit
  dsimp only
  rw [later]
  rfl

theorem armUnit_fires {n : Fin 32} {x : TrigSetup} {s : State} (hm : x.mode ≠ .periodic) (hd : firingDue s x (nowOf s) = true) :
    armUnit n x s = fireAction (nowOf s) n x (onTrigger n (fun _ => setUpLate x (nowOf s)) s) := by
  have come : (x.mode != .periodic && firingDue s x (nowOf s)) = true := by simp [hm, hd]
  unfold armUnit
  dsimp only
  rw [come]
  rfl

section
variable {t mode action channel target period : Nat} {h : ReqHdr} {compat : W32} {argument : W64} {s u : State} {n : Fin 32} {m : TrigMode}
  {a : TrigAction} {x : TrigSetup}

/-- TRG.ARM of a defined unit, mode and action that passes the checks: an armed unit refuses, and a free one is armed with what the unit is
to do. -/
theorem exec_trgArm (hu : u = atTime t s) (hm : trigModeOf mode = some m) (ha : trigActionOf action = some a)
    (admitted : Admitted (.trgArm n.val mode action channel compat target period argument) h 0x0701 32 [] u)
    (hx : x = ⟨m, a, channel, compat, target, period, argument, nowOf u⟩) (flawless : trigFlaws u x = []) :
    exec (.trgArm t h n.val mode action channel compat target period argument) s = .next
      (if s.time.triggers[n].armed then
        serve (.trgArm n.val mode action channel compat target period argument) h 0x0701 32 true [] (conflict h 0x0701) u
      else notePeaks (respond h 0x0701 stOk (le8 (firstFiring u x (nowOf u))) (armUnit n x (arrived h u)))) := by
  subst hu
  have defined : armFlaws n.val mode action = [] := by simp [armFlaws, needs, hm, ha]
  have work := keeperWork_arrived h (atTime t s)
  have now : nowOf (arrived h (atTime t s)) = nowOf (atTime t s) := work.nowOf_eq
  have arms : doArm h n.val x (arrived h (atTime t s)) = if s.time.triggers[n].armed then conflict h 0x0701 (arrived h (atTime t s)) else
      respond h 0x0701 stOk (le8 (firstFiring (atTime t s) x (nowOf (atTime t s)))) (armUnit n x (arrived h (atTime t s))) := by
    have flaws : trigFlaws (arrived h (atTime t s)) x = [] := by
      rw [work]
      exact flawless
    have first : firstFiring (arrived h (atTime t s)) x = firstFiring (atTime t s) x := by
      rw [work]
      rfl
    rw [doArm]
    simp only [flaws, chanOf_val, work.time_eq, now, first]
    rfl
  show Host.Outcome.next (serve _ h 0x0701 32 true (armFlaws n.val mode action) _ (atTime t s)) = _
  rw [defined, serve_of_admitted admitted, serve_of_admitted admitted]
  simp only [hm, ha, now, ← hx, arms]
  split <;> rfl

section
variable (hu : u = atTime t s) (hm : trigModeOf mode = some m) (ha : trigActionOf action = some a)
  (admitted : Admitted (.trgArm n.val mode action channel compat target period argument) h 0x0701 32 [] u)
  (hx : x = ⟨m, a, channel, compat, target, period, argument, nowOf u⟩) (flawless : trigFlaws u x = [])
include hu hm ha admitted hx flawless

/-- A free unit whose target lies ahead waits for it. -/
theorem leads_trgArm_waits (free : s.time.triggers[n].armed = false) (ahead : m ≠ .periodic → firingDue u x (nowOf u) = false) :
    Leads (.trgArm t h n.val mode action channel compat target period argument) s fun s' =>
      Answered h 0x0701 stOk (le8 (firstFiring u x (nowOf u))) u s' ∧
      s'.time.triggers[n] = { setup := some x, armed := true, late := false, firings := 0, suppressed := 0, delayed := 0, firedAt := none } ∧
      (∀ o : Fin 32, o ≠ n → s'.time.triggers[o] = s.time.triggers[o]) ∧ s'.field = s.field ∧ s'.ctl = s.ctl ∧ s'.img = s.img := by
  have runs := exec_trgArm hu hm ha admitted hx flawless
  have arrives := keeperWork_arrived h u
  have mode : x.mode = m := by rw [hx]
  have waits : armUnit n x (arrived h u) = onTrigger n (fun _ => setUp x) (arrived h u) := by
    refine armUnit_waits fun hp => ?_
    rw [arrives]
    exact ahead (mode ▸ hp)
  rw [if_neg (by rw [free]; decide), waits] at runs
  obtain ⟨answered, works⟩ := answered_beside admitted (z := onTrigger n (fun _ => setUp x) (arrived h u)) rfl rfl rfl stOk
    (le8 (firstFiring u x (nowOf u)))
  have triggers (o : Fin 32) (ho : o ≠ n) : (onTrigger n (fun _ => setUp x) (arrived h u)).time.triggers[o] = s.time.triggers[o] := by
    rw [onTrigger_ne ho, arrives.time_eq, hu]
    rfl
  generalize notePeaks _ = s' at runs answered works
  refine ⟨s', runs, answered, ?_, fun o ho => ?_, ?_⟩
  · rw [works.time_eq]
    exact onTrigger_same ..
  · rw [works.time_eq]
    exact triggers o ho
  · rw [works.field_eq, works.ctl_eq, works.img_eq]
    exact ⟨arrives.field_eq.trans (hu ▸ rfl), arrives.ctl_eq.trans (hu ▸ rfl), arrives.img_eq.trans (hu ▸ rfl)⟩

/-- A free unit whose target has come fires as it is armed. -/
theorem leads_trgArm_fires (free : s.time.triggers[n].armed = false) (hp : m ≠ .periodic) (come : firingDue u x (nowOf u) = true) :
    Leads (.trgArm t h n.val mode action channel compat target period argument) s fun s' => s'.time.triggers[n].armed = false ∧
      s'.time.triggers[n].firings = 1 ∧ (s'.time.triggers[n].late = true ↔ m = .once) := by
  have runs := exec_trgArm hu hm ha admitted hx flawless
  have arrives := keeperWork_arrived h u
  have mode : x.mode = m := by rw [hx]
  have fires := armUnit_fires (n := n) (s := arrived h u) (mode ▸ hp) (by rw [arrives]; exact come)
  rw [if_neg (by rw [free]; decide), fires] at runs
  obtain ⟨⟨sup, del, unit⟩, -⟩ := counted_fireAction (nowOf (arrived h u)) n x
    (onTrigger n (fun _ => setUpLate x (nowOf (arrived h u))) (arrived h u))
  rw [onTrigger_same] at unit
  have works := keeperWork_respond h 0x0701 stOk (le8 (firstFiring u x (nowOf u)))
    (fireAction (nowOf (arrived h u)) n x (onTrigger n (fun _ => setUpLate x (nowOf (arrived h u))) (arrived h u)))
  generalize notePeaks _ = s' at runs works
  rw [← works.time_eq] at unit
  refine ⟨s', runs, congrArg Trigger.armed unit, congrArg Trigger.firings unit, ?_⟩
  rw [congrArg Trigger.late unit, ← mode]
  exact beq_iff_eq

/-- An armed unit refuses (R235). -/
theorem leads_trgArm_refused (armed : s.time.triggers[n].armed = true) :
    Leads (.trgArm t h n.val mode action channel compat target period argument) s fun s' =>
      ∃ p, Answered h 0x0701 stStateConflict p u s' ∧ s'.time = u.time := by
  have runs := exec_trgArm hu hm ha admitted hx flawless
  rw [if_pos armed] at runs
  obtain ⟨answered, only⟩ := serve_onlyAnswers (body := conflict h 0x0701) admitted rfl rfl
  exact ⟨_, runs, _, answered, by rw [only]⟩

end

theorem freeHeld_reads (x : TrigSetup) (s : State) : freeHeld x s = onSw (fun _ => (freeHeld x s).sw) s := by
  unfold freeHeld
  dsimp only
  split <;> rfl

/-- TRG.CANCEL: the barges that the unit held leave without it, the counts are answered, and the unit is free. -/
theorem exec_trgCancel (hu : u = atTime t s) (admitted : Admitted (.trgCancel n.val) h 0x0702 4 [] u) :
    ∃ w, exec (.trgCancel t h n.val) s = .next (notePeaks (respond h 0x0702 stOk
      (le4 s.time.triggers[n].firings ++ le4 s.time.triggers[n].suppressed ++ le4 s.time.triggers[n].delayed ++
        le4 (if s.time.triggers[n].late then 1 else 0))
      (onTrigger n (fun x => { x with setup := none, armed := false }) (onSw (fun _ => w) (arrived h u))))) := by
  subst hu
  have work := keeperWork_arrived h (atTime t s)
  have defined : needs (decide (n.val < 32)) fRange 0 = [] := by simp [needs, n.isLt]
  have frees : ∃ w, (match (arrived h (atTime t s)).time.triggers[n].setup with
      | some x => freeHeld x (arrived h (atTime t s))
      | none => arrived h (atTime t s)) = onSw (fun _ => w) (arrived h (atTime t s)) := by
    split
    · exact ⟨_, freeHeld_reads ..⟩
    · exact ⟨_, rfl⟩
  obtain ⟨w, frees⟩ := frees
  refine ⟨w, ?_⟩
  show Host.Outcome.next (serve _ h 0x0702 4 true (needs (decide (n.val < 32)) fRange 0) (doCancel h n.val) (atTime t s)) = _
  rw [defined, serve_of_admitted admitted, doCancel]
  simp only [chanOf_val, ← frees, work.time_eq]
  rfl

theorem leads_trgCancel (hu : u = atTime t s) (admitted : Admitted (.trgCancel n.val) h 0x0702 4 [] u) {g : Trigger}
    (hg : s.time.triggers[n] = g) : Leads (.trgCancel t h n.val) s fun s' =>
      Answered h 0x0702 stOk (le4 g.firings ++ le4 g.suppressed ++ le4 g.delayed ++ le4 (if g.late then 1 else 0)) u s' ∧
      s'.time.triggers[n] = { g with setup := none, armed := false } ∧ s'.field = s.field ∧
      ∀ o : Fin 32, o ≠ n → s'.time.triggers[o] = s.time.triggers[o] := by
  subst hg
  obtain ⟨w, runs⟩ := exec_trgCancel hu admitted
  have arrives := keeperWork_arrived h u
  have time : (arrived h u).time.triggers = s.time.triggers := by rw [arrives.time_eq, hu]; rfl
  obtain ⟨answered, works⟩ := answered_beside admitted
    (z := onTrigger n (fun x => { x with setup := none, armed := false }) (onSw (fun _ => w) (arrived h u))) rfl rfl rfl stOk
    (le4 s.time.triggers[n].firings ++ le4 s.time.triggers[n].suppressed ++ le4 s.time.triggers[n].delayed ++
      le4 (if s.time.triggers[n].late then 1 else 0))
  generalize notePeaks _ = s' at runs answered works
  refine ⟨s', runs, answered, ?_, ?_, fun o ho => ?_⟩
  · rw [works.time_eq, onTrigger_same, onSw_time, time]
  · rw [works.field_eq]
    exact arrives.field_eq.trans (hu ▸ rfl)
  · rw [works.time_eq, onTrigger_ne ho, onSw_time, time]

end

/-- Settles O34, unit by unit, strobe by strobe, request by request. -/
theorem triggersAndStrobes : Obligations.TriggersAndStrobes := by
  unfold Obligations.TriggersAndStrobes
  refine ⟨⟨fun t u s x => leads_triggerFire, leads_strobeFire⟩,
    fun t h s u n hu => ⟨?arm, fun g hg admitted => leads_trgCancel hu admitted hg⟩⟩
  case arm =>
    intro mode action channel compat target period argument m a x hm ha admitted hx flawless
    exact ⟨leads_trgArm_waits hu hm ha admitted hx flawless, leads_trgArm_fires hu hm ha admitted hx flawless,
      leads_trgArm_refused hu hm ha admitted hx flawless⟩

end Sys2Proof.Machine
end

section
/-! The switch: frames received, sent and discarded, gates, learned addresses, links and the ring (R211 to R220, R228 to R230). -/

namespace Sys2Proof.Machine
open Sys2Proof

theorem leads_of_exec {i : Instr} {s s' : State} {post : State → Prop} (runs : exec i s = .next s') (h : post s') : Leads i s post :=
  ⟨s', runs, h⟩

/-! ### Ports -/

theorem onPort_same (p : Fin 3) (g : Port → Port) (s : State) : (onPort p g s).sw.ports[p] = g s.sw.ports[p] := vmod_getElem_same ..

theorem onPort_ne {p o : Fin 3} (h : o ≠ p) (g : Port → Port) (s : State) : (onPort p g s).sw.ports[o] = s.sw.ports[o] :=
  vmod_getElem_ne _ _ h

/-! ### Frames received, R212 to R217 -/

/-- A frame is stored at each of these ports. -/
def storeAt (ps : List (Fin 3)) (x : QueuedFrame) (s : State) : State :=
  ps.foldl (fun u o => onPort o (fun y => { y with queue := y.queue ++ [x] }) u) s

theorem storeAt_ports {ps : List (Fin 3)} (hd : ps.Nodup) (x : QueuedFrame) (s : State) (o : Fin 3) : (storeAt ps x s).sw.ports[o] =
    if o ∈ ps then { s.sw.ports[o] with queue := s.sw.ports[o].queue ++ [x] } else s.sw.ports[o] := by
  induction ps generalizing s with
  | nil => rfl
  | cons q ps ih =>
    obtain ⟨fresh, hd⟩ := List.nodup_cons.1 hd
    rw [show storeAt (q :: ps) x s = storeAt ps x (onPort q (fun y => { y with queue := y.queue ++ [x] }) s) from rfl, ih hd]
    by_cases ho : o = q
    · subst ho
      rw [if_neg fresh, if_pos List.mem_cons_self, onPort_same]
    · rw [onPort_ne ho]
      simp only [List.mem_cons, ho, false_or]

theorem storeAt_learned (ps : List (Fin 3)) (x : QueuedFrame) (s : State) : (storeAt ps x s).sw.learned = s.sw.learned :=
  foldl_reads (F := fun u => u.sw.learned) (f := fun u o => onPort o (fun y => { y with queue := y.queue ++ [x] }) u) (fun _ _ => rfl) ps s

/-- The class of a frame, and whether it may cut through, rest on settings. -/
theorem queued_of_settings {s u : State} (h : u.settings = s.settings) (t : Nat) (p : Fin 3) (f : PortFrame) : queued u t p f = queued s t p f := by
  simp only [queued, classOf, cfg, settingBytes, h]

theorem cfgFlag_of_settings {s u : State} (h : u.settings = s.settings) (id : Nat) : cfgFlag u id = cfgFlag s id := by
  simp only [cfgFlag, cfg, settingBytes, h]

theorem cutsThrough_off {s : State} (h : cfgFlag s P.cutThrough = false) (t : Nat) (p o : Fin 3) (f : PortFrame) : cutsThrough s t p o f = false := by
  simp [cutsThrough, h]

/-- Without cut-through a frame is stored at every port that it leaves by (R216). -/
theorem forward_eq_storeAt {s : State} (h : cfgFlag s P.cutThrough = false) (t : Nat) (p : Fin 3) (f : PortFrame) :
    forward t p f s = storeAt (egressPorts s p f) (queued s t p f) s := by
  have stored (ps : List (Fin 3)) (u : State) (hu : u.settings = s.settings) :
      ps.foldl (fun s o => if cutsThrough s t p o f then startFrame t o (queued s t p f) s
        else onPort o (fun x => { x with queue := x.queue ++ [queued s t p f] }) s) u = storeAt ps (queued s t p f) u := by
    induction ps generalizing u with
    | nil => rfl
    | cons o ps ih =>
      rw [List.foldl_cons, cutsThrough_off ((cfgFlag_of_settings hu _).trans h), if_neg (by decide), queued_of_settings hu]
      exact ih _ hu
  exact stored _ s rfl

/-- A multicast frame leaves by every other port that is up and not blocked (R214, R215). -/
theorem mem_egressPorts_multicast {s : State} {p o : Fin 3} {f : PortFrame} (hm : f.multicast = true) (he : ptpEnds s p f = false) :
    o ∈ egressPorts s p f ↔ o ≠ p ∧ (s.sw.ports[o].linkUp && !s.sw.ports[o].mrpBlocked) = true := by
  have all : o ∈ allPorts := by revert o; decide
  simp [egressPorts, he, hm, all, and_assoc]

theorem nodup_egressPorts_multicast {s : State} {p : Fin 3} {f : PortFrame} (hm : f.multicast = true) (he : ptpEnds s p f = false) :
    (egressPorts s p f).Nodup := by
  have all : allPorts.Nodup := by decide
  simp only [egressPorts, he, hm, if_true, Bool.false_eq_true, if_false]
  exact all.filter _

/-- A copy for the module itself leaves ports and learned addresses. -/
theorem deliverCopy_reads (p : Fin 3) (f : PortFrame) (s : State) :
    (deliverCopy p f s).sw.ports = s.sw.ports ∧ (deliverCopy p f s).sw.learned = s.sw.learned := by
  unfold deliverCopy
  split
  · split
    · exact ⟨rfl, rfl⟩
    · split <;> exact ⟨rfl, rfl⟩
  · exact ⟨rfl, rfl⟩

theorem mem_learn {s : State} (h : s.sw.learned.length < 4096) (t : Nat) (p : Fin 3) (f : PortFrame) :
    (f.src, vlanOf f, p, t) ∈ (learn t p f s).sw.learned := by
  have room := Nat.lt_of_le_of_lt (List.length_filter_le (fun x => !(x.1 == f.src && x.2.1 == vlanOf f)) s.sw.learned) h
  rw [learn, onSw_sw]
  dsimp only
  rw [if_pos room]
  exact List.mem_append_right _ List.mem_cons_self

theorem ports_learn (t : Nat) (p : Fin 3) (f : PortFrame) (s : State) : (learn t p f s).sw.ports = s.sw.ports := by
  unfold learn
  rw [onSw_sw]
  dsimp only
  split <;> rfl

/-- The port has counted a frame. -/
def countFrame (p : Fin 3) (s : State) : State := onPort p (fun x => { x with framesIn := sat32 (x.framesIn + 1) }) s

/-- What becomes of a frame of a permitted size once its port has counted it. -/
def received (t : Nat) (p : Fin 3) (f : PortFrame) (s : State) : State :=
  if s.sw.ports[p].mrpBlocked then (if f.fcsOk then s else countFcs p s)
  else if f.fcsOk = false then
    let cut := (egressPorts s p f).filter fun o => cutsThrough s t p o f
    if cut.isEmpty then countFcs p s
    else
      let s := cut.foldl (fun s o => startFrame t o (queued s t p f) s) s
      onPort p (fun x => { x with fwdBadFcs := sat32 (x.fwdBadFcs + 1) }) s
  else
    let s := forward t p f (learn t p f s)
    if forModule s f then deliverCopy p f s else s

theorem received_good {t : Nat} {p : Fin 3} {f : PortFrame} {s : State} (hf : f.fcsOk = true) (hb : s.sw.ports[p].mrpBlocked = false) :
    received t p f s = if forModule (forward t p f (learn t p f s)) f then deliverCopy p f (forward t p f (learn t p f s))
      else forward t p f (learn t p f s) := by
  rw [received, hf, hb, if_neg (by decide), if_neg (by decide)]

theorem received_bad {t : Nat} {p : Fin 3} {f : PortFrame} {s : State} (hf : f.fcsOk = false) (hc : cfgFlag s P.cutThrough = false) :
    received t p f s = countFcs p s := by
  have stays : ((egressPorts s p f).filter fun o => cutsThrough s t p o f) = [] :=
    List.filter_eq_nil_iff.2 fun o _ => by rw [cutsThrough_off hc]; decide
  rw [received, hf, stays]
  split <;> rfl

section
variable {t : Nat} {p : Fin 3} {s : State} {f : PortFrame} (ha : logicAwake s = true) (hl : s.sw.ports[p].linkUp = true) (hmax : f.length ≤ 9022)
  (hmin : 64 ≤ f.length) (hd : f.doubleTagged = false)
include ha hl hmax hmin hd

theorem exec_portFrameReceive : exec (.portFrameReceive t p f) s = .next (received t p f (countFrame p (atTime t s))) := by
  have up : ¬ (atTime t s).sw.ports[p].linkUp = false := by rw [atTime_sw, hl]; decide
  have awake : ¬ logicAwake (atTime t s) = false := by rw [logicAwake_atTime ha]; decide
  have size : ¬ oversized f = true := by simp [oversized, hmax, hd]
  show execPortFrameReceive t p f s = _
  unfold execPortFrameReceive
  dsimp only
  rw [if_neg up, if_neg awake, if_neg size, if_neg (Nat.not_lt.2 hmin)]
  rfl

variable (hc : cfgFlag s P.cutThrough = false)
include hc

/-- A good multicast frame is counted, learned and stored. -/
theorem leads_portFrameReceive_good (hf : f.fcsOk = true) (hm : f.multicast = true) (he : ptpEnds s p f = false)
    (hb : s.sw.ports[p].mrpBlocked = false) (hn : s.sw.learned.length < 4096) : Leads (.portFrameReceive t p f) s fun s' =>
      s'.sw.ports[p].framesIn = sat32 (s.sw.ports[p].framesIn + 1) ∧
      (f.src, vlanOf f, p, t) ∈ s'.sw.learned ∧ s'.sw.ports[p].queue = s.sw.ports[p].queue ∧
      ∀ q : Fin 3, q ≠ p → s'.sw.ports[q].queue = s.sw.ports[q].queue ++
        (if s.sw.ports[q].linkUp && !s.sw.ports[q].mrpBlocked then [queued s t p f] else []) := by
  have runs := exec_portFrameReceive (t := t) ha hl hmax hmin hd
  have unblocked : (countFrame p (atTime t s)).sw.ports[p].mrpBlocked = false := by
    rw [countFrame, onPort_same]
    exact hb
  rw [received_good hf unblocked] at runs
  have learned := mem_learn (s := countFrame p (atTime t s)) hn t p f
  have ports (o : Fin 3) : (learn t p f (countFrame p (atTime t s))).sw.ports[o] = (countFrame p (atTime t s)).sw.ports[o] := by rw [ports_learn]
  have stores := forward_eq_storeAt (s := learn t p f (countFrame p (atTime t s))) hc t p f
  have waits : queued (learn t p f (countFrame p (atTime t s))) t p f = queued s t p f := queued_of_settings rfl ..
  have ends : ptpEnds (learn t p f (countFrame p (atTime t s))) p f = false := he
  rw [waits] at stores
  generalize learn t p f (countFrame p (atTime t s)) = u at *
  have stored := storeAt_ports (nodup_egressPorts_multicast hm ends) (queued s t p f) u
  simp only [mem_egressPorts_multicast hm ends] at stored
  have own : (forward t p f u).sw.ports[p] = (countFrame p (atTime t s)).sw.ports[p] := by
    rw [stores, stored, if_neg fun h => h.1 rfl, ports]
  have other (q : Fin 3) (hq : q ≠ p) : (forward t p f u).sw.ports[q].queue = s.sw.ports[q].queue ++
      (if s.sw.ports[q].linkUp && !s.sw.ports[q].mrpBlocked then [queued s t p f] else []) := by
    rw [stores, stored, ports, countFrame, onPort_ne hq, atTime_sw]
    by_cases open_ : (s.sw.ports[q].linkUp && !s.sw.ports[q].mrpBlocked) = true
    · rw [if_pos ⟨hq, open_⟩, if_pos open_]
    · rw [if_neg fun h => open_ h.2, if_neg open_, List.append_nil]
  have kept : (forward t p f u).sw.learned = u.sw.learned := by rw [stores, storeAt_learned]
  have delivered : ∃ w, exec (.portFrameReceive t p f) s = .next w ∧ w.sw.ports = (forward t p f u).sw.ports ∧
      w.sw.learned = (forward t p f u).sw.learned := by
    refine ⟨_, runs, ?_⟩
    split
    · exact deliverCopy_reads ..
    · exact ⟨rfl, rfl⟩
  obtain ⟨w, runs, wports, wlearned⟩ := delivered
  have mine : w.sw.ports[p] = { s.sw.ports[p] with framesIn := sat32 (s.sw.ports[p].framesIn + 1) } := by
    rw [wports, own]
    exact onPort_same ..
  refine ⟨w, runs, by rw [mine], ?_, by rw [mine], fun q hq => ?_⟩
  · rw [wlearned, kept]
    exact learned
  · rw [wports]
    exact other q hq

/-- One with a failed check sum is counted and goes nowhere. -/
theorem leads_portFrameReceive_bad (hf : f.fcsOk = false) : Leads (.portFrameReceive t p f) s fun s' =>
    s'.sw.ports[p].fcsErrors = sat32 (s.sw.ports[p].fcsErrors + 1) ∧
      s'.sw.learned = s.sw.learned ∧ s'.sw.delivered = s.sw.delivered ∧ ∀ q : Fin 3, s'.sw.ports[q].queue = s.sw.ports[q].queue := by
  have counts (g h : Port → Port) (hg : ∀ x, (g x).queue = x.queue) (hh : ∀ x, (h x).queue = x.queue) (q : Fin 3) :
      (onPort p g (onPort p h (atTime t s))).sw.ports[q].queue = s.sw.ports[q].queue := by
    by_cases hq : q = p
    · subst hq
      rw [onPort_same, hg, onPort_same, hh, atTime_sw]
    · rw [onPort_ne hq, onPort_ne hq, atTime_sw]
  refine ⟨_, (exec_portFrameReceive ha hl hmax hmin hd).trans (congrArg Host.Outcome.next (received_bad hf hc)), ?_, rfl, rfl,
    counts _ _ (fun _ => rfl) fun _ => rfl⟩
  rw [countFcs, onPort_same, countFrame, onPort_same, atTime_sw]

end

/-! ### Frames sent, R216, R219, R228 to R230 -/

theorem sw_overrun (id : Nat) (s : State) : (overrun id s).sw = s.sw := by
  unfold overrun
  dsimp only
  split <;> rfl

theorem sw_setServo (t : Nat) (v : ServoState) (s : State) : (setServo t v s).sw = s.sw := by
  unfold setServo
  dsimp only
  split
  · rfl
  · split <;> rfl

theorem sw_loseLock (t : Nat) (s : State) : (loseLock t s).sw = s.sw := by
  unfold loseLock
  split
  · exact sw_setServo ..
  · rfl

/-- The timestamp of an event message that starts at `t`. -/
def stampAt (s : State) (t : Nat) (p : Fin 3) (type id : Nat) : TxStamp :=
  { msgType := type, domain := cfg s P.ptpDomain, sequenceId := id, stamp := BitVec.ofNat 32 (t + txLatency s p),
    takenAt := t + txLatency s p, waitsFrom := t }

/-- The port's queue of timestamps with one more, or marked where it is full (R229). -/
def stamped (x : TxStamp) (y : Port) : Port :=
  if y.txts.length < 16 then { y with txts := y.txts ++ [x] }
  else { y with txtsOvf := true, txtsOverflows := min (y.txtsOverflows + 1) 0xFFFF }

/-- The queue of timestamps is no part of what a port sends. -/
theorem stamped_reads (x : TxStamp) (y : Port) : (stamped x y).sent = y.sent ∧ (stamped x y).queue = y.queue ∧
    (stamped x y).framesOut = y.framesOut ∧ (stamped x y).busyUntil = y.busyUntil := by
  unfold stamped
  split <;> exact ⟨rfl, rfl, rfl, rfl⟩

theorem sw_txStamp (t : Nat) (p : Fin 3) (type id : Nat) (s : State) :
    (txStamp t p type id s).sw = (onPort p (stamped (stampAt s t p type id)) s).sw := by
  have on (g : Port → Port) (h : g s.sw.ports[p] = stamped (stampAt s t p type id) s.sw.ports[p]) :
      (onPort p g s).sw = (onPort p (stamped (stampAt s t p type id)) s).sw := by
    rw [onPort_sw, onPort_sw, vmod, vmod, h]
  by_cases room : s.sw.ports[p].txts.length < 16
  · rw [txStamp, if_pos room]
    exact on _ (by rw [stamped, if_pos room]; rfl)
  · rw [txStamp, if_neg room, sw_loseLock, stage, onRecd_sw, sw_overrun]
    exact on _ (by rw [stamped, if_neg room])

/-- The correction of a message changes neither the length of its frame nor its kind (R227, R230). -/
theorem corrected_reads (s : State) (t : Nat) (p : Fin 3) (q : QueuedFrame) : (corrected s t p q).length = q.frame.length ∧
    ∀ m, q.frame.body = .ptp m → ∃ m', (corrected s t p q).body = .ptp m' ∧ m'.type = m.type ∧ m'.sequenceId = m.sequenceId := by
  unfold corrected
  split
  · next m a i hb ha hi =>
    split
    · exact ⟨rfl, fun m' hm => ⟨_, rfl, by cases hb.symm.trans hm; exact ⟨rfl, rfl⟩⟩⟩
    · exact ⟨rfl, fun m' hm => ⟨m', hm, rfl, rfl⟩⟩
  · next m hb ha hi =>
    split
    · exact ⟨rfl, fun m' hm => ⟨_, rfl, by cases hb.symm.trans hm; exact ⟨rfl, rfl⟩⟩⟩
    · exact ⟨rfl, fun m' hm => ⟨m', hm, rfl, rfl⟩⟩
  · exact ⟨rfl, fun m' hm => ⟨m', hm, rfl, rfl⟩⟩

/-- The port as the frame starts. -/
def started (s : State) (t : Nat) (p : Fin 3) (q : QueuedFrame) (x : Port) : Port :=
  { x with sent := x.sent ++ [{ q with frame := corrected s t p q }], framesOut := sat32 (x.framesOut + 1),
           busyUntil := t + sendTime s p (corrected s t p q).length }

theorem busyUntil_started (s : State) (t : Nat) (p : Fin 3) (q : QueuedFrame) (x : Port) :
    (started s t p q x).busyUntil = t + sendTime s p q.frame.length := by
  rw [← (corrected_reads s t p q).1, started]

/-- A frame starts: an event message of the module is stamped, every other frame is not. -/
theorem sw_startFrame (t : Nat) (p : Fin 3) (q : QueuedFrame) (s : State) :
    ((∃ x, (startFrame t p q s).sw = (onPort p (stamped x) (onPort p (started s t p q) s)).sw) ∨
      (startFrame t p q s).sw = (onPort p (started s t p q) s).sw) ∧
    ∀ m, q.frame.body = .ptp m → isEvent m = true → q.ingress = none →
      (startFrame t p q s).sw = (onPort p (stamped (stampAt s t p m.type m.sequenceId)) (onPort p (started s t p q) s)).sw := by
  obtain ⟨-, kind⟩ := corrected_reads s t p q
  have begins : startFrame t p q s = match (corrected s t p q).body with
      | .ptp m => if q.ingress.isNone ∧ isEvent m = true then txStamp t p m.type m.sequenceId (onPort p (started s t p q) s)
        else onPort p (started s t p q) s
      | _ => onPort p (started s t p q) s := rfl
  constructor
  · rw [begins]
    split
    · split
      · exact .inl ⟨_, sw_txStamp ..⟩
      · exact .inr rfl
    · exact .inr rfl
  · intro m hb he hi
    obtain ⟨m', hb', type, id⟩ := kind m hb
    have event : q.ingress.isNone = true ∧ isEvent m' = true := ⟨by rw [hi]; rfl, by rw [isEvent, type]; exact he⟩
    rw [begins, hb']
    dsimp only
    rw [if_pos event, sw_txStamp, type, id]
    rfl

section
variable {t i : Nat} {p : Fin 3} {s : State} {q : QueuedFrame} (ha : logicAwake s = true) (hl : s.sw.ports[p].linkUp = true)
  (hi : nextFrame s t p = some i) (hq : s.sw.ports[p].queue[i]? = some q) (hb : s.sw.ports[p].busyUntil ≤ t)
include ha hl hi hq hb

/-- The frame that may start next leaves the queue for the wire. -/
theorem exec_frameTransmitStart : exec (.frameTransmitStart t p) s =
    .next (startFrame t p q (onPort p (fun x => { x with queue := x.queue.eraseIdx i }) (atTime t s))) := by
  have clear : ¬((atTime t s).sw.ports[p].linkUp = false ∨ t < (atTime t s).sw.ports[p].busyUntil ∨
      (logicAwake (atTime t s) = false ∧ dormantForwards (atTime t s) p = false)) := by
    rw [logicAwake_atTime ha, atTime_sw, hl]
    simpa using hb
  have next : nextFrame (atTime t s) t p = some i := hi
  have waits : (atTime t s).sw.ports[p].queue[i]? = some q := hq
  show execFrameTransmitStart t p s = _
  unfold execFrameTransmitStart
  dsimp only
  rw [if_neg clear, next]
  dsimp only
  rw [startQueued, waits]

theorem leads_frameTransmitStart : Leads (.frameTransmitStart t p) s fun s' =>
    s'.sw.ports[p].sent = s.sw.ports[p].sent ++ [{ q with frame := corrected s t p q }] ∧
      s'.sw.ports[p].queue = s.sw.ports[p].queue.eraseIdx i ∧ s'.sw.ports[p].framesOut = sat32 (s.sw.ports[p].framesOut + 1) ∧
      s'.sw.ports[p].busyUntil = t + sendTime s p q.frame.length ∧ ∀ o : Fin 3, o ≠ p → s'.sw.ports[o] = s.sw.ports[o] := by
  refine ⟨_, exec_frameTransmitStart ha hl hi hq hb, ?_⟩
  obtain ⟨starts, -⟩ := sw_startFrame t p q (onPort p (fun x => { x with queue := x.queue.eraseIdx i }) (atTime t s))
  obtain ⟨x, starts⟩ | starts := starts
  · rw [starts, onPort_same, onPort_same, onPort_same]
    obtain ⟨sent, queue, count, busy⟩ := stamped_reads x (started _ t p q { s.sw.ports[p] with queue := s.sw.ports[p].queue.eraseIdx i })
    exact ⟨sent, queue, count, busy.trans (busyUntil_started ..), fun o ho => by rw [onPort_ne ho, onPort_ne ho, onPort_ne ho, atTime_sw]⟩
  · rw [starts, onPort_same, onPort_same]
    exact ⟨rfl, rfl, rfl, busyUntil_started .., fun o ho => by rw [onPort_ne ho, onPort_ne ho, atTime_sw]⟩

section
variable {m : PtpFrame} (hm : q.frame.body = .ptp m) (he : isEvent m = true) (hn : q.ingress = none)
include hm he hn

/-- An event message of the module is stamped as it starts. -/
theorem txts_frameTransmitStart : Leads (.frameTransmitStart t p) s fun s' => ∃ y : Port, y.txts = s.sw.ports[p].txts ∧
    s'.sw.ports[p] = stamped (stampAt s t p m.type m.sequenceId) y := by
  refine ⟨_, exec_frameTransmitStart ha hl hi hq hb, ?_⟩
  obtain ⟨-, stamps⟩ := sw_startFrame t p q (onPort p (fun x => { x with queue := x.queue.eraseIdx i }) (atTime t s))
  rw [stamps m hm he hn, onPort_same, onPort_same, onPort_same]
  refine ⟨_, ?_, rfl⟩
  rfl

theorem leads_frameTransmitStart_stamped (room : s.sw.ports[p].txts.length < 16) : Leads (.frameTransmitStart t p) s fun s' =>
    ∃ x, s'.sw.ports[p].txts = s.sw.ports[p].txts ++ [x] ∧
      x.msgType = m.type ∧ x.sequenceId = m.sequenceId ∧ x.takenAt = t + txLatency s p ∧ x.stamp = BitVec.ofNat 32 x.takenAt := by
  obtain ⟨s', runs, y, same, port⟩ := txts_frameTransmitStart ha hl hi hq hb hm he hn
  refine ⟨s', runs, stampAt s t p m.type m.sequenceId, ?_, rfl, rfl, rfl, rfl⟩
  rw [port, stamped, same, if_pos room]

theorem leads_frameTransmitStart_lost (full : 16 ≤ s.sw.ports[p].txts.length) : Leads (.frameTransmitStart t p) s fun s' =>
    s'.sw.ports[p].txts = s.sw.ports[p].txts ∧ s'.sw.ports[p].txtsOvf = true := by
  obtain ⟨s', runs, y, same, port⟩ := txts_frameTransmitStart ha hl hi hq hb hm he hn
  refine leads_of_exec runs ?_
  rw [port, stamped, same, if_neg (Nat.not_lt.2 full)]
  exact ⟨rfl, rfl⟩

end
end

/-- A frame that fits no open interval of its class is discarded, and counted. -/
theorem leads_gateTooShortDiscard {t i : Nat} {p : Fin 3} {s : State} (ha : logicAwake s = true) (hp : p ≠ 2)
    (hi : s.sw.ports[p].queue.findIdx? (tooLong s t p) = some i) : Leads (.gateTooShortDiscard t p) s fun s' =>
      s'.sw.ports[p].queue = s.sw.ports[p].queue.eraseIdx i ∧ s'.sw.ports[p].gateTooShort = sat32 (s.sw.ports[p].gateTooShort + 1) ∧
      s'.sw.ports[p].sent = s.sw.ports[p].sent := by
  have judged : ¬(p = 2 ∨ logicAwake (atTime t s) = false) := by
    rw [logicAwake_atTime ha]
    simpa using hp
  have found : (atTime t s).sw.ports[p].queue.findIdx? (tooLong (atTime t s) t p) = some i := hi
  have runs : execGateTooShortDiscard t p s = .next (onPort p (fun x =>
      { x with queue := x.queue.eraseIdx i, gateTooShort := sat32 (x.gateTooShort + 1) }) (atTime t s)) := by
    unfold execGateTooShortDiscard
    dsimp only
    rw [if_neg judged, found]
  refine leads_of_exec runs ?_
  rw [onPort_same]
  exact ⟨rfl, rfl, rfl⟩

/-! ### Gates, ageing, links and the ring, R211, R214, R215, R218, R220 -/

section
variable {t : Nat} {p : Fin 3} {s : State}

theorem leads_gclEntryChange (ha : logicAwake s = true) : Leads (.gclEntryChange t p) s fun s' =>
    s'.sw.ports[p].gates = (entryAt s.sw.ports[p].gcl t).2 ∧ s'.sw.ports[p].gclIndex = (entryAt s.sw.ports[p].gcl t).1 ∧
      s'.sw.ports[p].gcl = s.sw.ports[p].gcl ∧ s'.sw.ports[p].queue = s.sw.ports[p].queue := by
  refine leads_of_exec (congrArg Host.Outcome.next (if_pos (logicAwake_atTime ha t))) ?_
  rw [onPort_same]
  exact ⟨rfl, rfl, rfl, rfl⟩

/-- A committed list takes effect from its instant on (R220). -/
theorem exec_gclSwitch {g : GateList} {a : Nat} (hn : s.sw.ports[p].nextGcl = some (g, a)) (ha : logicAwake s = true) :
    exec (.gclSwitch t p) s = .next (if a ≤ t then
      onPort p (fun x => enterEntry t { x with gcl := g, nextGcl := none, gclSince := a }) (atTime t s) else atTime t s) := by
  have next : (atTime t s).sw.ports[p].nextGcl = some (g, a) := hn
  show execGclSwitch t p s = _
  unfold execGclSwitch
  dsimp only
  rw [next]
  simp only [logicAwake_atTime ha, and_true]

/-- An address not seen for 300 s is forgotten, and no other (R214). -/
theorem leads_addressAgeing (a : Nat) : Leads (.addressAgeing t a) s fun s' =>
    ∀ x, x ∈ s'.sw.learned ↔ x ∈ s.sw.learned ∧ (x.1 ≠ a ∨ t < x.2.2.2 + 300000000000) :=
  ⟨_, rfl, fun x => List.mem_filter.trans (and_congr_right fun _ => by simp)⟩

/-- A link is up only at its configured speed, and not against the optical sideband (R211). -/
theorem leads_linkStateChange (up sideband : Bool) (speed : Nat) : Leads (.linkStateChange t p up sideband speed) s fun s' =>
    (s'.sw.ports[p].linkUp = true ↔ up = true ∧ ¬ (sideband = true ∧ readsSideband s p = true) ∧ speed = cfg s (P.portSpeed (p.val + 1))) ∧
      ∀ o : Fin 3, o ≠ p → s'.sw.ports[o] = s.sw.ports[o] := by
  refine ⟨_, rfl, ?_, fun o ho => onPort_ne ho ..⟩
  rw [onPort_same, show readsSideband (atTime t s) p = readsSideband s p from rfl,
    show speedCode (atTime t s) p = cfg s (P.portSpeed (p.val + 1)) from rfl]
  cases up <;> cases sideband <;> simp

/-- The port that the ring blocks: a manager's own choice while the ring is closed, a client's as the event names it (log 87). -/
theorem blockedPort_iff (closed : Bool) (b : Option (Fin 3)) {o : Fin 3} (ho : o ≠ 2) : (blockedPort s closed b == some o) = true ↔
    if cfg s P.mrpRole = 2 then closed = true ∧ (o = 0 ↔ b = some 0) else b = some o := by
  have ring : o = 0 ∨ o = 1 := by omega
  unfold blockedPort
  by_cases manager : cfg s P.mrpRole = 2
  · rw [if_pos manager, if_pos manager]
    by_cases first : b = some 0
    · obtain rfl | rfl := ring <;> cases closed <;> simp [first]
    · obtain rfl | rfl := ring <;> cases closed <;> simp [first]
  · rw [if_neg manager, if_neg manager]
    exact beq_iff_eq

/-- The ring's event blocks its port, and lets addresses of ring ports go, and no other (R215). -/
theorem leads_mrpRingEvent (closed : Bool) (b : Option (Fin 3)) (hr : cfg s P.mrpRole ≠ 0) : Leads (.mrpRingEvent t closed b) s fun s' =>
    s'.sw.ringClosed = closed ∧
      (∀ o : Fin 3, o ≠ 2 → (s'.sw.ports[o].mrpBlocked = true ↔
        if cfg s P.mrpRole = 2 then closed = true ∧ (o = 0 ↔ b = some 0) else b = some o)) ∧
      (∀ x ∈ s'.sw.learned, x ∈ s.sw.learned) ∧ ∀ x ∈ s.sw.learned, x.2.2.1 = 2 → x ∈ s'.sw.learned := by
  refine ⟨_, congrArg Host.Outcome.next (if_neg hr), rfl, fun o ho => ?blocks, fun x hx => ?subset, fun x hx hp => ?keeps⟩
  case blocks =>
    rw [← blockedPort_iff closed b ho]
    obtain rfl | rfl : o = 0 ∨ o = 1 := by omega
    · rw [onPort_ne (by decide), onPort_same]
      rfl
    · rw [onPort_same]
      rfl
  case subset =>
    simp only [onPort_sw, onSw_sw] at hx
    split at hx
    · exact (List.mem_filter.1 hx).1
    · exact hx
  case keeps =>
    simp only [onPort_sw, onSw_sw]
    split
    · exact List.mem_filter.2 ⟨hx, beq_iff_eq.2 hp⟩
    · exact hx

end

/-- Settles O31, event by event. -/
theorem portsAndGates : Obligations.PortsAndGates := by
  unfold Obligations.PortsAndGates
  refine ⟨fun t p s ha hl => ⟨fun f hmax hmin hd hc => ?frames, fun i q hi hq hb => ?sends, fun i hp hi => leads_gateTooShortDiscard ha hp hi⟩,
    fun t p s => ⟨leads_gclEntryChange, fun g a hn ha => ?lists, leads_addressAgeing, leads_linkStateChange, leads_mrpRingEvent⟩⟩
  case frames =>
    exact ⟨leads_portFrameReceive_good ha hl hmax hmin hd hc, leads_portFrameReceive_bad ha hl hmax hmin hd hc⟩
  case sends =>
    exact ⟨leads_frameTransmitStart ha hl hi hq hb, fun m hm he hn => ⟨leads_frameTransmitStart_stamped ha hl hi hq hb hm he hn,
      leads_frameTransmitStart_lost ha hl hi hq hb hm he hn⟩⟩
  case lists =>
    have runs := exec_gclSwitch (t := t) hn ha
    refine ⟨fun due => leads_of_exec runs ?_, fun early => ?_⟩
    · rw [if_pos due, onPort_same]
      exact ⟨rfl, rfl, rfl, rfl⟩
    · rw [runs, if_neg (Nat.not_le.2 early)]

end Sys2Proof.Machine
end

section
/-! The time unit: COUNT, the messages that the module sends and stamps, captures, the servo and the pulse per second (R213, R221 to R229, R236,
R237). -/

namespace Sys2Proof.Machine
open Sys2Proof

/-! ### Messages sent, R213, R226, R227 -/

/-- A message of the module. -/
def ownMessage (s : State) (type id stamp : Nat) (correction : Int) (announce : Option ClockInfo) : PtpFrame :=
  { type := type, domain := cfg s P.ptpDomain, sequenceId := id, correction := correction, stamp := stamp,
    carrier := if cfg s P.ptpProfile = 2 then .ethernet else if cfg s P.ipVersion = 6 then .ipv6 true true else .ipv4 0, announce := announce }

/-- Its frame as it waits in TC7. -/
def ownFrame (s : State) (t : Nat) (m : PtpFrame) : QueuedFrame :=
  { cls := 7, frame := ptpFrame s m, queuedAt := t, ingressAt := none, ingress := none, heldFor := none, own := false }

/-- A message that is sent waits last in its port's queue; nothing else of the port changes. -/
theorem port_sendPtp (t : Nat) (p : Fin 3) (type id stamp : Nat) (c : Int) (a : Option ClockInfo) (s : State) :
    (sendPtp t p type id stamp c a s).sw.ports[p] =
      { s.sw.ports[p] with queue := s.sw.ports[p].queue ++ [ownFrame s t (ownMessage s type id stamp c a)] } := onPort_same ..

/-- An event message waits while a frame is on the wire. -/
theorem sendEvent_of_busy {t : Nat} {p : Fin 3} {s : State} (h : t < s.sw.ports[p].busyUntil) (type id stamp : Nat) :
    sendEvent t p type id stamp s = sendPtp t p type id stamp 0 none s := by
  unfold sendEvent
  dsimp only
  rw [if_neg]
  rintro ⟨-, idle, -⟩
  rw [port_sendPtp] at idle
  dsimp only at idle
  omega

/-- The next sequence ID of the module's messages. -/
def numbered (s : State) : State := onTime (fun u => { u with ptpSeq := (u.ptpSeq + 1) % 65536 }) s

/-! ### Messages and timestamps of a running Keeper, R222, R227 to R229 -/

theorem followUpOf_of_no_relay {u : State} (h : relaying u = false) (left : Nat) : followUpOf u left = (left, 0) := by
  unfold followUpOf
  rw [h]
  split <;> rfl

/-- A Sync's stamp that is not too old sends its Follow_Up. -/
theorem takeStamp_sync {t : Nat} {p : Fin 3} {x : TxStamp} {u : State} (hw : t < x.waitsFrom + 2000000000) (hm : x.msgType = 0) :
    ∃ v, v.time.tsExpired = u.time.tsExpired ∧ v.sw = u.sw ∧ relaying v = relaying u ∧
      takeStamp t p x u = sendPtp t p ptpFollowUpType x.sequenceId (followUpOf v (extendAt x.takenAt x.stamp)).1
        (followUpOf v (extendAt x.takenAt x.stamp)).2 none v := by
  refine ⟨onTime (fun u => { u with abandonedRun := 0 }) u, rfl, rfl, rfl, ?_⟩
  unfold takeStamp
  dsimp only
  rw [if_neg (Nat.not_le.2 hw), if_pos (show x.msgType = ptpSyncType from hm)]

section
variable {t : Nat} {p : Fin 3} {s : State} (hk : s.keeper.running = true)
include hk

theorem exec_ptpSyncSend (hm : masterOn s p = true) (hb : t < s.sw.ports[p].busyUntil) :
    let u := numbered (atTime t s)
    exec (.ptpSyncSend t p) s = .next (sendPtp t p ptpSyncType u.time.ptpSeq 0 0 none
      (sendPtp t p ptpAnnounceType u.time.ptpSeq 0 0 (some (announced u)) u)) := by
  have serves : (masterOn (atTime t s) p && (atTime t s).keeper.running) = true := by
    rw [atTime_keeper, hk, Bool.and_true]
    exact hm
  have busy : t < (sendPtp t p ptpAnnounceType (numbered (atTime t s)).time.ptpSeq 0 0 (some (announced (numbered (atTime t s))))
      (numbered (atTime t s))).sw.ports[p].busyUntil := by
    rw [port_sendPtp]
    exact hb
  have waits := sendEvent_of_busy busy ptpSyncType (numbered (atTime t s)).time.ptpSeq 0
  dsimp only
  rw [← waits]
  exact congrArg Host.Outcome.next (if_pos serves)

theorem leads_ptpSyncSend (hm : masterOn s p = true) (hb : t < s.sw.ports[p].busyUntil) : Leads (.ptpSyncSend t p) s fun s' =>
    s'.time.ptpSeq = (s.time.ptpSeq + 1) % 65536 ∧ ∃ a q x y, s'.sw.ports[p].queue = s.sw.ports[p].queue ++ [a, q] ∧
      a.cls = 7 ∧ a.frame.vlan = none ∧ a.frame.body = .ptp x ∧ x.type = 11 ∧ x.announce = some (announced s) ∧
      q.cls = 7 ∧ q.frame.vlan = none ∧ q.frame.body = .ptp y ∧ y.type = 0 ∧ y.sequenceId = s'.time.ptpSeq := by
  refine leads_of_exec (exec_ptpSyncSend hk hm hb) ⟨rfl, ?_⟩
  rw [port_sendPtp, port_sendPtp]
  dsimp only
  rw [List.append_assoc]
  exact ⟨_, _, _, _, rfl, rfl, rfl, rfl, rfl, rfl, rfl, rfl, rfl, rfl, rfl⟩

theorem leads_ptpDelayReqSend (ho : ptpOn s p = true) (hb : t < s.sw.ports[p].busyUntil) (hd : peerDelay s = true ∨ s.time.masterPort = some p) :
    Leads (.ptpDelayReqSend t p) s fun s' => s'.time.ptpSeq = (s.time.ptpSeq + 1) % 65536 ∧
      ∃ q x, s'.sw.ports[p].queue = s.sw.ports[p].queue ++ [q] ∧ q.cls = 7 ∧ q.frame.vlan = none ∧ q.frame.body = .ptp x ∧
        x.type = (if peerDelay s then 2 else 1) ∧ x.sequenceId = s'.time.ptpSeq := by
  have serves : (ptpOn (atTime t s) p && (atTime t s).keeper.running &&
      (peerDelay (atTime t s) || (atTime t s).time.masterPort == some p)) = true := by
    have toward : (peerDelay s || s.time.masterPort == some p) = true := by simpa using hd
    rw [atTime_keeper, hk, show ptpOn (atTime t s) p = true from ho]
    exact toward
  have runs : exec (.ptpDelayReqSend t p) s = .next (sendEvent t p (if peerDelay s then ptpPdelayReqType else ptpDelayReqType)
      (numbered (atTime t s)).time.ptpSeq 0 (numbered (atTime t s))) := congrArg Host.Outcome.next (if_pos serves)
  rw [sendEvent_of_busy (s := numbered (atTime t s)) hb] at runs
  refine leads_of_exec runs ⟨rfl, ?_⟩
  rw [port_sendPtp]
  exact ⟨_, _, rfl, rfl, rfl, rfl, rfl, rfl⟩

theorem leads_txtsQueueService {x : TxStamp} (hx : s.sw.ports[p].txts = [x]) (hw : t < x.waitsFrom + 2000000000) (hm : x.msgType = 0) :
    Leads (.txtsQueueService t p) s fun s' => s'.sw.ports[p].txts = [] ∧ s'.time.tsExpired = s.time.tsExpired ∧
      ∃ q y, s'.sw.ports[p].queue = s.sw.ports[p].queue ++ [q] ∧ q.cls = 7 ∧ q.frame.body = .ptp y ∧ y.type = 8 ∧
        y.sequenceId = x.sequenceId ∧ (relaying s = false → y.stamp = extendAt x.takenAt x.stamp) := by
  have runs : exec (.txtsQueueService t p) s =
      .next (s.sw.ports[p].txts.foldl (fun s x => takeStamp t p x s) (onPort p (fun y => { y with txts := [] }) (atTime t s))) :=
    congrArg Host.Outcome.next (if_pos hk)
  obtain ⟨v, expired, sw, relay, takes⟩ := takeStamp_sync (p := p) (u := onPort p (fun y => { y with txts := [] }) (atTime t s)) hw hm
  rw [hx, List.foldl_cons, List.foldl_nil, takes] at runs
  refine leads_of_exec runs ?_
  rw [port_sendPtp, sw, onPort_same]
  refine ⟨rfl, expired, _, _, rfl, rfl, rfl, rfl, rfl, fun hr => ?_⟩
  rw [followUpOf_of_no_relay (relay.trans hr)]
  rfl

end

/-- Timestamps that have waited for two seconds are discarded, and counted (R222). -/
theorem leads_timestampExpiry (t : Nat) (p : Fin 3) (s : State) : Leads (.timestampExpiry t p) s fun s' =>
    (∀ x, x ∈ s'.sw.ports[p].txts ↔ x ∈ s.sw.ports[p].txts ∧ t < x.waitsFrom + 2000000000) ∧
      s'.time.tsExpired = min (s.time.tsExpired + (s.sw.ports[p].txts.length - s'.sw.ports[p].txts.length)) 0xFFFF := by
  have parts := List.length_eq_length_filter_add (l := s.sw.ports[p].txts) fun x => decide (t < x.waitsFrom + 2000000000)
  have old : (s.sw.ports[p].txts.filter fun x => decide (x.waitsFrom + 2000000000 ≤ t)).length =
      s.sw.ports[p].txts.length - (s.sw.ports[p].txts.filter fun x => decide (t < x.waitsFrom + 2000000000)).length := by
    rw [parts, Nat.add_sub_cancel_left]
    simp only [← decide_not, Nat.not_lt]
  refine leads_of_exec rfl ?_
  rw [onTime_sw, onPort_same]
  exact ⟨fun x => by simp, congrArg (fun n => min (s.time.tsExpired + n) 0xFFFF) old⟩

/-! ### Captures, R236, R237 -/

theorem overrun_field_time (id : Nat) (s : State) : (overrun id s).field = s.field ∧ (overrun id s).time = s.time := by
  unfold overrun
  dsimp only
  split <;> exact ⟨rfl, rfl⟩

/-- A value that replaces one on its way leaves the pads and the time unit. -/
theorem crossValue_field_time (id gap least most : Nat) (s : State) :
    (crossValue id gap least most s).field = s.field ∧ (crossValue id gap least most s).time = s.time := by
  have draws : (stillCrossing gap least most s).2.field = s.field ∧ (stillCrossing gap least most s).2.time = s.time := by
    unfold stillCrossing
    split
    · exact ⟨rfl, rfl⟩
    · split <;> exact ⟨rfl, rfl⟩
  obtain ⟨field, time⟩ := overrun_field_time id (stillCrossing gap least most s).2
  unfold crossValue
  dsimp only
  split
  · exact ⟨field.trans draws.1, time.trans draws.2⟩
  · exact draws

theorem crossCapture_field_time (n : Fin 4) (at_ : Nat) (s : State) :
    (crossCapture n at_ s).field = s.field ∧ (crossCapture n at_ s).time = s.time := by
  unfold crossCapture
  dsimp only
  split
  · exact ⟨rfl, rfl⟩
  · obtain ⟨field, time⟩ := crossValue_field_time (sluiceCaptureKeeper n) (at_ - s.time.captures[n].takenAt) 7 11 s
    exact ⟨(crossValue_field_time ..).1.trans field, (crossValue_field_time ..).2.trans time⟩

/-- The edge as a capture unit that is selected for it takes it. -/
def captured (at_ : Nat) (rising : Bool) (c : Capture) : Capture :=
  { stamp := BitVec.ofNat 32 at_, takenAt := at_, rising := rising, count := c.count + 1 }

/-- The settings select the edge for capture unit `n` (R237). -/
abbrev EdgeSelected (s : State) (n : Fin 4) (rising : Bool) : Prop :=
  cfg s (P.fiCaptureEdge n.val) = 3 ∨ (cfg s (P.fiCaptureEdge n.val) = 1 ∧ rising = true) ∨
    (cfg s (P.fiCaptureEdge n.val) = 2 ∧ rising = false)

theorem leads_fiCaptureEdge (t : Nat) (s : State) (n : Fin 4) (rising : Bool) : Leads (.fiCaptureEdge t n rising) s fun s' =>
    s'.field.fi[n].level = rising ∧
      (cfg s (P.fiCaptureEdge n.val) = 0 → s'.time.captures = s.time.captures) ∧
      (cfg s (P.fiCaptureEdge n.val) = 3 → s'.time.captures[n].count = s.time.captures[n].count + 1 ∧
        s'.time.captures[n].stamp = BitVec.ofNat 32 (t - cfg s (P.fiDelay n.val)) ∧ s'.time.captures[n].rising = rising) := by
  let edge := onFi n (fun f => { f with level := rising, failsafe := false }) (atTime t s)
  let at_ := t - cfg s (P.fiDelay n.val)
  have level : edge.field.fi[n].level = rising := congrArg Fi.level (vmod_getElem_same ..)
  obtain ⟨field, time⟩ := crossCapture_field_time n at_ edge
  have runs : exec (.fiCaptureEdge t n rising) s = .next (if EdgeSelected s n rising then
      onTime (fun u => { u with captures := vmod u.captures n (captured at_ rising) }) (crossCapture n at_ edge) else edge) := rfl
  by_cases selected : EdgeSelected s n rising
  · rw [if_pos selected] at runs
    refine leads_of_exec runs ⟨?_, fun off => by omega, fun _ => ?_⟩
    · rw [onTime_field, field]
      exact level
    · have taken : (vmod (crossCapture n at_ edge).time.captures n (captured at_ rising))[n] = captured at_ rising s.time.captures[n] := by
        rw [time]
        exact vmod_getElem_same ..
      rw [onTime_time, taken]
      exact ⟨rfl, rfl, rfl⟩
  · rw [if_neg selected] at runs
    exact leads_of_exec runs ⟨level, fun _ => rfl, fun both => absurd (.inl both) selected⟩

/-! ### The servo, R222 to R225 -/

/-- The time unit as its servo enters a state that follows a clock above it. -/
def entered (t : Nat) (v : ServoState) (u : TimeUnit) : TimeUnit :=
  { u with servo := v, lockedSince := if v == .locked || v == .grandmaster then some t else none, goodSyncs := 0 }

theorem setServo_time {t : Nat} {v : ServoState} {s : State} (hs : s.time.servo ≠ v) (hv : v ≠ .grandmaster) :
    (setServo t v s).time = entered t v s.time := by
  unfold setServo
  dsimp only
  rw [if_neg hs, if_neg hv]
  rfl

theorem setServo_grandmaster {t : Nat} {s : State} (hs : s.time.servo ≠ .grandmaster) :
    (setServo t .grandmaster s).time.servo = .grandmaster ∧ (setServo t .grandmaster s).time.lockedSince = some t := by
  unfold setServo
  dsimp only
  rw [if_neg hs, if_pos rfl]
  exact ⟨rfl, rfl⟩

/-- A correction of the frequency leaves the rest of the time unit. -/
theorem slew_time (offset : Int) (s : State) : ∃ f b, (slew offset s).time = { s.time with freqPpb := f, slewing := b } := ⟨_, _, rfl⟩

theorem judgeOffset_time (offset : Int) (s : State) : ∃ b, (judgeOffset offset s).time = { s.time with offsetLarge := b } := by
  unfold judgeOffset
  dsimp only
  split
  · exact ⟨_, rfl⟩
  · split
    · exact ⟨_, rfl⟩
    · exact ⟨_, rfl⟩

/-- A measured offset in LOCKED is followed; one of more than 1 µs loses lock (R222, R223). -/
theorem measured_locked {t : Nat} {offset : Int} {s : State} (hs : s.time.servo = .locked) :
    let u := (measured t offset s).time
    u.offset = offset ∧ u.masterToSlave = s.time.masterToSlave ∧ (u.servo = .acquiring ↔ 1000 < offset.natAbs) := by
  obtain ⟨b, judged⟩ := judgeOffset_time offset (onTime (fun u => { u with offset := offset }) s)
  generalize hj : judgeOffset offset (onTime (fun u => { u with offset := offset }) s) = j at judged
  have locked : j.time.servo = .locked := by rw [judged]; exact hs
  have follows : measured t offset s = slew offset (if 1000 < offset.natAbs then setServo t .acquiring j else j) := by
    unfold measured
    dsimp only
    rw [hj, locked]
  obtain ⟨f, c, slewed⟩ := slew_time offset (if 1000 < offset.natAbs then setServo t .acquiring j else j)
  dsimp only
  rw [follows, slewed]
  split
  · next far =>
    rw [setServo_time (by rw [locked]; decide) (by decide), judged]
    exact ⟨rfl, rfl, fun _ => far, fun _ => rfl⟩
  · next near =>
    rw [locked, judged]
    exact ⟨rfl, rfl, fun h => absurd h (by decide), fun far => absurd far near⟩

section
variable {t : Nat} {p : Fin 3} {s : State}

section
variable {m : PtpMsg} (ho : ptpOn s p = true) (hk : s.keeper.running = true)
include ho hk

theorem exec_ptpMessageReceive : exec (.ptpMessageReceive t p (cfg s P.ptpDomain) m) s = .next (handlePtp t p m (atTime t s)) := by
  have heard : (ptpOn (atTime t s) p && (atTime t s).keeper.running && cfg s P.ptpDomain == cfg (atTime t s) P.ptpDomain) = true := by
    rw [atTime_keeper, hk, show ptpOn (atTime t s) p = true from ho, show cfg (atTime t s) P.ptpDomain = cfg s P.ptpDomain from rfl]
    simp
  exact congrArg Host.Outcome.next (if_pos heard)

/-- A Follow_Up of the master's last Sync measures an offset (R222). -/
theorem leads_followUp {id rx origin : Nat} {c : Int} (hp : slaveOn s p = true) (hr : s.time.syncRx = some (id, rx)) (hs : s.time.servo = .locked) :
    Leads (.ptpMessageReceive t p (cfg s P.ptpDomain) (.followUp id origin c)) s fun s' =>
      s'.time.offset = (rx : Int) - origin - c - delayToMaster s p ∧ s'.time.masterToSlave = (rx : Int) - origin - c ∧
        (s'.time.servo = .acquiring ↔ 1000 < ((rx : Int) - origin - c - delayToMaster s p).natAbs) := by
  have takes : handlePtp t p (.followUp id origin c) (atTime t s) = takeSync t p rx origin c (atTime t s) := by
    have last : (atTime t s).time.syncRx = some (id, rx) := hr
    unfold handlePtp
    dsimp only
    rw [last]
    exact if_pos ⟨rfl, hp⟩
  refine leads_of_exec (exec_ptpMessageReceive ho hk) ?_
  rw [takes]
  exact measured_locked hs

/-- The answer to the module's own request gives the mean of both ways (R226). -/
theorem leads_delayResp {id tx received : Nat} {c : Int} (hd : s.time.delayTx[p] = some (id, tx)) :
    Leads (.ptpMessageReceive t p (cfg s P.ptpDomain) (.delayResp id received c)) s fun s' =>
      s'.time.pathDelay = (s.time.masterToSlave + ((received : Int) - tx - c)) / 2 ∧ s'.time.delayTx[p] = none ∧
        s'.time.servo = s.time.servo := by
  have takes : handlePtp t p (.delayResp id received c) (atTime t s) = onTime (fun u =>
      { u with pathDelay := (u.masterToSlave + ((received : Int) - tx - c)) / 2, delayTx := vmod u.delayTx p fun _ => none }) (atTime t s) := by
    have asked : (atTime t s).time.delayTx[p] = some (id, tx) := hd
    unfold handlePtp
    dsimp only
    rw [asked]
    exact if_pos rfl
  refine leads_of_exec (exec_ptpMessageReceive ho hk) ?_
  rw [takes]
  exact ⟨rfl, vmod_getElem_same .., rfl⟩

end

theorem exec_ptpMessageReceive_foreign {domain : Nat} (m : PtpMsg) (hd : domain ≠ cfg s P.ptpDomain) :
    exec (.ptpMessageReceive t p domain m) s = .next (atTime t s) := by
  have foreign : (domain == cfg (atTime t s) P.ptpDomain) = false := beq_eq_false_iff_ne.2 hd
  refine congrArg Host.Outcome.next (if_neg ?_)
  rw [foreign, Bool.and_false]
  decide

/-- Without a Sync for three intervals LOCKED becomes HOLDOVER (R222). -/
theorem leads_syncTimeout (hs : s.time.servo = .locked) (hl : ∀ x, s.time.syncRx = some x → x.2 + 3 * syncInterval s ≤ t) :
    Leads (.syncTimeout t) s fun s' => s'.time.servo = .holdover ∧ s'.time.masterLostAt = some t ∧ s'.time.lockedSince = none := by
  have runs : exec (.syncTimeout t) s = .next (stage 0x0803 srcModule [2] (setServo t .holdover (onTime (fun u =>
      { u with masterLostAt := some t, master := none, selfSelected := mayMaster (atTime t s) }) (atTime t s)))) := by
    refine congrArg Host.Outcome.next (if_pos ?_)
    rw [show (atTime t s).time.servo = .locked from hs, show (atTime t s).time.syncRx = s.time.syncRx from rfl]
    cases hx : s.time.syncRx with
    | none => rfl
    | some x => exact decide_eq_true (hl x hx)
  refine leads_of_exec runs ?_
  rw [stage, onRecd_time, setServo_time (by rw [onTime_time]; exact fun h => nomatch hs.symm.trans h) (by decide)]
  exact ⟨rfl, rfl, rfl⟩

section
variable {x : Nat} (hx : s.time.masterLostAt = some x)
include hx

/-- Sixty seconds later the module is grandmaster, where it is selected (R222). -/
theorem leads_holdoverGmTimeout (hs : s.time.servo = .holdover) (ht : x + 60000000000 ≤ t) (hm : s.time.selfSelected = true) :
    Leads (.holdoverGmTimeout t) s fun s' => s'.time.servo = .grandmaster ∧ s'.time.lockedSince = some t := by
  have lost : (atTime t s).time.masterLostAt = some x := hx
  have runs : execHoldoverGmTimeout t s = .next (setServo t .grandmaster (atTime t s)) := by
    unfold execHoldoverGmTimeout
    dsimp only
    rw [lost]
    exact congrArg Host.Outcome.next (if_pos ⟨hs, ht, hm⟩)
  exact leads_of_exec runs (setServo_grandmaster fun h => nomatch hs.symm.trans h)

theorem exec_holdoverGmTimeout_unselected (hm : s.time.selfSelected = false) : exec (.holdoverGmTimeout t) s = .next (atTime t s) := by
  have lost : (atTime t s).time.masterLostAt = some x := hx
  show execHoldoverGmTimeout t s = _
  unfold execHoldoverGmTimeout
  dsimp only
  rw [lost]
  exact congrArg Host.Outcome.next (if_neg fun h => Bool.eq_false_iff.1 hm h.2.2)

end

/-! ### The pulse per second, R225 -/

theorem nowOf_of_count_era {s u : State} (hc : u.time.count = s.time.count) (he : u.time.era = s.time.era) : nowOf u = nowOf s := by
  rw [nowOf, nowOf, hc, he]

theorem nowOf_atTime {t : Nat} (ht : t < 2 ^ 64) (s : State) : nowOf (atTime t s) = t := by
  have seconds : nowOf (atTime t s) = t / 2 ^ 32 % 2 ^ 32 * 2 ^ 32 + t % 2 ^ 32 := by
    rw [nowOf, atTime, onTime_time, BitVec.toNat_ofNat, BitVec.toNat_ofNat]
  omega

/-- The time that is written is the module's time, and a step that was committed is done. -/
theorem writeTime_reads {x : Nat} (hx : x < 2 ^ 64) (s : State) : nowOf (writeTime x s) = x ∧ (writeTime x s).time.eraSet = true ∧
    (writeTime x s).time.pendingTai = s.time.pendingTai ∧ (writeTime x s).time.ppsLost = s.time.ppsLost :=
  ⟨nowOf_atTime hx _, rfl, rfl, rfl⟩

/-- A committed second steps the time where no task of the pair runs; while one runs nothing steps (R225, log 88). -/
theorem applySecond_reads {sec : Nat} (hsec : sec * 1000000000 < 2 ^ 64) (s : State) : let u := applySecond sec s
    u.time.ppsLost = s.time.ppsLost ∧
      (pairRuns s = false → nowOf u = sec * 1000000000 ∧ u.time.eraSet = true ∧ u.time.pendingTai = none) ∧
      (pairRuns s = true → nowOf u = nowOf s) := by
  obtain ⟨now, set, done, lost⟩ := writeTime_reads hsec (onTime (fun u => { u with pendingTai := none }) s)
  unfold applySecond
  dsimp only
  split
  · next idle => exact ⟨lost, fun _ => ⟨now, set, done⟩, fun runs => nomatch idle.symm.trans runs⟩
  · next busy =>
    split
    · exact ⟨rfl, fun idle => absurd idle busy, fun _ => nowOf_of_count_era rfl rfl⟩
    · exact ⟨rfl, fun idle => absurd idle busy, fun _ => nowOf_of_count_era rfl rfl⟩

/-- The module as it has noted a pulse. -/
def pulsed (t : Nat) (s : State) : State := onTime (fun u => { u with lastPps := some t, ppsLost := false }) (atTime t s)

/-- What a pulse comes to in GRANDMASTER: a committed second, or a correction by the pulse's phase. -/
def disciplined (t : Nat) (s : State) : State :=
  let phase : Int := (((t + 500000000) % 1000000000 : Nat) : Int) - 500000000
  s.time.pendingTai.elim (slew phase (onTime (fun u => { u with offset := phase }) s)) fun sec => applySecond sec s

theorem disciplined_of_second {t sec : Nat} {u : State} (h : u.time.pendingTai = some sec) : disciplined t u = applySecond sec u := by
  rw [disciplined, h]
  rfl

theorem disciplined_of_none {t : Nat} {u : State} (h : u.time.pendingTai = none) : ∃ phase,
    disciplined t u = slew phase (onTime (fun u => { u with offset := phase }) u) := by
  rw [disciplined, h]
  exact ⟨_, rfl⟩

section
variable (hg : s.time.servo = .grandmaster) (hi : cfgFlag s P.ppsInput = true)
include hg hi

theorem exec_ppsEdge : exec (.ppsEdge t) s = .next (disciplined t (pulsed t s)) := by
  have reads : ¬ cfgFlag (atTime t s) P.ppsInput = false := by
    rw [show cfgFlag (atTime t s) P.ppsInput = true from hi]
    decide
  have master : ¬ (pulsed t s).time.servo ≠ .grandmaster := not_not_intro hg
  show execPpsEdge t s = _
  unfold execPpsEdge
  dsimp only
  rw [if_neg reads, ← pulsed, if_neg master, disciplined]
  cases (pulsed t s).time.pendingTai <;> rfl

theorem leads_ppsEdge_free (hp : s.time.pendingTai = none) : Leads (.ppsEdge t) s fun s' =>
    s'.time.lastPps = some t ∧ s'.time.ppsLost = false ∧ nowOf s' = nowOf (atTime t s) := by
  have runs := exec_ppsEdge (t := t) hg hi
  obtain ⟨phase, follows⟩ := disciplined_of_none (t := t) (u := pulsed t s) hp
  rw [follows] at runs
  exact leads_of_exec runs ⟨rfl, rfl, nowOf_of_count_era rfl rfl⟩

theorem leads_ppsEdge_second {sec : Nat} (hp : s.time.pendingTai = some sec) (hsec : sec * 1000000000 < 2 ^ 64) : Leads (.ppsEdge t) s fun s' =>
    s'.time.ppsLost = false ∧
      (pairRuns s = false → nowOf s' = sec * 1000000000 ∧ s'.time.eraSet = true ∧ s'.time.pendingTai = none) ∧
      (pairRuns s = true → nowOf s' = nowOf (atTime t s)) := by
  have runs := exec_ppsEdge (t := t) hg hi
  rw [disciplined_of_second (u := pulsed t s) hp] at runs
  obtain ⟨lost, steps, waits⟩ := applySecond_reads hsec (pulsed t s)
  exact leads_of_exec runs ⟨lost, steps, fun busy => (waits busy).trans (nowOf_of_count_era rfl rfl)⟩

end

theorem leads_ppsLostTimeout (hi : cfgFlag s P.ppsInput = true) (hl : ∀ x, s.time.lastPps = some x → x + 1500000000 ≤ t) :
    Leads (.ppsLostTimeout t) s fun s' => s'.time.ppsLost = true ∧ s'.time.servo = s.time.servo := by
  have late : overdue s.time.lastPps 1500000000 t = true := by
    cases hx : s.time.lastPps with
    | none => rfl
    | some x => exact decide_eq_true (hl x hx)
  have runs : exec (.ppsLostTimeout t) s = .next (if cfgFlag s P.ppsInput && overdue s.time.lastPps 1500000000 t && !s.time.ppsLost then
      onTime (fun u => { u with ppsLost := true }) (atTime t s) else atTime t s) := rfl
  rw [hi, late] at runs
  cases lost : s.time.ppsLost with
  | false =>
    rw [lost] at runs
    exact leads_of_exec runs ⟨rfl, rfl⟩
  | true =>
    rw [lost] at runs
    exact leads_of_exec runs ⟨lost, rfl⟩

/-- Without a pulse input the committed second applies at the next whole second (R225). -/
theorem leads_taiSecondApply {sec : Nat} (hp : s.time.pendingTai = some sec) (hi : cfgFlag s P.ppsInput = false) (hw : t % 1000000000 = 0)
    (hsec : sec * 1000000000 < 2 ^ 64) (hg : s.time.servo = .grandmaster) (idle : pairRuns s = false) :
    Leads (.taiSecondApply t) s fun s' => nowOf s' = sec * 1000000000 ∧ s'.time.pendingTai = none := by
  have pending : (atTime t s).time.pendingTai = some sec := hp
  have runs : execTaiSecondApply t s = .next (applySecond sec (atTime t s)) := by
    unfold execTaiSecondApply
    dsimp only
    rw [pending]
    exact congrArg Host.Outcome.next (if_pos ⟨hi, hw, hg⟩)
  obtain ⟨-, steps, -⟩ := applySecond_reads hsec (atTime t s)
  obtain ⟨now, -, done⟩ := steps idle
  exact leads_of_exec runs ⟨now, done⟩

end

/-- Settles O32, event by event. -/
theorem timeAndServo : Obligations.TimeAndServo := by
  unfold Obligations.TimeAndServo
  refine ⟨fun t p s => ⟨⟨_, rfl, rfl⟩, leads_ptpSyncSend, leads_ptpDelayReqSend, fun x hk hx hw hm => leads_txtsQueueService hk hx hw hm,
      leads_timestampExpiry t p s, leads_fiCaptureEdge t s⟩, fun t p s => ⟨?_, ?_, ?_, leads_syncTimeout, ?_, ?_, leads_ppsLostTimeout,
        fun sec => leads_taiSecondApply⟩⟩
  · exact fun id rx origin c ho hk => leads_followUp ho hk
  · exact fun id tx received c ho hk => leads_delayResp ho hk
  · exact fun domain m => exec_ptpMessageReceive_foreign m
  · exact fun x hx hs ht => ⟨leads_holdoverGmTimeout hx hs ht, exec_holdoverGmTimeout_unselected hx⟩
  · exact fun hg hi => ⟨leads_ppsEdge_free hg hi, fun sec => leads_ppsEdge_second hg hi⟩

end Sys2Proof.Machine
end
